-- ==== Sys2Proof/Word.lean ====
section
/-!
DEFINITION. The word types of the TW60 model.
-/
namespace Sys2Proof

/-- A byte. -/
abbrev Byte := BitVec 8

/-- A byte string, in address order. -/
abbrev Bytes := List (BitVec 8)

/-- A 64-bit scalar register or memory word. -/
abbrev W64 := BitVec 64

/-- A descriptor (R111, R112): 256 bits. -/
abbrev Desc := BitVec 256

/-- A sparse table keyed by a number: sorted by key, one entry a key. -/
abbrev Tab (α : Type) := List (Nat × α)

end Sys2Proof
end

