-- ==== Sys2Proof/Syntax.lean ====
section
/-!
DEFINITION. The commands of the TW60 as a block: one constructor per row of spec/opcode_table.json,
with the operands the spec gives the step. Operands that the spec leaves to the physical world
(a measured voltage, the outcome of a self-test) are carried by the command.
-/
namespace Sys2Proof

/-- Who makes a dictionary access or causes a logged change (R441). -/
inductive Origin where
  | can | cxl | usb | panel | hostCmd | cable | darning | defectList | fwAct | updEngine | module | castOn
deriving DecidableEq, Repr, Inhabited

/-- The units of a cell that hold a queue (R59), coded as W0UNIT of R112. -/
inductive UnitId where
  | mat | vec | mov | syn | chk
deriving DecidableEq, Repr, Inhabited

/-- An entry of the defect list (R327); START is added when the entry is made. -/
structure Defect where
  kind   : Nat
  source : Nat := 8
  region : Nat := 0xFFFF
  ccol   : Nat := 0xFF
  crow   : Nat := 0xFF
  detail : Nat := 0
  start  : Nat := 0
deriving DecidableEq, Repr, Inhabited

/-- One mesh, seam or ring link direction: the sending logical cell and direction 0 to 3 of R119, the
ring port 4, or a ring link (ring 0 = A, 1 = B, and its segment, R146). -/
inductive LinkId where
  | mesh (x y dir : Nat)
  | ring (ringB : Bool) (segment : Nat)
deriving DecidableEq, Repr, Inhabited

/-- A unit that a failed check names (R182): a logical cell, a region, a block, a link, a slice, an update
engine, a Naela port or another module of the system (R403). -/
inductive Suspect where
  | cell (x y : Nat)
  | region (r : Nat)
  | block (b : Nat)
  | link (l : LinkId)
  | slice (s : Nat)
  | engine (s : Nat)
  | port (p : Nat)
  | module (m : Nat)
deriving DecidableEq, Repr, Inhabited

/-- What a cast-on step reports when it ends (R321, R326, R330). -/
structure StepReport where
  durUs   : Nat                     -- duration, µs
  failed  : Bool := false           -- RESULT 3
  blamed  : Option Defect := none   -- the unit blamed (UKIND, UREGION, UDETAIL)
  defects : List Defect := []       -- entries the step appends
  straps  : Nat := 1                -- NODE_ID straps, read by step 3 (R414)
  setTime : Nat := 0                -- device time set by step 11, ns (R275)
deriving DecidableEq, Repr, Inhabited

/-- A check failure as its alarm names it (R182): the cause code, the suspects beyond the raising unit, and
where it stands. -/
structure Alarm where
  cause    : Nat
  x        : Nat := 0
  y        : Nat := 0
  ply      : Nat := 0
  suspects : List Suspect := []
  addr     : Nat := 0               -- ECC_HBM: the line's device address (R212)
  operands : Option Bytes := none   -- the operands the check names (R361), when they could be read
deriving DecidableEq, Repr, Inhabited

/-- The outcomes of a localisation recompute (R214). -/
inductive LocOutcome where
  | column (ply col : Nat)
  | row (ply k : Nat) (swatchFoundRow : Bool)
  | entry
  | clear
  | inconclusive
deriving DecidableEq, Repr, Inhabited

/-- One localisation: the suspect logical cell and what its recompute showed. -/
structure Localisation where
  x : Nat
  y : Nat
  outcome : LocOutcome
deriving DecidableEq, Repr, Inhabited

/-- What a storage read's code shows (R81, R193). -/
inductive EccOutcome where
  | clean
  | corrected (sameBitAgain : Bool)
  | uncorrectable
deriving DecidableEq, Repr, Inhabited

/-- Who makes an HBM write inside a row (R105, R245): a logical cell or the update engine of a slice. -/
inductive HbmWriter where
  | cell (x y : Nat)
  | engine (s : Nat)
deriving DecidableEq, Repr, Inhabited

/-- A verdict message (R200, Table: Verdict message payload). -/
structure VerdictMsg where
  groupId : Nat
  row     : Nat
  attempt : Nat
  cause   : Nat := 0
  origin  : Nat := 0
  count   : Nat := 1
  time    : Nat := 0
deriving DecidableEq, Repr, Inhabited

/-- The commands, in the order of spec/opcode_table.json. -/
inductive Instr where
  -- power and start
  | hsEnAssert (vinMv : Int)
  | frontEndOn
  | hsEnDeassert
  | seatSenseOpen
  | inputMeasurement (vinMv : Int) (iA iB : Nat)
  | bladePairFault (pairB : Bool) (otherDeciA : Nat)
  | busSag
  | busSagRecover
  | castOnStep (r : StepReport)
  | castOnStepHang (blamed : Option Defect)
  | journalWatchdog
  -- rows
  | rowMark
  | runStart
  | rowClose (locs : List Localisation)
  | rowUndoDone
  | rowHang
  -- checks
  | checkAlarm (a : Alarm)
  | cellHeartbeat (x y : Nat)
  | cellLost (x y : Nat)
  | regionHeartbeatLost (r : Nat)
  | syncNetDisagree (region : Option Nat)
  | controllerSwitch
  -- sequencer and units
  | sequencerIssue (x y : Nat)
  | descriptorStart (x y : Nat) (u : UnitId)
  | descriptorComplete (x y : Nat) (u : UnitId) (n : Nat)
  -- MAT
  | matWload (x y : Nat) (d : Desc)
  | matStream (x y : Nat) (d : Desc)
  | matDrain (x y : Nat) (d : Desc)
  | matGauge (x y : Nat) (d : Desc)
  | matGcombine (x y : Nat) (d : Desc)
  -- VEC
  | vecAdd (x y : Nat) (d : Desc)
  | vecSub (x y : Nat) (d : Desc)
  | vecMul (x y : Nat) (d : Desc)
  | vecFma (x y : Nat) (d : Desc)
  | vecDiv (x y : Nat) (d : Desc)
  | vecSqrt (x y : Nat) (d : Desc)
  | vecMin (x y : Nat) (d : Desc)
  | vecMax (x y : Nat) (d : Desc)
  | vecCmp (x y : Nat) (d : Desc)
  | vecSelect (x y : Nat) (d : Desc)
  | vecAnd (x y : Nat) (d : Desc)
  | vecOr (x y : Nat) (d : Desc)
  | vecXor (x y : Nat) (d : Desc)
  | vecConvert (x y : Nat) (d : Desc)
  | vecSum (x y : Nat) (d : Desc)
  | vecRmax (x y : Nat) (d : Desc)
  | vecRmin (x y : Nat) (d : Desc)
  | vecArgmax (x y : Nat) (d : Desc)
  | vecArgmin (x y : Nat) (d : Desc)
  | vecExp (x y : Nat) (d : Desc)
  | vecLog (x y : Nat) (d : Desc)
  | vecRecip (x y : Nat) (d : Desc)
  | vecRsqrt (x y : Nat) (d : Desc)
  | vecTanh (x y : Nat) (d : Desc)
  | vecSigmoid (x y : Nat) (d : Desc)
  | vecErf (x y : Nat) (d : Desc)
  | vecPhilox (x y : Nat) (d : Desc)
  | vecSort (x y : Nat) (d : Desc)
  | vecTopk (x y : Nat) (d : Desc)
  -- MOV
  | movCopy (x y : Nat) (d : Desc)
  | movPermute (x y : Nat) (d : Desc)
  | movGather (x y : Nat) (d : Desc)
  | movScatter (x y : Nat) (d : Desc)
  | movScatterAdd (x y : Nat) (d : Desc)
  | movReshard (x y : Nat) (d : Desc)
  -- SYN
  | synSend (x y : Nat) (d : Desc)
  | synRecv (x y : Nat) (d : Desc)
  | synRecvadd (x y : Nat) (d : Desc)
  | synBarrier (x y : Nat) (d : Desc)
  | barrierRelease (chan gen : Nat)
  | synWaitmark (x y : Nat) (d : Desc)
  -- CHK, UPD, HNT, SMP
  | chkInsert (x y : Nat) (d : Desc)
  | chkVerify (x y : Nat) (d : Desc)
  | updJob (x y : Nat) (d : Desc)
  | hntHeavy (x y : Nat) (d : Desc)
  | smpSample (x y : Nat) (d : Desc)
  -- CTL
  | ctlNop (x y : Nat) (d : Desc)
  | ctlEnd (x y : Nat) (d : Desc)
  | ctlLi (x y : Nat) (d : Desc)
  | ctlAdd (x y : Nat) (d : Desc)
  | ctlSub (x y : Nat) (d : Desc)
  | ctlMul (x y : Nat) (d : Desc)
  | ctlAnd (x y : Nat) (d : Desc)
  | ctlOr (x y : Nat) (d : Desc)
  | ctlXor (x y : Nat) (d : Desc)
  | ctlShl (x y : Nat) (d : Desc)
  | ctlShr (x y : Nat) (d : Desc)
  | ctlSra (x y : Nat) (d : Desc)
  | ctlAddi (x y : Nat) (d : Desc)
  | ctlMin (x y : Nat) (d : Desc)
  | ctlMax (x y : Nat) (d : Desc)
  | ctlCmp (x y : Nat) (d : Desc)
  | ctlCmpi (x y : Nat) (d : Desc)
  | ctlBr (x y : Nat) (d : Desc)
  | ctlJmp (x y : Nat) (d : Desc)
  | ctlLoop (x y : Nat) (d : Desc)
  | ctlCall (x y : Nat) (d : Desc)
  | ctlRet (x y : Nat) (d : Desc)
  | ctlLd (x y : Nat) (d : Desc)
  | ctlSt (x y : Nat) (d : Desc)
  -- HBM and update engines
  | hbmWrite (w : HbmWriter) (addr : Nat) (data : Bytes)
  | updJobStart (slice : Nat)
  | updJobDone (slice : Nat)
  -- loose traffic
  | looseRead (rx ry addr lines : Nat)
  | looseWrite (rx ry addr : Nat) (data : Bytes)
  | looseResponse (rx ry : Nat)
  | mergeEntryExpire (x y line : Nat)
  | mergeHoldExpire (x y line : Nat)
  | flitReceive (l : LinkId) (crcOk : Bool) (failedWires : List Nat)
  | scratchpadScrub (px py offset : Nat) (o : EccOutcome)
  | hbmPatrolScrub (addr : Nat) (o : EccOutcome)
  -- darning
  | cellDarning (durUs : Nat)
  | regionDarning (swatchOk : Bool) (durUs : Nat)
  | darningComplete
  | darningRestart (lost : Defect)
  | hbmStackFail (stack retrainedDeciGb : Nat)
  | wasteYarnSwatch (u : Defect) (passed : Bool)
  | suspectSwatch (region : Nat) (passed : Bool)
  -- verdicts
  | verdictEarlyFail (m : VerdictMsg)
  | verdictSubtree (m : VerdictMsg) (clean : Bool)
  | verdictGroup (m : VerdictMsg) (clean : Bool)
  | verdictUndone (m : VerdictMsg)
  | verdictReplay (m : VerdictMsg)
  -- blocks
  | droopDetect (b mv : Nat)
  | droopEnd (b : Nat)
  | shuntClamp (b mv : Nat)
  | replicaPathWarning (b path : Nat)
  | slowLoopStep (b : Nat) (warning : Bool)
  | guardBandExpire (b : Nat)
  | regulatorPhaseLoss (b phase : Nat)
  | converterPhaseFail (conv phase : Nat)
  -- regions
  | regionRailSample (r deciA mv : Nat)
  | regionShort (r : Nat)
  | efuseOpen (r : Nat)
  | capShareUpdate (pin pavg regions : Nat)
  | capLoopUpdate (r watts : Nat)
  | bubbleLoopUpdate (r watts : Nat)
  | capUnattainable
  | slopeCeilingUpdate (r riseDeciA used64 : Nat)
  | floorTargetUpdate (r measuredDeciA shareDeciA preRampDeciA : Nat)
  | rampGovernorStep (r : Nat) (neighbourHot : Bool)
  | lookaheadRaise (b planned64 : Nat)
  | preRamp
  | junctionSensorRead (b t0 t1 t2 t3 : Nat)
  | sensorFailed (b k : Nat)
  | hbmTempRead (hottestDeciC : Nat)
  | coolantReading (flowDeciL : Nat) (inletDeciC outletDeciC : Int) (sensorOk : Bool)
  | safeEntry (cause : Nat)
  -- clocks and time
  | referenceLoss
  | blockPllLoss (b : Nat)
  | referenceInputSwitch (r newInput : Nat)
  | timeBeacon (r : Nat) (errPs : Int)
  | ppsEdge
  | ref10mValid
  | timeSourceInvalid
  | timeExchange (port : Nat) (t1 t2 t3 t4 : Nat)
  | timeMasterLoss
  -- Naela
  | naelaFrame (p : Nat) (frame : Bytes)
  | retryRequest (p fseq : Nat)
  | frameRetryTimeout (p : Nat)
  | data (p : Nat) (msg : Bytes)
  | collective (p : Nat) (msg : Bytes)
  | ack (p : Nat) (msg : Bytes)
  | messageResendTimeout (dst msgId : Nat)
  | barrier (p : Nat) (msg : Bytes)
  | time (p : Nat) (msg : Bytes)
  | power (p : Nat) (msg : Bytes)
  | negotiate (p : Nat) (msg : Bytes)
  | route (p : Nat) (msg : Bytes)
  | portPresence (p : Nat) (supported : Bool)
  | portTrained (p : Nat) (ok : Bool) (lanes : Nat)
  | linkTestDone (p : Nat) (passed : Bool)
  | laneFailure (p lane : Nat)
  | lossOfSignal (p : Nat) (groups : Nat)
  | presenceDeassert (p : Nat)
  | quiesceDrained (p : Nat)
  -- host queues
  | sqtailDoorbell (q v : Nat)
  | cqheadDoorbell (q v : Nat)
  | queueEnable (q : Nat)
  | queueDisable (q : Nat)
  | commandFetch
  | msixCoalesceTimeout (q : Nat)
  -- host commands: queue and the 128 bytes of the command
  | loadPattern (q : Nat) (c : Bytes)
  | patternUnload (q : Nat) (c : Bytes)
  | runPattern (q : Nat) (c : Bytes)
  | reshard (q : Nat) (c : Bytes)
  | copy (q : Nat) (c : Bytes)
  | openSession (q : Nat) (c : Bytes)
  | advance (q : Nat) (c : Bytes)
  | advanceAdmission (q : Nat)
  | closeSession (q : Nat) (c : Bytes)
  | hint (q : Nat) (c : Bytes)
  | fence (q : Nat) (c : Bytes)
  | readReceipt (q : Nat) (c : Bytes)
  | readSignatures (q : Nat) (c : Bytes)
  -- host memory and link
  | hostMemRead (addr len : Nat)
  | hostMemWrite (addr : Nat) (data : Bytes)
  | birsp (addr : Nat)
  | perstAssert
  | cxlLinkTrain (connA connB : Bool) (rate : Nat) (flit256 : Bool)
  -- dictionary
  | bar2Read (idx sub off len : Nat)
  | bar2Write (idx sub off len : Nat) (data : Bytes)
  | usdoTransfer (isWrite : Bool) (idx sub : Nat) (data : Bytes)
  | objectWrite (o : Origin) (idx sub : Nat) (data : Bytes)
  | nmtStop (preOperational : Bool)
  | nmtReset (node : Bool)
  | canHeartbeat
  | statusFrame
  | run (o : Origin)
  | hold (o : Origin)
  | bindReady (o : Origin)
  | bindRemove (o : Origin)
  | restart (o : Origin)
  | serviceToken (o : Origin) (rec : Bytes)
  | tokenLapse (o : Origin)
  | close (o : Origin)
  | remove (o : Origin) (entry : Nat)
  | suspectListWrite (o : Origin) (data : Bytes)
  | ppssetWrite (o : Origin) (v : Nat)
  | quiesce (o : Origin) (p v : Nat)
  | logStreamRead (o : Origin) (maxBytes : Nat)
  | signatureStreamRead (o : Origin) (maxBytes : Nat)
  | changeLogFlush
  -- firmware and keys
  | verify (o : Origin)
  | activate (o : Origin)
  | rollback (o : Origin)
  | commit (o : Origin)
  | imageWrite (o : Origin) (off : Nat) (data : Bytes)
  | keySlotProgram (o : Origin) (rec : Bytes)
  | keySlotRevoke (o : Origin) (rec : Bytes)
  | sysflWrite (o : Origin) (v : Nat)
  -- SPDM and debug
  | getVersion (version : Nat)
  | getCapabilities (version : Nat)
  | negotiateAlgorithms (version asymOffered hashOffered : Nat)
  | getDigests (version : Nat)
  | getCertificate (version slot offset length : Nat)
  | challenge (version slot : Nat) (nonce : Bytes)
  | getMeasurements (version slot op : Nat) (signed : Bool) (nonce : Bytes)
  | tapInstruction (code : Nat)
  -- panel and console
  | releasePress (heldMs : Nat)
  | cagePadTouch (p heldMs : Nat)
  | attentionTouch
  | displayPageTimeout
  | displayMessageTimeout
  | consoleRead (idx sub : Nat)
  | consoleReadDomain (idx sub off len : Nat)
  | consoleWrite (idx sub v : Nat)
  | consoleWriteDomain (idx sub off : Nat) (data : Bytes)
  | consoleRemove
  | consoleLog
  | consoleHelp
  -- completions of work in progress, queue registers
  | outputDigestComplete
  | pageZeroingDone (handle : Nat)
  | queueRegisterWrite (q off v : Nat)
deriving DecidableEq, Repr, Inhabited

end Sys2Proof
end

