-- ==== Sys2Proof/Config.lean ====
section
/-!
DEFINITION. What an implementation fixes and the free values: constants with no body, so that nothing can be proved of
their values.
-/
namespace Sys2Proof

/-- The free values (log entry 1): the value of the n-th draw. -/
opaque Config.freeValue : Nat → Nat

/-- The module's serial number, 16 bytes (R424: `0x2000:02`), fixed at manufacture. -/
opaque Config.serialNumber : Bytes

/-- The part number text (`0x2000:03`). -/
opaque Config.partNumber : Bytes

/-- Die step and board issue (`0x1009`). -/
opaque Config.hwVersion : Bytes

/-- Plisyn's vendor ID (`0x1018:01`). -/
opaque Config.vendorId : Nat

/-- The hash that the manufacturer burned into root-key slot 0 (R448). -/
opaque Config.rootKeyHash : Bytes

/-- FWDIGEST of the factory image (R452). -/
opaque Config.factoryDigest : Bytes

/-- Bytes 4 to 19 of the factory image's manifest (`0x2802:01`). -/
opaque Config.factoryManifest : Bytes

/-- SHA-512 of the boot ROM (R457). -/
opaque Config.romDigest : Bytes

/-- Certificate n of the chain of R455, root first. -/
opaque Config.certificate : Nat → Bytes

/-- The n-th draw of 64 random bytes (CHALLENGE, R458). -/
opaque Config.random : Nat → Bytes

/-- The attestation key's RSASSA-PSS signature of a message (R218, R454): 512 bytes. -/
opaque Config.attest : Bytes → Bytes

/-- The data that IDCODE and the read-only scan instructions of the test access port shift out (R460). -/
opaque Config.tapData : Nat → Bytes

/-- The full-issue current per cell of a block, recorded at test, 0.1 A (R308). -/
opaque Config.ifull : Nat → Nat

/-- The low digest of a serial number that `0x2100:0B` and TIME messages carry (R281, R407). -/
opaque Config.serialHash : Bytes → Nat

/-- Is a module a member of a commit group, or of a feed group, of more than one module? The spec names no object that
lists the members (log entry 18). -/
opaque Config.groupMember : Nat → Nat → Bool
opaque Config.feedMember : Nat → Nat → Bool

/-- Has the module with this serial hash ROLE MASTER? An announcement does not say so (R276, R407; log entry 102). -/
opaque Config.masterRole : Nat → Bool

/-- The 50 characters of lines 2 and 3 of a display page from the values it shows (R478): the spec gives the content of a page, not
its layout. -/
opaque Config.pageText : Nat → List Nat → Bytes

/-- The mnemonic of a MECHANISM that Table: Check causes does not list (R479). -/
opaque Config.causeText : Nat → Bytes

/-- The signature of an SPDM response with the attestation key, by draw and response (log entry 46). -/
opaque Config.spdmSignature : Nat → Bytes → Bytes

/-- The value of a named operation at operands for which the spec states no result. -/
opaque Config.openResult : String → List Nat → Nat

end Sys2Proof
end

