-- ==== Sys2Proof/Machine/Tables.lean ====
section
/-!
DEFINITION. Sparse tables (`Tab`) and byte memories: sorted lists of key and value pairs, with read and write.
-/
namespace Sys2Proof

/-- The value at key `k`, if the table lists one. -/
def Tab.get? {α : Type} : Tab α → Nat → Option α
  | [], _ => none
  | (k', v) :: r, k => if k' = k then some v else Tab.get? r k

/-- The value at key `k`, or the default. -/
def Tab.getD {α : Type} (t : Tab α) (k : Nat) (d : α) : α := (Tab.get? t k).getD d

/-- The table with `v` at key `k`: the key's place in rising order, one entry a key. -/
def Tab.set {α : Type} : Tab α → Nat → α → Tab α
  | [], k, v => [(k, v)]
  | (k', v') :: r, k, v =>
    if k < k' then (k, v) :: (k', v') :: r
    else if k' = k then (k, v) :: r
    else (k', v') :: Tab.set r k v

/-- The table with nothing at key `k`. -/
def Tab.erase {α : Type} (t : Tab α) (k : Nat) : Tab α := t.filter (fun e => e.1 != k)

/-- The keys a table lists, in order. -/
def Tab.keys {α : Type} (t : Tab α) : List Nat := t.map (·.1)

/-- A byte memory: only bytes that differ from 0 are listed (an unlisted byte reads 0). -/
abbrev Mem := Tab (BitVec 8)

/-- The byte at address `a`. -/
def Mem.read (m : Mem) (a : Nat) : Byte := Tab.getD m a 0

/-- `n` bytes from address `a`, in address order. -/
def Mem.readBytes (m : Mem) (a n : Nat) : Bytes := (List.range n).map (fun i => m.read (a + i))

/-- Bytes `bs` as cells from address `a` on. -/
def cellsAt : Nat → Bytes → List (Nat × Byte)
  | _, [] => []
  | a, b :: bs => (a, b) :: cellsAt (a + 1) bs

/-- The memory with the bytes `bs` from address `a` on: what stands below, the bytes that are not 0, what stands above. -/
def Mem.writeBytes (m : Mem) (a : Nat) (bs : Bytes) : Mem :=
  m.filter (fun e => decide (e.1 < a)) ++ (cellsAt a bs).filter (fun e => e.2 != 0)
    ++ m.filter (fun e => decide (a + bs.length ≤ e.1))

/-- The canonical form of a memory: addresses strictly rising, and no entry 0. -/
def Mem.wf : Mem → Bool
  | [] => true
  | [(_, b)] => b != 0
  | (a, b) :: (a', b') :: r => b != 0 && decide (a < a') && Mem.wf ((a', b') :: r)

end Sys2Proof
end

