-- ==== Sys2Proof/Machine/Bytes.lean ====
section
/-!
DEFINITION. Fields of words and byte strings, byte order (every path carries values little-endian, R421), and the
check codes the spec names: CRC-16 of descriptors (R111), CRC-32 of Naela frames (R393) and CRC-64 of messages (R396).
-/
namespace Sys2Proof

/-- Bits [hi:lo] of `w`. -/
def bits (w hi lo : Nat) : Nat := (w >>> lo) % 2 ^ (hi + 1 - lo)

/-- Bit `i` of `w`. -/
def bit (w i : Nat) : Bool := (w >>> i) % 2 == 1

/-- Field [hi:lo] of a descriptor (R112). -/
def fld (d : Desc) (hi lo : Nat) : Nat := bits d.toNat hi lo

/-- Field [hi:lo] of a descriptor as a two's-complement number. -/
def sfld (d : Desc) (hi lo : Nat) : Int :=
  let n := hi + 1 - lo
  let v := fld d hi lo
  if v < 2 ^ (n - 1) then (v : Int) else (v : Int) - 2 ^ n

/-- `v` as a two's-complement number of `n` bits. -/
def toSigned (n v : Nat) : Int := if v % 2 ^ n < 2 ^ (n - 1) then ((v % 2 ^ n : Nat) : Int) else ((v % 2 ^ n : Nat) : Int) - 2 ^ n

/-- `v` modulo `2^n`, as the unsigned word that holds it in two's complement. -/
def ofSigned (n : Nat) (v : Int) : Nat := (v % (2 ^ n : Int)).toNat

/-- `n` bytes of `v`, little-endian. -/
def le : Nat → Nat → Bytes
  | 0, _ => []
  | n + 1, v => BitVec.ofNat 8 v :: le n (v / 256)

/-- The number that bytes spell little-endian. -/
def ofLe : Bytes → Nat
  | [] => 0
  | b :: bs => b.toNat + 256 * ofLe bs

/-- The number that bytes spell big-endian. -/
def ofBe (bs : Bytes) : Nat := bs.foldl (fun a b => a * 256 + b.toNat) 0

/-- `n` bytes of `v`, big-endian. -/
def be (n v : Nat) : Bytes := (le n v).reverse

/-- Bytes `off` to `off + n - 1` of a string. -/
def slice (bs : Bytes) (off n : Nat) : Bytes := (bs.drop off).take n

/-- The little-endian field of `n` bytes at `off`. -/
def uAt (bs : Bytes) (off n : Nat) : Nat := ofLe (slice bs off n)

/-- `n` zero bytes. -/
def zeros (n : Nat) : Bytes := List.replicate n 0

/-- The bytes padded with zeros, or cut, to `n`. -/
def fit (n : Nat) (bs : Bytes) : Bytes := (bs ++ zeros n).take n

/-- The string with `v` over its bytes from `off` on (the length stays). -/
def patch (bs : Bytes) (off : Nat) (v : Bytes) : Bytes :=
  bs.take off ++ (v ++ bs.drop (off + v.length)).take (bs.length - off)

/-- Are all bytes zero? -/
def allZero (bs : Bytes) : Bool := bs.all (· == 0)

/-- The UTF-8 (here ASCII) bytes of a text. -/
def ascii (t : String) : Bytes := t.toList.map (fun c => BitVec.ofNat 8 c.toNat)

/-- Clamp into [lo, hi]. -/
def clampN (lo hi v : Nat) : Nat := min hi (max lo v)

/-- Clamp into [lo, hi]. -/
def clampI (lo hi v : Int) : Int := min hi (max lo v)

/-- Ceiling of `a / b`. -/
def cdiv (a b : Nat) : Nat := (a + b - 1) / b

/-! ### Check codes -/

/-- One bit into a CRC whose generator (without the top term) is `poly`, most significant bit first, `w` bits. -/
def crcBit (w poly c : Nat) (b : Bool) : Nat :=
  let top := bit c (w - 1) != b
  let c := (c * 2) % 2 ^ w
  if top then c ^^^ poly else c

/-- The bits of `v` from bit `n - 1` down to bit 0. -/
def bitsDown : Nat → Nat → List Bool
  | 0, _ => []
  | n + 1, v => bit v n :: bitsDown n v

/-- The bits of a byte from bit 0 up. -/
def bitsUp (v : Nat) : List Bool := (bitsDown 8 v).reverse

/-- CRC-16 of a descriptor over bits [255:16] (R111): generator x^16 + x^12 + x^5 + 1, start 0xFFFF, bit 255 first,
no reflection, no final exclusive-or. -/
def crc16 (d : Desc) : Nat := (bitsDown 240 (d.toNat >>> 16)).foldl (crcBit 16 0x1021) 0xFFFF

/-- Does a descriptor's CRC field agree with its bits (R111)? -/
def crcOk (d : Desc) : Bool := fld d 15 0 == crc16 d

/-- The bits of `c` reversed, `w` of them. -/
def reflect (w c : Nat) : Nat := (bitsDown w c).foldr (fun b a => a * 2 + (if b then 1 else 0)) 0

/-- CRC-32 with the IEEE 802.3 polynomial (R393), with that standard's bit order and its start and final
exclusive-or of all ones (PRESUMED: R393 names the standard's code and gives no other parameter). -/
def crc32 (bs : Bytes) : Nat :=
  reflect 32 (bs.foldl (fun c b => (bitsUp b.toNat).foldl (crcBit 32 0x04C11DB7) c) 0xFFFFFFFF) ^^^ 0xFFFFFFFF

/-- CRC-64 with the ECMA-182 polynomial, start all ones and final exclusive-or of all ones (R396); bytes enter
most significant bit first, without reflection (DESIGN CHOICE: R396 names no bit order). -/
def crc64 (bs : Bytes) : Nat :=
  (bs.foldl (fun c b => (bitsDown 8 b.toNat).foldl (crcBit 64 0x42F0E1EBA9EA3693) c) (2 ^ 64 - 1)) ^^^ (2 ^ 64 - 1)

/-- A string cut into pieces of `n` bytes; `fuel` bounds how many. -/
def cut (n : Nat) : Nat → Bytes → List Bytes
  | 0, _ => []
  | fuel + 1, b => if b.length < n then [] else b.take n :: cut n fuel (b.drop n)

/-- Adds to a list without repeats. -/
def addOnce (l : List Nat) (v : Nat) : List Nat := if l.contains v then l else l ++ [v]

end Sys2Proof
end

