-- ==== Sys2Proof/Machine/Sha.lean ====
section
/-!
DEFINITION. SHA-512 (FIPS 180-4), which images, receipts, digests, the change log and signatures use (R107, R216,
R217, R444, R452), and the verification of RSASSA-PSS signatures (RFC 8017) as R452 parametrises it.
-/
namespace Sys2Proof

/-- The lowest `n` 64-bit words of a number, the most significant word first. -/
def wordsOf : Nat → Nat → List W64
  | 0, _ => []
  | n + 1, v => wordsOf n (v / 2 ^ 64) ++ [BitVec.ofNat 64 v]

/-- The 80 round constants of SHA-512, eight to a numeral, in their order of use. -/
def sha512Rows : List Nat :=
  [0x428a2f98d728ae227137449123ef65cdb5c0fbcfec4d3b2fe9b5dba58189dbbc3956c25bf348b53859f111f1b605d019923f82a4af194f9bab1c5ed5da6d8118,
   0xd807aa98a303024212835b0145706fbe243185be4ee4b28c550c7dc3d5ffb4e272be5d74f27b896f80deb1fe3b1696b19bdc06a725c71235c19bf174cf692694,
   0xe49b69c19ef14ad2efbe4786384f25e30fc19dc68b8cd5b5240ca1cc77ac9c652de92c6f592b02754a7484aa6ea6e4835cb0a9dcbd41fbd476f988da831153b5,
   0x983e5152ee66dfaba831c66d2db43210b00327c898fb213fbf597fc7beef0ee4c6e00bf33da88fc2d5a79147930aa72506ca6351e003826f142929670a0e6e70,
   0x27b70a8546d22ffc2e1b21385c26c9264d2c6dfc5ac42aed53380d139d95b3df650a73548baf63de766a0abb3c77b2a881c2c92e47edaee692722c851482353b,
   0xa2bfe8a14cf10364a81a664bbc423001c24b8b70d0f89791c76c51a30654be30d192e819d6ef5218d69906245565a910f40e35855771202a106aa07032bbd1b8,
   0x19a4c116b8d2d0c81e376c085141ab532748774cdf8eeb9934b0bcb5e19b48a8391c0cb3c5c95a634ed8aa4ae3418acb5b9cca4f7763e373682e6ff3d6b2b8a3,
   0x748f82ee5defb2fc78a5636f43172f6084c87814a1f0ab728cc702081a6439ec90befffa23631e28a4506cebde82bde9bef9a3f7b2c67915c67178f2e372532b,
   0xca273eceea26619cd186b8c721c0c207eada7dd6cde0eb1ef57d4f7fee6ed17806f067aa72176fba0a637dc5a2c898a6113f9804bef90dae1b710b35131c471b,
   0x28db77f523047d8432caab7b40c724933c9ebe0a15c9bebc431d67c49c100d4c4cc5d4becb3e42b6597f299cfc657e2a5fcb6fab3ad6faec6c44198c4a475817]

/-- The initial hash value, as one number of 512 bits. -/
def sha512Start : Nat :=
  0x6a09e667f3bcc908bb67ae8584caa73b3c6ef372fe94f82ba54ff53a5f1d36f1510e527fade682d19b05688c2b3e6c1f1f83d9abfb41bd6b5be0cd19137e2179

/-- A word XORed over three rotations to the right. -/
def turns (x : W64) (i j k : Nat) : W64 := x.rotateRight i ^^^ x.rotateRight j ^^^ x.rotateRight k

/-- One round on the list of the eight working variables: `x` is the sum of the round constant and the schedule word. -/
def shaStep : List W64 → W64 → List W64
  | [a, b, c, d, e, f, g, h], x =>
    let t := x + h + turns e 14 18 41 + (g ^^^ (e &&& (f ^^^ g)))
    [t + turns a 28 34 39 + (a &&& (b ||| c) ||| b &&& c), a, b, c, t + d, e, f, g]
  | vs, _ => vs

/-- The rounds that a list of constants gives. `win` holds the next 16 words of the message schedule; each round uses the first
and adds the one that follows the last. -/
def shaSteps : List W64 → List W64 → List W64 → List W64
  | _, vs, [] => vs
  | win, vs, k :: ks =>
    let at_ (i : Nat) : W64 := win.getD i 0
    let lo := (at_ 1).rotateRight 1 ^^^ (at_ 1).rotateRight 8 ^^^ at_ 1 >>> 7
    let hi := (at_ 14).rotateRight 19 ^^^ (at_ 14).rotateRight 61 ^^^ at_ 14 >>> 6
    shaSteps (win.tail ++ [at_ 0 + lo + at_ 9 + hi]) (shaStep vs (k + at_ 0)) ks

/-- The hash value after one more block of 128 bytes. -/
def shaMix (vs : List W64) (blk : Bytes) : List W64 :=
  List.zipWith (· + ·) vs (shaSteps (wordsOf 16 (ofBe blk)) vs (sha512Rows.flatMap (wordsOf 8)))

/-- The hash value after the first `n` blocks of a padded message. -/
def shaFold (msg : Bytes) : Nat → List W64
  | 0 => wordsOf 8 sha512Start
  | n + 1 => shaMix (shaFold msg n) (slice msg (128 * n) 128)

/-- SHA-512 of a byte string, 64 bytes: the message is padded to whole blocks with 0x80, zeros and its length in bits. -/
def sha512 (bs : Bytes) : Bytes :=
  let blocks := cdiv (bs.length + 17) 128
  let padded := fit (128 * blocks - 16) (bs ++ [0x80#8]) ++ be 16 (8 * bs.length)
  (shaFold padded blocks).flatMap (fun w => be 8 w.toNat)

/-! ### RSASSA-PSS -/

/-- `b ^ (2 ^ n) mod m`, by `n` squarings. -/
def sqMod : Nat → Nat → Nat → Nat
  | 0, b, m => b % m
  | n + 1, b, m => sqMod n (b * b % m) m

/-- `b ^ 65537 mod m` (R448: the public exponent is always 65,537). -/
def rsaPublic (b m : Nat) : Nat := sqMod 16 b m * b % m

/-- MGF1 with SHA-512, `n` blocks of output. -/
def mgf1 (seed : Bytes) : Nat → Bytes
  | 0 => []
  | n + 1 => mgf1 seed n ++ sha512 (seed ++ be 4 n)

/-- EMSA-PSS verification of an encoded message of 4,095 bits: a salt of 64 bytes, trailer 0xBC (R452). -/
def pssVerify (msg : Bytes) (em : Bytes) : Bool :=
  let mHash := sha512 msg
  let maskedDb := em.take 447
  let h := slice em 447 64
  let mask := (mgf1 h 7).take 447
  let db := List.zipWith (· ^^^ ·) maskedDb mask
  let db := match db with | [] => [] | b :: r => (b &&& 0x7F#8) :: r
  let salt := db.drop 383
  em.getD 511 0 == 0xBC#8 && (maskedDb.getD 0 0).toNat < 128
    && allZero (db.take 382) && db.getD 382 0 == 1
    && sha512 (zeros 8 ++ mHash ++ salt) == h

/-- Does `sig` (512 bytes, big-endian) verify as a signature of `msg` under `modulus` (512 bytes, big-endian, R452)? -/
def rsaVerify (msg modulus sig : Bytes) : Bool :=
  let n := ofBe modulus
  let s := ofBe sig
  modulus.length == 512 && sig.length == 512 && bit n 4095 && decide (s < n) && pssVerify msg (be 512 (rsaPublic s n))

end Sys2Proof
end

