-- ==== Sys2Proof/Machine/Objects.lean ====
section
/-!
DEFINITION. The object dictionary's entries (R421 to R427 and the object tables of every chapter): index, how many
indexes from there on hold the same object, subindex, type, access, default and what a write of a value outside the
range does (R437). Values of numeric entries live in `State.obj` under the key index * 256 + subindex.
-/
namespace Sys2Proof

/-- The data types of R421. -/
inductive OType where
  | bool | u8 | u16 | u32 | u64 | i16 | i32 | f32 | str | oct (n : Nat) | domain
deriving DecidableEq, Repr, Inhabited

/-- Access codes (00_scope, Table: Access codes). -/
inductive Access where
  | ro | rw | wo
deriving DecidableEq, Repr, Inhabited

/-- What a written value outside the stated range becomes (R437). -/
inductive WRule where
  | any                          -- every value of the type
  | range (lo hi : Int)          -- the nearest limit
  | enum (hi : Nat)              -- an enumerated value above `hi` has no clamp: refused, 0x0609_0030
  | zeroOr (lo hi : Int)         -- 0, or a value clamped into [lo, hi] (R307, DROOP)
  | mask (m : Nat)               -- bits outside `m` are reserved: ignored, flag bit 1 (R7)
  | own                          -- the entry's own rule
deriving DecidableEq, Repr, Inhabited

/-- A row of an object table. -/
structure ObjSpec where
  idx   : Nat
  n     : Nat
  sub   : Nat
  name  : String
  typ   : OType
  acc   : Access
  dflt  : Int
  rule  : WRule
deriving DecidableEq, Repr, Inhabited

/-- Communication, module, feature map, input and time (R423, R424, R287, R281). -/
def Objects.comm : List ObjSpec :=
  [⟨0x1000, 1, 0x0, "DEVTYPE", .u32, .ro, 0, .any⟩,
   ⟨0x1001, 1, 0x0, "ERRREG", .u8, .ro, 0, .any⟩,
   ⟨0x1008, 1, 0x0, "NAME", .str, .ro, 0, .any⟩,
   ⟨0x1009, 1, 0x0, "HWVER", .str, .ro, 0, .any⟩,
   ⟨0x100a, 1, 0x0, "SWVER", .str, .ro, 0, .any⟩,
   ⟨0x1017, 1, 0x0, "HEARTBEAT", .u16, .rw, 1000, (.range 0 65535)⟩,
   ⟨0x1018, 1, 0x1, "VENDOR", .u32, .ro, 0, .any⟩,
   ⟨0x1018, 1, 0x2, "PRODUCT", .u32, .ro, 0, .any⟩,
   ⟨0x1018, 1, 0x3, "REVISION", .u32, .ro, 0, .any⟩,
   ⟨0x1018, 1, 0x4, "SERIAL", .u32, .ro, 0, .any⟩,
   ⟨0x2000, 1, 0x1, "VARIANT", .u8, .ro, 0, .any⟩,
   ⟨0x2000, 1, 0x2, "SERIALNO", (.oct 16), .ro, 0, .any⟩,
   ⟨0x2000, 1, 0x3, "PARTNO", .str, .ro, 0, .any⟩,
   ⟨0x2010, 1, 0x1, "UPDENGINES", .u32, .ro, 0, .any⟩,
   ⟨0x2010, 1, 0x2, "PORTMASK", .u32, .ro, 0, .any⟩,
   ⟨0x2020, 1, 0x1, "VIN", .u32, .ro, 0, .any⟩,
   ⟨0x2020, 1, 0x2, "IINA", .u32, .ro, 0, .any⟩,
   ⟨0x2020, 1, 0x3, "IINB", .u32, .ro, 0, .any⟩,
   ⟨0x2020, 1, 0x4, "PIN", .u32, .ro, 0, .any⟩,
   ⟨0x2020, 1, 0x5, "PAVG", .u32, .ro, 0, .any⟩,
   ⟨0x2020, 1, 0x6, "BUSSAGS", .u32, .ro, 0, .any⟩,
   ⟨0x2100, 1, 0x1, "SOURCE", .u32, .rw, 0, (.range 0 3)⟩,
   ⟨0x2100, 1, 0x2, "ACTIVE", .u32, .ro, 1, .any⟩,
   ⟨0x2100, 1, 0x3, "STATUS", .u32, .ro, 0, .any⟩] ++
  [⟨0x2100, 1, 0x4, "DEVTIME", .u64, .ro, 0, .any⟩,
   ⟨0x2100, 1, 0x5, "OFFSET", .i32, .ro, 0, .any⟩,
   ⟨0x2100, 1, 0x6, "FREQTRIM", .i32, .ro, 0, .any⟩,
   ⟨0x2100, 1, 0x7, "PPSSET", .u64, .rw, 0, .own⟩,
   ⟨0x2100, 1, 0x8, "PPSDELAY", .i32, .rw, 0, (.range (-10000) 10000)⟩,
   ⟨0x2100, 1, 0x9, "ROLE", .u32, .rw, 0, (.range 0 2)⟩,
   ⟨0x2100, 1, 0xa, "PRIORITY", .u32, .rw, 128, (.range 0 255)⟩,
   ⟨0x2100, 1, 0xb, "MASTER", .u32, .ro, 0, .any⟩,
   ⟨0x2100, 1, 0xc, "HOPS", .u32, .ro, 0, .any⟩,
   ⟨0x2100, 1, 0xd, "SKEW", .u32, .ro, 0, .any⟩]

/-- State, command, rows, commit group and patterns (R425, R199). -/
def Objects.rows : List ObjSpec :=
  [⟨0x2200, 1, 0x1, "STATE", .u8, .ro, 0, .any⟩,
   ⟨0x2200, 1, 0x2, "SUBSTATE", .u8, .ro, 0, .any⟩,
   ⟨0x2200, 1, 0x3, "SAFECAUSE", .u16, .ro, 0, .any⟩,
   ⟨0x2200, 1, 0x4, "STATUSFRAME", .bool, .rw, 1, (.enum 1)⟩,
   ⟨0x2201, 1, 0x1, "COMMAND", .u8, .wo, 0, .own⟩,
   ⟨0x2201, 1, 0x2, "LASTCMD", .u8, .ro, 0, .any⟩,
   ⟨0x2210, 1, 0x1, "PERIOD", .u32, .rw, 250, (.range 20 8000)⟩,
   ⟨0x2210, 1, 0x2, "PEFFECTIVE", .u64, .rw, 0, (.range 0 281474976710655)⟩,
   ⟨0x2210, 1, 0x3, "PPENDING", .u32, .ro, 0, .any⟩,
   ⟨0x2211, 1, 0x1, "SLACK", .u32, .rw, 8, (.range 6 50)⟩,
   ⟨0x2211, 1, 0x2, "SPENDING", .u32, .ro, 0, .any⟩,
   ⟨0x2212, 1, 0x1, "HANGROWS", .u32, .rw, 16, (.range 2 255)⟩,
   ⟨0x2220, 1, 0x1, "GROUPID", .u32, .rw, 0, .any⟩,
   ⟨0x2220, 1, 0x2, "MEMBERS", .u32, .rw, 1, (.range 1 1024)⟩,
   ⟨0x2220, 1, 0x3, "EFFECTIVE", .u64, .rw, 0, (.range 0 281474976710655)⟩,
   ⟨0x2220, 1, 0x4, "VLATENCY", .u64, .ro, 0, .any⟩,
   ⟨0x2230, 1, 0x1, "HISTORY", .domain, .ro, 0, .any⟩,
   ⟨0x2231, 1, 0x1, "ROWNOW", .u64, .ro, 0, .any⟩,
   ⟨0x2231, 1, 0x2, "MARKNOW", .u64, .ro, 0, .any⟩,
   ⟨0x2231, 1, 0x3, "SKIPPED", .u64, .ro, 0, .any⟩,
   ⟨0x2240, 1, 0x1, "PCOUNT", .u32, .ro, 0, .any⟩,
   ⟨0x2240, 1, 0x2, "PTABLE", .domain, .ro, 0, .any⟩]

/-- Defects, darning, counters, receipts, signatures, suspects, undo area (R328, R356, R357, R220, R362, R363, R218, R205). -/
def Objects.check : List ObjSpec :=
  [⟨0x2300, 1, 0x1, "PLYREPAIR", .domain, .ro, 0, .any⟩,
   ⟨0x2300, 1, 0x2, "LINEREPAIR", .domain, .ro, 0, .any⟩,
   ⟨0x2301, 1, 0x1, "DEFECTS", .domain, .ro, 0, .any⟩,
   ⟨0x2301, 1, 0x2, "COUNT", .u16, .ro, 0, .any⟩,
   ⟨0x2301, 1, 0x3, "DIGEST", (.oct 64), .ro, 0, .any⟩,
   ⟨0x2301, 1, 0x4, "FULL", .u32, .ro, 0, .any⟩,
   ⟨0x2302, 1, 0x1, "REMOVE", .u16, .wo, 0, .own⟩,
   ⟨0x2310, 1, 0x1, "VOIDMASK", .u64, .ro, 0, .any⟩,
   ⟨0x2310, 1, 0x2, "REGIONV", (.oct 6), .ro, 0, .any⟩,
   ⟨0x2310, 1, 0x3, "DARNINGS", .u64, .ro, 0, .any⟩,
   ⟨0x2310, 1, 0x4, "DARNSTATE", .u32, .ro, 0, .any⟩,
   ⟨0x2310, 1, 0x5, "OVERTARGET", .u32, .ro, 0, .any⟩,
   ⟨0x2310, 1, 0x6, "LASTDUR", .u32, .ro, 0, .any⟩,
   ⟨0x2310, 1, 0x7, "MAP", .domain, .ro, 0, .any⟩,
   ⟨0x2401, 1, 0x1, "ROWS", .u64, .ro, 0, .any⟩,
   ⟨0x2401, 1, 0x2, "UNDONE", .u64, .ro, 0, .any⟩,
   ⟨0x2401, 1, 0x3, "UNRECOVERABLE", .u64, .ro, 0, .any⟩,
   ⟨0x2401, 1, 0x4, "CLASSA", .u64, .ro, 0, .any⟩,
   ⟨0x2401, 1, 0x5, "CLASSB", .u64, .ro, 0, .any⟩,
   ⟨0x2401, 1, 0x6, "SPCORR", .u64, .ro, 0, .any⟩,
   ⟨0x2401, 1, 0x7, "HBMCORR", .u64, .ro, 0, .any⟩,
   ⟨0x2401, 1, 0x8, "UNCORR", .u64, .ro, 0, .any⟩,
   ⟨0x2401, 1, 0x9, "RETRIES", .u64, .ro, 0, .any⟩,
   ⟨0x2401, 1, 0xa, "INEXACT", .u64, .ro, 0, .any⟩] ++
  [⟨0x2401, 1, 0xb, "OVERFLOW", .u64, .ro, 0, .any⟩,
   ⟨0x2401, 1, 0xc, "CLAMPS", .u64, .ro, 0, .any⟩,
   ⟨0x2401, 1, 0xd, "OUTRANGE", .u64, .ro, 0, .any⟩,
   ⟨0x2401, 1, 0xe, "CLAMPED", .u64, .ro, 0, .any⟩,
   ⟨0x2401, 1, 0xf, "DUPLICATE", .u64, .ro, 0, .any⟩,
   ⟨0x2401, 1, 0x10, "LOCALISED", .u64, .ro, 0, .any⟩,
   ⟨0x2401, 1, 0x11, "UNDOACC", .u64, .ro, 0, .any⟩,
   ⟨0x2402, 1, 0x1, "FAILRING", .domain, .ro, 0, .any⟩,
   ⟨0x2404, 1, 0x1, "STREAM", .domain, .ro, 0, .any⟩,
   ⟨0x2404, 1, 0x2, "CURSOR", .u32, .rw, 1, .own⟩,
   ⟨0x2404, 1, 0x3, "OLDEST", .u32, .ro, 1, .any⟩,
   ⟨0x2404, 1, 0x4, "NEWEST", .u32, .ro, 0, .any⟩,
   ⟨0x2404, 1, 0x5, "NOHASH", .u32, .ro, 0, .any⟩,
   ⟨0x2405, 1, 0x1, "LIST", .domain, .rw, 0, .own⟩,
   ⟨0x2405, 1, 0x2, "RUNS", .u32, .ro, 0, .any⟩,
   ⟨0x2405, 1, 0x3, "FAILS", .u32, .ro, 0, .any⟩,
   ⟨0x2405, 1, 0x4, "SKIPSEL", .u32, .ro, 0, .any⟩,
   ⟨0x2410, 1, 0x1, "BUNDLE", .u32, .rw, 4096, (.range 1 65536)⟩,
   ⟨0x2410, 1, 0x4, "HEAD", (.oct 64), .ro, 0, .any⟩,
   ⟨0x2420, 1, 0x1, "UNDOGIB", .u32, .rw, 4, (.range 1 64)⟩,
   ⟨0x2420, 1, 0x2, "UNDOBASES", .domain, .ro, 0, .any⟩]

/-- Power, phase points, thermal and coolant (R318, R307, R317). -/
def Objects.power : List ObjSpec :=
  [⟨0x2500, 1, 0x1, "CAP", .u32, .rw, 16500, (.range 6000 16500)⟩,
   ⟨0x2500, 1, 0x2, "CAPAPPLIED", .u32, .ro, 16500, .any⟩,
   ⟨0x2500, 1, 0x3, "LIMITBY", .u32, .ro, 0, .any⟩,
   ⟨0x2500, 1, 0x4, "ACTUATOR", .u32, .rw, 0, (.range 0 1)⟩,
   ⟨0x2500, 1, 0x5, "BUBGAIN", .u32, .rw, 8, (.range 1 64)⟩,
   ⟨0x2500, 1, 0x6, "MODE", .u32, .rw, 0, (.enum 2)⟩,
   ⟨0x2500, 1, 0x7, "DIDT", .u32, .rw, 8, (.range 2 40)⟩,
   ⟨0x2500, 1, 0x8, "FLOORPCT", .u32, .rw, 60, (.range 0 90)⟩,
   ⟨0x2500, 1, 0x9, "SLOPE", .u32, .rw, 8, (.range 1 40)⟩,
   ⟨0x2500, 1, 0xa, "HEAVY", .u32, .rw, 40, (.range 1 64)⟩,
   ⟨0x2500, 1, 0xb, "LRAISE", .u32, .rw, 4, (.range 0 20)⟩,
   ⟨0x2500, 1, 0xc, "FEEDGROUP", .u32, .rw, 0, .any⟩,
   ⟨0x2500, 1, 0xd, "FEEDMEMBERS", .u32, .rw, 1, (.range 1 1024)⟩,
   ⟨0x2500, 1, 0xe, "FEEDSLOPE", .u32, .rw, 0, (.range 0 40960)⟩,
   ⟨0x2500, 1, 0xf, "MODEACTIVE", .u32, .ro, 1, .any⟩,
   ⟨0x2500, 1, 0x13, "UNATTAIN", .u32, .ro, 0, .any⟩,
   ⟨0x2500, 1, 0x14, "HNTLATE", .u32, .ro, 0, .any⟩,
   ⟨0x2500, 1, 0x15, "PLANMISS", .u32, .ro, 0, .any⟩,
   ⟨0x2502, 1, 0x1, "TJMAX", .u32, .ro, 0, .any⟩,
   ⟨0x2502, 1, 0x2, "THROTTLE", .u32, .rw, 100, (.range 85 100)⟩,
   ⟨0x2502, 1, 0x3, "TRIP", .u32, .ro, 115, .any⟩,
   ⟨0x2502, 1, 0x4, "THROTTLED", .u32, .ro, 0, .any⟩,
   ⟨0x2502, 1, 0x5, "HBMTMAX", .u32, .ro, 0, .any⟩,
   ⟨0x2510, 16, 0x1, "VRAISE", .u32, .rw, 0, (.range 0 20)⟩] ++
  [⟨0x2510, 16, 0x2, "DROOP", .u32, .rw, 0, (.zeroOr 20 60)⟩,
   ⟨0x2510, 16, 0x3, "ISSUE", .u32, .rw, 64, (.range 1 64)⟩,
   ⟨0x2530, 1, 0x1, "FLOW", .u32, .ro, 0, .any⟩,
   ⟨0x2530, 1, 0x2, "INLET", .i32, .ro, 0, .any⟩,
   ⟨0x2530, 1, 0x3, "OUTLET", .i32, .ro, 0, .any⟩]

/-- Naela, ring and slices (R412, R401, R426). -/
def Objects.naela : List ObjSpec :=
  [⟨0x2600, 1, 0x1, "MODULEID", .u32, .rw, 0, (.range 0 1023)⟩,
   ⟨0x2600, 1, 0x2, "DIMX", .u32, .rw, 8, (.range 1 16)⟩,
   ⟨0x2600, 1, 0x3, "DIMY", .u32, .rw, 8, (.range 1 16)⟩,
   ⟨0x2600, 1, 0x4, "DIMZ", .u32, .rw, 16, (.range 1 16)⟩,
   ⟨0x2600, 1, 0x5, "ROUTES", .domain, .rw, 0, .own⟩,
   ⟨0x2600, 1, 0x6, "SYSCHAN", .u32, .rw, 0, .any⟩,
   ⟨0x2600, 1, 0x7, "SYSMODULES", .u32, .ro, 1, .any⟩,
   ⟨0x2600, 1, 0x8, "PROTO", .u32, .ro, 0, .any⟩,
   ⟨0x2600, 1, 0x9, "RESENDS", .u64, .ro, 0, .any⟩,
   ⟨0x2600, 1, 0xa, "DELIVERYFAILS", .u32, .ro, 0, .any⟩,
   ⟨0x2620, 18, 0x1, "STATE", .u32, .ro, 1, .any⟩,
   ⟨0x2620, 18, 0x2, "LANES", .u32, .ro, 0, .any⟩,
   ⟨0x2620, 18, 0x3, "PEER", .u32, .ro, 0, .any⟩,
   ⟨0x2620, 18, 0x4, "PEERPROTO", .u32, .ro, 0, .any⟩,
   ⟨0x2620, 18, 0x5, "PEERFL", .u32, .ro, 0, .any⟩,
   ⟨0x2620, 18, 0x6, "QUIESCE", .u32, .rw, 0, .own⟩,
   ⟨0x2620, 18, 0x7, "ENABLE", .u32, .rw, 1, (.enum 1)⟩,
   ⟨0x2620, 18, 0x8, "FECCORR", .u64, .ro, 0, .any⟩,
   ⟨0x2620, 18, 0x9, "FECUNCORR", .u64, .ro, 0, .any⟩,
   ⟨0x2620, 18, 0xa, "FRAMERETRY", .u64, .ro, 0, .any⟩,
   ⟨0x2640, 64, 0x1, "KIND", .u32, .rw, 0, .own⟩,
   ⟨0x2640, 64, 0x2, "BASE", .u64, .rw, 0, .own⟩,
   ⟨0x2640, 64, 0x3, "LENGTH", .u64, .rw, 0, .own⟩,
   ⟨0x2640, 64, 0x4, "PEER", .u32, .rw, 0, (.range 0 1023)⟩] ++
  [⟨0x2640, 64, 0x5, "PEERBASE", .u64, .rw, 0, .own⟩,
   ⟨0x2640, 64, 0x6, "SENT", .u64, .ro, 0, .any⟩,
   ⟨0x2640, 64, 0x7, "LOST", .u32, .ro, 0, .any⟩,
   ⟨0x2701, 1, 0x1, "RINGABREAK", .u8, .ro, 255, .any⟩,
   ⟨0x2701, 1, 0x2, "RINGBBREAK", .u8, .ro, 255, .any⟩,
   ⟨0x2710, 48, 0x1, "PORTS", .u32, .ro, 0, .any⟩,
   ⟨0x2710, 48, 0x2, "RATE", .u32, .ro, 0, .any⟩,
   ⟨0x2710, 48, 0x3, "STACK", .u32, .ro, 0, .any⟩]

/-- Security, change log and panel (R470, R446, R427). -/
def Objects.secure : List ObjSpec :=
  [⟨0x2800, 1, 0x1, "FWVER", .u32, .ro, 0, .any⟩,
   ⟨0x2800, 1, 0x2, "FWDIGEST", (.oct 64), .ro, 0, .any⟩,
   ⟨0x2800, 1, 0x3, "SVN", .u8, .ro, 0, .any⟩,
   ⟨0x2800, 1, 0x4, "FLOOR", .u8, .ro, 0, .any⟩,
   ⟨0x2800, 1, 0x5, "FLMAX", .u8, .ro, 0, .any⟩,
   ⟨0x2800, 1, 0x6, "BANK", .u8, .ro, 0, .any⟩,
   ⟨0x2801, 1, 0x1, "FWCMD", .u8, .wo, 0, .own⟩,
   ⟨0x2801, 1, 0x2, "FWSTATE", .u32, .ro, 0, .any⟩,
   ⟨0x2801, 1, 0x3, "PHASE", .u32, .ro, 0, .any⟩,
   ⟨0x2802, 1, 0x1, "STAGED", (.oct 16), .ro, 0, .any⟩,
   ⟨0x2810, 1, 0x1, "SYSFL", .u32, .rw, 1, .own⟩,
   ⟨0x2820, 1, 0x1, "IMAGE", .domain, .wo, 0, .own⟩,
   ⟨0x2830, 1, 0x1, "SLOTS", (.oct 4), .ro, 0, .any⟩,
   ⟨0x2830, 1, 0x2, "KEYREC", .domain, .wo, 0, .own⟩,
   ⟨0x2840, 1, 0x1, "CHALLENGE", (.oct 64), .ro, 0, .any⟩,
   ⟨0x2840, 1, 0x2, "DEBUG", .u32, .ro, 0, .any⟩,
   ⟨0x2850, 1, 0x1, "CHAIN", .domain, .ro, 0, .any⟩,
   ⟨0x2900, 1, 0x1, "LOG", .domain, .ro, 0, .any⟩,
   ⟨0x2900, 1, 0x2, "CURSOR", .u32, .rw, 0, .own⟩,
   ⟨0x2900, 1, 0x3, "OLDEST", .u32, .ro, 1, .any⟩,
   ⟨0x2900, 1, 0x4, "NEWEST", .u32, .ro, 0, .any⟩,
   ⟨0x2900, 1, 0x5, "HEAD", (.oct 16), .ro, 0, .any⟩,
   ⟨0x2900, 1, 0x6, "BUFFERED", .u16, .ro, 0, .any⟩,
   ⟨0x2900, 1, 0x7, "UNLOGGED", .u32, .ro, 0, .any⟩] ++
  [⟨0x2a00, 1, 0x1, "KEYS", .u32, .rw, 15, (.mask 15)⟩,
   ⟨0x2a00, 1, 0x2, "LOCATE", .u32, .rw, 0, (.range 0 2)⟩,
   ⟨0x2a00, 1, 0x3, "CAGELOCATE", .u32, .rw, 0, (.mask 262143)⟩,
   ⟨0x2a00, 1, 0x4, "DISPLAY", .str, .ro, 0, .any⟩,
   ⟨0x2a20, 1, 0x1, "TOKEN", .domain, .wo, 0, .own⟩,
   ⟨0x2a20, 1, 0x2, "SCOPE", .u32, .ro, 0, .any⟩,
   ⟨0x2a20, 1, 0x3, "REMAINING", .u32, .ro, 0, .any⟩,
   ⟨0x2a20, 1, 0x4, "CLOSE", .u32, .wo, 0, .own⟩]

/-- Host queues, sessions, update and start journal (R372, R221, R223, R254, R334). -/
def Objects.host : List ObjSpec :=
  [⟨0x2b00, 1, 0x1, "QUEUES", .u32, .rw, 64, (.range 1 64)⟩,
   ⟨0x2b00, 1, 0x2, "IMGWRITES", .u32, .ro, 0, .any⟩,
   ⟨0x2b10, 1, 0x1, "POOLOFF", .u64, .rw, 0, .own⟩,
   ⟨0x2b10, 1, 0x2, "POOLPAGES", .u32, .rw, 0, (.range 0 65536)⟩,
   ⟨0x2b10, 1, 0x3, "FREEPAGES", .u32, .ro, 0, .any⟩,
   ⟨0x2b11, 1, 0x1, "SAREA", .u64, .rw, 0, .own⟩,
   ⟨0x2b11, 1, 0x2, "SAWRITES", .u32, .ro, 0, .any⟩,
   ⟨0x2b12, 1, 0x1, "NOPEN", .u32, .ro, 0, .any⟩,
   ⟨0x2b13, 1, 0x1, "TABLE", .domain, .ro, 0, .any⟩,
   ⟨0x2b20, 16, 0x1, "PREFILL", .u32, .rw, 0, (.range 0 63)⟩,
   ⟨0x2b20, 16, 0x2, "DECODE", .u32, .rw, 0, (.range 0 63)⟩,
   ⟨0x2b20, 16, 0x3, "PPG", .u32, .rw, 1, (.range 1 65536)⟩,
   ⟨0x2b20, 16, 0x4, "PBATCH", .u32, .rw, 1, (.range 1 8192)⟩,
   ⟨0x2b20, 16, 0x5, "DBATCH", .u32, .rw, 1, (.range 1 8192)⟩,
   ⟨0x2b20, 16, 0x6, "CTXMAX", .u32, .rw, 0, .own⟩,
   ⟨0x2b20, 16, 0x7, "PLENMAX", .u32, .rw, 1, .own⟩,
   ⟨0x2b20, 16, 0x8, "VOCAB", .u32, .rw, 1, (.range 1 1048576)⟩,
   ⟨0x2c00, 1, 0x1, "TCLAMPS", .u64, .ro, 0, .any⟩,
   ⟨0x2c01, 1, 0x1, "LR", .f32, .rw, 981668463, .own⟩,
   ⟨0x2c01, 1, 0x2, "WD", .f32, .rw, 0, .own⟩,
   ⟨0x2c01, 1, 0x3, "B1", .f32, .rw, 1063675494, .own⟩,
   ⟨0x2c01, 1, 0x4, "B2", .f32, .rw, 1065336439, .own⟩,
   ⟨0x2c01, 1, 0x5, "EPS", .f32, .rw, 841731191, .own⟩,
   ⟨0x2c01, 1, 0x6, "GSCALE", .f32, .rw, 1065353216, .own⟩] ++
  [⟨0x2c02, 1, 0x1, "STATE0", .u32, .ro, 0, .any⟩,
   ⟨0x2c02, 1, 0x2, "STATE1", .u32, .ro, 0, .any⟩,
   ⟨0x2c02, 1, 0x3, "STATE2", .u32, .ro, 0, .any⟩,
   ⟨0x2c02, 1, 0x4, "STATE3", .u32, .ro, 0, .any⟩,
   ⟨0x2c02, 1, 0x5, "STATE4", .u32, .ro, 0, .any⟩,
   ⟨0x2c02, 1, 0x6, "STATE5", .u32, .ro, 0, .any⟩,
   ⟨0x2c02, 1, 0x7, "STATE6", .u32, .ro, 0, .any⟩,
   ⟨0x2c02, 1, 0x8, "STATE7", .u32, .ro, 0, .any⟩,
   ⟨0x2c02, 1, 0x9, "STATE8", .u32, .ro, 0, .any⟩,
   ⟨0x2c02, 1, 0xa, "STATE9", .u32, .ro, 0, .any⟩,
   ⟨0x2c02, 1, 0xb, "STATE10", .u32, .ro, 0, .any⟩,
   ⟨0x2c02, 1, 0xc, "STATE11", .u32, .ro, 0, .any⟩,
   ⟨0x2c02, 1, 0xd, "STATE12", .u32, .ro, 0, .any⟩,
   ⟨0x2c02, 1, 0xe, "STATE13", .u32, .ro, 0, .any⟩,
   ⟨0x2c02, 1, 0xf, "STATE14", .u32, .ro, 0, .any⟩,
   ⟨0x2c02, 1, 0x10, "STATE15", .u32, .ro, 0, .any⟩,
   ⟨0x2c02, 1, 0x11, "STATE16", .u32, .ro, 0, .any⟩,
   ⟨0x2c02, 1, 0x12, "STATE17", .u32, .ro, 0, .any⟩,
   ⟨0x2c02, 1, 0x13, "STATE18", .u32, .ro, 0, .any⟩,
   ⟨0x2c02, 1, 0x14, "STATE19", .u32, .ro, 0, .any⟩,
   ⟨0x2c02, 1, 0x15, "STATE20", .u32, .ro, 0, .any⟩,
   ⟨0x2c02, 1, 0x16, "STATE21", .u32, .ro, 0, .any⟩,
   ⟨0x2c02, 1, 0x17, "STATE22", .u32, .ro, 0, .any⟩,
   ⟨0x2c02, 1, 0x18, "STATE23", .u32, .ro, 0, .any⟩] ++
  [⟨0x2c02, 1, 0x19, "STATE24", .u32, .ro, 0, .any⟩,
   ⟨0x2c02, 1, 0x1a, "STATE25", .u32, .ro, 0, .any⟩,
   ⟨0x2c02, 1, 0x1b, "STATE26", .u32, .ro, 0, .any⟩,
   ⟨0x2c02, 1, 0x1c, "STATE27", .u32, .ro, 0, .any⟩,
   ⟨0x2c02, 1, 0x1d, "STATE28", .u32, .ro, 0, .any⟩,
   ⟨0x2c02, 1, 0x1e, "STATE29", .u32, .ro, 0, .any⟩,
   ⟨0x2c02, 1, 0x1f, "STATE30", .u32, .ro, 0, .any⟩,
   ⟨0x2c02, 1, 0x20, "STATE31", .u32, .ro, 0, .any⟩,
   ⟨0x2c02, 1, 0x21, "STATE32", .u32, .ro, 0, .any⟩,
   ⟨0x2c02, 1, 0x22, "STATE33", .u32, .ro, 0, .any⟩,
   ⟨0x2c02, 1, 0x23, "STATE34", .u32, .ro, 0, .any⟩,
   ⟨0x2c02, 1, 0x24, "STATE35", .u32, .ro, 0, .any⟩,
   ⟨0x2c02, 1, 0x25, "STATE36", .u32, .ro, 0, .any⟩,
   ⟨0x2c02, 1, 0x26, "STATE37", .u32, .ro, 0, .any⟩,
   ⟨0x2c02, 1, 0x27, "STATE38", .u32, .ro, 0, .any⟩,
   ⟨0x2c02, 1, 0x28, "STATE39", .u32, .ro, 0, .any⟩,
   ⟨0x2c02, 1, 0x29, "STATE40", .u32, .ro, 0, .any⟩,
   ⟨0x2c02, 1, 0x2a, "STATE41", .u32, .ro, 0, .any⟩,
   ⟨0x2c02, 1, 0x2b, "STATE42", .u32, .ro, 0, .any⟩,
   ⟨0x2c02, 1, 0x2c, "STATE43", .u32, .ro, 0, .any⟩,
   ⟨0x2c02, 1, 0x2d, "STATE44", .u32, .ro, 0, .any⟩,
   ⟨0x2c02, 1, 0x2e, "STATE45", .u32, .ro, 0, .any⟩,
   ⟨0x2c02, 1, 0x2f, "STATE46", .u32, .ro, 0, .any⟩,
   ⟨0x2c02, 1, 0x30, "STATE47", .u32, .ro, 0, .any⟩] ++
  [⟨0x2c03, 1, 0x1, "JOBS", .u64, .ro, 0, .any⟩,
   ⟨0x2d00, 1, 0x1, "JOURNAL", .domain, .ro, 0, .any⟩,
   ⟨0x2d00, 1, 0x2, "STEP", .u32, .ro, 0, .any⟩,
   ⟨0x2d00, 1, 0x3, "STARTS", .u32, .ro, 0, .any⟩,
   ⟨0x2d00, 1, 0x4, "FAILEDRUN", .u32, .ro, 0, .any⟩,
   ⟨0x2d00, 1, 0x5, "MARCHAGE", .u32, .ro, 0, .any⟩,
   ⟨0x2d00, 1, 0x6, "FORCEFULL", .u32, .rw, 0, (.range 0 1)⟩,
   ⟨0x2d00, 1, 0x7, "LASTDUR", .u32, .ro, 0, .any⟩,
   ⟨0x2d00, 1, 0x8, "ALTMASK", .u32, .ro, 0, .any⟩]

/-- Per region and per block (R426, R292, R356, R319, R267). -/
def Objects.unit : List ObjSpec :=
  [⟨0x3000, 42, 0x1, "ROLE", .u32, .ro, 0, .any⟩,
   ⟨0x3000, 42, 0x2, "LREGION", .u32, .ro, 0, .any⟩,
   ⟨0x3000, 42, 0x3, "REFIN", .u32, .ro, 0, .any⟩,
   ⟨0x3000, 42, 0x4, "MERGEOVF", .domain, .ro, 0, .any⟩,
   ⟨0x3000, 42, 0x5, "TIMEERR", .i32, .ro, 0, .any⟩,
   ⟨0x3000, 42, 0x20, "RAILI", .u32, .ro, 0, .any⟩,
   ⟨0x3000, 42, 0x21, "RAILV", .u32, .ro, 0, .any⟩,
   ⟨0x3000, 42, 0x22, "OCWARN", .u32, .rw, 500, (.range 300 560)⟩,
   ⟨0x3000, 42, 0x23, "OCTRIP", .u32, .rw, 600, .own⟩,
   ⟨0x3000, 42, 0x24, "CSTATE", .u32, .ro, 0, .any⟩,
   ⟨0x3000, 42, 0x25, "SHARE", .u32, .ro, 0, .any⟩,
   ⟨0x3000, 42, 0x26, "CEILING", .u32, .ro, 64, .any⟩,
   ⟨0x3000, 42, 0x27, "WARNS", .u32, .ro, 0, .any⟩,
   ⟨0x3000, 42, 0x28, "RAMPTIME", .u32, .rw, 100, (.range 10 1000)⟩,
   ⟨0x3000, 42, 0x29, "FLOOR", .u32, .ro, 0, .any⟩,
   ⟨0x3000, 42, 0x30, "CELLU", (.oct 8), .ro, 0, .any⟩,
   ⟨0x4000, 588, 0x1, "VSET", .u32, .ro, 0, .any⟩,
   ⟨0x4000, 588, 0x2, "VTRIM", .u32, .ro, 720, .any⟩,
   ⟨0x4000, 588, 0x3, "ISSUE", .u32, .ro, 64, .any⟩,
   ⟨0x4000, 588, 0x4, "LIMSRC", .u32, .ro, 0, .any⟩,
   ⟨0x4000, 588, 0x5, "BUBBLES", .u32, .ro, 0, .any⟩,
   ⟨0x4000, 588, 0x6, "CURRENT", .u32, .ro, 0, .any⟩,
   ⟨0x4000, 588, 0x7, "PHASES", .u32, .ro, 255, .any⟩,
   ⟨0x4000, 588, 0x8, "TEMP", .u32, .ro, 0, .any⟩] ++
  [⟨0x4000, 588, 0x9, "SENSOR0", .u32, .ro, 0, .any⟩,
   ⟨0x4000, 588, 0xa, "SENSOR1", .u32, .ro, 0, .any⟩,
   ⟨0x4000, 588, 0xb, "SENSOR2", .u32, .ro, 0, .any⟩,
   ⟨0x4000, 588, 0xc, "SENSOR3", .u32, .ro, 0, .any⟩,
   ⟨0x4000, 588, 0xd, "BOOSTS", .u32, .ro, 0, .any⟩,
   ⟨0x4000, 588, 0xe, "SHUNTS", .u32, .ro, 0, .any⟩,
   ⟨0x4000, 588, 0xf, "THROTTLES", .u32, .ro, 0, .any⟩,
   ⟨0x4000, 588, 0x10, "DROOPTH", .u32, .rw, 35, (.range 20 60)⟩,
   ⟨0x4000, 588, 0x11, "STRETCHED", .u64, .ro, 0, .any⟩,
   ⟨0x4000, 588, 0x12, "QUANTA", .u64, .ro, 0, .any⟩,
   ⟨0x4000, 588, 0x13, "MAXRUN", .u32, .ro, 0, .any⟩,
   ⟨0x4000, 588, 0x14, "WARNINGS", .u32, .ro, 0, .any⟩,
   ⟨0x4000, 588, 0x15, "SUSTAINED", .u32, .ro, 0, .any⟩,
   ⟨0x4000, 588, 0x16, "PLLSTATE", .u32, .ro, 0, .any⟩,
   ⟨0x4000, 588, 0x17, "GUARD", .u32, .ro, 16, .any⟩]

/-- Every entry. -/
def Objects.all : List ObjSpec :=
  Objects.comm ++ Objects.rows ++ Objects.check ++ Objects.power ++ Objects.naela ++ Objects.secure ++ Objects.host
    ++ Objects.unit

/-- The rows whose indexes hold `idx`. -/
def Objects.atIndex (idx : Nat) : List ObjSpec :=
  Objects.all.filter (fun o => decide (o.idx ≤ idx) && decide (idx < o.idx + o.n))

/-- The entry at index and subindex. -/
def Objects.find (idx sub : Nat) : Option ObjSpec := (Objects.atIndex idx).find? (fun o => o.sub == sub)

/-- The key of an entry. -/
def okey (idx sub : Nat) : Nat := idx * 256 + sub

/-- The default of an entry. -/
def Objects.dflt (key : Nat) : Int :=
  match Objects.find (key / 256) (key % 256) with
  | some o => o.dflt
  | none => 0

/-- The size in bytes of a type's value; none for strings and DOMAINs. -/
def OType.size : OType → Option Nat
  | .bool => some 1
  | .u8 => some 1
  | .u16 => some 2
  | .i16 => some 2
  | .u32 => some 4
  | .i32 => some 4
  | .f32 => some 4
  | .u64 => some 8
  | .oct n => some n
  | .str => none
  | .domain => none

/-- Is the type signed? -/
def OType.signed : OType → Bool
  | .i16 => true
  | .i32 => true
  | _ => false

/-- The value that the bytes of a write hold. -/
def OType.decode (t : OType) (bs : Bytes) : Int :=
  if t.signed then toSigned (8 * bs.length) (ofLe bs) else (ofLe bs : Nat)

/-- The bytes of a value (R421: little-endian). -/
def OType.encode (t : OType) (v : Int) : Bytes :=
  match t.size with
  | some n => le n (ofSigned (8 * n) v)
  | none => []

end Sys2Proof
end

