-- ==== Sys2Proof/Machine/State.lean ====
section
/-!
DEFINITION. The state of the module as plain data, group by group, its reset value, and the reasons a step can stop.
A field's comment names the rule of spec/ that gives it. The value each field takes at reset is its default here;
those the spec does not give are named in notes/assumptions (INVENTORY.md lists them field by field).
-/
namespace Sys2Proof.Machine

/-! ### Front end and flash -/

/-- The front end (R286). -/
inductive FeState where
  | off | precharge | on
deriving DecidableEq, Repr, Inhabited

/-- Device states (R429), in the order of their codes 0 to 6. -/
inductive DevState where
  | off | castOn | ready | running | hold | bindOff | safe
deriving DecidableEq, Repr, Inhabited

/-- A start journal record (R330). -/
structure JRec where
  start : Nat
  step  : Nat
  mode  : Nat := 0
  result : Nat := 0
  tStart : Nat := 0
  tEnd : Nat := 0
  ukind : Nat := 0
  uregion : Nat := 0
  udetail : Nat := 0
  ndefects : Nat := 0
deriving DecidableEq, Repr, Inhabited

/-- The front end and what its controller keeps (R21, R23, R286, R287, R330, R332, R333, R473). -/
structure FrontEnd where
  fe : FeState := .off
  hsEn : Bool := false                -- HS_EN asserted (R21)
  seatOpen : Bool := false            -- SEAT_SENSE open (R23)
  inputFault : Bool := false          -- a latched input fault (R286, R287)
  offHold : Bool := false             -- OFF until HS_EN is deasserted and reasserted (R333)
  offUs : Nat := 0                    -- µs left of an off time of 2 s, then R286 (R333, R430)
  inRangeUs : Nat := 0                -- µs the input has stood within 38.0 to 46.0 V (R286)
  over460Us : Nat := 0                -- µs above 460 A (R287)
  below35Us : Nat := 0                -- µs below 35.0 V
  lowUs : Nat := 0                    -- µs within 35.0 to 38.0 V
  highUs : Nat := 0                   -- µs within 46.0 to 50.0 V
  over50Us : Nat := 0                 -- µs above 50.0 V
  removalLatch : Bool := false        -- non-volatile: unannounced removal (R23)
  interrupted : Option Nat := none    -- non-volatile: the step that HS_EN, input or seat interrupted (R332)
  records : List JRec := []           -- non-volatile: records of steps 1 and 2 not yet copied (R330)
  lastRecords : List JRec := []       -- non-volatile: records of steps 1 and 2 of the most recent start (R332)
  releaseLatched : Bool := false      -- a release press held 3 s before the end of step 3 (R473)
  early : List (Nat × Nat × Nat) := []  -- touches before the end of step 3: time from ON in µs, index, subindex (R473)
  earlyMore : Nat := 0                -- touches beyond 32 (R473)
deriving DecidableEq, Repr, Inhabited

/-- A change-log record (R440): bytes 0 to 47, and its CHAIN (R444). -/
structure LogRec where
  seq : Nat
  devtime : Nat := 0
  row : Nat := 0
  origin : Nat
  result : Nat
  idx : Nat
  sub : Nat
  flags : Nat := 0
  old : Nat := 0
  req : Nat := 0
  app : Nat := 0
  chain : Bytes := []
deriving DecidableEq, Repr, Inhabited

/-- The change log (R440 to R446). -/
structure ChangeLog where
  recs : List LogRec := []            -- oldest first, at most 65,536
  seq : Nat := 0                      -- NEWEST
  chain : Bytes := zeros 16           -- HEAD, c(NEWEST)
  buffered : Nat := 0                 -- BUFFERED: the newest records not yet in flash
  cursorCan : Nat := 0                -- CURSOR of CAN; below OLDEST it reads as OLDEST
  cursorCxl : Nat := 0
  cursorUsb : Nat := 0
  lost : Bool := false                -- 42 V was lost with records unflushed (R445)
deriving DecidableEq, Repr, Inhabited

/-- A root-key slot (R448). `hash = none` in a programmed slot: the hash the manufacturer burned. -/
structure KeySlot where
  programmed : Bool := false
  revoked : Bool := false
  record : Bool := false
  image : Bool := false
  hash : Option Bytes := none
deriving DecidableEq, Repr, Inhabited

/-- What a firmware image's manifest says (R451), for a bank that holds a verified image or for what runs.
`digest = none`: the factory image, whose FWDIGEST is a constant of the part. -/
structure FwInfo where
  fwver : Nat := 0
  svn : Nat := 0
  flmax : Nat := 0
  proto : Nat := 0
  keyslot : Nat := 0
  digest : Option Bytes := none
deriving DecidableEq, Repr, Inhabited

/-- A firmware bank: its bytes, and the image they hold when it verified (R451, R452). -/
structure FwBank where
  content : Mem := []
  info : Option FwInfo := none
deriving DecidableEq, Repr, Inhabited

/-- Firmware 2.2 (R468). -/
def fw22 : FwInfo := { fwver := 0x02020000, svn := 7, flmax := 5, proto := 2 }

/-- A unit lost or to be retired (R341): what it is, and the cause code. -/
inductive Lost where
  | cell (region row col : Nat)       -- physical
  | block (b : Nat)
  | region (r : Nat)
deriving DecidableEq, Repr, Inhabited

/-- A fault signature (R359, R360). -/
structure Signature where
  seq : Nat
  bytes : Bytes                       -- the CBOR item, 512 B at most
deriving DecidableEq, Repr, Inhabited

/-- What survives a loss of 42 V (R335), with what is fixed at manufacture. The dictionary's own survivors
(`0x2401`, DARNINGS, the objects of `0x2D00`) stay in `State.obj`. -/
structure Flash where
  variantG : Bool := false            -- TW60-G (R1), fixed at manufacture
  journal : List JRec := []           -- the start journal, oldest first, at most 4,096 (R330)
  defects : List Defect := []         -- the defect list (R327)
  log : ChangeLog := {}
  bundles : List Bytes := []          -- the last 1,024 receipt bundles, oldest first (R218)
  bundleSeq : Nat := 0                -- SEQ of the newest bundle
  epoch : Nat := 0                    -- epoch of the receipt chain (R219)
  unbundled : Nat := 0                -- rows committed since the last bundle (R219: reported by the next epoch)
  sigs : List Signature := []         -- fault signatures, oldest first (R362)
  sigSeq : Nat := 0
  sigCursor : Nat := 1                -- CURSOR of `0x2404` (R362)
  suspectList : Bytes := []           -- the fleet suspect list (R363)
  slots : List KeySlot := [{ programmed := true, record := true, image := true }, {}, {}, {}]  -- fuses (R448)
  floor : Nat := 0                    -- anti-rollback floor (R450)
  bank0 : FwBank := { info := some fw22 }
  bank1 : FwBank := {}
  active : Nat := 0                   -- the active bank (R451)
  fullOpen : Nat := 0                 -- the start whose full march has not ended well, 0 none (R326)
  owed : List Defect := []            -- failed units that stand on no list, which the next start swatch finds (R327, R355)
deriving DecidableEq, Repr, Inhabited

/-! ### Cast-on, device state and dictionary -/

/-- Cast-on in progress (R321 to R333). -/
structure CastOn where
  tOn : Nat := 0                      -- clock at the entry into ON, ns
  tStep : Nat := 0                    -- clock at the start of the running step, ns
  mode : Nat := 0                     -- mode of the running step (R332)
  modes : List Nat := []              -- modes chosen for steps 1 to 12 of this start
  step3done : Bool := false           -- step 3 has ended in this power-on: the dictionary answers (R331)
  recovery : Bool := false            -- the boot ROM's recovery console runs (R420)
  nodeId : Nat := 0                   -- node-ID read at step 3 (R414)
  removal : Bool := false             -- a removal request waits for the end of step 3 (R473)
  fullMarch : Bool := false           -- step 8 of this start runs the full march (R326)
  forceNew : Bool := false            -- FORCEFULL was written while step 8 ran: for the next cast-on (R340)
  retired : List Defect := []         -- units retired for this start only (R327)
  standby : Bool := false             -- the standby chip-controller pair is in control (R195)
  firstRun : Bool := false            -- RUNNING has been entered since this cast-on (R433)
  runPend : Bool := false             -- RUN accepted: RUNNING from the next row boundary (R430)
  holdPend : Bool := false            -- HOLD accepted: HOLD once the present row closes (R430)
  bindOffMember : Bool := false       -- a bind-off waits for the orchestrator (R339)
  nmtUp : Bool := false               -- the CAN interface is Operational (R415)
  statusDue : Bool := false           -- STATE or SUBSTATE changed and no status frame has followed (R416)
  sigSince : Bool := false            -- a fault signature since the last status frame (R416)
  logSince : Bool := false            -- a change-log record since the last status frame (R416)
deriving DecidableEq, Repr, Inhabited

/-- A write held until a row boundary (R432, R433): its key and value, and the pending values it replaced, oldest first.
`castOn`: written in CAST-ON, for the first entry into RUNNING. `quiet`: of an entry that is applied at the boundary without
being latched. -/
structure Latched where
  key : Nat
  val : Int
  replaced : List Int := []
  castOn : Bool := false
  quiet : Bool := false
deriving DecidableEq, Repr, Inhabited

/-- An open service token (R436). -/
structure Token where
  scope : Nat
  until_ : Nat                        -- clock at which it lapses, ns
deriving DecidableEq, Repr, Inhabited

/-- Security state that does not survive (R436, R456, R458, R460 to R464). -/
structure Security where
  tokCan : Option Token := none
  tokCxl : Option Token := none
  tokUsb : Option Token := none
  challengeNo : Nat := 0              -- which draw of the random source CHALLENGE is (R458)
  spdmVersion : Bool := false         -- GET_VERSION seen
  spdmCaps : Bool := false            -- GET_CAPABILITIES seen
  spdmAlg : Nat := 0                  -- 0 none; 1 RSASSA; 2 RSAPSS, both 4096 with SHA-512 (R456)
  running : FwInfo := {}              -- the image the chip controller runs
  fwState : Nat := 0                  -- FWSTATE
  phase : Nat := 0                    -- PHASE
  unit : Nat := 0                     -- units changed over in this phase
  since : Nat := 0                    -- clock at which the phase began, ns
  retried : Bool := false             -- the standby pair's load has been retried (R471)
deriving DecidableEq, Repr, Inhabited

/-- The BAR2 window (R417). -/
structure Bar2 where
  req : Nat := 0                      -- REQUEST
  off : Nat := 0
  len : Nat := 0
  busy : Bool := false
  done : Bool := false
  clamped : Bool := false
  more : Bool := false
  abort : Nat := 0
  doneLen : Nat := 0
  buf : Bytes := []                   -- the data buffer's bytes from its start
deriving DecidableEq, Repr, Inhabited

/-! ### Clocks, power, thermal -/

/-- Device time and its disciplining (R271 to R281). -/
structure TimeSt where
  dev : Nat := 0                      -- device time, units of 2^-16 ns
  slew : Int := 0                     -- correction still to be slewed in, units of 2^-16 ns (R275, R277)
  srcDue : Bool := false              -- SOURCE, ROLE or PRIORITY was written: applied at the next beacon (R281)
  skewMax : Nat := 0                  -- largest disagreement of region counters in this second, ps
  skewAt : Nat := 0                   -- clock when this second began, ns
  lockCount : Nat := 0                -- consecutive exchanges below 10 ns (R277)
  lastOffset : Int := 0               -- the offset before the last (trend, R277)
  ppsCount : Nat := 0                 -- consecutive rising edges 1 s apart (R279)
  ppsLast : Option Nat := none        -- clock of the last edge, ns
  ppsPending : Bool := false          -- a PPSSET waits for its edge
  announce : Option (Nat × Nat × Nat × Nat × Nat) := none  -- best announce heard: port, QUALITY, PRIORITY, HOPS, MASTER
  conflict : Bool := false            -- another reachable module is MASTER (R276)
deriving DecidableEq, Repr, Inhabited

/-- A physical region's controller (R261, R272, R289, R290, R296, R300 to R303, R312). -/
structure Reg where
  refLost : List Nat := []            -- reference inputs lost (R261)
  timeOff : Int := 0                  -- the region time counter, as its distance from device time, units of 2^-16 ns (R271)
  slew : Int := 0                     -- correction of the last beacon that is still to be spread, units of 2^-16 ns (R272)
  slewNs : Nat := 0                   -- ns of the 1.024 µs left to spread it over
  fast : Nat := 0                     -- beacons of fast slew left
  alarm : Bool := false               -- a region time alarm waits for the step at the boundary (R272)
  gated : Bool := false               -- clock-gated: spare or unused (R11)
  capN : Nat := 64                    -- cap limit (R302)
  bub : Nat := 0                      -- bubble count (R303)
  warn : Nat := 64                    -- warning limit (R289)
  warnUs : Nat := 0                   -- µs below 95 % of OCWARN since the last rise of the limit
  capUs : Nat := 0                    -- µs below 0.97 S since the last rise of n
  slope : Nat := 64                   -- slope ceiling (R300)
  ramp : Nat := 64                    -- ramp ceiling (R296)
  rampHalf : Bool := false            -- half of a doubled ramp step has passed
  overTrip : Nat := 0                 -- consecutive averages above OCTRIP (R290)
  lastDeciA : Nat := 0                -- rail current of the last µs, 0.1 A
  recent : List Nat := []             -- mean rail currents of the last 16 closed rows, newest first (R312)
  sumDeciA : Nat := 0                 -- sum and count of the running row's samples
  samples : Nat := 0
  pin : Nat := 0                      -- 42 V input power at the eFuse, W
  heart : Bool := true                -- the region controller's heartbeat (R341)
deriving DecidableEq, Repr, Inhabited

/-- A planned voltage raise in units of 2.5 mV, which slews by one unit in 10 µs from `from_` towards `to_` since clock `at_`
(R293). -/
structure Slew where
  from_ : Nat := 0
  to_ : Nat := 0
  at_ : Nat := 0
deriving DecidableEq, Repr, Inhabited

/-- A pre-ramp that began at device time `at_` (R311): Tr in ns, from and to current, 0.1 A. -/
structure PreRamp where
  at_ : Nat
  tr : Nat
  from_ : Nat
  to_ : Nat
deriving DecidableEq, Repr, Inhabited

/-- A block (R264, R265, R293 to R295, R309, R313). -/
structure Blk where
  droop : Nat := 0                    -- quanta the droop response adds (R264)
  sustained : Bool := false           -- sustained stretch of one quantum (R265)
  phase40 : Nat := 0                  -- fortieths of a nominal period elapsed in the current period
  run : Nat := 0                      -- consecutive stretched cycles
  warnMask : Nat := 0                 -- replica paths that warn (R265)
  warnFreeUs : Nat := 0               -- µs with no path warning
  slowRaise : Nat := 0                -- slow-loop raise, units of 2.5 mV
  look : Slew := {}                   -- lookahead raise (R309)
  lookFor : Nat := 0                  -- the last heavy row it serves
  thermal : Nat := 64                 -- thermal limit (R313)
  thBub : Nat := 0                    -- thermal bubble count
  hot : Bool := false                 -- a throttle episode is running
  tightenUs : Nat := 0                -- µs since the last tightening or relaxing
  coolUs : Nat := 0                   -- µs below THROTTLE - 2 °C
  tripUs : Nat := 0                   -- µs at 115 °C or more
  failedSensors : Nat := 0            -- bit k: sensor k failed (R315)
deriving DecidableEq, Repr, Inhabited

/-- A hint for a row (R308): row, whether it names one cell or every cell, LEVEL, DUR; the row in which an HNT gave it. -/
structure HintRec where
  row : Nat
  cell : Option (Nat × Nat) := none
  level : Nat
  dur : Nat
  given : Option Nat := none
deriving DecidableEq, Repr, Inhabited

/-- The module's power controller (R18, R286, R287, R292, R301, R304 to R317). -/
structure Power where
  bladeFault : Option Bool := none    -- the blade pair without current (true: B) (R18)
  sag : Bool := false                 -- the bus is below 34.0 V and not yet above 37.0 V (R286)
  limCurrent : Option Nat := none     -- Vin × 440 A, W (R287)
  overCurrent : Bool := false         -- the last measurement was above 440 A (R287)
  phaseRaise : Slew := {}             -- raise of the phase point (R307)
  limFlow : Option Nat := none        -- R317
  limSensor : Option Nat := none
  limInlet : Option Nat := none       -- what the inlet takes off CAP, W
  limHbm : Option Nat := none         -- what the stacks' temperature takes off CAP, W (R316)
  pavg : List Nat := []               -- last input-power measurements, newest first
  shareScale : Option (Nat × Nat) := none  -- CAPAPPLIED and PAVG of the running 100 µs correction (R301)
  shareUs : Nat := 0
  convFailed : List (Nat × Nat) := [] -- failed phases of converters (R292)
  groupsOff : Bool := true            -- the region converter groups are off (R285, R322)
  hbmOff : Bool := true               -- HBM rails off (R317, R338)
  trips : List Nat := []              -- clock of thermal region trips, ns (R314)
  hints : List HintRec := []          -- hints that count (R308)
  plan : Tab Nat := []                -- fixed plans by row, 0.1 A (R308)
  planFixed : Nat := 0                -- highest row whose plan is fixed
  runAvg : Nat := 0                   -- running average input current of unhinted rows, 0.1 A
  peerPlans : Tab (List Nat) := []    -- plans of the feed group: row * 1024 + module; plan values, then DIDT
  preRamp : Option PreRamp := none    -- the pre-ramp that runs (R311)
  downSlope : Option Nat := none      -- module slope of a fall, mA/µs (R311)
  rowsSinceReady : Nat := 0           -- rows closed since READY, up to 64 (R297: start limit)
deriving DecidableEq, Repr, Inhabited

/-! ### Panel -/

/-- The front panel (R472 to R482). -/
structure Panel where
  page : Nat := 0
  held : Bool := false                -- the release button is held (R477)
  portMsg : Option (Nat × Nat) := none  -- line-1 port message: 1 IN USE, 2 DISABLED (5 s), 3 PULLED LIVE; port
  keyMsg : Nat := 0                   -- 1 REMOVAL REFUSED (5 s); 2 KEY DISABLED (3 s)
  pulled : Option Nat := none         -- a port PULLED LIVE whose message a timed one hides
  blink : Option Nat := none          -- the cage that blinks amber three times (R476)
  blinkAt : Nat := 0                  -- since when it blinks, on the model's clock
deriving DecidableEq, Repr, Inhabited

/-- A packet of the loose network (R127, R134, R140, R148): its virtual channel, 0 request or 1 response; the cell that sends it and
those it goes to; its flits, a header and 128 bytes of data each; the mesh links that carry it, by sending cell and direction; and its
way along a ring, ring B or A, from one segment to another. -/
structure Packet where
  vc : Nat
  src : Nat × Nat
  dests : List (Nat × Nat)
  flits : Nat
  links : List (Nat × Nat × Nat)
  ring : Option (Bool × Nat × Nat) := none
  data : Bytes := []
deriving DecidableEq, Repr, Inhabited

/-- What the module sends, to the outside and on its own loose network. -/
inductive Output where
  | msix (v : Nat)                                    -- an interrupt message of vector v (R389)
  | can (id : Nat) (data : Bytes)                     -- a CAN FD frame
  | usdo (abort : Nat) (data : Bytes)                 -- the answer to a USDO access
  | usb (line : Bytes)                                -- a console reply
  | spdm (resp : Bytes)                               -- an SPDM response
  | tap (data : Bytes)                                -- data shifted out of the test access port
  | naela (port : Nat) (frame : Bytes)                -- a Naela frame
  | hostData (data : Bytes) (poison : Bool)           -- the data of a host memory read
  | snoop (line : Nat)                                -- BISnpInv for a line (R369)
  | packet (p : Packet)                               -- a packet of the loose network (R134)
deriving DecidableEq, Repr, Inhabited

/-! ### Cells -/

/-- An entry of accumulator memory (R64, Table: Accumulator memory entry): the sum in units of 2^L, SPEC, the residue
of R39 and the parity over SPEC. -/
structure AccEnt where
  a    : Int := 0
  spec : Nat := 0
  res  : Nat := 0
  par  : Bool := false
deriving DecidableEq, Repr, Inhabited

/-- The checksum register of an accumulator tile (R189, R190): column and row sums of A; the same sums by value, in units
of 2^unit; for packed contributions the magnitude sums in units of 2^-149 and how many contributions there were. -/
structure CkReg where
  cols : List Int
  rows : List Int
  valC : List Int
  valR : List Int
  unit : Int
  magC : List Nat := List.replicate 32 0
  magR : List Nat := List.replicate 32 0
  packed : Nat := 0
deriving DecidableEq, Repr, Inhabited

/-- One traced STREAM of a tile (R214): the descriptors of the stream and of the WLOAD of its weights, each with the registers that
gave its operand addresses, and the operand checksums of R187: of the activation rows by K index with their SCALESUM, and of the
weight tile by K row with its own. -/
structure Trace where
  stream : Desc
  regs : List W64
  wload : Desc
  wregs : List W64
  sums : List Nat
deriving DecidableEq, Repr, Inhabited

/-- An accumulator tile of 32 rows of one ply with what stands beside it (R64): entries by row * 32 + column, row and
column gauges (an unlisted gauge is none, -32,768), row INEXACT bits, and the control word's fields. -/
structure AccTile where
  ents : Tab AccEnt := []
  rowG : Tab Int := []
  colG : Tab Int := []
  inexact : Nat := 0
  ktotal : Nat := 0
  mcount : Nat := 0
  ncount : Nat := 0
  window : Nat := 0
  overflow : Bool := false
  special : Bool := false
  ck : Option CkReg := none           -- the checksum register, none while invalid
  trace : List Trace := []            -- newest first, at most 32 (R214)
  streams : Nat := 0                  -- how many streams have written the tile
  changed : Bool := false             -- changed since its last compare (R190)
deriving DecidableEq, Repr, Inhabited

/-- Weights with their format, valid K and valid N (R61, R62): codes at k * 32 + n, scales at b * 32 + n; the WLOAD they came by, with
the registers that gave its addresses (R214). -/
structure WTile where
  fmt : Nat
  vk : Nat
  vn : Nat
  codes : List Nat
  scales : List Nat
  load : Desc := 0
  regs : List W64 := []
deriving DecidableEq, Repr, Inhabited

/-- A descriptor in a queue with the scalar registers at its issue, which its operands name (R114), and how many
descriptors of each unit, and UPD jobs, were issued before it (R113). -/
structure Issued where
  d : Desc
  regs : List W64
  before : List Nat
deriving DecidableEq, Repr, Inhabited

/-- A descriptor that has started and not completed: its number in program order, itself, and what its completion waits
on (the use of a SEND, the generation of a BARRIER). -/
structure Started where
  n : Nat
  d : Desc
  aux : Nat
deriving DecidableEq, Repr, Inhabited

/-- A unit's queue and counts (R59, R60). Descriptors are numbered from 0 in program order. -/
structure UnitQ where
  q : List Issued := []               -- issued and waiting
  issued : Nat := 0
  started : Nat := 0
  running : List Started := []        -- started and not completed, oldest first
  finished : List Nat := []           -- numbers that completed ahead of an earlier one
  count : Nat := 0                    -- the unit's completion count
deriving DecidableEq, Repr, Inhabited

/-- A transfer of a scheduled stream that has arrived and not been received: its lines' bytes, and the partial-sum records
that followed its tiles (R131, R189). -/
structure Transfer where
  data : Bytes
  records : List Bytes := []
deriving DecidableEq, Repr, Inhabited

/-- Where a cell stands in its row (R91, R98). -/
inductive CellPhase where
  | idle                              -- no row program: between rows, or aborted
  | running
  | endFetched                        -- END fetched, not yet complete
  | ended                             -- END complete: waste yarn (R99)
deriving DecidableEq, Repr, Inhabited

/-- An entry of a merge table (R138): the line's address, the requesters whose response has not left, whether hits are held for a
multicast, and whether the response of the opening read is still to leave (R140). -/
structure MergeEnt where
  line : Nat
  held : List (Nat × Nat) := []
  holding : Bool := false
  opening : Bool := false
deriving DecidableEq, Repr, Inhabited

/-- A logical cell (R58). The register values at reset are those of Table: Cell state at row start. -/
structure CellSt where
  pc : Nat := 0
  s : List W64 := List.replicate 32 0
  p : List Bool := true :: List.replicate 7 false
  stack : List Nat := []              -- call stack, top first, at most 16 (R125)
  savedS : List W64 := List.replicate 32 0   -- s and p at the start of the row (R97)
  savedP : List Bool := true :: List.replicate 7 false
  phase : CellPhase := .idle
  mat : UnitQ := {}
  vec : UnitQ := {}
  mov : UnitQ := {}
  syn : UnitQ := {}
  chk : UnitQ := {}
  updSent : Nat := 0
  updFinished : List Nat := []
  updCount : Nat := 0                 -- UPD jobs completed, in program order (R113)
  loose : Nat := 0                    -- loose requests outstanding, at most 16 (R135)
  shadow : Option WTile := none       -- the shadow weight register (R62)
  weights : Option WTile := none      -- the weights in the positions
  acc : Tab AccTile := []             -- tiles by ply * 16 + tile
  copies : Tab Nat := []              -- drained copies of kept tiles: the tile's key by the copy's offset (R190)
  latches : List WTile := []          -- the test latches of the four plies, used in chained mode (R71)
  resharded : List (Nat × Nat) := []  -- the RESHARD plans run in the row: source and destination mapping table (R179)
  undo : List (Nat × Bytes) := []     -- undo log: line offset and old line, newest first (R80)
  merge : List MergeEnt := []         -- merge table, oldest first, at most 32 (R138)
  mergeOvf : Nat := 0                 -- MERGEOVF (R141)
  arrived : Tab Nat := []             -- barrier arrivals by channel (R144)
  released : Tab Nat := []            -- barrier releases by channel
  posted : Tab Nat := []              -- uses of each stream posted in the row: sends by dir * 4096 + stream, receives
                                      -- by 32768 + dir * 4096 + stream (R98, R131)
  rx : Tab (List Transfer) := []      -- transfers arrived and not yet received, by dir * 4096 + stream (R131)
  slips : Nat := 0                    -- slip count of the attempt (R94)
  hbAge : Nat := 0                    -- cycles since the last heartbeat (R143)
  ownArea : Option (Nat × Nat) := none  -- retained: slot and image address of the program area held (R110)
  reload : Bool := false              -- the program area is reloaded before the replay (R111)
  rbound : Nat := 0                   -- RBOUND in force (R78)
deriving DecidableEq, Repr, Inhabited

/-- A physical cell's repairs (R73, R81): ply repair words, spare lines used by bank, repaired lines, and the lines
with a corrected error in the last 24 h (line, time by the model's clock, ns). -/
structure PhysCell where
  ply : List Nat := [0, 0, 0, 0]
  spare : List Nat := List.replicate 16 0
  repaired : List Nat := []
  corrected : List (Nat × Nat) := []
  pendingLines : List (Nat × Nat) := []  -- line repairs due at the next row boundary, with the check cause (0 none)
  refill : List Nat := []             -- lines whose content an uncorrectable error lost (R81)
deriving DecidableEq, Repr, Inhabited

/-! ### Patterns, runs and rows -/

/-- A cell-table entry (R103). -/
structure CellEntry where
  progOff : Nat
  progLen : Nat
  progSrc : Nat
  rbound : Nat
  undoMax : Nat
  constOff : Nat
  constLen : Nat
  constSrc : Nat
  entry : Nat
  wlo : Nat
  whi : Nat
deriving DecidableEq, Repr, Inhabited

/-- A resident declaration (R104). -/
structure Resident where
  x : Nat
  y : Nat
  off : Nat
  len : Nat
  disposable : Bool
  written : Bool
  home : Nat
deriving DecidableEq, Repr, Inhabited

/-- A lifeline region (R105). -/
structure Region where
  base : Nat
  len : Nat
  alt : Nat
  attr : Nat
deriving DecidableEq, Repr, Inhabited

/-- A loaded pattern (R101 to R107): where its image stands and its tables as loaded. -/
structure Pattern where
  addr : Nat
  len : Nat
  digest : Bytes
  flevel : Nat
  phase : Nat
  cycles : Nat
  rows : Nat
  packed : Bool := false
  upd : Bool := false
  voidmask : Nat
  cells : List CellEntry              -- in order of y * 48 + x
  residents : List Resident
  regions : List Region
  xfers : List Nat                    -- packed transfers (R106)
  slotTab : Bytes                     -- slot tables (R132)
  barrierTab : Bytes                  -- barrier table (R144)
  mapTab : Bytes                      -- mapping tables (R176)
deriving DecidableEq, Repr, Inhabited

/-- What a run runs (R109, R233, R382, R383). -/
inductive RunKind where
  | pattern | prefill | decode | reshard | copy
deriving DecidableEq, Repr, Inhabited

/-- The active run with what its completion will say (R109, R388). -/
structure RunSt where
  kind : RunKind
  queue : Nat
  cmd : Bytes                         -- the command's 128 bytes
  sqhead : Nat                        -- SQHEAD after the command was fetched
  no : Nat := 0                       -- its number in fetch order
  slot : Nat                          -- pattern slot
  rows : Nat                          -- rows of the run
  done : Nat := 0                     -- rows committed
  arg : Nat := 0
  suspended : Bool := false           -- in HOLD (R109)
  abort : Bool := false               -- ends FAILED_ABORTED once the present row commits (R374)
  silent : Bool := false              -- without a completion: the link went down (R374)
  rowsAll : Nat := 0                  -- ROWS of the completion: rows committed by every run of the command
  replays : Nat := 0
  lateMax : Nat := 0
  slipMax : Nat := 0
  inexact : Nat := 0
  clamps : Nat := 0
  outrange : Nat := 0
  idxClamp : Nat := 0
  duplicate : Nat := 0
  overflow : Nat := 0
  firstClamp : Nat := 0               -- SEQ of the first clamp record; 0 none
  result : Nat := 0
  ranges : List (Nat × Nat) := []     -- output ranges, address and length (R217)
  digAddr : Nat := 0
  handles : List Nat := []            -- ADVANCE: session handles in batch order (R233)
  prefills : List Nat := []           -- ADVANCE: handles of the prefill run still to come or running
  decodes : List Nat := []            -- ADVANCE: handles of the decode run
  batchBuf : Nat := 0                 -- ADVANCE: batch buffer of the run
  results : Bytes := []               -- ADVANCE: result entries
  drawn : List (Nat × Nat) := []      -- ADVANCE: token sampled for each handle
  tSlices : List Nat := []            -- slices on which the run has clamped T (R253)
  moves : List (Nat × Bytes) := []    -- COPY: the bytes to write, by line, as the source held them (R166, R383)
  tdesc : Bytes := []                 -- COPY: the source's tensor descriptor
deriving DecidableEq, Repr, Inhabited

/-- A row's phase (R86, R91, R97, R201). -/
inductive RowPhase where
  | idle                              -- no row: before READY, in SAFE
  | waiting                           -- a row has committed; the next starts at the mark
  | running
  | aborted                           -- failed: to be closed with FAIL (R198)
  | undoing                           -- closed with FAIL, the undo runs
  | darning                           -- undone; a darning runs before UNDONE (R351)
  | waitReplay                        -- undone; the group's REPLAY is awaited (R201)
  | replayDue                         -- the replay starts at the first mark after `replayAt`
deriving DecidableEq, Repr, Inhabited

/-- The structural faults (R126, R207, R248) that end a run. -/
inductive StructFault where
  | address | misalign | logFull | stack | inflightAtEnd | pair | descriptor | psum | tensor | hbmLogFull | upd | notPresent
deriving DecidableEq, Repr, Inhabited

/-- An entry of the failure ring (R220). -/
structure FailEnt where
  row : Nat
  attempt : Nat
  cause : Nat
  x : Nat
  y : Nat
  phys : Nat                          -- region * 64 + column * 8 + row; 0xFFFF none
  suspects : List Suspect             -- the suspects named
  localise : List (Nat × Nat × Nat) := []  -- localisation outcomes: cell x, y, and code (R214)
deriving DecidableEq, Repr, Inhabited

/-- The row in progress, its counters, and the histories (R86 to R100, R181, R197 to R201, R211 to R220). -/
structure RowSt where
  phase : RowPhase := .idle
  num : Nat := 0                      -- ROWNOW
  attempt : Nat := 0
  waste : Bool := true                -- the row is waste yarn
  gridT0 : Nat := 0                   -- device time of the grid's anchor, ns (R86)
  markNs : Nat := 0                   -- device time of the last mark, ns
  mark : Nat := 0                     -- MARKNOW
  startNs : Nat := 0                  -- device time of the row's start
  startMark : Nat := 0                -- device time of the row's start mark (R119)
  deadline : Nat := 0                 -- device time of the deadline mark (R92)
  closeNs : Nat := 0                  -- device time of the close
  late : Nat := 0                     -- lateness of the last closed row, ns
  skippedNow : Nat := 0               -- marks skipped so far by the attempt that is open
  skipped : Nat := 0                  -- SKIPPED
  waitLogged : Bool := false          -- the wait of PERIOD or SLACK has been logged (R88)
  failed : Bool := false              -- the row's verdict is FAIL
  fault : Option StructFault := none  -- the structural fault that ends the run
  faultAt : Nat × Nat := (0, 0)       -- the cell that raised it
  alarm : Option Alarm := none        -- the first cause
  suspects : List Suspect := []       -- suspects of this attempt
  prevSuspects : List Suspect := []   -- suspects of the attempt before
  unrecoverable : Bool := false       -- the row cannot be replayed (R211, R212, R353, R358)
  unrecDetail : Option Nat := none    -- the DETAIL it leaves
  heldFail : Option Alarm := none     -- a failure between rows: the next attempt fails at its start (R486)
  closeHist : List (Suspect × Nat × Nat) := []   -- suspect, row and device time: 24 h (R213)
  retireDue : List (Suspect × Nat) := []  -- units to retire at the next row boundary, with the cause
  lanesDue : List (LinkId × List Nat) := []  -- failed seam and ring links whose lanes are tested at the row boundary (R194)
  inexact : Nat := 0
  overflow : Nat := 0
  clamps : Nat := 0
  outrange : Nat := 0
  idxClamp : Nat := 0
  duplicate : Nat := 0
  retries : Nat := 0
  spCorr : Nat := 0
  hbmCorr : Nat := 0
  uncorr : Nat := 0
  localised : Nat := 0
  tclamps : Nat := 0
  jobs : Nat := 0
  undone : Nat := 0                   -- attempts of this row undone
  clsA : Nat := 0                     -- class A and B failures of its undone attempts
  clsB : Nat := 0
  ownDue : Option Nat := none         -- device time at which the module could report its verdict
  groupKnown : Option Bool := none    -- the group verdict, once known
  children : List (Nat × Bool) := []  -- subtree verdicts received: origin, clean
  undoneFrom : List Nat := []         -- UNDONE received
  replayAt : Nat := 0                 -- the replay starts at the first mark after this device time
  heldVerdicts : List (Nat × VerdictMsg) := []   -- messages for rows not yet reached: KIND and message
  vlat : List Nat := []               -- verdict latencies of the last 4,096 rows, newest first
  history : List Nat := []            -- row history entries of 128 bits, oldest first, at most 4,096 (R100)
  failRing : List FailEnt := []       -- oldest first, at most 1,024 (R220)
  head : Bytes := zeros 64            -- chain head (R216)
  prevHead : Bytes := zeros 64        -- HEAD of the previous bundle or the epoch's start value
  firstRow : Nat := 0                 -- first row since the last bundle; 0 none
  sinceBundle : Nat := 0              -- rows committed since the last bundle
  ctrBase : List Nat := []            -- counters at the last bundle
  epochFirst : Bool := true           -- the next bundle is the epoch's first
  carried : Nat := 0                  -- unbundled rows of the previous epoch
  forceNew : Bool := false            -- a READ_RECEIPT asks for a bundle after the next commit (R219)
  bindBundle : Bool := false          -- the next bundle closes a bind-off
  stretchAt : Tab (Nat × Nat) := []   -- STRETCHED and QUANTA of blocks at the row's start (R100)
deriving DecidableEq, Repr, Inhabited

/-! ### HBM, fabric, update engines -/

/-- HBM's lifeline state and errors (R193, R203, R206, R208). -/
structure HbmSt where
  log : List (Nat × Bytes) := []      -- logged lines of the row: address, old line; newest first (R206)
  written : List Nat := []            -- lines of versioned regions written in the row (R208)
  inAlt : List Nat := []              -- lines whose committed copy stands in ALT (selector set)
  rowLines : List Nat := []           -- every HBM line the row wrote (R203)
  heldWrites : List (Nat × Bytes) := []   -- host writes held until the row closes, oldest first
  jobRegions : List Region := []      -- disposable regions that a job of the row writes (R257)
  poisoned : List Nat := []
  corrected : List (Nat × Nat) := []  -- DRAM rows with a corrected error in 24 h: row, time
  repairDue : List Nat := []          -- DRAM rows repaired at the next row boundary
  uncorrTimes : List (Nat × Nat) := []  -- slice and time of uncorrectable lines (R358)
  unhashed : List (Nat × Nat) := []   -- output ranges whose digests are not complete (R217)
  snoop : List Nat := []              -- lines the host may hold, most recent first (R369)
  waitSnoop : List (Nat × Option (Nat × Nat)) := []  -- snoops not yet answered, and the host read that waits: address, length
  lostRegions : List Region := []     -- regions reported lost (R212)
deriving DecidableEq, Repr, Inhabited

/-- A link's retry record (R194): consecutive failures of one flit, times of retries, spare wires used by group. -/
structure LinkSt where
  sameFlit : Nat := 0
  retries : List Nat := []
  spares : Tab (List Nat) := []
  failed : Bool := false
deriving DecidableEq, Repr, Inhabited

/-- A job of an update engine (R244): the sending cell, the job's number there and its record's address. -/
structure Job where
  x : Nat
  y : Nat
  n : Nat
  addr : Nat
deriving DecidableEq, Repr, Inhabited

/-- The defaults a running job took (R247, R254). -/
structure JobRun where
  job : Job
  record : Bytes
  lr : Nat
  wd : Nat
  b1 : Nat
  b2 : Nat
  eps : Nat
  gscale : Nat
deriving DecidableEq, Repr, Inhabited

/-- An update engine (R244). -/
structure Engine where
  queue : List Job := []
  running : Option JobRun := none
deriving DecidableEq, Repr, Inhabited

/-! ### Darning -/

/-- How a ring-port stream crosses the ring (R133, R147): its cell and number, ring B or A, the segments it goes from and to, and the
positions of a frame reserved on every link on its way, 0 when it runs in loose positions. -/
structure RingRoute where
  x : Nat
  y : Nat
  stream : Nat
  ringB : Bool
  from_ : Nat
  to_ : Nat
  share : Nat
deriving DecidableEq, Repr, Inhabited

/-- The map and darning in progress (R9, R343 to R357). -/
structure MapSt where
  u : Tab Nat := []                   -- u by region * 8 + column, unlisted: 3 (R10)
  v : Tab Nat := []                   -- v by region row, unlisted: 3
  badCells : List (Nat × Nat) := []   -- unusable positions: region * 8 + column, cell row
  badRegions : List Nat := []         -- unusable regions
  voids : List Nat := []              -- void logical regions, 6 * row + col
  queue : List (Lost × Nat) := []     -- lost units to be darned, with their cause
  now : Option (Lost × Nat) := none   -- the running darning
  oldU : Tab Nat := []                -- the map in force before the running darning (R346)
  oldV : Tab Nat := []
  oldBadCells : List (Nat × Nat) := []
  oldBadRegions : List Nat := []
  redo : List (Lost × Nat) := []      -- units of a stopped darning, applied again first when it starts again (R346)
  entered : List Lost := []           -- units entered in the map while the darning runs (R355)
  startNs : Nat := 0
  durUs : Nat := 0                    -- how long the running darning takes, µs
  lostRanges : List (Nat × Nat × Nat × Nat) := []  -- resident ranges marked LOST: x, y, offset, length (R347)
  outStacks : List Nat := []          -- slices out of service (R329)
  slowStacks : List Nat := []         -- stacks at 5.6 Gb/s
  heldReplay : Option Nat := none     -- a stack is retrained: its slice (R358)
  swatchFails : List (Bytes × Nat) := []  -- selectors that failed within 24 h, with the time (R364)
  retireSel : List Defect := []       -- units of selectors that failed again, to be retired at the next row boundary (R364)
  nextSel : Tab (Nat × Nat) := []     -- by region: the position in the suspect list, and the runs of that selector in this pass (R364)
  gated : Bool := false               -- unused cells are clock-gated: from cast-on step 10 on (R11)
  awake : List Nat := []              -- unused physical cells ungated for a swatch (R11)
  homes : Tab (Nat × Nat) := []       -- home ports by logical cell: stack, and the logical cell at the port (R148)
  proxies : Tab (Nat × Nat) := []     -- proxy ports of edge cells without an active port of their own (R151)
  rings : Tab (List RingRoute) := []  -- ring capacity of the streams of the loaded patterns, by slot (R133)
deriving DecidableEq, Repr, Inhabited

/-! ### Sessions -/

/-- A session record (R225). -/
structure Session where
  status : Nat := 0
  set : Nat := 0
  tag : Nat := 1
  pos : Nat := 0
  plen : Nat := 0
  prompt : Nat := 0
  seed : Nat := 0
  sctr : Nat := 0
  temp : Nat := 0
  topk : Nat := 0
  topp : Nat := 0
  stop : Nat := 0
  maxpos : Nat := 0
  last : Nat := 0
  pages : List Nat := []              -- page numbers in order, slice * 65,536 + n (R230)
  inRun : Bool := false               -- named by a running ADVANCE
deriving DecidableEq, Repr, Inhabited

/-- The session pool (R230, R240). -/
structure Pool where
  used : List Nat := []               -- pages allocated
  zeroing : List (Nat × List (Nat × Nat)) := []  -- handle, and the pages being zeroed: number, and address at the close
  runSeq : Nat := 0                   -- runs started since cast-on (R233)
deriving DecidableEq, Repr, Inhabited

/-! ### Host interface -/

/-- A queue pair (R372, R373). -/
structure QueuePair where
  sqbase : Nat := 0
  cqbase : Nat := 0
  sqent : Nat := 0x00F
  cqent : Nat := 0x00F
  en : Bool := false
  ien : Bool := false
  coalCnt : Nat := 0
  coalTime : Nat := 0
  active : Bool := false
  dberr : Bool := false
  fetcherr : Bool := false
  cqfull : Bool := false
  sqhead : Nat := 0
  sqtail : Nat := 0
  cqhead : Nat := 0
  cqtail : Nat := 0
  phase : Bool := true                -- the phase bit of the next completion
  coal : Nat := 0                     -- completions accumulated for the next message (R389)
deriving DecidableEq, Repr, Inhabited

/-- A fetched command (R375): queue, bytes, SQHEAD after its fetch, a number in fetch order. -/
structure Fetched where
  queue : Nat
  cmd : Bytes
  sqhead : Nat
  no : Nat
  wait : Bool := false                -- in execution or waiting at the head (FENCE, READ_RECEIPT with NEW, CLOSE with ZERO)
deriving DecidableEq, Repr, Inhabited

/-- A command that has ended: its completion record with SQHEAD and PHASE zero, and its digests (R376, R388). -/
structure Ended where
  queue : Nat
  no : Nat
  sqhead : Nat
  irq : Bool
  bytes : Bytes
  digests : List Bytes := []
  digAddr : Nat := 0
  writes : List (Nat × Bytes) := []   -- results written to host or device memory at release: address field, bytes
  needDigest : Bool := false          -- held until the hash lanes finish (R217)
  silent : Bool := false              -- its completion is not written: the link went down (R374)
deriving DecidableEq, Repr, Inhabited

/-- The host interface (R365 to R390). -/
structure HostSt where
  width : Nat := 0
  rate : Nat := 0
  ioOnly : Bool := false              -- CXLIOONLY
  up : Bool := false                  -- the link is trained
  onlyB : Bool := false               -- only connector B is mated (R19)
  memActive : Bool := false           -- Memory_Active
  fetched : List Fetched := []        -- fetched and not completed, in fetch order
  fetchNo : Nat := 0
  rrFetch : Nat := 63                 -- queue after which the fetch looks (R375)
  rrRun : Nat := 63                   -- queue after which the next run is looked for
  ending : List Ended := []           -- taken effect, waiting for a commit (R376)
  held : List Ended := []             -- committed, waiting for room, digests or log records
  msixTab : Tab Nat := []             -- MSI-X table by 32-bit word, as written
  masked : List Nat := []             -- MSI-X vectors masked
  pendingVec : List Nat := []         -- MSI-X pending bits
deriving DecidableEq, Repr, Inhabited

/-! ### Naela -/

/-- A message sent and not acknowledged (R397). -/
structure SentMsg where
  dst : Nat
  id : Nat
  bytes : Bytes
  sends : Nat := 1
  row : Nat := 0
  window : Nat := 0
  inGroup : Bool := true
  port : Nat := 0
  crcFails : Nat := 0
deriving DecidableEq, Repr, Inhabited

/-- A Naela port (R392 to R395, R408). -/
structure PortSt where
  expect : Nat := 1                   -- FSEQ expected next
  sent : Nat := 0                     -- FSEQ of the newest frame sent
  acked : Nat := 0                    -- highest ACK received
  replay : List (Nat × Bytes) := []   -- frames kept for replay, oldest first, at most 1,024
  credit : List Nat := [512, 512, 512, 512]  -- frames of credit by channel
  txWait : List (Nat × Bytes) := []   -- channel and payload of frames that wait for credit (R395)
  resends : List (Nat × Nat) := []    -- FSEQ and times it was resent
  resentAt : List Nat := []           -- clock of each resent frame in the last ms
  partialMsg : Tab Bytes := []        -- payload gathered on each channel
  groups : Nat := 0                   -- lane groups up, bits 0 to 3
  dropDue : List Nat := []            -- lanes whose group is dropped at the next row boundary
  present : Bool := false
  negotiated : Option Bytes := none   -- the peer's NEGOTIATE payload
  tested : Bool := false              -- the link test has passed
  admitDue : Bool := false            -- admission waits for the row boundary
  retrained : Bool := false           -- the port has been retrained after a link failure
  failures : Nat := 0                 -- link failures counted (R394)
  retry : Option Nat := none          -- a retry request sent for this FSEQ
deriving DecidableEq, Repr, Inhabited

/-- Naela (R391 to R413). -/
structure NaelaSt where
  ports : Tab PortSt := []
  ident : Option (Nat × Nat × Nat × Nat) := none  -- MODULEID, DIMX, DIMY, DIMZ since a port was last admitted (R412)
  sentMsgs : List SentMsg := []
  nextId : Tab Nat := []              -- MSGID by destination
  gotId : Tab Nat := []               -- highest MSGID that arrived in order, by source (0: none)
  early : List (Nat × Bytes) := []    -- messages ahead of their MSGID order, with the port they came by
  rxDone : List (Nat × Nat × Bytes) := []  -- messages gathered from frames and not yet taken: port, channel, bytes
  seenAhead : Tab (List Nat) := []    -- MSGIDs that arrived ahead of their order, by source
  heldMsgs : List (Nat × Bytes) := []  -- messages for rows not yet reached (R402), with the port they came by
  unrouted : List Bytes := []         -- control messages that have no route at present
  afterCommit : List SentMsg := []    -- messages to modules outside the group, released at commit
  crcBad : Tab Nat := []              -- arrivals with a bad CRC-64, by SRC * 2^32 + MSGID
  links : Tab (List Nat) := []        -- link-state database: neighbours by module
  linkAt : Tab Nat := []              -- the sender's time of the newest ROUTE message of a module
  linksNext : Option (Tab (List Nat)) := none  -- recomputed tree, applied at a row boundary (R399)
  winLines : Tab (List Nat) := []     -- lines of each window written in the row, not yet sent
  routes : Tab Nat := []              -- ROUTES entries (R412)
  routesNext : Option (Tab Nat) := none  -- ROUTES as written, applied at a row boundary (R432)
  barUp : List (Nat × Nat × Nat) := []   -- subtree arrivals: channel, generation, module
  barSent : List (Nat × Nat) := []    -- arrivals sent up: channel, generation
  barRel : Tab Nat := []              -- highest generation released, by channel
deriving DecidableEq, Repr, Inhabited

/-! ### The state -/

/-- The state of the module (R1 to R486). -/
structure State where
  fe : FrontEnd := {}
  flash : Flash := {}
  dev : DevState := .off              -- STATE (R429)
  obj : Tab Int := []                 -- numeric dictionary entries that differ from their default (R421 to R427)
  latched : List Latched := []        -- latched writes pending (R433)
  start : CastOn := {}
  sec : Security := {}
  bar2 : Bar2 := {}
  time : TimeSt := {}
  regs : Tab Reg := []                -- region controllers by region index
  blks : Tab Blk := []                -- blocks by global block index
  power : Power := {}
  panel : Panel := {}
  map : MapSt := {}
  cells : Tab CellSt := []            -- logical cells by y * 48 + x
  phys : Tab PhysCell := []           -- physical cells by region * 56 + cell row * 8 + cell column
  mem : Mem := []                     -- device memory by device address: HBM and scratchpads (R152)
  hostMem : Mem := []                 -- the host's memory (R378)
  pats : Tab Pattern := []            -- pattern table by slot (R108)
  run : Option RunSt := none
  row : RowSt := {}
  hbm : HbmSt := {}
  links : Tab LinkSt := []            -- mesh, seam and ring links (R194)
  engines : Tab Engine := []
  sess : Tab Session := []            -- session table (R225)
  pool : Pool := {}
  queues : Tab QueuePair := []
  host : HostSt := {}
  naela : NaelaSt := {}
  out : List Output := []             -- what the module has sent, newest first
  free : Nat := 0                     -- the model's counter of free values
  clock : Nat := 0                    -- the model's time, ns
  pending : List Instr := []          -- commands that wait, first in, first out
deriving DecidableEq, Repr, Inhabited

/-- The module after reset: no 42 V, front end OFF, factory flash (R284, R335). -/
def State.reset : State := {}

/-- Why a step stops. -/
inductive Fault where
  /-- Raised by any command whose operand names a cell, region, block, port, queue, slice or converter outside the ranges of R6 and
  the tables of its kind. Safe: the hardware has no such unit, so no such event exists. -/
  | noSuchUnit (what : String) (index : Nat)
deriving DecidableEq, Repr, Inhabited

/-- Why a command has no meaning here. -/
inductive Refusal where
  /-- Raised by an arm of `exec` that has no meaning; no arm raises it. Safe: a step that stops proves nothing. -/
  | notModelled (mnemonic : String)
deriving DecidableEq, Repr, Inhabited

end Sys2Proof.Machine
end

