-- ==== Sys2Proof/Machine/Ops.lean ====
section
/-!
DEFINITION. The named operations over the state: field updates, dictionary entries, the change log, interrupts, device
states, the defect list, free values.
-/
namespace Sys2Proof.Machine

/-- The outcomes of a step of this machine. -/
abbrev Result := Host.Outcome State Fault Refusal


/-- Update of the field `fe`. -/
def State.modFe (f : FrontEnd → FrontEnd) (s : State) : State := { s with fe := f s.fe }
/-- Update of the field `flash`. -/
def State.modFlash (f : Flash → Flash) (s : State) : State := { s with flash := f s.flash }

/-! ### Free values -/

/-- A free value: what the spec leaves open. Each draw advances the counter; nothing is known of the value. -/
def State.draw (s : State) : Nat × State := (Config.freeValue s.free, { s with free := s.free + 1 })

/-! ### Time -/

/-- Device time in ns (R271). -/
def State.now (s : State) : Nat := s.time.dev / 65536

/-! ### Dictionary entries -/

/-- The value of a numeric entry: what was stored, or its default. -/
def State.ob (s : State) (idx sub : Nat) : Int :=
  match Tab.get? s.obj (okey idx sub) with
  | some v => v
  | none => Objects.dflt (okey idx sub)

/-- The value of an entry that holds no negative value. -/
def State.nat (s : State) (idx sub : Nat) : Nat := (s.ob idx sub).toNat

/-- A message about a port on line 1 (R476): 1 IN USE and 2 DISABLED hide 3 PULLED LIVE, which waits for the attention key, for the 5 s
they show. -/
def Panel.show (n : Panel) (kind p : Nat) : Panel :=
  match n.portMsg with
  | some (3, q) => if kind = 3 then { n with portMsg := some (3, p) } else { n with portMsg := some (kind, p), pulled := some q }
  | some _ => if kind = 3 then { n with pulled := some p } else { n with portMsg := some (kind, p) }
  | none => { n with portMsg := some (kind, p) }

/-- A message about a port shows. -/
def State.showPort (s : State) (kind p : Nat) : State := { s with panel := s.panel.show kind p }

/-- A refused quiesce shows on the display, and the cage blinks amber (R476). -/
def State.showInUse (s : State) (p : Nat) : State :=
  let n := s.panel.show 1 p
  { s with panel := { n with blink := some p, blinkAt := s.clock } }

/-- MODULEID, DIMX, DIMY and DIMZ as written (R398, R412). -/
def State.identity (s : State) : Nat × Nat × Nat × Nat := (s.nat 0x2600 1, s.nat 0x2600 2, s.nat 0x2600 3, s.nat 0x2600 4)

/-- This module's MODULEID in force: what was written takes effect when a port is admitted (R412; log entry 38). -/
def State.moduleId (s : State) : Nat := (s.naela.ident.getD s.identity).1

/-- Stores a numeric entry. -/
def State.setOb (s : State) (idx sub : Nat) (v : Int) : State := { s with obj := Tab.set s.obj (okey idx sub) v }

/-- The largest value of an entry's type. -/
def Objects.top (idx sub : Nat) : Nat :=
  match Objects.find idx sub with
  | some o => (match o.typ.size with | some n => 2 ^ (8 * n) - 1 | none => 2 ^ 64 - 1)
  | none => 2 ^ 64 - 1

/-- Adds to a counter entry, saturating at the largest value of its type (R220). -/
def State.addOb (s : State) (idx sub n : Nat) : State := s.setOb idx sub (min (s.nat idx sub + n) (Objects.top idx sub) : Nat)

/-! ### Interrupts and output -/

/-- Sends something to the outside. -/
def State.emit (s : State) (o : Output) : State := { s with out := o :: s.out }

/-- Raises MSI-X vector `v`: a message, or the pending bit while the vector is masked (R389). -/
def State.msix (s : State) (v : Nat) : State :=
  if s.host.masked.contains v then
    { s with host := { s.host with pendingVec := if s.host.pendingVec.contains v then s.host.pendingVec else v :: s.host.pendingVec } }
  else s.emit (.msix v)

/-! ### The change log (R440 to R446) -/

/-- The code of an origin (R441). -/
def originCode : Origin → Nat
  | .can => 1
  | .cxl => 2
  | .usb => 3
  | .panel => 4
  | .hostCmd => 5
  | .cable => 6
  | .darning => 7
  | .defectList => 8
  | .fwAct => 9
  | .updEngine => 10
  | .module => 11
  | .castOn => 12

/-- Bytes 0 to 47 of a record (Table: Change-log record). -/
def LogRec.head (r : LogRec) : Bytes :=
  le 4 r.seq ++ le 8 r.devtime ++ le 6 r.row ++ le 1 r.origin ++ le 1 r.result ++ le 2 r.idx ++ le 1 r.sub ++ le 1 r.flags
    ++ le 8 r.old ++ le 8 r.req ++ le 8 r.app

/-- The 64 bytes of a record. -/
def LogRec.bytes (r : LogRec) : Bytes := r.head ++ r.chain

/-- c(n) from c(n - 1) and bytes 0 to 47 of record n (R444). -/
def chainNext (c : Bytes) (r : LogRec) : Bytes := (sha512 (c ++ r.head)).take 16

/-- The row number that records carry: 0 before READY (Table: Change-log record). -/
def State.logRow (s : State) : Nat :=
  match s.dev with
  | .off => 0
  | .castOn => 0
  | _ => s.row.num

/-- Appends a record: SEQ counts modulo 2^32, the ring holds 65,536, CHAIN is computed at once (R440, R444). -/
def ChangeLog.push (l : ChangeLog) (r : LogRec) : ChangeLog :=
  let r := { r with seq := (l.seq + 1) % 2 ^ 32 }
  let c := chainNext l.chain r
  let all := l.recs ++ [{ r with chain := c }]
  { l with recs := all.drop (all.length - 65536), seq := r.seq, chain := c, buffered := l.buffered + 1 }

/-- Writes a change-log record; vector 64 is raised for it (R389, R440). -/
def State.log (s : State) (o : Origin) (result idx sub : Nat) (old req app : Nat := 0) (flags : Nat := 0) : State :=
  let r : LogRec :=
    { seq := 0, devtime := s.now, row := s.logRow, origin := originCode o, result := result, idx := idx, sub := sub,
      flags := flags, old := old, req := req, app := app }
  ({ s with
    flash := { s.flash with log := s.flash.log.push r }
    start := { s.start with logSince := true } }).msix 64

/-- A numeric value as OLD, REQUESTED or APPLIED hold it: sign-extended to 8 bytes (R443). -/
def logVal (v : Int) : Nat := ofSigned 64 v

/-- A value longer than 8 B as the log holds it: the first 8 B of its SHA-512 (R443). -/
def logDigest (v : Bytes) : Nat := ofLe ((sha512 v).take 8)

/-- Logs an event: RESULT 10 (R443). -/
def State.logEvent (s : State) (o : Origin) (idx sub : Nat) (old app : Nat) : State := s.log o 10 idx sub old app app

/-! ### Device states (R429 to R431) -/

/-- The code of a device state. -/
def stateCode : DevState → Nat
  | .off => 0
  | .castOn => 1
  | .ready => 2
  | .running => 3
  | .hold => 4
  | .bindOff => 5
  | .safe => 6

/-- A PPSSET that waits for its edge is discarded when the module leaves READY (R275). -/
def State.dropPps (s : State) : State :=
  if s.dev = .ready ∧ s.time.ppsPending then
    let v := s.nat 0x2100 7
    let s := { s with time := { s.time with ppsPending := false } }
    (s.log .module 11 0x2100 7 v v 0).setOb 0x2100 7 0
  else s

/-- A status frame falls due, while STATUSFRAME is 1 (R416). -/
def State.dueStatus (s : State) : State :=
  { s with start := { s.start with statusDue := s.start.statusDue || s.nat 0x2200 4 == 1 } }

/-- Changes the device state: vector 66, a status frame falls due, and the change is logged at 0x2200:01 (R431). -/
def State.enter (s : State) (d : DevState) : State :=
  if s.dev = d then s
  else
    let s := s.dropPps
    let old := stateCode s.dev
    let s := { s with dev := d }.dueStatus
    (s.log .module 10 0x2200 1 old (stateCode d) (stateCode d)).msix 66

/-- Changes SUBSTATE: a status frame falls due (R416). -/
def State.setSubstate (s : State) (v : Nat) : State :=
  if s.nat 0x2200 2 = v then s
  else s.dueStatus.setOb 0x2200 2 (v : Int)

/-! ### Defect list (R327, R328) -/

/-- The 16 bytes of an entry. -/
def defectBytes (d : Defect) : Bytes :=
  le 1 d.kind ++ le 1 d.source ++ le 2 d.region ++ le 1 d.ccol ++ le 1 d.crow ++ le 4 d.detail ++ le 4 d.start ++ le 2 0

/-- Has the final entry of KIND 0xFF been written (FULL)? -/
def Flash.full (f : Flash) : Bool := f.defects.any (fun d => d.kind == 0xFF)

/-- The entry that a lost unit makes in the defect list (R327, R342). -/
def lostDefect (cause : Nat) : Lost → Defect
  | .cell r row col => { kind := 1, source := 0x80 + cause, region := r, ccol := col, crow := row }
  | .block b => { kind := 2, source := 0x80 + cause, region := b / 14, detail := b % 14 }
  | .region r => { kind := 3, source := 0x80 + cause, region := r }

/-- Do two entries name one unit? -/
def sameUnit (d e : Defect) : Bool :=
  d.kind == e.kind && d.region == e.region && d.ccol == e.ccol && d.crow == e.crow && d.detail == e.detail

/-- A unit that the full list does not take is retired for the present start only, and logged; the next start swatch finds it again
(R327). -/
def State.retireForStart (s : State) (o : Origin) (d : Defect) : State :=
  ({ s with start := { s.start with retired := s.start.retired ++ [d] }, flash := { s.flash with owed := s.flash.owed ++ [d] } }).log
    o 10 0x2301 4 d.kind (logDigest (defectBytes d)) (logDigest (defectBytes d)) 1

/-- Appends a defect with this start's number; when only one place is left the final entry of KIND 0xFF is written,
and from then on units are retired for the present start only, each logged (R327). -/
def State.appendDefect (s : State) (o : Origin) (d : Defect) : State :=
  let d := { d with start := s.nat 0x2D00 3 }
  let n := s.flash.defects.length
  if s.flash.full then s.retireForStart o d
  else if n < 16383 then
    ({ s with flash := { s.flash with defects := s.flash.defects ++ [d] } }).logEvent o 0x2301 2 n (n + 1)
  else
    let fin : Defect := { kind := 0xFF, source := d.source, start := d.start }
    let s := ({ s with flash := { s.flash with defects := s.flash.defects ++ [fin] } }).logEvent o 0x2301 2 n (n + 1)
    s.retireForStart o d

/-- The index of the entry just appended; none when the list was full and the unit is retired for this start only (R327, R360). -/
def State.newDefect (s : State) : Option Nat := if s.flash.full then none else some (s.flash.defects.length - 1)

/-- The defects that count at this start: the list and the units retired for this start only. -/
def State.defectsNow (s : State) : List Defect := s.flash.defects ++ s.start.retired

/-! ### Variant (R1, R3) -/

/-- Update engines present: 48 or 0. -/
def State.engineCount (s : State) : Nat := if s.flash.variantG then 0 else 48

/-- Naela ports present: 18 or 12. -/
def State.portCount (s : State) : Nat := if s.flash.variantG then 12 else 18

/-! ### Is the module on? -/

/-- Does the module act at all (R284: with no 42 V it does nothing and answers nothing)? -/
def State.on (s : State) : Bool := s.fe.fe == .on

/-- Does the chip controller serve the dictionary (R331, R420)? -/
def State.serves (s : State) : Bool := s.on && s.start.step3done && !s.start.recovery

/-- A command that only an operating module can meet: with the front end off, nothing happens (R284). -/
def State.whenOn (s : State) (f : State → State) : Result := .next (if s.on then f s else s)

/-! ### STATUS bits (`0x2100:03`) -/

/-- Sets or clears a STATUS bit. -/
def State.timeBit (s : State) (i : Nat) (v : Bool) : State :=
  let w := s.nat 0x2100 3
  s.setOb 0x2100 3 ((if bit w i then (if v then w else w - 2 ^ i) else if v then w + 2 ^ i else w : Nat))

/-! ### Time passes -/

/-- Units of 2^-16 ns that a counter of region time or of device time adds in 12 cycles: 8 increments of 27,307 and 4 of 27,306, which
are 5 ns (R271). -/
def timeStep : Nat := 8 * 27307 + 4 * 27306

/-- A count of device time has 64 bits of ns and 16 of fraction (R271). -/
def timeWrap : Nat := 2 ^ 80

/-- The part of the pending correction that `ns` nanoseconds slew in: 200 ppm of them at most (R275). -/
def TimeSt.slewed (t : TimeSt) (ns : Nat) : Int := clampI (-(ns * 65536 / 5000 : Nat)) (ns * 65536 / 5000 : Nat) t.slew

/-- The chip time master's count after `ns` nanoseconds. -/
def TimeSt.elapse (t : TimeSt) (ns : Nat) : TimeSt :=
  let d := t.slewed ns
  { t with dev := (t.dev + ns * timeStep / 5 + d : Int).toNat % timeWrap, slew := t.slew - d }

/-- The part of its last correction that a region counter slews in during `ns` nanoseconds: it is spread over the 1.024 µs after the
beacon (R272). -/
def Reg.slewed (k : Reg) (ns : Nat) : Int := if k.slewNs = 0 then 0 else k.slew * min ns k.slewNs / k.slewNs

/-- A region counter after `ns` nanoseconds in which device time was slewed by `d`: it follows its own correction and not that of device
time. -/
def Reg.elapse (k : Reg) (ns : Nat) (d : Int) : Reg :=
  { k with timeOff := k.timeOff + k.slewed ns - d, slew := k.slew - k.slewed ns, slewNs := k.slewNs - ns }

/-- Eighths of a nominal period that one period of a block takes: 8, and one for each quantum of stretch; of the droop's and the
sustained stretch's quanta the larger count applies (R264, R265, R282). -/
def Blk.period8 (b : Blk) : Nat := 8 + max b.droop (if b.sustained then 1 else 0)

/-- `ns` nanoseconds at a block, and the stretched cycles that ended in them. A nanosecond is 2.4 nominal periods, 96 fortieths. -/
def Blk.elapse (b : Blk) (ns : Nat) : Blk × Nat :=
  let p := 5 * b.period8
  let t := b.phase40 + 96 * ns
  if p = 40 then ({ b with run := 0, phase40 := 0 }, 0) else ({ b with phase40 := t % p, run := b.run + t / p }, t / p)

/-- The stretched cycles of `ns` nanoseconds at one block, counted in STRETCHED (`0x4000`+b:11) with the quanta they added in :12 and the
longest run of them in :13 (R264, R267). The clock of a block whose PLL has failed stands (R263). -/
def State.stretchBlock (s : State) (ns b : Nat) (v : Blk) : State :=
  if s.nat (0x4000 + b) 0x16 = 2 then s
  else
    let k := v.elapse ns
    let s := { s with blks := Tab.set s.blks b k.1 }
    if k.2 = 0 then s
    else
      let s := (s.addOb (0x4000 + b) 0x11 k.2).addOb (0x4000 + b) 0x12 (k.2 * (k.1.period8 - 8))
      if s.nat (0x4000 + b) 0x13 < k.1.run then s.setOb (0x4000 + b) 0x13 (min k.1.run 0xFFFFFFFF : Nat) else s

/-- The same at every block that stretches, or has just ceased to. -/
def State.stretch (s : State) (ns : Nat) : State :=
  (s.blks.filter (fun e => e.2.period8 != 8 || e.2.run != 0 || e.2.phase40 != 0)).foldl (fun s e => s.stretchBlock ns e.1 e.2) s

/-- `ns` nanoseconds pass: the model's clock, and with the front end on device time and the regions' counters, which pending corrections
slew (R271, R272, R275), the stretched cycles of the blocks (R267), and the powered minutes of MARCHAGE (R326). -/
def State.pass (s : State) (ns : Nat) : State :=
  let t := s.clock + ns
  if s.on then
    let n := (t - s.start.tOn) / 60000000000 - (s.clock - s.start.tOn) / 60000000000
    let d := s.time.slewed ns
    let s := { s with clock := t, time := s.time.elapse ns, regs := s.regs.map (fun (e : Nat × Reg) => (e.1, e.2.elapse ns d)) }
    (if n = 0 then s else s.addOb 0x2D00 5 n).stretch ns
  else { s with clock := t }

/-- A command to a unit: a fault when no such unit exists, nothing while the front end is off. -/
def State.unit (s : State) (what : String) (index : Nat) (ok : Bool) (f : State → State) : Result :=
  if ok then s.whenOn f else .fault (.noSuchUnit what index)

/-! ### Table entries with defaults -/

/-- Region controller `r`. -/
def State.reg (s : State) (r : Nat) : Reg := Tab.getD s.regs r {}

/-- Region time of region `r`, ns: its own counter (R271, R273). -/
def State.regionTime (s : State) (r : Nat) : Nat := ((s.time.dev + (s.reg r).timeOff : Int).toNat % timeWrap) / 65536

/-- Stores region controller `r`. -/
def State.setReg (s : State) (r : Nat) (v : Reg) : State := { s with regs := Tab.set s.regs r v }

/-- The fast slew of every region has ended (R272). -/
def State.endFast (s : State) : State := { s with regs := s.regs.map (fun (e : Nat × Reg) => (e.1, { e.2 with fast := 0 })) }

/-- Block `b`. -/
def State.blk (s : State) (b : Nat) : Blk := Tab.getD s.blks b {}

/-- Stores block `b`. -/
def State.setBlk (s : State) (b : Nat) (v : Blk) : State := { s with blks := Tab.set s.blks b v }

/-- The number of a logical cell: y * 48 + x. -/
def cellNo (x y : Nat) : Nat := y * 48 + x

/-- Logical cell (x, y). -/
def State.cell (s : State) (x y : Nat) : CellSt := Tab.getD s.cells (cellNo x y) {}

/-- Stores logical cell (x, y). -/
def State.setCell (s : State) (x y : Nat) (c : CellSt) : State := { s with cells := Tab.set s.cells (cellNo x y) c }

/-- Physical cell by number. -/
def State.physCell (s : State) (n : Nat) : PhysCell := Tab.getD s.phys n {}

/-- Queue pair `q`. -/
def State.queue (s : State) (q : Nat) : QueuePair := Tab.getD s.queues q {}

/-- Stores queue pair `q`. -/
def State.setQueue (s : State) (q : Nat) (v : QueuePair) : State := { s with queues := Tab.set s.queues q v }

/-- Naela port `p`. -/
def State.port (s : State) (p : Nat) : PortSt := Tab.getD s.naela.ports p {}

/-- Stores Naela port `p`. -/
def State.setPort (s : State) (p : Nat) (v : PortSt) : State :=
  { s with naela := { s.naela with ports := Tab.set s.naela.ports p v } }

/-- STATE of Naela port `p` (R412): 0 when the variant has no such port. -/
def State.portState (s : State) (p : Nat) : Nat := if p < s.portCount then s.nat (0x2620 + p) 1 else 0

/-- Session slot `i`. -/
def State.session (s : State) (i : Nat) : Session := Tab.getD s.sess i {}

/-- The engine of slice `i`. -/
def State.engine (s : State) (i : Nat) : Engine := Tab.getD s.engines i {}

/-- The running pattern's slot entry. -/
def State.runPattern (s : State) : Option Pattern :=
  match s.run with
  | some r => (match r.kind with
    | .reshard => none
    | .copy => none
    | _ => Tab.get? s.pats r.slot)
  | none => none

end Sys2Proof.Machine
end

