-- ==== Sys2Proof/Machine/PowerOps.lean ====
section
/-!
DEFINITION. What the power limits come to: voltage and droop threshold of a block, issue limit and its source, bubbles, region
ceilings (R264, R292, R293, R295, R297, R303, R307, R315, R319).
-/
namespace Sys2Proof.Machine

/-- The phase point in force: that of the pattern whose row runs; none while waste yarn ticks (R307). -/
def State.phasePoint (s : State) : Option Nat := if s.row.waste then none else s.runPattern.map (·.phase)

/-- A field of the phase point in force, or `d` when none is. -/
def State.phaseField (s : State) (sub d : Nat) : Nat :=
  match s.phasePoint with
  | some n => s.nat (0x2510 + n) sub
  | none => d

/-- The trimmed setpoint and the maximum of a block, mV (R293). -/
def State.vtrim (s : State) (b : Nat) : Nat := s.nat (0x4000 + b) 2
def State.vmax (s : State) (b : Nat) : Nat := min (s.vtrim b + 80) 850

/-- A planned raise as it stands at a clock time. -/
def Slew.now (v : Slew) (clock : Nat) : Nat :=
  let n := (clock - v.at_) / 10000
  if v.from_ ≤ v.to_ then min v.to_ (v.from_ + n) else max v.to_ (v.from_ - n)

/-- It is to come to `w` from now on. -/
def Slew.toward (v : Slew) (clock w : Nat) : Slew := if v.to_ = w then v else { from_ := v.now clock, to_ := w, at_ := clock }

/-- The raises of a block in force, units of 2.5 mV: the planned ones as far as they have slewed. -/
def State.raises (s : State) (b : Nat) : Nat := s.power.phaseRaise.now s.clock + (s.blk b).look.now s.clock + (s.blk b).slowRaise

/-- The voltage in force, mV, half a millivolt dropped. -/
def State.vset (s : State) (b : Nat) : Nat := clampN 550 (s.vmax b) (s.vtrim b + s.raises b * 5 / 2)

/-- The droop threshold in force, mV (R264, R307). -/
def State.droopTh (s : State) (b : Nat) : Nat := if s.phaseField 2 0 = 0 then s.nat (0x4000 + b) 0x10 else s.phaseField 2 0

/-- How many of the lowest `n` bits of a word are set. -/
def popcount : Nat → Nat → Nat
  | 0, _ => 0
  | n + 1, w => (if bit w n then 1 else 0) + popcount n w

/-- Phases of a block out of service, and the limit that goes with them (Table: Phase-loss derating). -/
def State.phasesLost (s : State) (b : Nat) : Nat := 8 - popcount 8 (s.nat (0x4000 + b) 7)
def phaseLimit (lost : Nat) : Nat := if lost ≤ 1 then 64 else if lost = 2 then 54 else 41

/-- Working sensors of a block, and the thermal limit they allow (R315). -/
def Blk.sensors (b : Blk) : Nat := 4 - popcount 4 b.failedSensors
def Blk.sensorLimit (b : Blk) : Nat := if b.sensors ≤ 2 then 48 else 64

/-- The actuator in force: BUBBLES? -/
def State.bubbling (s : State) : Bool := s.nat 0x2500 4 == 1

/-- The limits on matrix issue of a block, each with its LIMSRC code (Table: Limits on matrix issue). A sag of the bus holds
the slope ceiling at 16 (R286). -/
def State.issueLimits (s : State) (b : Nat) : List (Nat × Nat) :=
  let r := s.reg (b / 14)
  let k := s.blk b
  [(1, s.phaseField 3 64), (2, if s.power.rowsSinceReady < 64 then 48 else 64),
    (3, if s.bubbling then 64 else r.capN), (4, if s.bubbling then k.sensorLimit else min k.thermal k.sensorLimit),
    (5, r.warn), (6, phaseLimit (s.phasesLost b)), (7, r.ramp), (8, if s.power.sag then min 16 r.slope else r.slope)]

/-- The issue limit in force and the limit that binds: the first of the table among equals, 0 when none does. -/
def State.issueLimit (s : State) (b : Nat) : Nat × Nat :=
  (s.issueLimits b).foldl (fun best e => if e.2 < best.1 then (e.2, e.1) else best) (64, 0)

/-- The bubble count in force (R303, R313). -/
def State.bubbles (s : State) (b : Nat) : Nat := if s.bubbling then max (s.reg (b / 14)).bub (s.blk b).thBub else 0

/-- CEILING of a region: its ramp, slope and warning limits' least. -/
def State.ceiling (s : State) (r : Nat) : Nat :=
  min (s.reg r).ramp (min (if s.power.sag then min 16 (s.reg r).slope else (s.reg r).slope) (s.reg r).warn)

/-- Blocks now throttled (`0x2502:04`): by the thermal loop of the actuator in force. -/
def State.throttled (s : State) : Nat :=
  (s.blks.filter (fun e => if s.bubbling then decide (0 < e.2.thBub) else decide (e.2.thermal < 64))).length

end Sys2Proof.Machine
end

