-- ==== Sys2Proof/Machine/Signatures.lean ====
section
/-!
DEFINITION. Fault signatures (R359 to R362): their deterministic CBOR encoding and the ring they enter.
-/
namespace Sys2Proof.Machine

/-- A CBOR head of major type `m` with argument `v` in its shortest form (RFC 8949, 4.2.1). -/
def cborHead (m v : Nat) : Bytes :=
  if v < 24 then le 1 (m * 32 + v)
  else if v < 256 then le 1 (m * 32 + 24) ++ le 1 v
  else if v < 65536 then le 1 (m * 32 + 25) ++ be 2 v
  else if v < 2 ^ 32 then le 1 (m * 32 + 26) ++ be 4 v
  else le 1 (m * 32 + 27) ++ be 8 v

/-- An unsigned integer. -/
def cborUint (v : Nat) : Bytes := cborHead 0 v

/-- A signed integer. -/
def cborInt (v : Int) : Bytes := if v < 0 then cborHead 1 (-1 - v).toNat else cborHead 0 v.toNat

/-- A byte string. -/
def cborBytes (b : Bytes) : Bytes := cborHead 2 b.length ++ b

/-- An array of encoded items. -/
def cborArray (l : List Bytes) : Bytes := cborHead 4 l.length ++ l.flatten

/-- A map of unsigned keys to encoded values; keys stand in ascending order, as listed. -/
def cborMap (l : List (Nat × Bytes)) : Bytes := cborHead 5 l.length ++ (l.map (fun e => cborUint e.1 ++ e.2)).flatten

/-- A map of unsigned keys to unsigned values (locations, operating points). -/
def cborUMap (l : List (Nat × Nat)) : Bytes := cborMap (l.map (fun e => (e.1, cborUint e.2)))

/-- What a signature says besides what every signature carries (Table: Signature keys). -/
structure SigInfo where
  loc : List (Nat × Nat) := []        -- location keys in ascending order
  link : Option (Nat × Nat) := none   -- LINK: direction and class
  mech : Nat
  attempt : Option Nat := none
  ophash : Option Bytes := none
  needHash : Bool := false            -- a class A or B cause
  action : Nat := 0
  localise : Option Nat := none
  defect : Option Nat := none
  origin : Nat := 0
  selector : Option Bytes := none
  duration : Option (Nat × Nat) := none
  suspects : List (List (Nat × Nat) × Option (Nat × Nat)) := []   -- further units: location keys, LINK
deriving DecidableEq, Repr, Inhabited

/-- FWDIGEST of what the chip controller runs (R452). -/
def FwInfo.digestBytes (f : FwInfo) : Bytes :=
  match f.digest with
  | some d => d
  | none => Config.factoryDigest

/-- A location map, LINK included in key order. -/
def locationMap (loc : List (Nat × Nat)) (link : Option (Nat × Nat)) : Bytes :=
  let before := (loc.filter (fun e => e.1 < 14)).map (fun e => (e.1, cborUint e.2))
  let after := (loc.filter (fun e => 14 < e.1)).map (fun e => (e.1, cborUint e.2))
  let link := match link with
    | some (d, c) => [(14, cborArray [cborUint d, cborUint c])]
    | none => []
  cborMap (before ++ link ++ after)

/-- The operating point as far as the state knows it for the block of the location, else none (key 8). -/
def State.opPoint (s : State) (i : SigInfo) : Option Bytes :=
  match i.loc.find? (fun e => e.1 == 6) with
  | some (_, b) =>
    some (cborUMap ([(1, s.vset b), (2, s.nat (0x4000 + b) 8),
      (3, s.nat (0x4000 + b) 0x11 - (Tab.getD s.row.stretchAt b (0, 0)).1), (4, (s.issueLimit b).1)]
      ++ (match s.phasePoint with
        | some n => [(5, n)]
        | none => []) ++ [(6, s.nat 0x2500 2)]))
  | none => none

/-- The time of a signature: region time where the location is in a region, else the module's (R273). -/
def State.sigTime (s : State) (i : SigInfo) : Nat :=
  match i.loc.find? (fun e => e.1 == 1) with
  | some (_, r) => s.regionTime r
  | none => s.now

/-- The CBOR map of a signature, whatever its length (R360). -/
def State.sigMap (s : State) (i : SigInfo) (seq : Nat) : Bytes :=
  let opt {α : Type} (k : Nat) (v : Option α) (f : α → Bytes) : List (Nat × Bytes) :=
    match v with
    | some x => [(k, f x)]
    | none => []
  let pat := s.runPattern
  cborMap (
    [(0, cborUint 1), (1, cborBytes (fit 16 Config.serialNumber)), (2, cborUint seq), (3, locationMap i.loc i.link),
      (4, cborUint i.mech), (5, cborUint (s.sigTime i)), (6, cborUint s.row.num)]
    ++ opt 7 i.attempt cborUint
    ++ opt 8 (s.opPoint i) id
    ++ [(9, cborBytes (fit 64 s.sec.running.digestBytes))]
    ++ opt 10 pat (fun p => cborBytes p.digest)
    ++ opt 11 i.ophash cborBytes
    ++ [(12, cborUint i.action)]
    ++ opt 13 i.localise cborUint
    ++ opt 14 i.defect cborUint
    ++ [(15, cborUint s.flash.epoch)]
    ++ opt 16 pat (fun p => cborUint p.flevel)
    ++ [(17, cborUint i.origin)]
    ++ opt 18 i.selector cborBytes
    ++ opt 19 i.duration (fun d => cborArray [cborUint d.1, cborUint d.2])
    ++ (if i.suspects.isEmpty then [] else [(20, cborArray (i.suspects.map (fun e => locationMap e.1 e.2)))]))

/-- The bytes of a signature: of the further units as many as leave it within 512 B (R360; log entry 104). -/
def State.sigBytes (s : State) (i : SigInfo) (seq : Nat) : Bytes :=
  let with_ (n : Nat) : Bytes := s.sigMap { i with suspects := i.suspects.take n } seq
  with_ (((List.range (i.suspects.length + 1)).reverse.find? (fun n => decide ((with_ n).length ≤ 512))).getD 0)

/-- Writes a fault signature: the ring keeps the last 16,384, vector 64 is raised, and a class A or B signature
without its operands is counted in NOHASH (R359 to R362). -/
def State.signature (s : State) (i : SigInfo) : State :=
  let seq := s.flash.sigSeq + 1
  let all := s.flash.sigs ++ [{ seq := seq, bytes := s.sigBytes i seq }]
  let s := { s with
    flash := { s.flash with sigs := all.drop (all.length - 16384), sigSeq := seq }
    start := { s.start with sigSince := true } }
  let s := if i.needHash && i.ophash.isNone then s.addOb 0x2404 5 1 else s
  s.msix 64

end Sys2Proof.Machine
end

