-- ==== Sys2Proof/Machine/HostOps.lean ====
section
/-!
DEFINITION. Operations of the host interface that other families use: addresses in command fields, completion
records, their release in order at a commit, coalesced interrupts (R370, R373, R376, R388, R389, R445).
-/
namespace Sys2Proof.Machine

/-- HBM ends here: 48 slices of 128 GiB (R14). -/
def hbmEnd : Nat := 48 * 0x2000000000

/-- The slice of a device address in HBM. -/
def sliceOf (a : Nat) : Nat := a / 0x2000000000

/-- Does an address field select host memory (R378)? -/
def isHost (a : Nat) : Bool := bit a 63

/-- The address an address field holds. -/
def addrOf (a : Nat) : Nat := bits a 51 0

/-- Are bits [62:52] of an address field zero (R378)? -/
def addrFieldOk (a : Nat) : Bool := bits a 62 52 == 0

/-- Do `n` bytes from a device address lie in HBM slices in service (R153, R329)? -/
def State.hbmOk (s : State) (a n : Nat) : Bool :=
  decide (a + n ≤ hbmEnd) && (n == 0 ||
    (List.range 48).all (fun i => !(s.map.outStacks.contains i && decide (sliceOf a ≤ i) && decide (i ≤ sliceOf (a + n - 1)))))

/-- Can an address field be accessed for `n` bytes: host memory, or HBM in service? -/
def State.fieldOk (s : State) (a n : Nat) : Bool := addrFieldOk a && (isHost a || s.hbmOk (addrOf a) n)

/-- Can a command name an address field as the place of `n` bytes of its results: host memory, or HBM (R153)? The write itself fails
after the commit in a slice that is out of service then (R329, R370). -/
def destOk (a n : Nat) : Bool := addrFieldOk a && (isHost a || decide (addrOf a + n ≤ hbmEnd))

/-! ### The committed bytes of HBM (R203, R208) -/

/-- The lifeline regions of every loaded pattern. -/
def State.allRegions (s : State) : List Region := s.pats.flatMap (fun e => e.2.regions)

/-- The region among `rs` that holds an address. -/
def regionAt (rs : List Region) (a : Nat) : Option Region :=
  rs.find? (fun r => decide (r.base ≤ a) && decide (a < r.base + r.len))

/-- Where the committed copy of an address stands: itself, or in ALT when the line's selector says so (R208). -/
def State.committedAt (s : State) (a : Nat) : Nat :=
  if s.hbm.inAlt.contains (a / 64 * 64) then
    match regionAt s.allRegions a with
    | some r => r.alt + (a - r.base)
    | none => a
  else a

/-- The committed bytes of HBM: the undo copy of a line the row has logged, the committed copy of a versioned line
(R203). -/
def State.committedRead (s : State) (a n : Nat) : Bytes :=
  (List.range n).map (fun i =>
    let b := s.committedAt (a + i)
    match s.hbm.log.find? (fun e => e.1 == b / 64 * 64) with
    | some e => e.2.getD (b % 64) 0
    | none => s.mem.read b)

/-- The pieces of a write, line by line: address and bytes. -/
def pieces : Nat → Nat → Bytes → List (Nat × Bytes)
  | 0, _, _ => []
  | fuel + 1, a, data =>
    if data.isEmpty then []
    else
      let n := 64 - a % 64
      (a, data.take n) :: pieces fuel (a + n) (data.drop n)

/-- A whole-line write clears the line's poison (R193). -/
def HbmSt.cleared (h : HbmSt) (line : Nat) (whole : Bool) : HbmSt :=
  if whole then { h with poisoned := h.poisoned.filter (· != line) } else h

/-- The module writes a piece inside one line of HBM beside the row: the committed bytes change. -/
def State.writeCommitted (s : State) (a : Nat) (d : Bytes) : State :=
  let b := s.committedAt a
  let h := s.hbm.cleared (b / 64 * 64) (d.length == 64)
  { s with
    mem := s.mem.writeBytes b d
    hbm := { h with log := h.log.map (fun e => if e.1 = b / 64 * 64 then (e.1, patch e.2 (b % 64) d) else e) } }

/-- Reads `n` bytes at an address field. -/
def State.readField (s : State) (a n : Nat) : Bytes :=
  if isHost a then s.hostMem.readBytes (addrOf a) n else s.committedRead (addrOf a) n

/-- Writes bytes at an address field. -/
def State.writeField (s : State) (a : Nat) (bs : Bytes) : State :=
  if isHost a then { s with hostMem := s.hostMem.writeBytes (addrOf a) bs }
  else (pieces (bs.length / 64 + 2) (addrOf a) bs).foldl (fun s p => s.writeCommitted p.1 p.2) s

/-- The contents of a completion record (R388). -/
structure Completion where
  cid : Nat := 0
  status : Nat := 0
  opcode : Nat := 0
  result : Nat := 0
  rows : Nat := 0
  replays : Nat := 0
  lateMax : Nat := 0
  slipMax : Nat := 0
  inexact : Nat := 0
  clamps : Nat := 0
  outrange : Nat := 0
  idxClamp : Nat := 0
  duplicate : Nat := 0
  overflow : Nat := 0
  detail : Nat := 0
deriving DecidableEq, Repr, Inhabited

/-- A count of a completion record, saturating at 2^32 - 1. -/
def cnt32 (v : Nat) : Bytes := le 4 (min v (2 ^ 32 - 1))

/-- The 64 bytes of a record with SQHEAD and PHASE zero, as the receipt leaf hashes it (R376). -/
def Completion.bytes (c : Completion) : Bytes :=
  le 2 c.cid ++ le 2 0 ++ le 1 c.status ++ le 1 0 ++ le 1 c.opcode ++ le 1 0 ++ le 8 c.result ++ cnt32 c.rows
    ++ cnt32 c.replays ++ cnt32 c.lateMax ++ cnt32 c.slipMax ++ cnt32 c.inexact ++ cnt32 c.clamps ++ cnt32 c.outrange
    ++ cnt32 c.idxClamp ++ cnt32 c.duplicate ++ cnt32 c.overflow ++ le 8 c.detail

/-- The opcode, CID and IRQ flag of a command (R378). -/
def cmdOpcode (c : Bytes) : Nat := uAt c 0 1
def cmdIrq (c : Bytes) : Bool := bit (uAt c 1 1) 0
def cmdCid (c : Bytes) : Nat := uAt c 2 2

/-- Room in a completion queue: one entry is left between tail and head. -/
def QueuePair.room (q : QueuePair) : Bool := (q.cqtail + 1) % (q.cqent + 1) != q.cqhead

/-- The place of completion entry `i`, as an address field. -/
def QueuePair.cqAddr (q : QueuePair) (i : Nat) : Nat := q.cqbase + 64 * i

/-- Raises a queue's vector when enough completions have accumulated (R389). -/
def State.coalesce (s : State) (q : Nat) : State :=
  let qp := s.queue q
  if qp.coal + 1 ≥ max qp.coalCnt 1 then
    let s := s.setQueue q { qp with coal := 0 }
    if qp.ien then s.msix q else s
  else s.setQueue q { qp with coal := qp.coal + 1 }

/-- Writes one completion: its results and digests first, then the record with SQHEAD and phase, then the interrupt
(R202, R217, R373, R389). A failed write of a result sets bit 63 of DETAIL (R370). -/
def State.writeCompletion (s : State) (e : Ended) : State :=
  let digs := if e.digAddr = 0 then [] else [(e.digAddr, e.digests.flatten)]
  let writes := (e.writes ++ digs).filter (fun w => !w.2.isEmpty)
  let bad := writes.any (fun w => !s.fieldOk w.1 w.2.length)
  let s := writes.foldl (fun s w => if s.fieldOk w.1 w.2.length then s.writeField w.1 w.2 else s) s
  let s := if bad then s.log .module 10 0x2B00 (uAt e.bytes 6 1) 0 0 0 else s
  let qp := s.queue e.queue
  let r := patch (patch e.bytes 2 (le 2 e.sqhead)) 5 (le 1 (if qp.phase then 1 else 0))
  let r := if bad then patch r 63 (le 1 (uAt r 63 1 ||| 0x80)) else r
  let s := s.writeField (qp.cqAddr qp.cqtail) r
  let t := (qp.cqtail + 1) % (qp.cqent + 1)
  let s := s.setQueue e.queue { qp with cqtail := t, phase := if t = 0 then !qp.phase else qp.phase }
  if e.irq then s.coalesce e.queue else s

/-- Flushes the change log to flash and mirror (R445). -/
def State.flushLog (s : State) : State :=
  { s with flash := { s.flash with log := { s.flash.log with buffered := 0 } } }

/-- Is ACTIVE due to clear: EN is 0 and nothing of the queue is left (R374)? -/
def State.settleQueue (s : State) (q : Nat) : State :=
  let qp := s.queue q
  let busy := s.host.fetched.any (fun f => f.queue == q) || s.host.ending.any (fun e => e.queue == q)
    || s.host.held.any (fun e => e.queue == q) || (match s.run with | some r => r.queue == q | none => false)
  if qp.active && !qp.en && !busy then s.setQueue q { qp with active := false } else s

/-- Ends a fetched command: it leaves the fetched list and waits for the next commit (R376). -/
def State.endCommand (s : State) (f : Fetched) (c : Completion) (writes : List (Nat × Bytes) := [])
    (digests : List Bytes := []) (digAddr : Nat := 0) (needDigest : Bool := false) : State :=
  let c := { c with cid := cmdCid f.cmd, opcode := cmdOpcode f.cmd }
  let e : Ended :=
    { queue := f.queue, no := f.no, sqhead := f.sqhead, irq := cmdIrq f.cmd, bytes := c.bytes, digests := digests,
      digAddr := digAddr, writes := writes, needDigest := needDigest }
  { s with host := { s.host with
      fetched := s.host.fetched.filter (fun g => g.no != f.no)
      ending := s.host.ending ++ [e] } }

/-- The names of the statuses (Table: Status codes). -/
def stDone : Nat := 0x00
def stClamped : Nat := 0x01
def stReplayed : Nat := 0x02
def stMisaligned : Nat := 0x10
def stAddress : Nat := 0x11
def stMalformed : Nat := 0x12
def stFeature : Nat := 0x13
def stState : Nat := 0x20
def stTableFull : Nat := 0x21
def stNotPresent : Nat := 0x22
def stNoSpace : Nat := 0x23
def stUnrecoverable : Nat := 0x30
def stAborted : Nat := 0x31

/-- Was a command aborted? -/
def Ended.aborted (e : Ended) : Bool := uAt e.bytes 4 1 == stAborted

/-- Has every command fetched before `f`, from the queues its QMASK names, completed (R386)? Commands aborted meanwhile count as
completed (R390). -/
def State.fenceClear (s : State) (f : Fetched) : Bool :=
  let m := uAt f.cmd 16 8
  let named (q : Nat) : Bool := m == 0 || bit m q
  !(s.host.fetched.any (fun g => decide (g.no < f.no) && named g.queue) || s.host.ending.any (fun e => decide (e.no < f.no) && named e.queue && !e.aborted)
    || s.host.held.any (fun e => decide (e.no < f.no) && named e.queue && !e.aborted) || (match s.run with
      | some r => decide (r.no < f.no) && named r.queue
      | none => false))

/-- The FENCE commands that have nothing left to wait for take effect. -/
def State.settleFences (s : State) : State :=
  (s.host.fetched.filter (fun f => f.wait && cmdOpcode f.cmd == 0x21)).foldl (fun s f =>
    if s.fenceClear f then s.endCommand f { status := stDone } else s) s

/-- Is an opcode that of a run command (R375)? -/
def isRunOp (op : Nat) : Bool := [0x02, 0x03, 0x04, 0x11].contains op

/-- A command that is fetched and not in execution: a run command waits for its run, any other for its turn. -/
def Fetched.unstarted (f : Fetched) : Bool := !f.wait || isRunOp (cmdOpcode f.cmd)

/-- Aborts every fetched command that has not ended, or those of one queue (R374, R377, R338). -/
def State.abortFetched (s : State) (sel : Fetched → Bool) : State :=
  (s.host.fetched.filter sel).foldl (fun s f => s.endCommand f { status := stAborted }) s

/-- A queue access fails: FETCHERR, and the pair stops as though EN had been cleared; its run ends once its present row commits (R373,
R374). -/
def State.breakQueue (s : State) (q : Nat) : State :=
  let s := s.setQueue q { s.queue q with fetcherr := true, en := false }
  let s := s.abortFetched (fun f => f.queue == q && f.unstarted)
  { s with run := s.run.map (fun (r : RunSt) => if r.queue = q then { r with abort := true } else r) }.settleQueue q

/-- CQFULL of a queue. -/
def State.setFull (s : State) (q : Nat) (v : Bool) : State := s.setQueue q { s.queue q with cqfull := v }

/-- Offers one held completion: written when its digests are complete, the snoops of the commit are answered (R369)
and its queue has room, else kept, its queue's CQFULL telling of the want of room; one that is not to be written waits no more.
Completions of one queue keep their order. -/
def State.offer (s : State) (e : Ended) : State :=
  let ahead := s.host.held.any (fun h => h.queue == e.queue)
  let keep (s : State) : State := { s with host := { s.host with held := s.host.held ++ [e] } }
  if e.silent then (s.setFull e.queue false).settleQueue e.queue
  else if ahead || e.needDigest || s.hbm.waitSnoop.any (fun w => w.2.isNone) then keep s
  else if !(s.queue e.queue).room then
    keep (s.setFull e.queue true)
  else if !s.fieldOk ((s.queue e.queue).cqAddr (s.queue e.queue).cqtail) 64 then
    (s.setFull e.queue false).breakQueue e.queue
  else
    let s := s.setFull e.queue false
    let s := if uAt e.bytes 4 1 = 1 then s.flushLog else s
    (s.writeCompletion e).settleQueue e.queue

/-- Delivers what can be delivered of the held completions, in order; then the fences that waited for them. -/
def State.deliver (s : State) : State :=
  let l := s.host.held
  (l.foldl State.offer { s with host := { s.host with held := [] } }).settleFences

/-- Releases, at a commit, the completions of every command that has taken effect (R376). -/
def State.releaseEnding (s : State) : State :=
  let l := s.host.ending
  ({ s with host := { s.host with held := s.host.held ++ l, ending := [] } }).deliver

/-- Completes a fetched command with a refusal: nothing changes, nothing is clamped, and the refusal is logged
(R379). The record is that of a command field at byte 0, the opcode (R443). -/
def State.refuse (s : State) (f : Fetched) (status : Nat) : State :=
  let s := s.log .hostCmd (if status < 0x20 then 8 else 5) 0x2B00 (cmdOpcode f.cmd)
    (cmdCid f.cmd + f.queue * 65536) (cmdOpcode f.cmd) (cmdCid f.cmd + f.queue * 65536) 0x10
  s.endCommand f { status := status }

/-- Logs one clamped command field (R439, R443): CID in bytes 0 and 1 of OLD, the queue in byte 2, the field's byte
offset in byte 3. Answers the record's SEQ. -/
def State.logField (s : State) (f : Fetched) (off req app : Nat) : State :=
  s.log .hostCmd 1 0x2B00 (cmdOpcode f.cmd) (cmdCid f.cmd + f.queue * 65536 + off * 16777216) req app 0x10

/-- Logs the abort of a command whose completion is not written (R374): an event of the command. -/
def State.logAbort (s : State) (f : Fetched) : State :=
  s.log .hostCmd 10 0x2B00 (cmdOpcode f.cmd) (cmdCid f.cmd + f.queue * 65536) (cmdOpcode f.cmd) stAborted 0x10

end Sys2Proof.Machine
end

