-- ==== Sys2Proof/Machine/Geometry.lean ====
section
/-!
DEFINITION. Where logical units stand (R6, R9, R10, R15, R343): positions, the map from the defect entries, ring
ports, home ports and slice rates (R148 to R151).
-/
namespace Sys2Proof.Machine

/-! ### The map -/

/-- u of a cell column (R10: 3 while the column holds no unusable position). -/
def MapSt.uOf (m : MapSt) (region col : Nat) : Nat := Tab.getD m.u (region * 8 + col) 3

/-- v of a region row. -/
def MapSt.vOf (m : MapSt) (row : Nat) : Nat := Tab.getD m.v row 3

/-- Skips the unused position (R9). -/
def skipTo (unused j : Nat) : Nat := if j < unused then j else j + 1

/-- Physical region of a logical region (column k, row r): its index. -/
def MapSt.physRegion (m : MapSt) (k r : Nat) : Nat := r * 7 + skipTo (m.vOf r) k

/-- A physical position: region index, cell column, cell row. -/
structure Place where
  region : Nat
  col : Nat
  row : Nat
deriving DecidableEq, Repr, Inhabited

/-- The physical place of logical cell (x, y) (R9); none when its logical region is void (R352). -/
def MapSt.place (m : MapSt) (x y : Nat) : Option Place :=
  if m.voids.contains (6 * (y / 6) + x / 8) then none
  else
    let r := m.physRegion (x / 8) (y / 6)
    some { region := r, col := x % 8, row := skipTo (m.uOf r (x % 8)) (y % 6) }

/-- The logical index a position beyond the unused one carries; none at the unused position. -/
def unskip (unused j : Nat) : Option Nat := if j = unused then none else some (if j < unused then j else j - 1)

/-- The logical region that a physical region carries: 6 * row + col; none for an unused or void position. -/
def MapSt.logicalRegion (m : MapSt) (region : Nat) : Option Nat :=
  match unskip (m.vOf (region / 7)) (region % 7) with
  | some k => if m.voids.contains (6 * (region / 7) + k) then none else some (6 * (region / 7) + k)
  | none => none

/-- The logical cell that a physical cell carries. -/
def MapSt.logicalCell (m : MapSt) (p : Place) : Option (Nat × Nat) :=
  match m.logicalRegion p.region, unskip (m.uOf p.region p.col) p.row with
  | some l, some j => some (8 * (l % 6) + p.col, 6 * (l / 6) + j)
  | _, _ => none

/-- Block index within the region of a physical cell (R6). -/
def Place.block (p : Place) : Nat := p.row * 2 + (if p.col < 4 then 0 else 1)

/-- Global block index. -/
def Place.globalBlock (p : Place) : Nat := p.region * 14 + p.block

/-- Number of a physical cell: region * 56 + row * 8 + column (R357). -/
def Place.number (p : Place) : Nat := p.region * 56 + p.row * 8 + p.col

/-- The four cells of a global block. -/
def blockCells (b : Nat) : List Place :=
  let k := b % 14
  (List.range 4).map (fun i => { region := b / 14, col := (k % 2) * 4 + i, row := k / 2 })

/-- Is a coordinate a logical cell (R6)? -/
def isCell (x y : Nat) : Bool := decide (x < 48) && decide (y < 36)

/-- Unusable rows of a cell column. -/
def MapSt.colBad (m : MapSt) (region col : Nat) : List Nat :=
  (m.badCells.filter (fun e => e.1 == region * 8 + col)).map (·.2)

/-- Does a cell column still have its spare (R343 case 1)? -/
def MapSt.colSpare (m : MapSt) (region col : Nat) : Bool := m.uOf region col == 3 && (m.colBad region col).isEmpty

/-- Does a region row still have its spare (R343 case 3)? -/
def MapSt.rowSpare (m : MapSt) (row : Nat) : Bool := m.vOf row == 3 && !m.badRegions.any (fun r => r / 7 == row)

/-- What losing a unit leads to (R343). -/
inductive Loss where
  | nothing                           -- already unusable, or nothing logical stood there
  | cellDarn                          -- case 1
  | regionDarn (region : Nat)         -- case 3
  | void (logical : Nat)              -- case 4
deriving DecidableEq, Repr, Inhabited

/-- A region becomes unusable: cases 3 and 4 of R343. -/
def MapSt.loseRegion (m : MapSt) (r : Nat) : MapSt × Loss :=
  if m.badRegions.contains r then (m, .nothing)
  else
    let l := m.logicalRegion r
    let spare := m.rowSpare (r / 7)
    let m := { m with badRegions := m.badRegions ++ [r] }
    if spare then ({ m with v := Tab.set m.v (r / 7) (r % 7) }, .regionDarn r)
    else match l with
      | some k => ({ m with voids := m.voids ++ [k] }, .void k)
      | none => (m, .nothing)

/-- A cell becomes unusable: cases 1 and 2. -/
def MapSt.loseCell (m : MapSt) (region row col : Nat) : MapSt × Loss :=
  if (m.colBad region col).contains row || m.badRegions.contains region then (m, .nothing)
  else
    let spare := m.colSpare region col
    let m := { m with badCells := m.badCells ++ [(region * 8 + col, row)] }
    if spare then ({ m with u := Tab.set m.u (region * 8 + col) row }, .cellDarn)
    else m.loseRegion region

/-- A block becomes unusable: four columns at once, or the region when one has no spare (R348). -/
def MapSt.loseBlock (m : MapSt) (b : Nat) : MapSt × Loss :=
  let cs := blockCells b
  if m.badRegions.contains (b / 14) then (m, .nothing)
  else if cs.all (fun p => m.colSpare p.region p.col || (m.colBad p.region p.col).contains p.row) then
    (cs.foldl (fun m p => (m.loseCell p.region p.row p.col).1) m, .cellDarn)
  else
    m.loseRegion (b / 14)

/-- Loses a unit. -/
def MapSt.lose (m : MapSt) : Lost → MapSt × Loss
  | .cell region row col => m.loseCell region row col
  | .block b => m.loseBlock b
  | .region r => m.loseRegion r

/-- The unit that a defect entry makes unusable (R329). -/
def defectUnit (d : Defect) : Option Lost :=
  if d.kind = 1 then some (.cell d.region d.crow d.ccol)
  else if d.kind = 2 then some (.block (d.region * 14 + d.detail))
  else if d.kind = 3 then some (.region d.region)
  else none

/-- The map that step 10 builds: the four cases applied to the entries in the order they were appended (R343). -/
def mapOf (ds : List Defect) : MapSt :=
  ds.foldl (fun m d =>
    match defectUnit d with
    | some u => (m.lose u).1
    | none =>
      if d.kind = 9 then { m with outStacks := if m.outStacks.contains d.detail then m.outStacks else m.outStacks ++ [d.detail] }
      else if d.kind = 10 then { m with slowStacks := if m.slowStacks.contains d.detail then m.slowStacks else m.slowStacks ++ [d.detail] }
      else m) {}

/-- VOIDMASK (R352): bit 6 * r + k. -/
def MapSt.voidMask (m : MapSt) : Nat := m.voids.foldl (fun a k => a ||| (2 ^ k)) 0

/-! ### Mesh links -/

/-- The neighbour of a cell in a mesh direction. -/
def neighbour (x y dir : Nat) : Option (Nat × Nat) :=
  if dir = 0 then (if x + 1 < 48 then some (x + 1, y) else none)
  else if dir = 1 then (if 0 < x then some (x - 1, y) else none)
  else if dir = 2 then (if y + 1 < 36 then some (x, y + 1) else none)
  else if dir = 3 then (if 0 < y then some (x, y - 1) else none)
  else none

/-- The number of a physical link: of the sending cell and the receiving one, 2,352 for the ring. -/
def physLink (sender receiver : Nat) : Nat := sender * 2353 + receiver

/-- The number of link `i` of ring A or B. -/
def ringLink (ringB : Bool) (i : Nat) : Nat := physLink 2352 ((if ringB then 48 else 0) + i)

/-- The physical ends of a link that a logical cell sends on, under the map: by Place.number, 2,352 for the ring. -/
def MapSt.linkEnds (m : MapSt) (x y dir : Nat) : Option (Nat × Nat) :=
  match m.place x y with
  | none => none
  | some a =>
    if dir = 4 then some (a.number, 2352)
    else ((neighbour x y dir).bind (fun n => m.place n.1 n.2)).map (fun b => (a.number, b.number))

/-- The number of the physical link that carries a link under the map. A link of a void region has none: it takes a number of its
own. -/
def MapSt.linkNo (m : MapSt) : LinkId → Nat
  | .ring b i => ringLink b i
  | .mesh x y d => match m.linkEnds x y d with
    | some e => physLink e.1 e.2
    | none => physLink 2352 (96 + (y * 48 + x) * 5 + d)

/-- The opposite mesh direction. -/
def opposite (dir : Nat) : Nat := if dir = 0 then 1 else if dir = 1 then 0 else if dir = 2 then 3 else 2

/-- The link class that a mesh link has under the map, in the order of Table: Link classes; 8 for a ring port (R12). -/
def MapSt.linkClass (m : MapSt) (x y dir : Nat) : Nat :=
  match m.place x y, (neighbour x y dir).bind (fun n => m.place n.1 n.2) with
  | some a, some b =>
    let dc := a.region % 7 - b.region % 7 + (b.region % 7 - a.region % 7)
    if dir < 2 then (if dc = 2 then 6 else if a.row = b.row then 0 else 3)
    else if a.region = b.region then (if a.row - b.row + (b.row - a.row) = 1 then 1 else 2)
    else if dc = 0 then 4 else 7
  | _, _ => 8

/-- Does a mesh link cross a seam, and if so which region lies south or east of it (R341)? -/
def MapSt.seamRegion (m : MapSt) (x y dir : Nat) : Option Nat :=
  match m.place x y, (neighbour x y dir).bind (fun n => m.place n.1 n.2) with
  | some a, some b =>
    if a.region = b.region then none
    else if a.region / 7 = b.region / 7 then some (max a.region b.region)
    else some (if a.region / 7 < b.region / 7 then b.region else a.region)
  | _, _ => none

/-! ### Ring ports -/

/-- The edge cells of stacks 0 to 23 (Table: Ring-port spans): region, first and last column, first and last row. -/
def ringSpans0 : List (List (Nat × Nat × Nat × Nat × Nat)) :=
  [[(0, 0, 5, 0, 0)],
   [(0, 6, 7, 0, 0), (1, 0, 2, 0, 0)],
   [(1, 3, 7, 0, 0), (2, 0, 0, 0, 0)],
   [(2, 1, 5, 0, 0)],
   [(2, 6, 7, 0, 0), (3, 0, 3, 0, 0)],
   [(3, 4, 7, 0, 0), (4, 0, 1, 0, 0)],
   [(4, 2, 6, 0, 0)],
   [(4, 7, 7, 0, 0), (5, 0, 4, 0, 0)],
   [(5, 5, 7, 0, 0), (6, 0, 1, 0, 0)],
   [(6, 2, 7, 0, 0)],
   [(6, 7, 7, 0, 2)],
   [(6, 7, 7, 3, 5)],
   [(6, 7, 7, 6, 6), (13, 7, 7, 0, 1)],
   [(13, 7, 7, 2, 4)],
   [(13, 7, 7, 5, 6), (20, 7, 7, 0, 0)],
   [(20, 7, 7, 1, 3)],
   [(20, 7, 7, 4, 6)],
   [(27, 7, 7, 0, 2)],
   [(27, 7, 7, 3, 5)],
   [(27, 7, 7, 6, 6), (34, 7, 7, 0, 1)],
   [(34, 7, 7, 2, 4)],
   [(34, 7, 7, 5, 6), (41, 7, 7, 0, 0)],
   [(41, 7, 7, 1, 3)],
   [(41, 7, 7, 4, 6)]]

/-- The edge cells of stacks 24 to 47. -/
def ringSpans1 : List (List (Nat × Nat × Nat × Nat × Nat)) :=
  [[(41, 2, 7, 6, 6)],
   [(40, 5, 7, 6, 6), (41, 0, 1, 6, 6)],
   [(39, 7, 7, 6, 6), (40, 0, 4, 6, 6)],
   [(39, 2, 6, 6, 6)],
   [(38, 4, 7, 6, 6), (39, 0, 1, 6, 6)],
   [(37, 6, 7, 6, 6), (38, 0, 3, 6, 6)],
   [(37, 1, 5, 6, 6)],
   [(36, 3, 7, 6, 6), (37, 0, 0, 6, 6)],
   [(35, 6, 7, 6, 6), (36, 0, 2, 6, 6)],
   [(35, 0, 5, 6, 6)],
   [(35, 0, 0, 4, 6)],
   [(35, 0, 0, 1, 3)],
   [(28, 0, 0, 5, 6), (35, 0, 0, 0, 0)],
   [(28, 0, 0, 2, 4)],
   [(21, 0, 0, 6, 6), (28, 0, 0, 0, 1)],
   [(21, 0, 0, 3, 5)],
   [(21, 0, 0, 0, 2)],
   [(14, 0, 0, 4, 6)],
   [(14, 0, 0, 1, 3)],
   [(7, 0, 0, 5, 6), (14, 0, 0, 0, 0)],
   [(7, 0, 0, 2, 4)],
   [(0, 0, 0, 6, 6), (7, 0, 0, 0, 1)],
   [(0, 0, 0, 3, 5)],
   [(0, 0, 0, 0, 2)]]

/-- The edge cells of a stack's segment. -/
def ringCells (stack : Nat) : List Place :=
  ((ringSpans0 ++ ringSpans1).getD stack []).flatMap (fun (r, c0, c1, r0, r1) =>
    (List.range (c1 + 1 - c0)).flatMap (fun i => (List.range (r1 + 1 - r0)).map (fun j =>
      { region := r, col := c0 + i, row := r0 + j })))

/-- The active ring ports of a segment: those whose physical cell carries a logical cell (R15). -/
def MapSt.activePorts (m : MapSt) (stack : Nat) : List Place :=
  (ringCells stack).filter (fun p => (m.logicalCell p).isSome)

/-- STACK of a slice: 0 at 6.4 Gb/s, 1 at 5.6 Gb/s, 2 out of service (R329). -/
def MapSt.stackState (m : MapSt) (i : Nat) : Nat := if m.outStacks.contains i then 2 else if m.slowStacks.contains i then 1 else 0

/-- The ports of the nearest segment with an active port in one direction along the rings. -/
def MapSt.nearestPorts (m : MapSt) (i : Nat) (up : Bool) : Nat :=
  ((List.range 47).findSome? (fun k =>
    let n := (m.activePorts ((if up then i + k + 1 else i + 47 - k) % 48)).length
    if 0 < n then some n else none)).getD 0

/-- The guaranteed rate of a slice, 0.1 GB/s (Table: Slice rate by active ports; at most what its stack gives, R329). -/
def MapSt.sliceRate (m : MapSt) (i : Nat) : Nat :=
  let n := (m.activePorts i).length
  let r := if 2 ≤ n then 8192 else if n = 1 then 6144 else 1536 * (m.nearestPorts i true + m.nearestPorts i false)
  match m.stackState i with
  | 0 => r
  | 1 => min r 7168
  | _ => 0

end Sys2Proof.Machine
end

