-- ==== Sys2Proof/Machine/Cap.lean ====
section
/-!
DEFINITION. The cap in force: CAPAPPLIED and LIMITBY from CAP and the protective limits (R18, R287, R305, R316 to R318).
-/
namespace Sys2Proof.Machine

/-- The limits besides CAP that stand at present, each with its LIMITBY bit (R305). -/
def State.capLimits (s : State) : List (Nat × Nat) :=
  let p := s.power
  let opt (bit : Nat) (v : Option Nat) : List (Nat × Nat) :=
    match v with
    | some w => [(w, bit)]
    | none => []
  opt 1 (p.bladeFault.map (fun _ => 9000)) ++ opt 2 p.limCurrent ++ opt 3 p.limFlow ++ opt 3 p.limSensor
    ++ opt 4 (p.limInlet.map (fun w => s.nat 0x2500 1 - w)) ++ opt 5 (p.limHbm.map (fun w => s.nat 0x2500 1 - w))

/-- CAPAPPLIED: the least of CAP and the limits. -/
def State.capNow (s : State) : Nat := s.capLimits.foldl (fun m e => min m e.1) (s.nat 0x2500 1)

/-- The bits of LIMITBY that tell what stands at the least value, or that the input current was above 440 A (R287); bit 0 when that is a
CAP below its default of 16,500 W. -/
def State.limitedBy (s : State) : Nat :=
  let c := s.capNow
  let b := (s.capLimits.filter (fun e => e.1 == c)).foldl (fun a e => a ||| 2 ^ e.2) 0
  let b := if s.power.overCurrent then b ||| 4 else b
  if s.nat 0x2500 1 = c ∧ c < 16500 then b ||| 1 else b

/-- Does a block limit other than the cap's bind at a block that carries work (R298)? -/
def State.blockBinds (s : State) (b : Nat) : Bool :=
  (s.map.logicalRegion (b / 14)).isSome
    && ((let l := (s.issueLimit b).2
         l != 0 && l != 3) || (s.bubbling && decide ((s.reg (b / 14)).bub < (s.blk b).thBub)))

/-- LIMITBY (`0x2500:03`), bit 6 while a block limit binds (R298, R318). -/
def State.limitBy (s : State) : Nat := s.limitedBy ||| (if (List.range 588).any s.blockBinds then 64 else 0)

/-- Brings CAPAPPLIED up to date; a change that a limit causes is logged as a clamp of CAP (R305). -/
def State.applyCap (s : State) : State :=
  let old := s.nat 0x2500 2
  let new := s.capNow
  let s := s.setOb 0x2500 2 (new : Nat)
  if old = new then s else s.log .module 1 0x2500 1 old (s.nat 0x2500 1) new 8

end Sys2Proof.Machine
end

