-- ==== Sys2Proof/Machine/Ends.lean ====
section
/-!
DEFINITION. How a run command ends, and how the module enters SAFE and shows SAFE TO REMOVE (R109, R217, R235, R241, R317, R338, R377,
R388, R431).
-/
namespace Sys2Proof.Machine

/-- The record of a run that ends with this status (R388). -/
def RunSt.completion (r : RunSt) (status detail : Nat) : Completion :=
  { status := status, result := r.result, rows := r.rowsAll, replays := r.replays, lateMax := r.lateMax,
    slipMax := r.slipMax, inexact := r.inexact, clamps := r.clamps, outrange := r.outrange, idxClamp := r.idxClamp,
    duplicate := r.duplicate, overflow := r.overflow, detail := detail }

/-- The status of a run that completed: replays before clamped fields (R379). -/
def RunSt.doneStatus (r : RunSt) : Nat :=
  if 0 < r.replays then stReplayed else if r.firstClamp ≠ 0 then stClamped else stDone

/-- The DETAIL of a run that completed (Table: Completion detail). -/
def RunSt.doneDetail (r : RunSt) : Nat := if r.doneStatus = stClamped then r.firstClamp else 0

/-- The fetched command that a run is. -/
def RunSt.fetched (r : RunSt) : Fetched := { queue := r.queue, cmd := r.cmd, sqhead := r.sqhead, no := r.no }

/-- Frees the sessions of a run from it. -/
def State.freeSessions (s : State) : State :=
  { s with sess := s.sess.map (fun e => (e.1, { e.2 with inRun := false })) }

/-- The digest of `bs` as an output range at `a` (R217, R384). -/
def bytesDigest (a : Nat) (bs : Bytes) : Bytes :=
  sha512 (le 8 a ++ le 8 bs.length ++ ((cut 0x100000 (bs.length / 0x100000) bs).map sha512).flatten
    ++ (if bs.length % 0x100000 = 0 then [] else sha512 (bs.drop (bs.length / 0x100000 * 0x100000))))

/-- The result entry of a listed handle, when the command ends. -/
def State.resultEntry (s : State) (r : RunSt) (h : Nat) : Bytes :=
  let v := s.session (h % 8192)
  let got := r.drawn.find? (fun e => e.1 == h)
  let ss := match got with
    | none => 3
    | some _ => if v.status = 5 then 2 else if v.status = 4 then 1 else 0
  le 4 h ++ le 4 (match got with
    | some e => e.2
    | none => 0xFFFFFFFF) ++ le 4 v.pos ++ le 1 ss ++ le 1 (if r.prefills.contains h then 0 else 1) ++ le 2 0

/-- The result entries of an ADVANCE, in batch-list order. -/
def State.resultBytes (s : State) (r : RunSt) : Bytes := r.handles.flatMap (s.resultEntry r)

/-- Is it a run of an ADVANCE? -/
def RunKind.advances (k : RunKind) : Bool := k == .prefill || k == .decode

/-- The active run ends with this status; its completion waits for the next commit (R109, R376). However an ADVANCE ends, its result
entries go with it, and their digest (R235, R384). -/
def State.endRun (s : State) (status detail : Nat) (digests : List Bytes := []) (needDigest : Bool := false) : State :=
  match s.run with
  | none => s
  | some r =>
    let res := s.resultBytes r
    let s := { s with run := none }.freeSessions
    if r.kind.advances then
      s.endCommand r.fetched (r.completion status detail) [(uAt r.cmd 32 8, res)]
        (if r.digAddr = 0 then [] else [bytesDigest (uAt r.cmd 32 8) res]) r.digAddr false
    else s.endCommand r.fetched (r.completion status detail) [] digests r.digAddr needDigest

/-- A run whose queue was disabled ends; with the link down its completion is not written, and the abort is logged instead (R374). -/
def State.endAborted (s : State) (r : RunSt) : State :=
  let s := s.endRun stAborted 0
  if r.silent then
    let s : State := { s with host := { s.host with ending := s.host.ending.map (fun e => if e.no = r.no then { e with silent := true } else e) } }
    s.logAbort r.fetched
  else s

/-- Between rows, a run whose queue has stopped ends before it takes another row (R374). -/
def State.endStopped (s : State) : State :=
  match s.run with
  | some r => if r.abort then s.endAborted r else s
  | none => s

/-- Signs off the run and every fetched command with FAILED_ABORTED. -/
def State.abortAll (s : State) : State := (s.endRun stAborted 0).abortFetched (fun _ => true)

/-- Turns the region converter groups off without latching them off (R285). -/
def State.groupsOff (s : State) : State := { s with power := { s.power with groupsOff := true } }

/-- A latched fault: the module enters SAFE, with the groups off, no row, every fetched command completed with
FAILED_ABORTED and a signature with ACTION 15; `cause` is its MECHANISM, a free value where the spec gives the fault
none (R317, R360, R377, R425, R431). No row commits any more, so these completions are written at once (log entry 16). -/
def State.latchSafe (s : State) (cause : Option Nat) : State :=
  if s.dev = .safe ∨ s.dev = .off then s
  else
    let d : Nat × State := match cause with
      | some c => (c, s)
      | none => s.draw
    let c := d.1 % 65536
    let s := ((d.2.enter .safe).setSubstate 0).setOb 0x2200 3 (c : Nat)
    let s := { s.groupsOff with
      row := { s.row with phase := .idle }
      flash := { s.flash with owed := s.flash.owed ++ s.map.queue.map (fun q : Lost × Nat => lostDefect q.2 q.1) }
      map := { s.map with queue := [], redo := [], now := none } }
    let s := (s.signature { mech := c, action := 15 }).msix 65
    s.abortAll.releaseEnding

/-- Is an activation or a rollback running? -/
def State.activating (s : State) : Bool := s.sec.fwState == 4

/-- The record of an activation that ends (R443, R463). -/
def State.logActivation (s : State) (old : Nat) : State :=
  s.logEvent .fwAct 0x2800 1 old s.sec.running.fwver

/-- The activation ends without effect (R464). -/
def State.abortActivation (s : State) : State :=
  ({ s with sec := { s.sec with fwState := 6, phase := 0, unit := 0 } }).logActivation s.sec.running.fwver

/-- The end of a removal: flash flushed, groups, HBM, ring and Naela rails off, the session table and pool assignments lost (R241),
Memory_Active cleared, "SAFE TO REMOVE"
(Table: Bind-off toward removal; from SAFE the state stays SAFE, R430). -/
def State.safeToRemove (s : State) : State :=
  let s := if s.activating then s.abortActivation else s
  let s := s.flushLog.groupsOff
  let s := { s with power := { s.power with hbmOff := true }, row := { s.row with phase := .idle }, sess := [], pool := {} }
  let s := if s.host.memActive then ({ s with host := { s.host with memActive := false } }).msix 66 else s
  s.setSubstate 4

end Sys2Proof.Machine
end

