-- ==== Sys2Proof/Machine/Fabric.lean ====
section
/-!
DEFINITION. The loose network and the ring: routes, packets, ring direction, home and proxy ports (R127, R134, R140, R146 to R148, R151,
R352).
-/
namespace Sys2Proof.Machine

/-! ### Routes of loose traffic (R134, R352) -/

/-- Hops between two cells on the logical grid. -/
def hops (a b : Nat × Nat) : Nat := (max a.1 b.1 - min a.1 b.1) + (max a.2 b.2 - min a.2 b.2)

/-- The links of the dimension-ordered route from `a` to `b`, first along x, then along y: sending cell and direction. -/
def pathLinks (a b : Nat × Nat) : List (Nat × Nat × Nat) :=
  (if a.1 ≤ b.1 then (List.range (b.1 - a.1)).map (fun i => (a.1 + i, a.2, 0))
    else (List.range (a.1 - b.1)).map (fun i => (a.1 - i, a.2, 1)))
  ++ (if a.2 ≤ b.2 then (List.range (b.2 - a.2)).map (fun i => (b.1, a.2 + i, 2))
    else (List.range (a.2 - b.2)).map (fun i => (b.1, a.2 - i, 3)))

/-- The hops that the detour tables add to a route: none where it meets no void region, else at most 12, as the tables have it, which
the spec does not give (R352; log entry 99). -/
def MapSt.detour (m : MapSt) (a b : Nat × Nat) : Nat :=
  if m.voids.isEmpty || (pathLinks a b).all (fun l => !m.voids.contains (6 * (l.2.1 / 6) + l.1 / 8)) then 0
  else Config.openResult "detour" [a.1, a.2, b.1, b.2, m.voidMask] % 13

/-- Hops along the route that loose traffic takes (R148). -/
def MapSt.looseHops (m : MapSt) (a b : Nat × Nat) : Nat := hops a b + m.detour a b

/-! ### Home and proxy ports (R148, R151) -/

/-- The active ring ports, by stack: stack, and the logical cell at the port. Stacks 0 to 9 stand on the north edge, 10 to 23 on the
east, 24 to 33 on the south, 34 to 47 on the west. -/
def MapSt.ports (m : MapSt) : List (Nat × Nat × Nat) :=
  (List.range 48).flatMap (fun i => (m.activePorts i).filterMap (fun p => (m.logicalCell p).map (fun c => (i, c.1, c.2))))

/-- The port fewest hops from a cell; of ports as near, the one on the first edge in the order north, east, south, west, then of the
lowest stack: the first in the order of `ps`. -/
def MapSt.nearest (m : MapSt) (ps : List (Nat × Nat × Nat)) (c : Nat × Nat) : Option (Nat × Nat) :=
  (ps.foldl (fun (best : Option (Nat × Nat × Nat)) p =>
    let h := m.looseHops c (p.2.1, p.2.2)
    match best with
    | none => some (h, p.1, cellNo p.2.1 p.2.2)
    | some b => if h < b.1 then some (h, p.1, cellNo p.2.1 p.2.2) else best) none).map (·.2)

/-- Is a cell an edge cell of the logical grid (R119)? -/
def edgeCell (x y : Nat) : Bool := x == 0 || x == 47 || y == 0 || y == 35

/-- The map with its home ports, and the proxy ports of its edge cells that have no active port of their own. -/
def MapSt.withPorts (m : MapSt) : MapSt :=
  let ps := m.ports
  let here := (List.range 1728).filter (fun k => (m.place (k % 48) (k / 48)).isSome)
  { m with
    homes := here.filterMap (fun k => (m.nearest ps (k % 48, k / 48)).map (fun p => (k, p)))
    proxies := (here.filter (fun k => edgeCell (k % 48) (k / 48) && !ps.any (fun p => p.2 == (k % 48, k / 48)))).filterMap
      (fun k => (m.nearest ps (k % 48, k / 48)).map (fun p => (k, p))) }

/-- The ring segment by which a cell reaches HBM in a DIR 4 stream: that of its own port, else of its proxy. -/
def MapSt.segmentOf (m : MapSt) (x y : Nat) : Option Nat :=
  match m.ports.find? (fun p => p.2 == (x, y)) with
  | some p => some p.1
  | none => (Tab.get? m.proxies (cellNo x y)).map (·.1)

/-! ### Links and rings (R146, R147, R194) -/

/-- The record of the physical link that carries a link. -/
def State.link (s : State) (l : LinkId) : LinkSt := Tab.getD s.links (s.map.linkNo l) {}

/-- Stores the record of the physical link that carries a link. -/
def State.setLink (s : State) (l : LinkId) (v : LinkSt) : State := { s with links := Tab.set s.links (s.map.linkNo l) v }

/-- Is ring link `i` of a ring broken? -/
def State.ringBroken (s : State) (b : Bool) (i : Nat) : Bool := (s.link (.ring b i)).failed

/-- The links of a ring from segment `a` to segment `b`: ring A leads from s to s + 1, ring B from s to s - 1. -/
def ringLinks (ringB : Bool) (a b : Nat) : List Nat :=
  if ringB then (List.range ((a + 48 - b) % 48)).map (fun i => (a + 48 - i) % 48)
  else (List.range ((b + 48 - a) % 48)).map (fun i => (a + i) % 48)

/-- Does traffic from segment `a` to segment `b` take ring B: the direction with fewer segments, ring A when both are equal; the other
ring when a link on its way is broken (R147)? -/
def State.ringDir (s : State) (a b : Nat) : Bool :=
  let short := decide ((ringLinks true a b).length < (ringLinks false a b).length)
  if (ringLinks short a b).any (s.ringBroken short) then !short else short

/-! ### Packets (R127, R134, R140) -/

/-- Flits of a packet: a header, and one for each 128 bytes of data. -/
def packetFlits (bytes : Nat) : Nat := 1 + cdiv bytes 128

/-- The links of a multicast: routers copy the packet where the routes of its destinations part, so each link carries it once. -/
def multicastLinks (src : Nat × Nat) (dests : List (Nat × Nat)) : List (Nat × Nat × Nat) := (dests.flatMap (pathLinks src)).eraseDups

/-- A packet between cells. -/
def meshPacket (vc : Nat) (src : Nat × Nat) (dests : List (Nat × Nat)) (data : Bytes) : Packet :=
  { vc := vc, src := src, dests := dests, flits := packetFlits data.length, links := multicastLinks src dests, data := data }

/-- The packets of responses that leave together: one for each 8 destinations (R140). -/
def multicast (src : Nat × Nat) (dests : List (Nat × Nat)) (data : Bytes) : List Packet :=
  (List.range (cdiv dests.length 8)).map (fun i => meshPacket 1 src ((dests.drop (8 * i)).take 8) data)

/-- A packet between a cell and the slice of an HBM address, by the cell's home port: over the mesh to the port, along the ring to the
slice's node, and back by the same port (R148). -/
def State.hbmPacket (s : State) (vc x y a : Nat) (data : Bytes) : Packet :=
  match Tab.get? s.map.homes (cellNo x y) with
  | none => { vc := vc, src := (x, y), dests := [(x, y)], flits := packetFlits data.length, links := [], data := data }
  | some (stack, k) =>
    let port := (k % 48, k / 48)
    if vc = 0 then { meshPacket 0 (x, y) [port] data with ring := some (s.ringDir stack (sliceOf a), stack, sliceOf a) }
    else { meshPacket 1 port [(x, y)] data with ring := some (s.ringDir (sliceOf a) stack, sliceOf a, stack) }

/-- Sends packets, in order. -/
def State.sendPackets (s : State) (ps : List Packet) : State := { s with out := (ps.map Output.packet).reverse ++ s.out }

end Sys2Proof.Machine
end

