-- ==== Sys2Proof/Machine/NaelaOps.lean ====
section
/-!
DEFINITION. Naela operations that other families use: module numbers, torus and tree routes, frames with credit, messages
with their CRC-64 and resend record, group trees, verdict messages (R392 to R399, R402, R406, R200).
-/
namespace Sys2Proof.Machine

/-! ### Module numbers and the torus (R398) -/


/-- The torus dimensions. -/
def State.dims (s : State) : Nat × Nat × Nat :=
  let d := (s.naela.ident.getD s.identity).2
  (max 1 d.1, max 1 d.2.1, max 1 d.2.2)

/-- The machine with the identity as written in force (R412). -/
def State.takeIdentity (s : State) : State := { s with naela := { s.naela with ident := some s.identity } }

/-- Coordinates of a MODULEID. -/
def coords (d : Nat × Nat × Nat) (m : Nat) : Nat × Nat × Nat := (m % d.1, m / d.1 % d.2.1, m / (d.1 * d.2.1))

/-- The MODULEID of coordinates. -/
def modAt (d : Nat × Nat × Nat) (c : Nat × Nat × Nat) : Nat := c.2.2 * d.1 * d.2.1 + c.2.1 * d.1 + c.1

/-- Is the shorter way from `a` to `b` on a ring of `n` the + direction (ties go +)? -/
def goesPlus (n a b : Nat) : Bool := decide (2 * ((b + n - a) % n) ≤ n)

/-- One step from `a` toward `b` on a ring of `n`. -/
def ringStep (n a b : Nat) : Nat := if goesPlus n a b then (a + 1) % n else (a + n - 1) % n

/-- Does the step cross the wrap link? -/
def wraps (n a b : Nat) : Bool := if goesPlus n a b then a + 1 == n else a == 0

/-- The next hop of dimension-ordered routing: the neighbour, the lower port of its pair, whether the link wraps (R398,
R399). -/
def torusHop (d : Nat × Nat × Nat) (cur dst : Nat) : Option (Nat × Nat × Bool) :=
  let a := coords d cur
  let b := coords d dst
  if a.1 ≠ b.1 then
    some (modAt d (ringStep d.1 a.1 b.1, a.2.1, a.2.2), if goesPlus d.1 a.1 b.1 then 0 else 2, wraps d.1 a.1 b.1)
  else if a.2.1 ≠ b.2.1 then
    some (modAt d (a.1, ringStep d.2.1 a.2.1 b.2.1, a.2.2), if goesPlus d.2.1 a.2.1 b.2.1 then 4 else 6,
      wraps d.2.1 a.2.1 b.2.1)
  else if a.2.2 ≠ b.2.2 then
    some (modAt d (a.1, a.2.1, ringStep d.2.2 a.2.2 b.2.2), if goesPlus d.2.2 a.2.2 b.2.2 then 8 else 10,
      wraps d.2.2 a.2.2 b.2.2)
  else none

/-! ### Ports -/

/-- The peer's MODULEID on port `p`. -/
def State.portPeer (s : State) (p : Nat) : Nat := s.nat (0x2620 + p) 3 % 65536

/-- Is port `p` admitted? A draining port is avoided by routes (R409). -/
def State.admitted (s : State) (p : Nat) : Bool := s.portState p == 4

/-- The admitted ports whose peer is module `m`. -/
def State.portsTo (s : State) (m : Nat) : List Nat :=
  (List.range 18).filter (fun p => s.admitted p && s.portPeer p == m)

/-- The port of a set that a MSGID takes: even to the lower (R398). -/
def pickPort (ps : List Nat) (msgId : Nat) : Option Nat :=
  match ps with
  | [] => none
  | p :: _ => some (ps.getD (msgId % 2) p)

/-! ### The system tree (R399) -/

/-- The neighbours of a module: for this module its admitted peers, for others the link-state database. -/
def State.neighbours (s : State) (m : Nat) : List Nat :=
  if m = s.moduleId then ((List.range 18).filter s.admitted).map s.portPeer
  else Tab.getD s.naela.links m []

/-- Modules at each distance from the modules listed, breadth first. -/
def bfs (nb : Nat → List Nat) : Nat → List Nat → List Nat → List (List Nat)
  | 0, _, _ => []
  | fuel + 1, seen, level =>
    if level.isEmpty then []
    else
      let next := (level.flatMap nb).foldl (fun acc m => if seen.contains m || acc.contains m then acc else acc ++ [m]) []
      level :: bfs nb fuel (seen ++ next) next

/-- The levels of modules around `m`. -/
def State.levelsFrom (s : State) (m : Nat) : List (List Nat) := bfs s.neighbours 1024 [m] [m]

/-- The modules reachable, this one included. -/
def State.reachable (s : State) : List Nat := (s.levelsFrom s.moduleId).flatten

/-- The root of the system tree: the lowest reachable MODULEID. -/
def State.treeRoot (s : State) : Nat := s.reachable.foldl min s.moduleId

/-- The distance of a module in levels. -/
def levelOf (ls : List (List Nat)) (m : Nat) : Nat := (ls.takeWhile (fun l => !l.contains m)).length

/-- A module's parent in the system tree: its neighbour one hop nearer the root, the lowest MODULEID among equals. -/
def State.treeParent (s : State) (ls : List (List Nat)) (m : Nat) : Option Nat :=
  let d := levelOf ls m
  if d = 0 then none
  else
    ((s.neighbours m).filter (fun n => levelOf ls n + 1 == d)).foldl
      (fun a n => match a with
        | none => some n
        | some b => some (min b n)) none

/-- A module and its ancestors up to the root. -/
def State.treePath (s : State) (ls : List (List Nat)) : Nat → Nat → List Nat
  | 0, m => [m]
  | fuel + 1, m =>
    match s.treeParent ls m with
    | some p => m :: s.treePath ls fuel p
    | none => [m]

/-- The next hop on the system tree toward `dst`: down when this module is an ancestor of it, else up. -/
def State.treeHop (s : State) (dst : Nat) : Option Nat :=
  let ls := s.levelsFrom s.treeRoot
  let path := s.treePath ls 1024 dst
  if path.contains s.moduleId then (path.takeWhile (· != s.moduleId)).getLast?
  else s.treeParent ls s.moduleId

/-! ### Routes (R398, R399) -/

/-- Where a message leaves: port and channel. Its route entry when nonzero, else dimension order, else the system tree on
VC3; a message already on VC3 stays there. -/
def State.route (s : State) (dst msgId : Nat) (onTree : Bool := false) (vc : Nat := 1) : Option (Nat × Nat) :=
  let tree : Option (Nat × Nat) := match s.treeHop dst with
    | some n => (pickPort (s.portsTo n) msgId).map (fun p => (p, 3))
    | none => none
  let e := Tab.getD s.naela.routes dst 0
  if onTree then tree
  else if e ≠ 0 then
    let a := bits e 7 0
    let b := bits e 15 8
    if s.admitted a then some (a, vc) else if s.admitted b then some (b, vc) else tree
  else match torusHop s.dims s.moduleId dst with
    | some (n, lo, w) =>
      match pickPort ((s.portsTo n).filter (fun p => p == lo || p == lo + 1)) msgId with
      | some p => some (p, if w then 2 else vc)
      | none => tree
    | none => none

/-! ### Frames (R393 to R395) -/

/-- A frame: type, channel, FSEQ, ACK, credit returned, payload. -/
def frameBytes (ftype vc fseq ack credit creditVc : Nat) (payload : Bytes) : Bytes :=
  let b := le 1 ftype ++ le 1 vc ++ le 2 (min payload.length 480) ++ le 4 fseq ++ le 4 ack ++ le 2 credit ++ le 1 creditVc
    ++ le 1 0 ++ fit 480 payload ++ zeros 12
  b ++ le 4 (crc32 b)

/-- Sends one message frame: it takes the next FSEQ and a credit, and is kept for replay. -/
def State.sendFrame (s : State) (p vc : Nat) (payload : Bytes) : State :=
  let pt := s.port p
  if pt.credit.getD vc 0 = 0 then s.setPort p { pt with txWait := pt.txWait ++ [(vc, payload)] }
  else
    let n := (pt.sent + 1) % 2 ^ 32
    let f := frameBytes 1 vc n (pt.expect + 2 ^ 32 - 1) 0 0 payload
    let kept := pt.replay ++ [(n, f)]
    (s.setPort p { pt with
      sent := n
      credit := pt.credit.set vc (pt.credit.getD vc 0 - 1)
      replay := kept.drop (kept.length - 1024) }).emit (.naela p f)

/-- Sends the frames that waited for credit, in order. -/
def State.pumpPort (s : State) (p : Nat) : State :=
  let w := (s.port p).txWait
  w.foldl (fun s e => s.sendFrame p e.1 e.2) (s.setPort p { s.port p with txWait := [] })

/-- The payloads of a message's frames, 480 B each. -/
def framePayloads : Nat → Bytes → List Bytes
  | 0, _ => []
  | fuel + 1, b => if b.isEmpty then [] else b.take 480 :: framePayloads fuel (b.drop 480)

/-- Sends a message's bytes on a port and channel. -/
def State.sendBytes (s : State) (p vc : Nat) (b : Bytes) : State :=
  (framePayloads (b.length / 480 + 1) b).foldl (fun s x => s.sendFrame p vc x) s

/-! ### Messages (R396, R397) -/

/-- A message's bytes. -/
def messageBytes (mtype attempt src dst row msgId window addr : Nat) (body : Bytes) : Bytes :=
  let h := le 1 mtype ++ le 1 attempt ++ le 2 src ++ le 2 dst ++ le 6 row ++ le 4 msgId ++ le 4 body.length ++ le 2 window
    ++ le 2 0 ++ le 8 addr
  h ++ body ++ le 8 (crc64 (h ++ body))

/-- Fields of a message. -/
def msgType (m : Bytes) : Nat := uAt m 0 1
def msgAttempt (m : Bytes) : Nat := uAt m 1 1
def msgSrc (m : Bytes) : Nat := uAt m 2 2
def msgDst (m : Bytes) : Nat := uAt m 4 2
def msgRow (m : Bytes) : Nat := uAt m 6 6
def msgId (m : Bytes) : Nat := uAt m 12 4
def msgLen (m : Bytes) : Nat := uAt m 16 4
def msgWindow (m : Bytes) : Nat := uAt m 20 2
def msgAddr (m : Bytes) : Nat := uAt m 24 8
def msgBody (m : Bytes) : Bytes := slice m 32 (msgLen m)

/-- Does the CRC-64 at the end of a message agree with its header and body? -/
def msgCrcOk (m : Bytes) : Bool := m.length == 40 + msgLen m && uAt m (32 + msgLen m) 8 == crc64 (m.take (32 + msgLen m))

/-- Is the message one whose delivery is acknowledged: DATA or COLLECTIVE? -/
def acked (mtype : Nat) : Bool := mtype == 1 || mtype == 2

/-- The channel a new message starts on. -/
def startVc (mtype : Nat) : Nat := if acked mtype then 1 else 0

/-- Puts a message on its route, from channel `vc` on. A control message with no route stays with its sender until one exists;
an acknowledged one is resent in its time. -/
def State.dispatchVc (s : State) (m : Bytes) (vc : Nat) : State :=
  match s.route (msgDst m) (msgId m) (vc == 3) vc with
  | some (p, vc) => s.sendBytes p (if acked (msgType m) then vc else 0) m
  | none => if acked (msgType m) then s else { s with naela := { s.naela with unrouted := s.naela.unrouted ++ [m] } }

/-- Puts a message of this module on its route. -/
def State.dispatchMessage (s : State) (m : Bytes) : State := s.dispatchVc m (startVc (msgType m))

/-- Is module `m` in this module's commit group (R199)? -/
def State.inGroup (s : State) (m : Nat) : Bool :=
  m == s.moduleId || (decide (1 < s.nat 0x2220 2) && Config.groupMember (s.nat 0x2220 1) m)

/-- A new message: the next MSGID for its destination; DATA and COLLECTIVE are kept until acknowledged. -/
def State.newMessage (s : State) (mtype dst window addr : Nat) (body : Bytes) : SentMsg × State :=
  let n := (Tab.getD s.naela.nextId dst 0 + 1) % 2 ^ 32
  let m := messageBytes mtype s.row.attempt s.moduleId dst s.row.num n window addr body
  let r := s.route dst n
  ({ dst := dst, id := n, bytes := m, row := s.row.num, window := window, inGroup := s.inGroup dst,
     port := match r with
       | some (p, _) => p
       | none => 0xFF },
   { s with naela := { s.naela with nextId := Tab.set s.naela.nextId dst n } })

/-- Sends a control message. -/
def State.sendControl (s : State) (mtype dst : Nat) (body : Bytes) : State :=
  let r := s.newMessage mtype dst 0 0 body
  r.2.dispatchMessage r.1.bytes

/-- Sends a DATA or COLLECTIVE message now, kept until acknowledged. -/
def State.sendKept (s : State) (m : SentMsg) : State :=
  ({ s with naela := { s.naela with sentMsgs := s.naela.sentMsgs ++ [m] } }).dispatchMessage m.bytes

/-- Counts a message of a window in SENT (R401). -/
def State.countSent (s : State) (w : Nat) : State := s.addOb (0x2640 + w) 6 1

/-- A window's message: inside the group it leaves at once, outside after the commit (R402). -/
def State.sendWindow (s : State) (mtype dst w addr : Nat) (body : Bytes) : State :=
  let r := s.newMessage mtype dst w addr body
  let s := r.2.countSent w
  if r.1.inGroup then s.sendKept r.1
  else { s with naela := { s.naela with afterCommit := s.naela.afterCommit ++ [r.1] } }

/-! ### Group trees (R406) -/

/-- The members of the commit group, lowest first. -/
def State.members (s : State) : List Nat := (List.range 1024).filter s.inGroup

/-- The root of the group: its lowest MODULEID. -/
def State.groupRoot (s : State) : Nat := s.members.headD s.moduleId

/-- The module after `m` on its route to `dst` (R399): this module's own route entry when nonzero, by its first admitted port or the
system tree; dimension order elsewhere, since a module knows no other's route table (log entry 38). -/
def State.hopFrom (s : State) (m dst : Nat) : Option Nat :=
  let e := Tab.getD s.naela.routes dst 0
  if m = dst then none
  else if m = s.moduleId ∧ e ≠ 0 then
    match [bits e 7 0, bits e 15 8].find? s.admitted with
    | some p => some (s.portPeer p)
    | none => s.treeHop dst
  else (torusHop s.dims m dst).map (fun h => h.1)

/-- The first member on the route from `m` to the root. -/
def State.firstMember (s : State) (mem : Nat → Bool) (root : Nat) : Nat → Nat → Option Nat
  | 0, _ => none
  | fuel + 1, m =>
    match s.hopFrom m root with
    | some n => if mem n then some n else s.firstMember mem root fuel n
    | none => none

/-- A member's parent on the group tree; none for the root. -/
def State.groupParent (s : State) (m : Nat) : Option Nat := s.firstMember s.inGroup s.groupRoot 64 m

/-- This module's children on the group tree. -/
def State.groupChildren (s : State) : List Nat :=
  s.members.filter (fun m => m != s.moduleId && s.groupParent m == some s.moduleId)

/-- Is this module the root? -/
def State.isRoot (s : State) : Bool := s.groupRoot == s.moduleId

/-- Does the commit group hold more than one module? -/
def State.grouped (s : State) : Bool := decide (1 < s.nat 0x2220 2)

/-! ### Verdict messages (R200) -/

/-- The 32 bytes of a verdict payload. -/
def verdictBytes (kind : Nat) (v : VerdictMsg) : Bytes :=
  le 4 v.groupId ++ le 6 v.row ++ le 1 v.attempt ++ le 1 kind ++ le 1 v.cause ++ le 1 0 ++ le 2 v.origin ++ le 2 v.count
    ++ le 8 (if kind = 6 then v.time else 0) ++ zeros 6

/-- The message of this module's present row. -/
def State.verdictMsg (s : State) (cause origin count : Nat) : VerdictMsg :=
  { groupId := s.nat 0x2220 1, row := s.row.num, attempt := s.row.attempt, cause := cause, origin := origin, count := count,
    time := s.now }

/-- Sends a verdict message to a member. -/
def State.sendVerdict (s : State) (dst kind : Nat) (v : VerdictMsg) : State := s.sendControl 0x10 dst (verdictBytes kind v)

/-- Sends a verdict message up the tree, when there is a parent. -/
def State.verdictUp (s : State) (kind : Nat) (v : VerdictMsg) : State :=
  match s.groupParent s.moduleId with
  | some p => s.sendVerdict p kind v
  | none => s

/-- Sends a verdict message down the tree to every child. -/
def State.verdictDown (s : State) (kind : Nat) (v : VerdictMsg) : State :=
  s.groupChildren.foldl (fun s c => s.sendVerdict c kind v) s

/-- An early FAIL goes at once to every neighbour on the tree (R200). -/
def State.earlyFail (s : State) (cause origin : Nat) : State :=
  if s.grouped then
    let v := s.verdictMsg cause origin 1
    (s.verdictUp 0 v).verdictDown 0 v
  else s

end Sys2Proof.Machine
end

