-- ==== Sys2Proof/Machine/Memory.lean ====
section
/-!
DEFINITION. Access to device memory while rows run: scratchpads with their partitions, writable spans and undo logs
(R77 to R80, R103, R125), HBM under the lifeline attributes (R105, R193, R203 to R210), windows (R402, R403).
-/
namespace Sys2Proof.Machine

/-- Why a descriptor or an access does not complete: a structural fault (R126) or a failed check (R181). -/
inductive Stop where
  | fault (f : StructFault)
  | alarm (cause : Nat) (suspects : List Suspect) (addr : Nat)
deriving DecidableEq, Repr, Inhabited

/-! ### The address map (R152) -/

/-- First address of the scratchpads. -/
def scratchBase : Nat := 0x1000000000000

/-- The window of logical cell (x, y). -/
def cellBase (x y : Nat) : Nat := scratchBase + cellNo x y * 0x1000000

/-- The number of a cell whose window holds an address. -/
def cellAt (a : Nat) : Option Nat :=
  if scratchBase ≤ a ∧ a < scratchBase + 1728 * 0x1000000 then some ((a - scratchBase) / 0x1000000) else none

/-- The end of what row programs and remote requests may reach in a window (R78, R79). -/
def reachEnd : Nat := 0xEC0000

/-! ### Scratchpads -/

/-- The entry of a cell in the running pattern's cell table. -/
def State.cellEntry (s : State) (x y : Nat) : Option CellEntry :=
  match s.runPattern with
  | some p => p.cells[cellNo x y]?
  | none => none

/-- The first bytes of the lines that `n` bytes at `off` touch. -/
def linesOf (off n : Nat) : List Nat :=
  if n = 0 then [] else (List.range ((off + n - 1) / 64 - off / 64 + 1)).map (fun i => (off / 64 + i) * 64)

/-- May a row write the line at `off` of cell (x, y): the writable span, or a resident range declared WRITTEN (R103)? -/
def State.writableLine (s : State) (x y off : Nat) : Bool :=
  match s.runPattern with
  | none => true
  | some p =>
    (match p.cells[cellNo x y]? with
      | some e => decide (e.wlo ≤ off) && decide (off < e.whi)
      | none => false)
    || p.residents.any (fun r => r.written && r.x == x && r.y == y && decide (r.off ≤ off) && decide (off < r.off + r.len))

/-- Reads `n` bytes of a scratchpad at `off`. -/
def State.scratch (s : State) (x y off n : Nat) : Bytes := s.mem.readBytes (cellBase x y + off) n

/-- A read by a row program or a remote request (R79). -/
def State.readCell (s : State) (x y off n : Nat) : Except Stop Bytes :=
  if off + n ≤ reachEnd then .ok (s.scratch x y off n) else .error (.fault .address)

/-- Saves the lines of `ls` that lie in the resident partition and are not yet in the undo log (R80). -/
def State.logLines (s : State) (x y : Nat) (c : CellSt) : List Nat → Except Stop CellSt
  | [] => .ok c
  | l :: ls =>
    if c.rbound ≤ l ∨ c.undo.any (fun e => e.1 == l) then s.logLines x y c ls
    else if 15408 ≤ c.undo.length then .error (.fault .logFull)
    else s.logLines x y { c with undo := (l, s.scratch x y l 64) :: c.undo } ls

/-- Closes the open merge entries of written lines before the write lands: responses still held leave with what the line holds
(R139). -/
def State.closeMerge (s : State) (x y : Nat) (ls : List Nat) : State :=
  let c := s.cell x y
  let hit := c.merge.filter (fun e => ls.contains e.line)
  if hit.isEmpty then s
  else
    (s.setCell x y { c with merge := c.merge.filter (fun e => !ls.contains e.line) }).sendPackets
      (hit.flatMap (fun e => multicast (x, y) e.held (s.scratch x y e.line 64)))

/-- A write by a row program or a remote request: refused outside the writable span and the WRITTEN ranges, undo-logged
in the resident partition (R79, R80, R103). -/
def State.writeCell (s : State) (x y off : Nat) (data : Bytes) : Except Stop State :=
  let ls := linesOf off data.length
  if reachEnd < off + data.length ∨ !ls.all (fun l => s.writableLine x y l) then .error (.fault .address)
  else
    let s := s.closeMerge x y ls
    match s.logLines x y (s.cell x y) ls with
    | .error e => .error e
    | .ok c =>
      .ok { (if c = s.cell x y then s else s.setCell x y c) with
        mem := s.mem.writeBytes (cellBase x y + off) data }

/-! ### HBM: versioned copies, poison, undo shares (R193, R205 to R210) -/

/-- Where the row's new copy of an address in a versioned region stands. -/
def State.newCopyAt (s : State) (r : Region) (a : Nat) : Nat :=
  if s.hbm.inAlt.contains (a / 64 * 64) then a else r.alt + (a - r.base)

/-- Where the running row finds an address: the new copy of a line it has written, else the committed copy. -/
def State.rowAt (s : State) (a : Nat) : Nat :=
  if s.hbm.written.contains (a / 64 * 64) then
    match regionAt s.allRegions a with
    | some r => s.newCopyAt r a
    | none => a
  else s.committedAt a

/-- `n` bytes of HBM as the running row reads them. -/
def State.rowRead (s : State) (a n : Nat) : Bytes :=
  if s.hbm.inAlt.isEmpty && s.hbm.written.isEmpty then s.mem.readBytes a n
  else (List.range n).map (fun i => s.mem.read (s.rowAt (a + i)))

/-- The poisoned line that an access of `n` bytes at `a` by the row meets, by the address it is read at. -/
def State.poisonHit (s : State) (a n : Nat) : Option Nat :=
  if s.hbm.poisoned.isEmpty then none else (linesOf a n).find? (fun l => s.hbm.poisoned.contains (s.rowAt l))

/-- Bytes of an undo share (R205). -/
def State.shareBytes (s : State) : Nat := s.nat 0x2420 1 * 1024 / 48 * 0x100000

/-- Base of the undo share of slice `i`. -/
def State.shareBase (s : State) (i : Nat) : Nat := (i + 1) * 0x2000000000 - s.shareBytes

/-- Does a range meet an undo share? -/
def State.inShare (s : State) (a n : Nat) : Bool :=
  n != 0 && (List.range 48).any (fun i => decide (a < (i + 1) * 0x2000000000) && decide (s.shareBase i < a + n))

/-- Bytes of a range that lie in slice `i`. -/
def inSlice (a n i : Nat) : Nat := min (a + n) ((i + 1) * 0x2000000000) - max a (i * 0x2000000000)

/-- Space of the selector tables in the share of slice `i`, for the versioned regions `rs` (R206). -/
def selectorSpace (rs : List Region) (i : Nat) : Nat :=
  ((rs.filter (fun r => r.attr == 2)).map (fun r => cdiv (cdiv (inSlice r.base r.len i / 64) 8) 576 * 576)).foldl (· + ·) 0

/-- The distinct regions of the loaded patterns: equal regions are one (R210). -/
def State.distinctRegions (s : State) : List Region :=
  s.allRegions.foldl (fun acc r => if acc.contains r then acc else acc ++ [r]) []

/-- Lines the log of slice `i` holds (R206). -/
def State.logCapacity (s : State) (i : Nat) : Nat := (s.shareBytes - selectorSpace s.distinctRegions i) / 576 * 8

/-- The free share of a slice is a whole number of log groups beyond the table T. -/
def State.logCount (s : State) (i : Nat) : Nat := (s.hbm.log.filter (fun e => sliceOf e.1 == i)).length

/-- An HBM read by a running descriptor, stream or engine: faults outside HBM or in a slice out of service, fails with
ECC_HBM on a poisoned line (R153, R193, R329). -/
def State.readHbm (s : State) (a n : Nat) : Except Stop Bytes :=
  if !s.hbmOk a n then .error (.fault .address)
  else match s.poisonHit a n with
    | some l => .error (.alarm 0x21 [.slice (sliceOf l)] l)
    | none => .ok (s.rowRead a n)

/-! ### Windows (R401 to R403) -/

/-- The window's KIND, BASE, LENGTH, PEER, PEERBASE. -/
def State.window (s : State) (w : Nat) : Nat × Nat × Nat × Nat × Nat :=
  let o := 0x2640 + w
  (s.nat o 1, s.nat o 2, s.nat o 3, s.nat o 4, s.nat o 5)

/-- Sends the lines of window `w` that are gathered and not yet sent: a run of consecutive lines. -/
def State.flushWindow (s : State) (w : Nat) : State :=
  let (kind, base, _, peer, peerBase) := s.window w
  match Tab.getD s.naela.winLines w [] with
  | [] => s
  | l :: ls =>
    if kind = 1 then
      let s := { s with naela := { s.naela with winLines := Tab.erase s.naela.winLines w } }
      s.sendWindow 1 peer w (peerBase + (l - base)) (s.rowRead l (64 * (ls.length + 1)))
    else s

/-- Sends what every window has gathered. -/
def State.flushWindows (s : State) : State := (Tab.keys s.naela.winLines).foldl State.flushWindow s

/-- Bytes of a window's unit: one tile with its record (R403). -/
def unitBytes (kind : Nat) : Nat := if kind = 2 then 17984 else 4480

/-- A line written in the row inside window `w`: gathered with the lines before it, or, in a window of units, sent with
its unit once every line of the unit has been written. -/
def State.windowLine (s : State) (w line : Nat) : State :=
  let (kind, base, _, peer, peerBase) := s.window w
  let have_ := Tab.getD s.naela.winLines w []
  if kind = 1 then
    let s := if have_.isEmpty ∨ (have_.getLast? = some (line - 64) ∧ have_.length < 512) then s else s.flushWindow w
    let have_ := Tab.getD s.naela.winLines w []
    { s with naela := { s.naela with winLines := Tab.set s.naela.winLines w (have_ ++ [line]) } }
  else
    let u := (line - base) / unitBytes kind
    let have_ := if have_.contains line then have_ else have_ ++ [line]
    let ls := linesOf (base + u * unitBytes kind) (unitBytes kind)
    if ls.all have_.contains then
      let s := { s with naela := { s.naela with
        winLines := Tab.set s.naela.winLines w (have_.filter (fun l => !ls.contains l)) } }
      s.sendWindow 2 peer w (peerBase + u * unitBytes kind) (s.rowRead (base + u * unitBytes kind) (unitBytes kind))
    else { s with naela := { s.naela with winLines := Tab.set s.naela.winLines w have_ } }

/-- A line written in the row, for every enabled window that holds it. -/
def State.windowWrite (s : State) (line : Nat) : State :=
  (List.range 64).foldl (fun s w =>
    let (kind, base, len, _, _) := s.window w
    if kind ≠ 0 ∧ base ≤ line ∧ line < base + len then s.windowLine w line else s) s

/-! ### HBM writes of a row (R105, R206 to R209) -/

/-- One piece of a write inside one line, under the region's attribute. -/
def State.writeHbmLine (s : State) (r : Region) (a : Nat) (d : Bytes) : Except Stop State :=
  let line := a / 64 * 64
  let whole := d.length == 64
  -- the line that takes the bytes, whole when it is a new copy; a part of a poisoned line is not written
  let to_ := if r.attr = 2 then s.newCopyAt r line else line
  let copied := r.attr == 2 && !s.hbm.written.contains line
  if s.hbm.poisoned.contains (s.rowAt line) && !whole then .error (.alarm 0x21 [.slice (sliceOf line)] line)
  else
    let s := { s with hbm := { s.hbm.cleared to_ (whole || copied) with
      rowLines := if s.hbm.rowLines.contains line then s.hbm.rowLines else line :: s.hbm.rowLines } }
    if r.attr = 1 then
      if s.hbm.log.any (fun e => e.1 == line) then .ok { s with mem := s.mem.writeBytes a d }
      else if s.logCapacity (sliceOf line) ≤ s.logCount (sliceOf line) then .error (.fault .hbmLogFull)
      else .ok { s with
        hbm := { s.hbm with log := (line, s.mem.readBytes line 64) :: s.hbm.log }
        mem := s.mem.writeBytes a d }
    else if r.attr = 2 then
      let s := if s.hbm.written.contains line then s
        else
          let old := s.mem.readBytes (s.committedAt line) 64
          { s with
            mem := if whole then s.mem else s.mem.writeBytes (s.newCopyAt r line) old
            hbm := { s.hbm with written := line :: s.hbm.written } }
      .ok { s with mem := s.mem.writeBytes (s.newCopyAt r a) d }
    else .ok { s with mem := s.mem.writeBytes a d }

/-- The pieces of a write, in order; each must lie in a lifeline region of the running pattern. -/
def State.writeHbmPieces (rs : List Region) : State → List (Nat × Bytes) → Except Stop State
  | s, [] => .ok s
  | s, (a, d) :: ps =>
    match regionAt rs a with
    | none => .error (.fault .address)
    | some r =>
      match s.writeHbmLine r a d with
      | .error e => .error e
      | .ok s => State.writeHbmPieces rs (s.windowWrite (a / 64 * 64)) ps

/-- An HBM write by a running descriptor, stream or engine: a byte outside every lifeline region of its pattern blocks
the whole write with ADDRESS_FAULT (R105). -/
def State.writeHbm (s : State) (a : Nat) (data : Bytes) : Except Stop State :=
  let rs := match s.runPattern with
    | some p => p.regions
    | none => []
  let ps := pieces (data.length / 64 + 2) a data
  if !s.hbmOk a data.length ∨ !ps.all (fun p => (regionAt rs p.1).isSome) then .error (.fault .address)
  else s.writeHbmPieces rs ps

/-! ### Any device address -/

/-- Does a logical cell of this number exist at present (R352)? -/
def State.cellPlaced (s : State) (k : Nat) : Bool := (s.map.place (k % 48) (k / 48)).isSome

/-- A read at a device address by a row; a cell in a void region does not exist (R352). -/
def State.readDev (s : State) (a n : Nat) : Except Stop Bytes :=
  match cellAt a with
  | some k => if s.cellPlaced k then s.readCell (k % 48) (k / 48) (a % 0x1000000) n else .error (.fault .address)
  | none => s.readHbm a n

/-- A write at a device address by a row. -/
def State.writeDev (s : State) (a : Nat) (data : Bytes) : Except Stop State :=
  match cellAt a with
  | some k => if s.cellPlaced k then s.writeCell (k % 48) (k / 48) (a % 0x1000000) data else .error (.fault .address)
  | none => s.writeHbm a data

/-- The byte at a device address as the running row finds it. -/
def State.peek (s : State) (a : Nat) : Byte :=
  match cellAt a with
  | some _ => s.mem.read a
  | none => s.mem.read (s.rowAt a)

/-- Where a byte may be reached by a row: 0 in HBM, cell number + 1 in a window. -/
def State.homeOf (s : State) (a : Nat) : Option Nat :=
  match cellAt a with
  | some k => if s.cellPlaced k && decide (a % 0x1000000 < reachEnd) then some (k + 1) else none
  | none => if s.hbmOk a 1 then some 0 else none

end Sys2Proof.Machine
end

