-- ==== Sys2Proof/Machine/RowOps.lean ====
section
/-!
DEFINITION. How a row fails: check failures and structural faults, suspects, abort, undo, the failure ring and the row
history (R97, R100, R126, R181, R182, R197, R198, R204, R206, R208, R220, R486).
-/
namespace Sys2Proof.Machine

/-! ### Causes -/

def classA (cause : Nat) : Bool := decide (1 ≤ cause) && decide (cause ≤ 5)
def classB (cause : Nat) : Bool := decide (0x10 ≤ cause) && decide (cause ≤ 0x15)

/-- Causes whose suspects include the cell that raised them (Table: Check causes). -/
def blamesCell (cause : Nat) : Bool :=
  [0x01, 0x02, 0x03, 0x05, 0x10, 0x11, 0x12, 0x13, 0x14, 0x20, 0x22, 0x38, 0x40].contains cause

/-- Is a suspect an update engine? -/
def Suspect.isEngine : Suspect → Bool
  | .engine _ => true
  | _ => false

/-- The suspects of a failure (R182); of a mismatch inside an update engine the engine alone (R255). -/
def allSuspects (a : Alarm) : List Suspect :=
  let own := if blamesCell a.cause && !(a.cause == 0x05 && a.suspects.any Suspect.isEngine) then [Suspect.cell a.x a.y] else []
  a.suspects.foldl (fun acc u => if acc.contains u then acc else acc ++ [u]) own

/-- The location keys of a logical cell (Table: Location keys). -/
def State.cellLoc (s : State) (x y : Nat) : List (Nat × Nat) :=
  match s.map.place x y with
  | some p => [(1, p.region), (2, p.col), (3, p.row), (4, x), (5, y), (6, p.globalBlock)]
  | none => [(4, x), (5, y)]

/-- The location keys of a suspect; another module has none (Table: Location keys). -/
def State.suspectLoc (s : State) : Suspect → List (Nat × Nat)
  | .cell x y => s.cellLoc x y
  | .region r => [(1, r)]
  | .block b => [(1, b / 14), (6, b)]
  | .link (.mesh x y d) => s.cellLoc x y ++ [(14, d)]
  | .link (.ring _ i) => [(12, i), (14, 4)]
  | .slice i => [(12, i)]
  | .engine i => [(20, i)]
  | .port p => [(16, p)]
  | .module _ => []

/-- LINK of a suspect link: direction and class; a ring link has the ring's (R360). -/
def State.linkKey (s : State) : Suspect → Option (Nat × Nat)
  | .link (.mesh x y d) => some (d, s.map.linkClass x y d)
  | .link (.ring _ _) => some (4, 8)
  | _ => none

/-- The operand hash: the first 16 bytes of the SHA-512 over the operands the check names (R361). -/
def ophash (a : Alarm) : Option Bytes := a.operands.map (fun b => (sha512 b).take 16)

/-- Key 20: the further units named, each a location map. -/
def State.suspectMaps (s : State) (us : List Suspect) : List (List (Nat × Nat) × Option (Nat × Nat)) :=
  us.map (fun u => ((s.suspectLoc u).filter (fun e => e.1 != 14), s.linkKey u))

/-- The signature of a failed attempt (R359): its first cause and its suspects. -/
def State.attemptSignature (s : State) (a : Alarm) (action : Nat) : State :=
  let us := allSuspects a
  let loc := match us with
    | u :: _ => s.suspectLoc u
    | [] => []
  s.signature {
    loc := loc.filter (fun e => e.1 != 14)
    link := match us with
      | u :: _ => s.linkKey u
      | [] => none
    mech := a.cause, attempt := some s.row.attempt, ophash := ophash a, needHash := classA a.cause || classB a.cause,
    action := action, suspects := s.suspectMaps us.tail }

/-! ### Abort -/

/-- Every sequencer stops, row traffic is discarded, the engines drop their jobs (R198, R246). -/
def State.abortCells (s : State) : State :=
  { s with
    cells := s.cells.map (fun e => (e.1, { e.2 with
      phase := if e.2.phase = .ended then .ended else .idle
      mat := {}, vec := {}, mov := {}, syn := {}, chk := {}, loose := 0, rx := [], merge := [] }))
    engines := s.engines.map (fun e => (e.1, { e.2 with queue := [], running := none }))
    naela := { s.naela with
      winLines := [], afterCommit := []
      sentMsgs := s.naela.sentMsgs.filter (fun m => !(m.inGroup && m.row == s.row.num)) } }

/-- Is a row in progress? -/
def State.rowRuns (s : State) : Bool := s.row.phase == .running

/-- A check fails in the running row: the verdict is FAIL, the first cause stands, the row is aborted and treated as
closed, an early FAIL goes to the group (R181, R197, R198, R200). GROUP_FAIL itself tells nobody. -/
def State.failRow (s : State) (a : Alarm) : State :=
  let s := { s with row := { s.row with phase := .aborted, failed := true, alarm := some a, suspects := allSuspects a } }
  let s := s.abortCells
  let s := s.attemptSignature a (if s.row.attempt < 2 then 1 else 14)
  if a.cause = 0x44 then s else s.earlyFail a.cause s.moduleId

/-- Further suspects of an attempt that has failed already. -/
def State.moreSuspects (s : State) (a : Alarm) : State :=
  { s with row := { s.row with
      suspects := (allSuspects a).foldl (fun acc u => if acc.contains u then acc else acc ++ [u]) s.row.suspects } }

/-- Does a cause lose a unit (R486)? -/
def losesUnit (cause : Nat) : Bool := cause == 0x40 || cause == 0x41 || cause == 0x21

/-- The failure of a unit that carries logical work, found between two attempts of a run: the next attempt fails at its start (R486). -/
def State.holdFail (s : State) (a : Alarm) : State :=
  if s.run.isSome && s.row.heldFail.isNone && (s.row.phase == .waiting || !s.row.waste) then
    { s with row := { s.row with heldFail := some a } }
  else s

/-- A failed check, whenever it comes: in the running row it fails the row, but for a waste-yarn row, which reports CLEAN and
fails only with its group (R199, R355); in an aborted row it adds suspects; between two attempts of a run the loss of a unit
(`lost`, or a cause that says so) fails the next attempt at its start (R486). -/
def State.raise (s : State) (a : Alarm) (lost : Bool := false) : State :=
  match s.row.phase with
  | .running => if s.row.waste && a.cause != 0x44 then s else s.failRow a
  | .aborted => s.moreSuspects a
  | .idle => s
  | _ => if lost || losesUnit a.cause then s.holdFail a else s

/-- A structural fault of cell (x, y) (R126): the row is aborted, to be undone, and ends the run. -/
def State.raiseFault (s : State) (x y : Nat) (f : StructFault) : State :=
  if s.rowRuns then
    let s := { s with row := { s.row with phase := .aborted, failed := true, fault := some f, faultAt := (x, y) } }
    s.abortCells.earlyFail 0 s.moduleId
  else s

/-- What a descriptor of cell (x, y) comes to when it cannot complete. -/
def State.stop (s : State) (x y : Nat) : Stop → State
  | .fault f => s.raiseFault x y f
  | .alarm c us a =>
    let s := if c = 0x21 ∧ s.row.phase = .running then { s with row := { s.row with uncorr := s.row.uncorr + 1 } } else s
    s.raise { cause := c, x := x, y := y, suspects := us, addr := a }

/-- The status that a structural fault ends the run with (R126, R161, R207, R248). -/
def StructFault.status : StructFault → Nat
  | .address => stAddress
  | .misalign => stMisaligned
  | .logFull => stMalformed
  | .stack => stMalformed
  | .inflightAtEnd => stMalformed
  | .pair => stMalformed
  | .descriptor => stMalformed
  | .psum => stMalformed
  | .tensor => stMalformed
  | .hbmLogFull => stNoSpace
  | .upd => stMalformed
  | .notPresent => stNotPresent

/-! ### Undo (R97, R204, R206, R208) -/

/-- Writes logged lines back, newest first. -/
def restoreLines (base : Nat) : Mem → List (Nat × Bytes) → Mem
  | m, [] => m
  | m, (l, old) :: r => restoreLines base (m.writeBytes (base + l) old) r

/-- One cell's undo: logged resident lines, s5 to s31 and p1 to p7. -/
def CellSt.undone (c : CellSt) : CellSt := { c with undo := [], s := c.savedS, p := c.savedP }

/-- The place of a physical cell's number. -/
def placeOf (n : Nat) : Place := { region := n / 56, col := n % 8, row := n % 56 / 8 }

/-- Does the undo log of the logical cell on a physical cell hold the line at `l`? -/
def State.logged (s : State) (n l : Nat) : Bool :=
  match s.map.logicalCell (placeOf n) with
  | some (x, y) => (s.cell x y).undo.any (fun e => e.1 == l)
  | none => false

/-- Undoes the row: resident scratchpad, HBM logs, versioned lines, registers. Working partitions and disposable regions
stay as the attempt left them. A line whose content an error lost is whole again once its logged copy is restored (R81). -/
def State.undoRow (s : State) : State :=
  let m := s.cells.foldl (fun m e => restoreLines (scratchBase + e.1 * 0x1000000) m e.2.undo) s.mem
  { s with
    mem := restoreLines 0 m s.hbm.log
    cells := s.cells.map (fun e => (e.1, e.2.undone))
    phys := s.phys.map (fun e => (e.1, if e.2.refill.isEmpty then e.2 else
      { e.2 with refill := e.2.refill.filter (fun l => !s.logged e.1 l) }))
    hbm := { s.hbm with log := [], written := [], rowLines := [], jobRegions := [] } }

/-! ### The undo log's own lines (R80, R206, R212) -/

/-- The offset of the undo log in a cell's window (R78). -/
def undoBase : Nat := 0xF00000

/-- Line `k` of a cell's undo log: groups of an index line with the addresses of 16 lines, 4 B each, and their 16 data lines, oldest
first (R80). -/
def CellSt.logAreaLine (c : CellSt) (k : Nat) : Bytes :=
  let g := (c.undo.reverse.drop (16 * (k / 17))).take 16
  if k % 17 = 0 then fit 64 (g.flatMap (fun e => le 4 e.1)) else (g.getD (k % 17 - 1) (0, zeros 64)).2

/-- Is line `k` of the undo log in use? -/
def CellSt.logAreaUsed (c : CellSt) (k : Nat) : Bool := decide (k / 17 * 16 + (k % 17 - 1) < c.undo.length)

/-- The logical cells whose undo log an uncorrectable error has hit (R212). -/
def State.badCellLogs (s : State) : List (Nat × Nat) :=
  s.phys.filterMap (fun e => match s.map.logicalCell (placeOf e.1) with
    | some (x, y) =>
      if e.2.refill.any (fun l => decide (undoBase ≤ l) && (s.cell x y).logAreaUsed ((l - undoBase) / 64)) then some (x, y) else none
    | none => none)

/-- The lines of the undo share of slice `i` that hold its logged line number `j`, oldest first: the index line of its group of 9 and
its data line, behind the selector tables (R206). -/
def State.recordLines (s : State) (i j : Nat) : List Nat :=
  let group := s.shareBase i + selectorSpace s.distinctRegions i + j / 8 * 576
  [group, group + 64 * (1 + j % 8)]

/-- The logged HBM lines whose undo record an uncorrectable error has hit (R212). -/
def State.badHbmRecords (s : State) : List Nat :=
  if s.hbm.poisoned.isEmpty then []
  else (List.range 48).flatMap (fun i =>
    let l := (s.hbm.log.filter (fun e => sliceOf e.1 == i)).reverse
    (List.range l.length).filterMap (fun j =>
      if (s.recordLines i j).any s.hbm.poisoned.contains then (l[j]?).map (·.1) else none))

/-- The lifeline regions that lose lines by it. -/
def State.regionsOf (s : State) (lines : List Nat) : List Region :=
  s.distinctRegions.filter (fun r => lines.any (fun l =>
    (decide (r.base ≤ l) && decide (l < r.base + r.len)) || (decide (r.alt ≤ l) && decide (l < r.alt + r.len) && r.attr == 2)))

/-- The outcome of the newest row-history entry becomes UNRECOVERABLE. -/
def State.lastUnrecoverable (s : State) : State :=
  let h := match s.row.history.getLast? with
    | some e => s.row.history.dropLast ++ [e - bits e 77 76 * 2 ^ 76 + 2 * 2 ^ 76]
    | none => []
  { s with row := { s.row with history := h } }

/-- An error in an undo record makes the undo impossible: the row is UNRECOVERABLE, the lifeline regions and the resident ranges of
those cells are reported lost, with a signature (R212; log entry 93). -/
def State.undoImpossible (s : State) : State :=
  let cs := s.badCellLogs
  let ls := s.badHbmRecords
  if cs.isEmpty && ls.isEmpty then s
  else
    let lost := (s.pats.flatMap (fun e => e.2.residents)).filter (fun r => cs.contains (r.x, r.y))
    let ks := (lost.map (fun r => (r.x, r.y, r.off, r.len))).filter (fun k => !s.map.lostRanges.contains k)
    let s := if s.row.unrecoverable then s else (s.addOb 0x2401 3 1).lastUnrecoverable
    let s := { s with
      map := { s.map with lostRanges := s.map.lostRanges ++ ks }
      hbm := { s.hbm with lostRegions := s.hbm.lostRegions ++ (s.regionsOf ls).filter (fun r => !s.hbm.lostRegions.contains r) }
      row := { s.row with unrecoverable := true, unrecDetail := ls.head?.orElse (fun _ => s.row.unrecDetail) } }
    s.signature { loc := (match ls, cs with
        | l :: _, _ => [(12, sliceOf l)]
        | [], c :: _ => s.cellLoc c.1 c.2
        | [], [] => []), mech := if ls.isEmpty then 0x20 else 0x21, action := 14 }

/-! ### Row history (R100) -/

/-- An entry of 128 bits. -/
def historyEntry (row attempt outcome skipped late slips stretch : Nat) : Nat :=
  row % 2 ^ 48 * 2 ^ 80 + attempt % 4 * 2 ^ 78 + outcome * 2 ^ 76 + min skipped 0xFFF * 2 ^ 64 + min late 0xFFFFFFFF * 2 ^ 32
    + min slips 0xFFFFFF * 2 ^ 8 + min stretch 0xFF

/-- The largest slip count of any cell. -/
def State.maxSlips (s : State) : Nat := s.cells.foldl (fun a e => max a e.2.slips) 0

/-- Stretched cycles of the most-stretched block, in 1/256 of its cycles. -/
def State.stretchShare (s : State) : Nat :=
  let n := (s.now - s.row.startNs) * 12 / 5
  (Tab.keys s.blks).foldl (fun a b =>
    let at0 := Tab.getD s.row.stretchAt b (0, 0)
    let c := s.nat (0x4000 + b) 0x11 - at0.1
    let q := s.nat (0x4000 + b) 0x12 - at0.2
    max a (c * 256 / max 1 (n - q / 8))) 0

/-- Appends the entry of the attempt that closes now. -/
def State.recordHistory (s : State) (outcome : Nat) : State :=
  let all := s.row.history ++ [historyEntry s.row.num s.row.attempt outcome s.row.skippedNow s.row.late s.maxSlips s.stretchShare]
  { s with row := { s.row with history := all.drop (all.length - 4096), skippedNow := 0 } }

/-- Counts a mark that starts no row (R93): in SKIPPED and in the SKIPPED of the attempt that it follows or falls into. -/
def State.skipMark (s : State) : State :=
  let open_ := s.row.phase == .running || s.row.phase == .aborted
  let h := match s.row.history.getLast? with
    | some e => s.row.history.dropLast ++ [if bits e 75 64 < 0xFFF then e + 2 ^ 64 else e]
    | none => []
  { s with row := { s.row with
    skipped := s.row.skipped + 1
    skippedNow := if open_ then s.row.skippedNow + 1 else s.row.skippedNow
    history := if open_ then s.row.history else h } }

/-! ### The failure ring (R220) -/

/-- The time that a cell takes: its region's, when the event reaches the hub, less the hub latency of its position (R273). -/
def State.cellTime (s : State) (x y : Nat) : Nat :=
  match s.map.place x y with
  | some p => s.regionTime p.region
  | none => s.now

/-- Physical location of a logical cell as region * 64 + column * 8 + row; 0xFFFF for none. -/
def State.physCode (s : State) (x y : Nat) : Nat :=
  match s.map.place x y with
  | some p => p.region * 64 + p.col * 8 + p.row
  | none => 0xFFFF

/-- Appends the entry of a failed attempt, with the outcomes of its localisations. -/
def State.recordFailure (s : State) (localise : List (Nat × Nat × Nat)) : State :=
  match s.row.alarm with
  | none => s
  | some a =>
    let e : FailEnt :=
      { row := s.row.num, attempt := s.row.attempt, cause := a.cause, x := a.x, y := a.y, phys := s.physCode a.x a.y,
        suspects := s.row.suspects, localise := localise }
    let all := s.row.failRing ++ [e]
    { s with row := { s.row with failRing := all.drop (all.length - 1024) } }

end Sys2Proof.Machine
end

