-- ==== Sys2Proof/Machine/Seeds.lean ====
section
/-!
DEFINITION. What the defect list sets at cast-on besides the map: ply repair words, repaired lines, spare wires and failed links,
regulator phases and junction sensors (R13, R73, R74, R81, R295, R315, R357), and the clock gating of unused units (R11). DETAIL
packs the numbers R327 names: ply * 256 + row or column, the line's byte offset, block * 256 + phase or sensor, port * 256 + lane,
stack * 2^26 + DRAM row; a wire's entry names the sending cell, and DETAIL the receiving cell * 2,048 + wire (log entry 17).
-/
namespace Sys2Proof.Machine

/-- A ply repair word with a spare row or column in use (Table: Ply repair word); a fault in the spare itself sets
ROWBAD or COLBAD. -/
def steerRow (w k : Nat) : Nat := if 32 ≤ k then w ||| 0x40000000 else (w &&& 0x4000FFFF) ||| 0x80000000 ||| k * 65536
def steerCol (w n : Nat) : Nat := if 32 ≤ n then w ||| 0x4000 else (w &&& 0xFFFF4000) ||| 0x8000 ||| n

/-- Is the spare row, or column, of a ply free and sound? -/
def rowFree (w : Nat) : Bool := !bit w 31 && !bit w 30
def colFree (w : Nat) : Bool := !bit w 15 && !bit w 14

/-- A repaired scratchpad line: its bank's spare line count rises (R81). -/
def PhysCell.repairLine (p : PhysCell) (off : Nat) : PhysCell :=
  let bank := bits off 9 6
  { p with spare := p.spare.set bank (p.spare.getD bank 0 + 1), repaired := p.repaired ++ [off] }

/-- Can a fault of this entry be repaired in the cell: the ply's spare row or column is free and sound, or the fault stands in a spare
that is not in use; the line's bank has a spare line left (R73, R81)? -/
def PhysCell.canRepair (p : PhysCell) (d : Defect) : Bool :=
  let w := p.ply.getD (d.detail / 256) 0
  let spare := decide (32 ≤ d.detail % 256)
  if d.kind = 4 then (if spare then !bit w 31 else rowFree w)
  else if d.kind = 5 then (if spare then !bit w 15 else colFree w)
  else if d.kind = 6 then decide (p.spare.getD (bits d.detail 9 6) 0 < 64)
  else true

/-- A physical cell after one entry of the list; a fault that cannot be repaired changes no word. -/
def PhysCell.entry (p : PhysCell) (d : Defect) : PhysCell :=
  let ply := d.detail / 256
  let i := d.detail % 256
  if !p.canRepair d then p
  else if d.kind = 4 then { p with ply := p.ply.set ply (steerRow (p.ply.getD ply 0) i) }
  else if d.kind = 5 then { p with ply := p.ply.set ply (steerCol (p.ply.getD ply 0) i) }
  else if d.kind = 6 then p.repairLine d.detail
  else p

/-- Spare wires used by group of 64 after the wires `ws` fail; none when a third wire of a group fails (R13). -/
def repairLanes : Tab (List Nat) → List Nat → Option (Tab (List Nat))
  | t, [] => some t
  | t, w :: ws =>
    let used := Tab.getD t (w / 64) []
    if used.contains w then repairLanes t ws
    else if 2 ≤ used.length then none
    else repairLanes (Tab.set t (w / 64) (used ++ [w])) ws

/-- The physical cell of an entry. -/
def defectCell (d : Defect) : Nat := d.region * 56 + d.crow * 8 + d.ccol

/-- The physical link that an entry of KIND 7 names. -/
def defectLink (d : Defect) : Nat := physLink (if d.region = 0xFFFF then 2352 else defectCell d) (d.detail / 2048)

/-- The entry of a wire of a physical link that a spare replaces (R13, R327). -/
def wireDefect (link wire : Nat) : Defect :=
  let c := link / 2353
  let detail := link % 2353 * 2048 + wire
  if c = 2352 then { kind := 7, source := 0x80 + 0x30, detail := detail }
  else { kind := 7, source := 0x80 + 0x30, region := c / 56, ccol := c % 8, crow := c % 56 / 8, detail := detail }

/-- A link's record once one of its wires is replaced. -/
def LinkSt.wire (k : LinkSt) (w : Nat) : LinkSt :=
  match repairLanes k.spares [w] with
  | some t => { k with spares := t }
  | none => { k with failed := true }

/-- Applies one entry to the units it repairs or marks. -/
def State.seedUnit (s : State) (d : Defect) : State :=
  if d.kind = 4 ∨ d.kind = 5 ∨ d.kind = 6 then
    { s with phys := Tab.set s.phys (defectCell d) ((s.physCell (defectCell d)).entry d) }
  else if d.kind = 7 then
    { s with links := Tab.set s.links (defectLink d) ((Tab.getD s.links (defectLink d) {}).wire (d.detail % 2048)) }
  else if d.kind = 14 then
    let n := ringLink false d.detail
    { s with links := Tab.set s.links n { Tab.getD s.links n {} with failed := true } }
  else if d.kind = 11 then
    let b := d.region * 14 + d.detail / 256
    s.setOb (0x4000 + b) 7 ((s.nat (0x4000 + b) 7 &&& (0xFF - 2 ^ (d.detail % 256)) : Nat))
  else if d.kind = 12 then
    let b := d.region * 14 + d.detail / 256
    s.setBlk b { s.blk b with failedSensors := (s.blk b).failedSensors ||| 2 ^ (d.detail % 256) }
  else s

/-- Applies the whole list. -/
def State.seedUnits (s : State) : State := s.defectsNow.foldl State.seedUnit { s with phys := [], links := [] }

/-- The location keys of the unit of an entry (Table: Location keys). -/
def defectLoc (d : Defect) : List (Nat × Nat) :=
  let hi := d.detail / 256
  let lo := d.detail % 256
  (if d.region = 0xFFFF then [] else [(1, d.region)]) ++ (if d.ccol = 0xFF then [] else [(2, d.ccol)])
    ++ (if d.crow = 0xFF then [] else [(3, d.crow)])
    ++ (if d.kind = 1 ∨ d.kind = 4 ∨ d.kind = 5 ∨ d.kind = 6 then
        [(6, ({ region := d.region, col := d.ccol, row := d.crow } : Place).globalBlock)] else [])
    ++ (match d.kind with
      | 2 => [(6, d.region * 14 + d.detail)]
      | 4 => [(7, hi), (8, lo)]
      | 5 => [(7, hi), (9, lo)]
      | 6 => [(10, bits d.detail 9 6), (11, bits d.detail 23 10)]
      | 7 => [(15, d.detail % 2048)]
      | 8 => [(12, d.detail / 2 ^ 26), (13, d.detail % 2 ^ 26)]
      | 9 => [(12, d.detail)]
      | 10 => [(12, d.detail)]
      | 11 => [(6, d.region * 14 + hi), (18, lo)]
      | 12 => [(6, d.region * 14 + hi), (19, lo)]
      | 13 => [(16, hi), (17, lo)]
      | 14 => [(12, d.detail % 48)]
      | _ => [])

/-- LINK of the unit of an entry: of a ring link its ring's (R360). -/
def defectLinkKey (d : Defect) : Option (Nat × Nat) := if d.kind = 14 then some (4, 8) else none

/-- ACTION of the signature of an entry that a repair or a retirement appends (Table: Signature actions). -/
def defectAction (d : Defect) : Nat :=
  match d.kind with
  | 2 => 8
  | 4 => 2
  | 5 => 2
  | 6 => 3
  | 7 => 4
  | 8 => 5
  | 9 => 12
  | 10 => 11
  | 13 => 4
  | _ => 0

/-- The signature of an entry just appended (R359). -/
def State.signDefect (s : State) (d : Defect) (cause action origin : Nat) : State :=
  s.signature { loc := defectLoc d, link := defectLinkKey d, mech := if cause = 0 then 0x100 + d.kind else cause, action := action
                defect := s.newDefect, origin := origin }

/-- Appends what cast-on step `n` has found, each entry with its signature; a place that cannot be repaired costs its cell (R73, R74,
R81, R359). -/
def State.appendFound (s : State) (n : Nat) (d : Defect) : State :=
  let lost := (d.kind == 4 || d.kind == 5 || d.kind == 6) && !(s.seedUnits.physCell (defectCell d)).canRepair d
  let s := (s.appendDefect .castOn { d with source := n }).signDefect d 0 (if lost then 0 else defectAction d) 1
  if lost then
    let c : Defect := { kind := 1, source := n, region := d.region, ccol := d.ccol, crow := d.crow }
    (s.appendDefect .castOn c).signDefect c 0 (defectAction c) 1
  else s

/-- Clock-gates the unused and spare regions and marks them in CSTATE 1, and the unused cells (R11, R324). A group that is latched off
keeps its CSTATE (R291). -/
def State.gateUnused (s : State) : State :=
  (List.range 42).foldl (fun s r =>
    if (s.map.logicalRegion r).isSome then s
    else
      let s := s.setReg r { s.reg r with gated := true }
      if 3 ≤ s.nat (0x3000 + r) 0x24 then s else s.setOb (0x3000 + r) 0x24 1) { s with map := { s.map with gated := true, awake := [] } }

/-- Is a physical cell clock-gated: unused, and not ungated for a swatch (R11)? -/
def MapSt.cellGated (m : MapSt) (p : Place) : Bool :=
  m.gated && (m.logicalCell p).isNone && !m.awake.contains p.number

/-- Ungates the unused cells among the places for a swatch, and the unused region whose cells they are (R11). -/
def State.wake (s : State) (ps : List Place) : State :=
  let ns := (ps.filter (fun p => s.map.cellGated p)).map Place.number
  let s := { s with map := { s.map with awake := s.map.awake ++ ns } }
  ns.foldl (fun s n => if (s.reg (n / 56)).gated then s.setReg (n / 56) { s.reg (n / 56) with gated := false } else s) s

/-- Gates again what was ungated for swatches: at the next row boundary (R11; log entry 91). -/
def State.sleep (s : State) : State :=
  s.map.awake.foldl (fun s n =>
    if (s.map.logicalRegion (n / 56)).isNone ∧ !(s.reg (n / 56)).gated then s.setReg (n / 56) { s.reg (n / 56) with gated := true } else s)
    { s with map := { s.map with awake := [] } }

end Sys2Proof.Machine
end

