-- ==== Sys2Proof/Machine/Loss.lean ====
section
/-!
DEFINITION. Units lost or retired: how a loss is recorded and queued for darning (R13, R147, R211, R256, R341, R342, R355,
R486).
-/
namespace Sys2Proof.Machine

/-- Is a unit unusable already? -/
def MapSt.unusable (m : MapSt) : Lost → Bool
  | .cell r row col => m.badRegions.contains r || (m.colBad r col).contains row
  | .block b => m.badRegions.contains (b / 14) || (blockCells b).all (fun p => (m.colBad p.region p.col).contains p.row)
  | .region r => m.badRegions.contains r

/-- Does a unit carry logical work? -/
def MapSt.carries (m : MapSt) : Lost → Bool
  | .cell r row col => (m.logicalCell { region := r, col := col, row := row }).isSome
  | .block b => (blockCells b).any (fun p => (m.logicalCell p).isSome)
  | .region r => (m.logicalRegion r).isSome

/-- Is the loss of a unit known: unusable, queued or being darned? -/
def MapSt.known (m : MapSt) (u : Lost) : Bool :=
  m.unusable u || m.queue.any (fun e => e.1 == u) || m.redo.any (fun e => e.1 == u) || (match m.now with
    | some e => e.1 == u
    | none => false)

/-- The physical cells of a unit. -/
def Lost.places : Lost → List Place
  | .cell r row col => [{ region := r, col := col, row := row }]
  | .block b => blockCells b
  | .region r => (List.range 56).map (fun i => { region := r, col := i % 8, row := i / 8 })

/-- The map in force before the running darning. -/
def MapSt.before (m : MapSt) : MapSt :=
  { m with u := m.oldU, v := m.oldV, badCells := m.oldBadCells, badRegions := m.oldBadRegions }

/-- Does the running darning use a unit: as the spare, a moving position or a source (R355)? -/
def MapSt.uses (m : MapSt) (u : Lost) : Bool :=
  m.now.isSome && u.places.any (fun p => m.logicalCell p != m.before.logicalCell p)

/-- The running darning stops: the earlier map is in force again with what was lost meanwhile, and its unit waits to be applied
again (R346). -/
def MapSt.stopped (m : MapSt) : MapSt :=
  match m.now with
  | none => m
  | some e =>
    let b := m.entered.foldl (fun (b : MapSt) u => (b.lose u).1) m.before
    { b with now := none, redo := m.redo ++ [e], entered := [] }

/-- Logs one entry whose value the map gives, when it has changed. -/
def State.logMapValue (s : State) (idx sub old new : Nat) : State := if old = new then s else s.logEvent .darning idx sub old new

/-- Logs every change of the active ports, the rate and the stack state of a segment (R150). -/
def State.logSlices (s : State) (m0 : MapSt) : State :=
  (List.range 48).foldl (fun s i =>
    let s := s.logMapValue (0x2710 + i) 1 (m0.activePorts i).length (s.map.activePorts i).length
    let s := s.logMapValue (0x2710 + i) 2 (m0.sliceRate i) (s.map.sliceRate i)
    s.logMapValue (0x2710 + i) 3 (m0.stackState i) (s.map.stackState i)) s

/-- A session with a page in a lost slice becomes FAULTED and keeps its pages. -/
def Session.losesSlice (v : Session) (i : Nat) : Session :=
  if v.status ≠ 0 ∧ v.pages.any (fun p => p / 65536 == i) then { v with status := 5 } else v

/-- The slice leaves service: its engine and the free pages with it, and every session with a page there. -/
def State.loseSlice (s : State) (i : Nat) : State :=
  { s with
    map := { s.map with outStacks := if s.map.outStacks.contains i then s.map.outStacks else s.map.outStacks ++ [i] }
    sess := s.sess.map (fun e => (e.1, e.2.losesSlice i)) }

/-- The running darning stops; DARNSTATE is idle until it starts again, and what changes with the earlier map is logged (R150). -/
def State.stopDarning (s : State) : State :=
  if s.map.now.isSome then ({ s with map := s.map.stopped }.setOb 0x2310 4 0).logSlices s.map else s

/-- A unit that makes no darning of its own is appended, and enters the map: a spare (R11), or a cell whose content a running region
darning moves or rebuilds anyway (R355). -/
def State.enterUnit (s : State) (u : Lost) (cause : Nat) : State :=
  let s := s.appendDefect .darning (lostDefect cause u)
  { s with map := { (s.map.lose u).1 with entered := if s.map.now.isSome then s.map.entered ++ [u] else [] } }.logSlices s.map

/-- The same as a retirement with its signature (R359). -/
def State.enterLoss (s : State) (u : Lost) (cause : Nat) : State :=
  let d := lostDefect cause u
  (s.enterUnit u cause).signDefect d cause (defectAction d) 0

/-- Is the loss of a cell absorbed by the region darning that runs (R355)? -/
def State.absorbs (s : State) (u : Lost) : Bool :=
  s.nat 0x2310 4 == 2 && (match u, (s.map.lose u).2 with
    | .cell _ _ _, .cellDarn => true
    | _, _ => false)

/-- Queues a lost unit for darning; one that the running darning uses stops it (R346). In SAFE nothing is darned, and before READY
the map is still to be built: the unit is left to the next start swatch, or entered at once under the running step (R327, R355). -/
def State.queueLoss (s : State) (u : Lost) (cause : Nat) : State :=
  if s.map.known u then s
  else if s.dev = .safe then { s with flash := { s.flash with owed := s.flash.owed ++ [lostDefect cause u] } }
  else if s.dev = .castOn then
    let d := { lostDefect cause u with source := s.nat 0x2D00 2 }
    (s.appendDefect .castOn d).signDefect d cause (defectAction d) 1
  else if !s.map.carries u then s.enterLoss u cause
  else if s.map.uses u && s.absorbs u then s.enterLoss u cause
  else
    let s := if s.map.uses u then s.stopDarning else s
    { s with map := { s.map with queue := s.map.queue ++ [(u, cause)] } }

/-- A unit is lost: it is queued for darning, and the running row fails, or the next attempt when the loss falls between rows
and the unit carries logical work (R342, R355, R486). -/
def State.loseUnit (s : State) (u : Lost) (a : Alarm) : State :=
  let busy := s.row.phase == .running || s.row.phase == .aborted
  let raises := !s.map.known u && (busy || s.map.carries u)
  let s := s.queueLoss u a.cause
  if raises then s.raise a true else s

/-- The physical unit of a logical cell. -/
def State.cellUnit (s : State) (x y : Nat) : Option Lost := (s.map.place x y).map (fun p => .cell p.region p.row p.col)

/-- A logical cell is lost. -/
def State.loseCell (s : State) (x y cause : Nat) : State :=
  match s.cellUnit x y with
  | some u => s.loseUnit u { cause := cause, x := x, y := y, suspects := [.cell x y] }
  | none => s

/-- A region is lost with cause REGION_LOST. -/
def State.loseRegion (s : State) (r : Nat) : State := s.loseUnit (.region r) { cause := 0x41, suspects := [.region r] }

/-- A block is lost: its four cells, each with cause CELL_LOST (R263, R341). -/
def State.loseBlock (s : State) (b : Nat) : State :=
  let cells := (blockCells b).filterMap (fun p => s.map.logicalCell p)
  let at0 := cells.headD (0, 0)
  s.loseUnit (.block b) { cause := 0x40, x := at0.1, y := at0.2, suspects := cells.map (fun c => Suspect.cell c.1 c.2) }

/-- A converter group latches off with this CSTATE (3 trip, 4 short, 5 thermal, 6 eFuse open): logged, with a signature, until
the next cast-on (R291). -/
def State.latchOff (s : State) (r cstate : Nat) : State :=
  let old := s.nat (0x3000 + r) 0x24
  if 3 ≤ old then s
  else
    let s := s.logEvent .module (0x3000 + r) 0x24 old cstate
    let s := s.setOb (0x3000 + r) 0x24 (cstate : Nat)
    s.signature { loc := [(1, r)], mech := 0x41, action := 13 }

/-- Are the rings broken at two different segments, one on each ring, so that some node can no longer reach another (R147)? -/
def State.ringsCut (s : State) : Bool :=
  (List.range 48).any (fun i => s.ringBroken false i
    && (List.range 48).any (fun j => s.ringBroken true j && (i + 1) % 48 != j))

/-- A ring link leaves its ring; rings broken at two segments latch SAFE (R147). -/
def State.loseRingLink (s : State) (b : Bool) (i : Nat) : State :=
  if s.ringBroken b i then s
  else
    let s := s.setLink (.ring b i) { s.link (.ring b i) with failed := true }
    let d : Defect := { kind := 14, source := 0x80 + 0x30, detail := (if b then 48 else 0) + i }
    let s := (s.appendDefect .module d).signDefect d 0x30 0 0
    if s.ringsCut then s.latchSafe none else s

/-- The end of a seam link that a map with the same placement of regions leaves unused: an end whose column still has its spare,
the sending one first (R341; log entry 91). -/
def MapSt.spareEnd (m : MapSt) (x y dir : Nat) : Option Place :=
  ((m.place x y).toList ++ ((neighbour x y dir).bind (fun n => m.place n.1 n.2)).toList).find? (fun p => m.colSpare p.region p.col)

/-- The unit that a failed mesh link costs (R13, R341): on a seam the cell at an end that a new map of its column leaves unused, else
the region south or east of the seam; within a field the cell that reports the link. -/
def State.linkUnit (s : State) (x y dir : Nat) : Option Lost :=
  match s.map.seamRegion x y dir with
  | some r => match s.map.spareEnd x y dir with
    | some p => some (.cell p.region p.row p.col)
    | none => some (.region r)
  | none => s.cellUnit x y

/-- A link is lost beyond repair (R13, R147, R341). -/
def State.loseLink (s : State) (l : LinkId) : State :=
  match l with
  | .ring b i => s.loseRingLink b i
  | .mesh x y d =>
    let s := s.setLink l { s.link l with failed := true }
    match s.linkUnit x y d with
    | some u => s.loseUnit u { cause := 0x30, x := x, y := y, suspects := [.link l] }
    | none => s

/-- An update engine is retired: the engine of the next slice serves its jobs (R211, R256). -/
def State.retireEngine (s : State) (i : Nat) : State :=
  if s.engineCount = 0 ∨ s.nat 0x2C02 (i + 1) = 2 then s
  else
    let s := s.logEvent .module 0x2C02 (i + 1) 1 2
    (s.setOb 0x2C02 (i + 1) 2).signature { loc := [(20, i)], mech := 0x04, action := 10 }

/-- A slice leaves service as a stack that no longer answers does (R213, R358). -/
def State.dropSlice (s : State) (i cause : Nat) : State :=
  if s.map.outStacks.contains i then s
  else
    let s := (s.loseSlice i).logSlices s.map
    let s := s.appendDefect .module { kind := 9, source := 0x80 + cause, detail := i }
    (s.signature { loc := [(12, i)], mech := cause, action := 12, defect := s.newDefect }).msix 65

/-- Queues the loss of a unit, if there is one. -/
def State.queueUnit (s : State) (u : Option Lost) (cause : Nat) : State :=
  match u with
  | some l => s.queueLoss l cause
  | none => s

/-- Retires a suspect (R211, R213): cells and regions are darned, links go as R13 and R147 say, an engine hands its jobs on, a slice
leaves service; another module is none of this one's units. A Naela port is retired by `State.retireUnit`. -/
def State.retire (s : State) (u : Suspect) (cause : Nat) : State :=
  match u with
  | .cell x y => s.queueUnit (s.cellUnit x y) cause
  | .region r => s.queueLoss (.region r) cause
  | .block b => s.queueLoss (.block b) cause
  | .link (.mesh x y d) => s.queueUnit (s.linkUnit x y d) cause
  | .link (.ring b i) => s.loseRingLink b i
  | .engine i => s.retireEngine i
  | .slice i => s.dropSlice i cause
  | .port _ => s
  | .module _ => s

end Sys2Proof.Machine
end

