-- ==== Sys2Proof/Machine/Blocks.lean ====
section
/-!
DEFINITION. Blocks: droop and stretching, shunt, replica paths and the slow voltage loop, guard band, regulator phases, junction
sensors, the block PLL (R263 to R265, R294, R295, R309, R313 to R315).
-/
namespace Sys2Proof.Machine

/-- A command to a block. -/
def State.onBlock (s : State) (b : Nat) (f : State → State) : Result := s.unit "block" b (decide (b < 588)) f

/-! ### Droop and overshoot -/

/-- Quanta that the oscillator adds at a droop of `mv` under threshold `d`, with `old` in force (Table: Stretch response). A stretch ends
only below `d` - 5 mV; between the two it stays at the lower count (log entry 101). -/
def stretchQuanta (d old mv : Nat) : Nat :=
  if d + 15 ≤ mv then 4 else if d ≤ mv then 2 else if d ≤ mv + 5 ∧ old ≠ 0 then 2 else 0

/-- The supply of a block droops `mv` below its voltage: stretching, and above 25 mV a charge from the reservoir (R264, R294). -/
def execDroopDetect (b mv : Nat) (s : State) : Result :=
  s.onBlock b (fun s =>
    let s := if 25 < mv then s.addOb (0x4000 + b) 0x0D 1 else s
    s.setBlk b { s.blk b with droop := stretchQuanta (s.droopTh b) (s.blk b).droop mv })

/-- The droop has fallen below D - 5 mV: stretching ends. -/
def execDroopEnd (b : Nat) (s : State) : Result := s.onBlock b (fun s => s.setBlk b { s.blk b with droop := 0 })

/-- The supply overshoots by `mv`: above 30 mV the shunt clamps it and counts (R294). -/
def execShuntClamp (b mv : Nat) (s : State) : Result :=
  s.onBlock b (fun s => if 30 < mv then s.addOb (0x4000 + b) 0x0E 1 else s)

/-! ### The slow loop (R265) -/

/-- Has the voltage of a block reached its maximum? -/
def State.atVmax (s : State) (b : Nat) : Bool := decide (s.vmax b ≤ s.vtrim b + s.raises b * 5 / 2)

/-- A step of the slow loop while a path warns: 5 mV more, logged; at the maximum a sustained stretch, logged and counted. -/
def State.slowUp (s : State) (b : Nat) : State :=
  let k := s.blk b
  if s.atVmax b then
    if k.sustained then s
    else ((s.setBlk b { k with sustained := true }).addOb (0x4000 + b) 0x15 1).logEvent .module (0x4000 + b) 0x15
      (s.nat (0x4000 + b) 0x15) (s.nat (0x4000 + b) 0x15 + 1)
  else
    let old := s.vset b
    let s := s.setBlk b { k with slowRaise := k.slowRaise + 2 }
    s.logEvent .module (0x4000 + b) 1 old (s.vset b)

/-- A millisecond without a warning: the sustained stretch ends after 1 ms, the raise falls by 2.5 mV a ms after 10 ms. -/
def Blk.slowDown (k : Blk) : Blk :=
  let k := { k with warnMask := 0, warnFreeUs := min (k.warnFreeUs + 1000) 10000, sustained := false }
  if 10000 ≤ k.warnFreeUs then { k with slowRaise := k.slowRaise - 1 } else k

/-- A replica path warns: counted, and the first standing warning makes the loop's first step (log entry 33). -/
def execReplicaPathWarning (b path : Nat) (s : State) : Result :=
  s.unit "replica path" path (decide (b < 588) && decide (path < 6)) (fun s =>
    let k := s.blk b
    let first := k.warnMask == 0
    let s := (s.setBlk b { k with warnMask := k.warnMask ||| 2 ^ path, warnFreeUs := 0 }).addOb (0x4000 + b) 0x14 1
    if first then s.slowUp b else s)

/-- The slow loop's timer: 100 µs with a path warning, or 1 ms without. -/
def execSlowLoopStep (b : Nat) (warning : Bool) (s : State) : Result :=
  s.onBlock b (fun s =>
    if warning then (s.setBlk b { s.blk b with warnFreeUs := 0 }).slowUp b else s.setBlk b (s.blk b).slowDown)

/-- 10 ms after ungating the guard band falls to 8 %. -/
def execGuardBandExpire (b : Nat) (s : State) : Result := s.onBlock b (fun s => s.setOb (0x4000 + b) 0x17 8)

/-! ### Regulator phases (R295) -/

/-- A block disables a phase: logged and appended; with four or more lost its cells are retired. -/
def execRegulatorPhaseLoss (b phase : Nat) (s : State) : Result :=
  s.unit "regulator phase" phase (decide (b < 588) && decide (phase < 8)) (fun s =>
    let old := s.nat (0x4000 + b) 7
    if !bit old phase then s
    else
      let new := old - 2 ^ phase
      let s := (s.setOb (0x4000 + b) 7 (new : Nat)).logEvent .module (0x4000 + b) 7 old new
      let s := s.appendDefect .module
        { kind := 11, source := 0x80, region := b / 14, detail := b % 14 * 256 + phase }
      let s := s.signature { loc := s.suspectLoc (.block b) ++ [(18, phase)], mech := 0x10B,
                             defect := s.newDefect }
      if 4 ≤ s.phasesLost b then s.loseBlock b else s)

/-! ### Junction sensors (R313 to R315) -/

/-- A tightening of the thermal limit: by 4/64, or by four bubbles. -/
def Blk.tighten (k : Blk) (bubbles : Bool) : Blk :=
  if bubbles then { k with thBub := min 60 (k.thBub + 4) } else { k with thermal := max 4 (k.thermal - 4) }

/-- A relaxing: by 1/64, or by one bubble. -/
def Blk.relax (k : Blk) (bubbles : Bool) : Blk :=
  if bubbles then { k with thBub := k.thBub - 1 } else { k with thermal := min 64 (k.thermal + 1) }

/-- One reading, 10 µs after the last, with the hottest working sensor at `t` (0.1 °C) against THROTTLE at `th`. A throttle
episode tightens at its first reading and every 100 µs; after 1 ms below THROTTLE - 2 °C the limit relaxes every 100 µs. -/
def Blk.thermalRead (k : Blk) (bubbles : Bool) (th t : Nat) : Blk :=
  if th ≤ t then
    if !k.hot then { k.tighten bubbles with hot := true, tightenUs := 0, coolUs := 0 }
    else if 90 ≤ k.tightenUs then { k.tighten bubbles with tightenUs := 0, coolUs := 0 }
    else { k with tightenUs := k.tightenUs + 10, coolUs := 0 }
  else if t + 20 < th then
    let cool := min (k.coolUs + 10) 1000
    if cool < 1000 then { k with coolUs := cool, tightenUs := 0 }
    else if 90 ≤ k.tightenUs then { k.relax bubbles with hot := false, coolUs := cool, tightenUs := 0 }
    else { k with hot := false, coolUs := cool, tightenUs := k.tightenUs + 10 }
  else { k with coolUs := 0 }

/-- A region trips thermally: latched off, lost; three within 10 s latch SAFE (R314). One that is latched off already has tripped. -/
def State.thermalTrip (s : State) (r : Nat) : State :=
  if 3 ≤ s.nat (0x3000 + r) 0x24 then s else
  let recent := s.clock :: s.power.trips.filter (fun t => decide (s.clock < t + 10000000000))
  let s := ({ s with power := { s.power with trips := recent } }.latchOff r 5).loseRegion r
  if 3 ≤ recent.length then s.latchSafe (some 0x41) else s

/-- TJMAX: the hottest working sensor of any block. -/
def State.tjMax (s : State) : Nat := (Tab.keys s.blks).foldl (fun m b => max m (s.nat (0x4000 + b) 8)) 0

/-- A block reads its four sensors (0.1 °C). -/
def execJunctionSensorRead (b t0 t1 t2 t3 : Nat) (s : State) : Result :=
  s.onBlock b (fun s =>
    let k := s.blk b
    let ok (i : Nat) : Bool := !bit k.failedSensors i
    let ts := [t0, t1, t2, t3]
    let hot := ((List.range 4).filter ok).foldl (fun m i => max m (ts.getD i 0)) 0
    let s := (List.range 4).foldl (fun s i =>
      s.setOb (0x4000 + b) (9 + i) (if ok i then (ts.getD i 0 : Nat) else 0x7FFF)) s
    let s := s.setOb (0x4000 + b) 8 (hot : Nat)
    let th := s.nat 0x2502 2 * 10
    let new := k.thermalRead s.bubbling th hot
    let s := if th ≤ hot ∧ !k.hot then s.addOb (0x4000 + b) 0x0F 1 else s
    let s := s.setBlk b { new with tripUs := if 1150 ≤ hot then k.tripUs + 10 else 0 }
    let s := s.setOb 0x2502 1 (s.tjMax : Nat)
    if 1150 ≤ hot ∧ 10 ≤ k.tripUs then s.thermalTrip (b / 14) else s)

/-- A sensor is marked failed and logged; a block with none left loses its cells (R315). -/
def execSensorFailed (b k : Nat) (s : State) : Result :=
  s.unit "junction sensor" k (decide (b < 588) && decide (k < 4)) (fun s =>
    let c := s.blk b
    if bit c.failedSensors k then s
    else
      let s := s.setBlk b { c with failedSensors := c.failedSensors ||| 2 ^ k }
      let s := (s.logEvent .module (0x4000 + b) (9 + k) (s.nat (0x4000 + b) (9 + k)) 0x7FFF).setOb (0x4000 + b) (9 + k) 0x7FFF
      if (s.blk b).sensors = 0 then s.loseBlock b else s)

/-! ### PLL -/

/-- A block PLL loses lock: its clock stops and its four cells are lost (R263). -/
def execBlockPllLoss (b : Nat) (s : State) : Result :=
  s.onBlock b (fun s => (s.setOb (0x4000 + b) 0x16 2).loseBlock b)

end Sys2Proof.Machine
end

