-- ==== Sys2Proof/Machine/Numbers.lean ====
section
/-!
DEFINITION. Number formats, gauges, the window, the cut-off and the roundings of a drain (R29 to R44, R48, R50, R115).
-/
namespace Sys2Proof

/-- A number exactly: NaN, an infinity, or (-1)^neg * m * 2^e. A zero keeps its sign. -/
inductive Num where
  | nan
  | inf (neg : Bool)
  | fin (neg : Bool) (m : Nat) (e : Int)
deriving DecidableEq, Repr, Inhabited

/-- A floating format (R29): exponent bits, fraction bits, bias, and its specials: 0 none, 1 NaN only (E4M3), 2 infinity
and NaN. -/
structure FFmt where
  eb : Nat
  mb : Nat
  bias : Nat
  spec : Nat
deriving DecidableEq, Repr, Inhabited

def e4m3 : FFmt := ⟨4, 3, 7, 1⟩
def e5m2 : FFmt := ⟨5, 2, 15, 2⟩
def e3m2 : FFmt := ⟨3, 2, 3, 0⟩
def e2m3 : FFmt := ⟨2, 3, 1, 0⟩
def e2m1 : FFmt := ⟨2, 1, 1, 0⟩
def bf16 : FFmt := ⟨8, 7, 127, 2⟩
def fp32 : FFmt := ⟨8, 23, 127, 2⟩

/-- Decodes the bits of a floating number. -/
def FFmt.decode (f : FFmt) (w : Nat) : Num :=
  let neg := bit w (f.eb + f.mb)
  let e := bits w (f.eb + f.mb - 1) f.mb
  let m := w % 2 ^ f.mb
  let top := 2 ^ f.eb - 1
  if f.spec = 2 ∧ e = top then (if m = 0 then .inf neg else .nan)
  else if f.spec = 1 ∧ e = top ∧ m = 2 ^ f.mb - 1 then .nan
  else if e = 0 then .fin neg m (1 - (f.bias : Int) - f.mb)
  else .fin neg (m + 2 ^ f.mb) ((e : Int) - f.bias - f.mb)

/-- Least exponent of a normal number. -/
def FFmt.emin (f : FFmt) : Int := 1 - f.bias

/-- The largest finite value: significand and exponent of its last bit. -/
def FFmt.maxfin (f : FFmt) : Nat × Int :=
  let top := 2 ^ f.eb - 1
  let e : Nat := if f.spec = 2 then top - 1 else top
  let m : Nat := if f.spec = 1 then 2 ^ f.mb - 2 else 2 ^ f.mb - 1
  (m + 2 ^ f.mb, (e : Int) - f.bias - f.mb)

/-- Index of the most significant 1 bit; 0 for 0. -/
def msb (m : Nat) : Nat := Nat.log2 m

/-- r * 2^q as an integer scaled by 2^-base, for base at most q. -/
def scaled (r : Nat) (q base : Int) : Nat := r * 2 ^ (q - base).toNat

/-- Is r * 2^q above m * 2^e? -/
def above (r : Nat) (q : Int) (m : Nat) (e : Int) : Bool :=
  let b := min q e
  decide (scaled m e b < scaled r q b)

/-- The sign bit in place. -/
def FFmt.signed (f : FFmt) (neg : Bool) (w : Nat) : Nat := if neg then w + 2 ^ (f.eb + f.mb) else w

/-- The code of the largest finite value. -/
def FFmt.maxCode (f : FFmt) : Nat :=
  let top := 2 ^ f.eb - 1
  if f.spec = 2 then (top - 1) * 2 ^ f.mb + (2 ^ f.mb - 1)
  else if f.spec = 1 then top * 2 ^ f.mb + (2 ^ f.mb - 2)
  else top * 2 ^ f.mb + (2 ^ f.mb - 1)

/-- The canonical NaN (R31). -/
def FFmt.nan (f : FFmt) : Nat :=
  let top := 2 ^ f.eb - 1
  if f.spec = 1 then top * 2 ^ f.mb + (2 ^ f.mb - 1)
  else top * 2 ^ f.mb + 2 ^ (f.mb - 1)

/-- The code of an infinity, in a format that has one. -/
def FFmt.inf (f : FFmt) : Nat := (2 ^ f.eb - 1) * 2 ^ f.mb

/-- What an overflow delivers (R41). -/
def FFmt.overflow (f : FFmt) (neg sat : Bool) : Nat :=
  if sat then f.signed neg f.maxCode
  else if f.spec = 2 then f.signed neg f.inf
  else f.nan

/-- Codes r * 2^q; r at most 2^(mb+1), and below 2^mb only at the least exponent. -/
def FFmt.encode (f : FFmt) (neg : Bool) (r : Nat) (q : Int) : Nat :=
  let r' := if r = 2 ^ (f.mb + 1) then r / 2 else r
  let q' := if r = 2 ^ (f.mb + 1) then q + 1 else q
  if r' < 2 ^ f.mb then f.signed neg r'
  else f.signed neg ((q' + f.mb + f.bias).toNat * 2 ^ f.mb + (r' - 2 ^ f.mb))

/-- m >> d rounded to nearest, ties to even; and whether bits were lost. -/
def rneShift (m d : Nat) : Nat × Bool :=
  let r := m / 2 ^ d
  let rem := m % 2 ^ d
  let half := 2 ^ d / 2
  (if d ≠ 0 ∧ (half < rem ∨ (rem = half ∧ r % 2 = 1)) then r + 1 else r, rem != 0)

/-- Rounds m * 2^l to a format (R41): code, OVERFLOW, and whether the rounding lost bits. -/
def FFmt.round (f : FFmt) (neg sat : Bool) (m : Nat) (l : Int) : Nat × Bool × Bool :=
  if m = 0 then (f.signed neg 0, false, false)
  else
    let e := (msb m : Int) + l
    let q := max e f.emin - f.mb
    let (r, lost) := if q ≤ l then (m * 2 ^ (l - q).toNat, false) else rneShift m (q - l).toNat
    let mx := f.maxfin
    if above r q mx.1 mx.2 then (f.overflow neg sat, true, true)
    else (f.encode neg r q, false, lost)

/-- Rounds a number to a format; an infinity is an overflow (R41). -/
def FFmt.put (f : FFmt) (sat : Bool) : Num → Nat × Bool × Bool
  | .nan => (f.nan, false, false)
  | .inf neg => (f.overflow neg sat, true, true)
  | .fin neg m e => f.round neg sat m e

/-! ### Format codes (R115) -/

/-- Element width, bits. -/
def fmtWidth (c : Nat) : Nat :=
  [8, 8, 8, 8, 6, 6, 4, 8, 8, 16, 32, 32, 128].getD c 8

/-- Does a format carry block scales (MX)? -/
def fmtMx (c : Nat) : Bool := decide (2 ≤ c) && decide (c ≤ 7)

/-- The floating layout of a format's elements. -/
def fmtFloat : Nat → FFmt
  | 0 => e4m3
  | 1 => e5m2
  | 2 => e4m3
  | 3 => e5m2
  | 4 => e3m2
  | 5 => e2m3
  | 6 => e2m1
  | 9 => bf16
  | _ => fp32

/-- An integer as a number. -/
def numOfInt (v : Int) (e : Int) : Num := .fin (decide (v < 0)) v.natAbs e

/-- An element's value without its scale. -/
def decodeElem (c w : Nat) : Num :=
  if c = 7 then numOfInt (toSigned 8 w) (-6)
  else if c = 8 then numOfInt (toSigned 8 w) 0
  else if c = 11 then numOfInt (toSigned 32 w) 0
  else (fmtFloat c).decode w

/-- A value times its block scale; scale 0xFF makes it NaN (R30). -/
def Num.scale (n : Num) (s : Nat) : Num :=
  if s = 0xFF then .nan
  else match n with
    | .nan => .nan
    | .inf b => .inf b
    | .fin b m e => .fin b m (e + s - 127)

/-! ### Gauges (R33) -/

/-- No gauge. -/
def noGauge : Int := -32768

/-- gmax of an MX format. -/
def gmax : Nat → Int
  | 2 => 9
  | 3 => 16
  | 4 => 5
  | 5 => 3
  | 6 => 3
  | _ => 2

/-- The gauge of an MX block. -/
def gaugeBlock (c scale : Nat) : Int := if scale = 0xFF then noGauge else (scale : Int) - 127 + gmax c

/-- The gauge of an element of a format without block scale. -/
def gaugeElem (c w : Nat) : Int :=
  let f := fmtFloat c
  match f.decode w with
  | .fin _ 0 _ => noGauge
  | .fin _ _ _ => (max (bits w (f.eb + f.mb - 1) f.mb) 1 : Int) - f.bias + 1
  | _ => noGauge

/-- P of a row and a column gauge; the window bottom is P - 103 (R35). -/
def windowP (rg cg : Int) : Int := if rg = noGauge ∨ cg = noGauge then 0 else rg + cg
def windowL (rg cg : Int) : Int := windowP rg cg - 103

/-! ### Special states (R40) -/

/-- SPEC of a sum: 0 finite, 1 +Inf, 2 -Inf, 3 NaN. -/
def specJoin (a b : Nat) : Nat :=
  if a = 0 then b else if b = 0 then a else if a = b then a else 3

/-- SPEC that a number contributes. -/
def specOf : Num → Nat
  | .nan => 3
  | .inf true => 2
  | .inf false => 1
  | .fin _ _ _ => 0

/-! ### Products and the cut-off (R32, R37, R40) -/

/-- The exact product of two operands. -/
def Num.mul : Num → Num → Num
  | .nan, _ => .nan
  | _, .nan => .nan
  | .inf a, .inf b => .inf (a != b)
  | .inf a, .fin b m _ => if m = 0 then .nan else .inf (a != b)
  | .fin a m _, .inf b => if m = 0 then .nan else .inf (a != b)
  | .fin a m e, .fin b n f => .fin (a != b) (m * n) (e + f)

/-- floor(v / 2^l) of a finite number, and whether bits below 2^l were nonzero. -/
def cutOff (neg : Bool) (m : Nat) (e l : Int) : Int × Bool :=
  if l ≤ e then
    let v : Int := m * 2 ^ (e - l).toNat
    (if neg then -v else v, false)
  else
    let d := 2 ^ (l - e).toNat
    let q : Int := m / d
    let lost := m % d != 0
    (if neg then (if lost then -q - 1 else -q) else q, lost)

/-- A value as 128-bit two's complement. -/
def wrap128 (v : Int) : Int := toSigned 128 (ofSigned 128 v)

/-- Residue modulo 127 of a signed integer (R39, R183). -/
def residue127 (v : Int) : Nat := (v % 127).toNat

/-! ### Drains (R41 to R43) -/

/-- An accumulator value as a number. -/
def accNum (a : Int) (spec : Nat) (l : Int) : Num :=
  if spec = 3 then .nan
  else if spec = 1 then .inf false
  else if spec = 2 then .inf true
  else .fin (decide (a < 0)) a.natAbs l

/-- Drain of one value to a floating format: code, OVERFLOW, bits lost. -/
def drainFloat (c : Nat) (sat : Bool) (a : Int) (spec : Nat) (l : Int) : Nat × Bool × Bool :=
  (fmtFloat c).put sat (accNum a spec l)

/-- Saturation into [-2^31, 2^31 - 1]. -/
def satI (n : Nat) (v : Int) : Int × Bool :=
  let lo : Int := -(2 ^ (n - 1))
  let hi : Int := 2 ^ (n - 1) - 1
  if v < lo then (lo, true) else if hi < v then (hi, true) else (v, false)

/-- emax of an MX element format (R42). -/
def mxEmax : Nat → Int
  | 2 => 8
  | 3 => 15
  | 4 => 4
  | 5 => 2
  | 6 => 2
  | _ => 0

/-- One element of an MX block with exponent x: saturated where the rounded value passes the largest finite. -/
def mxElem (c : Nat) (x : Int) (neg : Bool) (m : Nat) (l : Int) : Nat × Bool :=
  if c = 7 then
    -- n * 2^-6, |n| at most 127
    let e := l - x + 6
    let r := if 0 ≤ e then m * 2 ^ e.toNat else (rneShift m (-e).toNat).1
    let ovf := decide (127 < r)
    let r := min r 127
    (ofSigned 8 (if neg then -(r : Int) else r), ovf)
  else
    let r := (fmtFloat c).round neg true m (l - x)
    (r.1, r.2.1)

/-- A block of an MX drain (R42): scale byte, element codes, OVERFLOW. Each element is its A, SPEC and L. -/
def drainMx (c : Nat) (es : List (Int × Nat × Int)) : Nat × List Nat × Bool :=
  if es.any (fun e => e.2.1 == 3) then (0xFF, es.map (fun _ => 0), false)
  else
    let tops := (es.filter (fun e => e.2.1 == 0 && e.1 != 0)).map (fun e => (msb e.1.natAbs : Int) + e.2.2)
    let hasInf := es.any (fun e => e.2.1 != 0)
    match tops with
    | [] =>
      if hasInf then
        (0xFE, es.map (fun e => if e.2.1 = 0 then 0
          else (if c = 7 then ofSigned 8 (if e.2.1 = 2 then -127 else 127)
            else (fmtFloat c).signed (e.2.1 == 2) (fmtFloat c).maxCode)), true)
      else (0, es.map (fun _ => 0), false)
    | t :: ts =>
      let x0 := ts.foldl max t - mxEmax c
      let x := clampI (-127) 127 x0
      let out := es.map (fun e =>
        if e.2.1 ≠ 0 then
          ((if c = 7 then ofSigned 8 (if e.2.1 = 2 then -127 else 127)
            else (fmtFloat c).signed (e.2.1 == 2) (fmtFloat c).maxCode), true)
        else if e.1 = 0 then (0, false)
        else mxElem c x (decide (e.1 < 0)) e.1.natAbs e.2.2)
      ((x + 127).toNat, out.map (·.1), decide (x < x0) || out.any (·.2))

/-! ### Packed elements (R157) -/

/-- `n` fields of `w` bits from a number, low bits first. -/
def unpackBits (w : Nat) : Nat → Nat → List Nat
  | 0, _ => []
  | n + 1, v => v % 2 ^ w :: unpackBits w n (v / 2 ^ w)

/-- `n` elements of `w` bits from a byte string. -/
def unpack (w n : Nat) (bs : Bytes) : List Nat := unpackBits w n (ofLe bs)

/-- Fields of `w` bits packed low bits first. -/
def packBits (w : Nat) : List Nat → Nat
  | [] => 0
  | v :: r => v % 2 ^ w + packBits w r * 2 ^ w

/-- Elements as bytes. -/
def pack (w : Nat) (vs : List Nat) : Bytes := le (cdiv (vs.length * w) 8) (packBits w vs)

end Sys2Proof
end

