-- ==== Sys2Proof/Machine/Units.lean ====
section
/-!
DEFINITION. What the units of a cell share: scalar registers and scratchpad operands (R90, R114), the counts of a row
(R220, R388), and how a command to a unit runs (R79, R126, R181).
-/
namespace Sys2Proof.Machine

/-- The scalar registers that a descriptor's operands name. -/
abbrev Regs := List W64

/-- Scalar register `i`; s0 reads 0 (R90). -/
def sreg (r : Regs) (i : Nat) : Nat := if i = 0 then 0 else (r.getD i 0).toNat

/-- The effective offset of a scratchpad operand (R114): `s[REG] + 32 * OFF` as an unsigned 64-bit sum. -/
def spa (r : Regs) (f : Nat) : Except Stop Nat :=
  let o := (sreg r (f / 524288) + 32 * (f % 524288)) % 2 ^ 64
  if o % 32 ≠ 0 then .error (.fault .misalign)
  else if reachEnd ≤ o then .error (.fault .address)
  else .ok o

/-- `n` bytes at an operand. -/
def State.readSpa (s : State) (x y : Nat) (r : Regs) (f n : Nat) : Except Stop Bytes :=
  match spa r f with
  | .error e => .error e
  | .ok o => s.readCell x y o n

/-- Writes bytes at an operand. -/
def State.writeSpa (s : State) (x y : Nat) (r : Regs) (f : Nat) (data : Bytes) : Except Stop State :=
  match spa r f with
  | .error e => .error e
  | .ok o => s.writeCell x y o data

/-- A rule of REFUSED_MALFORMED that is judged at run time (R126). -/
def malformed {α : Type} : Except Stop α := .error (.fault .descriptor)

/-- The next 64-byte boundary at or after `n` bytes from offset `off`, counted from `off` (R76, R162). -/
def pastLine (off n : Nat) : Nat := cdiv (off + n) 64 * 64 - off

/-- The effect of a descriptor that a unit runs: cell, registers, descriptor. -/
abbrev Effect := Nat → Nat → Regs → Desc → State → Except Stop State

/-- What a cell's unit leaves: the descriptor's effect, or the fault or failed check it stops on. -/
def State.settle (s : State) (x y : Nat) : Except Stop State → State
  | .ok t => t
  | .error e => s.stop x y e

/-- Can logical cell (x, y) run anything: a row runs, and the cell has a physical place (R352)? -/
def State.cellRuns (s : State) (x y : Nat) : Bool := s.rowRuns && (s.map.place x y).isSome

/-- A command that has a unit of cell (x, y) run a descriptor now, on the cell's present registers. Between rows, and in a
void region, the units have nothing to run. -/
def State.cellOp (s : State) (x y : Nat) (d : Desc) (eff : Effect) : Result :=
  s.unit "cell" (cellNo x y) (isCell x y) (fun s =>
    if s.cellRuns x y then s.settle x y (eff x y (s.cell x y).s d s) else s)

/-! ### Counts of the row (R220, R388) -/

/-- Adds to the row's counts. -/
def State.countRow (s : State) (inexact overflow clamps : Nat := 0) (outrange idxClamp duplicate : Nat := 0) : State :=
  { s with row := { s.row with
      inexact := s.row.inexact + inexact
      overflow := s.row.overflow + overflow
      clamps := s.row.clamps + clamps
      outrange := s.row.outrange + outrange
      idxClamp := s.row.idxClamp + idxClamp
      duplicate := s.row.duplicate + duplicate } }

end Sys2Proof.Machine
end

