-- ==== Sys2Proof/Machine/Accum.lean ====
section
/-!
DEFINITION. Accumulator tiles: entries, windows, additions, the exact form, and the checksum register with its compares
(R35, R37 to R40, R44, R46 to R48, R64, R65, R183, R188 to R190).
-/
namespace Sys2Proof.Machine

/-! ### Entries -/

/-- Parity over SPEC (R64). -/
def specParity (v : Nat) : Bool := (v == 1) || (v == 2)

/-- An entry holding the 128-bit sum `a` and state `v`, with its residue and parity (R39, R64, R183). -/
def accEnt (a : Int) (v : Nat) : AccEnt := { a := wrap128 a, spec := v, res := residue127 (wrap128 a), par := specParity v }

/-- The entry at (row, column) of a tile. -/
def AccTile.ent (t : AccTile) (i j : Nat) : AccEnt := Tab.getD t.ents (i * 32 + j) {}

/-- Is a tile empty in the row (WINDOW 0)? -/
def AccTile.empty (t : AccTile) : Bool := t.window == 0

/-- Row and column gauges. -/
def AccTile.rg (t : AccTile) (i : Nat) : Int := Tab.getD t.rowG i noGauge
def AccTile.cg (t : AccTile) (j : Nat) : Int := Tab.getD t.colG j noGauge

/-- L of the element at (row, column) (R35). -/
def AccTile.l (t : AccTile) (i j : Nat) : Int := if t.window = 2 then 0 else windowL (t.rg i) (t.cg j)

/-- The tile's SPECIAL flag: some entry is not finite (R40). -/
def AccTile.anySpecial (t : AccTile) : Bool := t.ents.any (fun e => e.2.spec != 0)

/-- The tile control word of R64. -/
def AccTile.control (t : AccTile) : Nat :=
  t.ktotal * 2 ^ 32 + t.mcount * 2 ^ 27 + t.ncount * 2 ^ 22 + t.window * 16 + (if t.overflow then 8 else 0)
    + (if t.special then 2 else 0) + (if t.inexact = 0 then 0 else 1)

/-- The key of the tile of ply `p` that holds accumulator row `a`. -/
def tileKey (p a : Nat) : Nat := p * 16 + a / 32

/-- A cell's accumulator tile. -/
def CellSt.tile (c : CellSt) (k : Nat) : AccTile := Tab.getD c.acc k {}

/-- Stores a tile. -/
def CellSt.setTile (c : CellSt) (k : Nat) (t : AccTile) : CellSt := { c with acc := Tab.set c.acc k t }

/-! ### Sums -/

/-- What a product adds to a sum with window bottom 2^l: SPEC, addend, bits lost (R37, R38, R40). -/
def addend (l : Int) : Num → Nat × Int × Bool
  | .fin neg m e => (0, (cutOff neg m e l).1, (cutOff neg m e l).2)
  | p => (specOf p, 0, false)

/-- The sum of the addends of a list of products. -/
def dot (l : Int) (ps : List Num) : Nat × Int × Bool :=
  ps.foldl (fun acc p =>
    let a := addend l p
    (specJoin acc.1 a.1, acc.2.1 + a.2.1, acc.2.2 || a.2.2)) (0, 0, false)

/-- Saturation of an aligned sum into the range of A (R48). -/
def sat128 (v : Int) : Int × Bool := satI 128 v

/-! ### The checksum register -/

/-- A low exponent under which every element of a tile and every FP32 value is whole. -/
def AccTile.unit (t : AccTile) : Int :=
  let low (l : Tab Int) : Int := (l.filter (fun e => e.2 != noGauge)).foldl (fun a e => min a e.2) 0
  min (-149) (low t.rowG + low t.colG - 103)

/-- Adds `v` to element `i` of a list. -/
def bump (l : List Int) (i : Nat) (v : Int) : List Int := l.set i (l.getD i 0 + v)

/-- An empty register. -/
def CkReg.zero (u : Int) : CkReg :=
  { cols := List.replicate 32 0, rows := List.replicate 32 0, valC := List.replicate 32 0, valR := List.replicate 32 0,
    unit := u }

/-- Adds an addend at (row, column) in units of 2^l. -/
def CkReg.add (k : CkReg) (i j : Nat) (v l : Int) : CkReg :=
  let w := v * 2 ^ (l - k.unit).toNat
  { k with cols := bump k.cols j v, rows := bump k.rows i v, valC := bump k.valC j w, valR := bump k.valR i w }

/-- The register filled from a tile's present content (R189). -/
def AccTile.fill (t : AccTile) : CkReg :=
  t.ents.foldl (fun k e => k.add (e.1 / 32) (e.1 % 32) e.2.a (t.l (e.1 / 32) (e.1 % 32))) (CkReg.zero t.unit)

/-- Sums of A by column and by row. -/
def AccTile.colSum (t : AccTile) (j : Nat) : Int := (List.range 32).foldl (fun a i => a + (t.ent i j).a) 0
def AccTile.rowSum (t : AccTile) (i : Nat) : Int := (List.range 32).foldl (fun a j => a + (t.ent i j).a) 0

/-- The same sums by value, in units of 2^u. -/
def AccTile.colVal (t : AccTile) (u : Int) (j : Nat) : Int :=
  (List.range 32).foldl (fun a i => a + (t.ent i j).a * 2 ^ (t.l i j - u).toNat) 0
def AccTile.rowVal (t : AccTile) (u : Int) (i : Nat) : Int :=
  (List.range 32).foldl (fun a j => a + (t.ent i j).a * 2 ^ (t.l i j - u).toNat) 0

/-- The bound of R190: a difference `d` in units of 2^u stays within n * 2^-23 * m, with m in units of 2^-149. -/
def withinBound (d : Int) (u : Int) (n m : Nat) : Bool :=
  decide (d.natAbs * 2 ^ 23 ≤ n * m * 2 ^ (-149 - u).toNat)

/-- Does a tile agree with its checksum register (R190)? A tile with no valid register has nothing to compare. -/
def AccTile.ckOk (t : AccTile) : Bool :=
  match t.ck with
  | none => true
  | some k =>
    if k.packed = 0 then
      (List.range 32).all (fun i => wrap128 (t.colSum i) == wrap128 (k.cols.getD i 0)
        && wrap128 (t.rowSum i) == wrap128 (k.rows.getD i 0))
    else
      (List.range 32).all (fun i =>
        withinBound (t.colVal k.unit i - k.valC.getD i 0) k.unit (k.packed * (t.mcount + 2)) (k.magC.getD i 0)
        && withinBound (t.rowVal k.unit i - k.valR.getD i 0) k.unit (k.packed * (t.ncount + 2)) (k.magR.getD i 0))

/-! ### Stored checks at a drain (R69, R183, R184) -/

/-- Does the parity over SPEC of every entry hold, and does no residue read 0b111_1111? -/
def AccTile.parityOk (t : AccTile) : Bool := t.ents.all (fun e => e.2.par == specParity e.2.spec && e.2.res != 127)

/-- Does every entry's residue agree with A? -/
def AccTile.residueOk (t : AccTile) : Bool := t.ents.all (fun e => e.2.res == residue127 e.2.a)

/-- The check that a read of a tile by a drain fails, if any. -/
def AccTile.drainCheck (t : AccTile) : Option Nat :=
  if !t.parityOk then some 0x22
  else if !t.residueOk then some 0x02
  else if !t.ckOk then some 0x12
  else none

/-! ### The exact form (R44) -/

/-- The 16 bytes of A. -/
def accBytes (a : Int) : Bytes := le 16 (ofSigned 128 a)

/-- The 192-byte trailer. -/
def trailer (rg cg : List Int) (ktotal mcount ncount : Nat) (special inexact : Bool) : Bytes :=
  (rg.map (fun g => le 2 (ofSigned 16 g))).flatten ++ (cg.map (fun g => le 2 (ofSigned 16 g))).flatten
    ++ le 8 (ktotal * 2 ^ 32 + mcount * 2 ^ 27 + ncount * 2 ^ 22 + (if special then 2 else 0) + (if inexact then 1 else 0))
    ++ zeros 56

/-- A tile in exact form: 16,384 bytes of A, the trailer, and the special map when an entry is special. -/
def AccTile.exact (t : AccTile) : Bytes :=
  let es := (List.range 1024).map (fun i => Tab.getD t.ents i {})
  (es.map (fun e => accBytes e.a)).flatten
    ++ trailer ((List.range 32).map t.rg) ((List.range 32).map t.cg) t.ktotal t.mcount t.ncount t.anySpecial (t.inexact != 0)
    ++ (if t.anySpecial then pack 2 (es.map (·.spec)) else [])

/-- Bytes of an exact-form tile without and with its special map. -/
def exactLen : Nat := 16576
def exactLenSpecial : Nat := 16832

/-- Reads an exact-form tile back: WINDOW is 0 when KTOTAL is 0, 2 when the trailer holds no gauge at all, as a sum of INT8 products
has none and every other nonzero entry has both of its own (R35, log entry 77); an exact tile keeps no row-wise INEXACT, so its
bit stands for every valid row. -/
def exactTile (b : Bytes) : AccTile :=
  let ctl := uAt b 16512 8
  let g (o i : Nat) : Int := toSigned 16 (uAt b (16384 + o + 2 * i) 2)
  let specs := if bit ctl 1 then unpack 2 1024 (slice b exactLen 256) else []
  let es := (List.range 1024).map (fun i => (i, accEnt (toSigned 128 (uAt b (16 * i) 16)) (specs.getD i 0)))
  let bare := (List.range 32).all (fun i => g 0 i == noGauge && g 64 i == noGauge)
  { ents := es.filter (fun e => e.2 != accEnt 0 0)
    rowG := ((List.range 32).map (fun i => (i, g 0 i))).filter (fun e => e.2 != noGauge)
    colG := ((List.range 32).map (fun i => (i, g 64 i))).filter (fun e => e.2 != noGauge)
    ktotal := bits ctl 63 32
    mcount := bits ctl 31 27
    ncount := bits ctl 26 22
    window := if bits ctl 63 32 = 0 then 0 else if bare then 2 else 1
    inexact := if bit ctl 0 then 2 ^ (bits ctl 31 27 + 1) - 1 else 0
    special := bit ctl 1 }

/-! ### Adding tiles (R46 to R48) -/

/-- Do two non-empty tiles agree in gauges, KTOTAL, MCOUNT and NCOUNT (R47)? -/
def AccTile.agrees (t v : AccTile) : Bool :=
  t.ktotal == v.ktotal && t.mcount == v.mcount && t.ncount == v.ncount
    && (List.range 32).all (fun i => t.rg i == v.rg i && t.cg i == v.cg i)

/-- The window of a tile that an INT8 × INT8 product filled is fixed, and its trailer shows no gauges. -/
def AccTile.takes (t v : AccTile) : AccTile :=
  { t with rowG := v.rowG, colG := v.colG, ktotal := v.ktotal, mcount := v.mcount, ncount := v.ncount, window := v.window }

/-- Adds the entries of an exact tile: A as integers, SPEC by R40, INEXACT ORed (R46). -/
def AccTile.addExact (t v : AccTile) : AccTile :=
  let t := if t.empty then t.takes v else t
  { t with
    ents := v.ents.foldl (fun m e =>
      let o := Tab.getD m e.1 {}
      Tab.set m e.1 (accEnt (o.a + e.2.a) (specJoin o.spec e.2.spec))) t.ents
    inexact := t.inexact ||| v.inexact
    special := t.special || v.anySpecial
    changed := true }

/-- Adds one packed value to an element (R48): the entry, bits lost, saturated. -/
def AccTile.addValue (t : AccTile) (i j : Nat) (v : Num) : AccTile :=
  let o := t.ent i j
  let a := addend (t.l i j) v
  let sum := sat128 (o.a + a.2.1)
  { t with
    ents := Tab.set t.ents (i * 32 + j) (accEnt sum.1 (specJoin o.spec a.1))
    inexact := if a.2.2 then t.inexact ||| 2 ^ i else t.inexact
    overflow := t.overflow || sum.2
    special := t.special || a.1 != 0
    changed := true }

/-! ### Partial-sum records (R188) -/

/-- FP32 of a value in units of 2^-149, rounded once with SAT clear. -/
def fp32Of (v : Int) : Nat := (fp32.round (decide (v < 0)) false v.natAbs (-149)).1

/-- A finite FP32 in units of 2^-149; specials are not summed. -/
def fp32Units (w : Nat) : Int :=
  match fp32.decode w with
  | .fin neg m e => let v : Int := (m * 2 ^ (e + 149).toNat : Nat); if neg then -v else v
  | _ => 0

/-- The record of an exact tile formed by logical cell (x, y): 1,088 bytes. -/
def AccTile.exactRecord (t : AccTile) (x y : Nat) : Bytes :=
  let col (j : Nat) : Int := (List.range (t.mcount + 1)).foldl (fun a i => a + (t.ent i j).a) 0
  let row (i : Nat) : Int := (List.range (t.ncount + 1)).foldl (fun a j => a + (t.ent i j).a) 0
  le 4 t.ktotal ++ le 1 t.mcount ++ le 1 t.ncount ++ le 1 0 ++ le 1 0 ++ le 2 x ++ le 2 y ++ le 4 1 ++ zeros 48
    ++ ((List.range 32).map (fun j => accBytes (if j ≤ t.ncount then col j else 0))).flatten
    ++ ((List.range 32).map (fun i => accBytes (if i ≤ t.mcount then row i else 0))).flatten

/-- Sums of a packed tile of `m + 1` by `n + 1` FP32 values, 32 a row, in units of 2^-149. -/
def packedCol (vs : List Nat) (m j : Nat) : Int :=
  (List.range (m + 1)).foldl (fun a i => a + fp32Units (vs.getD (i * 32 + j) 0)) 0
def packedRow (vs : List Nat) (n i : Nat) : Int :=
  (List.range (n + 1)).foldl (fun a j => a + fp32Units (vs.getD (i * 32 + j) 0)) 0

/-- The record of a packed tile: 320 bytes. -/
def packedRecord (vs : List Nat) (m n x y : Nat) : Bytes :=
  le 4 0 ++ le 1 m ++ le 1 n ++ le 1 1 ++ le 1 0 ++ le 2 x ++ le 2 y ++ le 4 1 ++ zeros 48
    ++ ((List.range 32).map (fun j => le 4 (if j ≤ n then fp32Of (packedCol vs m j) else 0))).flatten
    ++ ((List.range 32).map (fun i => le 4 (if i ≤ m then fp32Of (packedRow vs n i) else 0))).flatten

/-- Adds a packed tile with its record to a register: its values enter through the record's sums, its magnitudes exactly. -/
def CkReg.addPacked (k : CkReg) (vs : List Nat) (m n : Nat) : CkReg :=
  let up (v : Int) : Int := v * 2 ^ (-149 - k.unit).toNat
  let abs (w : Nat) : Nat := (fp32Units w).natAbs
  let colW (j : Nat) : Nat := fp32Of (packedCol vs m j)
  let rowW (i : Nat) : Nat := fp32Of (packedRow vs n i)
  let magCol (j : Nat) : Nat := (List.range (m + 1)).foldl (fun a i => a + abs (vs.getD (i * 32 + j) 0)) (abs (colW j))
  let magRow (i : Nat) : Nat := (List.range (n + 1)).foldl (fun a j => a + abs (vs.getD (i * 32 + j) 0)) (abs (rowW i))
  { k with
    valC := (List.range 32).map (fun j => k.valC.getD j 0 + (if j ≤ n then up (fp32Units (colW j)) else 0))
    valR := (List.range 32).map (fun i => k.valR.getD i 0 + (if i ≤ m then up (fp32Units (rowW i)) else 0))
    magC := (List.range 32).map (fun j => k.magC.getD j 0 + (if j ≤ n then magCol j else 0))
    magR := (List.range 32).map (fun i => k.magR.getD i 0 + (if i ≤ m then magRow i else 0))
    packed := k.packed + 1 }

end Sys2Proof.Machine
end

