-- ==== Sys2Proof/Machine/Syn.lean ====
section
/-!
DEFINITION. SYN descriptors: scheduled streams over slot tables, partial sums with their records, barriers and WAITMARK
(R44 to R48, R94, R119, R129 to R133, R144, R188, R189).
-/
namespace Sys2Proof.Machine

/-! ### Slot tables (R132) -/

/-- A stream entry. -/
structure StreamEnt where
  stream : Nat
  group : Nat
  read : Bool
  lines : Nat
  haddr : Nat
  stride : Nat
  uses : Nat
deriving DecidableEq, Repr, Inhabited

/-- A link record with its streams in order. -/
structure LinkRec where
  x : Nat
  y : Nat
  dir : Nat
  posmap : Nat
  streams : List StreamEnt
deriving DecidableEq, Repr, Inhabited

/-- Reads a stream entry's 32 bytes. -/
def streamEntOf (b : Bytes) : StreamEnt :=
  { stream := uAt b 0 2, group := uAt b 2 1, read := bit (uAt b 3 1) 0, lines := uAt b 4 4, haddr := uAt b 8 8,
    stride := uAt b 16 8, uses := uAt b 24 4 }

/-- Reads the records of a slot-table section. -/
def linkRecs : Nat → Bytes → List LinkRec
  | 0, _ => []
  | fuel + 1, b =>
    if b.length < 16 then []
    else
      let n := uAt b 6 2
      { x := uAt b 0 2, y := uAt b 2 2, dir := uAt b 4 1, posmap := uAt b 8 8,
        streams := (List.range n).map (fun i => streamEntOf (slice b (16 + 32 * i) 32)) }
      :: linkRecs fuel (b.drop (16 + 32 * n))

/-- The records of the running pattern. -/
def State.slotTable (s : State) : List LinkRec :=
  match s.runPattern with
  | some p => linkRecs (p.slotTab.length / 16) p.slotTab
  | none => []

/-- The link record that a cell's SEND, or RECV, in a direction names. -/
def linkOf (recs : List LinkRec) (x y dir : Nat) (recv : Bool) : Option LinkRec :=
  if dir = 4 ∨ !recv then recs.find? (fun l => l.x == x && l.y == y && l.dir == dir)
  else match neighbour x y dir with
    | some n => recs.find? (fun l => l.x == n.1 && l.y == n.2 && l.dir == opposite dir)
    | none => none

/-- The key under which a cell counts the uses of a stream, or finds what arrived on it. -/
def streamKey (dir stream : Nat) : Nat := dir * 4096 + stream
def postKey (recv : Bool) (dir stream : Nat) : Nat := (if recv then 32768 else 0) + streamKey dir stream

/-- The streams of a group that one side takes in turn (R131): on a ring port, those of its direction. -/
def LinkRec.turn (l : LinkRec) (group : Nat) (recv : Bool) : List StreamEnt :=
  l.streams.filter (fun e => e.group == group && (l.dir != 4 || e.read == recv))

/-- The stream that a group takes next: its streams in order, cyclically. -/
def LinkRec.next (l : LinkRec) (c : CellSt) (dir group : Nat) (recv : Bool) : Option StreamEnt :=
  let es := l.turn group recv
  let n := (es.map (fun e => Tab.getD c.posted (postKey recv dir e.stream) 0)).foldl (· + ·) 0
  if es.isEmpty then none else es[n % es.length]?

/-! ### Fields of SYN (R119) -/

def synDir (d : Desc) : Nat := fld d 183 181
def synStream (d : Desc) : Nat := fld d 180 169
def synLines (d : Desc) : Nat := fld d 144 129 + 1
def synPsum (d : Desc) : Bool := fld d 128 128 == 1
def synPacked (d : Desc) : Bool := fld d 127 127 == 1
def synChan (d : Desc) : Nat := fld d 105 101

/-- The stream entry that a SEND or RECV of a cell names, with its link record. -/
def State.synEntry (s : State) (x y : Nat) (d : Desc) (recv : Bool) : Option (LinkRec × StreamEnt) :=
  match linkOf s.slotTable x y (synDir d) recv with
  | none => none
  | some l => (l.streams.find? (fun e => e.stream == synStream d)).map (fun e => (l, e))

/-- Is a SEND's or RECV's stream its group's next (R131)? -/
def State.synTurn (s : State) (x y : Nat) (d : Desc) (recv : Bool) : Bool :=
  match s.synEntry x y d recv with
  | none => true                      -- refused at load; the descriptor raises its fault when it runs
  | some (l, e) => (l.next (s.cell x y) (synDir d) e.group recv).map (·.stream) == some e.stream

/-- Is a flit of the link by which a direction's data comes being retried (R127, R194)? -/
def State.retrying (s : State) (x y dir : Nat) : Bool :=
  match neighbour x y dir with
  | some (nx, ny) => (s.link (.mesh nx ny (opposite dir))).sameFlit != 0
  | none => false

/-- Has the data of a RECV arrived? Data of a ring-port stream is read from HBM as it is received; data behind a flit that is being
retried has not arrived. -/
def State.arrivedFor (s : State) (x y : Nat) (d : Desc) : Bool :=
  synDir d == 4 || (!(Tab.getD (s.cell x y).rx (streamKey (synDir d) (synStream d)) []).isEmpty && !s.retrying x y (synDir d))

/-- The positions of a link that a value holds. -/
def posCount (posmap v : Nat) : Nat := ((List.range 16).filter (fun p => bits posmap (4 * p + 3) (4 * p) == v)).length

/-- The flits of receive buffer that a group has: 4 for each position it holds, at most 60 (R131). -/
def LinkRec.credit (l : LinkRec) (group : Nat) : Nat := min 60 (4 * posCount l.posmap group)

/-- The flits of a SEND's group that have been sent and not received: two lines each (R127). -/
def State.unreceived (s : State) (x y : Nat) (d : Desc) (l : LinkRec) (group : Nat) : Nat :=
  match neighbour x y (synDir d) with
  | none => 0
  | some (nx, ny) =>
    ((l.turn group false).flatMap (fun e =>
      (Tab.getD (s.cell nx ny).rx (streamKey (opposite (synDir d)) e.stream) []).map (fun t => cdiv t.data.length 128))).foldl (· + ·) 0

/-- Has a SEND's group credit for another flit? A ring port's lines go to HBM at once. -/
def State.hasCredit (s : State) (x y : Nat) (d : Desc) : Bool :=
  synDir d == 4 || (match s.synEntry x y d false with
    | none => true                    -- refused at load; the descriptor raises its fault when it runs
    | some (l, e) => decide (s.unreceived x y d l e.group < l.credit e.group))

/-- Has a SEND's group more flits under way than the receiver has room for? -/
def State.overCredit (s : State) (x y : Nat) (d : Desc) : Bool :=
  synDir d != 4 && (match s.synEntry x y d false with
    | none => false
    | some (l, e) => decide (l.credit e.group < s.unreceived x y d l e.group))

/-- Must a SYN descriptor wait at the head of its queue: for its turn, for credit, or for its data (R94, R131)? -/
def State.synWaits (s : State) (x y : Nat) (d : Desc) : Bool :=
  let op := fld d 251 244
  if op = 1 then !s.synTurn x y d false || !s.hasCredit x y d
  else if op = 2 ∨ op = 3 then !s.synTurn x y d true || !s.arrivedFor x y d
  else false

/-! ### Partial sums in transit (R44, R188, R189) -/

/-- Cuts exact-form data into tiles, each as long as its trailer's SPEC bit says; none when they do not end exactly. -/
def exactTiles : Nat → Bytes → Option (List Bytes)
  | 0, b => if b.isEmpty then some [] else none
  | fuel + 1, b =>
    if b.isEmpty then some []
    else
      let n := if bit (uAt b 16512 8) 1 then exactLenSpecial else exactLen
      if b.length < n then none else (exactTiles fuel (b.drop n)).map (fun r => b.take n :: r)

/-- Cuts packed data into tiles of 32 by 32 FP32 values. -/
def packedTiles : Nat → Bytes → Option (List Bytes)
  | 0, b => if b.isEmpty then some [] else none
  | fuel + 1, b =>
    if b.isEmpty then some []
    else if b.length < 4096 then none else (packedTiles fuel (b.drop 4096)).map (fun r => b.take 4096 :: r)

/-- The tiles of a partial sum. -/
def tilesOf (packed : Bool) (b : Bytes) : Option (List Bytes) :=
  if packed then packedTiles (b.length / 4096 + 1) b else exactTiles (b.length / exactLen + 1) b

/-- The record of a tile that cell (x, y) forms. -/
def tileRecord (packed : Bool) (x y : Nat) (t : Bytes) : Bytes :=
  if packed then packedRecord (unpack 32 1024 t) 31 31 x y else (exactTile t).exactRecord x y

/-- A record without the cell that formed it, as the arrival compare recomputes it. -/
def recordCore (r : Bytes) : Bytes := r.take 8 ++ r.drop 12

/-! ### SEND -/

/-- Marks a use of a stream as posted. -/
def CellSt.post (c : CellSt) (k : Nat) : CellSt := { c with posted := Tab.set c.posted k (Tab.getD c.posted k 0 + 1) }

/-- Marks a use posted by cell (x, y). -/
def State.postUse (s : State) (x y : Nat) (k : Nat) : State := s.setCell x y ((s.cell x y).post k)

/-- Hands a transfer to the neighbour; one that has ended its row program raises INFLIGHT_AT_END (R98). -/
def State.deliverTransfer (s : State) (nx ny key : Nat) (t : Transfer) : State :=
  let c := s.cell nx ny
  if c.phase = .ended then s.raiseFault nx ny .inflightAtEnd
  else s.setCell nx ny { c with rx := Tab.set c.rx key (Tab.getD c.rx key [] ++ [t]) }

/-- The HBM address of the present use of a ring-port stream (R133); none beyond USES. -/
def StreamEnt.useAddr (e : StreamEnt) (u : Nat) : Option Nat := if u < e.uses then some (e.haddr + u * e.stride) else none

/-- The tiles of a transfer: of a partial sum those it is cut into, which must end at its last line in every direction; of other data
none (R119). -/
def psumTiles (d : Desc) (b : Bytes) : Except Stop (List Bytes) :=
  if synPsum d then match tilesOf (synPacked d) b with
    | some ts => .ok ts
    | none => .error (.fault .psum)
  else .ok []

/-- SEND: over a mesh link to the neighbour, over the ring port to HBM. The record of a partial sum follows its tile to a receiving
cell; a slice has no place for it and keeps none (log entry 92). -/
def synSendEffect : Effect := fun x y r d s =>
  match s.synEntry x y d false with
  | none => malformed
  | some (_, e) =>
    if e.lines ≠ synLines d then malformed
    else if s.synWaits x y d then .ok s
    else do
      let b ← s.readSpa x y r (fld d 168 145) (64 * synLines d)
      let k := postKey false (synDir d) (synStream d)
      let u := Tab.getD (s.cell x y).posted k 0
      let ts ← psumTiles d b
      if synDir d = 4 then
        match e.useAddr u with
        | none => .error (.fault .address)
        | some a => do
          let s ← s.writeHbm a b
          .ok (s.postUse x y k)
      else match neighbour x y (synDir d) with
        | none => .error (.fault .address)
        | some (nx, ny) =>
          if (s.map.place nx ny).isNone then .error (.fault .address)
          else
            let s := s.postUse x y k
            let key := streamKey (opposite (synDir d)) (synStream d)
            .ok (s.deliverTransfer nx ny key { data := b, records := ts.map (tileRecord (synPacked d) x y) })

/-! ### RECV and RECVADD -/

/-- The cell that sends toward cell (x, y) from a direction, as a suspect. -/
def senderOf (x y dir : Nat) : List Suspect :=
  match neighbour x y dir with
  | some (nx, ny) => [.cell nx ny]
  | none => []

/-- The arrival compare of a partial sum: every tile's record recomputed and compared exactly (R189). -/
def transitOk (packed : Bool) (ts : List Bytes) (t : Transfer) (x y : Nat) : Bool :=
  ts.map (fun b => recordCore (tileRecord packed x y b)) == t.records.map recordCore

/-- Takes the transfer that a RECV or RECVADD receives, and posts the use. -/
def State.takeTransfer (s : State) (x y : Nat) (d : Desc) (e : StreamEnt) : Except Stop (Transfer × State) :=
  let k := postKey true (synDir d) (synStream d)
  let c := s.cell x y
  if synDir d = 4 then
    match e.useAddr (Tab.getD c.posted k 0) with
    | none => .error (.fault .address)
    | some a => match s.readHbm a (64 * e.lines) with
      | .error z => .error z
      | .ok b => .ok ({ data := b }, s.postUse x y k)
  else
    let key := streamKey (synDir d) (synStream d)
    match Tab.getD c.rx key [] with
    | [] => malformed
    | t :: ts => .ok (t, s.setCell x y ({ c with rx := if ts.isEmpty then Tab.erase c.rx key else Tab.set c.rx key ts }.post k))

/-- What a received partial sum fails on, if anything: tiles that do not end at the last line, or records that differ. From a slice no
record arrives, and none is compared (log entry 92). -/
def recvCheck (x y : Nat) (d : Desc) (t : Transfer) : Except Stop Unit := do
  let ts ← psumTiles d t.data
  if !synPsum d || synDir d == 4 || transitOk (synPacked d) ts t x y then .ok ()
  else .error (.alarm 0x11 (senderOf x y (synDir d)) 0)

/-- RECV. -/
def synRecvEffect : Effect := fun x y r d s =>
  match s.synEntry x y d true with
  | none => malformed
  | some (_, e) =>
    if e.lines ≠ synLines d then malformed
    else if s.synWaits x y d then .ok s
    else do
      let q ← s.takeTransfer x y d e
      recvCheck x y d q.1
      q.2.writeSpa x y r (fld d 168 145) q.1.data

/-- The accumulator tile that tile `i` of `n` adds into: the tiles are divided among the plies as R63 divides rows. -/
def addKey (base n i : Nat) : Nat := i / cdiv n 4 * 16 + base / 32 + i % cdiv n 4

/-- Adds an exact tile: empty tiles add nothing, tiles that disagree fail (R46, R47); the checksum register is filled when
invalid, and takes the tile's sums. -/
def AccTile.recvExact (t v : AccTile) : Option AccTile :=
  if v.ktotal = 0 then some { t with ck := some (t.ck.getD t.fill) }
  else if !t.empty && !t.agrees v then none
  else
    let k := t.ck.getD t.fill
    let sum := t.addExact v
    let k := if t.empty then { k with unit := sum.unit } else k
    some { sum with ck := some (v.ents.foldl (fun k e =>
      k.add (e.1 / 32) (e.1 % 32) e.2.a (sum.l (e.1 / 32) (e.1 % 32))) k) }

/-- Adds a packed tile (R48); into an empty tile it stands in the window of no gauges, all rows and columns valid. -/
def AccTile.recvPacked (t : AccTile) (vs : List Nat) : AccTile :=
  let k := t.ck.getD t.fill
  let t := if t.empty then { t with window := 1, mcount := 31, ncount := 31 } else t
  let sum := (List.range 1024).foldl (fun t i => t.addValue (i / 32) (i % 32) (fp32.decode (vs.getD i 0))) t
  { sum with ck := some (k.addPacked vs 31 31), changed := true }

/-- Adds the tiles of a transfer, in order. -/
def CellSt.recvTiles (c : CellSt) (packed : Bool) (base n : Nat) : Nat → List Bytes → Option CellSt
  | _, [] => some c
  | i, b :: bs =>
    let k := addKey base n i
    let t := c.tile k
    if packed then (c.setTile k (t.recvPacked (unpack 32 1024 b))).recvTiles packed base n (i + 1) bs
    else match t.recvExact (exactTile b) with
      | none => none
      | some t => (c.setTile k t).recvTiles packed base n (i + 1) bs

/-- RECVADD. -/
def synRecvaddEffect : Effect := fun x y _ d s =>
  match s.synEntry x y d true with
  | none => malformed
  | some (_, e) =>
    if e.lines ≠ synLines d then malformed
    else if s.synWaits x y d then .ok s
    else do
      let q ← s.takeTransfer x y d e
      recvCheck x y d q.1
      match tilesOf (synPacked d) q.1.data with
      | none => .error (.fault .psum)
      | some ts =>
        let base := fld d 114 106
        if 16 < base / 32 + cdiv ts.length 4 then malformed
        else match (q.2.cell x y).recvTiles (synPacked d) base ts.length 0 ts with
          | none => .error (.alarm 0x10 (senderOf x y (synDir d)) 0)
          | some c => .ok (q.2.setCell x y c)

/-! ### BARRIER and WAITMARK (R119, R144) -/

/-- The member bits of a channel in the running pattern's barrier table; 0 for a channel with no record. -/
def State.barrierMembers (s : State) (chan : Nat) : Nat :=
  match s.runPattern with
  | none => 0
  | some p => match (List.range (p.barrierTab.length / 256)).find? (fun i => uAt p.barrierTab (256 * i) 1 == chan) with
    | some i => uAt p.barrierTab (256 * i + 8) 216
    | none => 0

/-- BARRIER: arrives on its channel. -/
def synBarrierEffect : Effect := fun x y _ d s =>
  let ch := synChan d
  if !bit (s.barrierMembers ch) (cellNo x y) then malformed
  else
    let c := s.cell x y
    .ok (s.setCell x y { c with arrived := Tab.set c.arrived ch (Tab.getD c.arrived ch 0 + 1) })

/-- WAITMARK waits; it changes nothing. -/
def synWaitmarkEffect : Effect := fun _ _ _ _ s => .ok s

/-- Has every member of a channel arrived `gen` times? -/
def State.allArrived (s : State) (chan gen : Nat) : Bool :=
  (List.range 1728).all (fun k => !bit (s.barrierMembers chan) k
    || decide (gen ≤ Tab.getD (Tab.getD s.cells k {}).arrived chan 0))

/-! ### Completion counts (R60, R113) -/

/-- Raises a unit's count over the descriptors that have completed in program order. -/
def raiseCount : Nat → Nat → List Nat → Nat
  | 0, c, _ => c
  | fuel + 1, c, fin => if fin.contains c then raiseCount fuel (c + 1) fin else c

/-- Descriptor `n` of a unit completes. -/
def UnitQ.finish (u : UnitQ) (n : Nat) : UnitQ :=
  let fin := n :: u.finished
  let c := raiseCount (fin.length + 1) u.count fin
  { u with running := u.running.filter (fun e => e.n != n), finished := fin.filter (fun k => decide (c ≤ k)), count := c }

/-- Completes the BARRIER of a channel's generation in a cell. -/
def CellSt.release (c : CellSt) (chan gen : Nat) : CellSt :=
  let c := { c with released := Tab.set c.released chan gen }
  match c.syn.running.find? (fun e => fld e.d 251 244 == 4 && synChan e.d == chan && e.aux == gen) with
  | some e => { c with syn := c.syn.finish e.n }
  | none => c

/-! ### Commands -/

def execSynSend (x y : Nat) (d : Desc) (s : State) : Result := s.cellOp x y d synSendEffect
def execSynRecv (x y : Nat) (d : Desc) (s : State) : Result := s.cellOp x y d synRecvEffect
def execSynRecvadd (x y : Nat) (d : Desc) (s : State) : Result := s.cellOp x y d synRecvaddEffect
def execSynBarrier (x y : Nat) (d : Desc) (s : State) : Result := s.cellOp x y d synBarrierEffect
def execSynWaitmark (x y : Nat) (d : Desc) (s : State) : Result := s.cellOp x y d synWaitmarkEffect

end Sys2Proof.Machine
end

