-- ==== Sys2Proof/Machine/Verdict.lean ====
section
/-!
DEFINITION. The verdict exchange of a commit group (R91, R197 to R201, R404, R406): when a module reports, and what each kind of
verdict message does. In CLEAN and UNDONE messages ORIGIN names the sender (log entry 36).
-/
namespace Sys2Proof.Machine

/-- Is the row one that runs no row program: waste yarn, or a row of RESHARD or COPY? -/
def State.noProgram (s : State) : Bool :=
  s.row.waste || (match s.run with
    | some r => r.kind == .reshard || r.kind == .copy
    | none => false)

/-- Has every logical cell ended its row (R91)? -/
def State.cellsEnded (s : State) : Bool :=
  s.noProgram || (List.range 1728).all (fun k =>
    (s.map.place (k % 48) (k / 48)).isNone || (Tab.getD s.cells k {}).phase == .ended)

/-- Is every in-group message of the row acknowledged (R404)? -/
def State.messagesAcked (s : State) : Bool := !s.naela.sentMsgs.any (fun m => m.inGroup && m.row == s.row.num)

/-- Has every child reported CLEAN? -/
def State.childrenClean (s : State) : Bool := s.groupChildren.all (fun c => s.row.children.any (fun e => e.1 == c && e.2))

/-- The group verdict is known; VLATENCY keeps the times of the last 4,096 rows. -/
def State.knowGroup (s : State) (clean : Bool) : State :=
  let lat := match s.row.ownDue with
    | some t => (s.now - t) :: s.row.vlat
    | none => s.row.vlat
  let s := { s with row := { s.row with groupKnown := some clean, vlat := lat.take 4096 } }
  s.setOb 0x2220 4 ((s.row.vlat.foldl max 0 : Nat))

/-- Members in this module's subtree: itself and what its children hold. -/
def State.subtreeSize (s : State) : Nat :=
  let up (m : Nat) : Bool := (List.range 64).foldl (fun (c : Option Nat × Bool) _ => match c with
    | (some k, b) => if k = s.moduleId then (none, true) else (s.groupParent k, b)
    | (none, b) => (none, b)) (some m, false) |>.2
  (s.members.filter up).length

/-- Reports this module's CLEAN verdict once its cells have ended, its messages are acknowledged and its children have
reported: up the tree, or as the group's verdict at the root (R200). -/
def State.reportVerdict (s : State) : State :=
  if s.row.phase == .running && s.grouped && s.row.ownDue.isNone && s.cellsEnded && s.messagesAcked && s.childrenClean then
    let s := { s with row := { s.row with ownDue := some s.now } }
    if s.isRoot then (s.knowGroup true).verdictDown 3 (s.verdictMsg 0 s.moduleId (s.nat 0x2220 2))
    else s.verdictUp 1 (s.verdictMsg 0 s.moduleId s.subtreeSize)
  else s

/-- Is a clean verdict of the row's group known (R91)? -/
def State.verdictClean (s : State) : Bool := !s.grouped || s.row.groupKnown == some true

/-- Sends UNDONE once this module and every child have undone the row; at the root it becomes REPLAY (R201). The module's own
number in `undoneFrom` marks that it has sent. -/
def State.reportUndone (s : State) : State :=
  if s.row.phase == .waitReplay && !s.row.undoneFrom.contains s.moduleId
      && s.groupChildren.all (fun c => s.row.undoneFrom.contains c) then
    let s := { s with row := { s.row with undoneFrom := s.row.undoneFrom ++ [s.moduleId] } }
    if s.isRoot then
      { s.verdictDown 6 (s.verdictMsg 0 s.moduleId (s.nat 0x2220 2)) with
        row := { s.row with phase := .replayDue, replayAt := s.now + 10000 } }
    else s.verdictUp 5 (s.verdictMsg 0 s.moduleId s.subtreeSize)
  else s

/-- A FAIL from another member: the row is aborted (R198), and an early FAIL is passed on along the tree. -/
def State.groupFail (s : State) (kind : Nat) (v : VerdictMsg) : State :=
  let fresh := s.row.phase == .running
  let s := if fresh then s.raise { cause := 0x44 } else s
  if kind = 4 then (s.knowGroup false).verdictDown 4 v
  else if fresh then (s.verdictUp 0 v).verdictDown 0 v
  else s

/-- A verdict message for the present attempt. -/
def State.actVerdict (s : State) (kind : Nat) (v : VerdictMsg) : State :=
  match kind with
  | 0 => s.groupFail 0 v
  | 1 => ({ s with row := { s.row with children := s.row.children ++ [(v.origin, true)] } }).reportVerdict
  | 2 => s.groupFail 2 v
  | 3 => (s.knowGroup true).verdictDown 3 v
  | 4 => s.groupFail 4 v
  | 5 =>
    if s.row.undoneFrom.contains v.origin then s
    else ({ s with row := { s.row with undoneFrom := s.row.undoneFrom ++ [v.origin] } }).reportUndone
  | 6 =>
    if s.row.phase == .waitReplay then
      { s.verdictDown 6 v with row := { s.row with phase := .replayDue, replayAt := v.time + 10000 } }
    else s
  | _ => s

/-- Does (row, attempt) `a` come before `b`? -/
def beforeAttempt (a b : Nat × Nat) : Bool := decide (a.1 < b.1) || (a.1 == b.1 && decide (a.2 < b.2))

/-- A verdict message arrives: for another group it is nothing, for an attempt not reached it is held, for one passed it is
discarded (R199, R200). -/
def State.takeVerdict (s : State) (kind : Nat) (v : VerdictMsg) : State :=
  let here := (s.row.num, s.row.attempt)
  if !s.grouped || v.groupId != s.nat 0x2220 1 || s.row.phase == .idle then s
  else if beforeAttempt here (v.row, v.attempt) || (s.row.phase == .waiting && v.row == s.row.num + 1) then
    { s with row := { s.row with heldVerdicts := s.row.heldVerdicts ++ [(kind, v)] } }
  else if here = (v.row, v.attempt) && s.row.phase != .waiting then s.actVerdict kind v
  else s

/-- The messages held for an attempt take effect when it starts. -/
def State.releaseVerdicts (s : State) : State :=
  let l := s.row.heldVerdicts
  l.foldl (fun s e => s.takeVerdict e.1 e.2) { s with row := { s.row with heldVerdicts := [] } }

end Sys2Proof.Machine
end

