-- ==== Sys2Proof/Machine/CellEnd.lean ====
section
/-!
DEFINITION. How a cell's row program ends (R98, R190), and the release of a barrier in the module and across the commit group
(R144, R405).
-/
namespace Sys2Proof.Machine

/-- The queue and counts of a unit. -/
def CellSt.unitQ (c : CellSt) : UnitId → UnitQ
  | .mat => c.mat
  | .vec => c.vec
  | .mov => c.mov
  | .syn => c.syn
  | .chk => c.chk

/-- Stores the queue and counts of a unit. -/
def CellSt.setUnitQ (c : CellSt) (u : UnitId) (q : UnitQ) : CellSt :=
  match u with
  | .mat => { c with mat := q }
  | .vec => { c with vec := q }
  | .mov => { c with mov := q }
  | .syn => { c with syn := q }
  | .chk => { c with chk := q }

/-- Nothing of a unit waits or runs. -/
def UnitQ.idle (u : UnitQ) : Bool := u.q.isEmpty && u.running.isEmpty

/-- Has everything the cell issued, asked for or sent been completed or answered (R98)? -/
def CellSt.quiet (c : CellSt) : Bool :=
  c.mat.idle && c.vec.idle && c.mov.idle && c.syn.idle && c.chk.idle && c.loose == 0 && c.updCount == c.updSent

/-- The keys of the uses that the cell's slot tables hold for it: its own streams, and those its neighbours send it. -/
def LinkRec.keysFor (l : LinkRec) (x y : Nat) : List Nat :=
  if l.x = x ∧ l.y = y then
    l.streams.map (fun e => postKey (l.dir == 4 && e.read) l.dir e.stream)
  else if l.dir < 4 ∧ neighbour l.x l.y l.dir = some (x, y) then
    l.streams.map (fun e => postKey true (opposite l.dir) e.stream)
  else []

/-- Does a stream of the cell stand unposted, or data arrived and not received (R98)? -/
def State.unposted (s : State) (x y : Nat) : Bool :=
  let c := s.cell x y
  !c.rx.isEmpty || s.slotTable.any (fun l => (l.keysFor x y).any (fun k => Tab.getD c.posted k 0 == 0))

/-- END completes when all is quiet: changed tiles are compared with their checksum registers (R190), unposted transfers
are INFLIGHT_AT_END, and the cell becomes waste yarn. -/
def State.tryEnd (s : State) (x y : Nat) : State :=
  let c := s.cell x y
  if c.phase = .endFetched ∧ c.quiet then
    if c.acc.any (fun e => e.2.changed && !e.2.ckOk) then s.raise { cause := 0x12, x := x, y := y }
    else if s.unposted x y then s.raiseFault x y .inflightAtEnd
    else (s.setCell x y { c with phase := .ended }).reportVerdict
  else s

/-- The cells that are members of a channel. -/
def State.channelCells (s : State) (chan : Nat) : List Nat := (List.range 1728).filter (bit (s.barrierMembers chan))

/-- Every local member's BARRIER of generation `gen` completes. -/
def State.releaseLocal (s : State) (chan gen : Nat) : State :=
  (s.channelCells chan).foldl (fun s k =>
    (s.setCell (k % 48) (k / 48) ((s.cell (k % 48) (k / 48)).release chan gen)).tryEnd (k % 48) (k / 48)) s

/-- Does a channel span the commit group (R405)? -/
def State.systemChannel (s : State) (chan : Nat) : Bool := s.grouped && bit (s.nat 0x2600 6) chan

/-- The payload of a BARRIER message. -/
def State.barrierBytes (s : State) (chan gen kind : Nat) : Bytes :=
  le 4 (s.nat 0x2220 1) ++ le 6 s.row.num ++ le 1 s.row.attempt ++ le 1 chan ++ le 2 gen ++ le 1 kind ++ le 1 0

/-- The release of a system barrier: down the tree, and to the local members. -/
def State.releaseSystem (s : State) (chan gen : Nat) : State :=
  let s := s.groupChildren.foldl (fun s c => s.sendControl 0x11 c (s.barrierBytes chan gen 1)) s
  ({ s with naela := { s.naela with barRel := Tab.set s.naela.barRel chan gen } }).releaseLocal chan gen

/-- The module arrives at generation `gen` of a system barrier once its cells have, its messages are acknowledged and its
children have arrived: one message up, or the release at the root. -/
def State.arriveSystem (s : State) (chan gen : Nat) : State :=
  if s.allArrived chan gen && s.messagesAcked && !s.naela.barSent.contains (chan, gen)
      && s.groupChildren.all (fun c => s.naela.barUp.any (fun e => e == (chan, gen, c))) then
    let s := { s with naela := { s.naela with barSent := s.naela.barSent ++ [(chan, gen)] } }
    match s.groupParent s.moduleId with
    | some p => s.sendControl 0x11 p (s.barrierBytes chan gen 0)
    | none => s.releaseSystem chan gen
  else s

/-- Generation `gen` of a channel releases, once every member has arrived for it and the generation before has released; on a
system channel the module's arrival goes to the group. -/
def execBarrierRelease (chan gen : Nat) (s : State) : Result :=
  s.unit "barrier channel" chan (decide (chan < 32)) (fun s =>
    let members := s.channelCells chan
    let before := members.all (fun k => Tab.getD (Tab.getD s.cells k {}).released chan 0 + 1 == gen)
    if s.rowRuns ∧ !members.isEmpty ∧ before ∧ s.allArrived chan gen then
      if s.systemChannel chan then s.arriveSystem chan gen else s.releaseLocal chan gen
    else s)

end Sys2Proof.Machine
end

