-- ==== Sys2Proof/Machine/Clocks.lean ====
section
/-!
DEFINITION. Clocks and device time: reference inputs, beacons, time sources, exchanges, the election of a master (R261 to R263,
R271 to R281).
-/
namespace Sys2Proof.Machine

/-! ### Inputs -/

def State.refValid (s : State) : Bool := bit (s.nat 0x2100 3) 1
def State.ppsValid (s : State) : Bool := bit (s.nat 0x2100 3) 2

/-- QUALITY of this module's own source (Table: Time message payload). -/
def State.ownQuality (s : State) : Nat :=
  if s.refValid && s.ppsValid then 0 else if s.refValid || s.ppsValid then 1 else 2

/-- The hash of this module's serial number. -/
def ownHash : Nat := Config.serialHash Config.serialNumber % 2 ^ 32

/-! ### Sources (R276, R280, R281) -/

/-- The best local source: EXTERNAL when an input is valid, else FREE. -/
def State.localSource (s : State) : Nat := if s.refValid || s.ppsValid then 2 else 1

/-- Is another module the master this one follows? -/
def State.masterHeard (s : State) : Bool := s.time.announce.isSome

/-- The source that SOURCE asks for; a source that was in use and is missing is held over (R280, R281). -/
def State.pickSource (s : State) : Nat :=
  let held := if s.nat 0x2100 2 = 1 then 1 else 4
  let own := if s.localSource = 2 then 2 else held
  match s.nat 0x2100 1 with
  | 0 => if s.masterHeard then 3 else own
  | 1 => 1
  | 2 => own
  | _ => if s.masterHeard then 3 else if s.nat 0x2100 9 = 1 then own else held

/-- With EXTERNAL in use and the 10 MHz input valid the reference locks to that input: FREQTRIM becomes what this takes (R262, R279). -/
def State.discipline (s : State) : State :=
  if s.nat 0x2100 2 = 2 && s.refValid then
    let d := s.draw
    d.2.setOb 0x2100 6 ((d.1 % 20001 : Nat) - 10000)
  else s

/-- ACTIVE becomes `v`; a change to or from HOLDOVER is logged (R280). -/
def State.setSource (s : State) (v : Nat) : State :=
  let old := s.nat 0x2100 2
  if old = v then s
  else
    let s := if v = 4 ∨ old = 4 then s.logEvent .module 0x2100 2 old v else s
    ((s.timeBit 3 (decide (v = 3) && bit (s.nat 0x2100 3) 3)).setOb 0x2100 2 (v : Nat)).discipline

/-- Applies SOURCE. -/
def State.chooseSource (s : State) : State := s.setSource s.pickSource

/-! ### The election (R276) -/

/-- A claim to be master: 0 for a module that is MASTER and 1 for one that is AUTO, QUALITY, PRIORITY, serial hash. -/
abbrev Claim := Nat × Nat × Nat × Nat

/-- Is claim `a` better than `b`? Of two claims alike but for the serial numbers the lower hash wins: an announcement carries no more of
the number (log entry 102). -/
def betterMaster (a b : Claim) : Bool :=
  decide (a.1 < b.1) || (a.1 == b.1 && (decide (a.2.1 < b.2.1) || (a.2.1 == b.2.1 &&
    (decide (a.2.2.1 < b.2.2.1) || (a.2.2.1 == b.2.2.1 && decide (a.2.2.2 < b.2.2.2))))))

/-- This module's own claim. -/
def State.ownClaim (s : State) : Claim := (if s.nat 0x2100 9 = 1 then 0 else 1, s.ownQuality, s.nat 0x2100 0x0A, ownHash)

/-- The claim of an announced master. -/
def claimOf (q pr m : Nat) : Claim := (if Config.masterRole m then 0 else 1, q, pr, m)

/-- A time message payload. -/
def timeBytes (kind quality priority hops master t1 t2 t3 : Nat) : Bytes :=
  le 1 kind ++ le 1 quality ++ le 1 priority ++ le 1 hops ++ le 4 master ++ le 8 t1 ++ le 8 t2 ++ le 8 t3 ++ zeros 16

/-- Announces the present master to every admitted neighbour. -/
def State.announceTime (s : State) : State :=
  let claim := match s.time.announce with
    | some (_, q, pr, h, m) => (q, pr, h, m)
    | none => (s.ownQuality, s.nat 0x2100 0x0A, 0, ownHash)
  ((List.range 18).filter s.admitted).foldl (fun s p =>
    s.sendControl 0x12 (s.portPeer p) (timeBytes 2 claim.1 claim.2.1 claim.2.2.1 claim.2.2.2 0 0 0)) s

/-- STATUS bit 7: a module that is MASTER knows of another that is MASTER too; the beginning and the end are logged. -/
def State.setConflict (s : State) (v : Bool) : State :=
  if s.time.conflict = v then s
  else
    let old := s.nat 0x2100 3
    let s := { s with time := { s.time with conflict := v } }.timeBit 7 v
    s.logEvent .module 0x2100 3 old (s.nat 0x2100 3)

/-- This module takes the master's part itself, with its own best source. -/
def State.becomeMaster (s : State) : State :=
  let s := { s with time := { s.time with announce := none } }
  let s := (s.setOb 0x2100 0x0B (ownHash : Nat)).setOb 0x2100 0x0C 0
  (s.setSource (if s.nat 0x2100 1 = 0 then s.localSource else s.pickSource)).announceTime

/-- This module follows a master announced on port `p`, `h` hops from it. -/
def State.followMaster (s : State) (p q pr h m : Nat) : State :=
  let s := { s with time := { s.time with announce := some (p, q, pr, h, m) } }
  ((s.setOb 0x2100 0x0B (m : Nat)).setOb 0x2100 0x0C (h : Nat)).chooseSource.announceTime

/-- The election by what this module knows: it takes the part of a master whose claim is worse than its own, gives the part up when it
is SLAVE, and tells of a claim of its own that has changed; then SOURCE applies. -/
def State.elect (s : State) : State :=
  let s := if s.nat 0x2100 9 = 1 then s else s.setConflict false
  match s.time.announce with
  | some (_, q, pr, _, m) =>
    if s.nat 0x2100 9 ≠ 2 && betterMaster s.ownClaim (claimOf q pr m) then s.becomeMaster else s.chooseSource
  | none =>
    if s.nat 0x2100 0x0B ≠ ownHash then s.chooseSource
    else if s.nat 0x2100 9 = 2 then (s.setOb 0x2100 0x0B 0).chooseSource
    else s.chooseSource.announceTime

/-- An announcement heard on port `p`: a better master is followed, the same one by fewer hops or at a lower port, and what the parent
tells of its master is kept up; a module with a better claim of its own takes the part (R276). -/
def State.hearAnnounce (s : State) (p q pr h m : Nat) : State :=
  if m = ownHash then s
  else
    let s := if s.nat 0x2100 9 = 1 && Config.masterRole m then s.setConflict true else s
    match s.time.announce with
    | none =>
      if s.nat 0x2100 9 = 2 || betterMaster (claimOf q pr m) s.ownClaim then s.followMaster p q pr (h + 1) m else s.becomeMaster
    | some (p', q', pr', h', m') =>
      if p' = p ∧ m' = m then (if (q', pr', h') = (q, pr, h + 1) then s else (s.followMaster p q pr (h + 1) m).elect)
      else if betterMaster (claimOf q pr m) (claimOf q' pr' m')
          || (m' == m && (decide (h + 1 < h') || (h + 1 == h' && decide (p < p')))) then s.followMaster p q pr (h + 1) m
      else s

/-! ### Slewing -/

/-- An exchange with offset `o` (units of 2^-16 ns): at most 2 ns is slewed, LOCKED after 100 offsets below 10 ns, OUTOFSYNC
above 1 µs; the trim follows the trend by a law the spec does not give (R277; log entry 35). OFFSET drops the fraction. -/
def State.exchange (s : State) (o : Int) : State :=
  let count := if o.natAbs < 10 * 65536 then min 100 (s.time.lockCount + 1) else 0
  let trim := toSigned 32 (Config.openResult "FREQTRIM" [s.nat 0x2100 6, ofSigned 64 s.time.lastOffset, ofSigned 64 o])
  let s := { s with time := { s.time with
    slew := clampI (-131072) 131072 o, lockCount := count, lastOffset := o } }
  let s := (s.setOb 0x2100 5 (clampI (-2147483648) 2147483647 (o.tdiv 65536))).setOb 0x2100 6 (clampI (-10000) 10000 trim)
  (s.timeBit 3 (decide (count = 100))).timeBit 5 (decide (1000 * 65536 < o.natAbs))

/-! ### Commands -/

/-- No reference edge for 1 µs (R263). -/
def execReferenceLoss (s : State) : Result := s.whenOn (fun s => (s.timeBit 0 false).latchSafe none)

/-- Hops of the reference from the ring to a region at column `c` of row `r`: the edge regions take it from the ring. -/
def refHops (c r : Nat) : Nat := min (min c (6 - c)) (min r (5 - r))

/-- The reference inputs of a region with their hops from the ring: its ring segment on the edge, and its neighbours to the north, east,
south and west. -/
def refInputs (region : Nat) : List (Nat × Nat) :=
  let c := region % 7
  let r := region / 7
  (if refHops c r = 0 then [(0, 0)] else [])
    ++ (if 0 < r then [(1, refHops c (r - 1) + 1)] else []) ++ (if c < 6 then [(2, refHops (c + 1) r + 1)] else [])
    ++ (if r < 5 then [(3, refHops c (r + 1) + 1)] else []) ++ (if 0 < c then [(4, refHops (c - 1) r + 1)] else [])

/-- The input that a region uses while those in `lost` are lost: the one with the fewest hops, ties in the order north, east, south, west
(R261). -/
def refBest (region : Nat) (lost : List Nat) : Option Nat :=
  (((refInputs region).filter (fun e => !lost.contains e.1)).foldl (fun (b : Option (Nat × Nat)) e => match b with
    | none => some e
    | some v => if e.2 < v.2 then some e else b) none).map (·.1)

/-- The input that a region starts with. -/
def refStart (region : Nat) : Nat := (refBest region []).getD 0

/-- REFIN of a region: what it switched to, else what it started with. -/
def State.refIn (s : State) (region : Nat) : Nat :=
  match Tab.get? s.obj (okey (0x3000 + region) 3) with
  | some v => v.toNat
  | none => refStart region

/-- The inputs of a region that count as lost once it has switched to `new`: the one it used, unless `new` is a better one that has come
back. -/
def State.refLostBy (s : State) (r new : Nat) : List Nat :=
  let lost := (s.reg r).refLost
  if lost.contains new then lost.filter (· != new) else addOnce lost (s.refIn r)

/-- A region controller switches its reference input: 0 ring, 1 to 4 north to west. It loses the input in use and goes on to the next, or
goes back to a better one; to no other does it switch (R261). -/
def execReferenceInputSwitch (r newInput : Nat) (s : State) : Result :=
  s.unit "reference input" newInput (decide (r < 42) && decide (newInput < 5)) (fun s =>
    let old := s.refIn r
    let lost := s.refLostBy r newInput
    if old ≠ newInput ∧ refBest r lost = some newInput then
      ((s.setReg r { s.reg r with refLost := lost }).logEvent .module (0x3000 + r) 3 old newInput).setOb (0x3000 + r) 3 (newInput : Nat)
    else s)

/-- Units of 2^-16 ns in a time of `ps` ps. -/
def psUnits (ps : Int) : Int := ps * 65536 / 1000

/-- SKEW: the largest disagreement of region counters in the running second, ps (R281). -/
def State.noteSkew (s : State) : State :=
  let es := s.regs.map (fun e => e.2.timeOff * 1000 / 65536)
  let d := (es.foldl max 0 - es.foldl min 0).toNat
  let fresh := decide (s.time.skewAt + 1000000000 ≤ s.clock)
  let m := if fresh then d else max d s.time.skewMax
  ({ s with time := { s.time with skewMax := m, skewAt := if fresh then s.clock else s.time.skewAt } }).setOb 0x2100 0x0D (m : Nat)

/-- Is a region's error beyond 64 ns after its fast-slew period? -/
def Reg.beyond (k : Reg) (errPs : Int) : Bool := k.fast == 0 && decide (64000 < errPs ∨ errPs < -64000)

/-- The region counter at a beacon that finds it `errPs` ahead: it is to slew back over 1.024 µs, by 16 ns at most in its fast period,
else by 1 ns; an error above 64 ns after that period raises the alarm (R272). -/
def Reg.beacon (k : Reg) (errPs : Int) : Reg :=
  let lim : Int := if 0 < k.fast then 16000 else 1000
  { k with
    timeOff := psUnits errPs, slew := -psUnits (clampI (-lim) lim errPs), slewNs := 1024, fast := k.fast - 1
    alarm := k.alarm || k.beyond errPs }

/-- A beacon reaches the hub of region `r`, whose counter is `errPs` ahead of it. Pending time settings take effect (R281), and a source
that has come back ends a holdover. -/
def execTimeBeacon (r : Nat) (errPs : Int) (s : State) : Result :=
  s.unit "region" r (decide (r < 42)) (fun s =>
    let k := s.reg r
    let s := if k.beyond errPs then s.timeBit 6 true else s
    let s := (s.setReg r (k.beacon errPs)).setOb (0x3000 + r) 5 (clampI (-2147483648) 2147483647 errPs)
    let s := (s.noteSkew).timeBit 4 (s.regs.any (fun e => decide (0 < e.2.fast)))
    if s.time.srcDue then { s with time := { s.time with srcDue := false } }.elect
    else if s.nat 0x2100 2 = 4 then s.chooseSource else s)

/-- The 10 MHz input is valid: the reference locks to it when EXTERNAL is the source (R279). -/
def execRef10mValid (s : State) : Result := s.whenOn (fun s => ((s.timeBit 1 true).elect).discipline)

/-- The active source becomes invalid: holdover, logged (R280). EXTERNAL is invalid when neither input is valid (R276); FREE has nothing
to lose. -/
def execTimeSourceInvalid (s : State) : Result :=
  s.whenOn (fun s =>
    match s.nat 0x2100 2 with
    | 2 =>
      let s := ((s.timeBit 1 false).timeBit 2 false).setSource 4
      { s with time := { s.time with ppsCount := 0, ppsLast := none } }
    | 3 =>
      let s := (s.timeBit 3 false).setSource 4
      { s with time := { s.time with lockCount := 0, announce := none } }
    | _ => s)

/-- The port of this module's parent in the time tree. -/
def State.timeParent (s : State) : Option Nat := s.time.announce.map (·.1)

/-- A slave's exchange with its parent on `port`, the request sent and the reply received: four timestamps in ns (R277). -/
def execTimeExchange (port t1 t2 t3 t4 : Nat) (s : State) : Result :=
  s.unit "port" port (decide (port < s.portCount)) (fun s =>
    if s.nat 0x2100 2 = 3 ∧ s.timeParent = some port then
      (s.sendControl 0x12 (s.portPeer port)
        (timeBytes 0 s.ownQuality (s.nat 0x2100 0x0A) (s.nat 0x2100 0x0C) (s.nat 0x2100 0x0B) (t1 * 65536) 0 0)).exchange ((((t2 : Int) - t1) - ((t4 : Int) - t3)) * 65536 / 2)
    else s)

/-- The master is lost: a slave holds over, and a module that may be master claims the part until a better one is heard
(R276). -/
def execTimeMasterLoss (s : State) : Result :=
  s.whenOn (fun s =>
    if s.time.announce.isNone then s
    else
      let s := { s with time := { s.time with announce := none, lockCount := 0 } }.setConflict false
      let s := if s.nat 0x2100 2 = 3 then (s.timeBit 3 false).setSource 4 else s
      if s.nat 0x2100 9 = 2 then s else s.becomeMaster)

end Sys2Proof.Machine
end

