-- ==== Sys2Proof/Machine/Links.lean ====
section
/-!
DEFINITION. Naela ports: frames received, retry, training and admission, lanes, loss of signal, quiesce (R391 to R395, R408 to
R412, R475, R476).
-/
namespace Sys2Proof.Machine

/-! ### Frames (R393 to R395) -/

/-- Does sequence number `a` come after `b`, counting modulo 2^32? -/
def seqAfter (a b : Nat) : Bool :=
  let d := (a + 2 ^ 32 - b % 2 ^ 32) % 2 ^ 32
  decide (0 < d) && decide (d < 2 ^ 31)

/-- Is a frame intact: its CRC agrees and no field is reserved? -/
def frameOk (f : Bytes) : Bool := f.length == 512 && uAt f 508 4 == crc32 (f.take 508) && decide (uAt f 0 1 ≤ 2) && decide (uAt f 1 1 ≤ 3)

/-- Complete messages at the head of a channel's gathered payload, and what is left of it. A LENGTH above 32,768 names no
message; what was gathered is dropped. -/
def cutMessages : Nat → Bytes → List Bytes × Bytes
  | 0, b => ([], b)
  | fuel + 1, b =>
    if b.length < 32 then ([], b)
    else if 32768 < msgLen b then ([], [])
    else
      let n := 40 + msgLen b
      if b.length < n then ([], b)
      else
        let r := cutMessages fuel (b.drop n)
        (b.take n :: r.1, r.2)

/-- ACK: frames up to it need no replay. -/
def PortSt.ackFrame (pt : PortSt) (ack : Nat) : PortSt :=
  if seqAfter ack pt.acked then
    { pt with acked := ack, replay := pt.replay.filter (fun e => seqAfter e.1 ack), resends := pt.resends.filter (fun e => seqAfter e.1 ack) }
  else pt

/-- CREDIT returned for a channel, 512 frames at most. -/
def PortSt.addCredit (pt : PortSt) (vc n : Nat) : PortSt :=
  { pt with credit := pt.credit.set vc (min 512 (pt.credit.getD vc 0 + n)) }

/-- Resends one kept frame. -/
def PortSt.countResend (pt : PortSt) (n now : Nat) : PortSt :=
  let k := ((pt.resends.find? (fun e => e.1 == n)).map (·.2)).getD 0
  { pt with
    resends := (n, k + 1) :: pt.resends.filter (fun e => e.1 != n)
    resentAt := now :: pt.resentAt.filter (fun t => decide (now < t + 1000000)) }

/-- The control messages of frames not acknowledged and of frames that wait for credit: each is one frame on VC0. -/
def PortSt.controlInFlight (pt : PortSt) : List Bytes :=
  (pt.replay.filter (fun e => uAt e.2 0 1 == 1 && uAt e.2 1 1 == 0)).map (fun e => (slice e.2 16 480).take (uAt e.2 2 2))
    ++ (pt.txWait.filter (fun e => e.1 == 0)).map (·.2)

/-! ### Messages resent end to end (R397) -/

/-- A message is sent again by its present route. -/
def State.resendMessage (s : State) (m : SentMsg) : State :=
  let port := match s.route m.dst m.id with
    | some (p, _) => p
    | none => 0xFF
  let s := s.addOb 0x2600 9 1
  ({ s with naela := { s.naela with
      sentMsgs := s.naela.sentMsgs.map (fun (e : SentMsg) => if e.dst = m.dst ∧ e.id = m.id then { e with sends := e.sends + 1, port := port } else e) }
    }).dispatchMessage m.bytes

/-- A signature that carries another row than the present one. -/
def State.signatureRow (s : State) (row : Nat) (i : SigInfo) : State :=
  let r := ({ s with row := { s.row with num := row } }).signature i
  { r with row := { r.row with num := s.row.num } }

/-- A message fails delivery: the sending row fails, or outside the group the loss is counted and signed (R397). -/
def State.deliveryFail (s : State) (m : SentMsg) : State :=
  let s := { s with naela := { s.naela with sentMsgs := s.naela.sentMsgs.filter (fun e => !(e.dst == m.dst && e.id == m.id)) } }
  let s := s.addOb 0x2600 0x0A 1
  if m.inGroup then s.raise { cause := 0x31, suspects := [.port m.port] }
  else
    ((s.addOb (0x2640 + m.window) 7 1).signatureRow m.row { loc := [(16, m.port)], mech := 0x31 }).msix 65

/-- Sends a message again, or gives it up when it has been sent 3 times. -/
def State.retryMessage (s : State) (m : SentMsg) : State := if 3 ≤ m.sends then s.deliveryFail m else s.resendMessage m

/-! ### Link-state flooding (R399) -/

/-- The payload of a ROUTE message about this module: 16 bytes for each admitted link, its module and neighbour and the
sender's time (layout: log entry 38). -/
def State.routeBytes (s : State) : Bytes :=
  ((List.range 18).filter s.admitted).flatMap (fun p => le 2 s.moduleId ++ le 2 (s.portPeer p) ++ zeros 4 ++ le 8 s.now)

/-- Sends a ROUTE payload to every admitted neighbour but one. -/
def State.floodRoute (s : State) (body : Bytes) (except_ : Nat) : State :=
  ((List.range 18).filter (fun p => s.admitted p && p != except_)).foldl (fun s p => s.sendControl 0x15 (s.portPeer p) body) s

/-- A change of an admitted link is flooded, and the routes follow at the row boundary. -/
def State.linkChange (s : State) : State :=
  let s := { s with naela := { s.naela with linksNext := some (s.naela.linksNext.getD s.naela.links) } }
  s.floodRoute s.routeBytes 0xFF

/-! ### Port states -/

/-- STATE of a port becomes `v`. -/
def State.portTo (s : State) (p v : Nat) : State := s.setOb (0x2620 + p) 1 (v : Nat)

/-- A cable event of a port is logged (R443). -/
def State.portEvent (s : State) (p old new : Nat) : State := s.logEvent .cable (0x2620 + p) 1 old new

/-- What a port forgets when its link goes down. -/
def PortSt.down (pt : PortSt) : PortSt := { present := pt.present, retrained := pt.retrained, failures := pt.failures }

/-- A port that carried traffic goes to another STATE: its messages leave by other routes at once (R397, R413). -/
def State.portDown (s : State) (p v : Nat) : State :=
  let was := s.portState p
  let ctl := (s.port p).controlInFlight
  let s := ((s.portTo p v).setPort p (s.port p).down).setOb (0x2620 + p) 2 0
  if was = 4 ∨ was = 5 then
    let s := s.linkChange
    let s := ctl.foldl (fun s m => s.dispatchVc m 0) s
    (s.naela.sentMsgs.filter (fun m => m.port == p)).foldl (fun s m => s.retryMessage m) s
  else s

/-- A port fails: STATE 7, logged (R392, R443). -/
def State.failPort (s : State) (p : Nat) : State := (s.portEvent p (s.portState p) 7).portDown p 7

/-- A link failure (R394): counted; the port retrains once, then it fails. -/
def State.linkFail (s : State) (p : Nat) : State :=
  let pt := s.port p
  let s := s.setPort p { pt with failures := pt.failures + 1, retrained := true }
  if pt.retrained then s.failPort p else s.portDown p 2

/-- Resends the kept frames from sequence number `n` on; the link fails at 8 resends of one frame or more than 256 in 1 ms. -/
def State.resendFrom (s : State) (p n : Nat) : State :=
  let fs := (s.port p).replay.filter (fun e => e.1 == n || seqAfter e.1 n)
  let s := (fs.foldl (fun s e => (s.setPort p ((s.port p).countResend e.1 s.clock)).emit (.naela p e.2)) s).addOb (0x2620 + p) 0x0A fs.length
  let s := if fs.isEmpty then s else { s with row := { s.row with retries := s.row.retries + fs.length } }
  let pt := s.port p
  if pt.resends.any (fun e => decide (8 ≤ e.2)) ∨ 256 < pt.resentAt.length then s.linkFail p else s

/-- A retry request for the frame expected next; one stands at a time. -/
def State.askRetry (s : State) (p : Nat) : State :=
  let pt := s.port p
  if pt.retry = some pt.expect then s
  else
    let n := (pt.sent + 1) % 2 ^ 32
    let f := frameBytes 2 0 n pt.expect 0 0 []
    let kept := pt.replay ++ [(n, f)]
    (s.setPort p { pt with sent := n, retry := some pt.expect, replay := kept.drop (kept.length - 1024) }).emit (.naela p f)

/-- Is the port's link up: tested, admitted, draining or quiesced? -/
def State.linkUp (s : State) (p : Nat) : Bool := decide (3 ≤ s.portState p) && decide (s.portState p ≤ 6)

/-- Does a message travel one hop only: TIME, NEGOTIATE, ROUTE? -/
def oneHop (mtype : Nat) : Bool := mtype == 0x12 || mtype == 0x14 || mtype == 0x15

/-- A message gathered on a port and channel: one for another module goes on, one for this module waits to be taken. -/
def State.gathered (s : State) (p vc : Nat) (m : Bytes) : State :=
  if msgDst m ≠ s.moduleId ∧ !oneHop (msgType m) then s.dispatchVc m vc
  else { s with naela := { s.naela with rxDone := s.naela.rxDone ++ [(p, vc, m)] } }

/-- The payload of a message frame joins its channel; an idle frame returns its credit. -/
def State.gatherFrame (s : State) (p : Nat) (f : Bytes) : State :=
  let vc := uAt f 1 1
  let pt := s.port p
  let r := cutMessages 16 (Tab.getD pt.partialMsg vc [] ++ (slice f 16 480).take (uAt f 2 2))
  let s := (s.setPort p { pt with partialMsg := Tab.set pt.partialMsg vc r.2 }).emit
    (.naela p (frameBytes 0 0 pt.sent (pt.expect + 2 ^ 32 - 1) 1 vc []))
  r.1.foldl (fun s m => s.gathered p vc m) s

/-- A Naela frame arrives (R393 to R395). A retry request carries the frame it expects in ACK. -/
def execNaelaFrame (p : Nat) (frame : Bytes) (s : State) : Result :=
  s.unit "port" p (decide (p < s.portCount)) (fun s =>
    if !s.linkUp p then s
    else if !frameOk frame then s.askRetry p
    else
      let ftype := uAt frame 0 1
      let fseq := uAt frame 4 4
      let ack := uAt frame 8 4
      let take (s : State) : State :=
        (s.setPort p (((s.port p).ackFrame (if ftype = 2 then (ack + 2 ^ 32 - 1) % 2 ^ 32 else ack)).addCredit (uAt frame 14 1 % 4)
          (uAt frame 12 2))).pumpPort p
      if ftype = 0 then take s
      else if fseq = (s.port p).expect then
        let pt := s.port p
        let s := take (s.setPort p { pt with expect := (pt.expect + 1) % 2 ^ 32, retry := none })
        if ftype = 1 then s.gatherFrame p frame else s.resendFrom p ack
      else if seqAfter fseq (s.port p).expect then s.askRetry p
      else s)

/-- The peer asks for the frames from `fseq` on. -/
def execRetryRequest (p fseq : Nat) (s : State) : Result :=
  s.unit "port" p (decide (p < s.portCount)) (fun s => if s.linkUp p then s.resendFrom p fseq else s)

/-- ACK has not advanced for 2 µs with frames outstanding. -/
def execFrameRetryTimeout (p : Nat) (s : State) : Result :=
  s.unit "port" p (decide (p < s.portCount)) (fun s =>
    if s.linkUp p ∧ !(s.port p).replay.isEmpty then s.resendFrom p (((s.port p).acked + 1) % 2 ^ 32) else s)

/-! ### Training and admission (R408) -/

/-- Is the commit group's every member reachable without port `p` (R409)? -/
def State.groupReachable (s : State) (p : Nat) : Bool :=
  let t := s.portTo p 5
  s.members.all (fun m => t.reachable.contains m || !s.reachable.contains m)

/-- The neighbour that torus port `p` leads to (R398). -/
def State.torusPeer (s : State) (p : Nat) : Option Nat :=
  let d := s.dims
  if d.1 * d.2.1 * d.2.2 ≤ s.moduleId then none
  else
    let c := coords d s.moduleId
    match p / 2 with
    | 0 => some (modAt d ((c.1 + 1) % d.1, c.2.1, c.2.2))
    | 1 => some (modAt d ((c.1 + d.1 - 1) % d.1, c.2.1, c.2.2))
    | 2 => some (modAt d (c.1, (c.2.1 + 1) % d.2.1, c.2.2))
    | 3 => some (modAt d (c.1, (c.2.1 + d.2.1 - 1) % d.2.1, c.2.2))
    | 4 => some (modAt d (c.1, c.2.1, (c.2.2 + 1) % d.2.2))
    | _ => some (modAt d (c.1, c.2.1, (c.2.2 + d.2.2 - 1) % d.2.2))

/-- Is the peer of a NEGOTIATE payload refused (R408), by the identity that the admission would bring? -/
def State.refusesPeer (s : State) (p : Nat) (b : Bytes) : Bool :=
  let m := uAt b 16 2
  let s := s.takeIdentity
  m == s.moduleId
    || (List.range 18).any (fun q => q != p && s.admitted q && s.portPeer q == m
        && (match (s.port q).negotiated with
          | some n => n.take 16 != b.take 16
          | none => false))
    || (decide (p < 12) && s.torusPeer p != some m)
    || slice b 24 3 != (le 1 (s.nat 0x2600 2) ++ le 1 (s.nat 0x2600 3) ++ le 1 (s.nat 0x2600 4))

/-- Judges admission once the link test has passed and the peer's NEGOTIATE has arrived. -/
def State.judgePort (s : State) (p : Nat) : State :=
  let pt := s.port p
  match pt.negotiated with
  | some b =>
    if !pt.tested ∨ s.portState p ≠ 3 then s
    else
      let o := 0x2620 + p
      let s := ((s.setOb o 3 (uAt b 16 2 + uAt b 18 1 * 65536 : Nat)).setOb o 4 (uAt b 19 1 : Nat)).setOb o 5 (uAt b 20 1 : Nat)
      if s.refusesPeer p b then ((s.setPort p pt.down).portTo p 8).portEvent p 3 8
      else s.setPort p { pt with admitDue := true }
  | none => s

/-- This module's NEGOTIATE payload on port `p`. -/
def State.negotiateBytes (s : State) (p : Nat) : Bytes :=
  fit 16 Config.serialNumber ++ le 2 (s.nat 0x2600 1) ++ le 1 p ++ le 1 s.sec.running.proto ++ le 1 s.sec.running.flmax
    ++ le 1 (s.nat 0x2810 1) ++ le 2 (s.sec.running.fwver / 65536) ++ le 1 (s.nat 0x2600 2) ++ le 1 (s.nat 0x2600 3)
    ++ le 1 (s.nat 0x2600 4) ++ zeros 37

/-- A port enters service at a row boundary; MODULEID and the dimensions take effect with it (R412). -/
def State.admitPort (s : State) (p : Nat) : State :=
  let s := s.takeIdentity
  let s := (s.portTo p 4).setPort p { s.port p with admitDue := false, retrained := false }
  ((s.portEvent p 3 4).linkChange).announceTime

/-- Drops the groups of failed lanes: twelve lanes stay, or the port fails with a second group (R392). -/
def State.dropLanes (s : State) (p : Nat) : State :=
  let pt := s.port p
  let up := pt.dropDue.foldl (fun g l => g &&& (15 - 2 ^ (l / 4 % 4))) pt.groups
  let s := s.setPort p { pt with groups := up, dropDue := [] }
  if pt.dropDue.isEmpty then s
  else if popcount 4 up < 3 then s.failPort p
  else s.setOb (0x2620 + p) 2 12

/-- What a row boundary brings to Naela: dropped lane groups, recomputed routes, control messages that had no route, and
admissions, which wait for a darning to end (R392, R399, R408, R413). -/
def State.naelaBoundary (s : State) : State :=
  let s := (List.range s.portCount).foldl State.dropLanes s
  let s := match s.naela.linksNext with
    | some l => { s with naela := { s.naela with links := l, linksNext := none } }
    | none => s
  let s := if s.map.now.isSome then s
    else ((List.range s.portCount).filter (fun p => (s.port p).admitDue)).foldl State.admitPort s
  let s := s.setOb 0x2600 7 (s.reachable.length : Nat)
  let l := s.naela.unrouted
  l.foldl (fun s m => s.dispatchVc m 0) { s with naela := { s.naela with unrouted := [] } }

/-- Is a port left untrained: step 12 runs in mode 1, and the most recent start blamed the port (Table: Alternate steps)? -/
def State.leftUntrained (s : State) (p : Nat) : Bool :=
  s.dev == .castOn && s.nat 0x2D00 2 == 12 && s.start.mode == 1
    && s.flash.journal.any (fun r => r.start + 1 == s.nat 0x2D00 3 && r.step == 12 && (r.result == 3 || r.result == 4)
      && r.ukind == 13 && r.udetail / 256 == p)

/-- A cage presence pin asserts (R391, R408, R476): a disabled port stays empty, an unsupported module leaves STATE 8. -/
def execPortPresence (p : Nat) (supported : Bool) (s : State) : Result :=
  s.unit "port" p (decide (p < s.portCount)) (fun s =>
    let was := s.portState p
    if was ≠ 1 then s
    else if s.leftUntrained p then s.setPort p { s.port p with present := true }
    else if s.nat (0x2620 + p) 7 = 0 then
      ((s.setPort p { s.port p with present := true }).showPort 2 p).portEvent p 1 1
    else
      let v := if supported then 2 else 8
      ((s.setPort p { present := true }).portTo p v).portEvent p 1 v)

/-- The entry of a lane of port `p` (R327, R392): found by step 12 of a cast-on, or in service. -/
def State.laneDefect (s : State) (p lane : Nat) : Defect :=
  { kind := 13, source := if s.dev = .castOn then s.nat 0x2D00 2 else 0x80, detail := p * 256 + lane }

/-- A lane of port `p` is appended with its signature (R359, R392). -/
def State.listLane (s : State) (p lane : Nat) : State :=
  let d := s.laneDefect p lane
  let o := s.dev == .castOn
  (s.appendDefect (if o then .castOn else .module) d).signDefect d 0 (defectAction d) (if o then 1 else 0)

/-- A port trains with 12 lanes: the lane that failed, which the command does not name, is the one on the defect list, else a free value
that is appended (R392; log entry 105). -/
def State.trainedTwelve (s : State) (p : Nat) : State :=
  let at_ (s : State) (lane : Nat) : State := s.setPort p { s.port p with groups := 15 - 2 ^ (lane / 4 % 4) }
  match s.defectsNow.find? (fun d => d.kind == 13 && d.detail / 256 == p) with
  | some d => at_ s (d.detail % 256)
  | none =>
    let d := s.draw
    at_ (d.2.listLane p (d.1 % 16)) (d.1 % 16)

/-- Training ends (R392, R408): with 16 lanes, or 12 when a lane failed; a port that fails to train within 500 ms fails. -/
def execPortTrained (p : Nat) (ok : Bool) (lanes : Nat) (s : State) : Result :=
  s.unit "port" p (decide (p < s.portCount)) (fun s =>
    if s.portState p ≠ 2 then s
    else if ok ∧ (lanes = 16 ∨ lanes = 12) then
      let s := if lanes = 16 then s.setPort p { s.port p with groups := 15 } else s.trainedTwelve p
      (s.setOb (0x2620 + p) 2 (lanes : Nat)).portTo p 3
    else s.failPort p)

/-- The link test ends (R408): NEGOTIATE goes out, or the port fails. The message names no destination, 0xFFFF. -/
def execLinkTestDone (p : Nat) (passed : Bool) (s : State) : Result :=
  s.unit "port" p (decide (p < s.portCount)) (fun s =>
    if s.portState p ≠ 3 then s
    else if passed then
      let s := s.setPort p { s.port p with tested := true }
      let r := s.newMessage 0x14 0xFFFF 0 0 (s.negotiateBytes p)
      (r.2.sendBytes p 0 r.1.bytes).judgePort p
    else s.failPort p)

/-! ### Lanes and signal (R392, R410) -/

/-- A lane of port `p` fails: its group is dropped at the next row boundary; one that is due already makes no second entry. -/
def State.failLane (s : State) (p lane : Nat) : State :=
  let pt := s.port p
  if pt.dropDue.contains lane then s
  else (s.listLane p lane).setPort p { pt with dropDue := pt.dropDue ++ [lane] }

/-- A lane fails or shows too many uncorrectable codewords. -/
def execLaneFailure (p lane : Nat) (s : State) : Result :=
  s.unit "lane" lane (decide (p < s.portCount) && decide (lane < 16)) (fun s => s.failLane p lane)

/-- Lane groups of a port report loss of signal: bit g of `groups`. One lost group is dropped; a second, or all of them, fail the
port; a port pulled in STATE 4, 5, 7 or 8 shows it (R410, R476). -/
def execLossOfSignal (p groups : Nat) (s : State) : Result :=
  s.unit "port" p (decide (p < s.portCount) && decide (groups < 16)) (fun s =>
    let st := s.portState p
    let pt := s.port p
    let up := pt.groups &&& (15 - groups)
    let s := if groups = 15 ∧ (st = 4 ∨ st = 5 ∨ st = 7 ∨ st = 8) then s.showPort 3 p else s
    if st = 2 ∨ st = 3 ∨ st = 4 ∨ st = 5 then
      if popcount 4 up < 3 then s.failPort p
      else (s.setPort p { pt with groups := up }).setOb (0x2620 + p) 2 (if up = 15 then 16 else 12)
    else s)

/-- A cable's presence pin deasserts: STATE 1 (R409, R476). -/
def execPresenceDeassert (p : Nat) (s : State) : Result :=
  s.unit "port" p (decide (p < s.portCount)) (fun s =>
    let st := s.portState p
    let s := if st = 4 ∨ st = 5 ∨ st = 7 ∨ st = 8 then s.showPort 3 p else s
    let s := if st = 1 then s else (s.portDown p 1).portEvent p st 1
    let s := s.setPort p {}
    (((s.setOb (0x2620 + p) 3 0).setOb (0x2620 + p) 4 0).setOb (0x2620 + p) 5 0).setOb (0x2620 + p) 6 0)

/-! ### Quiesce (R409, R475) -/

/-- QUIESCE of port `p` becomes 1 or 0, after the checks of a write: what a write, a pad or a bind-off does. `force` passes over
the reachability check (R413). A cancelled quiesce returns to STATE 4, or to training when the port had not passed its link
test. -/
def State.quiescePort (s : State) (p v : Nat) (force : Bool) : State :=
  let st := s.portState p
  if v = 1 then
    if st = 4 then
      if force ∨ s.groupReachable p then ((s.setOb (0x2620 + p) 6 1).portTo p 5).linkChange
      else s.showInUse p
    else if st = 2 ∨ st = 3 ∨ st = 7 ∨ st = 8 then
      ((s.setOb (0x2620 + p) 6 1).setPort p { s.port p with tested := false, admitDue := false }).portTo p 6
    else s.setOb (0x2620 + p) 6 1
  else if st = 5 ∨ (st = 6 ∧ (s.port p).tested) then ((s.setOb (0x2620 + p) 6 0).portTo p 4).linkChange
  else if st = 6 then (s.setOb (0x2620 + p) 6 0).portTo p 2
  else s.setOb (0x2620 + p) 6 0

/-- Every message that crossed a draining port is acknowledged. -/
def execQuiesceDrained (p : Nat) (s : State) : Result :=
  s.unit "port" p (decide (p < s.portCount)) (fun s =>
    if s.portState p = 5 ∧ !s.naela.sentMsgs.any (fun m => m.port == p) then s.portTo p 6 else s)

end Sys2Proof.Machine
end

