-- ==== Sys2Proof/Machine/Activation.lean ====
section
/-!
DEFINITION. A running firmware activation (R462 to R466, R471): which image each part of it brings in, and the change-over of the
next unit at a row boundary. When the load of a controller pair ends is a free value, 2 s at most (R463; log entry 40).
-/
namespace Sys2Proof.Machine

/-- The staging bank and the bank that boots. -/
def State.stagedBank (s : State) : FwBank := if s.flash.active = 0 then s.flash.bank1 else s.flash.bank0
def State.activeBank (s : State) : FwBank := if s.flash.active = 0 then s.flash.bank0 else s.flash.bank1

/-- Is a darning running or due? It suspends an activation (R462). -/
def State.darningDue (s : State) : Bool := s.map.now.isSome || !s.map.queue.isEmpty || !s.map.redo.isEmpty

/-- The next phase begins. -/
def State.fwPhase (s : State) (n : Nat) : State := { s with sec := { s.sec with phase := n, unit := 0, since := s.clock } }

/-- The standby pair takes over on the new image: the firmware that runs is the staged one. -/
def State.takeOver (s : State) : State :=
  match s.stagedBank.info with
  | some i => { s with sec := { s.sec with running := i }, start := { s.start with standby := false } }.fwPhase 3
  | none => s.abortActivation

/-- Port `p` renegotiates its protocol level (R411). -/
def State.renegotiate (s : State) (p : Nat) : State :=
  let r := s.newMessage 0x14 0xFFFF 0 0 (s.negotiateBytes p)
  r.2.sendBytes p 0 r.1.bytes

/-- The ports that are admitted. -/
def State.admittedPorts (s : State) : List Nat := (List.range 18).filter s.admitted

/-- The last phase: the banks change places (R463). -/
def State.finishActivation (s : State) : State :=
  let old := match s.activeBank.info with
    | some i => i.fwver
    | none => 0
  { s with
    flash := { s.flash with active := 1 - s.flash.active }
    sec := { s.sec with fwState := 5, phase := 0, unit := 0 } }.logActivation old

/-- The next unit of a phase of `n` units changes over; after the last, `next`. -/
def State.fwUnit (s : State) (n : Nat) (next : State → State) : State :=
  let s := { s with sec := { s.sec with unit := s.sec.unit + 1 } }
  if n ≤ s.sec.unit then next s else s

/-- Has the load of a controller pair ended at this boundary, and has its self-test passed? -/
def State.loadEnded (s : State) : Bool × Bool × State :=
  let d := s.draw
  (d.1 % 2 == 1 || decide (s.sec.since + 2000000000 ≤ s.clock), d.1 / 2 % 2 == 0, d.2)

/-- A slice and an admitted port change over: a load that fails twice retires the update engine, or fails the port (R464). -/
def State.loadSlice (s : State) : State :=
  let d := s.draw
  let i := s.sec.unit
  let s := if d.1 % 2 = 1 then d.2.retireEngine i else d.2
  match s.admittedPorts[i]? with
  | some p => if d.1 / 2 % 2 = 1 then s.failPort p else s.renegotiate p
  | none => s

/-- The controller of a region changes over: a load that fails twice loses the region (R464). -/
def State.loadRegion (s : State) : State :=
  let d := s.draw
  if d.1 % 2 = 1 then d.2.queueLoss (.region s.sec.unit) 0 else d.2

/-- The cells of a region change over: one whose microcode digest fails twice is lost (R464). -/
def State.loadCells (s : State) : State :=
  let d := s.draw
  let r := s.sec.unit
  (List.range 56).foldl (fun s i => if bit d.1 i then s.queueLoss (.cell r (i / 8) (i % 8)) 0 else s) d.2

/-- What a row boundary brings to an activation (Table: Activation sequence). Whether a unit's load fails is a free value (log entry
40); the loss of a unit is darned before the next unit changes over. -/
def State.changeOver (s : State) : State :=
  if !s.activating || s.darningDue then s
  else match s.sec.phase with
    | 1 => let e := s.loadEnded
      if !e.1 then e.2.2 else if e.2.1 then (e.2.2.fwPhase 2).takeOver else e.2.2.abortActivation
    | 3 => let e := s.loadEnded
      if e.1 then e.2.2.fwPhase 4 else e.2.2
    | 4 => s.loadSlice.fwUnit 48 (fun s => s.fwPhase 5)
    | 5 => s.loadRegion.fwUnit 42 (fun s => s.fwPhase 6)
    | 6 => s.loadCells.fwUnit 42 State.finishActivation
    | _ => s

/-- A lockstep mismatch meets an activation (R471): before phase 2 the activation ends; while the new standby loads, the load is
tried once more. Answers whether that was all. -/
def State.mismatchInActivation (s : State) : Bool × State :=
  if !s.activating then (false, s)
  else if s.sec.phase = 1 then (false, s.abortActivation)
  else if s.sec.phase = 3 ∧ !s.sec.retried then
    (true, { s with sec := { s.sec with retried := true, since := s.clock } })
  else (false, s)

end Sys2Proof.Machine
end

