-- ==== Sys2Proof/Machine/Checks.lean ====
section
/-!
DEFINITION. Check alarms, heartbeats, the sync net and the chip-controller pairs, link retries, scrubs (R13, R81, R82, R127,
R142, R143, R181, R182, R193 to R197, R341).
-/
namespace Sys2Proof.Machine

/-- The causes of Table: Check causes. -/
def causes : List Nat :=
  [0x01, 0x02, 0x03, 0x04, 0x05, 0x10, 0x11, 0x12, 0x13, 0x14, 0x15, 0x20, 0x21, 0x22, 0x30, 0x31, 0x38, 0x40, 0x41, 0x42,
    0x43, 0x44]

/-- Control passes to the standby pair and the row fails; when that pair disagrees too, or still loads an activation's image a
second time, SAFE (R195, R471). -/
def State.switchPair (s : State) : State :=
  let r := s.mismatchInActivation
  if r.1 then r.2
  else if s.start.standby ∨ (r.2.activating ∧ s.sec.phase = 3) then r.2.latchSafe (some 0x43)
  else ({ r.2 with start := { r.2.start with standby := true } }).raise { cause := 0x43 }

/-- The line repairs due once the line at `l` is among them. -/
def PhysCell.repairLater (c : PhysCell) (l cause : Nat) : List (Nat × Nat) :=
  if c.pendingLines.any (fun e => e.1 == l) then c.pendingLines else c.pendingLines ++ [(l, cause)]

/-- An uncorrectable word of a line: counted, its repair due at the next row boundary, its content lost until a replay or a rebuild
refills it (R81, R182). -/
def State.loseLine (s : State) (p : Place) (line : Nat) : State :=
  let c := s.physCell p.number
  { s with
    phys := Tab.set s.phys p.number { c with
      pendingLines := c.repairLater line 0x20, refill := if c.refill.contains line then c.refill else c.refill ++ [line] }
    row := { s.row with uncorr := s.row.uncorr + 1 } }

/-- A storage failure as a read meets it: an uncorrectable scratchpad line falls due for repair, an HBM line that cannot be corrected
or a parity error of the accumulator is counted (R81, R182, R220). -/
def State.storageLoss (s : State) (a : Alarm) : State :=
  match a.cause, s.map.place a.x a.y with
  | 0x20, some p => s.loseLine p (a.addr % 0x1000000 / 64 * 64)
  | 0x21, _ => { s with row := { s.row with uncorr := s.row.uncorr + 1 } }
  | 0x22, _ => { s with row := { s.row with uncorr := s.row.uncorr + 1 } }
  | _, _ => s

/-- A check failure: the loss of a cell or region loses the unit, a controller mismatch switches pairs, every other cause
fails the row. An alarm with no cause of the table is none. -/
def State.alarm (s : State) (a : Alarm) : State :=
  if a.cause = 0x40 then s.loseCell a.x a.y 0x40
  else if a.cause = 0x41 then
    a.suspects.foldl (fun s u => match u with
      | .region r => s.loseRegion r
      | _ => s) s
  else if a.cause = 0x43 then s.switchPair
  else if causes.contains a.cause then (s.storageLoss a).raise a
  else s

def execCheckAlarm (a : Alarm) (s : State) : Result :=
  s.unit "cell" (cellNo a.x a.y) (isCell a.x a.y) (fun s => s.alarm a)

/-- A heartbeat reaches the region hub (R142). -/
def execCellHeartbeat (x y : Nat) (s : State) : Result :=
  s.unit "cell" (cellNo x y) (isCell x y) (fun s => s.setCell x y { s.cell x y with hbAge := 0 })

/-- A hub has seen no heartbeat from a logical cell for 4,096 cycles (R143). -/
def execCellLost (x y : Nat) (s : State) : Result :=
  s.unit "cell" (cellNo x y) (isCell x y) (fun s =>
    (s.setCell x y { s.cell x y with hbAge := max 4096 (s.cell x y).hbAge }).loseCell x y 0x40)

/-- A region controller's heartbeat has stopped for 2 µs (R341). -/
def execRegionHeartbeatLost (r : Nat) (s : State) : Result :=
  s.unit "region" r (decide (r < 42)) (fun s => (s.setReg r { s.reg r with heart := false }).loseRegion r)

/-- The two wires of a sync-net line disagree: in a region hub the region is lost, in the chip tree the module enters SAFE
(R195). -/
def execSyncNetDisagree (region : Option Nat) (s : State) : Result :=
  match region with
  | some r => s.unit "region" r (decide (r < 42)) (fun s => s.loseRegion r)
  | none => s.whenOn (fun s => s.latchSafe none)

def execControllerSwitch (s : State) : Result := s.whenOn State.switchPair

/-! ### Links (R13, R127, R194) -/

/-- Does a link carry spare wires: it crosses a seam, or is a ring link? -/
def State.hasSpares (s : State) : LinkId → Bool
  | .mesh x y d => (s.map.seamRegion x y d).isSome
  | .ring _ _ => true

/-- The lane test of a failed link finds the wires `ws`: they are replaced by spares, each repair appended and signed, or the
link is lost. -/
def State.laneTest (s : State) (l : LinkId) (ws : List Nat) : State :=
  let k := s.link l
  if !s.hasSpares l then s.loseLink l
  else match repairLanes k.spares ws with
    | none => s.loseLink l
    | some t =>
      let n := s.map.linkNo l
      let s := s.setLink l { k with spares := t, sameFlit := 0, retries := [] }
      (ws.filter (fun w => !(Tab.getD k.spares (w / 64) []).contains w)).foldl (fun s w =>
        let s := s.appendDefect .module (wireDefect n w)
        s.signature { loc := (s.suspectLoc (.link l)).filter (fun e => e.1 != 14) ++ [(15, w)], link := s.linkKey (.link l),
                      mech := 0x30, action := 4, defect := s.newDefect }) s

/-- The lane tests that wait for the row boundary (R194). -/
def State.laneTests (s : State) : State :=
  let l := s.row.lanesDue
  l.foldl (fun s e => s.laneTest e.1 e.2) { s with row := { s.row with lanesDue := [] } }

/-- A failed link is tested: a seam or ring link at the row boundary, at once while the module ticks no rows; a link inside a field has
no spares to test (R13, R194). -/
def State.testLater (s : State) (l : LinkId) (ws : List Nat) : State :=
  if s.row.phase = .idle ∨ !s.hasSpares l then s.laneTest l ws
  else if s.row.lanesDue.any (fun e => e.1 == l) then s
  else { s with row := { s.row with lanesDue := s.row.lanesDue ++ [(l, ws)] } }

/-- A flit arrives. One with a CRC error is retried; the eighth failure of one flit, or more than 64 retries in 1 ms, fails
the row with LINK_FAILED and has the link's lanes tested. -/
def State.flit (s : State) (l : LinkId) (ok : Bool) (ws : List Nat) : State :=
  let k := s.link l
  if k.failed then s
  else if ok then (if k.sameFlit = 0 then s else s.setLink l { k with sameFlit := 0 })
  else
    let recent := s.clock :: k.retries.filter (fun t => decide (s.clock < t + 1000000))
    let k := { k with sameFlit := k.sameFlit + 1, retries := recent }
    let s := { s.setLink l k with row := { s.row with retries := s.row.retries + 1 } }
    if 8 ≤ k.sameFlit ∨ 64 < recent.length then
      let at0 := match l with
        | .mesh x y _ => (x, y)
        | .ring _ _ => (0, 0)
      (s.raise { cause := 0x30, x := at0.1, y := at0.2, suspects := [.link l] }).testLater l ws
    else s

def execFlitReceive (l : LinkId) (crcOk : Bool) (failedWires : List Nat) (s : State) : Result :=
  let ok := match l with
    | .mesh x y d => isCell x y && decide (d < 5)
    | .ring _ i => decide (i < 48)
  s.unit "link" (s.map.linkNo l) ok (fun s => s.flit l crcOk failedWires)

/-! ### Scrubs (R81, R82, R193) -/

/-- 24 h in ns. -/
def dayNs : Nat := 86400000000000

/-- A corrected error of `what` at time `t`: the log of the last 24 h, and whether this is the second there. -/
def second (log : List (Nat × Nat)) (what t : Nat) : List (Nat × Nat) × Bool :=
  let kept := log.filter (fun e => decide (t < e.2 + dayNs))
  (kept ++ [(what, t)], kept.any (fun e => e.1 == what))

/-- A scrub of the line at `off` of a physical cell. A failure in a cell that carries no logical cell fails no row (R486). -/
def State.scrubLine (s : State) (p : Place) (off : Nat) (o : EccOutcome) : State :=
  let line := off / 64 * 64
  let c := s.physCell p.number
  match o with
  | .clean => s
  | .corrected again =>
    let r := second c.corrected line s.clock
    let due := if again || r.2 then c.repairLater line 0 else c.pendingLines
    { s with
      phys := Tab.set s.phys p.number { c with corrected := r.1, pendingLines := due }
      row := { s.row with spCorr := s.row.spCorr + 1 } }
  | .uncorrectable =>
    let s := s.loseLine p line
    match s.map.logicalCell p with
    | some (x, y) => s.raise { cause := 0x20, x := x, y := y, addr := cellBase x y + line }
    | none => s

/-- The physical cell at column `px` (0 to 55) and row `py` (0 to 41) of the wafer (R6). -/
def placeAt (px py : Nat) : Place := { region := py / 7 * 7 + px / 8, col := px % 8, row := py % 7 }

/-- A due scrub of a line of a physical cell, named by its column and row on the wafer; a clock-gated cell is not scrubbed (R11,
R82). -/
def execScratchpadScrub (px py offset : Nat) (o : EccOutcome) (s : State) : Result :=
  s.unit "scratchpad line" offset (decide (px < 56) && decide (py < 42) && decide (offset < 0x1000000))
    (fun s => if s.map.cellGated (placeAt px py) then s else s.scrubLine (placeAt px py) offset o)

/-- The pseudo-channel of an HBM address: consecutive 256-byte blocks rotate over the stack's 32 (R149). -/
def pseudoChannel (a : Nat) : Nat := a / 256 % 32

/-- The stack and DRAM row of an HBM line, stack * 2^26 + pseudo-channel * 2^20 + bank * 2^16 + row (R361): the spec gives no mapping of
addresses to banks and rows (log entry 32). -/
def dramRow (a : Nat) : Nat := sliceOf a * 2 ^ 26 + pseudoChannel a * 2 ^ 20 + Config.openResult "DRAM row" [a / 256] % 2 ^ 20

/-- A patrol visit to an HBM line: the second corrected error of a DRAM row within 24 h has the row repaired at the next row
boundary; an uncorrectable line is poisoned. -/
def State.scrubHbm (s : State) (a : Nat) (o : EccOutcome) : State :=
  let line := a / 64 * 64
  let h := s.hbm
  match o with
  | .clean => s
  | .corrected _ =>
    let r := second h.corrected (dramRow a) s.clock
    { s with
      hbm := { h with corrected := r.1, repairDue := if r.2 then addOnce h.repairDue (dramRow a) else h.repairDue }
      row := { s.row with hbmCorr := s.row.hbmCorr + 1 } }
  | .uncorrectable =>
    let recent := h.uncorrTimes.filter (fun e => decide (s.clock < e.2 + 1000000000))
    { s with
      hbm := { h with poisoned := addOnce h.poisoned line, uncorrTimes := recent ++ [(sliceOf a, s.clock)] }
      row := { s.row with uncorr := s.row.uncorr + 1 } }

def execHbmPatrolScrub (addr : Nat) (o : EccOutcome) (s : State) : Result :=
  s.unit "HBM line" addr (decide (addr < hbmEnd)) (fun s => s.scrubHbm addr o)

end Sys2Proof.Machine
end

