-- ==== Sys2Proof/Machine/Chk.lean ====
section
/-!
DEFINITION. CHK descriptors: operand checksum records and partial-sum records of tiles in scratchpad (R106, R120, R187, R188,
R190, R191; log entry 30).
-/
namespace Sys2Proof.Machine

/-! ### Fields (R120) -/

def chkFmt (d : Desc) : Nat := fld d 135 132
def chkRows (d : Desc) : Nat := fld d 131 127 + 1
def chkCols (d : Desc) : Nat := fld d 126 122 + 1
def chkKind (d : Desc) : Nat := fld d 121 120
def chkPacked (d : Desc) : Bool := fld d 119 119 == 1

/-- The formats a tile may have by its kind (R115, R191). -/
def chkFmtOk (d : Desc) : Bool :=
  if chkKind d = 2 then chkFmt d == (if chkPacked d then 10 else 12) else decide (chkFmt d ≤ 9)

/-- May CHK run these fields? -/
def chkOk (d : Desc) : Bool := chkKind d != 3 && chkFmtOk d && (chkPacked d || fld d 118 107 == 0)

/-! ### Operand checksum records (R187) -/

/-- Elements of a tile stand 32 to a row; the scale bytes follow from the next 64-byte boundary, one a row of activations or
a column of weights. -/
def operandBytes (d : Desc) : Nat := chkRows d * 32 * fmtWidth (chkFmt d) / 8

/-- The element codes of a tile: at row * 32 + column. -/
def operandCodes (d : Desc) (b : Bytes) : List Nat := unpack (fmtWidth (chkFmt d)) (chkRows d * 32) b

/-- Scale bytes of a tile. -/
def scaleBytes (d : Desc) : Nat :=
  if fmtMx (chkFmt d) then (if chkKind d = 0 then chkRows d else chkCols d) else 0

/-- Entry k of an operand checksum: of column k of activations, of K row k of weights. -/
def operandSum (d : Desc) (codes : List Nat) (k : Nat) : Nat :=
  if chkKind d = 0 then
    if k < chkCols d then (List.range (chkRows d)).foldl (fun a i => a + codes.getD (i * 32 + k) 0) 0 % 2 ^ 32 else 0
  else
    if k < chkRows d then (List.range (chkCols d)).foldl (fun a j => a + codes.getD (k * 32 + j) 0) 0 % 2 ^ 32 else 0

/-- The record of a tile from its element and scale bytes: 192 bytes. -/
def operandRecord (d : Desc) (x y : Nat) (b scales : Bytes) : Bytes :=
  let codes := operandCodes d b
  le 4 (scales.foldl (fun a v => a + v.toNat) 0) ++ le 1 (chkRows d - 1) ++ le 1 (chkCols d - 1) ++ le 1 (chkFmt d)
    ++ le 1 (chkKind d) ++ le 2 x ++ le 2 y ++ zeros 52
    ++ ((List.range 32).map (fun k => le 4 (operandSum d codes k))).flatten

/-! ### The record of the tile that a descriptor names -/

/-- Bytes of a record by its kind. -/
def chkRecordLen (d : Desc) : Nat := if chkKind d = 2 then (if chkPacked d then 320 else 1088) else 192

/-- The FP32 values of a packed tile in scratchpad. -/
def State.packedTile (s : State) (x y : Nat) (r : Regs) (d : Desc) : Except Stop (List Nat) :=
  match s.readSpa x y r (fld d 183 160) (chkRows d * 128) with
  | .error e => .error e
  | .ok b => .ok (unpack 32 (chkRows d * 32) b)

/-- Forms the record of the tile at TADDR. -/
def State.chkRecord (s : State) (x y : Nat) (r : Regs) (d : Desc) : Except Stop Bytes :=
  if chkKind d = 2 then
    if chkPacked d then do
      let vs ← s.packedTile x y r d
      .ok (packedRecord vs (chkRows d - 1) (chkCols d - 1) x y)
    else do
      let b ← s.readSpa x y r (fld d 183 160) exactLen
      .ok ((exactTile b).exactRecord x y)
  else do
    let off ← spa r (fld d 183 160)
    let b ← s.readCell x y off (operandBytes d)
    let sc ← s.readCell x y (off + cdiv (operandBytes d) 64 * 64) (scaleBytes d)
    .ok (operandRecord d x y b sc)

/-- INSERT: writes the record at CADDR. -/
def chkInsertEffect : Effect := fun x y r d s =>
  if !chkOk d then malformed
  else do
    let b ← s.chkRecord x y r d
    s.writeSpa x y r (fld d 159 136) b

/-! ### VERIFY -/

/-- A record without the cell that formed it and, for a partial sum, the number of tiles it sums. -/
def chkCore (d : Desc) (b : Bytes) : Bytes := if chkKind d = 2 then b.take 8 ++ b.drop 16 else b.take 8 ++ b.drop 12

/-- The packed bound of R191 for one column or row: the tile's values against the recorded sum. -/
def sumWithin (vs : List Int) (rec' : Nat) (n : Nat) : Bool :=
  let r := fp32Units rec'
  withinBound (vs.foldl (· + ·) 0 - r) (-149) n (vs.foldl (fun a v => a + v.natAbs) 0 + r.natAbs)

/-- Does a packed tile agree with its record within the bound? Counts and form are compared exactly. -/
def packedAgrees (d : Desc) (vs : List Nat) (b : Bytes) : Bool :=
  let m := chkRows d
  let n := chkCols d
  let v (i j : Nat) : Int := fp32Units (vs.getD (i * 32 + j) 0)
  uAt b 0 4 == 0 && uAt b 4 1 + 1 == m && uAt b 5 1 + 1 == n && uAt b 6 1 == 1
    && (List.range n).all (fun j => sumWithin ((List.range m).map (fun i => v i j)) (uAt b (64 + 4 * j) 4) (m + 1))
    && (List.range m).all (fun i => sumWithin ((List.range n).map (fun j => v i j)) (uAt b (192 + 4 * i) 4) (n + 1))

/-- Does the tile at TADDR agree with the record at CADDR? -/
def State.chkAgrees (s : State) (x y : Nat) (r : Regs) (d : Desc) (b : Bytes) : Except Stop Bool :=
  if chkKind d = 2 ∧ chkPacked d then do
    let vs ← s.packedTile x y r d
    .ok (packedAgrees d vs b)
  else do
    let c ← s.chkRecord x y r d
    .ok (chkCore d c == chkCore d b)

/-- Does a VERIFY of a partial sum find the tile whose drained copy it names at odds with its checksum register (R190)? -/
def State.copyFails (s : State) (x y : Nat) (r : Regs) (d : Desc) : Except Stop Bool :=
  if chkKind d = 2 then
    match spa r (fld d 183 160) with
    | .error e => .error e
    | .ok off => match Tab.get? (s.cell x y).copies off with
      | some k => .ok (!((s.cell x y).tile k).ckOk)
      | none => .ok false
  else .ok false

/-- VERIFY: a difference raises OPERAND_MISMATCH, or VERIFY_MISMATCH for a partial sum; the cell that formed the record is
named with this one. -/
def chkVerifyEffect : Effect := fun x y r d s =>
  if !chkOk d then malformed
  else do
    let b ← s.readSpa x y r (fld d 159 136) (chkRecordLen d)
    let ok ← s.chkAgrees x y r d b
    let stale ← s.copyFails x y r d
    if stale then .error (.alarm 0x12 [] 0)
    else if ok then .ok s
    else
      let w : List Suspect := if isCell (uAt b 8 2) (uAt b 10 2) then [.cell (uAt b 8 2) (uAt b 10 2)] else []
      .error (.alarm (if chkKind d = 2 then 0x13 else 0x14) w 0)

/-! ### Commands -/

def execChkInsert (x y : Nat) (d : Desc) (s : State) : Result := s.cellOp x y d chkInsertEffect
def execChkVerify (x y : Nat) (d : Desc) (s : State) : Result := s.cellOp x y d chkVerifyEffect

end Sys2Proof.Machine
end

