-- ==== Sys2Proof/Machine/Ctl.lean ====
section
/-!
DEFINITION. CTL descriptors: scalar registers, predicates and control flow of a cell's sequencer (R98, R124, R125).
-/
namespace Sys2Proof.Machine

/-! ### Fields (R124) -/

def ctlRd (d : Desc) : Nat := fld d 183 179
def ctlRa (d : Desc) : Nat := fld d 178 174
def ctlRb (d : Desc) : Nat := fld d 173 169
def ctlPd (d : Desc) : Nat := fld d 168 166
def ctlPs (d : Desc) : Nat := fld d 165 163
def ctlPneg (d : Desc) : Bool := fld d 162 162 == 1
def ctlCond (d : Desc) : Nat := fld d 161 159
def ctlTarget (d : Desc) : Int := sfld d 158 135
def ctlImm (d : Desc) : W64 := BitVec.ofNat 64 (fld d 134 71)

/-! ### Registers, predicates, flow -/

/-- Scalar register `i` as a word; s0 reads 0. -/
def CellSt.sr (c : CellSt) (i : Nat) : W64 := if i = 0 then 0 else c.s.getD i 0

/-- Writes scalar register `i`; a write of s0 has no effect. -/
def CellSt.setSr (c : CellSt) (i : Nat) (v : W64) : CellSt := if i = 0 then c else { c with s := c.s.set i v }

/-- Predicate `i`; p0 reads 1. -/
def CellSt.pr (c : CellSt) (i : Nat) : Bool := i == 0 || c.p.getD i false

/-- Writes predicate `i`; a write of p0 has no effect. -/
def CellSt.setPr (c : CellSt) (i : Nat) (v : Bool) : CellSt := if i = 0 then c else { c with p := c.p.set i v }

/-- The next descriptor in order. -/
def CellSt.next (c : CellSt) : CellSt := { c with pc := c.pc + 1 }

/-- What a CTL descriptor makes of a cell. -/
abbrev CtlOp := Desc → CellSt → CellSt

/-- A CTL descriptor that goes on to the next one. -/
def ctlEffect (f : CtlOp) : Effect := fun x y _ d s => .ok (s.setCell x y (f d (s.cell x y)).next)

/-- A descriptor with two sources and a destination register. -/
def ctlBinary (f : W64 → W64 → W64) : Effect := ctlEffect (fun d c => c.setSr (ctlRd d) (f (c.sr (ctlRa d)) (c.sr (ctlRb d))))

/-- Descriptors of a cell's program. -/
def State.progLen (s : State) (x y : Nat) : Nat :=
  match s.cellEntry x y with
  | some e => e.progLen
  | none => 0

/-- Goes to descriptor index `t` (R125). -/
def State.jumpTo (s : State) (x y : Nat) (c : CellSt) (t : Int) : Except Stop State :=
  if t < 0 ∨ (s.progLen x y : Int) ≤ t then .error (.fault .address)
  else .ok (s.setCell x y { c with pc := t.toNat })

/-- Jumps by TARGET when `b` holds, else goes on. -/
def State.branch (s : State) (x y : Nat) (c : CellSt) (d : Desc) (b : Bool) : Except Stop State :=
  if b then s.jumpTo x y c ((c.pc : Int) + ctlTarget d) else .ok (s.setCell x y c.next)

/-! ### Operations -/

def ctlNopEffect : Effect := ctlEffect (fun _ c => c)
def ctlLiEffect : Effect := ctlEffect (fun d c => c.setSr (ctlRd d) (ctlImm d))
def ctlAddEffect : Effect := ctlBinary (fun a b => a + b)
def ctlSubEffect : Effect := ctlBinary (fun a b => a - b)
def ctlMulEffect : Effect := ctlBinary (fun a b => a * b)
def ctlAndEffect : Effect := ctlBinary (fun a b => a &&& b)
def ctlOrEffect : Effect := ctlBinary (fun a b => a ||| b)
def ctlXorEffect : Effect := ctlBinary (fun a b => a ^^^ b)
def ctlShlEffect : Effect := ctlBinary (fun a b => a <<< (b.toNat % 64))
def ctlShrEffect : Effect := ctlBinary (fun a b => a >>> (b.toNat % 64))
def ctlSraEffect : Effect := ctlBinary (fun a b => a.sshiftRight (b.toNat % 64))
def ctlAddiEffect : Effect := ctlEffect (fun d c => c.setSr (ctlRd d) (c.sr (ctlRa d) + ctlImm d))
def ctlMinEffect : Effect := ctlBinary (fun a b => if b.slt a then b else a)
def ctlMaxEffect : Effect := ctlBinary (fun a b => if a.slt b then b else a)

/-- The comparison COND; none for a reserved code. -/
def ctlHolds (cond : Nat) (a b : W64) : Option Bool :=
  if cond = 0 then some (a == b)
  else if cond = 1 then some (a != b)
  else if cond = 2 then some (a.slt b)
  else if cond = 3 then some (!a.slt b)
  else if cond = 4 then some (a.ult b)
  else if cond = 5 then some (!a.ult b)
  else none

/-- Compares s[RA] with a value. -/
def ctlCompare (v : Desc → CellSt → W64) : Effect := fun x y _ d s =>
  let c := s.cell x y
  match ctlHolds (ctlCond d) (c.sr (ctlRa d)) (v d c) with
  | none => malformed
  | some b => .ok (s.setCell x y (c.setPr (ctlPd d) b).next)

def ctlCmpEffect : Effect := ctlCompare (fun d c => c.sr (ctlRb d))
def ctlCmpiEffect : Effect := ctlCompare (fun d _ => ctlImm d)

def ctlBrEffect : Effect := fun x y _ d s =>
  let c := s.cell x y
  s.branch x y c d (c.pr (ctlPs d) != ctlPneg d)

def ctlJmpEffect : Effect := fun x y _ d s => s.branch x y (s.cell x y) d true

def ctlLoopEffect : Effect := fun x y _ d s =>
  let c := (s.cell x y).setSr (ctlRa d) ((s.cell x y).sr (ctlRa d) - 1)
  s.branch x y c d (c.sr (ctlRa d) != 0)

def ctlCallEffect : Effect := fun x y _ d s =>
  let c := s.cell x y
  if 16 ≤ c.stack.length then .error (.fault .stack)
  else s.branch x y { c with stack := (c.pc + 1) :: c.stack } d true

def ctlRetEffect : Effect := fun x y _ _ s =>
  let c := s.cell x y
  match c.stack with
  | [] => .error (.fault .stack)
  | t :: rest => s.jumpTo x y { c with stack := rest } t

/-- The offset that LD or ST names: s[RA] + IMM, a multiple of 8. -/
def ctlOffset (d : Desc) (c : CellSt) : Except Stop Nat :=
  let o := (c.sr (ctlRa d) + ctlImm d).toNat
  if o % 8 ≠ 0 then .error (.fault .misalign) else .ok o

def ctlLdEffect : Effect := fun x y _ d s => do
  let c := s.cell x y
  let o ← ctlOffset d c
  let b ← s.readCell x y o 8
  .ok (s.setCell x y (c.setSr (ctlRd d) (BitVec.ofNat 64 (ofLe b))).next)

def ctlStEffect : Effect := fun x y _ d s => do
  let c := s.cell x y
  let o ← ctlOffset d c
  let s ← s.writeCell x y o (le 8 (c.sr (ctlRb d)).toNat)
  .ok (s.setCell x y (s.cell x y).next)

/-- END: the sequencer stops fetching; END completes at once when nothing is outstanding. -/
def ctlEndEffect : Effect := fun x y _ _ s =>
  let c := s.cell x y
  if c.phase = .ended then .ok s else .ok ((s.setCell x y { c with phase := .endFetched }).tryEnd x y)

/-! ### Commands -/

def execCtlNop (x y : Nat) (d : Desc) (s : State) : Result := s.cellOp x y d ctlNopEffect
def execCtlEnd (x y : Nat) (d : Desc) (s : State) : Result := s.cellOp x y d ctlEndEffect
def execCtlLi (x y : Nat) (d : Desc) (s : State) : Result := s.cellOp x y d ctlLiEffect
def execCtlAdd (x y : Nat) (d : Desc) (s : State) : Result := s.cellOp x y d ctlAddEffect
def execCtlSub (x y : Nat) (d : Desc) (s : State) : Result := s.cellOp x y d ctlSubEffect
def execCtlMul (x y : Nat) (d : Desc) (s : State) : Result := s.cellOp x y d ctlMulEffect
def execCtlAnd (x y : Nat) (d : Desc) (s : State) : Result := s.cellOp x y d ctlAndEffect
def execCtlOr (x y : Nat) (d : Desc) (s : State) : Result := s.cellOp x y d ctlOrEffect
def execCtlXor (x y : Nat) (d : Desc) (s : State) : Result := s.cellOp x y d ctlXorEffect
def execCtlShl (x y : Nat) (d : Desc) (s : State) : Result := s.cellOp x y d ctlShlEffect
def execCtlShr (x y : Nat) (d : Desc) (s : State) : Result := s.cellOp x y d ctlShrEffect
def execCtlSra (x y : Nat) (d : Desc) (s : State) : Result := s.cellOp x y d ctlSraEffect
def execCtlAddi (x y : Nat) (d : Desc) (s : State) : Result := s.cellOp x y d ctlAddiEffect
def execCtlMin (x y : Nat) (d : Desc) (s : State) : Result := s.cellOp x y d ctlMinEffect
def execCtlMax (x y : Nat) (d : Desc) (s : State) : Result := s.cellOp x y d ctlMaxEffect
def execCtlCmp (x y : Nat) (d : Desc) (s : State) : Result := s.cellOp x y d ctlCmpEffect
def execCtlCmpi (x y : Nat) (d : Desc) (s : State) : Result := s.cellOp x y d ctlCmpiEffect
def execCtlBr (x y : Nat) (d : Desc) (s : State) : Result := s.cellOp x y d ctlBrEffect
def execCtlJmp (x y : Nat) (d : Desc) (s : State) : Result := s.cellOp x y d ctlJmpEffect
def execCtlLoop (x y : Nat) (d : Desc) (s : State) : Result := s.cellOp x y d ctlLoopEffect
def execCtlCall (x y : Nat) (d : Desc) (s : State) : Result := s.cellOp x y d ctlCallEffect
def execCtlRet (x y : Nat) (d : Desc) (s : State) : Result := s.cellOp x y d ctlRetEffect
def execCtlLd (x y : Nat) (d : Desc) (s : State) : Result := s.cellOp x y d ctlLdEffect
def execCtlSt (x y : Nat) (d : Desc) (s : State) : Result := s.cellOp x y d ctlStEffect

end Sys2Proof.Machine
end

