-- ==== Sys2Proof/Machine/HostMemOps.lean ====
section
/-!
DEFINITION. Host accesses to HBM: where each lands, what is held until the row closes, the snoop filter (R203, R205, R222, R368,
R369).
-/
namespace Sys2Proof.Machine

/-- Bytes of the session area. -/
def sareaBytes : Nat := 0x40000000

/-- Does an address lie in the session area (R222)? -/
def State.inSarea (s : State) (a : Nat) : Bool :=
  s.nat 0x2B11 1 != 0 && decide (s.nat 0x2B11 1 ≤ a) && decide (a < s.nat 0x2B11 1 + sareaBytes)

/-- Does an address lie in the image of a loaded pattern? -/
def State.inImage (s : State) (a : Nat) : Bool := s.pats.any (fun e => decide (e.2.addr ≤ a) && decide (a < e.2.addr + e.2.len))

/-- Is a slice out of service? -/
def State.sliceOut (s : State) (a : Nat) : Bool := s.map.outStacks.contains (sliceOf a)

/-- Does a row of a run stand between its start and its close or undo? -/
def State.runRowOpen (s : State) : Bool :=
  !s.row.waste && s.run.isSome && s.row.phase != .waiting && s.row.phase != .idle

/-- Bytes of held host writes to slice `i`. -/
def State.heldBytes (s : State) (i : Nat) : Nat :=
  (s.hbm.heldWrites.filter (fun w => sliceOf w.1 == i)).foldl (fun n w => n + w.2.length) 0

/-- Is a host write to an address held: in a logged or versioned region of a loaded pattern while a run's row is open, in a
disposable region that a job of the row writes (R257; log entry 94), and wherever it goes in a slice that holds 64 KiB of such writes,
which pushes back (R203)? -/
def State.heldTarget (s : State) (a : Nat) : Bool :=
  s.runRowOpen && ((match regionAt s.allRegions a with
    | some r => r.attr != 3 || s.hbm.jobRegions.contains r
    | none => false) || decide (0x10000 ≤ s.heldBytes (sliceOf a)))

/-- A piece of a host write lands: the committed copy of its line takes the bytes, and a whole line clears poison. -/
def State.landHost (s : State) (a : Nat) (d : Bytes) : State :=
  { s with
    mem := s.mem.writeBytes (s.committedAt a) d
    hbm := s.hbm.cleared (s.committedAt a / 64 * 64) (d.length == 64) }

/-- A piece of a host write inside one line (Table: Host memory access). -/
def State.hostWritePiece (s : State) (a : Nat) (d : Bytes) : State :=
  if s.inShare a d.length then s.addOb 0x2401 0x11 1
  else if s.inSarea a then s.addOb 0x2B11 2 1
  else if s.inImage a ∨ s.sliceOut a then s.addOb 0x2B00 2 1
  else if s.heldTarget a then { s with hbm := { s.hbm with heldWrites := s.hbm.heldWrites ++ [(a, d)] } }
  else s.landHost a d

/-- A host write of bytes in HBM, line by line. -/
def State.hostWrite (s : State) (a : Nat) (data : Bytes) : State :=
  (pieces (data.length / 64 + 2) a data).foldl (fun s p => s.hostWritePiece p.1 p.2) s

/-- The writes held while a row ran land in arrival order (R203). -/
def State.landHeld (s : State) : State :=
  let l := s.hbm.heldWrites
  l.foldl (fun s p => s.landHost p.1 p.2) { s with hbm := { s.hbm with heldWrites := [] } }

/-- A byte as the host reads it, and whether its data is marked poisoned (Table: Host memory access). -/
def State.hostByte (s : State) (a : Nat) : Byte :=
  if s.inShare a 1 then 0
  else match regionAt s.allRegions a with
    | some r => if r.attr = 3 then s.mem.read a else (s.committedRead a 1).getD 0 0
    | none => (s.committedRead a 1).getD 0 0

/-- The set of the snoop filter that a line falls into: the spec gives no placement (log entry 9). -/
def snoopSet (line : Nat) : Nat := Config.openResult "snoop filter set" [line] % 4096

/-- The tracked lines of the same slice and set as `line`. -/
def State.sameSet (s : State) (line : Nat) : List Nat :=
  s.hbm.snoop.filter (fun l => sliceOf l == sliceOf line && snoopSet l == snoopSet line)

/-- The host may hold a line from now on. -/
def State.track (s : State) (line : Nat) : State :=
  { s with hbm := { s.hbm with snoop := line :: s.hbm.snoop.filter (· != line) } }

/-- A back-invalidate for a line: sent, and awaited by the host read of line `waits`, or by the commit. -/
def State.snoopOut (s : State) (line : Nat) (waits : Option (Nat × Nat)) : State :=
  ({ s with hbm := { s.hbm with waitSnoop := s.hbm.waitSnoop ++ [(line, waits)] } }).emit (.snoop line)

end Sys2Proof.Machine
end

