-- ==== Sys2Proof/Machine/SessionOps.lean ====
section
/-!
DEFINITION. Generation sessions as data: the page pool, page lists, records, batch buffers, the update after a run's commit
(R221 to R225, R230, R231, R233, R234, R237, R240).
-/
namespace Sys2Proof.Machine

/-! ### The pool (R222, R230, R231) -/

/-- Bytes of a page. -/
def pageBytes : Nat := 0x200000

/-- Pages of a slice. -/
def State.poolPages (s : State) : Nat := s.nat 0x2B10 2

/-- Device address of page number `p`, which is slice * 65,536 + n. -/
def State.pageAddr (s : State) (p : Nat) : Nat := p / 65536 * 0x2000000000 + s.nat 0x2B10 1 + p % 65536 * pageBytes

/-- Is a page free: in a slice in service, neither held nor being zeroed? -/
def State.pageFree (s : State) (p : Nat) : Bool :=
  decide (p % 65536 < s.poolPages) && !s.map.outStacks.contains (p / 65536) && !s.pool.used.contains p

/-- FREEPAGES. -/
def State.freePages (s : State) : Nat :=
  (List.range 48).foldl (fun n i =>
    if s.map.outStacks.contains i then n
    else n + (s.poolPages - (s.pool.used.filter (fun p => p / 65536 == i)).length)) 0

/-- The lowest free page of slice `i`. It stands no higher than the count of pages in use. -/
def State.lowestPage (s : State) (i : Nat) : Option Nat :=
  ((List.range (min s.poolPages (s.pool.used.length + 1))).map (fun n => i * 65536 + n)).find? s.pageFree

/-- The page that slot `j` of session index `i` takes. -/
def State.pickPage (s : State) (i j : Nat) : Option Nat :=
  (List.range 48).findSome? (fun k => s.lowestPage ((i + j + k) % 48))

/-- Address of a session's page list. -/
def State.pageList (s : State) (i : Nat) : Nat := s.nat 0x2B11 1 + i * 0x10000

/-- Stores session slot `i`. -/
def State.setSession (s : State) (i : Nat) (v : Session) : State := { s with sess := Tab.set s.sess i v }

/-- Gives session `i` its next page, and writes the list entry. -/
def State.addPage (s : State) (i : Nat) : State :=
  let v := s.session i
  match s.pickPage i v.pages.length with
  | none => s
  | some p =>
    let s := { s with pool := { s.pool with used := p :: s.pool.used } }
    let s := { s with mem := s.mem.writeBytes (s.pageList i + 4 * v.pages.length) (le 4 (s.pageAddr p / pageBytes)) }
    s.setSession i { v with pages := v.pages ++ [p] }

/-- `n` pages more for session `i`. -/
def State.addPages (s : State) (i : Nat) : Nat → State
  | 0 => s
  | n + 1 => (s.addPage i).addPages i n

/-- Sets every page-list entry of session `i` to none. -/
def State.clearList (s : State) (i : Nat) : State :=
  { s with mem := s.mem.writeBytes (s.pageList i) (List.replicate 0x10000 0xFF) }

/-- Positions per page of a session's set. -/
def State.ppg (s : State) (v : Session) : Nat := max 1 (s.nat (0x2B20 + v.set) 3)

/-- Pages an ADVANCE needs for a session. -/
def State.pagesNeeded (s : State) (v : Session) : Nat :=
  cdiv (if v.status = 1 then v.plen else v.pos + 1) (s.ppg v) - v.pages.length

/-! ### Records (R224, R225) -/

/-- The handle of slot `i`. -/
def State.handle (s : State) (i : Nat) : Nat := (s.session i).tag * 65536 + i

/-- STATUS as read: BUSY while a running ADVANCE names the session. -/
def Session.statusNow (v : Session) : Nat := if v.inRun then 3 else v.status

/-- The record of slot `i`; a FREE slot's holds its handle alone. -/
def State.sessionBytes (s : State) (i : Nat) : Bytes :=
  let v := s.session i
  if v.status = 0 then le 4 (s.handle i) ++ zeros 60
  else
    le 4 (s.handle i) ++ le 1 v.statusNow ++ le 1 v.set ++ le 2 0 ++ le 4 v.pos ++ le 4 v.last ++ le 4 v.plen ++ le 4 v.maxpos
      ++ le 4 v.stop ++ le 4 v.pages.length ++ le 8 v.seed ++ le 4 v.sctr ++ le 4 v.topk ++ le 4 v.temp ++ le 4 v.topp
      ++ le 8 v.prompt

/-- NOPEN. -/
def State.openCount (s : State) : Nat := (s.sess.filter (fun e => e.2.status != 0)).length

/-- Is a session bound to set `n`? -/
def State.setBound (s : State) (n : Nat) : Bool := s.sess.any (fun e => e.2.status != 0 && e.2.set == n)

/-- The slot that a handle names, when it is open. -/
def State.openSlot (s : State) (h : Nat) : Option Nat :=
  let i := h % 8192
  if bits h 15 13 = 0 ∧ s.handle i = h ∧ (s.session i).status ≠ 0 then some i else none

/-! ### The batch buffer (R233, R237) -/

/-- TPOS of a session's sampler record. -/
def Session.tpos (v : Session) (phase : Nat) : Nat := if phase = 0 then v.plen else v.pos + 1

/-- A sampler record. -/
def Session.sampler (v : Session) (phase : Nat) : Bytes :=
  le 8 v.seed ++ le 4 v.sctr ++ le 4 (v.tpos phase) ++ le 4 v.topk ++ le 4 v.temp ++ le 4 v.topp ++ le 4 0

/-- The session entry of slot `i`. -/
def State.sessionEntry (s : State) (phase i : Nat) : Bytes :=
  let v := s.session i
  le 4 (s.handle i) ++ le 4 (if phase = 0 then 0 else v.pos) ++ le 4 (if phase = 0 then v.plen else 1)
    ++ le 4 (if phase = 0 then 0xFFFFFFFF else v.last) ++ le 8 (if phase = 0 then v.prompt else 0) ++ le 8 (s.pageList i)

/-- Batch buffer `r` mod 2. -/
def State.batchAddr (s : State) (r : Nat) : Nat := s.nat 0x2B11 1 + 0x20000000 + r % 2 * 0x100000

/-- Writes the batch buffer of the run that is about to start, over the sessions `slots`; answers its address. RUNSEQ is the number of
runs since cast-on before it (log entry 100). -/
def State.writeBatch (s : State) (phase set_ : Nat) (slots : List Nat) : Nat × State :=
  let r := s.pool.runSeq
  let a := s.batchAddr r
  let head := le 4 slots.length ++ le 1 phase ++ le 3 0 ++ le 4 (s.nat (0x2B20 + set_) 3) ++ le 4 (s.nat (0x2B20 + set_) 8)
    ++ le 8 r ++ zeros 40
  let m := s.mem.writeBytes a head
  let m := m.writeBytes (a + 0x1000) (List.replicate (4 * slots.length) 0xFF)
  let m := m.writeBytes (a + 0x10000) (slots.flatMap (fun i => (s.session i).sampler phase))
  let m := m.writeBytes (a + 0x50000) (slots.flatMap (fun i => s.sessionEntry phase i))
  (a, { s with mem := m, pool := { s.pool with runSeq := r + 1 } })

/-! ### After a run (R234, R235) -/

/-- The update of session `i` by the token of entry `e`; notes the token drawn. -/
def State.updateSession (s : State) (buf phase e i : Nat) : State :=
  let v := s.session i
  let t := ofLe (s.committedRead (buf + 0x1000 + 4 * e) 4)
  let note (s : State) (tok : Nat) : State := match s.run with
    | some r => { s with run := some { r with drawn := r.drawn ++ [(s.handle i, tok)] } }
    | none => s
  if s.nat (0x2B20 + v.set) 8 ≤ t then note (s.setSession i { v with status := 5 }) 0xFFFFFFFF
  else
    let pos := v.tpos phase
    let stopped := t == v.stop || pos == v.maxpos
    note (s.setSession i { v with pos := pos, last := t, sctr := (v.sctr + 1) % 2 ^ 32, status := if stopped then 4 else 2 }) t

/-- Updates the sessions of a committed run in entry order. -/
def State.updateSessions (s : State) (buf phase : Nat) (handles : List Nat) : State :=
  (handles.zipIdx).foldl (fun s he => s.updateSession buf phase he.2 (he.1 % 8192)) s

/-! ### Closing (R240) -/

/-- A session's slot becomes FREE with the next TAG. -/
def State.freeSlot (s : State) (i : Nat) : State :=
  let t := (s.session i).tag
  (s.clearList i).setSession i { tag := if t = 65535 then 1 else t + 1 }

/-- Returns pages to the pool. -/
def State.returnPages (s : State) (ps : List Nat) : State :=
  { s with pool := { s.pool with used := s.pool.used.filter (fun p => !ps.contains p) } }

end Sys2Proof.Machine
end

