-- ==== Sys2Proof/Machine/HostCmdOps.lean ====
section
/-!
DEFINITION. How a host command runs: the head of its queue, its reserved fields and addresses, its end (R375 to R379). A command
here is one that a queue's head names; it is taken as fetched when the module has not fetched one of that queue yet (log
entry 39).
-/
namespace Sys2Proof.Machine

/-! ### Fields (R7, R378, R379) -/

/-- Are all bytes of a command outside the ranges (offset, length) it defines zero, and all reserved bits of its header? -/
def headerOk (op : Nat) (used : List (Nat × Nat)) (c : Bytes) : Bool :=
  c.length == 128 && cmdOpcode c == op && decide (uAt c 1 1 < 2) && allZero (slice c 4 12)
    && ((List.range 112).all (fun i =>
      used.any (fun u => decide (u.1 ≤ i + 16) && decide (i + 16 < u.1 + u.2)) || uAt c (i + 16) 1 == 0))

/-- Are bits [62:52] of the address fields at these offsets zero? -/
def addrsOk (c : Bytes) (offs : List Nat) : Bool := offs.all (fun o => addrFieldOk (uAt c o 8))

/-- Refuses with `st` when a condition does not hold. -/
def need (b : Bool) (st : Nat) : Except Nat Unit := if b then .ok () else .error st

/-! ### The head of a queue (R375) -/

/-- Has a queue a command that has started and not completed: ended and not released, held, or the active run? -/
def State.queueBusy (s : State) (q : Nat) : Bool :=
  s.host.ending.any (fun e => e.queue == q) || s.host.held.any (fun e => e.queue == q)
    || (match s.run with
      | some r => r.queue == q
      | none => false)

/-- The fetched command of a queue. -/
def State.headOf (s : State) (q : Nat) : Option Fetched := s.host.fetched.find? (fun f => f.queue == q)

/-- Do commands execute in this device state (R377)? -/
def State.takesCommands (s : State) : Bool := s.dev == .ready || s.dev == .running || s.dev == .hold || s.dev == .bindOff

/-- Enters a command as fetched from queue `q`. -/
def State.enterFetched (s : State) (q : Nat) (c : Bytes) : Fetched × State :=
  let f : Fetched := { queue := q, cmd := c, sqhead := (s.queue q).sqhead, no := s.host.fetchNo + 1 }
  (f, { s with host := { s.host with fetchNo := s.host.fetchNo + 1, fetched := s.host.fetched ++ [f] } })

/-- Replaces a fetched command. -/
def State.setFetched (s : State) (f : Fetched) : State :=
  { s with host := { s.host with fetched := s.host.fetched.map (fun g => if g.no = f.no then f else g) } }

/-- Is the module in bind-off toward removal, where a command that comes to its turn is refused (R377, R434)? -/
def State.refusesCommands (s : State) : Bool := s.dev == .bindOff && decide (2 ≤ s.nat 0x2200 2)

/-- Refuses a command toward removal; behind SAFE TO REMOVE no row commits any more, and its completion is written at once (log entry
16). -/
def State.refuseRemoving (s : State) (f : Fetched) : State :=
  let s := s.refuse f stState
  if s.nat 0x2200 2 = 4 then s.releaseEnding else s

/-- A command's turn in bind-off toward removal: refused; a run command that was fetched before is left to be aborted. -/
def State.refuseTurn (s : State) (q : Nat) (c : Bytes) : State :=
  match s.headOf q with
  | some f => if f.cmd = c && !f.wait && !isRunOp (cmdOpcode c) then s.refuseRemoving f else s
  | none => let e := s.enterFetched q c
    e.2.refuseRemoving e.1

/-- A command of queue `q` comes to its turn: the one fetched there, or one that enters as fetched when none is. -/
def State.hostCmd (s : State) (q : Nat) (c : Bytes) (run : Fetched → State → State) : Result :=
  s.unit "queue" q (decide (q < 64)) (fun s =>
    if !s.takesCommands || s.queueBusy q then s
    else if s.refusesCommands then s.refuseTurn q c
    else match s.headOf q with
      | some f => if f.cmd = c && !f.wait then run f s else s
      | none => let e := s.enterFetched q c
        run e.1 e.2)

/-- Completes a command that took effect: DONE, or DONE_CLAMPED with its clamped fields logged at (byte offset, requested,
applied), the first record's SEQ in DETAIL (R379, R388, R439). -/
def State.finish (s : State) (f : Fetched) (result : Nat) (clamped : List (Nat × Nat × Nat) := [])
    (writes : List (Nat × Bytes) := []) : State :=
  let seq := (s.flash.log.seq + 1) % 2 ^ 32
  let s := clamped.foldl (fun s e => s.logField f e.1 e.2.1 e.2.2) s
  s.endCommand f
    { status := if clamped.isEmpty then stDone else stClamped, result := result, clamps := clamped.length
      detail := if clamped.isEmpty then 0 else seq } writes

/-- A command whose checks answer a plan: refused with the first failing check's status, else carried out. -/
def State.judged {α : Type} (s : State) (f : Fetched) (e : Except Nat α) (go : α → State) : State :=
  match e with
  | .error st => s.refuse f st
  | .ok a => go a

end Sys2Proof.Machine
end

