-- ==== Sys2Proof/Machine/FnTables.lean ====
section
/-!
DEFINITION. The tables of the vector unit's functions (R52 to R54): each entry is the nearest integer, ties to even, to the
real number that its definition names.
-/
namespace Sys2Proof

/-- rne(2^56 * 64 / ln 2) and rne(2^56 * ln 2 / 64) (R53). -/
def expM : Int := 6653256548922161246
def expLN : Int := 780414346020670

/-- rne(2^56 * ln 2) and rne(2^56 * 2 / sqrt(pi)) (R54). -/
def logLn2 : Int := 49946518145322874
def erfSlope : Int := 81308287943423697

/-- T[j] = rne(2^62 * 2^(j/64)) (R53). -/
def expT : List Int :=
  [4611686018427387904, 4661903986662671290, 4712668792719003884, 4763986391269842979,
   4815862801830788490, 4868304109465667592, 4921316465500308116, 4974906088244084429,
   5029079263719320435, 5083842346398635251, 5139201759950318048, 5195163997991819502,
   5251735624851448219, 5308923276338361494, 5366733660520940721, 5425173558513642752,
   5484249825272419512, 5543969390398799154, 5604339258952723100, 5665366512274234280,
   5727058308814112983, 5789421884973557729, 5852464555953009676, 5916193716610220111,
   5980616842327661685, 6045741489889385141, 6111575298367424380, 6178125990017853852,
   6245401371186603363, 6313409333225136570, 6382157853416100552, 6451654995909055045,
   6521908912666391106, 6592927844419550153, 6664720121635655541, 6737294165494670078,
   6810658488877194079, 6884821697363019841, 6959792490240559659, 7035579661527265796,
   7112192101001162095, 7189638795243608238, 7267928828693418961, 7347071384712461870,
   7427075746662858866, 7507951298995917514, 7589707528352920109, 7672354024677899536,
   7755900482342532474, 7840356701283281883, 7925732588150922155, 8012038157472581778,
   8099283532826439817, 8187478948029213993, 8276634748336579668, 8366761391656660532,
   8457869449776733335, 8549969609603290562, 8643072674415606502, 8737189565132953757,
   8832331321595618838, 8928509103859867100, 9025734193507008925, 9124017994966720698]

/-- rne(2^56 * ln(1 + j/64)) (R54). -/
def logT : List Int :=
  [0, 1117194379296892, 2217331688082624, 3300924950408830,
   4368464387551571, 5420418749682129, 6457236551723852, 7479347221550435,
   8487162167882470, 9481075774528691, 10461466326985287, 11428696876841533,
   12383116048934824, 13325058795745810, 14254847103118697, 15172790651027430,
   16079187432780867, 16974324335764940, 17858477686553685, 18731913762980749,
   19594889275545656, 20447651820332439, 21290440305439938, 22123485352761255,
   22947009676802826, 23761228442099892, 24566349600663337, 25362574210781883,
   26150096738402330, 26929105342217998, 27699782143510891, 28462303481715691,
   29216840156602672, 29963557657911590, 30702616383208842, 31434171844685296,
   32158374865561735, 32875371766722390, 33585304544154243, 34288311037730336,
   34984525091838899, 35674076708326523, 36357092192192502, 37033694290442754,
   37704002324485142, 38368132316423352, 39026197109583693, 39678306483587958,
   40324567264265858, 40965083428682260, 41599956205537495, 42229284171183198,
   42853163341481457, 43471687259721369, 44084947080794317, 44693031651817429,
   45296027589383539, 45894019353605652, 46487089319114200, 47075317843156357,
   47658783330938199, 48237562298342602, 48811729432148328, 49381357647868844]

/-- erf coefficients c[j][i] = rne(2^56 * erf^(i)(mu) / i!), mu = (j + 0.5)/16, for j from 0 to 15 (R54). -/
def erfC0 : List (List Int) :=
  [[2540057129816732, 81228924076674282, -2538403877396071, -27023424611445676,
    1268375635352529, 8091172687991796, -422516551593922, -1922697218406434,
    105560333074641, 373124734599344, -21098311026738, -60936897985423],
   [7600378766591802, 80596795574455610, -7555949585105213, -26393351675749461,
    3755838221502494, 7777161569418495, -1244593158111660, -1818367818840698,
    309316529635149, 347127425962737, -61498244505272, -55754404171653],
   [12601784018096446, 79347258077104817, -12398009074547628, -25157626747102894,
    6098109281133290, 7166156194060038, -1999399776742838, -1616968746647799,
    491605650967966, 297340948967351, -96688464827313, -45908960262063],
   [17506515685114307, 77509180823467695, -16955133305133558, -23363770000823921,
    8207123445551302, 6291007698761437, -2647285563515035, -1332403628175891,
    640141301311948, 227960503331537, -123776170031768, -32379711964352],
   [22279035519433576, 75124474031141417, -21128758321258523, -21079849158477832,
    10007273228330453, 5198136509356174, -3155931491973595, -984049912098830,
    745462043438791, 144751660748737, -140668866417346, -16493341089815],
   [26886791951241103, 72246500626299539, -24834734590290466, -18390873531824948,
    11439176251712568, 3944375324937006, -3502406673105717, -595150612447833,
    801661471422746, 54485701131174, -146263486872368, 225625926240],
   [31300875697870559, 68938092490562158, -28006100074290877, -15394378726733607,
    12462349870298056, 2593181764096648, -3674453329300903, -190925182395823,
    806773695115841, -35709395343214, -140525046315624, 16223046522657],
   [35496541670751862, 65269274132082630, -30594972249413733, -12195495882752419,
    13056643430658009, 1210528121577349, -3670916600505263, 203419634811158,
    762786747368124, -119010770730794, -124449273109432, 30080961895956],
   [39453582442818179, 61314808720032110, -32573492132517059, -8901824443077579,
    13222377828531501, -139207955639670, -3501316012130542, 564594503184022,
    675296795145274, -189504802823766, -99917878281357, 40661035523338],
   [43156545905472471, 57151686026489625, -33933813578228215, -5618427467447873,
    12979241847141326, -1397041698461703, -3184633323083808, 872879271704504,
    552853409481464, -242672461026902, -69467695827538, 47209392603966],
   [46594797165193369, 52856668994904087, -34687189027905807, -2443244465259238,
    12364085932798457, -2512599217781823, -2747458503189815, 1113386378343762,
    406076155129365, -275711235078764, -36004216863355, 49412341615903],
   [49762431755258603, 48504005956876898, -34862254281505270, 536828190928976,
    11427828796053323, -3446549236144023, -2221685257788047, 1276845897853860,
    246642165112537, -287669825954836, -2494958538999, 47399289965320],
   [52658053468676986, 44163399992175312, -34502656243886963, 3249000129632689,
    10231744738991218, -4172120269824562, -1641975610130845, 1359874381981483,
    86251451225851, -279394229000888, 28321756952348, 41696078814868],
   [55284435232560899, 39898306986578106, -33664196519925277, 5636674880265266,
    8843426624863183, -4675658949970904, -1043218020284199, 1364742189406823,
    -64328586945673, -253304926776791, 54181399628370, 33137977847759],
   [57648085216704676, 35764611237319360, -32411678933820670, 7660518943410201,
    7332720331707476, -4956266803267020, -458186491635081, 1298701098314326,
    -196054147950751, -213042086543260, 73467948932766, 22755918030657],
   [59758742681332324, 31809703717328158, -30815650476161653, 9298539693411682,
    5767903328057601, -5024624447645825, 84427423736937, 1172970849417056,
    -302170468393966, -163027078218504, 85305690785985, 11651724081406]]

/-- erf coefficients c[j][i] = rne(2^56 * erf^(i)(mu) / i!), mu = (j + 0.5)/16, for j from 16 to 31 (R54). -/
def erfC1 : List (List Int) :=
  [[61628828908979370, 28071965002675790, -28949213909009408, 10545262894885372,
    4212336789494533, -4901167794132106, 561486618701036, 1001506691307041,
    -378519505002819, -107993358968779, 89565986732256, 878018046229],
   [63272878020037663, 24580633863536723, -26885068288243290, 11410151005665158,
    2721763098191297, -4613816657158240, 956317163404596, 799678661949930,
    -423587240570776, -52537841073756, 86797051058578, -8663675932534],
   [64706970710516842, 21356024793125006, -24692903667050788, 11915438312309980,
    1342355114712722, -4195470734247628, 1259042981567881, 582987761267189,
    -438314824362986, -736172319797, 78092875291262, -16296787630492],
   [65948191206409927, 18410044116608023, -22437241267116028, 12093577157329098,
    109556842124590, -3681482107734467, 1466386948367237, 365926475177948,
    -425718997555903, 44146524997900, 64922661875033, -21610248483329],
   [67014124272921979, 15746945210664178, -20175773551163478, 11984491504730745,
    -952307019830307, -3107290103756191, 1581020353767289, 161064597580711,
    -390381079719847, 79832052335096, 48944117428216, -24465181373907],
   [67922405234752307, 13364258824256825, -17958222795095108, 11632821645853759,
    -1829727778276292, -2506367812932621, 1610571323749748, -21590106336630,
    -337869500170341, 105089663088544, 31822841964126, -24971389212542],
   [68690331933973322, 11253834236220201, -15825704394684657, 11085319791276799,
    -2519130680013280, -1908584929875570, 1566417367216048, -174939137452741,
    -274158823892710, 119690575860060, 15076372009173, -23440484802173],
   [69334543626447393, 9402930458363655, -13810554110721618, 10388524080627033,
    -3025554334803271, -1339044052491188, 1462388139979683, -294860724815001,
    -205099714745495, 124276297832349, -43990977942, -20324373872775],
   [69870768206575411, 7795303146208848, -11936557942632299, 9586801851034189,
    -3361042519653951, -817402012022212, 1313493615544058, -380033930128570,
    -135981178739241, 120166859734880, -12626669017942, -16148288514122],
   [70313636013416236, 6412241460167115, -10219509827141340, 8720815371281969,
    -3542896473276539, -357648109670797, 1134772951136355, -431572656994638,
    -71210901865060, 109137433270611, -22127840967885, -11446807891088],
   [70676555914354885, 5233518951944035, -8668015764157307, 7826427755609015,
    -3591921897061280, 31719930120393, 940333794462374, -452531749193896,
    -14123671412768, 93190580293790, -28358504804493, -6709590669449],
   [70971647437468837, 4238232807088773, -7284462637183828, 6934035836076879,
    -3530782834233958, 347202447712783, 742624020126940, -447348687910618,
    33086420737964, 74347292506315, -31438912152461, -2341260544298],
   [71209721433831836, 3405515733045383, -6066074899487089, 6068292032125790,
    -3382547624616336, 589577572901402, 551951015987482, -421279254660630,
    69325700379458, 54473987561587, -31730927025163, 1362568174208],
   [71400301058711109, 2715113864588671, -5005991187835362, 5248159546851409,
    -3169483352975189, 763046108763779, 376240139782311, -379875575721939,
    94476011088122, 35155774069549, -29759426992701, 4223408519127],
   [71551674697374838, 2147831850262013, -4094304464561962, 4487234640293489,
    -2912127361675744, 874326721189708, 221005525690905, -328542109811346,
    109212522273204, 17619550111474, -26133012995236, 6174265622153],
   [71670972737731627, 1685852535404402, -3319022179077416, 3794265764904308,
    -2628639635968540, 931773983853933, 89493892687467, -272191263173351,
    114791874624391, 2704633802203, -21472393937287, 7243564571282]]

/-- erf coefficients c[j][i] = rne(2^56 * erf^(i)(mu) / i!), mu = (j + 0.5)/16, for j from 32 to 47 (R54). -/
def erfC2 : List (List Int) :=
  [[71764260708320839, 1312943274715862, -2666916026766594, 3173801028007808,
    -2334419660148233, 944575665468096, -17044530787828, -215007052779230,
    112835668443987, -9125840076672, -16352301858894, 7532521676342],
   [71836642154637228, 1014563926975622, -2124243222105209, 2626901521863313,
    -2041956456665587, 922068075898435, -99004956193293, -160313838919711,
    105129622815242, -17742341936592, -11260105036762, 7189809575210],
   [71892365623461851, 777893146226263, -1677332096550379, 2151867173382416,
    -1760871097452791, 873191169538307, -158040527118247, -110538406099962,
    93452936777885, -23285953242189, -6571788091486, 6386868361861],
   [71934931178964495, 591789898413830, -1313033837105684, 1744932584580882,
    -1498106640317521, 806089867907535, -196675527388609, -67247922913182,
    79446338109893, -26095473362731, -2543927137047, 5296411702142],
   [71967192915619757, 446706451379810, -1019049092210192, 1400901677276397,
    -1258220444906660, 727855652794408, -217948117337305, -31243495615127,
    64521724093853, -26633805427970, 681144998715, 4075738701246],
   [71991454907450007, 334567673182552, -784142984021606, 1113700854806242,
    -1043737194552196, 644393363450811, -225102396648694, -2688779256276,
    49811684448766, -25420767461679, 3060574178992, 2855539997000],
   [72009558903075115, 248629583043704, -598264934198914, 876840137596189,
    -855526645812444, 560392355315620, -221340929442752, 18745137726268,
    36153827252846, -22977142741699, 4630402877270, 1734094826200],
   [72022962818931492, 183327958263088, -452590896961998, 683779865162260,
    -693177138738998, 479378464956083, -209641291456377, 33734252615103,
    24102774847625, -19782488098509, 5482665747950, 776165131529],
   [72032809689337911, 134125599488153, -339505423704387, 528206869338435,
    -555343344438328, 403823075442276, -192634161387533, 43167426136275,
    13961862016895, -16247213577668, 5743043070691, 15529899494],
   [72039987202930470, 97364743678221, -252539803915386, 404228496377614,
    -440053896601257, 335287368810520, -172536165190427, 48031296510639,
    5826741566831, -12697887863506, 5551164161757, -540042357709],
   [72045178299360582, 70129194071710, -186280671752979, 306495624871998,
    -344970944532129, 274582941103787, -151128060560411, 49318512364886,
    -365990211505, -9373674848881, 5044829689958, -902549363629],
   [72048903532348842, 50119074820192, -136261234667397, 230267129561259,
    -267598967691537, 221933738496169, -129767725794410, 47960349263832,
    -4790680077173, -6431254254675, 4348670959144, -1097240061994],
   [72051556042497120, 35539745813041, -98844918042519, 171428370266157,
    -205444271387202, 177128240838415, -109427500907360, 44782391295214,
    -7689006253019, -3955454164912, 3567155824213, -1156589706850],
   [72053430044013239, 25005334211381, -71108919163615, 126475547843893,
    -156129446535997, 139654581081529, -90746385907267, 40480347815957,
    -9333343152421, -1973024388726, 2781418625962, -1115261321405],
   [72054743731583657, 17456536631400, -50733059585005, 92476457402148,
    -117468832300828, 108814580329068, -74089102746897, 35612182262080,
    -9998239871886, -467394411478, 2049137867785, -1006300355985],
   [72055657473425038, 12091789524204, -35897500149982, 67016539205437,
    -87511841999744, 83815350613065, -59605782844247, 30602440659420,
    -9940081174575, 607217868895, 1406589932490, -858601808016]]

/-- erf coefficients c[j][i] = rne(2^56 * erf^(i)(mu) / i!), mu = (j + 0.5)/16, for j from 48 to 63 (R54). -/
def erfC3 : List (List Int) :=
  [[72056288088286834, 8310557301383, -25191376819816, 48137388222918,
    -64561103418754, 63839121428364, -47287818031575, 25754837300355,
    -9384233777766, 1313439111343, 872035765907, -695537021021],
   [72056719919627192, 5667307688915, -17533233162582, 34273190834853,
    -47171931018469, 48093307384900, -37017041635753, 21269633259008,
    -8518508766103, 1720712754111, 449710541812, -534533357715],
   [72057013328593636, 3834692198933, -12103247252881, 24189018694960,
    -34138879377024, 35843629605004, -28606784146392, 17262991749870,
    -7491554253405, 1897800073594, 133845570816, -387358208931],
   [72057211135691316, 2574490551756, -8286641463464, 16923587956431,
    -24474185546226, 26433437503837, -21834426176165, 13786198476571,
    -6414775977438, 1907697002306, -87675327023, -260858607858],
   [72057343453903839, 1714980431869, -5627279542069, 11738013854319,
    -17381919132386, 19292364704961, -16465845460748, 10843309951604,
    -5366507238800, 1804656815480, -230260303816, -157936274915],
   [72057431276575484, 1133532848851, -3790250463344, 8071255708254,
    -12230713816122, 13937203016588, -12272650511272, 8406382657117,
    -4397356821447, 1632906010386, -310253570633, -78582733190],
   [72057489113198557, 743388991578, -2532168752564, 5502336878421,
    -8527111245206, 9967488008067, -9043355677104, 6427911505261,
    -3535906460391, 1426613069690, -343274560768, -20849598201],
   [72057526905946768, 483732442710, -1677946910650, 3719008083309,
    -5890839007605, 7057836698060, -6589733280103, 4850459066755,
    -2794171769072, 1210695920124, -343178646751, 18322655056],
   [72057551409173740, 312321138821, -1102884021462, 2492265754251,
    -4032778715196, 4948620208939, -4749530713553, 3613694330891,
    -2172457945014, 1002113239734, -321527729782, 42453250915],
   [72057567172481455, 200080432769, -719039055263, 1656004258978,
    -2735952967763, 3436131113466, -3386611271602, 2659197617933,
    -1663420444519, 811359845955, -287445699143, 55051658170],
   [72057577234397402, 127178860944, -464997710325, 1091038965270,
    -1839556371610, 2363039503898, -2389406029613, 1933447488340,
    -1255276267037, 643963844235, -247738335846, 59313787386],
   [72057583607094507, 80210702175, -298283548713, 712757730458,
    -1225856055500, 1609633563419, -1668379989854, 1389407652692,
    -934204929286, 501853974373, -207173017122, 57955650998],
   [72057587611841908, 50194574820, -189798236039, 461718195074,
    -809669883882, 1086110240850, -1153039480369, 987096762220,
    -686035019386, 384524500025, -168834871919, 53151783531],
   [72057590108943654, 31166520243, -119796312186, 296589209895,
    -530075283706, 726013985729, -788852010227, 693468074153,
    -497339761029, 289970031460, -134498504169, 46546472197],
   [72057591653865826, 19201136107, -75004437920, 188923678380,
    -343990080030, 480807396532, -534320609560, 481862014471,
    -356071100030, 215394104851, -104975115521, 39309881934],
   [72057592602254221, 11737419070, -46582881935, 119338068764,
    -221283852892, 315486695837, -358353580596, 331231483751,
    -251853684799, 157714836281, -80412162889, 32216803421]]

/-- All of them. -/
def erfC : List (List Int) := erfC0 ++ erfC1 ++ erfC2 ++ erfC3

end Sys2Proof
end

