-- ==== Sys2Proof/Machine/Ieee.lean ====
section
/-!
DEFINITION. The vector unit's operations on FP32 and BF16 (R31, R49, R51): each forms the exact result, or one with enough
bits to round it, and rounds once.
-/
namespace Sys2Proof

/-- A number as an integer in units of 2^b, for b at most its exponent. -/
def signedAt (neg : Bool) (m : Nat) (e b : Int) : Int :=
  let v : Int := m * 2 ^ (e - b).toNat
  if neg then -v else v

/-- The exact sum. An exact zero is +0 unless both terms are -0. -/
def Num.add : Num → Num → Num
  | .nan, _ => .nan
  | _, .nan => .nan
  | .inf a, .inf b => if a = b then .inf a else .nan
  | .inf a, .fin _ _ _ => .inf a
  | .fin _ _ _, .inf b => .inf b
  | .fin a m e, .fin b n f =>
    let base := min e f
    let v := signedAt a m e base + signedAt b n f base
    if v = 0 then .fin (m = 0 && n = 0 && a && b) 0 0 else .fin (decide (v < 0)) v.natAbs base

/-- The negative. -/
def Num.neg : Num → Num
  | .nan => .nan
  | .inf a => .inf (!a)
  | .fin a m e => .fin (!a) m e

/-- The quotient, to 64 bits below the divisor's weight with a sticky bit below them. -/
def Num.div : Num → Num → Num
  | .nan, _ => .nan
  | _, .nan => .nan
  | .inf _, .inf _ => .nan
  | .inf a, .fin b _ _ => .inf (a != b)
  | .fin a _ _, .inf b => .fin (a != b) 0 0
  | .fin a m e, .fin b n f =>
    if n = 0 then (if m = 0 then .nan else .inf (a != b))
    else
      let k := m * 2 ^ 64
      .fin (a != b) (k / n * 2 + (if k % n = 0 then 0 else 1)) (e - f - 65)

/-- The largest r below 2^(i+1) beyond `r` with r^2 at most n, bit by bit. -/
def sqrtBits (n : Nat) : Nat → Nat → Nat
  | 0, r => r
  | i + 1, r => if (r + 2 ^ i) * (r + 2 ^ i) ≤ n then sqrtBits n i (r + 2 ^ i) else sqrtBits n i r

/-- The integer square root of a number below 2^160. -/
def isqrt (n : Nat) : Nat := sqrtBits n 80 0

/-- The square root, with a sticky bit. -/
def Num.sqrt : Num → Num
  | .nan => .nan
  | .inf a => if a then .nan else .inf false
  | .fin a m e =>
    if m = 0 then .fin a 0 0
    else if a then .nan
    else
      let odd := e % 2 ≠ 0
      let k := (if odd then 2 * m else m) * 2 ^ 80
      let e' := if odd then e - 1 else e
      let r := isqrt k
      .fin false (2 * r + (if r * r = k then 0 else 1)) (e' / 2 - 41)

/-- Comparison of finite numbers and infinities: -1, 0, 1. -/
def Num.cmp : Num → Num → Int
  | .inf a, .inf b => if a = b then 0 else if a then -1 else 1
  | .inf a, _ => if a then -1 else 1
  | _, .inf b => if b then 1 else -1
  | .fin a m e, .fin b n f =>
    let base := min e f
    let d := signedAt a m e base - signedAt b n f base
    if d < 0 then -1 else if d = 0 then 0 else 1
  | _, _ => 0

def Num.isNan : Num → Bool
  | .nan => true
  | _ => false

/-- Conversion to an integer of `w` bits (R51): to nearest even or toward zero, saturating; and whether it saturated. -/
def Num.toInt (w : Nat) (toZero : Bool) : Num → Int × Bool
  | .nan => (0, false)
  | .inf a => ((satI w (if a then -(2 ^ 200) else 2 ^ 200)).1, true)
  | .fin a m e =>
    let r : Nat := if 0 ≤ e then m * 2 ^ e.toNat
      else if toZero then m / 2 ^ (-e).toNat else (rneShift m (-e).toNat).1
    satI w (if a then -(r : Int) else r)

/-! ### VEC formats (R115): 8 INT8, 9 BF16, 10 FP32, 11 INT32 -/

/-- Is a format a floating one? -/
def fmtIsFloat (c : Nat) : Bool := c == 9 || c == 10

/-- The value of an element. -/
def velem (c w : Nat) : Num := decodeElem c w

/-- A number rounded to a floating format. -/
def vput (c : Nat) (n : Num) : Nat := ((fmtFloat c).put false n).1

/-- An integer element. -/
def vint (c w : Nat) : Int := toSigned (fmtWidth c) w

/-- An integer result (R51): INT8 saturates always, INT32 when `sat`; and whether it saturated. -/
def putInt (c : Nat) (sat : Bool) (v : Int) : Nat × Bool :=
  let n := fmtWidth c
  if sat || c == 8 then (ofSigned n (satI n v).1, (satI n v).2) else (ofSigned n v, false)

/-- The order of R76, and of minima and maxima (R49): -Inf < negative < -0 < +0 < positive < +Inf < NaN. -/
def orderKey (c w : Nat) : Int :=
  if fmtIsFloat c then
    if (velem c w).isNan then 2 ^ 40
    else
      let top := fmtWidth c - 1
      let mag : Int := (w % 2 ^ top : Nat)
      if bit w top then -mag - 1 else mag
  else vint c w

/-- An element as a result writes it: every NaN is canonical (R31). -/
def canon (c w : Nat) : Nat := if fmtIsFloat c && (velem c w).isNan then (fmtFloat c).nan else w

/-! ### Element operations: result and whether it saturated -/

def vAdd (c : Nat) (sat : Bool) (a b : Nat) : Nat × Bool :=
  if fmtIsFloat c then (vput c ((velem c a).add (velem c b)), false) else putInt c sat (vint c a + vint c b)

def vSub (c : Nat) (sat : Bool) (a b : Nat) : Nat × Bool :=
  if fmtIsFloat c then (vput c ((velem c a).add (velem c b).neg), false) else putInt c sat (vint c a - vint c b)

def vMul (c : Nat) (sat : Bool) (a b : Nat) : Nat × Bool :=
  if fmtIsFloat c then (vput c ((velem c a).mul (velem c b)), false) else putInt c sat (vint c a * vint c b)

def vFma (c : Nat) (a b d : Nat) : Nat × Bool := (vput c (((velem c a).mul (velem c b)).add (velem c d)), false)

def vDiv (c : Nat) (a b : Nat) : Nat × Bool := (vput c ((velem c a).div (velem c b)), false)

def vSqrt (c : Nat) (a : Nat) : Nat × Bool := (vput c (velem c a).sqrt, false)

/-- Minimum and maximum: NaN if either is NaN. -/
def vMin (c : Nat) (a b : Nat) : Nat × Bool :=
  if fmtIsFloat c && ((velem c a).isNan || (velem c b).isNan) then ((fmtFloat c).nan, false)
  else (if orderKey c a ≤ orderKey c b then a else b, false)
def vMax (c : Nat) (a b : Nat) : Nat × Bool :=
  if fmtIsFloat c && ((velem c a).isNan || (velem c b).isNan) then ((fmtFloat c).nan, false)
  else (if orderKey c b ≤ orderKey c a then a else b, false)

/-- A comparison by its condition code (R117): `un` unordered, `d` the order otherwise. -/
def condHolds (cond : Nat) (un : Bool) (d : Int) : Bool :=
  if un then cond == 1 || cond == 6
  else if cond = 0 then d == 0
  else if cond = 1 then d != 0
  else if cond = 2 then decide (d < 0)
  else if cond = 3 then decide (d ≤ 0)
  else if cond = 4 then decide (0 < d)
  else if cond = 5 then decide (0 ≤ d)
  else false

def vCmp (c cond : Nat) (a b : Nat) : Nat × Bool :=
  let un := fmtIsFloat c && ((velem c a).isNan || (velem c b).isNan)
  let d := if fmtIsFloat c then (velem c a).cmp (velem c b) else vint c a - vint c b
  (if condHolds cond un d then 1 else 0, false)

/-- Conversion between VEC formats (R49, R51). -/
def vConvert (src dst : Nat) (toZero : Bool) (a : Nat) : Nat × Bool :=
  if fmtIsFloat src then
    if fmtIsFloat dst then (vput dst (velem src a), false)
    else
      let r := (velem src a).toInt (fmtWidth dst) toZero
      (ofSigned (fmtWidth dst) r.1, r.2)
  else if fmtIsFloat dst then (vput dst (numOfInt (vint src a) 0), false)
  else putInt dst true (vint src a)

/-! ### Exact sums (R50) -/

/-- The exact sum of elements: A, L, SPEC, whether the cut-off lost bits, and the largest gauge (none for integers). -/
structure ExactSum where
  a : Int
  l : Int
  spec : Nat
  lost : Bool
  gauge : Int
deriving DecidableEq, Repr, Inhabited

/-- Adds one element to a sum in units of 2^l. -/
def sumStep (c : Nat) (l : Int) (acc : Nat × Int × Bool) (w : Nat) : Nat × Int × Bool :=
  match velem c w with
  | .fin neg m e =>
    let k := cutOff neg m e l
    (acc.1, acc.2.1 + k.1, acc.2.2 || k.2)
  | n => (specJoin acc.1 (specOf n), acc.2.1, acc.2.2)

/-- The sum of R50. -/
def exactSum (c : Nat) (ws : List Nat) : ExactSum :=
  if fmtIsFloat c then
    let g := ws.foldl (fun a w => max a (gaugeElem c w)) noGauge
    let l := (if g = noGauge then 0 else g) - 103
    let r := ws.foldl (sumStep c l) (0, 0, false)
    { a := r.2.1, l := l, spec := r.1, lost := r.2.2, gauge := g }
  else { a := ws.foldl (fun t w => t + vint c w) 0, l := 0, spec := 0, lost := false, gauge := 103 }

end Sys2Proof
end

