-- ==== Sys2Proof/Machine/Functions.lean ====
section
/-!
DEFINITION. The bit-exact functions of the vector unit (R52 to R54, R484) and its random streams (R55, R56).
-/
namespace Sys2Proof

/-- mul(a, b, n) = floor(a * b / 2^n). -/
def mulQ (a b : Int) (n : Nat) : Int := a * b / 2 ^ n

/-- The nearest integer to a / b, ties to even. -/
def rneDiv (a b : Nat) : Nat :=
  let q := a / b
  let r := a % b
  if b < 2 * r ∨ (2 * r = b ∧ q % 2 = 1) then q + 1 else q

/-- The one final rounding: Y * 2^l to a floating format (R52). -/
def fnRound (c : Nat) (y l : Int) : Nat := vput c (numOfInt y l)

/-- The value m * 2^e, with sign, in units of 2^-n, cut toward minus infinity. -/
def toQ (neg : Bool) (m : Nat) (e : Int) (n : Nat) : Int := (cutOff neg m e (-(n : Int))).1

/-- Horner's rule over coefficients from the highest down, with mul at 56. -/
def horner (r : Int) : List Int → Int
  | [] => 0
  | c :: cs => cs.foldl (fun p c => c + mulQ p r 56) c

/-! ### exp (R53) -/

/-- c[5] down to c[0]: rne(2^56 / i!). -/
def expC : List Int := [120, 24, 6, 2, 1, 1].map (fun f => (rneDiv (2 ^ 56) f : Int))

/-- exp of X in Q56 before its final rounding: Y in Q62 and n. -/
def expCore (x : Int) : Int × Int :=
  let k := (x * expM + 2 ^ 111) / 2 ^ 112
  let r := x - k * expLN
  let j := k % 64
  let n := (k - j) / 64
  (mulQ (expT.getD j.toNat 0) (horner r expC) 56, n)

def fnExp (c w : Nat) : Nat :=
  match velem c w with
  | .nan => vput c .nan
  | .inf neg => if neg then 0 else vput c (.inf false)
  | .fin neg m e =>
    if (Num.fin neg m e).cmp (.fin false 89 0) = 1 then vput c (.inf false)
    else if (Num.fin neg m e).cmp (.fin true 104 0) = -1 then 0
    else
      let y := expCore (toQ neg m e 56)
      fnRound c y.1 (y.2 - 62)

/-! ### Reciprocal and reciprocal square root (R54) -/

/-- A Newton step of the reciprocal. -/
def recipStep (m y : Int) : Int := mulQ y (2 ^ 61 - mulQ m y 60) 60

/-- The reciprocal core: m in [1, 2) in Q60. -/
def recipCore (m : Int) : Int :=
  let i := (m / 2 ^ 53 % 128).toNat
  let y : Int := rneDiv (2 ^ 68) (257 + 2 * i)
  recipStep m (recipStep m (recipStep m y))

/-- m * 2^e with its significand brought to Q60 in [1, 2): the significand and the exponent. -/
def norm60 (m : Nat) (e : Int) : Int × Int :=
  let k : Int := msb m
  let sh := 60 - k
  ((if 0 ≤ sh then m * 2 ^ sh.toNat else m / 2 ^ (-sh).toNat : Nat), e + k)

def fnRecip (c w : Nat) : Nat :=
  match velem c w with
  | .nan => vput c .nan
  | .inf neg => vput c (.fin neg 0 0)
  | .fin neg m e =>
    if m = 0 then vput c (.inf neg)
    else
      let q := norm60 m e
      let y := recipCore q.1
      fnRound c (if neg then -y else y) (-q.2 - 60)

/-- rne(2^60 / sqrt((i + 0.5)/64)), the nearest integer to sqrt(2^127 / (2i + 1)). -/
def rsqrtSeed (i : Nat) : Nat :=
  let r := isqrt (2 ^ 127 / (2 * i + 1))
  if (2 * r + 1) * (2 * r + 1) * (2 * i + 1) < 2 ^ 129 then r + 1 else r

/-- A Newton step of the reciprocal square root. -/
def rsqrtStep (m y : Int) : Int := mulQ y ((3 * 2 ^ 60 - mulQ m (mulQ y y 60) 60) / 2) 60

def fnRsqrt (c w : Nat) : Nat :=
  match velem c w with
  | .nan => vput c .nan
  | .inf neg => if neg then vput c .nan else 0
  | .fin neg m e =>
    if m = 0 then vput c (.inf neg)
    else if neg then vput c .nan
    else
      let q := norm60 m e
      let odd := q.2 % 2 ≠ 0
      let s := if odd then 2 * q.1 else q.1
      let e' := if odd then q.2 - 1 else q.2
      let y : Int := rsqrtSeed (s / 2 ^ 54).toNat
      fnRound c (rsqrtStep s (rsqrtStep s (rsqrtStep s y))) (-(e' / 2) - 60)

/-! ### log (R54) -/

/-- rne(2^56 * (-1)^(i+1) / i) for i from 9 down to 1, and 0 for the constant term. -/
def logC : List Int :=
  [9, 8, 7, 6, 5, 4, 3, 2, 1].map (fun i => let v : Int := rneDiv (2 ^ 56) i; if i % 2 = 1 then v else -v) ++ [0]

def fnLog (c w : Nat) : Nat :=
  match velem c w with
  | .nan => vput c .nan
  | .inf neg => if neg then vput c .nan else vput c (.inf false)
  | .fin neg m e =>
    if m = 0 then vput c (.inf true)
    else if neg then vput c .nan
    else
      let q := norm60 m e
      let s : Int := q.1 / 2 ^ 4          -- the significand in Q56
      let j : Nat := (s / 2 ^ 50 % 64).toNat
      let r := mulQ (s - (64 + j) * 2 ^ 50) (rneDiv (2 ^ 62) (64 + j)) 56
      fnRound c (q.2 * logLn2 + logT.getD j 0 + horner r logC) (-56)

/-! ### tanh, sigmoid, erf (R54, R484) -/

/-- v = 1 + Y * 2^(n - 62): its significand in Q60 and its exponent. -/
def coreInput (y n : Int) : Int × Int :=
  let l := n - 62
  let v : Int := if l ≤ 0 then 2 ^ (-l).toNat + y else 1 + y * 2 ^ l.toNat
  norm60 v.toNat (min l 0)

/-- Is |x| at least v, or below 2^-12? -/
def magAtLeast (m : Nat) (e : Int) (v : Nat) : Bool := (Num.fin false m e).cmp (.fin false v 0) != -1
def magTiny (m : Nat) (e : Int) : Bool := (Num.fin false m e).cmp (.fin false 1 (-12)) == -1

def fnTanh (c w : Nat) : Nat :=
  match velem c w with
  | .nan => vput c .nan
  | .inf neg => vput c (.fin neg 1 0)
  | .fin neg m e =>
    if magAtLeast m e 10 then vput c (.fin neg 1 0)
    else if magTiny m e then w
    else
      let y := expCore (toQ false m (e + 1) 56)
      let k := coreInput y.1 y.2
      let t := 2 ^ 60 - 2 * (recipCore k.1 / 2 ^ k.2.toNat)
      fnRound c (if neg then -t else t) (-60)

def fnSigmoid (c w : Nat) : Nat :=
  match velem c w with
  | .nan => vput c .nan
  | .inf neg => if neg then 0 else vput c (.fin false 1 0)
  | .fin neg m e =>
    if !neg && magAtLeast m e 18 then vput c (.fin false 1 0)
    else if neg && magAtLeast m e 104 then 0
    else if neg && m != 0 then
      let y := expCore (toQ true m e 56)
      let k := coreInput y.1 y.2
      fnRound c (mulQ y.1 (recipCore k.1) 60) (y.2 - 62 - k.2)
    else
      let y := expCore (toQ true m e 56)
      let k := coreInput y.1 y.2
      fnRound c (recipCore k.1) (-k.2 - 60)

def fnErf (c w : Nat) : Nat :=
  match velem c w with
  | .nan => vput c .nan
  | .inf neg => vput c (.fin neg 1 0)
  | .fin neg m e =>
    if magAtLeast m e 4 then vput c (.fin neg 1 0)
    else if magTiny m e then
      if m = 0 then w else fnRound c ((if neg then -(m : Int) else m) * erfSlope) (e - 56)
    else
      let x := toQ false m e 56
      let j : Nat := (x / 2 ^ 52).toNat
      let d := x - (2 * j + 1) * 2 ^ 51
      let y := horner d (erfC.getD j []).reverse
      fnRound c (if neg then -y else y) (-56)

/-! ### Philox (R55, R56) -/

/-- One round of Philox4x32. -/
def philoxRound (c : Nat × Nat × Nat × Nat) (k0 k1 : Nat) : Nat × Nat × Nat × Nat :=
  let p0 := 0xD2511F53 * c.1
  let p1 := 0xCD9E8D57 * c.2.2.1
  ((p1 / 2 ^ 32) ^^^ c.2.1 ^^^ k0, p1 % 2 ^ 32, (p0 / 2 ^ 32) ^^^ c.2.2.2 ^^^ k1, p0 % 2 ^ 32)

/-- Ten rounds. -/
def philoxRounds : Nat → Nat × Nat × Nat × Nat → Nat → Nat → Nat × Nat × Nat × Nat
  | 0, c, _, _ => c
  | n + 1, c, k0, k1 => philoxRounds n (philoxRound c k0 k1) ((k0 + 0x9E3779B9) % 2 ^ 32) ((k1 + 0xBB67AE85) % 2 ^ 32)

/-- The four words of a counter value. -/
def philox (key ctr : Nat) : List Nat :=
  let r := philoxRounds 10 (bits ctr 31 0, bits ctr 63 32, bits ctr 95 64, bits ctr 127 96) (bits key 31 0) (bits key 63 32)
  [r.1, r.2.1, r.2.2.1, r.2.2.2]

/-- Word `e` of a draw. -/
def philoxWord (key base e : Nat) : Nat := (philox key ((base + e / 4) % 2 ^ 128)).getD (e % 4) 0

/-- A word as a number (R56): raw, uniform [0, 1), uniform (0, 1); a BF16 uniform is rounded once. -/
def uniformOf (form c w : Nat) : Nat :=
  if form = 0 then w % 2 ^ 32
  else if form = 1 then vput c (.fin false (w / 256) (-24))
  else vput c (.fin false (w / 512 * 2 + 1) (-24))

end Sys2Proof
end

