-- ==== Sys2Proof/Machine/Vec.lean ====
section
/-!
DEFINITION. VEC descriptors (R49 to R56, R75, R76, R117): element-wise operations, reductions, functions, random words,
SORT and TOPK.
-/
namespace Sys2Proof.Machine

/-! ### Fields (R117) -/

def vN (d : Desc) : Nat := fld d 87 63 + 1
def vSfmt (d : Desc) : Nat := fld d 62 59
def vDfmt (d : Desc) : Nat := fld d 58 55
def vSat (d : Desc) : Bool := fld d 49 49 == 1

/-- Bytes of an element of a VEC format. -/
def vBytes (c : Nat) : Nat := fmtWidth c / 8

/-- `n` elements at an operand. -/
def State.readElems (s : State) (x y : Nat) (r : Regs) (f c n : Nat) : Except Stop (List Nat) := do
  let b ← s.readSpa x y r f (n * vBytes c)
  .ok (unpack (fmtWidth c) n b)

/-- Source B: a vector, a scalar register taken in the format, or one element broadcast. -/
def State.readB (s : State) (x y : Nat) (r : Regs) (d : Desc) (c n : Nat) : Except Stop (List Nat) :=
  let mode := fld d 54 53
  let sb := fld d 159 136
  if mode = 0 then s.readElems x y r sb c n
  else if mode = 1 then
    if sb % 524288 ≠ 0 then malformed else .ok (List.replicate n (sreg r (sb / 524288) % 2 ^ fmtWidth c))
  else if mode = 2 then do
    let e ← s.readElems x y r sb c 1
    .ok (List.replicate n (e.getD 0 0))
  else malformed

/-! ### Element-wise operations -/

/-- What an element-wise operation reads and writes. `bc` is the format of sources B and C. -/
structure Lanes where
  sfmts : List Nat
  dfmts : Nat → List Nat              -- destination formats by source format
  useB : Bool := false
  useC : Bool := false
  inDst : Bool := false               -- sources B and C are in DFMT

/-- The results of an element-wise operation, with how many saturated. -/
def lanesOut (f : Nat → Nat → Nat → Nat × Bool) (as bs cs : List Nat) : List (Nat × Bool) :=
  ((as.zip bs).zip cs).map (fun e => f e.1.1 e.1.2 e.2)

/-- An element-wise operation over its lanes. -/
def lanesEffect (l : Lanes) (f : Desc → Nat → Nat → Nat → Nat × Bool) : Effect := fun x y r d s =>
  let n := vN d
  let c := vSfmt d
  let t := vDfmt d
  let bc := if l.inDst then t else c
  if !l.sfmts.contains c ∨ !(l.dfmts c).contains t then malformed
  else do
    let as ← s.readElems x y r (fld d 183 160) c n
    let bs ← if l.useB then s.readB x y r d bc n else .ok as
    let cs ← if l.useC then s.readElems x y r (fld d 135 112) bc n else .ok as
    let out := lanesOut (f d) as bs cs
    let s ← s.writeSpa x y r (fld d 111 88) (pack (fmtWidth t) (out.map (·.1)))
    .ok (s.countRow (clamps := (out.filter (·.2)).length))

/-- The formats of the vector unit, its floating ones, its integer ones. -/
def vAll : List Nat := [8, 9, 10, 11]
def vFloats : List Nat := [9, 10]
def vInts : List Nat := [8, 11]

def binary (fs : List Nat) : Lanes := { sfmts := fs, dfmts := fun c => [c], useB := true }
def unary (fs : List Nat) : Lanes := { sfmts := fs, dfmts := fun c => [c] }

def vecAddEffect : Effect := lanesEffect (binary vAll) (fun d a b _ => vAdd (vSfmt d) (vSat d) a b)
def vecSubEffect : Effect := lanesEffect (binary vAll) (fun d a b _ => vSub (vSfmt d) (vSat d) a b)
def vecMulEffect : Effect := lanesEffect (binary vAll) (fun d a b _ => vMul (vSfmt d) (vSat d) a b)
def vecFmaEffect : Effect := lanesEffect { binary vFloats with useC := true } (fun d a b c => vFma (vSfmt d) a b c)
def vecDivEffect : Effect := lanesEffect (binary vFloats) (fun d a b _ => vDiv (vSfmt d) a b)
def vecSqrtEffect : Effect := lanesEffect (unary vFloats) (fun d a _ _ => vSqrt (vSfmt d) a)
def vecMinEffect : Effect := lanesEffect (binary vAll) (fun d a b _ => vMin (vSfmt d) a b)
def vecMaxEffect : Effect := lanesEffect (binary vAll) (fun d a b _ => vMax (vSfmt d) a b)

/-- CMP: 1 or 0 in INT8. Condition 0b111 is reserved. -/
def vecCmpEffect : Effect := fun x y r d s =>
  if fld d 52 50 = 7 then malformed
  else lanesEffect { sfmts := vAll, dfmts := fun _ => [8], useB := true }
    (fun d a b _ => vCmp (vSfmt d) (fld d 52 50) a b) x y r d s

/-- SELECT: B where the INT8 mask is nonzero, else C, both in DFMT. -/
def vecSelectEffect : Effect :=
  lanesEffect { sfmts := [8], dfmts := fun _ => vAll, useB := true, useC := true, inDst := true }
    (fun _ a b c => (if a ≠ 0 then b else c, false))

def vecAndEffect : Effect := lanesEffect (binary vInts) (fun _ a b _ => (a &&& b, false))
def vecOrEffect : Effect := lanesEffect (binary vInts) (fun _ a b _ => (a ||| b, false))
def vecXorEffect : Effect := lanesEffect (binary vInts) (fun _ a b _ => (a ^^^ b, false))

/-- CONVERT. -/
def vecConvertEffect : Effect :=
  lanesEffect { sfmts := vAll, dfmts := fun _ => vAll }
    (fun d a _ _ => vConvert (vSfmt d) (vDfmt d) (fld d 48 48 == 1) a)

/-! ### Functions -/

/-- A function over FP32 or BF16 elements. -/
def fnEffect (f : Nat → Nat → Nat) : Effect := lanesEffect (unary vFloats) (fun d a _ _ => (f (vSfmt d) a, false))

def vecExpEffect : Effect := fnEffect fnExp
def vecLogEffect : Effect := fnEffect fnLog
def vecRecipEffect : Effect := fnEffect fnRecip
def vecRsqrtEffect : Effect := fnEffect fnRsqrt
def vecTanhEffect : Effect := fnEffect fnTanh
def vecSigmoidEffect : Effect := fnEffect fnSigmoid
def vecErfEffect : Effect := fnEffect fnErf

/-! ### Reductions (R50) -/

/-- The exact form of a SUM: one tile whose element (0, 0) holds A. -/
def sumTile (e : ExactSum) (n : Nat) : Bytes :=
  let rest : List Int := List.replicate 31 noGauge
  accBytes e.a ++ zeros (16 * 1023)
    ++ trailer (e.gauge :: rest) (0 :: rest) n 0 0 (e.spec != 0) e.lost
    ++ (if e.spec = 0 then [] else le 256 e.spec)

/-- SUM's result in its destination format, with OVERFLOW and saturation. -/
def sumResult (c : Nat) (sat : Bool) (e : ExactSum) : Nat × Bool × Bool :=
  if fmtIsFloat c then
    let p := (fmtFloat c).put false (accNum e.a e.spec e.l)
    (p.1, p.2.1, false)
  else ((putInt c sat e.a).1, false, (putInt c sat e.a).2)

/-- SUM. A result that is an infinity counts as one OVERFLOW tile, a cut-off that loses bits as one INEXACT tile. -/
def vecSumEffect : Effect := fun x y r d s =>
  let n := vN d
  let c := vSfmt d
  let t := vDfmt d
  if !vAll.contains c ∨ (t ≠ c ∧ t ≠ 12) ∨ 2 ^ 24 < n then malformed
  else do
    let es ← s.readElems x y r (fld d 183 160) c n
    let e := exactSum c es
    if t = 12 then do
      let s ← s.writeSpa x y r (fld d 111 88) (sumTile e n)
      .ok (s.countRow (inexact := if e.lost then 1 else 0))
    else do
      let o := sumResult c (vSat d) e
      let s ← s.writeSpa x y r (fld d 111 88) (pack (fmtWidth t) [o.1])
      .ok (s.countRow (inexact := if e.lost then 1 else 0) (overflow := if o.2.1 then 1 else 0)
        (clamps := if o.2.2 then 1 else 0))

/-- The position of the extreme of a list of keys: the lowest index among equals. -/
def extreme (better : Int → Int → Bool) : List Int → Nat × Int → Nat → Nat × Int
  | [], best, _ => best
  | k :: ks, best, i => extreme better ks (if better k best.2 then (i, k) else best) (i + 1)

/-- The index of the maximum or minimum; any NaN wins (R50). -/
def argOf (max? : Bool) (c : Nat) (es : List Nat) : Nat :=
  let nan (w : Nat) : Bool := fmtIsFloat c && (velem c w).isNan
  match es.findIdx? nan with
  | some i => i
  | none =>
    match es.map (orderKey c) with
    | [] => 0
    | k :: ks => (extreme (fun a b => if max? then decide (b < a) else decide (a < b)) ks (0, k) 1).1

/-- A reduction to one element: its value, or its index as INT32. -/
def reduceEffect (max? index : Bool) : Effect := fun x y r d s =>
  let c := vSfmt d
  let t := vDfmt d
  if !vAll.contains c ∨ t ≠ (if index then 11 else c) ∨ 2 ^ 24 < vN d then malformed
  else do
    let es ← s.readElems x y r (fld d 183 160) c (vN d)
    let i := argOf max? c es
    s.writeSpa x y r (fld d 111 88) (pack (fmtWidth t) [if index then i else canon c (es.getD i 0)])

def vecRmaxEffect : Effect := reduceEffect true false
def vecRminEffect : Effect := reduceEffect false false
def vecArgmaxEffect : Effect := reduceEffect true true
def vecArgminEffect : Effect := reduceEffect false true

/-! ### PHILOX (R55, R56) -/

/-- PHILOX: key s[SA.REG], counter low s[SB.REG], high s[SC.REG]. -/
def vecPhiloxEffect : Effect := fun x y r d s =>
  let t := vDfmt d
  let form := fld d 34 33
  if vSfmt d ≠ 0 ∨ form = 3 ∨ (form = 0 ∧ t ≠ 11) ∨ (form ≠ 0 ∧ t ≠ 9 ∧ t ≠ 10) then malformed
  else
    let key := sreg r (fld d 183 160 / 524288)
    let base := sreg r (fld d 159 136 / 524288) + sreg r (fld d 135 112 / 524288) * 2 ^ 64
    s.writeSpa x y r (fld d 111 88) (pack (fmtWidth t)
      ((List.range (vN d)).map (fun e => uniformOf form t (philoxWord key base e))))

/-! ### SORT and TOPK (R76) -/

/-- Inserts an index before the first whose key comes later; equal keys keep their order. -/
def insertBy (before : Nat → Nat → Bool) (i : Nat) : List Nat → List Nat
  | [] => [i]
  | j :: js => if before i j then i :: j :: js else j :: insertBy before i js

/-- The indices of a list of keys in order: stable, ascending or descending. -/
def sortedIdx (c : Nat) (desc : Bool) (keys : List Nat) : List Nat :=
  let k (i : Nat) : Int := orderKey c (keys.getD i 0)
  (List.range keys.length).foldl (fun acc i =>
    insertBy (fun a b => if desc then decide (k b < k a) else decide (k a < k b)) i acc) []

/-- Writes keys, and INT32 words from the next 64-byte boundary on. -/
def State.writeKeys (s : State) (x y : Nat) (r : Regs) (d : Desc) (keys words : List Nat) : Except Stop State := do
  let off ← spa r (fld d 111 88)
  let b := pack (fmtWidth (vSfmt d)) keys
  let s ← s.writeCell x y off b
  if words.isEmpty then .ok s
  else s.writeCell x y (off + pastLine off b.length) (pack 32 words)

/-- SORT. -/
def vecSortEffect : Effect := fun x y r d s =>
  let c := vSfmt d
  if !([9, 10, 11].contains c) ∨ vDfmt d ≠ c ∨ 65536 < vN d then malformed
  else do
    let ks ← s.readElems x y r (fld d 183 160) c (vN d)
    let vals ← if fld d 46 46 = 1 then s.readElems x y r (fld d 159 136) 11 (vN d) else .ok []
    let o := sortedIdx c (fld d 47 47 == 1) ks
    s.writeKeys x y r d (o.map (fun i => ks.getD i 0)) (if fld d 46 46 = 1 then o.map (fun i => vals.getD i 0) else [])

/-- TOPK: k above 1,024 or above the element count is clamped to the smaller, one clamp counted. -/
def vecTopkEffect : Effect := fun x y r d s =>
  let c := vSfmt d
  let n := vN d
  let k := fld d 45 35 + 1
  let k' := min k (min 1024 n)
  if !([9, 10, 11].contains c) ∨ vDfmt d ≠ c ∨ 2 ^ 24 < n then malformed
  else do
    let ks ← s.readElems x y r (fld d 183 160) c n
    let o := (sortedIdx c (fld d 47 47 == 1) ks).take k'
    let s ← s.writeKeys x y r d (o.map (fun i => ks.getD i 0)) o
    .ok (s.countRow (clamps := if k' = k then 0 else 1))

/-! ### Commands -/

def execVecAdd (x y : Nat) (d : Desc) (s : State) : Result := s.cellOp x y d vecAddEffect
def execVecSub (x y : Nat) (d : Desc) (s : State) : Result := s.cellOp x y d vecSubEffect
def execVecMul (x y : Nat) (d : Desc) (s : State) : Result := s.cellOp x y d vecMulEffect
def execVecFma (x y : Nat) (d : Desc) (s : State) : Result := s.cellOp x y d vecFmaEffect
def execVecDiv (x y : Nat) (d : Desc) (s : State) : Result := s.cellOp x y d vecDivEffect
def execVecSqrt (x y : Nat) (d : Desc) (s : State) : Result := s.cellOp x y d vecSqrtEffect
def execVecMin (x y : Nat) (d : Desc) (s : State) : Result := s.cellOp x y d vecMinEffect
def execVecMax (x y : Nat) (d : Desc) (s : State) : Result := s.cellOp x y d vecMaxEffect
def execVecCmp (x y : Nat) (d : Desc) (s : State) : Result := s.cellOp x y d vecCmpEffect
def execVecSelect (x y : Nat) (d : Desc) (s : State) : Result := s.cellOp x y d vecSelectEffect
def execVecAnd (x y : Nat) (d : Desc) (s : State) : Result := s.cellOp x y d vecAndEffect
def execVecOr (x y : Nat) (d : Desc) (s : State) : Result := s.cellOp x y d vecOrEffect
def execVecXor (x y : Nat) (d : Desc) (s : State) : Result := s.cellOp x y d vecXorEffect
def execVecConvert (x y : Nat) (d : Desc) (s : State) : Result := s.cellOp x y d vecConvertEffect
def execVecSum (x y : Nat) (d : Desc) (s : State) : Result := s.cellOp x y d vecSumEffect
def execVecRmax (x y : Nat) (d : Desc) (s : State) : Result := s.cellOp x y d vecRmaxEffect
def execVecRmin (x y : Nat) (d : Desc) (s : State) : Result := s.cellOp x y d vecRminEffect
def execVecArgmax (x y : Nat) (d : Desc) (s : State) : Result := s.cellOp x y d vecArgmaxEffect
def execVecArgmin (x y : Nat) (d : Desc) (s : State) : Result := s.cellOp x y d vecArgminEffect
def execVecExp (x y : Nat) (d : Desc) (s : State) : Result := s.cellOp x y d vecExpEffect
def execVecLog (x y : Nat) (d : Desc) (s : State) : Result := s.cellOp x y d vecLogEffect
def execVecRecip (x y : Nat) (d : Desc) (s : State) : Result := s.cellOp x y d vecRecipEffect
def execVecRsqrt (x y : Nat) (d : Desc) (s : State) : Result := s.cellOp x y d vecRsqrtEffect
def execVecTanh (x y : Nat) (d : Desc) (s : State) : Result := s.cellOp x y d vecTanhEffect
def execVecSigmoid (x y : Nat) (d : Desc) (s : State) : Result := s.cellOp x y d vecSigmoidEffect
def execVecErf (x y : Nat) (d : Desc) (s : State) : Result := s.cellOp x y d vecErfEffect
def execVecPhilox (x y : Nat) (d : Desc) (s : State) : Result := s.cellOp x y d vecPhiloxEffect
def execVecSort (x y : Nat) (d : Desc) (s : State) : Result := s.cellOp x y d vecSortEffect
def execVecTopk (x y : Nat) (d : Desc) (s : State) : Result := s.cellOp x y d vecTopkEffect

end Sys2Proof.Machine
end

