-- ==== Sys2Proof/Machine/Sample.lean ====
section
/-!
DEFINITION. SMP SAMPLE and the clamps of a sampler record (R227, R237, R238), and HNT HEAVY (R122, R308).
-/
namespace Sys2Proof.Machine

/-! ### Clamps of the sampling fields (R227) -/

/-- Is an FP32 word below, or above, another? A NaN is neither. -/
def f32lt (a b : Nat) : Bool := (fp32.decode a).cmp (fp32.decode b) == -1 && !(fp32.decode a).isNan && !(fp32.decode b).isNan

/-- TEMP: NaN and negative values become +0, values above 65,536 become 65,536; -0 is kept. -/
def clampTemp (w : Nat) : Nat :=
  if (fp32.decode w).isNan || f32lt w 0 then 0 else if f32lt 0x47800000 w then 0x47800000 else w

/-- TOPK: 0 and values above min(1,024, n) become that. -/
def clampTopk (n k : Nat) : Nat := if k = 0 ∨ min 1024 n < k then min 1024 n else k

/-- TOPP: NaN and values above 1 become 1, values below 2^-24 become 2^-24. -/
def clampTopp (w : Nat) : Nat :=
  if (fp32.decode w).isNan || f32lt 0x3F800000 w then 0x3F800000 else if f32lt w 0x33800000 then 0x33800000 else w

/-! ### SMP (R237, R238) -/

/-- A logit as FP32, a NaN as minus infinity. -/
def logit (c w : Nat) : Nat :=
  if (velem c w).isNan then 0xFF800000 else if c = 9 then w * 65536 else w

/-- C[0] .. C[k]: the prefix sums of a list. -/
def prefixSums (l : List Nat) : List Nat :=
  (l.foldl (fun acc v => (acc.1 + v, (acc.1 + v) :: acc.2)) (0, [0])).2.reverse

/-- Is c at least p times t, exactly? -/
def atLeastShare (c t p : Nat) : Bool :=
  match fp32.decode p with
  | .fin false m e => decide (m * t * 2 ^ (e + 200).toNat ≤ c * 2 ^ 200)
  | _ => false

/-- The candidate that a word draws among those of keys `key` (FP32, best first), given the clamped TEMP and TOPP. -/
def drawIndex (key : List Nat) (temp topp word : Nat) : Nat :=
  let e := key.map (fun z => fnExp 10 (vDiv 10 (vSub 10 false z (key.getD 0 0)).1 temp).1)
  let l := (e.foldl (fun a v => max a (gaugeElem 10 v)) noGauge) - 103
  let ints := e.map (fun v => match fp32.decode v with
    | .fin neg m q => (cutOff neg m q l).1.toNat
    | _ => 0)
  let c := prefixSums ints
  let total := c.getD key.length 0
  let n := ((List.range key.length).find? (fun j => atLeastShare (c.getD (j + 1) 0) total topp)).getD (key.length - 1) + 1
  let r := word / 256 * c.getD n 0 / 2 ^ 24
  ((List.range n).find? (fun j => decide (r < c.getD (j + 1) 0))).getD 0

/-- One session's token with the clamps and NaN logits counted. -/
def sampleToken (c : Nat) (raw : List Nat) (rec' : Bytes) : Nat × Nat :=
  let z := raw.map (logit c)
  let nans := (raw.filter (fun w => (velem c w).isNan)).length
  let topk0 := uAt rec' 16 4
  let temp0 := uAt rec' 20 4
  let topp0 := uAt rec' 24 4
  let k := clampTopk raw.length topk0
  let temp := clampTemp temp0
  let topp := clampTopp topp0
  let clamps := nans + (if k = topk0 then 0 else 1) + (if temp = temp0 then 0 else 1) + (if topp = topp0 then 0 else 1)
  let idx := (sortedIdx 10 true z).take k
  let key := idx.map (fun i => z.getD i 0)
  let first := key.getD 0 0
  let word := (philox (uAt rec' 0 8) (uAt rec' 8 4 + uAt rec' 12 4 * 2 ^ 32)).getD 0 0
  if temp % 2 ^ 31 = 0 ∨ k = 1 ∨ first = 0x7F800000 ∨ first = 0xFF800000 then (idx.getD 0 0, clamps)
  else (idx.getD (drawIndex key temp topp word) 0, clamps)

/-- Samples session `i` and writes its token. -/
def State.sampleOne (s : State) (x y l p t c v i : Nat) : Except Stop State := do
  let b ← s.readCell x y (l + 64 * i * cdiv (v * vBytes c) 64) (v * vBytes c)
  let r ← s.readCell x y (p + 32 * i) 32
  let o := sampleToken c (unpack (fmtWidth c) v b) r
  let s ← s.writeCell x y (t + 4 * i) (le 4 o.1)
  .ok (s.countRow (clamps := o.2))

/-- Samples `n` sessions from session `i` on, one after another. -/
def State.sampleAll (x y l p t c v : Nat) : Nat → Nat → State → Except Stop State
  | 0, _, s => .ok s
  | n + 1, i, s =>
    match s.sampleOne x y l p t c v i with
    | .error e => .error e
    | .ok s => State.sampleAll x y l p t c v n (i + 1) s

/-- SMP SAMPLE. -/
def smpSampleEffect : Effect := fun x y r d s =>
  let c := fld d 78 75
  if !vFloats.contains c then malformed
  else do
    let l ← spa r (fld d 183 160)
    let p ← spa r (fld d 159 136)
    let t ← spa r (fld d 135 112)
    State.sampleAll x y l p t c (fld d 111 92 + 1) (fld d 91 79 + 1) 0 s

/-! ### HNT (R122, R308) -/

/-- A hint for row `row`: it counts while that row's plan is not fixed, else in HNTLATE; in PHASE mode it has no effect (R306). -/
def State.addHint (s : State) (h : HintRec) : State :=
  if s.nat 0x2500 0x0F = 1 then s
  else if h.row ≤ s.power.planFixed then s.addOb 0x2500 0x14 1
  else { s with power := { s.power with hints := s.power.hints ++ [h] } }

/-- HNT HEAVY: LEAD and LEVEL are clamped, each clamp counted. -/
def hntHeavyEffect : Effect := fun x y _ d s =>
  let lead := fld d 183 178
  let level := fld d 177 171
  let lead' := clampN 1 32 lead
  let level' := min level 64
  let s := s.countRow (clamps := (if lead' = lead then 0 else 1) + (if level' = level then 0 else 1))
  .ok (s.addHint { row := s.row.num + lead', cell := some (x, y), level := level', dur := fld d 170 146, given := some s.row.num })

/-! ### Commands -/

def execHntHeavy (x y : Nat) (d : Desc) (s : State) : Result := s.cellOp x y d hntHeavyEffect
def execSmpSample (x y : Nat) (d : Desc) (s : State) : Result := s.cellOp x y d smpSampleEffect

end Sys2Proof.Machine
end

