-- ==== Sys2Proof/Machine/HostReads.lean ====
section
/-!
DEFINITION. The immediate commands HINT, FENCE, READ_RECEIPT and READ_SIGNATURES (R308, R362, R385 to R387, R390).
-/
namespace Sys2Proof.Machine

/-- A field held against its range: applied value and, when it differs, the clamp (byte offset, requested, applied). -/
def clampField (off lo hi v : Nat) : Nat × List (Nat × Nat × Nat) :=
  (clampN lo hi v, if clampN lo hi v = v then [] else [(off, v, clampN lo hi v)])

/-! ### HINT (R385) -/

/-- Carries out HINT: a hint for every cell. -/
def State.hintCommand (s : State) (f : Fetched) : State :=
  let c := f.cmd
  s.judged f (need (headerOk 0x20 [(16, 2), (20, 4)] c) stMalformed) (fun _ =>
    let lead := clampField 16 1 32 (uAt c 16 1)
    let level := clampField 17 0 64 (uAt c 17 1)
    let dur := clampField 20 0 0x1FFFFFF (uAt c 20 4)
    let s := s.addHint { row := s.row.num + lead.1, cell := none, level := level.1, dur := dur.1 }
    s.finish f 0 (lead.2 ++ level.2 ++ dur.2))

def execHint (q : Nat) (c : Bytes) (s : State) : Result := s.hostCmd q c (fun f s => s.hintCommand f)

/-! ### FENCE (R386) -/

/-- Carries out FENCE: it completes at once, or waits until what was fetched before it has completed. -/
def State.fenceCommand (s : State) (f : Fetched) : State :=
  s.judged f (need (headerOk 0x21 [(16, 8)] f.cmd) stMalformed) (fun _ =>
    if s.fenceClear f then s.finish f 0 else s.setFetched { f with wait := true })

def execFence (q : Nat) (c : Bytes) (s : State) : Result := s.hostCmd q c (fun f s => s.fenceCommand f)

/-! ### READ_RECEIPT (R387) -/

/-- Does a READ_RECEIPT ask for a new bundle? -/
def wantsNew (c : Bytes) : Bool := bit (uAt c 28 1) 0

/-- The sequence number of the oldest bundle held. -/
def Flash.oldestBundle (f : Flash) : Nat := f.bundleSeq + 1 - f.bundles.length

/-- The first bundle that a READ_RECEIPT reads, and the clamp of SEQ. -/
def Flash.firstBundle (f : Flash) (seq : Nat) : Nat × List (Nat × Nat × Nat) :=
  if seq = 0 ∨ f.bundles.isEmpty then (f.bundleSeq, []) else clampField 16 f.oldestBundle f.bundleSeq seq

/-- The bundles from SEQ on, COUNT of them at most. -/
def Flash.bundlesFrom (f : Flash) (seq count : Nat) : Bytes := ((f.bundles.drop (seq - f.oldestBundle)).take count).flatten

/-- The bundles go to DEST, and the command ends. -/
def State.giveReceipts (s : State) (f : Fetched) : State :=
  let c := f.cmd
  let seq := s.flash.firstBundle (uAt c 16 8)
  let count := clampField 24 1 1024 (uAt c 24 4)
  let data := s.flash.bundlesFrom seq.1 count.1
  s.finish f (data.length / 1024) (seq.2 ++ count.2) [(uAt c 32 8, data)]

/-- Carries out READ_RECEIPT; with NEW it waits for the bundle that the next commit signs (R219). -/
def State.readReceiptCommand (s : State) (f : Fetched) : State :=
  let c := f.cmd
  s.judged f (do
    need (headerOk 0x30 [(16, 13), (32, 8)] c && decide (uAt c 28 1 < 2) && addrsOk c [32]) stMalformed
    need (addrOf (uAt c 32 8) % 64 == 0) stMisaligned
    need (destOk (uAt c 32 8) (1024 * clampN 1 1024 (uAt c 24 4))) stAddress) (fun _ =>
    if wantsNew c then
      let s := s.setFetched { f with wait := true }
      { s with row := { s.row with forceNew := true } }
    else s.giveReceipts f)

def execReadReceipt (q : Nat) (c : Bytes) (s : State) : Result := s.hostCmd q c (fun f s => s.readReceiptCommand f)

/-- After a commit that signed a bundle: the READ_RECEIPT commands that waited for it take effect. -/
def State.giveNewReceipts (s : State) : State :=
  if s.row.forceNew || s.row.sinceBundle != 0 then s
  else (s.host.fetched.filter (fun f => f.wait && cmdOpcode f.cmd == 0x30)).foldl State.giveReceipts s

/-! ### READ_SIGNATURES (R362, R387) -/

/-- OLDEST of the signatures. -/
def Flash.oldestSig (f : Flash) : Nat := f.sigSeq + 1 - f.sigs.length

/-- The whole signatures from the list that fit in `n` bytes. -/
def sigsThatFit : List Signature → Nat → List Signature
  | [], _ => []
  | e :: r, n => if n < e.bytes.length then [] else e :: sigsThatFit r (n - e.bytes.length)

/-- The signatures from SEQ on that fit in `n` bytes. -/
def Flash.sigsFrom (f : Flash) (seq n : Nat) : List Signature := sigsThatFit (f.sigs.drop (seq - f.oldestSig)) n

/-- Carries out READ_SIGNATURES. -/
def State.readSignaturesCommand (s : State) (f : Fetched) : State :=
  let c := f.cmd
  s.judged f (do
    need (headerOk 0x31 [(16, 12), (32, 8)] c && addrsOk c [32]) stMalformed
    need (addrOf (uAt c 32 8) % 64 == 0) stMisaligned
    need (destOk (uAt c 32 8) (max 512 (uAt c 24 4))) stAddress) (fun _ =>
    let seq := clampField 16 s.flash.oldestSig (s.flash.sigSeq + 1) (uAt c 16 8)
    let n := clampField 24 512 0xFFFFFFFF (uAt c 24 4)
    let es := s.flash.sigsFrom seq.1 n.1
    let data := es.flatMap (·.bytes)
    s.finish f (data.length + (seq.1 + es.length) % 2 ^ 32 * 2 ^ 32) (seq.2 ++ n.2) [(uAt c 32 8, data)])

def execReadSignatures (q : Nat) (c : Bytes) (s : State) : Result := s.hostCmd q c (fun f s => s.readSignaturesCommand f)

end Sys2Proof.Machine
end

