-- ==== Sys2Proof/Machine/Mat.lean ====
section
/-!
DEFINITION. MAT descriptors but for transform drains: WLOAD, STREAM, natural-order DRAIN, GAUGE and GCOMBINE (R30 to R44,
R61 to R68, R116, R162, R485).
-/
namespace Sys2Proof.Machine

/-! ### Pairs and tiles (R32, R61) -/

/-- Is a format one of MXFP6 and MXFP4, which pair at double rate? -/
def halfFmt (c : Nat) : Bool := c == 4 || c == 5 || c == 6

/-- The tile K of a pair; none for a pair that Table: Permitted operand pairs does not hold. -/
def pairTileK (a w : Nat) : Option Nat :=
  if halfFmt a && halfFmt w then some 64
  else if (a < 8 && w < 8) || (a == 8 && w == 8) || (a == 9 && w == 9) then some 32
  else none

/-- An operand's value: its element, and its block's scale in an MX format. -/
def operand (c w : Nat) (scale : Option Nat) : Num :=
  match scale with
  | some v => (decodeElem c w).scale v
  | none => decodeElem c w

/-- The scale of block `b` in a list, none when the format has no scales. -/
def scaleAt (c : Nat) (scales : List Nat) (i : Nat) : Option Nat := if fmtMx c then some (scales.getD i 0) else none

/-- Bytes as numbers. -/
def byteVals (b : Bytes) : List Nat := b.map (·.toNat)

/-! ### WLOAD -/

/-- Reads a weight tile (R485): what lies at or beyond the valid K and N is not read. -/
def State.loadWeights (s : State) (x y : Nat) (r : Regs) (d : Desc) : Except Stop WTile :=
  let fmt := fld d 135 132
  let vk := fld d 131 126 + 1
  let vn := fld d 125 121 + 1
  let n := (vk - 1) * 32 + vn
  if 10 ≤ fmt then malformed
  else do
    let w ← s.readSpa x y r (fld d 183 160) (cdiv (n * fmtWidth fmt) 8)
    let sc ← if fmtMx fmt then s.readSpa x y r (fld d 159 136) ((cdiv vk 32 - 1) * 32 + vn) else .ok []
    .ok { fmt := fmt, vk := vk, vn := vn, codes := unpack (fmtWidth fmt) n w, scales := byteVals sc, load := d, regs := r }

/-- WLOAD writes the shadow weight register (R62). -/
def matWloadEffect : Effect := fun x y r d s => do
  let w ← s.loadWeights x y r d
  .ok (s.setCell x y { s.cell x y with shadow := some w })

/-! ### STREAM -/

/-- A stream's fields and operands (R63, R66, R116): effective valid K and N, gauges, activation elements by row. -/
structure StreamOp where
  afmt : Nat
  m : Nat
  base : Nat
  zero : Bool
  ktotal : Nat
  kk : Nat
  nn : Nat
  rowG : List Int
  colG : List Int
  acts : List (List Num)              -- row by row, `kk` elements
  wcols : List (List Num)             -- column by column, `kk` elements
  trace : Trace                       -- what the stream leaves in the trace of a tile (R214)
deriving DecidableEq, Repr, Inhabited

/-- Reads a gauge vector of `n` gauges: its header's KTOTAL and the gauges (R67). -/
def State.readGauges (s : State) (x y : Nat) (r : Regs) (f n : Nat) : Except Stop (Nat × List Int) := do
  let b ← s.readSpa x y r f (64 + 2 * n)
  .ok (uAt b 0 4, (List.range n).map (fun i => toSigned 16 (uAt b (64 + 2 * i) 2)))

/-- The columns of a weight tile as numbers. -/
def WTile.columns (w : WTile) (kk nn : Nat) : List (List Num) :=
  (List.range nn).map (fun n => (List.range kk).map (fun k =>
    operand w.fmt (w.codes.getD (k * 32 + n) 0) (scaleAt w.fmt w.scales (k / 32 * 32 + n))))

/-- The operand checksums of a stream (R187): by K index over the activation rows, by K row over the weight columns, and the sums of the
scale bytes. -/
def streamSums (m tk kk nn : Nat) (codes scales : List Nat) (w : WTile) : List Nat :=
  (List.range kk).map (fun k => (List.range m).foldl (fun t i => t + codes.getD (i * tk + k) 0) 0 % 2 ^ 32)
    ++ (List.range kk).map (fun k => (List.range nn).foldl (fun t n => t + w.codes.getD (k * 32 + n) 0) 0 % 2 ^ 32)
    ++ [scales.sum % 2 ^ 32, w.scales.sum % 2 ^ 32]

/-- A stream from its descriptor, the weights, and what it reads: activation bytes, activation scales, gauges of the rows and columns. -/
def streamOf (d : Desc) (r : Regs) (w : WTile) (tk : Nat) (a : Bytes) (scales : List Nat) (rowG colG : List Int) : StreamOp :=
  let afmt := fld d 87 84
  let m := fld d 83 73 + 1
  let kk := min (fld d 37 32 + 1) w.vk
  let nn := min (fld d 31 27 + 1) w.vn
  let codes := unpack (fmtWidth afmt) ((m - 1) * tk + kk) a
  { afmt := afmt, m := m, base := fld d 72 64, zero := fld d 63 63 = 1, ktotal := fld d 62 38, kk := kk, nn := nn,
    rowG := rowG, colG := colG,
    acts := (List.range m).map (fun i => (List.range kk).map (fun k =>
      operand afmt (codes.getD (i * tk + k) 0) (scaleAt afmt scales (i * (tk / 32) + k / 32)))),
    wcols := w.columns kk nn
    trace := { stream := d, regs := r, wload := w.load, wregs := w.regs, sums := streamSums m tk kk nn codes scales w } }

/-- Reads a stream's operands against the weights `w`. -/
def State.readStream (s : State) (x y : Nat) (r : Regs) (d : Desc) (w : WTile) : Except Stop StreamOp :=
  let afmt := fld d 87 84
  let m := fld d 83 73 + 1
  let base := fld d 72 64
  let ktotal := fld d 62 38
  let vk := fld d 37 32 + 1
  let vn := fld d 31 27 + 1
  match pairTileK afmt w.fmt with
  | none => .error (.fault .pair)
  | some tk =>
    let kk := min vk w.vk
    let nn := min vn w.vn
    if tk < vk ∨ tk < w.vk ∨ ktotal = 0 ∨ 2 ^ 24 < ktotal ∨ 2048 < m ∨ 512 < base + cdiv m 4
        ∨ (afmt = 8 ∧ (fld d 135 112 ≠ 0 ∨ fld d 111 88 ≠ 0)) then malformed
    else do
      let rg ← if afmt = 8 then .ok (ktotal, List.replicate m noGauge) else s.readGauges x y r (fld d 135 112) m
      let cg ← if afmt = 8 then .ok (ktotal, List.replicate nn noGauge) else s.readGauges x y r (fld d 111 88) nn
      if rg.1 ≠ ktotal ∨ cg.1 ≠ ktotal then malformed
      else do
        let n := (m - 1) * tk + kk
        let a ← s.readSpa x y r (fld d 183 160) (cdiv (n * fmtWidth afmt) 8)
        let sc ← if fmtMx afmt then s.readSpa x y r (fld d 159 136) ((m - 1) * (tk / 32) + cdiv kk 32) else .ok []
        .ok (streamOf d r w tk a (byteVals sc) rg.2 cg.2)

/-- Rows per ply of a stream. -/
def StreamOp.r (o : StreamOp) : Nat := cdiv o.m 4

/-- The ply and accumulator row of stream row `i` (R63). -/
def StreamOp.ply (o : StreamOp) (i : Nat) : Nat := i / o.r
def StreamOp.accRow (o : StreamOp) (i : Nat) : Nat := o.base + i % o.r

/-- The tile of stream row `i`. -/
def StreamOp.key (o : StreamOp) (i : Nat) : Nat := tileKey (o.ply i) (o.accRow i)

/-- The WINDOW that the stream gives a tile. -/
def StreamOp.window (o : StreamOp) : Nat := if o.afmt = 8 then 2 else 1

/-- Would row `i` find other gauges or another KTOTAL in a tile that it accumulates into (R65)? -/
def StreamOp.mismatch (o : StreamOp) (t : AccTile) (i : Nat) : Bool :=
  !o.zero && !t.empty && (t.ktotal != o.ktotal || t.rg (o.accRow i % 32) != o.rowG.getD i noGauge
    || (List.range o.nn).any (fun n => t.cg n != o.colG.getD n noGauge))

/-- A tile opened by the stream: gauges, KTOTAL and WINDOW from the descriptor, flags clear, the checksum register
invalid; entries that the stream does not write stay (R65, R66, R189). -/
def StreamOp.opened (o : StreamOp) (t : AccTile) : AccTile :=
  { ents := t.ents, ktotal := o.ktotal, window := o.window,
    colG := ((List.range o.nn).map (fun n => (n, o.colG.getD n noGauge))).filter (fun e => e.2 != noGauge) }

/-- One element of stream row `i`: its window bottom and the sum of its addends. -/
def StreamOp.element (o : StreamOp) (i n : Nat) : Int × (Nat × Int × Bool) :=
  let l := if o.afmt = 8 then 0 else windowL (o.rowG.getD i noGauge) (o.colG.getD n noGauge)
  (l, dot l (((o.acts.getD i []).zip (o.wcols.getD n [])).map (fun p => p.1.mul p.2)))

/-- Adds element (i, n) to a tile; `fresh` sums start from zero. -/
def StreamOp.addElement (o : StreamOp) (fresh : Bool) (i n : Nat) (t : AccTile) : AccTile :=
  let row := o.accRow i % 32
  let e := o.element i n
  let old := if fresh then {} else t.ent row n
  let v := specJoin old.spec e.2.1
  { t with
    ents := Tab.set t.ents (row * 32 + n) (accEnt (old.a + e.2.2.1) v)
    inexact := if e.2.2.2 then t.inexact ||| 2 ^ row else t.inexact
    special := t.special || v != 0
    ck := t.ck.map (fun k => k.add row n e.2.2.1 e.1) }

/-- Adds stream row `i` to its tile. -/
def StreamOp.addRow (o : StreamOp) (fresh : Bool) (t : AccTile) (i : Nat) : AccTile :=
  let row := o.accRow i % 32
  let g := o.rowG.getD i noGauge
  let t := { t with
    rowG := if g = noGauge then Tab.erase t.rowG row else Tab.set t.rowG row g
    mcount := max t.mcount row
    ncount := max t.ncount (o.nn - 1)
    changed := true }
  (List.range o.nn).foldl (fun t n => o.addElement fresh i n t) t

/-- The stream's rows that fall into tile `k`. -/
def StreamOp.rowsOf (o : StreamOp) (k : Nat) : List Nat := (List.range o.m).filter (fun i => o.key i == k)

/-- The tiles that the stream touches. -/
def StreamOp.keys (o : StreamOp) : List Nat := (List.range 64).filter (fun k => (List.range o.m).any (fun i => o.key i == k))

/-- A tile after the stream. -/
def StreamOp.apply (o : StreamOp) (k : Nat) (t : AccTile) : AccTile :=
  let fresh := o.zero || t.empty
  let t := if fresh then o.opened t else t
  let t := (o.rowsOf k).foldl (o.addRow fresh) t
  { t with trace := (o.trace :: t.trace).take 32, streams := t.streams + 1 }

/-- The weights a stream uses: the shadow register's, swapped in, or those in the positions (R62). -/
def CellSt.swap (c : CellSt) : CellSt :=
  match c.shadow with
  | some w => { c with weights := some w, shadow := none }
  | none => c

/-- STREAM. -/
def matStreamEffect : Effect := fun x y r d s =>
  let c := (s.cell x y).swap
  match c.weights with
  | none => .error (.fault .pair)
  | some w => do
    let o ← s.readStream x y r d w
    if (List.range o.m).any (fun i => o.mismatch (c.tile (o.key i)) i) then .error (.alarm 0x10 [] 0)
    else .ok (s.setCell x y (o.keys.foldl (fun c k => c.setTile k (o.apply k (c.tile k))) c))

/-! ### DRAIN (R41 to R44, R68, R162) -/

/-- A drain's accumulator rows: ply and row, in natural order. -/
def drainRows (base n : Nat) : List (Nat × Nat) :=
  (List.range 4).flatMap (fun p => (List.range n).map (fun j => (p, base + j)))

/-- The tiles that a drain reads. -/
def drainKeys (base n : Nat) : List Nat :=
  (List.range 64).filter (fun k => decide (base ≤ k % 16 * 32 + 31) && decide (k % 16 * 32 < base + n))

/-- What one drained row comes to: element codes, scale byte, OVERFLOW, INEXACT. -/
structure DrainedRow where
  codes : List Nat
  scale : Nat := 0
  overflow : Bool := false
  inexact : Bool := false
deriving DecidableEq, Repr, Inhabited

/-- Converts elements to a format without block scale; `packed`: the bits that the rounding loses set INEXACT (R44). -/
def drainElems (fmt : Nat) (sat packed : Bool) (es : List (Int × Nat × Int)) : DrainedRow :=
  let out := es.map (fun e =>
    if fmt = 11 then
      let v := if e.2.1 = 0 then satI 32 e.1 else (0, false)
      (ofSigned 32 v.1, v.2, false)
    else drainFloat fmt sat e.1 e.2.1 e.2.2)
  { codes := out.map (·.1), overflow := out.any (·.2.1), inexact := packed && out.any (·.2.2) }

/-- Converts one row of elements to an output format. -/
def drainRow (fmt : Nat) (sat packed : Bool) (es : List (Int × Nat × Int)) : DrainedRow :=
  if fmtMx fmt then
    let b := drainMx fmt es
    { codes := b.2.1, scale := b.1, overflow := b.2.2 }
  else drainElems fmt sat packed es

/-- The elements of row `i` of a tile: A, SPEC, L; those at or beyond the valid columns of an MX block count as zero. -/
def AccTile.rowElems (t : AccTile) (i : Nat) (mask : Bool) : List (Int × Nat × Int) :=
  (List.range 32).map (fun j =>
    if t.empty || (mask && t.ncount < j) then (0, 0, 0) else ((t.ent i j).a, (t.ent i j).spec, t.l i j))

/-- A drain sets OVERFLOW of the tile whose row overflowed. -/
def CellSt.noteOverflow (c : CellSt) (k : Nat) (ovf : Bool) : CellSt :=
  if ovf && !(c.tile k).empty then c.setTile k { c.tile k with overflow := true } else c

/-- Drains without KEEP leave their tiles empty; with KEEP a compared tile counts as unchanged (R190). -/
def CellSt.afterDrain (c : CellSt) (keys : List Nat) (keep : Bool) : CellSt :=
  keys.foldl (fun c k =>
    if !keep then { c with acc := Tab.erase c.acc k }
    else if (c.tile k).empty then c
    else c.setTile k { c.tile k with changed := false }) c

/-- Counts output tiles of 32 rows (R38): those with INEXACT, those with OVERFLOW. -/
def countTiles : Nat → List (Bool × Bool) → Nat × Nat
  | 0, _ => (0, 0)
  | fuel + 1, l =>
    if l.isEmpty then (0, 0)
    else
      let g := l.take 32
      let rest := countTiles fuel (l.drop 32)
      ((if g.any (·.1) then 1 else 0) + rest.1, (if g.any (·.2) then 1 else 0) + rest.2)

/-- The bytes of a natural-order drain to an element format at offset `off`: the elements, and the scale bytes of an MX output from
the next 64-byte boundary on (R162). -/
def drainBytes (fmt off : Nat) (rows : List DrainedRow) : List (Nat × Bytes) :=
  let b := pack (fmtWidth fmt) (rows.flatMap (·.codes))
  if fmtMx fmt then [(0, b), (pastLine off b.length, rows.map (fun r => BitVec.ofNat 8 r.scale))] else [(0, b)]

/-- Writes pieces at offsets from an operand. -/
def State.writePieces (s : State) (x y off : Nat) : List (Nat × Bytes) → Except Stop State
  | [] => .ok s
  | (o, b) :: ps =>
    match s.writeCell x y (off + o) b with
    | .error e => .error e
    | .ok s => s.writePieces x y off ps

/-- Is a drain a packed-form drain: to FP32 with SAT clear (R44, Table: MAT DRAIN fields)? -/
def packedDrain (fmt : Nat) (sat : Bool) : Bool := fmt == 10 && !sat

/-- Notes where a drain with KEEP puts copies of tiles: a tile's copy begins at its first drained row (R190). -/
def CellSt.noteCopies (c : CellSt) (keep : Bool) (l : List (Nat × Nat)) : CellSt :=
  if keep then { c with copies := l.foldl (fun t e => Tab.set t e.1 e.2) c.copies } else c

/-- The exact-form copies of tiles from offset `off` on: each as long as its trailer's SPEC bit says (R44). -/
def exactCopies (c : CellSt) : Nat → List Nat → List (Nat × Nat)
  | _, [] => []
  | off, k :: ks => (off, k) :: exactCopies c (off + (c.tile k).exact.length) ks

/-- The packed copies of tiles from offset `off` on: 128 bytes a row. -/
def packedCopies (off : Nat) (places : List (Nat × Nat)) : List (Nat × Nat) :=
  ((List.range places.length).zip places).filterMap (fun e =>
    if e.2.2 % 32 = 0 then some (off + 128 * e.1, tileKey e.2.1 e.2.2) else none)

/-- The checks that reading the tiles makes (R69, R183, R190): the first that fails. -/
def CellSt.drainCheck (c : CellSt) (keys : List Nat) : Option Nat := keys.findSome? (fun k => (c.tile k).drainCheck)

/-- May these tiles drain to this format? INT32 takes only INT8 × INT8 (R43), and INT8 is no drain output (R115). -/
def CellSt.drainFmtOk (c : CellSt) (keys : List Nat) (fmt : Nat) : Bool :=
  fmt != 8 && decide (fmt ≤ 12) && (fmt != 11 || keys.all (fun k => (c.tile k).window != 1))

/-- A natural-order drain in exact form: whole tiles, ply by ply (R44, R162). -/
def CellSt.exactDrain (c : CellSt) (keys : List Nat) : Bytes := (keys.map (fun k => (c.tile k).exact)).flatten

/-- One row of a natural-order drain. -/
def CellSt.drainOne (c : CellSt) (fmt : Nat) (sat : Bool) (p a : Nat) : DrainedRow :=
  let t := c.tile (tileKey p a)
  let d := drainRow fmt sat (packedDrain fmt sat) (t.rowElems (a % 32) (fmtMx fmt))
  { d with inexact := d.inexact || bit t.inexact (a % 32) }

/-- DRAIN in natural order. -/
def State.drainNatural (s : State) (x y : Nat) (r : Regs) (d : Desc) : Except Stop State :=
  let c := s.cell x y
  let base := fld d 159 151
  let n := fld d 150 142 + 1
  let fmt := fld d 141 138
  let sat := fld d 137 137 = 1
  let keep := fld d 136 136 = 1
  let keys := drainKeys base n
  if 512 < base + n ∨ !c.drainFmtOk keys fmt then malformed
  else match c.drainCheck keys with
    | some cause => .error (.alarm cause [] 0)
    | none => do
      let off ← spa r (fld d 183 160)
      let places := drainRows base n
      if fmt = 12 then do
        let s ← s.writeCell x y off (c.exactDrain keys)
        let s := s.setCell x y (((s.cell x y).afterDrain keys keep).noteCopies keep (exactCopies c off keys))
        let n := countTiles 128 (places.map (fun e =>
          (bit (c.tile (tileKey e.1 e.2)).inexact (e.2 % 32), (c.tile (tileKey e.1 e.2)).overflow)))
        .ok (s.countRow (inexact := n.1) (overflow := n.2))
      else do
        let rows := places.map (fun e => c.drainOne fmt sat e.1 e.2)
        let s ← s.writePieces x y off (drainBytes fmt off rows)
        let c' := ((places.map (fun e => tileKey e.1 e.2)).zip rows).foldl (fun c e => c.noteOverflow e.1 e.2.overflow)
          (s.cell x y)
        let s := s.setCell x y ((c'.afterDrain keys keep).noteCopies (keep && packedDrain fmt sat) (packedCopies off places))
        let n := countTiles 128 ((places.zip rows).map (fun e =>
          (e.2.inexact, e.2.overflow || (c.tile (tileKey e.1.1 e.1.2)).overflow)))
        .ok (s.countRow (inexact := n.1) (overflow := n.2))

/-! ### GAUGE and GCOMBINE (R33, R67, R485) -/

/-- A gauge vector's bytes: header and gauges. -/
def gaugeBytes (ktotal : Nat) (gs : List Int) : Bytes :=
  le 4 ktotal ++ zeros 60 ++ (gs.map (fun g => le 2 (ofSigned 16 g))).flatten

/-- The largest of a list of gauges. -/
def gaugeMax (l : List Int) : Int := l.foldl max noGauge

/-- Where GAUGE finds the terms of gauge `i`: the K index each term starts at, and its index among the scale bytes, or
elements, read (R485). `tk` is the tile K. -/
def gaugeTerms (mx axis1 : Bool) (tk n kpiece i : Nat) : List Nat :=
  let kt := cdiv kpiece tk
  let count := if mx then cdiv kpiece 32 else kpiece
  let per := if mx then tk / 32 else tk       -- terms of one row, or column, in a K tile
  (List.range count).map (fun b =>
    let t := b / per
    let j := b % per
    if axis1 then (i / 32 * kt + t) * (32 * per) + j * 32 + i % 32
    else t * (n * per) + i * per + j)

/-- GAUGE. -/
def matGaugeEffect : Effect := fun x y r d s =>
  let fmt := fld d 135 132
  let axis1 := fld d 131 131 = 1
  let n := fld d 130 118 + 1
  let kp := fld d 117 93
  let tk := if fld d 92 92 = 1 then 64 else 32
  let mx := fmtMx fmt
  if 10 ≤ fmt ∨ fmt = 8 ∨ (tk = 64 ∧ !halfFmt fmt) ∨ kp = 0 ∨ 2 ^ 24 < kp then malformed
  else do
    let w := if mx then 8 else fmtWidth fmt
    let idx := (List.range n).map (gaugeTerms mx axis1 tk n kp)
    let top := (idx.map (fun l => l.foldl max 0)).foldl max 0
    let b ← s.readSpa x y r (fld d 183 160) (cdiv ((top + 1) * w) 8)
    let vs := unpack w (top + 1) b
    let gs := idx.map (fun l => gaugeMax (l.map (fun i => if mx then gaugeBlock fmt (vs.getD i 0) else gaugeElem fmt (vs.getD i 0))))
    s.writeSpa x y r (fld d 159 136) (gaugeBytes kp gs)

/-- GCOMBINE: element-wise maximum, and the sum of the KTOTALs (R67). -/
def matGcombineEffect : Effect := fun x y r d s =>
  let n := fld d 111 99 + 1
  do
    let a ← s.readGauges x y r (fld d 183 160) n
    let b ← s.readGauges x y r (fld d 159 136) n
    if 2 ^ 24 < a.1 + b.1 then malformed
    else s.writeSpa x y r (fld d 135 112) (gaugeBytes (a.1 + b.1) ((a.2.zip b.2).map (fun p => max p.1 p.2)))

end Sys2Proof.Machine
end

