-- ==== Sys2Proof/Machine/Tensor.lean ====
section
/-!
DEFINITION. Tensor descriptors: layout, checks in their order, element placement, scales, padding, and reads and writes of
elements (R154 to R161, R167).
-/
namespace Sys2Proof.Machine

/-- A tensor descriptor's fields (R154). -/
structure TDesc where
  base : Nat
  fmt : Nat
  rank : Nat
  layout : Nat
  scales : Nat
  dims : List Nat
  strides : List Nat
  sbase : Nat
  clean : Bool                        -- reserved bytes and bits are zero
deriving DecidableEq, Repr, Inhabited

/-- Reads a tensor descriptor from its 128 bytes. -/
def tdescOf (b : Bytes) : TDesc :=
  { base := uAt b 0 8, fmt := uAt b 8 1, rank := uAt b 9 1, layout := uAt b 10 1, scales := uAt b 11 1,
    dims := (List.range 6).map (fun i => uAt b (16 + 4 * i) 4),
    strides := (List.range 6).map (fun i => uAt b (40 + 8 * i) 8),
    sbase := uAt b 88 8,
    clean := allZero (slice b 12 4) && allZero (slice b 96 32) }

def TDesc.dim (t : TDesc) (i : Nat) : Nat := t.dims.getD i 1
def TDesc.stride (t : TDesc) (i : Nat) : Nat := t.strides.getD i 0

/-- The axis whose elements lie packed (R156), and the axis along which blocks run (R158). -/
def TDesc.contig (t : TDesc) : Nat := if t.layout = 1 then 1 else 0
def TDesc.blockAxis (t : TDesc) : Nat := if t.layout = 1 ∨ t.layout = 3 then 1 else 0

/-- Element width in bits. -/
def TDesc.w (t : TDesc) : Nat := fmtWidth t.fmt
def TDesc.mx (t : TDesc) : Bool := fmtMx t.fmt

/-! ### Checks (R159, R161) -/

/-- Stage 1: reserved values and nonzero reserved bytes. -/
def TDesc.reservedOk (t : TDesc) : Bool :=
  t.clean && decide (t.base < 2 ^ 52) && decide (t.sbase < 2 ^ 52) && decide (t.fmt ≤ 12) && decide (t.layout ≤ 3)
    && decide (t.scales ≤ 2)

/-- Stage 2: alignment. -/
def TDesc.alignOk (t : TDesc) : Bool :=
  t.base % 64 == 0 && t.sbase % 64 == 0
    && (List.range 6).all (fun i => i == t.contig || t.stride i % 64 == 0)

/-- Stage 3: the other rules of one descriptor. -/
def TDesc.rulesOk (t : TDesc) : Bool :=
  decide (1 ≤ t.rank) && decide (t.rank ≤ 6) && t.dims.all (fun d => d != 0)
    && t.stride t.contig == 0
    && (List.range 6).all (fun i => decide (i < t.rank) || (t.dim i == 1 && t.stride i == 0))
    && (if t.mx then t.scales == 1 || t.scales == 2 else t.scales == 0)
    && (t.scales == 1 || t.sbase == 0)
    && (t.layout == 0 || decide (2 ≤ t.rank))
    && (t.layout != 3 || t.mx)
    && !(t.layout == 2 && t.scales == 2)

/-- May a tensor be written (R167): no axis of length above 1 repeats a place, apart from axes whose stride places nothing? -/
def TDesc.writable (t : TDesc) : Bool :=
  (List.range 6).all (fun i => decide (t.dim i ≤ 1) || t.stride i != 0 || i == t.contig
    || (i == 1 && (t.layout == 2 || t.layout == 3) && decide (t.dim 1 ≤ 32)))

/-- The first fault of an operand set, before its footprint: `clean` says that no reserved value or byte stands in what else the
operation names, `extra` that its shapes and formats agree. -/
def setFault (ts : List TDesc) (extra : Bool) (clean : Bool := true) : Option StructFault :=
  if !ts.all TDesc.reservedOk || !clean then some .tensor
  else if !ts.all TDesc.alignOk then some .misalign
  else if !ts.all TDesc.rulesOk || !extra then some .tensor
  else none

/-! ### Indices -/

/-- The index of an element from its linear number, axis 0 fastest. -/
def unrank : List Nat → Nat → List Nat
  | [], _ => []
  | d :: ds, n => n % d :: unrank ds (n / d)

/-- The linear number of an index. -/
def rankOf : List Nat → List Nat → Nat
  | d :: ds, i :: is => i + d * rankOf ds is
  | _, _ => 0

/-- Number of elements of a shape. -/
def volume (ds : List Nat) : Nat := ds.foldl (· * ·) 1

/-- All indices of a shape, in linear order. -/
def indices (ds : List Nat) : List (List Nat) := (List.range (volume ds)).map (unrank ds)

/-! ### Placement (R156, R158) -/

/-- The run's address and the element's number in the run. -/
def TDesc.runOf (t : TDesc) (i : List Nat) : Nat × Nat :=
  let i0 := i.getD 0 0
  let i1 := i.getD 1 0
  let rest := i.getD 2 0 * t.stride 2 + i.getD 3 0 * t.stride 3 + i.getD 4 0 * t.stride 4 + i.getD 5 0 * t.stride 5
  if t.layout = 1 then (t.base + i0 * t.stride 0 + rest, i1)
  else if t.layout = 2 then (t.base + i1 / 32 * t.stride 1 + i0 / 32 * (128 * t.w) + rest, i1 % 32 * 32 + i0 % 32)
  else if t.layout = 3 then (t.base + i1 / 32 * t.stride 1 + rest, i0 * 32 + i1 % 32)
  else (t.base + i1 * t.stride 1 + rest, i0)

/-- Bit position of element `e` within its run. -/
def TDesc.bitInRun (t : TDesc) (e : Nat) : Nat :=
  if t.scales = 2 then 8 * (e / 2048 * (64 + 256 * t.w) + 64) + e % 2048 * t.w else e * t.w

/-- The bit address of an element. -/
def TDesc.bitAddr (t : TDesc) (i : List Nat) : Nat := (t.runOf i).1 * 8 + t.bitInRun (t.runOf i).2

/-- The shape of a separate scale tensor. -/
def TDesc.scaleDims (t : TDesc) : List Nat :=
  (List.range 6).map (fun k => if k = t.blockAxis then cdiv (t.dim k) 32 else t.dim k)

/-- The index of an element's block in the scale tensor. -/
def TDesc.blockIndex (t : TDesc) (i : List Nat) : List Nat :=
  (List.range 6).map (fun k => if k = t.blockAxis then i.getD k 0 / 32 else i.getD k 0)

/-- The address of an element's scale byte. -/
def TDesc.scaleAddr (t : TDesc) (i : List Nat) : Nat :=
  if t.scales = 2 then (t.runOf i).1 + (t.runOf i).2 / 2048 * (64 + 256 * t.w) + (t.runOf i).2 / 32 % 64
  else t.sbase + rankOf t.scaleDims (t.blockIndex i)

/-- The blocks of one run of interleaved data. -/
def TDesc.runBlocks (t : TDesc) : Nat := if t.layout = 3 then t.dim 0 else cdiv (t.dim t.contig) 32

/-- The scale bytes of absent blocks in the last group of an element's run: they are zero. -/
def TDesc.absent (t : TDesc) (i : List Nat) : List Nat :=
  if t.scales = 2 ∧ t.runBlocks % 64 ≠ 0 then
    let line := (t.runOf i).1 + t.runBlocks / 64 * (64 + 256 * t.w)
    (List.range (64 - t.runBlocks % 64)).map (fun j => line + t.runBlocks % 64 + j)
  else []

/-! ### Padding (R157) -/

/-- The axes along which the last tile or block may hold padding. -/
def TDesc.padded (t : TDesc) (k : Nat) : Bool := (t.layout == 2 && decide (k ≤ 1)) || (t.mx && k == t.blockAxis)

/-- The shape with its padding. -/
def TDesc.fullDims (t : TDesc) : List Nat :=
  (List.range 6).map (fun k => if t.padded k then cdiv (t.dim k) 32 * 32 else t.dim k)

/-- Is an index of the full shape a padding position? -/
def TDesc.isPad (t : TDesc) (i : List Nat) : Bool := (List.range 6).any (fun k => decide (t.dim k ≤ i.getD k 0))

/-- The tile or block that holds an index. -/
def TDesc.tileOf (t : TDesc) (i : List Nat) : List Nat :=
  (List.range 6).map (fun k => if t.padded k then i.getD k 0 / 32 else i.getD k 0)

/-- The padding positions of the tiles and blocks that hold the indices `js`. -/
def TDesc.padOf (t : TDesc) (js : List (List Nat)) : List (List Nat) :=
  let tiles := js.map t.tileOf
  (indices t.fullDims).filter (fun i => t.isPad i && tiles.contains (t.tileOf i))

/-! ### Footprints (R160) -/

/-- The first and last byte of an element. -/
def TDesc.bytesOf (t : TDesc) (i : List Nat) : Nat × Nat := (t.bitAddr i / 8, (t.bitAddr i + t.w - 1) / 8)

/-- The scale bytes that come with an element: its separate scale byte, or the whole scale line of the group that it opens. -/
def TDesc.scaleBytes (t : TDesc) (i : List Nat) : List Nat :=
  if !t.mx then []
  else if t.scales = 2 then
    if (t.runOf i).2 % 2048 = 0 then (List.range 64).map (fun j => t.scaleAddr i + j) else []
  else [t.scaleAddr i]

/-- The bytes a tensor's elements, scale bytes and scale lines take, as addresses. -/
def TDesc.footprint (t : TDesc) : List Nat :=
  (indices t.dims).flatMap (fun i =>
    (List.range ((t.bytesOf i).2 + 1 - (t.bytesOf i).1)).map (fun k => (t.bytesOf i).1 + k) ++ t.scaleBytes i)

/-- Do all addresses lie in HBM, or all in one cell's window? -/
def State.oneHome (s : State) : List Nat → Bool
  | [] => true
  | a :: r => match s.homeOf a with
    | none => false
    | some h => r.all (fun b => s.homeOf b == some h)

/-- Is a tensor's footprint whole: its data with the scale lines among it, and its separate scale tensor? -/
def State.footOk (s : State) (t : TDesc) : Bool :=
  let is := indices t.dims
  let data := is.flatMap (fun i => [(t.bytesOf i).1, (t.bytesOf i).2])
  let scales := if t.mx then is.map t.scaleAddr else []
  if t.scales = 2 then s.oneHome (data ++ scales) else s.oneHome data && s.oneHome scales

/-! ### Elements -/

/-- `w` bits at a bit address. -/
def State.peekBits (s : State) (b w : Nat) : Nat :=
  (ofLe ((List.range ((b % 8 + w + 7) / 8)).map (fun k => s.peek (b / 8 + k))) >>> (b % 8)) % 2 ^ w

/-- An element: its bits, and its block's scale. -/
def State.peekElem (s : State) (t : TDesc) (i : List Nat) : Nat × Nat :=
  (s.peekBits (t.bitAddr i) t.w, if t.mx then (s.peek (t.scaleAddr i)).toNat else 0)

/-- The first poisoned line that reading a tensor meets (R193). -/
def State.tensorPoison (s : State) (t : TDesc) : Option Nat :=
  let hit (a : Nat) : Option Nat := if s.hbm.poisoned.contains (s.rowAt (a / 64 * 64)) then some (a / 64 * 64) else none
  if s.hbm.poisoned.isEmpty then none
  else (indices t.dims).findSome? (fun i =>
    ((hit (t.bytesOf i).1).orElse (fun _ => hit (t.bytesOf i).2)).orElse (fun _ => if t.mx then hit (t.scaleAddr i) else none))

/-! ### Writes -/

/-- Writes `w` bits of `v` at a bit address into a buffer of bytes; what the buffer does not hold yet is the present byte. -/
def State.putBits (s : State) (buf : Tab Byte) (b w v : Nat) : Tab Byte :=
  let n := (b % 8 + w + 7) / 8
  let old := ofLe ((List.range n).map (fun k => Tab.getD buf (b / 8 + k) (s.peek (b / 8 + k))))
  let low := old % 2 ^ (b % 8)
  let high := old / 2 ^ (b % 8 + w)
  let new := low + v % 2 ^ w * 2 ^ (b % 8) + high * 2 ^ (b % 8 + w)
  ((List.range n).zip (le n new)).foldl (fun m e => Tab.set m (b / 8 + e.1) e.2) buf

/-- The buffer as runs of consecutive bytes. -/
def runsOf : Tab Byte → List (Nat × Bytes)
  | [] => []
  | (a, b) :: r =>
    match runsOf r with
    | [] => [(a, [b])]
    | (a', bs) :: rest => if a' = a + 1 then (a, b :: bs) :: rest else (a, [b]) :: (a', bs) :: rest

/-- Writes runs at device addresses. -/
def State.writeRuns : State → List (Nat × Bytes) → Except Stop State
  | s, [] => .ok s
  | s, (a, b) :: r =>
    match s.writeDev a b with
    | .error e => .error e
    | .ok s => State.writeRuns s r

/-- Elements in the order in which they are written: the higher linear index last, so that it stands in bytes it shares; of several
for one index the last (R167). -/
def TDesc.inOrder (t : TDesc) (es : List (List Nat × Nat × Nat)) : List (List Nat × Nat × Nat) :=
  (es.foldl (fun m e => Tab.set m (rankOf t.dims e.1) e) ([] : Tab (List Nat × Nat × Nat))).map (·.2)

/-- The bytes of a tensor after elements are written: padding and absent scale bytes as zero first, then the elements in linear
order (R157, R158, R167). An element is an index, its bits and its scale; the first position of a block writes the scale. -/
def State.tensorBuf (s : State) (t : TDesc) (es : List (List Nat × Nat × Nat)) : Tab Byte :=
  let es := t.inOrder es
  let js := es.map (·.1)
  let buf := (t.padOf js).foldl (fun m i => s.putBits m (t.bitAddr i) t.w 0) ([] : Tab Byte)
  let buf := js.foldl (fun m i => (t.absent i).foldl (fun m a => Tab.set m a 0) m) buf
  es.foldl (fun m e =>
    let m := s.putBits m (t.bitAddr e.1) t.w e.2.1
    if t.mx ∧ e.1.getD t.blockAxis 0 % 32 = 0 then Tab.set m (t.scaleAddr e.1) (BitVec.ofNat 8 e.2.2) else m) buf

/-- Writes elements of a tensor. -/
def State.writeTensor (s : State) (t : TDesc) (es : List (List Nat × Nat × Nat)) : Except Stop State :=
  s.writeRuns (runsOf (s.tensorBuf t es))

/-- Reads the descriptor that an operand of cell (x, y) names (R155). -/
def State.readTDesc (s : State) (x y : Nat) (r : Regs) (f : Nat) : Except Stop TDesc :=
  match spa r f with
  | .error e => .error e
  | .ok o =>
    if o % 64 ≠ 0 then .error (.fault .misalign)
    else match s.readCell x y o 128 with
      | .error e => .error e
      | .ok b => .ok (tdescOf b)

/-- Checks an operand set whole: fields and shapes, then footprints, then poison among what is read. -/
def State.checkTensors (s : State) (ts reads : List TDesc) (extra : Bool) (clean : Bool := true) : Except Stop Unit :=
  match setFault ts extra clean with
  | some f => .error (.fault f)
  | none =>
    if !ts.all s.footOk then .error (.fault .address)
    else match reads.findSome? s.tensorPoison with
      | some l => .error (.alarm 0x21 [.slice (sliceOf l)] l)
      | none => .ok ()

end Sys2Proof.Machine
end

