-- ==== Sys2Proof/Machine/Drain.lean ====
section
/-!
DEFINITION. Transform drains (R162 to R164), and the commands of the matrix engine.
-/
namespace Sys2Proof.Machine

/-- A transform parameter block (R162) with what the drain descriptor adds. -/
structure XForm where
  rpp : Nat
  mvalid : Nat
  nvalid : Nat
  m0 : Nat
  n0 : Nat
  morg : Nat
  norg : Nat
  perm : Nat
  clean : Bool
  permute : Bool                      -- XFORM 2
  accbase : Nat
  rows : Nat                          -- ROWSM1 + 1
  fmt : Nat
deriving DecidableEq, Repr, Inhabited

/-- Reads the 64-byte block. -/
def xformOf (b : Bytes) (d : Desc) : XForm :=
  { rpp := uAt b 0 2, mvalid := uAt b 4 4, nvalid := uAt b 8 4, m0 := uAt b 12 4, n0 := uAt b 16 4, morg := uAt b 20 4,
    norg := uAt b 24 4, perm := uAt b 28 2, clean := allZero (slice b 2 2) && allZero (slice b 30 34),
    permute := fld d 135 128 = 2, accbase := fld d 159 151, rows := fld d 150 142 + 1, fmt := fld d 141 138 }

/-- The view axis that destination axis `j` takes. -/
def XForm.axis (f : XForm) (j : Nat) : Nat := if f.permute then bits f.perm (3 * j + 2) (3 * j) else j

/-- Is a list of four numbers a permutation of 0 to 3? -/
def isPerm4 (l : List Nat) : Bool := [0, 1, 2, 3].all l.contains

/-- Are the block's reserved bytes and bits zero (R161, stage 1)? -/
def XForm.reservedOk (f : XForm) : Bool := f.clean && decide (f.perm < 4096)

/-- N tiles. -/
def XForm.nt (f : XForm) : Nat := f.rows / f.rpp

/-- The destination index of element (m, n). -/
def XForm.index (f : XForm) (m n : Nat) : List Nat :=
  let gm := f.morg + m
  let gn := f.norg + n
  let view := [gn % f.n0, gn / f.n0, gm % f.m0, gm / f.m0]
  (List.range 4).map (fun j => view.getD (f.axis j) 0) ++ [0, 0]

/-- The drained elements. -/
def XForm.elems (f : XForm) : List (Nat × Nat) :=
  (List.range f.mvalid).flatMap (fun m => (List.range f.nvalid).map (fun n => (m, n)))

/-- Is an index inside a shape? -/
def TDesc.holds (t : TDesc) (i : List Nat) : Bool := (List.range 6).all (fun k => decide (i.getD k 0 < t.dim k))

/-- The rules of R162 and R163 that a parameter block obeys by itself. -/
def XForm.blockOk (f : XForm) : Bool :=
  f.rpp != 0 && decide (f.rpp ≤ 512) && f.rows % f.rpp == 0
    && decide (1 ≤ f.mvalid) && decide (f.mvalid ≤ 4 * f.rpp) && decide (1 ≤ f.nvalid) && decide (f.nvalid ≤ 32 * f.nt)
    && f.m0 != 0 && f.n0 != 0
    && (if f.permute then isPerm4 ((List.range 4).map f.axis) else f.perm == 0)
    && f.fmt != 12

/-- The rules of R163 and R164 that a parameter block and its destination obey. -/
def XForm.rulesOk (f : XForm) (t : TDesc) : Bool :=
  f.blockOk && t.fmt == f.fmt && t.writable
    && f.elems.all (fun e => t.holds (f.index e.1 e.2))
    && (!t.mx || (f.norg % 32 == 0 && f.n0 % 32 == 0 && f.axis t.blockAxis == 0))

/-- Tile key and row in the tile of element (m, n)'s accumulator row. -/
def XForm.place (f : XForm) (m n : Nat) : Nat × Nat :=
  let a := f.accbase + n / 32 * f.rpp + m % f.rpp
  (tileKey (m / f.rpp) a, a % 32)

/-- The drained rows: row m, N tile t, and what they convert to. Positions at or beyond NVALID count as zero. -/
def XForm.rowsOut (f : XForm) (c : CellSt) (sat : Bool) : List (Nat × Nat × DrainedRow) :=
  (List.range f.mvalid).flatMap (fun m => (List.range (cdiv f.nvalid 32)).map (fun t =>
    let k := f.place m (32 * t)
    let es := ((List.range 32).zip ((c.tile k.1).rowElems k.2 (fmtMx f.fmt))).map
      (fun e => if f.nvalid ≤ 32 * t + e.1 then (0, 0, 0) else e.2)
    let d := drainRow f.fmt sat (packedDrain f.fmt sat) es
    (m, t, { d with inexact := d.inexact || bit (c.tile k.1).inexact k.2 })))

/-- The elements that a drained row writes: all valid ones, and for an MX format the rest of the block as zero. -/
def XForm.rowElems (f : XForm) (t : TDesc) (m k : Nat) (d : DrainedRow) : List (List Nat × Nat × Nat) :=
  ((List.range 32).zip d.codes).filterMap (fun e =>
    let n := 32 * k + e.1
    if n < f.nvalid then some (f.index m n, e.2, d.scale)
    else if t.mx && t.holds (f.index m n) then some (f.index m n, 0, d.scale) else none)

/-- The output tiles of 32 by 32 that carry a flag: those whose rows satisfy `p` (R38). -/
def XForm.tilesWith (f : XForm) (rows : List (Nat × Nat × DrainedRow)) (p : Nat × Nat × DrainedRow → Bool) : Nat :=
  ((rows.filter p).flatMap (fun e =>
    ((List.range 32).filter (fun j => decide (32 * e.2.1 + j < f.nvalid))).map (fun j =>
      ((f.morg + e.1) / 32, (f.norg + 32 * e.2.1 + j) / 32)))).eraseDups.length

/-- DRAIN through a destination tensor descriptor. -/
def State.drainXForm (s : State) (x y : Nat) (r : Regs) (d : Desc) : Except Stop State := do
  let c := s.cell x y
  let t ← s.readTDesc x y r (fld d 183 160)
  let b ← s.readSpa x y r (fld d 127 104) 64
  let f := xformOf b d
  let sat := fld d 137 137 = 1
  let keep := fld d 136 136 = 1
  let keys := drainKeys f.accbase f.rows
  if 512 < f.accbase + f.rows ∨ !c.drainFmtOk keys f.fmt then malformed
  else do
    s.checkTensors [t] [] (f.rulesOk t) f.reservedOk
    match c.drainCheck keys with
    | some cause => .error (.alarm cause [] 0)
    | none => do
      let rows := f.rowsOut c sat
      let s ← s.writeTensor t (rows.flatMap (fun e => f.rowElems t e.1 e.2.1 e.2.2))
      let c' := rows.foldl (fun c e => c.noteOverflow (f.place e.1 (32 * e.2.1)).1 e.2.2.overflow) (s.cell x y)
      let s := s.setCell x y (c'.afterDrain keys keep)
      .ok (s.countRow (inexact := f.tilesWith rows (fun e => e.2.2.inexact))
        (overflow := f.tilesWith rows (fun e => e.2.2.overflow || (c.tile (f.place e.1 (32 * e.2.1)).1).overflow)))

/-- DRAIN. -/
def matDrainEffect : Effect := fun x y r d s =>
  if fld d 135 128 = 0 then s.drainNatural x y r d
  else if fld d 135 128 ≤ 2 then s.drainXForm x y r d
  else malformed

/-! ### Commands of the matrix engine (R116) -/

/-- WLOAD. -/
def execMatWload (x y : Nat) (d : Desc) (s : State) : Result := s.cellOp x y d matWloadEffect

/-- STREAM. -/
def execMatStream (x y : Nat) (d : Desc) (s : State) : Result := s.cellOp x y d matStreamEffect

/-- DRAIN. -/
def execMatDrain (x y : Nat) (d : Desc) (s : State) : Result := s.cellOp x y d matDrainEffect

/-- GAUGE. -/
def execMatGauge (x y : Nat) (d : Desc) (s : State) : Result := s.cellOp x y d matGaugeEffect

/-- GCOMBINE. -/
def execMatGcombine (x y : Nat) (d : Desc) (s : State) : Result := s.cellOp x y d matGcombineEffect

end Sys2Proof.Machine
end

