-- ==== Sys2Proof/Machine/Mov.lean ====
section
/-!
DEFINITION. MOV descriptors (R118, R165 to R179): COPY, PERMUTE, GATHER, SCATTER, SCATTER_ADD and RESHARD, with snapshot
semantics (R166).
-/
namespace Sys2Proof.Machine

/-! ### COPY and PERMUTE (R165) -/

/-- PERM's four fields, axes 4 and 5 kept. -/
def permOf (p : Nat) : List Nat := (List.range 4).map (fun i => bits p (3 * i + 2) (3 * i)) ++ [4, 5]

/-- The identity. -/
def permId : List Nat := [0, 1, 2, 3, 4, 5]

/-- The source index of destination index `j`: k[PERM[i]] = j[i]. -/
def permIndex (perm : List Nat) (j : List Nat) : List Nat :=
  (List.range 6).map (fun a => match (List.range 6).find? (fun i => perm.getD i i == a) with
    | some i => j.getD i 0
    | none => 0)

/-- A rule about an operand, and one about two: no judgement where one is not known (R155). -/
def known (a : Option TDesc) (f : TDesc → Bool) : Bool :=
  match a with
  | some t => f t
  | none => true
def known2 (a b : Option TDesc) (f : TDesc → TDesc → Bool) : Bool := known a (fun t => known b (f t))

/-- Is a list of four numbers a permutation of 0 to 3? -/
def isPermutation (l : List Nat) : Bool := [0, 1, 2, 3].all l.contains

/-- The rules of R165 and R167 that a copy through `perm` obeys, as far as its operands are known. -/
def copyRules (src dst : Option TDesc) (perm : List Nat) : Bool :=
  isPermutation (perm.take 4)
    && known2 src dst (fun src dst => src.fmt == dst.fmt
      && (List.range 6).all (fun i => dst.dim i == src.dim (perm.getD i i))
      && (!dst.mx || perm.getD dst.blockAxis 0 == src.blockAxis))
    && known dst TDesc.writable

/-- The rules of a copy whose operands are both known. -/
def copyRulesOk (src dst : TDesc) (perm : List Nat) : Bool := copyRules (some src) (some dst) perm

/-- The elements that a copy writes, in linear order of the destination. -/
def State.copyElems (s : State) (src dst : TDesc) (perm : List Nat) : List (List Nat × Nat × Nat) :=
  (indices dst.dims).map (fun j => (j, s.peekElem src (permIndex perm j)))

/-- Copies a tensor through `perm`: checks, then every element as the source held it. -/
def State.copyTensor (s : State) (src dst : TDesc) (perm : List Nat) : Except Stop State := do
  s.checkTensors [src, dst] [src] (copyRulesOk src dst perm)
  s.writeTensor dst (s.copyElems src dst perm)

/-- COPY. -/
def movCopyEffect : Effect := fun x y r d s => do
  let src ← s.readTDesc x y r (fld d 183 160)
  let dst ← s.readTDesc x y r (fld d 159 136)
  s.copyTensor src dst permId

/-- PERMUTE. -/
def movPermuteEffect : Effect := fun x y r d s => do
  let src ← s.readTDesc x y r (fld d 183 160)
  let dst ← s.readTDesc x y r (fld d 159 136)
  s.copyTensor src dst (permOf (fld d 106 95))

/-! ### Index modes (R172, R174) -/

/-- f(v) against N: the effective index, none under ZERO outside the range. -/
def indexMode (mode : Nat) (v : Int) (n : Nat) : Option Nat :=
  if 0 ≤ v ∧ v < n then some v.toNat
  else if mode = 0 then some (if v < 0 then 0 else n - 1)
  else if mode = 1 then some (v % n).toNat
  else none

/-- The indices of an index tensor. -/
def State.readIndices (s : State) (t : TDesc) : List Int :=
  (List.range (t.dim 0)).map (fun i => toSigned 32 (s.peekElem t [i, 0, 0, 0, 0, 0]).1)

/-- How many positions repeat an earlier effective index. -/
def duplicates : List Nat → List (Option Nat) → Nat
  | _, [] => 0
  | seen, none :: r => duplicates seen r
  | seen, some v :: r => if seen.contains v then duplicates seen r + 1 else duplicates (v :: seen) r

/-- Adds the three counts of R174. -/
def State.countIndices (s : State) (vs : List Int) (mode n : Nat) : State :=
  let out := (vs.filter (fun v => decide (v < 0) || decide ((n : Int) ≤ v))).length
  s.countRow (outrange := out) (idxClamp := if mode = 2 then 0 else out)
    (duplicate := duplicates [] (vs.map (fun v => indexMode mode v n)))

/-- An index tensor: INT32, RANK 1, 1 to 16,777,215 positions. -/
def TDesc.isIndex (t : TDesc) : Bool := t.fmt == 11 && t.rank == 1 && decide (t.dim 0 ≤ 16777215)

/-- An index with axis `a` replaced. -/
def setAxis (i : List Nat) (a v : Nat) : List Nat := i.set a v

/-- The rules of R171, as far as the operands are known: `data` runs along the index positions. An MX source and destination whose
block axes differ break them too, for no rule gives the destination's blocks a scale (log entry 96). -/
def indexedRules (src dst data idx : Option TDesc) (axis mode : Nat) : Bool :=
  mode != 3
    && known src (fun t => decide (axis < t.rank) && (!t.mx || axis != t.blockAxis))
    && known dst (fun t => decide (axis < t.rank) && (!t.mx || axis != t.blockAxis) && t.writable)
    && known idx TDesc.isIndex
    && known2 data idx (fun t i => t.dim axis == i.dim 0)
    && known2 src dst (fun src dst => src.fmt == dst.fmt
      && (List.range 6).all (fun i => i == axis || src.dim i == dst.dim i) && (!src.mx || src.blockAxis == dst.blockAxis))

/-- The rules of an indexed move whose operands are all known. -/
def indexedRulesOk (src dst data idx : TDesc) (axis mode : Nat) : Bool :=
  indexedRules (some src) (some dst) (some data) (some idx) axis mode

/-- The three descriptors of an indexed move. -/
def State.readIndexed (s : State) (x y : Nat) (r : Regs) (d : Desc) : Except Stop (TDesc × TDesc × TDesc) := do
  let src ← s.readTDesc x y r (fld d 183 160)
  let dst ← s.readTDesc x y r (fld d 159 136)
  let idx ← s.readTDesc x y r (fld d 135 112)
  .ok (src, dst, idx)

/-- GATHER (R171). -/
def movGatherEffect : Effect := fun x y r d s => do
  let t ← s.readIndexed x y r d
  let (src, dst, idx) := t
  let axis := fld d 111 109
  let mode := fld d 108 107
  s.checkTensors [src, dst, idx] [src, idx] (indexedRulesOk src dst dst idx axis mode)
  let vs := s.readIndices idx
  let n := src.dim axis
  let es := (indices dst.dims).map (fun j =>
    match indexMode mode (vs.getD (j.getD axis 0) 0) n with
    | some k => (j, s.peekElem src (setAxis j axis k))
    | none => (j, 0, 0))
  let s ← s.writeTensor dst es
  .ok (s.countIndices vs mode n)

/-- The source elements of a scatter with their destination indices, index positions in rising order. -/
def State.scatterElems (s : State) (src : TDesc) (vs : List Int) (axis mode n : Nat) : List (List Nat × Nat × Nat) :=
  (List.range vs.length).flatMap (fun p =>
    match indexMode mode (vs.getD p 0) n with
    | none => []
    | some k => ((indices src.dims).filter (fun i => i.getD axis 0 == p)).map (fun i => (setAxis i axis k, s.peekElem src i)))

/-- SCATTER: the slice of the highest index position stands (R173). -/
def movScatterEffect : Effect := fun x y r d s => do
  let t ← s.readIndexed x y r d
  let (src, dst, idx) := t
  let axis := fld d 111 109
  let mode := fld d 108 107
  s.checkTensors [src, dst, idx] [src, idx] (indexedRulesOk src dst src idx axis mode)
  let vs := s.readIndices idx
  let n := dst.dim axis
  let s ← s.writeTensor dst (s.scatterElems src vs axis mode n)
  .ok (s.countIndices vs mode n)

/-- The sum of an old value and its contributions, rounded once: bits, bits lost, saturated (R173). -/
def scatterSum (c : Nat) (ws : List Nat) : Nat × Bool × Bool :=
  let e := exactSum c ws
  if fmtIsFloat c then (((fmtFloat c).put false (accNum e.a e.spec e.l)).1, e.lost, false)
  else ((putInt c true e.a).1, false, (putInt c true e.a).2)

/-- The formats of SCATTER_ADD (R171). -/
def TDesc.addable (t : TDesc) : Bool := [9, 10, 11].contains t.fmt

/-- SCATTER_ADD: FP32, BF16 and INT32; one INEXACT count for a descriptor that drops bits (R173). -/
def movScatterAddEffect : Effect := fun x y r d s => do
  let t ← s.readIndexed x y r d
  let (src, dst, idx) := t
  let axis := fld d 111 109
  let mode := fld d 108 107
  s.checkTensors [src, dst, idx] [src, dst, idx] (indexedRulesOk src dst src idx axis mode && [9, 10, 11].contains src.fmt)
  let vs := s.readIndices idx
  let n := dst.dim axis
  let cs := s.scatterElems src vs axis mode n
  let js := (indices dst.dims).filter (fun j => cs.any (fun e => e.1 == j))
  let out := js.map (fun j => (j, scatterSum src.fmt
    ((s.peekElem dst j).1 :: (cs.filter (fun e => e.1 == j)).map (fun e => e.2.1))))
  let s ← s.writeTensor dst (out.map (fun e => (e.1, e.2.1, 0)))
  .ok ((s.countIndices vs mode n).countRow (inexact := if out.any (fun e => e.2.2.1) then 1 else 0)
    (clamps := (out.filter (fun e => e.2.2.2)).length))

/-! ### RESHARD (R176 to R179) -/

/-- A mapping table (Table: Mapping table record). -/
structure MapTable where
  id : Nat
  fmt : Nat
  rank : Nat
  gdims : List Nat
  splits : List Nat
  xorg : Nat
  yorg : Nat
  xn : Nat
  yn : Nat
  repl : Nat
  loff : Nat
  layout : Nat
  scales : Nat
  strides : List Nat
  lsoff : Nat
deriving DecidableEq, Repr, Inhabited

/-- Reads a record of KIND 1. -/
def mapTableOf (b : Bytes) : MapTable :=
  { id := uAt b 2 2, fmt := uAt b 4 1, rank := uAt b 5 1, gdims := (List.range 6).map (fun i => uAt b (8 + 4 * i) 4),
    splits := (List.range 6).map (fun i => uAt b (32 + 2 * i) 2), xorg := uAt b 44 2, yorg := uAt b 46 2, xn := uAt b 48 2,
    yn := uAt b 50 2, repl := uAt b 52 2, loff := uAt b 56 4, layout := uAt b 60 1, scales := uAt b 61 1,
    strides := (List.range 6).map (fun i => uAt b (64 + 8 * i) 8), lsoff := uAt b 112 4 }

/-- The records of a mapping section. -/
def mapRecords (sec : Bytes) : List Bytes := (List.range (sec.length / 128)).map (fun i => slice sec (128 * i) 128)

/-- The mapping table of a section with this ID. -/
def findMap (sec : Bytes) (id : Nat) : Option MapTable :=
  ((mapRecords sec).filter (fun b => uAt b 0 1 == 1)).map mapTableOf |>.find? (fun m => m.id == id)

/-- Is there a plan from one table to another (KIND 2)? -/
def hasPlan (sec : Bytes) (src dst : Nat) : Bool :=
  (mapRecords sec).any (fun b => uAt b 0 1 == 2 && uAt b 2 2 == src && uAt b 4 2 == dst)

/-- Number of cells of a table's rectangle, and cell q. -/
def MapTable.cells (m : MapTable) : Nat := m.xn * m.yn
def MapTable.cellAt (m : MapTable) (q : Nat) : Nat × Nat := (m.xorg + q % max 1 m.xn, m.yorg + q / max 1 m.xn)

/-- q of a cell in the rectangle. -/
def MapTable.qOf (m : MapTable) (x y : Nat) : Option Nat :=
  if m.xorg ≤ x ∧ x < m.xorg + m.xn ∧ m.yorg ≤ y ∧ y < m.yorg + m.yn then some ((y - m.yorg) * m.xn + (x - m.xorg))
  else none

/-- A shard's lengths. -/
def MapTable.shardDims (m : MapTable) : List Nat := (m.gdims.zip m.splits).map (fun e => e.1 / max 1 e.2)

/-- The shard of a global index, and the index inside it (R177). -/
def MapTable.shardOf (m : MapTable) (g : List Nat) : Nat :=
  rankOf m.splits ((g.zip m.shardDims).map (fun e => e.1 / max 1 e.2))
def MapTable.localOf (m : MapTable) (g : List Nat) : List Nat := (g.zip m.shardDims).map (fun e => e.1 % max 1 e.2)

/-- The tensor that cell q holds. -/
def MapTable.shardDesc (m : MapTable) (q : Nat) : TDesc :=
  let c := m.cellAt q
  { base := cellBase c.1 c.2 + m.loff, fmt := m.fmt, rank := m.rank, layout := m.layout, scales := m.scales,
    dims := m.shardDims, strides := m.strides, sbase := if m.scales = 1 then cellBase c.1 c.2 + m.lsoff else 0, clean := true }

/-- The source copy of shard `k` that serves destination cell `c`: fewest hops, then lowest q (R179). -/
def MapTable.source (m : MapTable) (k : Nat) (c : Nat × Nat) : Nat :=
  ((List.range (max 1 m.repl)).map (fun r => k * m.repl + r)).foldl (fun (best : Option Nat) q => match best with
    | none => some q
    | some b => if hops (m.cellAt q) c < hops (m.cellAt b) c then some q else some b) none |>.getD 0

/-- The elements that source cell `q` sends to destination cell `t`. -/
def State.shardElems (s : State) (src dst : MapTable) (q t : Nat) : List (List Nat × Nat × Nat) :=
  ((indices dst.gdims).filter (fun g => dst.shardOf g == t / max 1 dst.repl
    && src.source (src.shardOf g) (dst.cellAt t) == q)).map
    (fun g => (dst.localOf g, s.peekElem (src.shardDesc q) (src.localOf g)))

/-- Do the elements of a tensor share no byte but with neighbours in their run? -/
def TDesc.runsApart (t : TDesc) : Bool :=
  let starts := ((indices t.dims).map (fun i => (t.runOf i).1)).eraseDups
  let len := ((indices t.dims).map (fun i => (t.bytesOf i).2 - (t.runOf i).1)).foldl max 0
  ((indices t.dims).map t.bitAddr).eraseDups.length == volume t.dims
    && starts.all (fun a => starts.all (fun b => a == b || decide (a + len < b) || decide (b + len < a)))

/-- Do two elements share a byte? -/
def TDesc.share (t : TDesc) (i j : List Nat) : Bool :=
  decide ((t.bytesOf i).1 ≤ (t.bytesOf j).2) && decide ((t.bytesOf j).1 ≤ (t.bytesOf i).2)

/-- The elements of a piece that stand in the end: one that shares bytes with an element of higher linear index, which another piece
brings, is not written (R167). -/
def TDesc.standing (t : TDesc) (es : List (List Nat × Nat × Nat)) : List (List Nat × Nat × Nat) :=
  if t.runsApart then es
  else es.filter (fun e => (indices t.dims).all (fun j =>
    !t.share e.1 j || decide (rankOf t.dims j ≤ rankOf t.dims e.1) || es.any (fun f => f.1 == j)))

/-- Cell q's part of a reshard: every piece it sends, read before any is written. -/
def State.reshardFrom (s : State) (src dst : MapTable) (q : Nat) : Except Stop State :=
  (List.range dst.cells).foldlM (fun (u : State) t =>
    let es := (dst.shardDesc t).standing (s.shardElems src dst q t)
    if es.isEmpty then .ok u else u.writeTensor (dst.shardDesc t) es) s

/-- Is a destination that R167 forbids named (R161)? -/
def MapTable.unwritable (m : MapTable) : Bool := !(m.shardDesc 0).writable

/-- Has every cell of the two rectangles that has a place begun its `n`-th RESHARD of the plan from table `a` to table `b` (R179)? -/
def State.reshardDone (s : State) (sec : Bytes) (a b n : Nat) : Bool :=
  match findMap sec a, findMap sec b with
  | some src, some dst =>
    ([src, dst]).all (fun m => (List.range m.cells).all (fun q =>
      let c := m.cellAt q
      !s.cellPlaced (cellNo c.1 c.2) || decide (n ≤ (s.cell c.1 c.2).resharded.count (a, b))))
  | _, _ => true

/-- Does a cell lie in either rectangle of a plan? -/
def inPlan (sec : Bytes) (a b x y : Nat) : Bool :=
  ([findMap sec a, findMap sec b]).any (fun m => match m with
    | some m => (m.qOf x y).isSome
    | none => false)

/-- Cell (x, y)'s part of the plan from table `a` to table `b` of a mapping section: a cell outside the source rectangle sends
nothing. -/
def State.reshardCell (s : State) (sec : Bytes) (a b x y : Nat) : Except Stop State :=
  match findMap sec a, findMap sec b with
  | some src, some dst =>
    if !hasPlan sec a b then malformed
    else if dst.unwritable then .error (.fault .tensor)
    else match src.qOf x y with
      | some q => s.reshardFrom src dst q
      | none => .ok s
  | _, _ => malformed

/-- RESHARD of the running pattern's mapping section by cell (x, y): the cell's part of the plan, and that it has run it (R179). -/
def movReshardEffect : Effect := fun x y _ d s =>
  match s.runPattern with
  | none => .ok s
  | some p =>
    let a := fld d 94 83
    let b := fld d 82 71
    match s.reshardCell p.mapTab a b x y with
    | .error e => .error e
    | .ok s => .ok (s.setCell x y { s.cell x y with resharded := (a, b) :: (s.cell x y).resharded })

/-! ### Commands -/

def execMovCopy (x y : Nat) (d : Desc) (s : State) : Result := s.cellOp x y d movCopyEffect
def execMovPermute (x y : Nat) (d : Desc) (s : State) : Result := s.cellOp x y d movPermuteEffect
def execMovGather (x y : Nat) (d : Desc) (s : State) : Result := s.cellOp x y d movGatherEffect
def execMovScatter (x y : Nat) (d : Desc) (s : State) : Result := s.cellOp x y d movScatterEffect
def execMovScatterAdd (x y : Nat) (d : Desc) (s : State) : Result := s.cellOp x y d movScatterAddEffect
def execMovReshard (x y : Nat) (d : Desc) (s : State) : Result := s.cellOp x y d movReshardEffect

end Sys2Proof.Machine
end

