-- ==== Sys2Proof/Machine/Upd.lean ====
section
/-!
DEFINITION. UPD JOB and the parameter update engines (R121, R243 to R254, R256), and HBM writes of a row (R105, R245).
-/
namespace Sys2Proof.Machine

/-! ### FP32 operations (R49) -/

def fAdd (a b : Nat) : Nat := (vAdd 10 false a b).1
def fSub (a b : Nat) : Nat := (vSub 10 false a b).1
def fMul (a b : Nat) : Nat := (vMul 10 false a b).1
def fFma (a b c : Nat) : Nat := (vFma 10 a b c).1
def fDiv (a b : Nat) : Nat := (vDiv 10 a b).1
def fSqrt (a : Nat) : Nat := (vSqrt 10 a).1

/-- 1.0, and the largest finite value. -/
def f32One : Nat := 0x3F800000
def f32Max : Nat := 0x7F7FFFFF

/-! ### The job record (R247) -/

/-- An update rule. -/
inductive Rule where
  | sgd | adamW | lion
deriving DecidableEq, Repr, Inhabited

/-- The RULE of a record; none for a reserved value. -/
def ruleOf (b : Bytes) : Option Rule :=
  if uAt b 0 1 = 1 then some .sgd else if uAt b 0 1 = 2 then some .adamW else if uAt b 0 1 = 3 then some .lion else none

def jobNesterov (b : Bytes) : Bool := bit (uAt b 1 1) 0
def jobMom16 (b : Bytes) : Bool := bit (uAt b 1 1) 1
def jobGfmt (b : Bytes) : Nat := uAt b 2 1
def jobGl (b : Bytes) : Int := toSigned 16 (uAt b 4 2)
def jobDefmask (b : Bytes) : Nat := uAt b 6 2
def jobCount (b : Bytes) : Nat := uAt b 8 8
def jobParam (b : Bytes) : Nat := uAt b 16 8
def jobGrad (b : Bytes) : Nat := uAt b 24 8
def jobMom1 (b : Bytes) : Nat := uAt b 32 8
def jobMom2 (b : Bytes) : Nat := uAt b 40 8
def jobMask (b : Bytes) : Nat := uAt b 48 8
def jobCopy (b : Bytes) : Nat := uAt b 56 8

/-- Bytes of a gradient, and of a moment. -/
def gradWidth (b : Bytes) : Nat := if jobGfmt b = 12 then 16 else if jobGfmt b = 9 then 2 else 4
def momWidth (b : Bytes) : Nat := if jobMom16 b then 2 else 4

/-- Are a record's fields free of reserved values and reserved bits (R247, R248)? -/
def jobFieldsOk (b : Bytes) : Bool :=
  (ruleOf b).isSome && uAt b 1 1 / 4 == 0 && [9, 10, 12].contains (jobGfmt b) && uAt b 3 1 == 0 && jobDefmask b / 64 == 0
    && decide (1 ≤ jobCount b) && decide (jobCount b ≤ 2 ^ 35) && allZero (slice b 92 36)

/-- The footprints that a job writes: address and bytes. -/
def jobWrites (b : Bytes) (r : Rule) : List (Nat × Nat) :=
  [(jobParam b, 4 * jobCount b), (jobMom1 b, momWidth b * jobCount b)]
    ++ (if r = .adamW then [(jobMom2 b, momWidth b * jobCount b)] else [])
    ++ (if jobCopy b = 0 then [] else [(jobCopy b, 2 * jobCount b)])

/-- The footprints that it only reads. -/
def jobReads (b : Bytes) : List (Nat × Nat) :=
  [(jobGrad b, gradWidth b * jobCount b)] ++ (if jobMask b = 0 then [] else [(jobMask b, cdiv (jobCount b) 8)])

/-- Do two footprints share a byte? -/
def meets (a b : Nat × Nat) : Bool := decide (a.1 < b.1 + b.2) && decide (b.1 < a.1 + a.2)

/-- No footprint of the list meets a later one, nor one of `rs`. -/
def disjoint : List (Nat × Nat) → List (Nat × Nat) → Bool
  | [], _ => true
  | w :: ws, rs => !(ws ++ rs).any (meets w) && disjoint ws rs

/-- What R248 finds in a record for slice `i`: reserved fields first, for footprints rest on them (log entry 31). -/
def jobFault (b : Bytes) (i : Nat) : Option StructFault :=
  match ruleOf b with
  | none => some .upd
  | some r =>
    let fs := jobWrites b r ++ jobReads b
    if !jobFieldsOk b then some .upd
    else if fs.any (fun f => f.1 % 64 != 0) then some .misalign
    else if fs.any (fun f => decide (f.1 < i * 0x2000000000) || decide ((i + 1) * 0x2000000000 < f.1 + f.2)) then
      some .address
    else if !disjoint (jobWrites b r) (jobReads b) then some .upd
    else none

/-! ### Hyperparameters (R253) -/

/-- LR, WD, GSCALE: NaN becomes 0, an infinity the largest finite value of its sign. -/
def clampRate (w : Nat) : Nat :=
  match fp32.decode w with
  | .nan => 0
  | .inf neg => if neg then f32Max + 2 ^ 31 else f32Max
  | .fin _ _ _ => w

/-- Is a word a NaN, or a negative value? -/
def nanOrNeg (w : Nat) : Bool :=
  match fp32.decode w with
  | .nan => true
  | .inf neg => neg
  | .fin neg m _ => neg && m != 0

/-- EPS: NaN and negative values become 0, +Inf the largest finite value. -/
def clampEps (w : Nat) : Nat := if nanOrNeg w then 0 else if w = 0x7F800000 then f32Max else w

/-- B1, B2: NaN and negative values become 0, values above 1 - 2^-24 become that. -/
def clampBeta (w : Nat) : Nat := if nanOrNeg w then 0 else if w % 2 ^ 31 = w ∧ 0x3F7FFFFF < w then 0x3F7FFFFF else w

/-- The hyperparameters of a job. -/
structure Hyper where
  lr : Nat
  wd : Nat
  b1 : Nat
  b2 : Nat
  eps : Nat
  gscale : Nat
  t : Nat
deriving DecidableEq, Repr, Inhabited

/-- The values a job asks for: its record's, or the defaults that its DEFMASK takes. -/
def JobRun.asked (j : JobRun) : Hyper :=
  let b := j.record
  let pick (i off d : Nat) : Nat := if bit (jobDefmask b) i then d else uAt b off 4
  { lr := pick 0 72 j.lr, wd := pick 1 76 j.wd, b1 := pick 2 80 j.b1, b2 := pick 3 84 j.b2, eps := pick 4 88 j.eps,
    gscale := pick 5 68 j.gscale, t := uAt b 64 4 }

/-- The values it uses. -/
def Hyper.clamped (h : Hyper) : Hyper :=
  { lr := clampRate h.lr, wd := clampRate h.wd, b1 := clampBeta h.b1, b2 := clampBeta h.b2, eps := clampEps h.eps,
    gscale := clampRate h.gscale, t := max 1 h.t }

/-- Clamped fields among those a rule uses. -/
def Hyper.clamps (h : Hyper) (r : Rule) : Nat :=
  let c := h.clamped
  let n (used : Bool) (a b : Nat) : Nat := if used && a != b then 1 else 0
  n true h.lr c.lr + n true h.wd c.wd + n true h.gscale c.gscale + n true h.b1 c.b1 + n (r != .sgd) h.b2 c.b2
    + n (r == .adamW) h.eps c.eps + n (r == .adamW) h.t c.t

/-! ### Arithmetic (R249 to R252) -/

/-- The Q62 power of a bias correction over the bits of t, most significant first. -/
def powerQ62 (beta : Int) : List Bool → Int → Int
  | [], r => r
  | b :: bs, r =>
    let r := mulQ r r 62
    powerQ62 beta bs (if b then mulQ r beta 62 else r)

/-- 1 - beta^t in FP32. -/
def biasCorrection (beta t : Nat) : Nat :=
  let bq := match fp32.decode beta with
    | .fin neg m e => toQ neg m e 62
    | _ => 0
  (drainFloat 10 false (2 ^ 62 - powerQ62 bq (bitsDown (Nat.log2 t + 1) t) (2 ^ 62)) 0 (-62)).1

/-- The sign that Lion takes of a value: a zero or NaN passes. -/
def lionSign (c : Nat) : Nat :=
  match fp32.decode c with
  | .nan => c
  | .inf neg => if neg then 0xBF800000 else f32One
  | .fin neg m _ => if m = 0 then c else if neg then 0xBF800000 else f32One

/-- New p, first and second moment of an element from gradient, p and moments. -/
def updElement (r : Rule) (nesterov : Bool) (h : Hyper) (g p m v : Nat) : Nat × Nat × Nat :=
  let ob1 := fSub f32One h.b1
  let ob2 := fSub f32One h.b2
  match r with
  | .sgd =>
    let g := fFma h.wd p g
    let b := fFma h.b1 m g
    let d := if nesterov then fFma h.b1 b g else b
    (fSub p (fMul h.lr d), b, v)
  | .adamW =>
    let m := fFma h.b1 m (fMul ob1 g)
    let v := fFma h.b2 v (fMul ob2 (fMul g g))
    let u := fDiv (fDiv m (biasCorrection h.b1 h.t)) (fAdd (fSqrt (fDiv v (biasCorrection h.b2 h.t))) h.eps)
    (fSub p (fMul h.lr (fFma h.wd p u)), m, v)
  | .lion =>
    let c := fFma h.b1 m (fMul ob1 g)
    (fSub p (fMul h.lr (fFma h.wd p (lionSign c))), fFma h.b2 m (fMul ob2 g), v)

/-- A gradient as FP32. -/
def gradOf (b : Bytes) (w : Nat) : Nat :=
  if jobGfmt b = 12 then (drainFloat 10 false (toSigned 128 w) 0 (jobGl b)).1
  else if jobGfmt b = 9 then w * 65536 else w

/-- A moment as FP32, and the bytes it is written as. -/
def momOf (b : Bytes) (w : Nat) : Nat := if jobMom16 b then w * 65536 else w
def momBytes (b : Bytes) (w : Nat) : Bytes := if jobMom16 b then le 2 (vConvert 10 9 false w).1 else le 4 w

/-- One element of a job: what it reads, and the writes it makes. -/
def State.updWrites (s : State) (b : Bytes) (r : Rule) (h : Hyper) (e : Nat) : Except Stop (List (Nat × Bytes)) := do
  let p ← s.readHbm (jobParam b + 4 * e) 4
  let g ← s.readHbm (jobGrad b + gradWidth b * e) (gradWidth b)
  let m ← s.readHbm (jobMom1 b + momWidth b * e) (momWidth b)
  let v ← if r = .adamW then s.readHbm (jobMom2 b + momWidth b * e) (momWidth b) else .ok []
  let k ← if jobMask b = 0 then .ok [0] else s.readHbm (jobMask b + e / 8) 1
  let frozen := bit (ofLe k) (e % 8)
  let n := updElement r (jobNesterov b) h (fMul (gradOf b (ofLe g)) h.gscale) (ofLe p) (momOf b (ofLe m)) (momOf b (ofLe v))
  let p' := if frozen then ofLe p else n.1
  .ok ((if frozen then []
      else [(jobParam b + 4 * e, le 4 p'), (jobMom1 b + momWidth b * e, momBytes b n.2.1)]
        ++ (if r = .adamW then [(jobMom2 b + momWidth b * e, momBytes b n.2.2)] else []))
    ++ (if jobCopy b = 0 then [] else [(jobCopy b + 2 * e, le 2 (vConvert 10 9 false p').1)]))

/-- HBM writes in order. -/
def State.writeAll : State → List (Nat × Bytes) → Except Stop State
  | s, [] => .ok s
  | s, (a, b) :: r =>
    match s.writeHbm a b with
    | .error e => .error e
    | .ok s => State.writeAll s r

/-- `n` elements of a job from element `e` on. -/
def State.updElements (b : Bytes) (r : Rule) (h : Hyper) : Nat → Nat → State → Except Stop State
  | 0, _, s => .ok s
  | n + 1, e, s =>
    match s.updWrites b r h e with
    | .error z => .error z
    | .ok ws => match s.writeAll ws with
      | .error z => .error z
      | .ok s => State.updElements b r h n (e + 1) s

/-! ### UPD JOB -/

/-- Room for a job in the queue of slice `i` (R244). -/
def State.engineRoom (s : State) (i : Nat) : Bool := decide ((s.engine i).queue.length < 64)

/-- UPD JOB: the job joins its slice's queue; a full queue holds it back. A part without engines ends the run with
REFUSED_NOT_PRESENT (R3, R258). -/
def updJobEffect : Effect := fun x y _ d s =>
  let i := fld d 183 178
  let a := fld d 177 126
  if s.engineCount = 0 then .error (.fault .notPresent)
  else if a % 64 ≠ 0 then .error (.fault .misalign)
  else if 48 ≤ i ∨ a < i * 0x2000000000 ∨ (i + 1) * 0x2000000000 < a + 128 then .error (.fault .address)
  else if !s.engineRoom i then .ok s
  else
    let c := s.cell x y
    let j : Job := { x := x, y := y, n := c.updSent, addr := a }
    .ok { s.setCell x y { c with updSent := c.updSent + 1 } with
      engines := Tab.set s.engines i { s.engine i with queue := (s.engine i).queue ++ [j] } }

/-! ### Engines -/

/-- The defaults in force with a record (R244, R254). -/
def State.jobRun (s : State) (j : Job) (b : Bytes) : JobRun :=
  { job := j, record := b, lr := s.nat 0x2C01 1, wd := s.nat 0x2C01 2, b1 := s.nat 0x2C01 3, b2 := s.nat 0x2C01 4,
    eps := s.nat 0x2C01 5, gscale := s.nat 0x2C01 6 }

/-- Counts a job's clamped fields; a clamped T is counted, and logged the first time in the run on a slice (R253). -/
def State.countJobClamps (s : State) (i : Nat) (j : JobRun) (r : Rule) : State :=
  let s := s.countRow (clamps := j.asked.clamps r)
  if r = .adamW ∧ j.asked.t = 0 then
    let s := { s with row := { s.row with tclamps := s.row.tclamps + 1 } }
    match s.run with
    | some n =>
      if n.tSlices.contains i then s
      else { s with run := some { n with tSlices := n.tSlices ++ [i] } }.log .updEngine 1 0x2C00 1 0 0 1
    | none => s
  else s

/-- The engine of slice `i` starts its next job. -/
def State.startJob (s : State) (i : Nat) (j : Job) (rest : List Job) : State :=
  match s.readHbm j.addr 128 with
  | .error e => s.stop j.x j.y e
  | .ok b =>
    match jobFault b i, ruleOf b with
    | none, some r =>
      let run := s.jobRun j b
      let rs := s.distinctRegions.filter (fun g => g.attr == 3 && (jobWrites b r).any (meets (g.base, g.len)))
      let s := { s with hbm := { s.hbm with jobRegions := s.hbm.jobRegions ++ rs.filter (fun g => !s.hbm.jobRegions.contains g) } }
      ({ s with engines := Tab.set s.engines i { queue := rest, running := some run } }).countJobClamps i run r
    | some f, _ => s.raiseFault j.x j.y f
    | none, none => s.raiseFault j.x j.y .upd

/-- The next job of an engine starts: row running, queue not empty, none running. -/
def execUpdJobStart (i : Nat) (s : State) : Result :=
  s.unit "engine" i (decide (i < 48)) (fun s =>
    match (s.engine i).queue, (s.engine i).running with
    | j :: rest, none => if s.rowRuns then s.startJob i j rest else s
    | _, _ => s)

/-- Job `n` of a cell is reported done: the count rises in program order (R113). -/
def CellSt.jobDone (c : CellSt) (n : Nat) : CellSt :=
  let fin := n :: c.updFinished
  let k := raiseCount (fin.length + 1) c.updCount fin
  { c with updFinished := fin.filter (fun m => decide (k ≤ m)), updCount := k }

/-- The running job ends: its writes have landed, and the engine reports to the cell. -/
def State.finishJob (s : State) (i : Nat) (j : JobRun) : State :=
  match ruleOf j.record with
  | none => s
  | some r =>
    match State.updElements j.record r j.asked.clamped (jobCount j.record) 0 s with
    | .error e => s.stop j.job.x j.job.y e
    | .ok s =>
      let s := { s with
        engines := Tab.set s.engines i { s.engine i with running := none }
        row := { s.row with jobs := s.row.jobs + 1 } }
      (s.setCell j.job.x j.job.y ((s.cell j.job.x j.job.y).jobDone j.job.n)).tryEnd j.job.x j.job.y

def execUpdJobDone (i : Nat) (s : State) : Result :=
  s.unit "engine" i (decide (i < 48)) (fun s =>
    match (s.engine i).running with
    | some j => if s.rowRuns then s.finishJob i j else s
    | none => s)

/-! ### HBM writes of a row -/

/-- Who a blocked write is laid to: the cell, or the cell whose job the engine runs. -/
def State.writerCell (s : State) : HbmWriter → Nat × Nat
  | .cell x y => (x, y)
  | .engine i => match (s.engine i).running with
    | some j => (j.job.x, j.job.y)
    | none => (0, 0)

/-- Does a writer act: a placed cell, or an engine that runs a job in its slice's reach? -/
def State.writerActs (s : State) : HbmWriter → Bool
  | .cell x y => s.cellRuns x y
  | .engine i => s.rowRuns && (s.engine i).running.isSome

/-- A writer's write: an engine reaches only its own slice (R243, R248). -/
def State.writerWrite (s : State) (w : HbmWriter) (addr : Nat) (data : Bytes) : Except Stop State :=
  match w with
  | .cell _ _ => s.writeHbm addr data
  | .engine i =>
    if addr < i * 0x2000000000 ∨ (i + 1) * 0x2000000000 < addr + data.length then .error (.fault .address)
    else s.writeHbm addr data

/-- A write to HBM inside a row, under the lifeline attribute of its region. -/
def execHbmWrite (w : HbmWriter) (addr : Nat) (data : Bytes) (s : State) : Result :=
  let ok := match w with
    | .cell x y => isCell x y
    | .engine i => decide (i < 48)
  s.unit "HBM writer" addr ok (fun s =>
    if s.writerActs w then s.settle (s.writerCell w).1 (s.writerCell w).2 (s.writerWrite w addr data) else s)

/-- UPD JOB as a command of a cell. -/
def execUpdJob (x y : Nat) (d : Desc) (s : State) : Result := s.cellOp x y d updJobEffect

end Sys2Proof.Machine
end

