-- ==== Sys2Proof/Machine/Sequencer.lean ====
section
/-!
DEFINITION. The sequencer of a cell: fetch and issue, and the start and completion of queued descriptors (R59, R60, R98,
R111, R113, R126, R131).
-/
namespace Sys2Proof.Machine

/-! ### What a descriptor does -/

def matEffect (op : Nat) : Option Effect :=
  if op = 1 then some matWloadEffect
  else if op = 2 then some matStreamEffect
  else if op = 3 then some matDrainEffect
  else if op = 4 then some matGaugeEffect
  else if op = 5 then some matGcombineEffect
  else none

def vecEffect (op : Nat) : Option Effect :=
  if op = 0x01 then some vecAddEffect
  else if op = 0x02 then some vecSubEffect
  else if op = 0x03 then some vecMulEffect
  else if op = 0x04 then some vecFmaEffect
  else if op = 0x05 then some vecDivEffect
  else if op = 0x06 then some vecSqrtEffect
  else if op = 0x07 then some vecMinEffect
  else if op = 0x08 then some vecMaxEffect
  else if op = 0x09 then some vecCmpEffect
  else if op = 0x0A then some vecSelectEffect
  else if op = 0x0B then some vecAndEffect
  else if op = 0x0C then some vecOrEffect
  else if op = 0x0D then some vecXorEffect
  else if op = 0x0E then some vecConvertEffect
  else if op = 0x10 then some vecSumEffect
  else if op = 0x11 then some vecRmaxEffect
  else if op = 0x12 then some vecRminEffect
  else if op = 0x13 then some vecArgmaxEffect
  else if op = 0x14 then some vecArgminEffect
  else if op = 0x20 then some vecExpEffect
  else if op = 0x21 then some vecLogEffect
  else if op = 0x22 then some vecRecipEffect
  else if op = 0x23 then some vecRsqrtEffect
  else if op = 0x24 then some vecTanhEffect
  else if op = 0x25 then some vecSigmoidEffect
  else if op = 0x26 then some vecErfEffect
  else if op = 0x28 then some vecPhiloxEffect
  else if op = 0x30 then some vecSortEffect
  else if op = 0x31 then some vecTopkEffect
  else none

def movEffect (op : Nat) : Option Effect :=
  if op = 1 then some movCopyEffect
  else if op = 2 then some movPermuteEffect
  else if op = 3 then some movGatherEffect
  else if op = 4 then some movScatterEffect
  else if op = 5 then some movScatterAddEffect
  else if op = 6 then some movReshardEffect
  else none

def synEffect (op : Nat) : Option Effect :=
  if op = 1 then some synSendEffect
  else if op = 2 then some synRecvEffect
  else if op = 3 then some synRecvaddEffect
  else if op = 4 then some synBarrierEffect
  else if op = 5 then some synWaitmarkEffect
  else none

def chkEffect (op : Nat) : Option Effect :=
  if op = 1 then some chkInsertEffect else if op = 2 then some chkVerifyEffect else none

def ctlEffectOf (op : Nat) : Option Effect :=
  if op = 0x00 then some ctlNopEffect
  else if op = 0x01 then some ctlEndEffect
  else if op = 0x02 then some ctlLiEffect
  else if op = 0x03 then some ctlAddEffect
  else if op = 0x04 then some ctlSubEffect
  else if op = 0x05 then some ctlMulEffect
  else if op = 0x06 then some ctlAndEffect
  else if op = 0x07 then some ctlOrEffect
  else if op = 0x08 then some ctlXorEffect
  else if op = 0x09 then some ctlShlEffect
  else if op = 0x0A then some ctlShrEffect
  else if op = 0x0B then some ctlSraEffect
  else if op = 0x0C then some ctlAddiEffect
  else if op = 0x0D then some ctlMinEffect
  else if op = 0x0E then some ctlMaxEffect
  else if op = 0x10 then some ctlCmpEffect
  else if op = 0x11 then some ctlCmpiEffect
  else if op = 0x18 then some ctlBrEffect
  else if op = 0x19 then some ctlJmpEffect
  else if op = 0x1A then some ctlLoopEffect
  else if op = 0x1B then some ctlCallEffect
  else if op = 0x1C then some ctlRetEffect
  else if op = 0x20 then some ctlLdEffect
  else if op = 0x21 then some ctlStEffect
  else none

/-- CLASS and OP of a descriptor (R112). -/
def descClass (d : Desc) : Nat := fld d 255 252
def descOp (d : Desc) : Nat := fld d 251 244

/-- The effect of a descriptor by CLASS and OP; none for what R112 does not define. -/
def effectOf (d : Desc) : Option Effect :=
  let op := descOp d
  if descClass d = 0 then ctlEffectOf op
  else if descClass d = 1 then matEffect op
  else if descClass d = 2 then vecEffect op
  else if descClass d = 3 then movEffect op
  else if descClass d = 4 then synEffect op
  else if descClass d = 5 then chkEffect op
  else if descClass d = 6 then (if op = 1 then some updJobEffect else none)
  else if descClass d = 7 then (if op = 1 then some hntHeavyEffect else none)
  else if descClass d = 8 then (if op = 1 then some smpSampleEffect else none)
  else none

/-- The unit whose queue a descriptor enters; none for CTL, UPD and HNT, which the sequencer itself handles (R58, R59). -/
def unitOf (d : Desc) : Option UnitId :=
  if descClass d = 1 then some .mat
  else if descClass d = 2 ∨ descClass d = 8 then some .vec
  else if descClass d = 3 then some .mov
  else if descClass d = 4 then some .syn
  else if descClass d = 5 then some .chk
  else none

/-- The depth of a queue (R59). -/
def queueDepth : UnitId → Nat
  | .chk => 8
  | _ => 16

/-! ### Waits (R112, R113) -/

/-- The completion count that a wait field names. -/
def CellSt.countOf (c : CellSt) (u : Nat) : Nat :=
  if u = 1 then c.mat.count
  else if u = 2 then c.vec.count
  else if u = 3 then c.mov.count
  else if u = 4 then c.syn.count
  else if u = 5 then c.chk.count
  else if u = 6 then c.updCount
  else 0

/-- How many descriptors of each unit, and UPD jobs, have been issued. -/
def CellSt.issuedAll (c : CellSt) : List Nat :=
  [c.mat.issued, c.vec.issued, c.mov.issued, c.syn.issued, c.chk.issued, c.updSent]

/-- Have the first `before` descriptors of each unit all completed? -/
def CellSt.passed (c : CellSt) (before : List Nat) : Bool :=
  (List.range 6).all (fun i => decide (before.getD i 0 ≤ c.countOf (i + 1)))

/-- Are a descriptor's waits and its FENCE satisfied, `before` counting what was issued before it? -/
def CellSt.ready (c : CellSt) (d : Desc) (before : List Nat) : Bool :=
  (fld d 243 241 == 0 || decide (fld d 240 216 ≤ c.countOf (fld d 243 241)))
    && (fld d 215 213 == 0 || decide (fld d 212 188 ≤ c.countOf (fld d 215 213)))
    && (fld d 187 187 == 0 || c.passed before)

/-- Does a descriptor break a rule of the common fields (R112)? -/
def commonOk (d : Desc) : Bool :=
  (effectOf d).isSome && fld d 243 241 != 7 && fld d 215 213 != 7 && fld d 186 184 == 0

/-! ### Fetch and issue -/

/-- The descriptor at the sequencer's counter: the program area of the cell holds it (R111). -/
def State.fetchDesc (s : State) (x y : Nat) (e : CellEntry) : Desc :=
  BitVec.ofNat 256 (ofLe (s.scratch x y (e.progOff + 32 * (s.cell x y).pc) 32))

/-- Must the sequencer hold a descriptor of its own back: for its waits, for room at the engine (R135, R244)? -/
def State.holdsOwn (s : State) (c : CellSt) (d : Desc) : Bool :=
  !c.ready d c.issuedAll || (descClass d == 6 && !s.engineRoom (fld d 183 178 % 48))

/-- A descriptor that the sequencer handles itself, when nothing holds it back: CTL moves the counter itself. -/
def State.issueOwn (s : State) (x y : Nat) (d : Desc) (eff : Effect) : State :=
  let c := s.cell x y
  if s.holdsOwn c d then s
  else match eff x y c.s d s with
    | .error e => s.stop x y e
    | .ok s => if descClass d = 0 then s else s.setCell x y (s.cell x y).next

/-- A descriptor joins its unit's queue when that has room. -/
def CellSt.enqueue (c : CellSt) (u : UnitId) (d : Desc) : CellSt :=
  let q := c.unitQ u
  if queueDepth u ≤ q.q.length then c
  else (c.setUnitQ u { q with q := q.q ++ [{ d := d, regs := c.s, before := c.issuedAll }], issued := q.issued + 1 }).next

/-- Issues the next descriptor of a running cell. -/
def State.issue (s : State) (x y : Nat) : State :=
  match s.cellEntry x y with
  | none => s
  | some e =>
    if e.progLen ≤ (s.cell x y).pc then s.raiseFault x y .address
    else
      let d := s.fetchDesc x y e
      if !crcOk d then
        (s.setCell x y { s.cell x y with reload := true }).raise { cause := 0x38, x := x, y := y }
      else match effectOf d with
        | none => s.raiseFault x y .descriptor
        | some eff =>
          if !commonOk d then s.raiseFault x y .descriptor
          else match unitOf d with
            | none => s.issueOwn x y d eff
            | some u => s.setCell x y ((s.cell x y).enqueue u d)

def execSequencerIssue (x y : Nat) (s : State) : Result :=
  s.unit "cell" (cellNo x y) (isCell x y) (fun s =>
    if s.cellRuns x y ∧ (s.cell x y).phase = .running then s.issue x y else s)

/-! ### Start -/

/-- What the completion of a descriptor waits on, taken after its effect: the use of a SEND, the generation of a BARRIER. -/
def CellSt.auxOf (c : CellSt) (d : Desc) : Nat :=
  if descClass d = 4 ∧ descOp d = 1 then Tab.getD c.posted (postKey false (synDir d) (synStream d)) 0
  else if descClass d = 4 ∧ descOp d = 4 then Tab.getD c.arrived (synChan d) 0
  else if descClass d = 3 ∧ descOp d = 6 then c.resharded.count (fld d 94 83, fld d 82 71)
  else 0

/-- Does a descriptor write through a tensor descriptor: a MOV but RESHARD, a transform drain? -/
def writesTensor (d : Desc) : Bool :=
  (descClass d == 3 && descOp d != 6) || (descClass d == 1 && descOp d == 3 && fld d 135 128 != 0)

/-- Does an operand name a tensor outside the cell's own window, which loose requests reach? -/
def State.remoteTensor (s : State) (x y : Nat) (r : Regs) (f : Nat) : Bool :=
  match s.readTDesc x y r f with
  | .ok t => cellAt t.base != some (cellNo x y)
  | .error _ => false

/-- Would a descriptor make a loose request: a MOV or a transform drain with a remote operand? -/
def State.asksLoose (s : State) (x y : Nat) (i : Issued) : Bool :=
  if descClass i.d = 3 ∧ descOp i.d ≠ 6 then
    s.remoteTensor x y i.regs (fld i.d 183 160) || s.remoteTensor x y i.regs (fld i.d 159 136)
      || (decide (3 ≤ descOp i.d) && s.remoteTensor x y i.regs (fld i.d 135 112))
  else writesTensor i.d && s.remoteTensor x y i.regs (fld i.d 183 160)

/-- Must the head of a unit's queue wait though its counts are reached: a SYN for its turn or data, a WLOAD for the shadow
register that a loaded tile still fills, a MOV for the MOV before it (R62, R131, R166)? -/
def State.unitHolds (s : State) (x y : Nat) (d : Desc) : Bool :=
  (descClass d == 4 && s.synWaits x y d) || (descClass d == 1 && descOp d == 1 && (s.cell x y).shadow.isSome)
    || (descClass d == 3 && !(s.cell x y).mov.running.isEmpty)

/-- Must a descriptor wait for one of the cell's 16 outstanding loose requests to end before it makes another (R135)? -/
def State.looseHolds (s : State) (x y : Nat) (i : Issued) : Bool := decide (16 ≤ (s.cell x y).loose) && s.asksLoose x y i

/-- Starts a descriptor: it leaves its queue, and its effect takes place. -/
def State.startDesc (s : State) (x y : Nat) (u : UnitId) (i : Issued) (rest : List Issued) : State :=
  let q := (s.cell x y).unitQ u
  let s := s.setCell x y ((s.cell x y).setUnitQ u { q with q := rest, started := q.started + 1 })
  match effectOf i.d with
  | none => s.raiseFault x y .descriptor
  | some eff => match eff x y i.regs i.d s with
    | .error e => s.stop x y e
    | .ok s =>
      let c := s.cell x y
      let q' := c.unitQ u
      s.setCell x y (c.setUnitQ u { q' with running := q'.running ++ [{ n := q.started, d := i.d, aux := c.auxOf i.d }] })

def execDescriptorStart (x y : Nat) (u : UnitId) (s : State) : Result :=
  s.unit "cell" (cellNo x y) (isCell x y) (fun s =>
    match ((s.cell x y).unitQ u).q with
    | [] => s
    | i :: rest =>
      if s.cellRuns x y ∧ (s.cell x y).ready i.d i.before ∧ !s.unitHolds x y i.d ∧ !s.looseHolds x y i then s.startDesc x y u i rest
      else s)

/-! ### Completion -/

/-- Has a started descriptor reached its completion point (Table: Completion points)? -/
def State.reached (s : State) (x y : Nat) (e : Started) : Bool :=
  let d := e.d
  if descClass d = 3 ∧ descOp d = 6 then
    match s.runPattern with
    | none => true
    | some p => !inPlan p.mapTab (fld d 94 83) (fld d 82 71) x y || s.reshardDone p.mapTab (fld d 94 83) (fld d 82 71) e.aux
  else if descClass d ≠ 4 then true
  else if descOp d = 1 then
    synDir d == 4 || (match neighbour x y (synDir d) with
      | some (nx, ny) =>
        decide (e.aux ≤ Tab.getD (s.cell nx ny).posted (postKey true (opposite (synDir d)) (synStream d)) 0)
      | none => true)
  else if descOp d = 4 then decide (e.aux ≤ Tab.getD (s.cell x y).released (synChan d) 0)
  else if descOp d = 5 then decide (s.row.startMark + fld d 100 77 ≤ s.cellTime x y)
  else true

def execDescriptorComplete (x y : Nat) (u : UnitId) (n : Nat) (s : State) : Result :=
  s.unit "cell" (cellNo x y) (isCell x y) (fun s =>
    let c := s.cell x y
    match (c.unitQ u).running.find? (fun e => e.n == n) with
    | none => s
    | some e =>
      if s.cellRuns x y ∧ s.reached x y e then (s.setCell x y (c.setUnitQ u ((c.unitQ u).finish n))).tryEnd x y else s)

end Sys2Proof.Machine
end

