-- ==== Sys2Proof/Machine/DescRules.lean ====
section
/-!
DEFINITION. The rules that a descriptor's fixed fields obey, judged at load (R106, R107, R111, R112, R115 to R124), and the WLOAD that
supplies a STREAM on every path of a program (R116).
-/
namespace Sys2Proof.Machine

/-! ### Fields by class -/

/-- The lowest bit of the class fields that a descriptor's table defines: below it, down to bit 16, all is reserved. -/
def reservedTop (d : Desc) : Nat :=
  let op := descOp d
  if descClass d = 0 then 71
  else if descClass d = 1 then
    if op = 1 then 121 else if op = 2 then 27 else if op = 3 then 104 else if op = 4 then 92 else 99
  else if descClass d = 2 then 33
  else if descClass d = 3 then 71
  else if descClass d = 4 then 77
  else if descClass d = 5 then 107
  else if descClass d = 6 then 126
  else if descClass d = 7 then 146
  else 75

/-- Are the reserved class bits zero? -/
def reservedClear (d : Desc) : Bool := fld d (reservedTop d - 1) 16 == 0

/-- May a format be a MAT operand (R115)? -/
def matOperand (c : Nat) : Bool := decide (c ≤ 9)

/-- A valid K that the format alone bounds: only a double-rate format can have a tile K of 64 (R61). -/
def validKOk (c vkm1 : Nat) : Bool := decide (vkm1 < 32) || halfFmt c

/-- MAT (R35, R36, R64, R115, R116, R162). -/
def matFieldsOk (d : Desc) : Bool :=
  let op := descOp d
  if op = 1 then matOperand (fld d 135 132) && validKOk (fld d 135 132) (fld d 131 126)
  else if op = 2 then
    matOperand (fld d 87 84) && validKOk (fld d 87 84) (fld d 37 32) && fld d 62 38 != 0 && decide (fld d 62 38 ≤ 2 ^ 24)
      && decide (fld d 72 64 + cdiv (fld d 83 73 + 1) 4 ≤ 512)
      && (fld d 87 84 != 8 || (fld d 135 112 == 0 && fld d 111 88 == 0))
  else if op = 3 then
    decide (fld d 141 138 ≤ 12) && fld d 141 138 != 8 && decide (fld d 135 128 ≤ 2)
      && decide (fld d 159 151 + fld d 150 142 + 1 ≤ 512)
  else if op = 4 then
    matOperand (fld d 135 132) && fld d 135 132 != 8 && fld d 117 93 != 0 && decide (fld d 117 93 ≤ 2 ^ 24)
      && (fld d 92 92 == 0 || halfFmt (fld d 135 132))
  else true

/-- SFMT and DFMT of a VEC operation (R117, Table: VEC operations). -/
def vecFormatsOk (op c t form : Nat) : Bool :=
  if [0x01, 0x02, 0x03, 0x07, 0x08, 0x11, 0x12].contains op then vAll.contains c && t == c
  else if [0x04, 0x05, 0x06, 0x20, 0x21, 0x22, 0x23, 0x24, 0x25, 0x26].contains op then vFloats.contains c && t == c
  else if op = 0x09 then vAll.contains c && t == 8
  else if op = 0x0A then c == 8 && vAll.contains t
  else if [0x0B, 0x0C, 0x0D].contains op then vInts.contains c && t == c
  else if op = 0x0E then vAll.contains c && vAll.contains t
  else if op = 0x10 then vAll.contains c && (t == c || t == 12)
  else if [0x13, 0x14].contains op then vAll.contains c && t == 11
  else if op = 0x28 then c == 0 && (if form = 0 then t == 11 else vFloats.contains t)
  else [9, 10, 11].contains c && t == c

/-- VEC (R50, R76, R117). -/
def vecFieldsOk (d : Desc) : Bool :=
  let op := descOp d
  fld d 54 53 != 3 && fld d 52 50 != 7 && fld d 34 33 != 3
    && (fld d 54 53 != 1 || fld d 159 136 % 524288 == 0)
    && vecFormatsOk op (vSfmt d) (vDfmt d) (fld d 34 33)
    && (if op = 0x30 then decide (vN d ≤ 65536) else if (0x10 ≤ op ∧ op ≤ 0x14) ∨ op = 0x31 then decide (vN d ≤ 2 ^ 24) else true)

/-- MOV (R118, R165, R178). -/
def movFieldsOk (d : Desc) : Bool :=
  let op := descOp d
  let indexed := op == 3 || op == 4 || op == 5
  decide (fld d 111 109 ≤ 5) && fld d 108 107 != 3
    && (indexed || (fld d 135 112 == 0 && fld d 111 109 == 0 && fld d 108 107 == 0))
    && (if op = 2 then isPerm4 ((List.range 4).map (fun i => bits (fld d 106 95) (3 * i + 2) (3 * i))) else fld d 106 95 == 0)
    && (if op = 6 then fld d 183 160 == 0 && fld d 159 136 == 0 else fld d 94 83 == 0 && fld d 82 71 == 0)

/-- Can a number of lines be a sum of exact-form tiles of 259 and 263 lines (R44, R119)? -/
def wholeTiles (n : Nat) : Bool :=
  (List.range (n / 259 + 1)).any (fun a => (n - 259 * a) % 263 == 0)

/-- SYN (R106, R119). -/
def synFieldsOk (d : Desc) : Bool :=
  decide (synDir d ≤ 4) && (synPacked d || fld d 126 115 == 0)
    && (!(decide (descOp d ≤ 3) && synPsum d && !synPacked d) || wholeTiles (synLines d))

/-- The fields of a descriptor that are fixed in it, but for UPD's (R107). -/
def descFieldsOk (d : Desc) : Bool :=
  if descClass d = 0 then decide (ctlCond d ≤ 5)
  else if descClass d = 1 then matFieldsOk d
  else if descClass d = 2 then vecFieldsOk d
  else if descClass d = 3 then movFieldsOk d
  else if descClass d = 4 then synFieldsOk d
  else if descClass d = 5 then chkOk d
  else if descClass d = 8 then vFloats.contains (fld d 78 75)
  else true

/-- Why a descriptor is refused at load: its status, none when its fixed fields are in order. -/
def State.descRefusal (s : State) (d : Desc) : Option Nat :=
  if !crcOk d || !commonOk d || !reservedClear d || !descFieldsOk d then some stMalformed
  else if descClass d = 6 then
    let i := fld d 183 178
    let a := fld d 177 126
    if a % 64 ≠ 0 then some stMisaligned
    else if 48 ≤ i ∨ a < i * 0x2000000000 ∨ (i + 1) * 0x2000000000 < a + 128 ∨ !s.hbmOk a 128 then some stAddress
    else none
  else none

/-! ### The WLOAD of a STREAM (R116) -/

/-- The last WLOAD before a descriptor over the paths found so far: none of the row, one descriptor, or not the same on
every path. -/
inductive LastW where
  | no
  | one (i : Nat)
  | mixed
deriving DecidableEq, Repr, Inhabited

/-- What two paths agree on. -/
def LastW.join (a b : LastW) : LastW := if a = b then a else .mixed

/-- The joined fact of a descriptor that a path reaches. -/
def reach (t : Tab LastW) (j : Nat) (v : LastW) : Tab LastW :=
  match Tab.get? t j with
  | none => Tab.set t j v
  | some w => if w.join v = w then t else Tab.set t j (w.join v)

/-- The descriptors that may follow descriptor `i`: BR and LOOP both ways, JMP and CALL to the target, RET to the descriptor
after every CALL, END nowhere. -/
def successors (calls : List Nat) (i : Nat) (d : Desc) : List Int :=
  let op := descOp d
  let t : Int := (i : Int) + ctlTarget d
  if descClass d ≠ 0 then [(i : Int) + 1]
  else if op = 0x01 then []
  else if op = 0x18 ∨ op = 0x1A then [(i : Int) + 1, t]
  else if op = 0x19 ∨ op = 0x1B then [t]
  else if op = 0x1C then calls.map (fun (c : Nat) => (c : Int))
  else [(i : Int) + 1]

/-- What is last after descriptor `i`: `mark` says whether it takes the place (true), empties it (false) or leaves it. -/
def lastAfter (mark : Desc → Option Bool) (i : Nat) (d : Desc) (v : LastW) : LastW :=
  match mark d with
  | some true => .one i
  | some false => .no
  | none => v

/-- One round over a program: every reached descriptor hands its fact on. -/
def flowRound (mark : Desc → Option Bool) (calls : List Nat) (prog : List (Nat × Desc)) (n : Nat) (t : Tab LastW) : Tab LastW :=
  prog.foldl (fun t e => match Tab.get? t e.1 with
    | none => t
    | some v => (successors calls e.1 e.2).foldl (fun t j =>
        if 0 ≤ j ∧ j < (n : Int) then reach t j.toNat (lastAfter mark e.1 e.2 v) else t) t) t

/-- Rounds until nothing changes; a descriptor's fact changes at most twice. -/
def flowFix (mark : Desc → Option Bool) (calls : List Nat) (prog : List (Nat × Desc)) (n : Nat) : Nat → Tab LastW → Tab LastW
  | 0, t => t
  | fuel + 1, t =>
    let u := flowRound mark calls prog n t
    if u = t then t else flowFix mark calls prog n fuel u

/-- What is last before each descriptor of a program entered at `entry`. -/
def lastBefore (mark : Desc → Option Bool) (prog : List Desc) (entry : Nat) : Tab LastW :=
  let es := (List.range prog.length).zip prog
  let calls := (es.filter (fun e => descClass e.2 == 0 && descOp e.2 == 0x1B)).map (fun e => e.1 + 1)
  flowFix mark calls es prog.length (2 * prog.length + 1) [(entry, .no)]

/-- A WLOAD takes the place of the last one. -/
def wloadMark (d : Desc) : Option Bool := if descClass d = 1 ∧ descOp d = 1 then some true else none

/-- The last WLOADs of a program entered at `entry`. -/
def lastWloads (prog : List Desc) (entry : Nat) : Tab LastW := lastBefore wloadMark prog entry

/-- Do a STREAM and the WLOAD that supplies it form a pair, with valid K within its tile K (R32, R61)? -/
def pairFieldsOk (w d : Desc) : Bool :=
  match pairTileK (fld d 87 84) (fld w 135 132) with
  | none => false
  | some tk => decide (fld d 37 32 < tk) && decide (fld w 131 126 < tk)

/-- Do all STREAMs whose WLOAD is fixed at load pair with it? -/
def pairsOk (prog : List Desc) (entry : Nat) : Bool :=
  let t := lastWloads prog entry
  ((List.range prog.length).zip prog).all (fun e =>
    descClass e.2 != 1 || descOp e.2 != 2 || (match Tab.get? t e.1 with
      | some (.one i) => pairFieldsOk (prog.getD i 0) e.2
      | _ => true))

/-! ### The pair that an INT32 drain drains (R43, R115) -/

/-- The accumulator tiles of a ply that `n` rows from `a` meet. -/
def tilesMet (a n : Nat) : List Nat := (List.range 16).filter (fun t => decide (a / 32 ≤ t) && decide (t ≤ (a + n - 1) / 32))

/-- What gives accumulator tile `t` its pair: a STREAM into it. A DRAIN that empties it and a RECVADD leave the pair open. -/
def streamMark (t : Nat) (d : Desc) : Option Bool :=
  if descClass d = 1 ∧ descOp d = 2 then
    if (tilesMet (fld d 72 64) (cdiv (fld d 83 73 + 1) 4)).contains t then some true else none
  else if descClass d = 1 ∧ descOp d = 3 ∧ fld d 136 136 = 0 then
    if (tilesMet (fld d 159 151) (fld d 150 142 + 1)).contains t then some false else none
  else if descClass d = 4 ∧ descOp d = 3 then some false
  else none

/-- Does every DRAIN to INT32 whose pair is fixed at load drain INT8 × INT8: does no tile of it hold, on every path, what one STREAM
of another pair put there (R43)? -/
def drainsOk (prog : List Desc) (entry : Nat) : Bool :=
  ((List.range prog.length).zip prog).all (fun e =>
    descClass e.2 != 1 || descOp e.2 != 3 || fld e.2 141 138 != 11
      || (tilesMet (fld e.2 159 151) (fld e.2 150 142 + 1)).all (fun t =>
        match Tab.get? (lastBefore (streamMark t) prog entry) e.1 with
        | some (.one i) => fld (prog.getD i 0) 87 84 == 8
        | _ => true))

end Sys2Proof.Machine
end

