-- ==== Sys2Proof/Machine/ImageRules.lean ====
section
/-!
DEFINITION. The rules that the sections of a pattern image obey: cell table, slot tables, barrier table, mapping tables, resident
declarations, lifeline regions, packed transfers (R102 to R106, R118, R119, R129 to R133, R144, R155, R176 to R178, R208, R210).
-/
namespace Sys2Proof.Machine

/-- Bytes of HBM as the loader reads them: committed (R203). -/
def State.readImage (s : State) (a n : Nat) : Bytes :=
  if s.hbm.inAlt.isEmpty && s.hbm.log.isEmpty then s.mem.readBytes a n else s.committedRead a n

/-! ### Sections (R101, R102) -/

/-- A directory entry in use. -/
structure Section where
  type : Nat
  count : Nat
  off : Nat
  len : Nat
deriving DecidableEq, Repr, Inhabited

/-- The records of `n` bytes of a section's bytes. -/
def recordsOf (n : Nat) (b : Bytes) : List Bytes := cut n (b.length / n) b

/-- The directory entries in use of a header. -/
def directory (head : Bytes) : List Section :=
  ((recordsOf 24 (slice head 128 384)).map (fun b =>
    ({ type := uAt b 0 4, count := uAt b 4 4, off := uAt b 8 8, len := uAt b 16 8 } : Section))).filter (fun e => e.type != 0)

/-- The section of a type. -/
def sectionOf (ds : List Section) (t : Nat) : Option Section := ds.find? (fun e => e.type == t)

/-- The bytes of a section, empty when there is none. -/
def sectionBytes (img : Bytes) (ds : List Section) (t : Nat) : Bytes :=
  match sectionOf ds t with
  | some e => slice img e.off e.len
  | none => []

/-- Record size of the sections of fixed records. -/
def recordSize (t : Nat) : Option Nat :=
  if t = 1 ∨ t = 3 then some 64
  else if t = 2 ∨ t = 7 ∨ t = 8 then some 32
  else if t = 5 then some 256
  else if t = 6 then some 128
  else if t = 9 then some 8
  else none

/-- Does a section agree with its record column? A slot table's length counts its records and streams. -/
def sectionSized (img : Bytes) (e : Section) : Bool :=
  match recordSize e.type with
  | some n => e.len == n * e.count
  | none =>
    let ls := linkRecs e.count (slice img e.off e.len)
    ls.length == e.count && e.len == (ls.map (fun l => 16 + 32 * l.streams.length)).foldl (· + ·) 0

/-- No two of these ranges (start, length) share a byte. -/
def apart : List (Nat × Nat) → Bool
  | [] => true
  | a :: r => r.all (fun b => decide (a.2 = 0) || decide (b.2 = 0) || decide (a.1 + a.2 ≤ b.1) || decide (b.1 + b.2 ≤ a.1)) && apart r

/-- The rules of R102 but for the sections that other content makes mandatory. -/
def directoryOk (img : Bytes) (ds : List Section) : Bool :=
  ds.all (fun e => decide (e.type ≤ 9) && e.off % 64 == 0 && decide (512 ≤ e.off) && decide (e.off + e.len ≤ img.length)
      && sectionSized img e)
    && (ds.map (·.type)).eraseDups.length == ds.length
    && apart (ds.map (fun e => (e.off, e.len)))
    && (match sectionOf ds 1 with
      | some e => e.count == 1728
      | none => false)
    && (sectionOf ds 2).isSome

/-! ### What the loader reads of an image -/

/-- An image as read: its bytes, directory, descriptors, tables. -/
structure Image where
  addr : Nat
  bytes : Bytes
  dirs : List Section
  descs : List Desc
  cells : List CellEntry
  progs : List (Option (List Desc))   -- by cell; none where the cell table names no program
  links : List LinkRec
  barriers : Bytes
  maps : Bytes
  residents : List Resident
  regions : List Region
  xfers : List Nat

/-- Reads a cell-table entry. -/
def cellEntryOf (b : Bytes) : CellEntry :=
  { progOff := uAt b 0 4, progLen := uAt b 4 4, progSrc := uAt b 8 8, rbound := uAt b 16 4, undoMax := uAt b 20 4,
    constOff := uAt b 24 4, constLen := uAt b 28 4, constSrc := uAt b 32 8, entry := uAt b 40 4, wlo := uAt b 44 4,
    whi := uAt b 48 4 }

/-- Reads a resident declaration. -/
def residentOf (b : Bytes) : Resident :=
  { x := uAt b 0 2, y := uAt b 2 2, off := uAt b 4 4, len := uAt b 8 4, disposable := bit (uAt b 12 4) 0,
    written := bit (uAt b 12 4) 1, home := uAt b 16 8 }

/-- Reads a lifeline region. -/
def regionOf (b : Bytes) : Region := { base := uAt b 0 8, len := uAt b 8 8, alt := uAt b 16 8, attr := uAt b 24 1 }

/-- The program of a cell-table entry: descriptors of section 2. -/
def programOf (sec : Option Section) (descs : List Desc) (e : CellEntry) : Option (List Desc) :=
  match sec with
  | none => none
  | some c =>
    if e.progLen = 0 ∨ e.progSrc % 32 ≠ 0 ∨ e.progSrc < c.off ∨ c.off + c.len < e.progSrc + 32 * e.progLen then none
    else some ((descs.drop ((e.progSrc - c.off) / 32)).take e.progLen)

/-- Reads an image whose directory is in order. -/
def imageOf (addr : Nat) (img : Bytes) : Image :=
  let ds := directory img
  let descs := (recordsOf 32 (sectionBytes img ds 2)).map (fun b => BitVec.ofNat 256 (ofLe b))
  let cells := (recordsOf 64 (sectionBytes img ds 1)).map cellEntryOf
  let slot := sectionBytes img ds 4
  { addr := addr, bytes := img, dirs := ds, descs := descs, cells := cells
    progs := cells.map (programOf (sectionOf ds 2) descs)
    links := linkRecs (slot.length / 16) slot
    barriers := sectionBytes img ds 5, maps := sectionBytes img ds 6
    residents := (recordsOf 32 (sectionBytes img ds 7)).map residentOf
    regions := (recordsOf 32 (sectionBytes img ds 8)).map regionOf
    xfers := (recordsOf 8 (sectionBytes img ds 9)).map (fun b => uAt b 0 2) }

/-- The cells with their entries and programs. -/
def Image.cellProgs (m : Image) : List (Nat × CellEntry × List Desc) :=
  ((List.range m.cells.length).zip (m.cells.zip m.progs)).filterMap (fun e => e.2.2.map (fun p => (e.1, e.2.1, p)))

/-- `n` bytes of the constant area of a cell at the offset that an operand names with s0, if they lie there (R155). -/
def Image.constAt (m : Image) (e : CellEntry) (f n : Nat) : Option (Nat × Bytes) :=
  let off := 32 * (f % 524288)
  if f / 524288 = 0 ∧ e.constOff ≤ off ∧ off + n ≤ e.constOff + e.constLen then
    some (off, slice m.bytes (e.constSrc + (off - e.constOff)) n)
  else none

/-- The operand that names the destination's descriptor. -/
def destField (d : Desc) : Nat := if descClass d = 3 then fld d 159 136 else fld d 183 160

/-- Is a destination in HBM named by a tensor descriptor of the constant area? -/
def Image.constWrite (m : Image) (e : CellEntry) (d : Desc) : Bool :=
  writesTensor d && (match m.constAt e (destField d) 128 with
    | some o => (cellAt (tdescOf o.2).base).isNone
    | none => false)

/-- Does an image hold an HBM write known at load (R105)? -/
def Image.writesHbm (m : Image) : Bool :=
  m.descs.any (fun d => descClass d == 6) || m.residents.any (fun r => r.written && !r.disposable)
    || m.links.any (fun l => l.dir == 4 && l.streams.any (fun e => !e.read))
    || m.cellProgs.any (fun c => c.2.2.any (m.constWrite c.2.1))

/-! ### Slot tables (R119, R129, R132, R133) -/

/-- A stream entry's fields. -/
def streamOk (dir posmap : Nat) (b : Bytes) : Bool :=
  let e := streamEntOf b
  decide (e.stream < 4096) && decide (1 ≤ e.group) && decide (e.group ≤ 15) && decide (uAt b 3 1 ≤ 1) && allZero (slice b 28 4)
    && decide (1 ≤ e.lines) && decide (e.lines ≤ 65536) && posCount posmap e.group != 0
    && (if dir = 4 then e.haddr % 64 == 0 && e.stride % 64 == 0 && decide (1 ≤ e.uses)
        else e.haddr == 0 && e.stride == 0 && e.uses == 0 && !e.read)

/-- A link record with its stream entries, from its bytes. -/
def linkOk (b : Bytes) : Bool :=
  isCell (uAt b 0 2) (uAt b 2 2) && decide (uAt b 4 1 ≤ 4) && uAt b 5 1 == 0 && decide (1 ≤ uAt b 6 2) && decide (uAt b 6 2 ≤ 4096)
    && posCount (uAt b 8 8) 0 != 0
    && (recordsOf 32 (slice b 16 (32 * uAt b 6 2))).all (streamOk (uAt b 4 1) (uAt b 8 8))

/-- Walks a slot-table section's bytes record by record. -/
def linksOk : Nat → Bytes → Bool
  | 0, b => b.isEmpty
  | fuel + 1, b =>
    if b.isEmpty then true
    else linkOk b && linksOk fuel (b.drop (16 + 32 * uAt b 6 2))

/-- The slot-table rules that need the section alone. -/
def Image.slotTablesOk (m : Image) : Bool :=
  linksOk m.links.length (sectionBytes m.bytes m.dirs 4)
    && (m.links.map (fun l => (l.x, l.y, l.dir))).eraseDups.length == m.links.length
    && m.links.all (fun l => (l.streams.map (·.stream)).eraseDups.length == l.streams.length)

/-- A SYN descriptor against the slot and barrier tables (R119, R132, R144). -/
def Image.synOk (m : Image) (k : Nat) (d : Desc) : Bool :=
  let x := k % 48
  let y := k / 48
  if descOp d ≤ 3 then
    (synDir d != 4 || edgeCell x y)
      && (match linkOf m.links x y (synDir d) (descOp d != 1) with
        | none => false
        | some l => l.streams.any (fun e => e.stream == synStream d && e.lines == synLines d))
  else if descOp d = 4 then
    (recordsOf 256 m.barriers).any (fun b => uAt b 0 1 == synChan d && bit (uAt b 8 216) k)
  else true

/-- The route of a DIR 4 stream along the ring under a map: which ring it takes is the module's allocation, which the spec leaves open
(R133, R147; log entry 99). -/
def MapSt.ringRoute (m : MapSt) (l : LinkRec) (e : StreamEnt) : Option RingRoute :=
  (m.segmentOf l.x l.y).map (fun g =>
    let h := sliceOf e.haddr
    { x := l.x, y := l.y, stream := e.stream, ringB := Config.openResult "ring allocation" [l.x, l.y, e.stream, g, h] % 2 == 1
      from_ := if e.read then h else g, to_ := if e.read then g else h, share := posCount l.posmap e.group })

/-- Does a ring link lie on a route? -/
def RingRoute.uses (r : RingRoute) (ringB : Bool) (i : Nat) : Bool := r.ringB == ringB && (ringLinks ringB r.from_ r.to_).contains i

/-- The routes of a pattern's DIR 4 streams, in the order of its records: a stream that would take a link beyond 15 of its 16 positions
runs in loose ones (R133). -/
def MapSt.ringRoutes (m : MapSt) (taken : List RingRoute) (recs : List LinkRec) : List RingRoute :=
  ((recs.filter (fun l => l.dir == 4)).flatMap (fun l => l.streams.filterMap (m.ringRoute l))).foldl (fun acc r =>
    let load (i : Nat) : Nat := (((taken ++ acc).filter (fun q => q.uses r.ringB i)).map (·.share)).foldl (· + ·) 0
    let fits := (ringLinks r.ringB r.from_ r.to_).all (fun i => decide (load i + r.share ≤ 15))
    acc ++ [if fits then r else { r with share := 0 }]) []

/-- Allocates ring capacity for the streams of every loaded pattern anew (R133, R344). -/
def State.allocateRings (s : State) : State :=
  { s with map := { s.map with rings := s.pats.map (fun e =>
      (e.1, s.map.ringRoutes [] (linkRecs (e.2.slotTab.length / 16) e.2.slotTab))) } }

/-- The whole range of a DIR 4 stream's uses: its bytes from HADDR. -/
def StreamEnt.span (e : StreamEnt) : Nat := (e.uses - 1) * e.stride + 64 * e.lines

/-- Do all DIR 4 ranges lie in HBM in service (R133, R329)? -/
def State.streamsInHbm (s : State) (m : Image) : Bool :=
  m.links.all (fun l => l.dir != 4 || l.streams.all (fun e => s.hbmOk e.haddr e.span))

/-- Do regions that do not overlap cover all from `a` to before `e`? -/
def coverTo (rs : List Region) : Nat → Nat → Nat → Bool
  | 0, a, e => decide (e ≤ a)
  | fuel + 1, a, e => decide (e ≤ a) || (match regionAt rs a with
    | some r => coverTo rs fuel (r.base + r.len) e
    | none => false)

/-- Do `n` bytes from `a` lie in lifeline regions, whichever they are? -/
def covered (rs : List Region) (a n : Nat) : Bool := coverTo rs rs.length a (a + n)

/-- Do the write streams stay in the lifeline regions? -/
def Image.streamsCovered (m : Image) : Bool :=
  m.links.all (fun l => l.dir != 4 || l.streams.all (fun e =>
    e.read || (List.range e.uses).all (fun u => covered m.regions (e.haddr + u * e.stride) (64 * e.lines))))

/-! ### Barrier table (R144) -/

/-- The barrier records. -/
def Image.barriersOk (m : Image) : Bool :=
  let rs := recordsOf 256 m.barriers
  rs.all (fun b => decide (uAt b 0 1 < 32) && allZero (slice b 1 7) && allZero (slice b 224 32))
    && (rs.map (fun b => uAt b 0 1)).eraseDups.length == rs.length

/-! ### Mapping tables (R176, R178) -/

/-- A mapping table's reserved fields and ranges. -/
def mapFieldsOk (b : Bytes) : Bool :=
  let m := mapTableOf b
  uAt b 1 1 == 0 && uAt b 6 2 == 0 && uAt b 54 2 == 0 && uAt b 62 2 == 0 && allZero (slice b 116 12)
    && decide (m.id < 4096) && decide (m.fmt ≤ 11) && m.loff % 64 == 0 && (m.scales == 1 || m.lsoff == 0)
    && (List.range 6).all (fun i => m.splits.getD i 0 != 0 && m.gdims.getD i 0 % m.splits.getD i 0 == 0)
    && m.splits.foldl (· * ·) 1 * m.repl == m.xn * m.yn && m.repl != 0
    && decide (m.xorg + m.xn ≤ 48) && decide (m.yorg + m.yn ≤ 36)

/-- Do a shard's descriptors in every cell keep R156 to R161: its fields, and all of it inside the cell's window? -/
def MapTable.shardsOk (m : MapTable) : Bool :=
  (List.range m.cells).all (fun q =>
    let t := m.shardDesc q
    let c := m.cellAt q
    (setFault [t] true).isNone && t.footprint.all (fun a => decide (cellBase c.1 c.2 ≤ a) && decide (a < cellBase c.1 c.2 + 0x1000000)))

/-- The mapping tables of a section. -/
def mapTables (sec : Bytes) : List MapTable := ((mapRecords sec).filter (fun b => uAt b 0 1 == 1)).map mapTableOf

/-- Do a plan's destination and source shards share a byte in some cell? -/
def plansMeet (a b : MapTable) : Bool :=
  (List.range b.cells).any (fun q =>
    match a.qOf (b.cellAt q).1 (b.cellAt q).2 with
    | none => false
    | some p =>
      let f := (a.shardDesc p).footprint
      (b.shardDesc q).footprint.any f.contains)

/-- A plan record. -/
def Image.planOk (m : Image) (b : Bytes) : Bool :=
  match findMap m.maps (uAt b 2 2), findMap m.maps (uAt b 4 2) with
  | some s, some t =>
    uAt b 1 1 == 0 && decide (1 ≤ uAt b 6 1) && decide (uAt b 6 1 ≤ 15) && allZero (slice b 7 121)
      && s.fmt == t.fmt && s.rank == t.rank && s.gdims == t.gdims
      && !m.links.any (fun l => l.streams.any (fun e => e.group == uAt b 6 1))
      && !plansMeet s t
  | _, _ => false

/-- The mapping section. -/
def Image.mapsOk (m : Image) : Bool :=
  let ts := mapTables m.maps
  (mapRecords m.maps).all (fun b => if uAt b 0 1 = 1 then mapFieldsOk b else uAt b 0 1 == 2)
    && (ts.map (·.id)).eraseDups.length == ts.length
    && ts.all MapTable.shardsOk
    && (mapRecords m.maps).all (fun b => uAt b 0 1 != 2 || m.planOk b)

/-- May the image's own rules write the line of cell `k` at `off`: its writable span, or a WRITTEN range (R103)? -/
def Image.writableLine (m : Image) (k off : Nat) : Bool :=
  (match m.cells[k]? with
    | some e => decide (e.wlo ≤ off) && decide (off < e.whi)
    | none => false)
    || m.residents.any (fun r => r.written && cellNo r.x r.y == k && decide (r.off ≤ off) && decide (off < r.off + r.len))

/-- May a byte at a device address be written by the pattern: R103 in a window of a cell that has a place, R105 in HBM? -/
def State.loadWritable (s : State) (m : Image) (a : Nat) : Bool :=
  match cellAt a with
  | some k => s.cellPlaced k && m.writableLine k (a % 0x1000000 / 64 * 64)
  | none => (regionAt m.regions a).isSome

/-- Are the shards writable? -/
def State.shardsWritable (s : State) (m : Image) : Bool :=
  (mapTables m.maps).all (fun t => (List.range t.cells).all (fun q => (t.shardDesc q).footprint.all (s.loadWritable m)))

/-- A RESHARD against the mapping section. -/
def Image.reshardOk (m : Image) (d : Desc) : Bool :=
  (findMap m.maps (fld d 94 83)).isSome && (findMap m.maps (fld d 82 71)).isSome && hasPlan m.maps (fld d 94 83) (fld d 82 71)

/-! ### Programs -/

/-- The rules that a cell's program obeys by what else the image holds. -/
def Image.programOk (m : Image) (k : Nat) (e : CellEntry) (p : List Desc) : Bool :=
  pairsOk p e.entry && drainsOk p e.entry && p.all (fun d => descClass d != 4 || m.synOk k d)

/-- All programs, and every RESHARD of the section. -/
def Image.programsOk (m : Image) : Bool :=
  m.cellProgs.all (fun e => m.programOk e.1 e.2.1 e.2.2)
    && m.descs.all (fun d => !(descClass d == 3 && descOp d == 6) || m.reshardOk d)

/-! ### Cell table (R78, R80, R103) -/

/-- Do two ranges given by start and end share a byte? -/
def spansMeet (a b : Nat × Nat) : Bool := decide (a.1 < a.2) && decide (b.1 < b.2) && decide (a.1 < b.2) && decide (b.1 < a.2)

/-- Why a cell-table entry is refused. -/
def Image.cellRefusal (m : Image) (b : Bytes) (e : CellEntry) (p : Option (List Desc)) : Option Nat :=
  let prog := (e.progOff, e.progOff + 32 * e.progLen)
  let const := (e.constOff, e.constOff + e.constLen)
  let span := (e.wlo, e.whi)
  if !allZero (slice b 52 12) || p.isNone || !([e.progOff, e.constOff, e.constLen, e.wlo, e.whi].all (fun v => v % 64 == 0))
      || (e.constLen != 0 && !(e.constSrc % 64 == 0 && (match sectionOf m.dirs 3 with
        | some c => decide (c.off ≤ e.constSrc) && decide (e.constSrc + e.constLen ≤ c.off + c.len)
        | none => false))) then some stMalformed
  else if e.rbound % 0x40000 ≠ 0 ∨ reachEnd < e.rbound then some stAddress
  else if prog.1 < e.rbound ∨ reachEnd < prog.2 ∨ (e.constLen ≠ 0 ∧ (const.1 < e.rbound ∨ reachEnd < const.2)) then some stAddress
  else if spansMeet prog span || spansMeet const span || spansMeet prog const || decide (e.wlo < e.rbound)
      || decide (reachEnd < e.whi) then some stAddress
  else if e.progLen ≤ e.entry ∨ 15408 < e.undoMax then some stMalformed
  else none

/-- The first refusal of the cell table. -/
def Image.cellsRefusal (m : Image) : Option Nat :=
  ((recordsOf 64 (sectionBytes m.bytes m.dirs 1)).zip (m.cells.zip m.progs)).findSome? (fun e => m.cellRefusal e.1 e.2.1 e.2.2)

/-! ### Tensor descriptors and parameter blocks fixed at load (R155) -/

/-- What is wrong with the operands of one descriptor that stand in the constant area, in the order of R161: `ts` with whether each is
written. -/
def State.setRefusal (s : State) (m : Image) (ts : List (Bool × Nat × Bytes)) (extra clean : Bool) : Option Nat :=
  let ds := ts.map (fun o => (o.1, tdescOf o.2.2))
  if ts.any (fun o => o.2.1 % 64 != 0) then some stMisaligned
  else match setFault (ds.map (·.2)) extra clean with
    | some f => some f.status
    | none =>
      if ds.any (fun o => !s.footOk o.2 || (o.1 && !o.2.footprint.all (s.loadWritable m))) then some stAddress else none

/-- The rules between the operands of a MOV, as far as they are fixed at load (R165, R171). -/
def movRules (d : Desc) (src dst idx : Option TDesc) : Bool :=
  let axis := fld d 111 109
  let mode := fld d 108 107
  if descOp d = 1 then copyRules src dst permId
  else if descOp d = 2 then copyRules src dst (permOf (fld d 106 95))
  else if descOp d = 3 then indexedRules src dst dst idx axis mode
  else indexedRules src dst src idx axis mode && (descOp d != 5 || known src TDesc.addable)

/-- The refusal of what a MOV descriptor or a transform drain names in the constant area. -/
def State.constRefusal (s : State) (m : Image) (e : CellEntry) (d : Desc) : Option Nat :=
  if descClass d = 3 ∧ descOp d ≠ 6 then
    let src := m.constAt e (fld d 183 160) 128
    let dst := m.constAt e (fld d 159 136) 128
    let idx := if descOp d ≤ 2 then none else m.constAt e (fld d 135 112) 128
    let desc (o : Option (Nat × Bytes)) : Option TDesc := o.map (fun b => tdescOf b.2)
    s.setRefusal m ((src.toList.map (fun o => (false, o))) ++ (dst.toList.map (fun o => (true, o)))
      ++ (idx.toList.map (fun o => (false, o)))) (movRules d (desc src) (desc dst) (desc idx)) true
  else if writesTensor d then
    let t := m.constAt e (fld d 183 160) 128
    match (m.constAt e (fld d 127 104) 64).map (fun o => xformOf o.2 d) with
    | none => s.setRefusal m (t.toList.map (fun o => (true, o))) (t.all (fun o => (tdescOf o.2).writable)) true
    | some f => s.setRefusal m (t.toList.map (fun o => (true, o)))
        (f.blockOk && t.all (fun o => f.rulesOk (tdescOf o.2))) f.reservedOk
  else none

/-- The first refusal of that kind. -/
def State.constsRefusal (s : State) (m : Image) : Option Nat :=
  m.cellProgs.findSome? (fun e => e.2.2.findSome? (s.constRefusal m e.2.1))

/-! ### Residents (R104) and lifeline regions (R105, R205, R208, R210) -/

/-- Why a resident declaration is refused. -/
def State.residentRefusal (s : State) (m : Image) (b : Bytes) : Option Nat :=
  let r := residentOf b
  let e := m.cells.getD (cellNo r.x r.y) default
  let homeOk := r.home % 64 == 0 && decide (r.home + r.len ≤ hbmEnd)
  if !isCell r.x r.y || decide (3 < uAt b 12 4) || !allZero (slice b 24 8) || r.off % 64 != 0 || r.len % 64 != 0
      || decide (e.rbound < r.off + r.len) || (if r.disposable then r.home != 0 else !homeOk)
      || (r.written && !r.disposable && !m.regions.any (fun g => (g.attr == 1 || g.attr == 2) && decide (g.base ≤ r.home)
        && decide (r.home + r.len ≤ g.base + g.len))) then some stMalformed
  else if !r.disposable && !s.hbmOk r.home r.len then some stAddress
  else none

/-- Does a declaration overlap another range of a loaded pattern without being identical to it? -/
def State.residentClash (s : State) (r : Resident) : Bool :=
  s.pats.any (fun e => e.2.residents.any (fun q =>
    q.x == r.x && q.y == r.y && spansMeet (q.off, q.off + q.len) (r.off, r.off + r.len) && q != r))

/-- Why the lifeline regions are refused (R105, then R205 and R329). -/
def State.regionsRefusal (s : State) (m : Image) : Option Nat :=
  let alts := (m.regions.filter (fun r => r.attr == 2)).map (fun r => (r.alt, r.len))
  let all := m.regions.map (fun r => (r.base, r.len)) ++ alts
  if !(recordsOf 32 (sectionBytes m.bytes m.dirs 8)).all (fun b => allZero (slice b 25 7))
      || !m.regions.all (fun r => r.base % 64 == 0 && r.len % 64 == 0 && r.len != 0 && decide (1 ≤ r.attr) && decide (r.attr ≤ 3)
        && r.alt % 64 == 0 && (r.alt != 0) == (r.attr == 2)
        && decide (r.base + r.len ≤ hbmEnd) && decide (r.alt + r.len ≤ hbmEnd))
      || !apart all then some stMalformed
  else if all.any (fun a => s.inShare a.1 a.2 || !s.hbmOk a.1 a.2) then some stAddress
  else none

/-- Does a region overlap one of another loaded pattern without being identical to it (R210)? -/
def State.regionClash (s : State) (r : Region) : Bool :=
  s.allRegions.any (fun q => spansMeet (q.base, q.base + q.len) (r.base, r.base + r.len) && q != r)

/-- Would the selector tables leave less than half of a share (R208)? -/
def State.sharesTooSmall (s : State) (m : Image) : Bool :=
  let rs := m.regions.foldl (fun acc r => if acc.contains r then acc else acc ++ [r]) s.distinctRegions
  (List.range 48).any (fun i => decide (s.shareBytes < 2 * selectorSpace rs i))

/-! ### Packed transfers (R106) -/

/-- The packed-transfer rules. -/
def Image.packedOk (m : Image) : Bool :=
  (recordsOf 8 (sectionBytes m.bytes m.dirs 9)).all (fun b => allZero (slice b 2 6))
    && m.descs.all (fun d =>
      (!(descClass d == 4 && synPacked d) || m.xfers.contains (fld d 126 115))
        && (!(descClass d == 5 && chkPacked d) || m.xfers.contains (fld d 118 107)))

end Sys2Proof.Machine
end

