-- ==== Sys2Proof/Machine/LoadPattern.lean ====
section
/-!
DEFINITION. LOAD_PATTERN, with its checks in the order of Table: Load refusals, and its unload form (R101 to R110, R208, R380).
-/
namespace Sys2Proof.Machine

/-- The header's fields in order (R101). -/
def headerFieldsOk (h : Bytes) : Bool :=
  uAt h 0 4 == 0x54505754 && uAt h 4 2 == 1 && uAt h 6 1 != 0 && decide (512 ≤ uAt h 8 8) && decide (uAt h 8 8 ≤ 2 ^ 34)
    && uAt h 20 2 != 0 && decide (uAt h 22 2 < 4) && decide (uAt h 24 8 < 2 ^ 36) && allZero (slice h 96 32)

/-- The digest of an image, its DIGEST bytes taken as zero (R101). -/
def imageDigest (img : Bytes) : Bytes := sha512 (img.take 32 ++ zeros 64 ++ img.drop 96)

/-- Reads an image and checks its header, digest and feature level. -/
def State.openImage (s : State) (a : Nat) : Except Nat Bytes := do
  need (a % 64 == 0) stMisaligned
  need (s.hbmOk a 512) stAddress
  let h := s.readImage a 512
  need (headerFieldsOk h && (s.poisonHit a 512).isNone) stMalformed
  let n := uAt h 8 8
  need (s.hbmOk a n) stAddress
  let img := s.readImage a n
  need ((s.poisonHit a n).isNone && slice img 32 64 == imageDigest img) stMalformed
  need (decide (uAt h 6 1 ≤ s.sec.running.flmax) && decide (uAt h 6 1 ≤ s.nat 0x2810 1)) stFeature
  .ok img

/-- Is RBOUND of every cell the one in force while another pattern is loaded (R78)? -/
def State.rboundOk (s : State) (m : Image) : Bool :=
  match s.pats with
  | [] => true
  | (_, p) :: _ => p.cells.map (·.rbound) == m.cells.map (·.rbound)

/-- The pattern that an image becomes; PHASE above 15 is clamped. -/
def Image.pattern (m : Image) : Pattern :=
  let b := m.bytes
  { addr := m.addr, len := b.length, digest := slice b 32 64, flevel := uAt b 6 1, phase := min (uAt b 7 1) 15
    cycles := uAt b 16 4, rows := uAt b 20 2, packed := bit (uAt b 22 2) 1, upd := bit (uAt b 22 2) 0, voidmask := uAt b 24 8
    cells := m.cells, residents := m.residents, regions := m.regions, xfers := m.xfers
    slotTab := sectionBytes b m.dirs 4, barrierTab := m.barriers, mapTab := m.maps }

/-- Turns a found refusal into an error. -/
def refuseWith : Option Nat → Except Nat Unit
  | some st => .error st
  | none => .ok ()

/-- The poisoned line that reading an image meets (R193). -/
def State.imagePoison (s : State) (a : Nat) : Option Nat :=
  let h := s.readImage a 512
  if a % 64 ≠ 0 ∨ !s.hbmOk a 512 then none
  else match s.poisonHit a 512 with
    | some l => some l
    | none => if headerFieldsOk h && s.hbmOk a (uAt h 8 8) then s.poisonHit a (uAt h 8 8) else none

/-- A poisoned line that is read raises ECC_HBM (R193). -/
def State.readPoison (s : State) : Option Nat → State
  | some l => s.stop 0 0 (.alarm 0x21 [.slice (sliceOf l)] l)
  | none => s

/-- The image at an address, once every condition of Table: Load refusals but the last holds; `slotOk`: the command's SLOT is one. -/
def State.checkImage (s : State) (a : Nat) (slotOk : Bool := true) : Except Nat Image := do
  let b ← s.openImage a
  need slotOk stMalformed
  let m := imageOf a b
  need (directoryOk b m.dirs && (!bit (uAt b 22 2) 1 || (sectionOf m.dirs 9).isSome)
    && (!m.writesHbm || (sectionOf m.dirs 8).isSome)) stMalformed
  need (s.engineCount != 0 || !m.descs.any (fun d => descClass d == 6)) stNotPresent
  refuseWith (m.descs.findSome? s.descRefusal)
  need (m.slotTablesOk && m.barriersOk && m.mapsOk && m.programsOk) stMalformed
  refuseWith m.cellsRefusal
  refuseWith (s.constsRefusal m)
  need (s.streamsInHbm m && s.shardsWritable m) stAddress
  need (s.rboundOk m) stState
  refuseWith ((recordsOf 32 (sectionBytes b m.dirs 7)).findSome? (s.residentRefusal m))
  refuseWith (s.regionsRefusal m)
  need m.streamsCovered stMalformed
  need (!m.residents.any s.residentClash && !m.regions.any s.regionClash) stState
  need (!s.sharesTooSmall m) stNoSpace
  need m.packedOk stMalformed
  need ((s.map.voidMask &&& uAt b 24 8) == s.map.voidMask) stState
  .ok m

/-- The slot that a load takes. -/
def State.loadSlot (s : State) (slot : Nat) : Except Nat Nat :=
  if slot = 0xFFFF then
    match (List.range 64).find? (fun i => (Tab.get? s.pats i).isNone) with
    | some i => .ok i
    | none => .error stNoSpace
  else if (Tab.get? s.pats slot).isSome then .error stState
  else .ok slot

/-- Does a loaded pattern hold a resident range? -/
def State.holdsRange (s : State) (r : Resident) : Bool := s.pats.any (fun e => e.2.residents.contains r)

/-- Writes a resident range anew: from HOME, or with zeros. Open merge entries of its lines close first (R139). A poisoned line of the
home copy raises ECC_HBM, and what arrives in its place is open (R193; log entry 97). -/
def State.fillHome (s : State) (r : Resident) : State :=
  let s := s.closeMerge r.x r.y (linesOf r.off r.len)
  let base := cellBase r.x r.y + r.off
  if r.disposable then { s with mem := s.mem.writeBytes base (zeros r.len) }
  else
    let bad := if s.hbm.poisoned.isEmpty then [] else (linesOf r.home r.len).filter (fun l => s.hbm.poisoned.contains (s.committedAt l))
    let s := { s with mem := s.mem.writeBytes base (s.readImage r.home r.len) }
    bad.foldl (fun s l =>
      let d := s.draw
      { d.2 with mem := d.2.mem.writeBytes (base + (l - r.home)) (le 64 d.1) }.readPoison (some l)) s

/-- Fills a resident range that no loaded pattern holds: from HOME, or with zeros (R104). A void cell has no scratchpad. -/
def State.fillRange (s : State) (r : Resident) : State :=
  if s.holdsRange r || (s.map.place r.x r.y).isNone then s
  else
    s.fillHome r

/-- Installs a checked image: resident ranges filled, RBOUND in force, the table entry written. -/
def State.install (s : State) (slot : Nat) (m : Image) : State :=
  let p := m.pattern
  let s := p.residents.foldl State.fillRange s
  let s := { s with cells := (List.range 1728).foldl (fun t k =>
    let c := Tab.getD t k {}
    let b := (p.cells.getD k default).rbound
    if c.rbound = b then t else Tab.set t k { c with rbound := b }) s.cells }
  { s with pats := Tab.set s.pats slot p }.allocateRings

/-- Common fields of both forms: IMAGE, MODE, SLOT. -/
def loadFieldsOk (c : Bytes) : Bool := headerOk 0x01 [(16, 9), (26, 2)] c && addrsOk c [16] && decide (uAt c 24 1 ≤ 1)

/-- Carries out LOAD_PATTERN with MODE 0. A clamped PHASE is logged at `0x2240:02` (R107). -/
def State.loadPattern (s : State) (f : Fetched) : State :=
  let c := f.cmd
  let slot := uAt c 26 2
  let a := addrOf (uAt c 16 8)
  let s := if loadFieldsOk c && !isHost (uAt c 16 8) then s.readPoison (s.imagePoison a) else s
  s.judged f (do
    need (loadFieldsOk c && uAt c 24 1 == 0) stMalformed
    need (a % 64 == 0) stMisaligned
    need (!isHost (uAt c 16 8)) stAddress
    let m ← s.checkImage a (decide (slot < 64) || slot == 0xFFFF)
    let i ← s.loadSlot slot
    .ok (m, i)) (fun r =>
      let phase := uAt r.1.bytes 7 1
      let s := s.install r.2 r.1
      if phase ≤ 15 then s.finish f r.2
      else
        let seq := (s.flash.log.seq + 1) % 2 ^ 32
        (s.log .hostCmd 1 0x2240 2 0 phase 15).endCommand f { status := stClamped, result := r.2, clamps := 1, detail := seq })

def execLoadPattern (q : Nat) (c : Bytes) (s : State) : Result := s.hostCmd q c (fun f s => s.loadPattern f)

/-! ### Unload (R108, R208, R380) -/

/-- The slot that a waiting run command of a fetched command would run. -/
def fetchedSlot (c : Bytes) : Option Nat := if cmdOpcode c = 0x02 ∨ cmdOpcode c = 0x03 then some (uAt c 16 2) else none

/-- Is a run of a slot's pattern running or queued: the active run, a fetched RUN_PATTERN or RESHARD, or the PREFILL or DECODE of a
set to which a session is bound (R241)? -/
def State.slotInUse (s : State) (i : Nat) : Bool :=
  (match s.run with
    | some r => r.kind != .copy && r.slot == i
    | none => false)
    || s.host.fetched.any (fun f => fetchedSlot f.cmd == some i)
    || (List.range 16).any (fun n => s.setBound n && (s.nat (0x2B20 + n) 1 == i || s.nat (0x2B20 + n) 2 == i))

/-- The line of a versioned region committed in ALT is copied back to BASE. -/
def State.copyBack (s : State) (r : Region) : State :=
  let ls := s.hbm.inAlt.filter (fun l => decide (r.base ≤ l) && decide (l < r.base + r.len))
  { s with
    mem := ls.foldl (fun m l => m.writeBytes l (s.mem.readBytes (r.alt + (l - r.base)) 64)) s.mem
    hbm := { s.hbm with inAlt := s.hbm.inAlt.filter (fun l => !ls.contains l) } }

/-- Removes the pattern of a slot: versioned lines go back to BASE for regions that no other pattern holds; a LOST range that no
pattern declares any more is released (R347); no cell holds its areas any more (R110). -/
def State.unload (s : State) (i : Nat) (p : Pattern) : State :=
  let rest := Tab.erase s.pats i
  let gone := p.regions.filter (fun r => !rest.any (fun e => e.2.regions.contains r))
  let lost := s.map.lostRanges.filter (fun l =>
    rest.any (fun e => e.2.residents.any (fun r => l == (r.x, r.y, r.off, r.len))))
  let s' : State := { gone.foldl State.copyBack s with
    pats := rest, map := { s.map with lostRanges := lost }
    cells := s.cells.map (fun e => (e.1, match e.2.ownArea with
      | some (k, _) => if k = i then { e.2 with ownArea := none } else e.2
      | none => e.2)) }
  s'.allocateRings

/-- Carries out LOAD_PATTERN with MODE 1. -/
def State.unloadPattern (s : State) (f : Fetched) : State :=
  let c := f.cmd
  let slot := uAt c 26 2
  s.judged f (do
    need (loadFieldsOk c && uAt c 24 1 == 1 && uAt c 16 8 == 0) stMalformed
    need (decide (slot < 64)) stMalformed
    need (!s.slotInUse slot) stState
    match Tab.get? s.pats slot with
    | some p => .ok p
    | none => .error stState) (fun p => (s.unload slot p).finish f slot)

def execPatternUnload (q : Nat) (c : Bytes) (s : State) : Result := s.hostCmd q c (fun f s => s.unloadPattern f)

end Sys2Proof.Machine
end

