-- ==== Sys2Proof/Machine/Receipts.lean ====
section
/-!
DEFINITION. Receipts: output digests, the row record, the chain, bundles (R216 to R219), and what a commit adds to the
counters (R215, R220).
-/
namespace Sys2Proof.Machine

/-- The chunks of 1 MiB of `n` bytes from `a`: their addresses and lengths. -/
def chunks (a n : Nat) : List (Nat × Nat) :=
  (List.range (cdiv n 0x100000)).map (fun i => (a + i * 0x100000, min 0x100000 (n - i * 0x100000)))

/-- The digest of an output range from the committed bytes (R217); a free value where the range lies in a slice that is out of service,
whose bytes nothing reads (R329). -/
def State.rangeDigest (s : State) (a n : Nat) : Bytes :=
  if !s.hbmOk a n then le 64 (Config.openResult "digest of a range out of service" [a, n, s.clock])
  else sha512 (le 8 a ++ le 8 n ++ ((chunks a n).map (fun c => sha512 (s.committedRead c.1 c.2))).flatten)

/-- Commands ended at this commit, in queue order and then in submission order. -/
def orderEnded (l : List Ended) : List Ended :=
  (List.range 64).flatMap (fun q => l.filter (fun e => e.queue == q))

/-- The row record (Table: Row record) of a row that ran pattern `p`. A row with no pattern of its own (waste yarn, RESHARD, COPY)
has FLEVEL 0 and a zero PATTERN. -/
def State.rowRecord (s : State) (p : Option Pattern) : Bytes :=
  let r := s.row
  le 8 r.num ++ le 1 (r.attempt + 1) ++ le 1 (match p with
      | some p => p.flevel
      | none => 0)
    ++ zeros 2 ++ le 4 (s.nat 0x2220 1) ++ le 8 s.now ++ fit 64 (match p with
      | some p => p.digest
      | none => [])
    ++ le 8 r.inexact ++ le 8 r.clamps ++ le 8 (r.outrange + r.idxClamp + r.duplicate) ++ le 8 r.overflow
    ++ le 8 s.host.ending.length

/-- leaf(n) for a row record and the commands ended at its commit. -/
def leafOf (record : Bytes) (ended : List Ended) : Bytes :=
  sha512 (record ++ (orderEnded ended).flatMap (fun e => e.bytes ++ e.digests.flatten))

/-- Appends the row to the chain; `record` is its row record, the ended commands are those that wait for release. -/
def State.appendChain (s : State) (record : Bytes) : State :=
  { s with
    row := { s.row with
      head := sha512 (s.row.head ++ leafOf record s.host.ending)
      firstRow := if s.row.firstRow = 0 then s.row.num else s.row.firstRow
      sinceBundle := s.row.sinceBundle + 1 }
    flash := { s.flash with unbundled := s.flash.unbundled + 1 } }

/-- The counters `0x2401:01` to `:10` as they stand. -/
def State.counters (s : State) : List Nat := (List.range 16).map (fun i => s.nat 0x2401 (i + 1))

/-- The changes of the counters since the last bundle; in an epoch's first bundle the last one tells the unbundled rows of
the epoch before. -/
def State.bundleCounters (s : State) : List Nat :=
  let d := (List.range 16).map (fun i => s.counters.getD i 0 - s.row.ctrBase.getD i 0)
  if s.row.epochFirst then d.set 15 s.row.carried else d

/-- SHA-512 of the defect list (`0x2301:03`). -/
def State.defectsDigest (s : State) : Bytes := sha512 (s.flash.defects.flatMap defectBytes)

/-- SHA-512 over the digests of the loaded patterns in table order. -/
def State.patternsDigest (s : State) : Bytes := sha512 (s.pats.flatMap (fun e => fit 64 e.2.digest))

/-- Bytes 0 to 511 of a bundle with these FLAGS. -/
def State.bundleHead (s : State) (flags : Nat) : Bytes :=
  le 4 0x52425754 ++ le 2 1 ++ le 2 1024 ++ fit 16 Config.serialNumber ++ le 8 (s.flash.bundleSeq + 1) ++ le 4 s.flash.epoch
    ++ le 1 (s.nat 0x2810 1) ++ le 1 flags ++ zeros 2 ++ le 8 s.row.firstRow ++ le 8 s.row.num ++ le 8 s.now
    ++ fit 64 s.row.head ++ fit 64 s.row.prevHead ++ fit 64 s.sec.running.digestBytes ++ s.defectsDigest
    ++ s.patternsDigest ++ s.bundleCounters.flatMap (fun v => le 8 v)

/-- Signs a bundle over the rows since the last: FLAGS bits 0 and 1 as asked, bit 2 for the first of an epoch; flash keeps the
last 1,024 and vector 67 is raised (R218, R219). -/
def State.signBundle (s : State) (forced bindOff : Bool) : State :=
  let flags := (if forced then 1 else 0) + (if bindOff then 2 else 0) + (if s.row.epochFirst then 4 else 0)
  let head := s.bundleHead flags
  let all := s.flash.bundles ++ [head ++ fit 512 (Config.attest head)]
  ({ s with
    flash := { s.flash with
      bundles := all.drop (all.length - 1024)
      bundleSeq := s.flash.bundleSeq + 1
      unbundled := 0 }
    row := { s.row with
      prevHead := s.row.head, firstRow := 0, sinceBundle := 0, ctrBase := s.counters, epochFirst := false, carried := 0
      forceNew := false, bindBundle := false } }).msix 67

/-- The bundle that falls due at this commit, if one does: BUNDLE rows have committed, or a READ_RECEIPT or a bind-off asks
for it. -/
def State.dueBundle (s : State) : State :=
  if s.row.forceNew ∨ s.row.bindBundle ∨ s.nat 0x2410 1 ≤ s.row.sinceBundle then
    s.signBundle s.row.forceNew s.row.bindBundle
  else s

/-- What a committed row adds to the counters from manufacture (R220). -/
def State.addCounters (s : State) : State :=
  let r := s.row
  ([(1, 1), (2, r.undone), (4, r.clsA), (5, r.clsB), (6, r.spCorr), (7, r.hbmCorr), (8, r.uncorr), (9, r.retries),
    (10, r.inexact), (11, r.overflow), (12, r.clamps), (13, r.outrange), (14, r.idxClamp), (15, r.duplicate),
    (16, r.localised)]).foldl (fun s e => if e.2 = 0 then s else s.addOb 0x2401 e.1 e.2) s

/-- What a committed row adds to the active run's totals (R215, R388) and to TCLAMPS and JOBS (R254). -/
def State.addRunTotals (s : State) : State :=
  let r := s.row
  let s := if r.tclamps = 0 then s else s.addOb 0x2C00 1 r.tclamps
  let s := if r.jobs = 0 then s else s.addOb 0x2C03 1 r.jobs
  match s.run with
  | some u =>
    if r.waste then s
    else { s with run := some { u with
      done := u.done + 1, rowsAll := u.rowsAll + 1, replays := u.replays + r.attempt
      lateMax := max u.lateMax r.late, slipMax := max u.slipMax s.maxSlips
      inexact := u.inexact + r.inexact, clamps := u.clamps + r.clamps, outrange := u.outrange + r.outrange
      idxClamp := u.idxClamp + r.idxClamp, duplicate := u.duplicate + r.duplicate, overflow := u.overflow + r.overflow } }
  | none => s

end Sys2Proof.Machine
end

