-- ==== Sys2Proof/Machine/Regions.lean ====
section
/-!
DEFINITION. Regions and the module's power: rail limits, trips, shorts and eFuses, the cap's share and loops, slope and ramp
ceilings, floors and pre-ramps, converters, HBM and coolant temperature, SAFE (R286 to R292, R296, R300 to R304, R308 to R312,
R316, R317).
-/
namespace Sys2Proof.Machine

/-- A command to a region. -/
def State.onRegion (s : State) (r : Nat) (f : State → State) : Result := s.unit "region" r (decide (r < 42)) f

/-! ### Rail, short, eFuse -/

/-- The warning limit after a rail sample (R289). -/
def Reg.warned (k : Reg) (deciA warnA : Nat) : Reg :=
  if warnA * 10 < deciA then { k with warn := max 4 (k.warn - 4), warnUs := 0 }
  else if deciA * 100 < warnA * 950 then
    if 3 ≤ k.warnUs then { k with warn := min 64 (k.warn + 1), warnUs := 0 } else { k with warnUs := k.warnUs + 1 }
  else { k with warnUs := 0 }

/-- A converter group latches off and its region is lost (R290, R291). -/
def State.trip (s : State) (r cstate : Nat) : State :=
  let s := s.latchOff r cstate
  (s.setReg r { s.reg r with pin := 0, lastDeciA := 0 }).loseRegion r

/-- The rail averages of 1 µs: current in 0.1 A, voltage in mV (R288 to R290). Four averages above OCTRIP trip the region. -/
def execRegionRailSample (r deciA mv : Nat) (s : State) : Result :=
  s.onRegion r (fun s =>
    let warnA := s.nat (0x3000 + r) 0x22
    let s := (s.setOb (0x3000 + r) 0x20 (deciA : Nat)).setOb (0x3000 + r) 0x21 (mv : Nat)
    let s := if warnA * 10 < deciA then s.addOb (0x3000 + r) 0x27 1 else s
    let k := (s.reg r).warned deciA warnA
    let past := if s.nat (0x3000 + r) 0x23 * 10 < deciA then k.overTrip + 1 else 0
    let s := s.setReg r { k with
      overTrip := past, lastDeciA := deciA, sumDeciA := k.sumDeciA + deciA, samples := k.samples + 1 }
    if 4 ≤ past then (s.setReg r { s.reg r with overTrip := 0 }).trip r 3 else s)

/-- The rail passes 720 A for 100 ns, or falls below 0.60 V for 200 ns (R290). -/
def execRegionShort (r : Nat) (s : State) : Result := s.onRegion r (fun s => s.trip r 4)

/-- The eFuse of a region group opens (R288): its region has no supply and is lost. -/
def execEfuseOpen (r : Nat) (s : State) : Result := s.onRegion r (fun s => s.trip r 6)

/-- A phase of converter `conv` fails (0 to 3 the HBM groups, 4 the ring): logged; a second phase of the same converter latches
SAFE (R292). -/
def execConverterPhaseFail (conv phase : Nat) (s : State) : Result :=
  s.unit "converter" conv (decide (conv < 5)) (fun s =>
    if s.power.convFailed.contains (conv, phase) then s
    else
      let second := s.power.convFailed.any (fun e => e.1 == conv)
      let s := { s with power := { s.power with convFailed := s.power.convFailed ++ [(conv, phase)] } }
      let s := s.logEvent .module 0x2500 3 0 (conv * 256 + phase)
      if second then s.latchSafe none else s)

/-! ### The cap (R301 to R304) -/

/-- Does a region carry a logical region? -/
def State.carriesRegion (s : State) (r : Nat) : Bool := (s.map.logicalRegion r).isSome

/-- The regions that do. -/
def State.carrying (s : State) : List Nat := (List.range 42).filter s.carriesRegion

/-- The share of each region, W (R301). -/
def State.shareOf (s : State) (pin regions : Nat) : Nat :=
  let base := (s.nat 0x2500 2 - (pin - regions)) / max 1 s.carrying.length
  match s.power.shareScale with
  | some (cap, avg) => base * cap / max 1 avg
  | none => base

/-- Every µs: PIN, PAVG and the sum of the regions' eFuse input powers set SHARE; the 100 µs correction is renewed first. -/
def execCapShareUpdate (pin pavg regions : Nat) (s : State) : Result :=
  s.whenOn (fun s =>
    let p := s.power
    let s := if p.shareUs = 0 then
        { s with power := { p with
          shareScale := if s.nat 0x2500 2 < pavg then some (s.nat 0x2500 2, pavg) else none } }
      else s
    let s := { s with power := { s.power with shareUs := (p.shareUs + 1) % 100 } }
    let v := s.shareOf pin regions
    s.carrying.foldl (fun s r => s.setOb (0x3000 + r) 0x25 (v : Nat)) s)

/-- The cap limit after a µs at power `w` against share `sh` (R302); a share of 0 counts as an unbounded excess. -/
def Reg.capStep (k : Reg) (w sh : Nat) : Reg :=
  if sh < w then { k with capN := if sh = 0 then 4 else max 4 (k.capN - max 1 (cdiv (64 * (w - sh)) sh)), capUs := 0 }
  else if w * 100 < 97 * sh then
    if 3 ≤ k.capUs then { k with capN := min 64 (k.capN + 1), capUs := 0 } else { k with capUs := k.capUs + 1 }
  else { k with capUs := 0 }

/-- The bubble count after a µs (R303). -/
def Reg.bubbleStep (k : Reg) (w sh gain : Nat) : Reg :=
  if sh < w then { k with bub := if sh = 0 then 60 else min 60 (k.bub + gain * 8 * (w - sh) / sh) }
  else if w * 100 < 97 * sh then { k with bub := k.bub - 1 }
  else k

/-- The cap loop of the ISSUE actuator. -/
def execCapLoopUpdate (r watts : Nat) (s : State) : Result :=
  s.onRegion r (fun s =>
    let k := { s.reg r with pin := watts }
    s.setReg r (if s.bubbling then k else k.capStep watts (s.nat (0x3000 + r) 0x25)))

/-- The loop of the BUBBLES actuator. -/
def execBubbleLoopUpdate (r watts : Nat) (s : State) : Result :=
  s.onRegion r (fun s =>
    let k := { s.reg r with pin := watts }
    s.setReg r (if s.bubbling then k.bubbleStep watts (s.nat (0x3000 + r) 0x25) (s.nat 0x2500 5) else k))

/-- Does every region in service stand at its minimum while the 100 µs average exceeds CAPAPPLIED (R304)? -/
def State.unattainable (s : State) : Bool :=
  s.carrying.all (fun r => if s.bubbling then (s.reg r).bub == 60 else (s.reg r).capN == 4) && decide (s.nat 0x2500 2 < s.nat 0x2020 5)

/-- CAP_UNATTAINABLE, after 10 ms of it: logged and counted (R304). -/
def execCapUnattainable (s : State) : Result :=
  s.whenOn (fun s =>
    if s.unattainable then
      (s.addOb 0x2500 0x13 1).logEvent .module 0x2500 0x13 (s.nat 0x2500 0x13) (s.nat 0x2500 0x13 + 1)
    else s)

/-! ### Ceilings and targets -/

/-- The slope ceiling from the last µs's rise of the rail current (0.1 A) and the issue fraction used in it (R300). -/
def execSlopeCeilingUpdate (r riseDeciA used64 : Nat) (s : State) : Result :=
  s.onRegion r (fun s =>
    let k := s.reg r
    s.setReg r { k with
      slope := if s.nat 0x2500 9 * 10 < riseDeciA then clampN 4 64 used64 else min 64 (k.slope + 8) })

/-- The regions that share a seam with region `r`. -/
def seamRegions (r : Nat) : List Nat :=
  (if r % 7 = 0 then [] else [r - 1]) ++ (if r % 7 = 6 then [] else [r + 1]) ++ (if r < 7 then [] else [r - 7])
    ++ (if r < 35 then [r + 7] else [])

/-- Has a neighbour a rail current above 90 % of its own OCWARN (R296)? -/
def State.neighbourHot (s : State) (r : Nat) : Bool :=
  (seamRegions r).any (fun q => decide (s.nat (0x3000 + q) 0x22 * 9 < (s.reg q).lastDeciA))

/-- A step of the ramp governor; while a neighbour is hot a step takes two periods (R296). At 64/64 the region is in service. The
neighbours' currents are those that the state holds; what the command says of them counts for nothing (log entry 103). -/
def execRampGovernorStep (r : Nat) (_ : Bool) (s : State) : Result :=
  s.onRegion r (fun s =>
    let k := s.reg r
    if 64 ≤ k.ramp then s
    else if s.neighbourHot r ∧ !k.rampHalf then s.setReg r { k with rampHalf := true }
    else
      let s := s.setReg r { k with ramp := k.ramp + 1, rampHalf := false }
      if k.ramp + 1 = 64 ∧ s.nat (0x3000 + r) 0x24 = 2 then s.setOb (0x3000 + r) 0x24 0 else s)

/-- The mean rail current of the last 16 closed rows, 0.1 A; 0 before the first (R312). -/
def Reg.meanDeciA (k : Reg) : Nat := if k.recent.isEmpty then 0 else k.recent.foldl (· + ·) 0 / k.recent.length

/-- The region's efficiency that the power controller has measured, in thousandths: the spec gives it no value (log entry
34). -/
def State.eta (s : State) : Nat := max 1 (Config.openResult "region conversion efficiency" [s.row.num] % 1001)

/-- The slope of a region's target in 0.1 A a µs: SLOPE, or the region's part of a lower module slope (R311, R312). -/
def State.slopeDeciA (s : State) : Nat :=
  let own := s.nat 0x2500 9 * 10
  match s.power.downSlope with
  | some m => if s.nat 0x2500 0x0F = 2 then min own (m * 42 * s.eta / (950 * 100 * max 1 s.carrying.length)) else own
  | none => own

/-- SHARE of a region as a rail current, 0.1 A: its watts through the conversion at 0.95 V. -/
def State.shareDeciA (s : State) (r : Nat) : Nat := s.nat (0x3000 + r) 0x25 * s.eta * 10 / 950

/-- The line of the pre-ramp that runs, 0.1 A of input current: it rises linearly over Tr to the next plan at the mark (R311). -/
def PreRamp.line (p : PreRamp) (now : Nat) : Nat := p.from_ + (p.to_ - p.from_) * min p.tr (now - p.at_) / max 1 p.tr

/-- A region's part of it as a rail current, in equal parts over the regions that carry one (log entry 103); 0 outside a pre-ramp. -/
def State.preRampDeciA (s : State) : Nat :=
  match s.power.preRamp with
  | some p => p.line s.now * 42 * s.eta / (950 * max 1 s.carrying.length)
  | none => 0

/-- The target of waste yarn and ballast (R312): the last measured current less the slope, the floor and the pre-ramp, in the region's
share. All of it stands in the state; what the command says of it counts for nothing (log entry 103). -/
def State.floorTarget (s : State) (r : Nat) : Nat :=
  let k := s.reg r
  let floor := s.nat 0x2500 8 * k.meanDeciA / 100
  min (s.shareDeciA r) (max floor (max (k.lastDeciA - s.slopeDeciA) s.preRampDeciA))

def execFloorTargetUpdate (r _measuredDeciA _shareDeciA _preRampDeciA : Nat) (s : State) : Result :=
  s.onRegion r (fun s => s.setOb (0x3000 + r) 0x29 (s.floorTarget r : Nat))

/-! ### Plans (R308 to R311) -/

/-- The budget B (R87). -/
def State.budget (s : State) : Nat := s.nat 0x2210 1 * 2400 * (100 - s.nat 0x2211 1) / 100

/-- The hints for a row. -/
def State.hintsFor (s : State) (row : Nat) : List HintRec := s.power.hints.filter (fun h => h.row == row)

/-- 64 times the cycles of a row, its whole budget at full issue. -/
def State.fullLoad (s : State) : Nat := 64 * max 1 s.budget

/-- What hints ask of a cell: LEVEL times DUR over those that name it, a whole row's budget at most (R308). -/
def State.hintLoad (s : State) (hs : List HintRec) (c : Nat × Nat) : Nat :=
  min s.fullLoad ((hs.filter (fun h => h.cell == none || h.cell == some c)).foldl (fun a h => a + h.level * h.dur) 0)

/-- The cells that hints name. -/
def hintedCells (hs : List HintRec) : List (Nat × Nat) :=
  if hs.any (fun h => h.cell == none) then (List.range 1728).map (fun k => (k % 48, k / 48)) else (hs.filterMap (·.cell)).eraseDups

/-- The plan of a row from the hints that count, 0.1 A: the running average, and each hinted cell at its fraction of full issue (R308). -/
def State.planRow (s : State) (row : Nat) : Nat :=
  let hs := s.hintsFor row
  s.power.runAvg + (hintedCells hs).foldl (fun a c => match s.map.place c.1 c.2 with
    | some p => a + s.hintLoad hs c * Config.ifull p.globalBlock
    | none => a) 0 * 1000 / (s.fullLoad * s.eta)

/-- Is a block's planned fraction for a row, the mean of its cells', at least HEAVY/64 (R309; log entry 103)? -/
def State.heavyRow (s : State) (b row : Nat) : Bool :=
  let hs := s.hintsFor row
  let load := ((blockCells b).filterMap s.map.logicalCell).foldl (fun a c => a + s.hintLoad hs c) 0
  decide (s.nat 0x2500 0x0A * 4 * s.fullLoad ≤ 64 * load)

/-- Device time of the start mark of a later row, when every row between closes in its time. -/
def State.rowMarkNs (s : State) (row : Nat) : Nat :=
  (if s.row.phase = .waiting then s.row.markNs + max 1 (s.nat 0x2210 1) * 1000 else s.row.deadline)
    + (row - (s.row.num + 1)) * (max 1 (s.nat 0x2210 1) * 1000)

/-- The heavy rows of a block whose raise may begin: their plan is fixed, their mark is 200 µs away or nearer (R309). -/
def State.raiseRows (s : State) (b : Nat) : List Nat :=
  [s.row.num + 1, s.row.num + 2].filter (fun r =>
    decide (r ≤ s.power.planFixed) && decide (s.rowMarkNs r ≤ s.now + 200000) && s.heavyRow b r)

/-- The voltage raise for a heavy row begins; none outside LOOKAHEAD (R306, R309). The planned fraction is that of the hints; what the
command says of it counts for nothing (log entry 103). -/
def execLookaheadRaise (b _planned64 : Nat) (s : State) : Result :=
  s.onBlock b (fun s =>
    match (s.raiseRows b).getLast? with
    | some r =>
      if s.nat 0x2500 0x0F = 2 then
        s.setBlk b { s.blk b with look := (s.blk b).look.toward s.clock (s.nat 0x2500 0x0B), lookFor := r }
      else s
    | none => s)

/-- This module's plan for a row: fixed, or as it stands. -/
def State.ownPlan (s : State) (row : Nat) : Nat := (Tab.get? s.power.plan row).getD (s.planRow row)

/-- The other members of the feed group. -/
def State.feedPeers (s : State) : List Nat :=
  if s.nat 0x2500 0x0C = 0 ∨ s.nat 0x2500 0x0D ≤ 1 then []
  else (List.range 1024).filter (fun m => m != s.moduleId && Config.feedMember (s.nat 0x2500 0x0C) m)

/-- What member `m` has planned for a row, and its DIDT; the newest message that covers the row counts. -/
def State.peerPlan (s : State) (m row : Nat) : Option (Nat × Nat) :=
  ((s.power.peerPlans.filter (fun e => e.1 % 1024 == m && decide (e.1 / 1024 ≤ row) && decide (row < e.1 / 1024 + 32))).getLast?).map
    (fun e => (e.2.getD (row - e.1 / 1024) 0, e.2.getD 32 8))

/-- The plans of all members for the current and the next row with their DIDT: the module's own alone when a message is
missing. -/
def State.groupPlans (s : State) (row : Nat) : List (Nat × Nat × Nat) × Bool :=
  let own := (s.ownPlan row, s.ownPlan (row + 1), s.nat 0x2500 7)
  let peers := s.feedPeers.map (fun m => match s.peerPlan m row, s.peerPlan m (row + 1) with
    | some a, some b => some (a.1, b.1, b.2)
    | _, _ => none)
  if peers.all (·.isSome) then (own :: peers.filterMap id, true) else ([own], false)

/-- |a - b|. -/
def gap (a b : Nat) : Nat := max a b - min a b

/-- Tr in ns (R311): plans in 0.1 A, slopes in A/µs; the group's term alone with a FEEDSLOPE. -/
def rampNs (ps : List (Nat × Nat × Nat)) (feedSlope : Nat) : Nat :=
  let cur := ps.foldl (fun a p => a + p.1) 0
  let nxt := ps.foldl (fun a p => a + p.2.1) 0
  let group := if feedSlope = 0 then 0 else gap cur nxt * 100 / feedSlope
  min 1000000 (ps.foldl (fun a p => max a (gap p.1 p.2.1 * 1000 / (9 * max 1 p.2.2))) group)

/-- The pre-ramp for the next mark: upward a linear rise of the target over Tr, downward a lower slope (R311). Without every member's
message the row is planned from this module's plan and DIDT alone (R310). -/
def execPreRamp (s : State) : Result :=
  s.whenOn (fun s =>
    if s.nat 0x2500 0x0F ≠ 2 then s
    else
      let g := s.groupPlans s.row.num
      let s := if g.2 then s else s.addOb 0x2500 0x15 1
      let feed := if g.2 then s.nat 0x2500 0x0E else 0
      let cur : Nat := g.1.foldl (fun a p => a + p.1) 0
      let nxt : Nat := g.1.foldl (fun a p => a + p.2.1) 0
      let ramp : PreRamp := { at_ := s.now, tr := rampNs g.1 feed, from_ := s.ownPlan s.row.num, to_ := s.ownPlan (s.row.num + 1) }
      { s with power := { s.power with
        preRamp := if cur < nxt then some ramp else none
        downSlope := if nxt < cur ∧ feed ≠ 0 then some (feed * 1000 / max 1 (s.nat 0x2500 0x0D)) else none } })

/-! ### Temperatures and coolant -/

/-- The hottest stack, 0.1 °C (R316). -/
def execHbmTempRead (hottestDeciC : Nat) (s : State) : Result :=
  s.whenOn (fun s =>
    let s := s.setOb 0x2502 5 (hottestDeciC : Nat)
    if 1050 ≤ hottestDeciC then s.latchSafe none
    else
      { s with power := { s.power with
        limHbm := if 950 ≤ hottestDeciC then some (50 * (hottestDeciC - 940)) else none } }.applyCap)

/-- A reading that has persisted for the time of Table: Coolant responses: flow in 0.1 L/min, temperatures in 0.1 °C. -/
def execCoolantReading (flowDeciL : Nat) (inletDeciC outletDeciC : Int) (sensorOk : Bool) (s : State) : Result :=
  s.whenOn (fun s =>
    let s := ((s.setOb 0x2530 1 (flowDeciL : Nat)).setOb 0x2530 2 inletDeciC).setOb 0x2530 3 outletDeciC
    let newFail := !sensorOk && s.power.limSensor.isNone
    let s := if newFail then s.logEvent .module 0x2530 1 flowDeciL flowDeciL else s
    let s := if inletDeciC < 170 then s.logEvent .module 0x2530 2 (logVal inletDeciC) (logVal inletDeciC) else s
    let s := { s with power := { s.power with
      limSensor := if sensorOk then none else some 12000
      limFlow := if sensorOk ∧ flowDeciL < 150 then some (110 * flowDeciL) else none
      limInlet := if 400 ≤ inletDeciC ∧ inletDeciC ≤ 450 then some (100 * (inletDeciC - 400)).toNat else none } }
    let s := s.applyCap
    if sensorOk ∧ flowDeciL < 60 then { s.latchSafe none with power := { (s.latchSafe none).power with hbmOff := true } }
    else if 450 < inletDeciC then s.latchSafe none
    else s)

/-- A latched fault puts the module in SAFE (R317, R431). -/
def execSafeEntry (cause : Nat) (s : State) : Result := s.whenOn (fun s => s.latchSafe (some cause))

end Sys2Proof.Machine
end

