-- ==== Sys2Proof/Machine/Sessions.lean ====
section
/-!
DEFINITION. OPEN_SESSION, CLOSE_SESSION and the end of a zero fill (R221 to R228, R240, R384).
-/
namespace Sys2Proof.Machine

/-! ### Places of the pool and the session area -/

/-- Does a range meet the pool? -/
def State.meetsPool (s : State) (a n : Nat) : Bool :=
  (List.range 48).any (fun i =>
    let b := i * 0x2000000000 + s.nat 0x2B10 1
    spansMeet (a, a + n) (b, b + s.poolPages * pageBytes))

/-- Does a range meet the session area? -/
def State.meetsSarea (s : State) (a n : Nat) : Bool := spansMeet (a, a + n) (s.nat 0x2B11 1, s.nat 0x2B11 1 + sareaBytes)

/-- The conditions of the pool and the session area (R226, first three). -/
def State.poolRefusal (s : State) : Option Nat :=
  let sa := s.nat 0x2B11 1
  if sa = 0 ∨ s.poolPages = 0 then some stState
  else if s.nat 0x2B10 1 % pageBytes ≠ 0 ∨ sa % 0x40000000 ≠ 0 then some stMisaligned
  else if decide (0x2000000000 - s.shareBytes < s.nat 0x2B10 1 + s.poolPages * pageBytes) || !s.hbmOk sa sareaBytes
      || s.meetsPool sa sareaBytes || s.inShare sa sareaBytes then some stAddress
  else none

/-- The bytes of a lifeline region: its own, and those of a versioned region's second buffer (R105, R208). -/
def Region.spans (r : Region) : List (Nat × Nat) :=
  (r.base, r.base + r.len) :: (if r.attr = 2 then [(r.alt, r.alt + r.len)] else [])

/-- Does a pattern cover the pool in all 48 slices and both batch buffers with disposable regions, and leave the page
lists and the reserved part alone? A versioned region's second buffer counts as the region's own (log entry 107). -/
def State.servesSessions (s : State) (p : Pattern) : Bool :=
  let ds := p.regions.filter (fun r => r.attr == 3)
  let sa := s.nat 0x2B11 1
  (List.range 48).all (fun i => covered ds (i * 0x2000000000 + s.nat 0x2B10 1) (s.poolPages * pageBytes))
    && covered ds (sa + 0x20000000) 0x200000
    && !(p.regions.flatMap Region.spans).any (fun r => spansMeet r (sa, sa + 0x20000000)
      || spansMeet r (sa + 0x20200000, sa + sareaBytes))

/-- The slot that an INDEX takes. -/
def State.openAt (s : State) (i : Nat) : Except Nat Nat :=
  if i = 0xFFFF then
    match (List.range 8192).find? (fun k => (s.session k).status == 0) with
    | some k => .ok k
    | none => .error stTableFull
  else if 8191 < i then .error stMalformed
  else if (s.session i).status ≠ 0 then .error stState
  else .ok i

/-- The checks of OPEN_SESSION in order (R226); answers the slot. -/
def State.checkOpen (s : State) (c : Bytes) : Except Nat Nat := do
  let n := uAt c 18 1
  let set_ := 0x2B20 + n
  let plen := uAt c 20 4
  let prompt := uAt c 24 8
  need (headerOk 0x10 [(16, 3), (20, 40)] c && addrsOk c [24]) stMalformed
  refuseFirst s.poolRefusal
  need (decide (n ≤ 15)) stMalformed
  need (s.nat set_ 6 != 0) stState
  match Tab.get? s.pats (s.nat set_ 1), Tab.get? s.pats (s.nat set_ 2) with
  | some p, some d => do
    need (s.servesSessions p && s.servesSessions d) stState
    need (prompt % 64 == 0) stMisaligned
    need (!isHost prompt && s.hbmOk prompt (4 * plen) && !s.meetsPool prompt (4 * plen) && !s.meetsSarea prompt (4 * plen)
      && !s.inShare prompt (4 * plen)) stAddress
    need (plen != 0 && decide (plen ≤ s.nat set_ 7)) stMalformed
    s.openAt (uAt c 16 2)
  | _, _ => .error stState
where
  refuseFirst : Option Nat → Except Nat Unit
    | some st => .error st
    | none => .ok ()

/-- The numeric fields of OPEN_SESSION: byte offset, requested and applied (R227). -/
def State.openFields (s : State) (c : Bytes) : List (Nat × Nat × Nat) :=
  let set_ := 0x2B20 + uAt c 18 1
  let vocab := s.nat set_ 8
  let temp := uAt c 40 4
  let topk := uAt c 44 4
  let topp := uAt c 48 4
  let stop := uAt c 52 4
  let maxpos := uAt c 56 4
  [(40, temp, clampTemp temp), (44, topk, clampTopk vocab topk), (48, topp, clampTopp topp),
    (52, stop, if vocab ≤ stop then 0xFFFFFFFF else stop), (56, maxpos, clampN (uAt c 20 4) (s.nat set_ 6 - 1) maxpos)]

/-- The value of an applied field. -/
def appliedAt (l : List (Nat × Nat × Nat)) (off : Nat) : Nat :=
  match l.find? (fun e => e.1 == off) with
  | some e => e.2.2
  | none => 0

/-- Opens the session in slot `i`: its record and an empty page list. -/
def State.openSession (s : State) (f : Fetched) (i : Nat) : State :=
  let c := f.cmd
  let l := s.openFields c
  let v := s.session i
  let s := (s.clearList i).setSession i {
    status := 1, set := uAt c 18 1, tag := v.tag, plen := uAt c 20 4, prompt := uAt c 24 8, seed := uAt c 32 8
    temp := appliedAt l 40, topk := appliedAt l 44, topp := appliedAt l 48, stop := appliedAt l 52, maxpos := appliedAt l 56 }
  s.finish f (s.handle i) (l.filter (fun e => e.2.1 != e.2.2))

def execOpenSession (q : Nat) (c : Bytes) (s : State) : Result :=
  s.hostCmd q c (fun f s => s.judged f (s.checkOpen f.cmd) (s.openSession f))

/-! ### Closing (R240) -/

/-- The checks of CLOSE_SESSION; answers the slot. -/
def State.checkClose (s : State) (c : Bytes) : Except Nat Nat := do
  let h := uAt c 16 4
  need (headerOk 0x12 [(16, 5)] c && decide (uAt c 20 1 < 2)) stMalformed
  need (bits h 15 13 == 0) stMalformed
  match s.openSlot h with
  | none => .error stState
  | some i => do
    need (!(s.session i).inRun) stState
    .ok i

/-- Writes zeros over pages in slices in service, where they stood when their session closed. Whole lines are written, so none stays
poisoned (R193). -/
def State.zeroPages (s : State) (ps : List (Nat × Nat)) : State :=
  let as := (ps.filter (fun p => !s.map.outStacks.contains (p.1 / 65536))).map (·.2)
  let inPage (a : Nat) : Bool := as.any (fun b => decide (b ≤ a) && decide (a < b + pageBytes))
  { s with mem := s.mem.filter (fun e => !inPage e.1), hbm := { s.hbm with poisoned := s.hbm.poisoned.filter (fun l => !inPage l) } }

/-- Closes the session in slot `i`. With ZERO and pages to fill, the pages stay out of the pool and the command waits for the
fill (PAGE_ZEROING_DONE). -/
def State.closeSession (s : State) (f : Fetched) (i : Nat) : State :=
  let h := uAt f.cmd 16 4
  let ps := (s.session i).pages
  let t := s.freeSlot i
  if bit (uAt f.cmd 20 1) 0 ∧ ps ≠ [] then
    { t with pool := { t.pool with zeroing := t.pool.zeroing ++ [(h, ps.map (fun p => (p, s.pageAddr p)))] } }.setFetched { f with wait := true }
  else (t.returnPages ps).finish f h

def execCloseSession (q : Nat) (c : Bytes) (s : State) : Result :=
  s.hostCmd q c (fun f s => s.judged f (s.checkClose f.cmd) (s.closeSession f))

/-- The fetched CLOSE_SESSION that waits for the fill of a handle's pages. -/
def State.closingOf (s : State) (h : Nat) : Option Fetched :=
  s.host.fetched.find? (fun f => f.wait && cmdOpcode f.cmd == 0x12 && uAt f.cmd 16 4 == h)

/-- The zero fill of a closed session's pages ends: the pages return to the pool and the command can complete. -/
def execPageZeroingDone (h : Nat) (s : State) : Result :=
  s.whenOn (fun s =>
    match s.pool.zeroing.find? (fun e => e.1 == h) with
    | none => s
    | some e =>
      let t := (s.zeroPages e.2).returnPages (e.2.map (·.1))
      let t := { t with pool := { t.pool with zeroing := t.pool.zeroing.filter (fun z => z.1 != h) } }
      match s.closingOf h with
      | some f => t.finish f h
      | none => t)

end Sys2Proof.Machine
end

