-- ==== Sys2Proof/Machine/Runs.lean ====
section
/-!
DEFINITION. Run commands: what each checks, how it waits at the head of its queue, and how the next run starts (R89, R109, R232,
R233, R347, R353, R358, R375, R381 to R384).
-/
namespace Sys2Proof.Machine

/-! ### Patterns that may not run -/

/-- The UPD jobs of a pattern's programs, as addresses: read from its image. -/
def State.patternJobs (s : State) (p : Pattern) : List Nat :=
  if p.upd then
    p.cells.flatMap (fun e => ((List.range e.progLen).map (fun i =>
      BitVec.ofNat 256 (ofLe (s.readImage (p.addr + e.progSrc + 32 * i) 32)))).filterMap (fun (d : Desc) =>
        if descClass d = 6 then some (fld d 177 126) else none))
  else []

/-- Do `n` bytes from `a` touch slice `i`? -/
def touchesSlice (i a n : Nat) : Bool := spansMeet (a, a + n) (i * 0x2000000000, (i + 1) * 0x2000000000)

/-- Does a pattern name a slice: in its image, a lifeline region, a resident HOME, a DIR 4 stream or a UPD job (R358)? -/
def State.patternNames (s : State) (p : Pattern) (i : Nat) : Bool :=
  touchesSlice i p.addr p.len
    || p.regions.any (fun r => touchesSlice i r.base r.len || (r.attr == 2 && touchesSlice i r.alt r.len))
    || p.residents.any (fun r => !r.disposable && touchesSlice i r.home r.len)
    || (linkRecs (p.slotTab.length / 16) p.slotTab).any (fun l => l.dir == 4 && l.streams.any (fun e => touchesSlice i e.haddr e.span))
    || (s.patternJobs p).any (fun a => touchesSlice i a 128)

/-- Does a pattern declare a range marked LOST (R347)? -/
def State.declaresLost (s : State) (p : Pattern) : Bool :=
  p.residents.any (fun r => s.map.lostRanges.contains (r.x, r.y, r.off, r.len))

/-- May a pattern's run start now (R89, R347, R353, R358)? -/
def State.mayRun (s : State) (p : Pattern) : Bool :=
  decide (p.cycles ≤ s.budget) && (s.map.voidMask &&& p.voidmask) == s.map.voidMask && !s.declaresLost p
    && !s.map.outStacks.any (s.patternNames p)

/-! ### RUN_PATTERN (R381) -/

/-- The output ranges of a RUN_PATTERN that are in use. -/
def outRanges (c : Bytes) : List (Nat × Nat) :=
  ((List.range 4).map (fun i => (uAt c (40 + 16 * i) 8, uAt c (48 + 16 * i) 8))).filter (fun r => r.2 != 0)

/-- The checks of RUN_PATTERN at its turn; answers the pattern. -/
def State.checkRunTurn (s : State) (c : Bytes) : Except Nat Pattern := do
  let dig := uAt c 32 8
  let rs := outRanges c
  need (headerOk 0x02 [(16, 2), (24, 80)] c && addrsOk c [32, 40, 56, 72, 88]) stMalformed
  need (addrOf dig % 64 == 0) stMisaligned
  need (rs.all (fun r => !isHost r.1 && decide (r.1 + r.2 ≤ hbmEnd)) && (rs.isEmpty || dig != 0)
    && (dig == 0 || destOk dig (64 * max 1 rs.length))) stAddress
  need (decide (uAt c 16 2 < 64)) stMalformed
  match Tab.get? s.pats (uAt c 16 2) with
  | none => .error stState
  | some p => .ok p

/-- The checks of RUN_PATTERN when its run would start: the same, and whether the pattern may run then (R89, R347, R353, R358). -/
def State.checkRun (s : State) (c : Bytes) : Except Nat Pattern := do
  let p ← s.checkRunTurn c
  need (s.mayRun p) stState
  .ok p

/-- A run command passes its first checks and waits for its run; one that fails is refused. -/
def State.queueRun {α : Type} (s : State) (f : Fetched) (e : Except Nat α) : State :=
  s.judged f e (fun _ => s.setFetched { f with wait := true })

def execRunPattern (q : Nat) (c : Bytes) (s : State) : Result :=
  s.hostCmd q c (fun f s => s.queueRun f (s.checkRunTurn f.cmd))

/-! ### RESHARD (R382) -/

/-- The checks of RESHARD; answers the pattern. -/
def State.checkReshard (s : State) (c : Bytes) : Except Nat Pattern := do
  need (headerOk 0x03 [(16, 6)] c) stMalformed
  need (decide (uAt c 16 2 < 64)) stMalformed
  match Tab.get? s.pats (uAt c 16 2) with
  | none => .error stState
  | some p => do
    need (hasPlan p.mapTab (uAt c 18 2) (uAt c 20 2)) stMalformed
    .ok p

def execReshard (q : Nat) (c : Bytes) (s : State) : Result :=
  s.hostCmd q c (fun f s => s.queueRun f (s.checkReshard f.cmd))

/-! ### COPY (R170, R383) -/

/-- Is a tensor's footprint below RBOUND of the cell that holds it? Always so in HBM. -/
def State.residentOnly (s : State) (t : TDesc) : Bool :=
  t.footprint.all (fun a => match cellAt a with
    | some k => decide (a % 0x1000000 < (Tab.getD s.cells k {}).rbound)
    | none => true)

/-- Does a tensor in scratchpad meet a range with a home copy that a loaded pattern declares? -/
def State.meetsHomed (s : State) (t : TDesc) : Bool :=
  t.footprint.any (fun a => match cellAt a with
    | some k => s.pats.any (fun e => e.2.residents.any (fun r =>
        !r.disposable && cellNo r.x r.y == k && decide (r.off ≤ a % 0x1000000) && decide (a % 0x1000000 < r.off + r.len)))
    | none => false)

/-- The checks of COPY; answers the two descriptors. -/
def State.checkCopy (s : State) (c : Bytes) : Except Nat (TDesc × TDesc) := do
  let std := uAt c 16 8
  let dtd := uAt c 24 8
  let dig := uAt c 32 8
  need (headerOk 0x04 [(16, 24)] c && addrsOk c [16, 24, 32]) stMalformed
  need (addrOf std % 64 == 0 && addrOf dtd % 64 == 0 && addrOf dig % 64 == 0) stMisaligned
  need (s.fieldOk std 128 && s.fieldOk dtd 128 && (dig == 0 || s.fieldOk dig 64)) stAddress
  let src := tdescOf (s.readField std 128)
  let dst := tdescOf (s.readField dtd 128)
  match setFault [src, dst] (copyRulesOk src dst permId) with
  | some f => .error f.status
  | none => do
    need (s.footOk src && s.footOk dst && s.residentOnly dst) stAddress
    need (!s.meetsHomed dst) stState
    .ok (src, dst)

def execCopy (q : Nat) (c : Bytes) (s : State) : Result :=
  s.hostCmd q c (fun f s => s.queueRun f (s.checkCopy f.cmd))

/-- The bytes that a COPY writes, by line. -/
def State.copyMoves (s : State) (src dst : TDesc) : List (Nat × Bytes) :=
  (runsOf (s.tensorBuf dst (s.copyElems src dst permId))).flatMap (fun r => pieces (r.2.length / 64 + 2) r.1 r.2)

/-- The range from the lowest to the highest byte of a footprint. -/
def TDesc.hull (t : TDesc) : Nat × Nat :=
  let f := t.footprint
  let lo := f.foldl min (f.headD 0)
  (lo, f.foldl max 0 + 1 - lo)

/-! ### ADVANCE (R232, R233, R384) -/

def execAdvance (q : Nat) (c : Bytes) (s : State) : Result :=
  s.hostCmd q c (fun f s => s.queueRun f
    (need (headerOk 0x11 [(16, 4), (24, 24)] f.cmd && addrsOk f.cmd [24, 32, 40]) stMalformed))

/-- What the admission of an ADVANCE finds: the handles, those to be prefilled, those to be decoded, the set. -/
structure Admission where
  handles : List Nat
  prefills : List Nat
  decodes : List Nat
  set : Nat
deriving DecidableEq, Repr, Inhabited

/-- May the pattern in a slot run for these handles? Without handles it is not run. -/
def State.slotRuns (s : State) (slot : Nat) (hs : List Nat) : Bool :=
  hs.isEmpty || (match Tab.get? s.pats slot with
    | some p => s.mayRun p
    | none => false)

/-- The checks of an ADVANCE in order (Table: ADVANCE refusals). -/
def State.checkAdvance (s : State) (c : Bytes) : Except Nat Admission := do
  let n := uAt c 16 4
  let batch := uAt c 24 8
  let result := uAt c 32 8
  let dig := uAt c 40 8
  need (addrOf batch % 64 == 0 && addrOf result % 64 == 0 && addrOf dig % 64 == 0) stMisaligned
  need (s.fieldOk batch (4 * n) && destOk result (16 * n) && (dig == 0 || destOk dig 64)) stAddress
  need (n != 0 && decide (n ≤ 8192)) stMalformed
  let hs := (cut 4 n (s.readField batch (4 * n))).map ofLe
  need (hs.all (fun h => bits h 15 13 == 0) && hs.eraseDups.length == hs.length) stMalformed
  need (hs.all (fun h => (s.openSlot h).isSome)) stState
  let st (h : Nat) : Nat := (s.session (h % 8192)).status
  let set_ := (s.session (hs.headD 0 % 8192)).set
  need (hs.all (fun h => (s.session (h % 8192)).set == set_)) stState
  need (hs.all (fun h => st h == 1 || st h == 2)) stState
  let pre := hs.filter (fun h => st h == 1)
  let dec := hs.filter (fun h => st h == 2)
  need (decide (pre.length ≤ s.nat (0x2B20 + set_) 4) && decide (dec.length ≤ s.nat (0x2B20 + set_) 5)) stMalformed
  need (s.slotRuns (s.nat (0x2B20 + set_) 1) pre && s.slotRuns (s.nat (0x2B20 + set_) 2) dec) stState
  need (decide ((hs.map (fun h => s.pagesNeeded (s.session (h % 8192)))).foldl (· + ·) 0 ≤ s.freePages)) stNoSpace
  .ok { handles := hs, prefills := pre, decodes := dec, set := set_ }

/-- Allocates the pages of a session and marks it BUSY. -/
def State.admitSession (s : State) (h : Nat) : State :=
  let i := h % 8192
  let s := s.addPages i (s.pagesNeeded (s.session i))
  s.setSession i { s.session i with inRun := true }

/-- The run over one of the set's two patterns. -/
def State.advanceRun (s : State) (r : RunSt) (set_ : Nat) (prefill : Bool) : RunSt :=
  let slot := s.nat (0x2B20 + set_) (if prefill then 1 else 2)
  { r with
    kind := if prefill then .prefill else .decode, slot := slot, done := 0
    rows := match Tab.get? s.pats slot with
      | some p => p.rows
      | none => 0 }

/-! ### Starting a run (R109, R375) -/

/-- The run of a fetched command, before what its kind adds. -/
def Fetched.run (f : Fetched) (kind : RunKind) (slot rows : Nat) : RunSt :=
  { kind := kind, queue := f.queue, cmd := f.cmd, sqhead := f.sqhead, no := f.no, slot := slot, rows := rows }

/-- Is it a run of a loaded pattern other than those of an ADVANCE, which count themselves with their batch buffers (R109, R233,
R382)? -/
def RunKind.counted (k : RunKind) : Bool := k == .pattern || k == .reshard

/-- Makes a run the active one: its command leaves the fetched list. -/
def State.activate (s : State) (r : RunSt) : State :=
  { s with
    run := some r, host := { s.host with fetched := s.host.fetched.filter (fun g => g.no != r.no) }
    pool := { s.pool with runSeq := s.pool.runSeq + (if r.kind.counted then 1 else 0) } }

/-- Starts the waiting run command `f`, or refuses it. -/
def State.startCommand (s : State) (f : Fetched) : State :=
  let c := f.cmd
  let op := cmdOpcode c
  if op = 0x02 then
    s.judged f (s.checkRun c) (fun p => s.activate { f.run .pattern (uAt c 16 2) p.rows with
      arg := uAt c 24 8, ranges := outRanges c, digAddr := uAt c 32 8 })
  else if op = 0x03 then s.judged f (s.checkReshard c) (fun _ => s.activate (f.run .reshard (uAt c 16 2) 1))
  else if op = 0x04 then
    s.judged f (s.checkCopy c) (fun t =>
      let m := s.copyMoves t.1 t.2
      let d := s.draw
      d.2.activate { f.run .copy 0 (max 1 (cdiv m.length 15408) + d.1 % 65536) with
        moves := m, tdesc := s.readField (uAt c 16 8) 128, digAddr := uAt c 32 8
        ranges := if uAt c 32 8 = 0 then [] else [t.2.hull] })
  else
    s.judged f (s.checkAdvance c) (fun a =>
      let t := a.handles.foldl State.admitSession s
      let r := { f.run .decode 0 0 with
        handles := a.handles, prefills := a.prefills, decodes := a.decodes, result := a.handles.length, digAddr := uAt c 40 8 }
      t.activate (t.advanceRun r a.set (!a.prefills.isEmpty)))

/-- The waiting run command at the head of queue `q`. -/
def State.waitingRun (s : State) (q : Nat) : Option Fetched :=
  s.host.fetched.find? (fun f => f.queue == q && f.wait && [0x02, 0x03, 0x04, 0x11].contains (cmdOpcode f.cmd))

/-- The queue whose waiting run command is next in round-robin order. -/
def State.nextRun (s : State) : Option Fetched :=
  (List.range 64).findSome? (fun i => s.waitingRun ((s.host.rrRun + 1 + i) % 64))

/-- Can a run start: RUNNING, between rows, no run active? -/
def State.canStart (s : State) : Bool := s.dev == .running && s.run.isNone && s.row.phase == .waiting

/-- Starts the next run command; the round robin goes on from its queue. -/
def State.startNext (s : State) : State :=
  match s.nextRun with
  | some f => ({ s with host := { s.host with rrRun := f.queue } }).startCommand f
  | none => s

/-- At a row start: run commands are taken in turn until one starts or none waits; a refused one lets the next queue's follow. -/
def State.startRuns : Nat → State → State
  | 0, s => s
  | fuel + 1, s => if s.canStart && s.nextRun.isSome then State.startRuns fuel s.startNext else s

def execRunStart (s : State) : Result := s.whenOn (State.startRuns 64)

/-- The ADVANCE at the head of queue `q` is about to start its first run: it is admitted, and becomes the active run, or refused. -/
def execAdvanceAdmission (q : Nat) (s : State) : Result :=
  s.unit "queue" q (decide (q < 64)) (fun s =>
    match s.nextRun with
    | some f => if s.canStart ∧ f.queue = q ∧ cmdOpcode f.cmd = 0x11 then s.startNext else s
    | none => s)

end Sys2Proof.Machine
end

