-- ==== Sys2Proof/Machine/Latched.lean ====
section
/-!
DEFINITION. Dictionary values that wait for a row boundary: when each takes effect, what it does then, and what the change log
says (R88, R199, R303, R305, R306, R318, R432, R433, R443).
-/
namespace Sys2Proof.Machine

/-! ### Pending values -/

/-- The value that waits for an entry. -/
def State.pendingOf (s : State) (idx sub : Nat) : Option Latched := s.latched.find? (fun l => l.key == okey idx sub)

/-- Holds a value for the next row boundary, in place of one that waits (R433, R443). -/
def State.hold (s : State) (idx sub : Nat) (v : Int) (quiet : Bool) : State :=
  let k := okey idx sub
  let gone := match s.pendingOf idx sub with
    | some l => l.replaced ++ [l.val]
    | none => []
  { s with latched := s.latched.filter (fun l => l.key != k) ++
      [{ key := k, val := v, replaced := if quiet then [] else gone, castOn := s.dev == .castOn && !quiet, quiet := quiet }] }

/-! ### What a value does when it takes effect -/

/-- MODEACTIVE (R306). -/
def State.modeNow (s : State) : State :=
  let m := s.nat 0x2500 6
  s.setOb 0x2500 0x0F ((if m = 0 then (if s.nat 0x2600 7 ≤ 64 then 1 else 2) else m : Nat))

/-- CAPAPPLIED after a write of CAP: the write's own record tells of it, a limit below CAP is logged as its clamp (R305). -/
def State.capWritten (s : State) : State :=
  if s.capNow = s.nat 0x2500 1 then s.setOb 0x2500 2 (s.capNow : Nat) else s.applyCap

/-- A change of ACTUATOR: each loop starts from the equivalent setting of the other, which limits nothing any more (R305). -/
def State.switchActuator (s : State) : State :=
  if s.bubbling then
    { s with
      regs := s.regs.map (fun e => (e.1, { e.2 with bub := 64 - e.2.capN, capN := 64 }))
      blks := s.blks.map (fun e => (e.1, { e.2 with thBub := 64 - e.2.thermal, thermal := 64 })) }
  else
    { s with
      regs := s.regs.map (fun e => (e.1, { e.2 with capN := 64 - e.2.bub, bub := 0 }))
      blks := s.blks.map (fun e => (e.1, { e.2 with thermal := 64 - e.2.thBub, thBub := 0 })) }

/-- The range of OCTRIP follows OCWARN (R292): the trip level is held in it again, logged as a dependent clamp (R438). -/
def State.holdTrip (s : State) (idx : Nat) : State :=
  let v := s.ob idx 0x23
  let a := clampI (s.ob idx 0x22 + 20) 700 v
  if a = v then s else (s.setOb idx 0x23 a).log .module 1 idx 0x23 (logVal v) (logVal v) (logVal a) 8

/-- What follows from a value that has taken effect at an entry that held `old`; a new period anchors the grid at the mark (R86). -/
def State.afterEffect (s : State) (key : Nat) (old new : Int) : State :=
  if key = okey 0x2500 1 then s.capWritten
  else if key = okey 0x2500 4 then (if old = new then s else s.switchActuator)
  else if key = okey 0x2500 6 then s.modeNow
  else if key / 256 < 0x302A ∧ 0x3000 ≤ key / 256 ∧ (key % 256 = 0x22 ∨ key % 256 = 0x23) then s.holdTrip (key / 256)
  else if key = okey 0x2210 1 ∧ old ≠ new then { s with row := { s.row with gridT0 := s.row.markNs, mark := 0 } }
  else s

/-- A value that waited takes effect: RESULT 11 for each value it replaced, RESULT 4 for itself; an entry that is not latched has
no second record. -/
def State.takeEffect (s : State) (l : Latched) : State :=
  let idx := l.key / 256
  let sub := l.key % 256
  let old := s.ob idx sub
  let s := { s with latched := s.latched.filter (fun e => e.key != l.key) }
  let s := l.replaced.foldl (fun s v => s.log .module 11 idx sub (logVal old) (logVal v) (logVal old)) s
  let s := s.setOb idx sub l.val
  let s := if l.quiet then s else s.log .module 4 idx sub (logVal old) (logVal l.val) (logVal l.val)
  s.afterEffect l.key old l.val

/-! ### When -/

/-- The keys of PERIOD and SLACK, which marks apply (R88), and of GROUPID and MEMBERS, which follow EFFECTIVE (R199). -/
def gridKeys : List Nat := [okey 0x2210 1, okey 0x2211 1]
def groupKeys : List Nat := [okey 0x2220 1, okey 0x2220 2]

/-- Has an effective row been reached by the row about to start: 0, or not above it? -/
def reachedRow (eff row : Nat) : Bool := decide (eff ≤ row)

/-- The pending values that take effect at the boundary before row `row`, EFFECTIVE and PEFFECTIVE ahead of those that follow
them. -/
def State.applyLatched (s : State) (row : Nat) : State :=
  let due := s.latched.filter (fun l => !l.castOn && !gridKeys.contains l.key && !groupKeys.contains l.key)
  let s := due.foldl State.takeEffect s
  if reachedRow (s.nat 0x2220 3) row then
    (s.latched.filter (fun l => !l.castOn && groupKeys.contains l.key)).foldl State.takeEffect s
  else s

/-- The first entry into RUNNING: what was written in CAST-ON waits no longer (R340, R433). -/
def State.freeLatched (s : State) : State := { s with latched := s.latched.map (fun l => { l with castOn := false }) }

/-! ### PERIOD and SLACK (R88) -/

/-- The CYCLES of the patterns of a set. -/
def State.setCycles (s : State) (n : Nat) : List Nat :=
  [s.nat (0x2B20 + n) 1, s.nat (0x2B20 + n) 2].filterMap (fun i => (Tab.get? s.pats i).map (·.cycles))

/-- The CYCLES that a waiting run command holds back with. -/
def State.commandCycles (s : State) (c : Bytes) : List Nat :=
  if cmdOpcode c = 0x02 then ((Tab.get? s.pats (uAt c 16 2)).map (·.cycles)).toList
  else if cmdOpcode c = 0x11 then
    let hs := (cut 4 (uAt c 16 4) (s.readField (uAt c 24 8) (4 * uAt c 16 4))).map ofLe
    (hs.filterMap s.openSlot).flatMap (fun i => s.setCycles (s.session i).set)
  else []

/-- The CYCLES that a smaller budget may not fall below: of the running pattern and of the run commands at the head of enabled
queues. -/
def State.heldCycles (s : State) : List Nat :=
  (s.runPattern.map (·.cycles)).toList
    ++ (s.host.fetched.filter (fun f => (s.queue f.queue).en)).flatMap (fun f => s.commandCycles f.cmd)

/-- The budget at a period (µs) and slack (%) (R87). -/
def budgetOf (period slack : Nat) : Nat := period * 2400 * (100 - slack) / 100

/-- Do a period and slack leave enough cycles? -/
def State.gridFits (s : State) (period slack : Nat) : Bool := s.heldCycles.all (fun c => decide (c ≤ budgetOf period slack))

/-- Logs, once, that a pending period or slack waits. -/
def State.logWait (s : State) (l : Latched) : State :=
  if s.row.waitLogged then s
  else
    { s.logEvent .module (l.key / 256) (l.key % 256) (s.nat (l.key / 256) (l.key % 256)) (logVal l.val) with
      row := { s.row with waitLogged := true } }

/-- The pending values of the grid that may take effect, each judged with those taken before it. -/
def State.gridGo (s : State) : List Latched → Nat → Nat → List Latched
  | [], _, _ => []
  | l :: ls, t, k =>
    let t' := if l.key = okey 0x2210 1 then l.val.toNat else t
    let k' := if l.key = okey 0x2210 1 then k else l.val.toNat
    if s.gridFits t' k' then l :: s.gridGo ls t' k' else s.gridGo ls t k

/-- At a mark before row `row`: the pending period and slack take effect together, or each that the budget allows. -/
def State.applyGrid (s : State) (row : Nat) : State :=
  let due := if reachedRow (s.nat 0x2210 2) row then s.latched.filter (fun l => !l.castOn && gridKeys.contains l.key) else []
  let val (k : Nat) (now : Nat) : Nat := ((due.find? (fun l => l.key == k)).map (fun l => l.val.toNat)).getD now
  let t := s.nat 0x2210 1
  let k := s.nat 0x2211 1
  let t' := val (okey 0x2210 1) t
  let k' := val (okey 0x2211 1) k
  let go := if s.gridFits t' k' then due else s.gridGo due t k
  let s := go.foldl State.takeEffect s
  if go.isEmpty then (due.head?.map s.logWait).getD s else { s with row := { s.row with waitLogged := false } }

end Sys2Proof.Machine
end

