-- ==== Sys2Proof/Machine/Naela.lean ====
section
/-!
DEFINITION. Naela messages taken by their destination: DATA, COLLECTIVE and ACK, barriers, time, power plans, admission and routes
(R310, R396, R397, R399, R402 to R408). Each command takes one message; one that had been gathered from frames leaves the
messages that wait (log entry 38).
-/
namespace Sys2Proof.Machine

/-! ### Taking a message -/

/-- The channel on which a gathered message came; new messages' channel for one that was not gathered. -/
def State.channelOf (s : State) (p : Nat) (m : Bytes) : Nat :=
  match s.naela.rxDone.find? (fun e => e.1 == p && e.2.2 == m) with
  | some e => e.2.1
  | none => startVc (msgType m)

/-- The message leaves the gathered messages. -/
def State.takeGathered (s : State) (p : Nat) (m : Bytes) : State :=
  match s.naela.rxDone.find? (fun e => e.1 == p && e.2.2 == m) with
  | some e => { s with naela := { s.naela with rxDone := s.naela.rxDone.erase e } }
  | none => s

/-- The highest MSGID in order from a source. -/
def State.gotTo (s : State) (src : Nat) : Nat := Tab.getD s.naela.gotId src 0

/-- Raises the MSGID in order over those that came ahead. -/
def advanceId : Nat → Nat → List Nat → Nat
  | 0, n, _ => n
  | fuel + 1, n, ahead => if ahead.contains ((n + 1) % 2 ^ 32) then advanceId fuel ((n + 1) % 2 ^ 32) ahead else n

/-- Notes that a MSGID of a source has been taken. -/
def State.noteId (s : State) (src id : Nat) : State :=
  let ahead := id :: Tab.getD s.naela.seenAhead src []
  let n := advanceId ahead.length (s.gotTo src) ahead
  { s with naela := { s.naela with
    gotId := Tab.set s.naela.gotId src n
    seenAhead := Tab.set s.naela.seenAhead src (ahead.filter (fun i => seqAfter i n)) } }

/-- Has a MSGID of a source been taken? -/
def State.tookId (s : State) (src id : Nat) : Bool :=
  !seqAfter id (s.gotTo src) || (Tab.getD s.naela.seenAhead src []).contains id

/-- Is a MSGID the source's next? -/
def State.nextInOrder (s : State) (src id : Nat) : Bool := id == (s.gotTo src + 1) % 2 ^ 32

/-- The acknowledgement of a landed message: its MSGID, and status 0. -/
def State.ackMessage (s : State) (m : Bytes) : State := s.sendControl 3 (msgSrc m) (le 4 (msgId m) ++ le 4 0)

/-! ### Landing (R402, R403) -/

/-- A body lands as a write of the running row, under the lifeline regions of the running pattern. -/
def State.landPieces (rs : List Region) : State → List (Nat × Bytes) → Except Stop State
  | s, [] => .ok s
  | s, (a, d) :: ps =>
    match regionAt rs a with
    | none => .error (.fault .address)
    | some r => match s.writeHbmLine r a d with
      | .error e => .error e
      | .ok s => State.landPieces rs s ps

/-- Lands a body in the row: every byte must lie in a lifeline region. -/
def State.landBody (s : State) (a : Nat) (body : Bytes) : Except Stop State :=
  let rs := match s.runPattern with
    | some p => p.regions
    | none => []
  let ps := pieces (body.length / 64 + 2) a body
  if !s.hbmOk a body.length ∨ !ps.all (fun p => (regionAt rs p.1).isSome) then .error (.fault .address)
  else State.landPieces rs s ps

/-- Bytes of the units that a collective body holds: whole exact units, or whole packed ones; 0 for neither. -/
def unitLen (body : Bytes) : Nat :=
  if body.isEmpty then 0 else if body.length % 17984 = 0 then 17984 else if body.length % 4480 = 0 then 4480 else 0

/-- Does the record that a unit carries agree with its values? -/
def unitAgrees (u : Bytes) : Bool :=
  if u.length = 17984 then
    recordCore ((exactTile (u.take exactLenSpecial)).exactRecord 0 0) == recordCore (slice u 16832 1088)
      && allZero (u.drop 17920)
  else
    let r := slice u 4096 320
    recordCore (packedRecord (unpack 32 1024 u) (uAt r 4 1 % 32) (uAt r 5 1 % 32) 0 0) == recordCore r && allZero (u.drop 4416)

/-- Do all units of a collective body agree? -/
def unitsAgree (body : Bytes) : Bool :=
  unitLen body != 0 && (List.range (body.length / unitLen body)).all (fun i => unitAgrees (slice body (i * unitLen body) (unitLen body)))

/-- Where a message's row stands: 0 here and open, 1 not reached, 2 passed or abandoned. -/
def State.rowStands (s : State) (row attempt : Nat) : Nat :=
  let here := (s.row.num, s.row.attempt)
  if s.row.phase = .idle then 2
  else if beforeAttempt here (row, attempt) then 1
  else if here = (row, attempt) ∧ s.row.phase = .running then 0
  else 2

/-- Lands a DATA or COLLECTIVE message whose turn has come: as a write of its row within the group, held for a row not reached,
discarded for an abandoned attempt; from outside the group as a host write. -/
def State.landMessage (s : State) (p : Nat) (m : Bytes) : State :=
  let body := msgBody m
  if !s.inGroup (msgSrc m) then
    if msgType m = 2 ∧ !unitsAgree body then s.raise { cause := 0x15, suspects := [.module (msgSrc m), .port p] }
    else (s.hostWrite (msgAddr m) body).ackMessage m
  else match s.rowStands (msgRow m) (msgAttempt m) with
    | 0 =>
      if msgType m = 2 ∧ !unitsAgree body then s.raise { cause := 0x15, suspects := [.module (msgSrc m), .port p] }
      else match s.landBody (msgAddr m) body with
        | .ok s => s.ackMessage m
        | .error (.fault f) => s.raiseFault 0xFF 0xFF f
        | .error e => s.stop 0xFF 0xFF e
    | 1 => { s with naela := { s.naela with heldMsgs := s.naela.heldMsgs ++ [(p, m)] } }
    | _ => s

/-- Lands the messages of a source that wait for their order, as far as their turn has come. `all` gives up the gaps. -/
def State.drainEarly (s : State) (src : Nat) (all : Bool) : Nat → State
  | 0 => s
  | fuel + 1 =>
    let mine := s.naela.early.filter (fun e => msgSrc e.2 == src)
    let next := mine.foldl (fun (a : Option (Nat × Bytes)) e => match a with
      | none => some e
      | some b => if seqAfter (msgId b.2) (msgId e.2) then some e else some b) none
    match next with
    | none => s
    | some e =>
      if all || s.nextInOrder src (msgId e.2) then
        let s := { s with naela := { s.naela with early := s.naela.early.erase e } }
        ((s.noteId src (msgId e.2)).landMessage e.1 e.2).drainEarly src all fuel
      else s

/-- Messages of a source's earlier rows and attempts wait no longer once one of a later row or attempt has come (log entry
38). -/
def State.olderEarly (s : State) (m : Bytes) : Bool :=
  s.naela.early.any (fun e => msgSrc e.2 == msgSrc m && beforeAttempt (msgRow e.2, msgAttempt e.2) (msgRow m, msgAttempt m))

/-- A message that arrives with a bad CRC-64: discarded; the third time its row fails (R397). -/
def State.badCrc (s : State) (m : Bytes) (p : Nat) : State :=
  let k := msgSrc m * 2 ^ 32 + msgId m
  let n := Tab.getD s.naela.crcBad k 0 + 1
  if n < 3 then { s with naela := { s.naela with crcBad := Tab.set s.naela.crcBad k n } }
  else
    let s := { s with naela := { s.naela with crcBad := Tab.erase s.naela.crcBad k } }
    if s.inGroup (msgSrc m) ∧ s.rowStands (msgRow m) (msgAttempt m) = 0 then
      (s.addOb 0x2600 0x0A 1).raise { cause := 0x31, suspects := [.port p] }
    else s

/-- A DATA or COLLECTIVE message arrives: forwarded, discarded, held for its order, or landed and acknowledged. -/
def State.arriveKept (s : State) (p : Nat) (m : Bytes) : State :=
  let vc := s.channelOf p m
  let s := s.takeGathered p m
  let src := msgSrc m
  if msgDst m ≠ s.moduleId then s.dispatchVc m vc
  else if !msgCrcOk m then s.badCrc m p
  else if s.tookId src (msgId m) then
    if s.naela.heldMsgs.any (fun e => e.2 == m) then s else s.ackMessage m
  else if s.naela.early.any (fun e => msgSrc e.2 == src && msgId e.2 == msgId m) then s
  else
    let s := { s with naela := { s.naela with early := s.naela.early ++ [(p, m)], crcBad := Tab.erase s.naela.crcBad (src * 2 ^ 32 + msgId m) } }
    s.drainEarly src (s.olderEarly m) s.naela.early.length

/-- A window message arrives (R402). -/
def execData (p : Nat) (msg : Bytes) (s : State) : Result :=
  s.unit "port" p (decide (p < s.portCount)) (fun s => s.arriveKept p msg)

/-- A checked partial sum arrives (R403). -/
def execCollective (p : Nat) (msg : Bytes) (s : State) : Result :=
  s.unit "port" p (decide (p < s.portCount)) (fun s => s.arriveKept p msg)

/-! ### Acknowledgement and resend -/

/-- The system barriers whose arrivals this module can now send. -/
def State.pokeBarriers (s : State) : State :=
  (List.range 32).foldl (fun s ch =>
    if s.systemChannel ch && s.rowRuns && s.barrierMembers ch != 0 then
      s.arriveSystem ch ((s.naela.barSent.filter (fun e => e.1 == ch)).length + 1)
    else s) s

/-- A control message leaves the gathered ones; one sent to this module takes its place in its source's order (R396). -/
def State.takeControl (s : State) (p : Nat) (m : Bytes) : State :=
  let s := s.takeGathered p m
  if msgDst m = s.moduleId then s.noteId (msgSrc m) (msgId m) else s

/-- A control message: forwarded when it is for another module, dropped when its CRC-64 fails, else taken; the messages that waited
for its MSGID land after it (R397). -/
def State.control (s : State) (p : Nat) (m : Bytes) (f : State → State) : State :=
  if msgDst m ≠ s.moduleId ∧ !oneHop (msgType m) then (s.takeGathered p m).dispatchVc m 0
  else if !msgCrcOk m then s.takeGathered p m
  else (f (s.takeControl p m)).drainEarly (msgSrc m) false s.naela.early.length

/-- An ACK: the message is delivered; the row's verdict and its system barriers may have waited for it (R397, R404, R405). -/
def execAck (p : Nat) (msg : Bytes) (s : State) : Result :=
  s.unit "port" p (decide (p < s.portCount)) (fun s => s.control p msg (fun s =>
    let id := uAt (msgBody msg) 0 4
    let s := { s with naela := { s.naela with
      sentMsgs := s.naela.sentMsgs.filter (fun m => !(m.dst == msgSrc msg && m.id == id)) } }
    s.pokeBarriers.reportVerdict))

/-- A message is unacknowledged 50 µs after its sending (R397). -/
def execMessageResendTimeout (dst msgId : Nat) (s : State) : Result :=
  s.whenOn (fun s =>
    match s.naela.sentMsgs.find? (fun m => m.dst == dst && m.id == msgId) with
    | some m => s.retryMessage m
    | none => s)

/-! ### Barriers (R405) -/

/-- Acts on a barrier message of the present attempt: a subtree has arrived, or the release. -/
def State.actBarrier (s : State) (m : Bytes) : State :=
  let b := msgBody m
  let ch := uAt b 11 1
  let gen := uAt b 12 2
  match uAt b 14 1 with
  | 0 =>
    let s := { s with naela := { s.naela with barUp := s.naela.barUp ++ [(ch, gen, msgSrc m)] } }
    if s.systemChannel ch then s.arriveSystem ch gen else s
  | 1 => s.releaseSystem ch gen
  | _ => s

/-- A barrier message of this module's group: for the present attempt it acts, for one not reached it waits. -/
def State.takeBarrier (s : State) (p : Nat) (m : Bytes) : State :=
  let b := msgBody m
  if uAt b 0 4 ≠ s.nat 0x2220 1 ∨ 32 ≤ uAt b 11 1 then s
  else match s.rowStands (uAt b 4 6) (uAt b 10 1) with
    | 0 => s.actBarrier m
    | 1 => { s with naela := { s.naela with heldMsgs := s.naela.heldMsgs ++ [(p, m)] } }
    | _ => s

/-- A system barrier's arrival or release. -/
def execBarrier (p : Nat) (msg : Bytes) (s : State) : Result :=
  s.unit "port" p (decide (p < s.portCount)) (fun s => s.control p msg (fun s => s.takeBarrier p msg))

/-- The messages held for an attempt take effect when it starts (R402). -/
def State.releaseHeld (s : State) : State :=
  let l := s.naela.heldMsgs
  l.foldl (fun s e => if msgType e.2 = 0x11 then s.takeBarrier e.1 e.2 else s.landMessage e.1 e.2)
    { s with naela := { s.naela with heldMsgs := [] } }

/-! ### Time (R407) -/

/-- A TIME message: a request is answered, a reply from the parent is an exchange, an announcement enters the election. -/
def State.takeTime (s : State) (p : Nat) (m : Bytes) : State :=
  let b := msgBody m
  let t1 := uAt b 8 8
  let t2 := uAt b 16 8
  let t3 := uAt b 24 8
  match uAt b 0 1 with
  | 0 => s.sendControl 0x12 (s.portPeer p)
      (timeBytes 1 s.ownQuality (s.nat 0x2100 0x0A) (s.nat 0x2100 0x0C) (s.nat 0x2100 0x0B) t1 s.time.dev s.time.dev)
  | 1 =>
    match s.time.announce with
    | some (q, _) => if q = p ∧ s.nat 0x2100 2 = 3 then
        s.exchange ((((t2 : Int) - t1) - ((s.time.dev : Int) - t3)) / 2) else s
    | none => s
  | 2 => s.hearAnnounce p (uAt b 1 1) (uAt b 2 1) (uAt b 3 1) (uAt b 4 4)
  | _ => s

/-- A TIME message arrives. -/
def execTime (p : Nat) (msg : Bytes) (s : State) : Result :=
  s.unit "port" p (decide (p < s.portCount)) (fun s => s.control p msg (fun s => s.takeTime p msg))

/-! ### Power plans (R310, R406) -/

/-- The tree over the feed group: the first feed member on the route from `m` to the lowest. -/
def State.feedParent (s : State) (m : Nat) : Option Nat :=
  let mem (k : Nat) : Bool := k == s.moduleId || s.feedPeers.contains k
  s.firstMember mem (s.feedPeers.foldl min s.moduleId) 64 m

/-- This module's neighbours on the feed tree. -/
def State.feedNeighbours (s : State) : List Nat :=
  (match s.feedParent s.moduleId with
    | some p => [p]
    | none => []) ++ s.feedPeers.filter (fun m => s.feedParent m == some s.moduleId)

/-- Do this module's links all run at protocol level 2 (R411)? -/
def State.levelTwo (s : State) : Bool :=
  decide (2 ≤ s.sec.running.proto) && ((List.range 18).filter s.admitted).all (fun p => decide (2 ≤ s.nat (0x2620 + p) 4))

/-- Stores a plan of another member; the newest 64 of a member are kept. At level 2 it goes on along the tree. -/
def State.takePower (s : State) (m : Bytes) : State :=
  let b := msgBody m
  let origin := uAt b 12 2
  if uAt b 0 4 ≠ s.nat 0x2500 0x0C ∨ !s.feedPeers.contains origin then s
  else
    let plan := (List.range 32).map (fun i => uAt b (16 + 2 * i) 2) ++ [uAt b 10 1]
    let row := uAt b 4 6
    let t := Tab.set s.power.peerPlans (row * 1024 + origin) plan
    let s := { s with power := { s.power with
      peerPlans := t.filter (fun e => !(e.1 % 1024 == origin && decide (e.1 / 1024 + 64 ≤ row))) } }
    if s.levelTwo && s.feedNeighbours.contains (msgSrc m) then
      (s.feedNeighbours.filter (· != msgSrc m)).foldl (fun s n => s.sendControl 0x13 n b) s
    else s

/-- A POWER message arrives. -/
def execPower (p : Nat) (msg : Bytes) (s : State) : Result :=
  s.unit "port" p (decide (p < s.portCount)) (fun s => s.control p msg (fun s => s.takePower msg))

/-- This module's plan of rows `row` to `row + 31`, sent to the other members (R310): along the tree at level 2, else to each. -/
def State.sendPlans (s : State) (row : Nat) : State :=
  let b := le 4 (s.nat 0x2500 0x0C) ++ le 6 row ++ le 1 (s.nat 0x2500 7) ++ le 1 0 ++ le 2 s.moduleId ++ le 2 0
    ++ (List.range 32).flatMap (fun i => le 2 (min 65535 (s.ownPlan (row + i))))
  (if s.levelTwo then s.feedNeighbours else s.feedPeers).foldl (fun s n => s.sendControl 0x13 n b) s

/-! ### Admission and routes (R399, R408) -/

/-- A NEGOTIATE message arrives and admission is judged. -/
def execNegotiate (p : Nat) (msg : Bytes) (s : State) : Result :=
  s.unit "port" p (decide (p < s.portCount)) (fun s => s.control p msg (fun s =>
    if s.portState p = 3 then (s.setPort p { s.port p with negotiated := some (msgBody msg) }).judgePort p else s))

/-- The links that a ROUTE payload tells of module `m`. -/
def routeLinks (b : Bytes) (m : Nat) : List Nat :=
  ((List.range (b.length / 16)).filter (fun i => uAt b (16 * i) 2 == m)).map (fun i => uAt b (16 * i + 2) 2)

/-- A ROUTE payload newer than what is known of its module enters the database, and goes on to the other neighbours. -/
def State.takeRoute (s : State) (p : Nat) (b : Bytes) : State :=
  if b.isEmpty then s
  else
    let m := uAt b 0 2
    let t := uAt b 8 8
    let known : Bool := match Tab.get? s.naela.linkAt m with
      | some t' => decide (t ≤ t')
      | none => false
    if known ∨ m = s.moduleId then s
    else
      let db := s.naela.linksNext.getD s.naela.links
      ({ s with naela := { s.naela with
        linkAt := Tab.set s.naela.linkAt m t, linksNext := some (Tab.set db m (routeLinks b m)) } }).floodRoute b p

/-- A ROUTE message arrives. -/
def execRoute (p : Nat) (msg : Bytes) (s : State) : Result :=
  s.unit "port" p (decide (p < s.portCount)) (fun s => s.control p msg (fun s => s.takeRoute p (msgBody msg)))

end Sys2Proof.Machine
end

