-- ==== Sys2Proof/Machine/RowStart.lean ====
section
/-!
DEFINITION. A row boundary and the start of a row or of a replay (R74, R81, R86 to R93, R97, R99, R109, R110, R193, R199, R213, R233,
R272, R339, R430, R433, R447, R463, R486).
-/
namespace Sys2Proof.Machine

/-! ### The grid (R86) -/

/-- The row period, ns. -/
def State.periodNs (s : State) : Nat := max 1 (s.nat 0x2210 1) * 1000

/-- The first mark strictly after a device time. -/
def State.markAfter (s : State) (t : Nat) : Nat :=
  if t < s.row.gridT0 then s.row.gridT0 else s.row.gridT0 + ((t - s.row.gridT0) / s.periodNs + 1) * s.periodNs

/-- Device time reaches `t`; what a pending correction slews in on the way shortens or lengthens it (R275). -/
def State.passTo (s : State) (t : Nat) : State :=
  if t ≤ s.now then s
  else
    let n := t - s.now
    let d := clampI (-(n * 65536 / 4999 : Nat)) (n * 65536 / 5001 : Nat) s.time.slew
    let s' := s.pass ((n : Int) - d / 65536).toNat
    { s' with time := { s'.time with dev := t * 65536, slew := s.time.slew - d } }

/-! ### Repairs at a boundary -/

/-- A line whose content is lost is refilled: from the home copy of the resident range that it lies in, with zeros in a disposable
range. What any other line holds until a program writes it is open (R78, R81; log entry 93). -/
def State.refillLine (s : State) (n line : Nat) : State :=
  match s.map.logicalCell (placeOf n) with
  | none => s
  | some (x, y) =>
    let rs := (s.pats.flatMap (fun e => e.2.residents)).filter (fun r =>
      r.x == x && r.y == y && decide (r.off < line + 64) && decide (line < r.off + r.len))
    let d := s.draw
    let open_ := le 64 d.1
    let byte (i : Nat) : Byte := match rs.find? (fun r => decide (r.off ≤ line + i) && decide (line + i < r.off + r.len)) with
      | some r => if r.disposable then 0 else (s.readImage (r.home + (line + i - r.off)) 1).getD 0 0
      | none => open_.getD i 0
    { d.2 with mem := s.mem.writeBytes (cellBase x y + line) ((List.range 64).map byte) }

/-- One line repair that is due: into a spare line of its bank, or the cell is failed when the bank has none left (R81). -/
def State.repairLine (s : State) (n : Nat) (e : Nat × Nat) : State :=
  let c := s.physCell n
  let p := placeOf n
  if 64 ≤ c.spare.getD (bits e.1 9 6) 0 then s.queueLoss (.cell p.region p.row p.col) 0x20
  else
    let s := if c.refill.contains e.1 then s.refillLine n e.1 else s
    let s := { s with phys := Tab.set s.phys n { c.repairLine e.1 with refill := c.refill.filter (· != e.1) } }
    let d : Defect := { kind := 6, source := 0x80 + e.2, region := p.region, ccol := p.col, crow := p.row, detail := e.1 }
    (s.appendDefect .module d).signDefect d e.2 (defectAction d) 0

/-- The line repairs that are due. -/
def State.repairLines (s : State) : State :=
  s.phys.foldl (fun s e =>
    e.2.pendingLines.foldl (fun s l => s.repairLine e.1 l)
      (if e.2.pendingLines.isEmpty then s else { s with phys := Tab.set s.phys e.1 { e.2 with pendingLines := [] } })) s

/-- The DRAM rows that are due, repaired by the stack (R193). -/
def State.repairRows (s : State) : State :=
  let l := s.hbm.repairDue
  l.foldl (fun s n =>
    let d : Defect := { kind := 8, source := 0x80, detail := n }
    (s.appendDefect .module d).signDefect d 0 (defectAction d) 0)
    { s with hbm := { s.hbm with repairDue := [] } }

/-- Region counters whose error raised the alarm are stepped, each logged (R272). -/
def State.stepRegions (s : State) : State :=
  s.regs.foldl (fun s e =>
    if e.2.alarm then
      let s := s.logEvent .module (0x3000 + e.1) 5 (logVal (s.ob (0x3000 + e.1) 5)) 0
      (s.setReg e.1 { s.reg e.1 with alarm := false, timeOff := 0, slew := 0, slewNs := 0 }).setOb (0x3000 + e.1) 5 0
    else s) s

/-- Retires a suspect; a Naela port fails (R213, R408). -/
def State.retireUnit (s : State) (u : Suspect) (cause : Nat) : State :=
  match u with
  | .port p => if s.portState p = 7 ∨ s.portCount ≤ p then s else s.failPort p
  | _ => s.retire u cause

/-- The suspects of three rows within 24 h are retired (R213). -/
def State.retireSuspects (s : State) : State :=
  let l := s.row.retireDue
  l.foldl (fun s e => s.retireUnit e.1 e.2) { s with row := { s.row with retireDue := [] } }

/-- The link that a physical link carries under the map, if it carries one. -/
def MapSt.linkOf (m : MapSt) (n : Nat) : Option LinkId :=
  let c := n / 2353
  if c = 2352 then some (.ring (decide (48 ≤ n % 2353)) (n % 2353 % 48))
  else match m.logicalCell { region := c / 56, col := c % 8, row := c % 56 / 8 } with
    | none => none
    | some (x, y) => ((List.range 5).find? (fun d => m.linkNo (.mesh x y d) == n)).map (fun d => .mesh x y d)

/-- A wire of a physical link is replaced by a spare; a link that carries traffic goes through its lane test (R364). -/
def State.replaceWire (s : State) (n w : Nat) : State :=
  match s.map.linkOf n with
  | some l => s.laneTest l [w]
  | none =>
    let d := wireDefect n w
    ({ s with links := Tab.set s.links n ((Tab.getD s.links n {}).wire w) }.appendDefect .module d).signDefect d 0 (defectAction d) 0

/-- Is a located ply position repaired by its spare (R73)? -/
def State.steers (s : State) (d : Defect) : Bool := (d.kind == 4 || d.kind == 5) && (s.physCell (defectCell d)).canRepair d

/-- A located ply position or line of a physical cell is repaired: a ply row or column is steered and appended when its spare is free,
else it costs the cell (R73, R74); a line is repaired at the next row boundary (R81). -/
def State.repairPlace (s : State) (d : Defect) (cause : Nat) : State :=
  let n := defectCell d
  let c := s.physCell n
  if d.kind = 6 then { s with phys := Tab.set s.phys n { c with pendingLines := c.repairLater d.detail 0 } }
  else if c.canRepair d then
    { s with phys := Tab.set s.phys n (c.entry d) }.appendDefect .module { d with source := 0x80 + cause }
  else s.queueLoss (.cell d.region d.crow d.ccol) cause

/-- The unit of a suspect-list selector is retired: cells and regions are darned, spares appended; a repairable place goes the way of
an in-service failure of it: a ply row or column is steered when its spare is free, else it costs the cell; lines and DRAM rows are
repaired; wires and lanes are replaced or dropped (R364). -/
def State.retireSelected (s : State) (d : Defect) : State :=
  match defectUnit d with
  | some u => s.queueLoss u 0
  | none =>
    if d.kind = 4 ∨ d.kind = 5 then
      let act := if s.steers d then defectAction d else 0
      let t := s.repairPlace d 0
      if act = 0 then t else t.signDefect d 0 act 0
    else if d.kind = 6 then s.repairPlace d 0
    else if d.kind = 7 then s.replaceWire (defectLink d) (d.detail % 2048)
    else if d.kind = 8 then { s with hbm := { s.hbm with repairDue := addOnce s.hbm.repairDue d.detail } }
    else if d.kind = 13 then s.failLane (d.detail / 256) (d.detail % 256)
    else s

/-- The units whose selectors failed again are retired. -/
def State.retireSelectors (s : State) : State :=
  let l := s.map.retireSel
  l.foldl State.retireSelected { s with map := { s.map with retireSel := [] } }

/-- ROUTES as last written takes effect (R432). -/
def State.newRoutes (s : State) : State :=
  match s.naela.routesNext with
  | some t => { s with naela := { s.naela with routes := t, routesNext := none } }
  | none => s

/-- A bind-off that waited for the orchestrator goes on once the module is a group of one (R339). -/
def State.bindOffAlone (s : State) : State :=
  if s.start.bindOffMember && !s.grouped then
    let s := { s with start := { s.start with bindOffMember := false } }
    if s.nat 0x2200 2 = 3 then s.setSubstate 2 else s
  else s

/-- A run that was suspended goes on. -/
def RunSt.resumed (r : RunSt) : RunSt := { r with suspended := false }

/-- RUN, accepted before, takes effect (R430, R433). -/
def State.runNow (s : State) : State :=
  if s.start.runPend && (s.dev == .ready || s.dev == .hold) then
    let s := { s with start := { s.start with runPend := false, firstRun := true }, run := s.run.map RunSt.resumed }
    (s.enter .running).freeLatched
  else { s with start := { s.start with runPend := false } }

/-- What every row boundary brings, before row `row` starts. -/
def State.boundary (s : State) (row : Nat) : State :=
  let s := (s.runNow.applyLatched row).newRoutes
  s.laneTests.sleep.retireSelectors.naelaBoundary.modeNow.bindOffAlone.repairLines.repairRows.stepRegions.retireSuspects.changeOver

/-! ### Cells at a row start (R90, R110) -/

/-- The program and constant areas that a cell holds for a pattern, as (offset in the cell, length, offset in the image). -/
def CellEntry.areas (e : CellEntry) : List (Nat × Nat × Nat) := [(e.progOff, 32 * e.progLen, e.progSrc), (e.constOff, e.constLen, e.constSrc)]

/-- The prologue of a cell: its areas are copied from the image unless it holds them; a poisoned line fails the row (R193). -/
def State.prologue (s : State) (r : RunSt) (p : Pattern) (k : Nat) : State :=
  let c := Tab.getD s.cells k {}
  match p.cells[k]? with
  | none => s
  | some e =>
    if !s.cellPlaced k || (c.ownArea == some (r.slot, p.addr) && !c.reload) then s
    else
      let m := e.areas.foldl (fun (m : Mem) a =>
        if a.2.1 = 0 then m else m.writeBytes (scratchBase + k * 0x1000000 + a.1) (s.readImage (p.addr + a.2.2) a.2.1)) s.mem
      let s' := { s with mem := m, cells := Tab.set s.cells k { c with ownArea := some (r.slot, p.addr), reload := false } }
      match e.areas.findSome? (fun a => if a.2.1 = 0 then none else s.poisonHit (p.addr + a.2.2) a.2.1) with
      | some l => s'.stop (k % 48) (k / 48) (.alarm 0x21 [.slice (sliceOf l)] l)
      | none => s'

/-- A cell at row start (Table: Cell state at row start); `first` in the first row of a run. -/
def CellSt.rowStart (c : CellSt) (e : CellEntry) (first : Bool) (index x y arg : Nat) : CellSt :=
  let head : List W64 := [0, BitVec.ofNat 64 index, BitVec.ofNat 64 x, BitVec.ofNat 64 y, BitVec.ofNat 64 arg]
  let regs := head ++ (if first then List.replicate 27 0 else c.s.drop 5)
  let preds := true :: (if first then List.replicate 7 false else c.p.drop 1)
  { pc := e.entry, s := regs, p := preds, savedS := regs, savedP := preds, phase := .running, mergeOvf := c.mergeOvf,
    hbAge := c.hbAge, ownArea := c.ownArea, rbound := c.rbound }

/-- Every logical cell begins its row program. -/
def State.startCells (s : State) (r : RunSt) (p : Pattern) : State :=
  { s with cells := (List.range 1728).foldl (fun t k =>
      match p.cells[k]? with
      | some e =>
        if s.cellPlaced k then
          Tab.set t k ((Tab.getD t k {}).rowStart e (r.done == 0) r.done (k % 48) (k / 48) r.arg)
        else t
      | none => t) s.cells }

/-- In a row without a row program the cells tick waste yarn; what the row before left of its traffic and synchronisation is
gone (R90, R99). -/
def State.restCells (s : State) : State :=
  { s with cells := s.cells.map (fun e => (e.1, { e.2 with
      savedS := e.2.s, savedP := e.2.p, phase := .idle, acc := [], copies := [], latches := [], resharded := [], shadow := none, weights := none, arrived := [], released := [], posted := [], rx := []
      slips := 0, stack := [], pc := 0 })) }

/-! ### Rows of RESHARD and COPY (R382, R383) -/

/-- The pieces of a COPY that row `i` of `n` writes. -/
def copyShare (moves : List (Nat × Bytes)) (i n : Nat) : List (Nat × Bytes) :=
  (moves.drop (i * cdiv moves.length n)).take (cdiv moves.length n)

/-- One piece of a COPY: logged, whatever the region, so that the row can be undone. -/
def State.copyPiece (s : State) (a : Nat) (d : Bytes) : Except Stop State :=
  match cellAt a with
  | some k => s.writeCell (k % 48) (k / 48) (a % 0x1000000) d
  | none =>
    let b := s.committedAt a
    let line := b / 64 * 64
    let h := s.hbm.cleared line (d.length == 64)
    .ok { s with
      hbm := { h with
        log := if h.log.any (fun e => e.1 == line) then h.log else (line, s.mem.readBytes line 64) :: h.log
        rowLines := addOnce h.rowLines (a / 64 * 64) }
      mem := s.mem.writeBytes b d }

/-- The pieces of a row of a COPY. -/
def State.copyPieces : State → List (Nat × Bytes) → Except Stop State
  | s, [] => .ok s
  | s, (a, d) :: l => match s.copyPiece a d with
    | .ok s => State.copyPieces s l
    | .error e => .error e

/-- The work of a row of COPY; a poisoned source line fails the row. -/
def State.copyRow (s : State) (r : RunSt) : State :=
  match s.tensorPoison (tdescOf r.tdesc) with
  | some l => s.stop 0 0 (.alarm 0x21 [.slice (sliceOf l)] l)
  | none => s.settle 0 0 (s.copyPieces (copyShare r.moves r.done r.rows))

/-- The work of the row of RESHARD: every cell's part of the plan. -/
def State.reshardRow (s : State) (r : RunSt) : State :=
  match Tab.get? s.pats r.slot with
  | none => s
  | some p => (List.range 1728).foldl (fun s k =>
      if s.rowRuns && s.cellPlaced k then
        s.settle (k % 48) (k / 48) (s.reshardCell p.mapTab (uAt r.cmd 18 2) (uAt r.cmd 20 2) (k % 48) (k / 48))
      else s) s

/-! ### Starting -/

/-- Do rows of the active run go on in this device state (R109, R337, R339)? -/
def State.runGoes (s : State) : Bool :=
  (match s.run with
    | some r => !r.suspended
    | none => false)
  && (s.dev == .running || (s.dev == .bindOff && (s.nat 0x2200 2 == 1 || s.nat 0x2200 2 == 3)))

/-- Writes the batch buffer of a run of ADVANCE that starts now (R233). -/
def State.startBatch (s : State) : State :=
  match s.run with
  | some r =>
    if (r.kind == .prefill || r.kind == .decode) && r.done == 0 && s.row.attempt == 0 then
      let hs := if r.kind = .prefill then r.prefills else r.decodes
      let w := s.writeBatch (if r.kind = .prefill then 0 else 1) (s.session (r.handles.headD 0 % 8192)).set (hs.map (· % 8192))
      { w.2 with run := some { r with arg := w.1, batchBuf := w.1 } }
    else s
  | none => s

/-- STRETCHED and QUANTA of every block at the row's start (R100). -/
def State.noteStretch (s : State) : Tab (Nat × Nat) :=
  (Tab.keys s.blks).map (fun b => (b, s.nat (0x4000 + b) 0x11, s.nat (0x4000 + b) 0x12))

/-- The row's own part of a start: its cells, its prologue, the work of RESHARD and COPY. -/
def State.startWork (s : State) : State :=
  match s.run with
  | none => s.restCells
  | some r =>
    if s.row.waste then s.restCells
    else match r.kind with
      | .reshard => s.restCells.reshardRow r
      | .copy => s.restCells.copyRow r
      | _ => match Tab.get? s.pats r.slot with
        | none => s.restCells
        | some p =>
          let s := s.startBatch
          let r := s.run.getD r
          let s := (List.range 1728).foldl (fun s k => s.prologue r p k) s
          if s.rowRuns then s.startCells r p else s

/-- A failure held from before the row fails it at its start (R486). -/
def State.failAtStart (s : State) : State :=
  match s.row.heldFail with
  | some a => if s.row.waste then s else ({ s with row := { s.row with heldFail := none } }).raise a
  | none => s

/-- The voltage follows the phase point of the row (R293, R307). -/
def State.followPhase (s : State) : State :=
  { s with power := { s.power with phaseRaise := s.power.phaseRaise.toward s.clock (s.phaseField 1 0) } }

/-- An attempt opens: what it keeps of the verdict exchange, of barriers and of power begins anew, its work starts, the messages
held for it take effect. -/
def State.openAttempt (s : State) (startMark deadline : Nat) : State :=
  let s := { s with
    row := { s.row with
      phase := .running, startNs := s.now, startMark := startMark, deadline := deadline, failed := false, fault := none
      alarm := none, suspects := [], unrecoverable := false, unrecDetail := none, skippedNow := 0, inexact := 0, overflow := 0
      clamps := 0, outrange := 0, idxClamp := 0, duplicate := 0, tclamps := 0, jobs := 0, ownDue := none, groupKnown := none
      children := [], undoneFrom := [], stretchAt := s.noteStretch }
    naela := { s.naela with barUp := [], barSent := [], barRel := [], winLines := [], afterCommit := [] }
    power := { s.power with preRamp := none } }
  s.followPhase.startWork.failAtStart.releaseVerdicts.releaseHeld

/-- The next row starts (R90 to R93): row of the active run, or waste yarn. -/
def State.openRow (s : State) (startMark deadline : Nat) : State :=
  { s with row := { s.row with
      num := s.row.num + 1, attempt := 0, waste := !s.runGoes, prevSuspects := [] } }.openAttempt startMark deadline

/-- Is the change log's buffer full, so that no row may start (R445)? -/
def State.logFull (s : State) : Bool := decide (4096 ≤ s.flash.log.buffered)

/-- Does a region that carries a logical region still slew fast (R272)? -/
def State.slewsFast (s : State) : Bool := s.regs.any (fun e => decide (0 < e.2.fast) && (s.map.logicalRegion e.1).isSome)

/-- Must the next row wait: a row of a run for the darnings that are due (R350, R364) and for the end of a fast slew (R272), any row for
room in the change log? A row that is to fail at its start does so first (R486). -/
def State.startWaits (s : State) : Bool := s.logFull || (s.runGoes && (s.slewsFast || (s.darningDue && s.row.heldFail.isNone)))

/-- A new row starts if nothing holds it; a mark that starts none is skipped. Its deadline is the first mark after `base`. What the
boundary brings may enter SAFE, where no row starts (R431). -/
def State.startRow (s : State) (startMark base : Nat) (atMark : Bool) : State :=
  let s := (s.boundary (s.row.num + 1))
  let s := if atMark then s.applyGrid (s.row.num + 1) else s
  let s := State.startRuns 64 s.endStopped
  if s.row.phase = .idle then s
  else if s.startWaits then (if atMark then s.skipMark else s) else s.openRow startMark (s.markAfter base)

/-- The replay of the undone row starts (R97, R447): the same row number, the next attempt. -/
def State.startReplay (s : State) (mark : Nat) : State :=
  let s := s.boundary s.row.num
  let s := s.applyGrid s.row.num
  if s.row.phase = .idle then s
  else if s.darningDue && s.row.heldFail.isNone then { s.skipMark with row := { s.skipMark.row with phase := .darning } }
  else if s.logFull then s.skipMark
  else { s with row := { s.row with attempt := s.row.attempt + 1, waste := s.row.waste || s.run.isNone } }.openAttempt mark (s.markAfter mark)

end Sys2Proof.Machine
end

