-- ==== Sys2Proof/Machine/Localise.lean ====
section
/-!
DEFINITION. The matrix engine in chained mode (R71), localisation recompute (R72, R214), and the steering of what it locates (R73,
R74).
-/
namespace Sys2Proof.Machine

/-! ### Chained mode (R71) -/

/-- The test latches when the weights `w` are to meet the quarter that enters ply `p`: zeros in the other plies. -/
def latchPly (p : Nat) (w : WTile) : List WTile :=
  (List.range 4).map (fun q => if q = p then w else { fmt := w.fmt, vk := w.vk, vn := w.vn, codes := [], scales := [] })

/-- One column of the chained array: the sums run from the top of ply 0 through the four plies, each against its own test latches; the
vector's quarters enter the plies in order. -/
def chainedSum (l : Int) (latches : List WTile) (kk nn n : Nat) (quarters : List (List Num)) : Nat × Int × Bool :=
  ((List.range 4).map (fun q =>
    dot l (((quarters.getD q []).zip (((latches.getD q default).columns kk nn).getD n [])).map (fun e => e.1.mul e.2)))).foldl
    (fun acc d => (specJoin acc.1 d.1, acc.2.1 + d.2.1, acc.2.2 || d.2.2)) (0, 0, false)

/-- The sum that activation row `i` of a stream gives column `n`, as a vector times the stream's weights for the ply that handled the
row. -/
def StreamOp.chained (o : StreamOp) (w : WTile) (i n : Nat) : Int :=
  let l := (o.element i n).1
  let quarters := (List.range 4).map (fun q => if q = o.ply i then o.acts.getD i [] else [])
  (chainedSum l (latchPly (o.ply i) w) o.kk o.nn n quarters).2.1

/-! ### Recompute (R214) -/

/-- The rows of tile `k` that a STREAM descriptor writes, with its own row numbers. -/
def traceRows (k : Nat) (d : Desc) : List (Nat × Nat) :=
  let m := fld d 83 73 + 1
  let r := cdiv m 4
  let base := fld d 72 64
  ((List.range m).filter (fun i => tileKey (i / r) (base + i % r) == k)).map (fun i => (i, (base + i % r) % 32))

/-- A traced stream read again, with its weights: none when it is skipped, for its operands have changed since. -/
def State.retrace (s : State) (x y : Nat) (t : AccTile) (tr : Trace) : Option (WTile × StreamOp) :=
  match s.loadWeights x y tr.wregs tr.wload with
  | .error _ => none
  | .ok w => match s.readStream x y tr.regs tr.stream w with
    | .error _ => none
    | .ok o =>
      if o.trace.sums = tr.sums ∧ (List.range o.nn).all (fun n => o.afmt == 8 || t.cg n == o.colG.getD n noGauge) then some (w, o) else none

/-- What the recompute of a tile shows: the rows it could compare, whether those are all the rows that streams wrote, and the rows and
columns whose sums differ from those of the tile. -/
structure TileDiff where
  key : Nat
  rows : List Nat
  whole : Bool
  badRows : List Nat
  badCols : List Nat
deriving DecidableEq, Repr, Inhabited

/-- The recompute of one tile of cell (x, y): row and column sums over the traced streams against those of the tile's A values. Of a tile
that more than 32 streams wrote no row has all its streams. -/
def State.recompute (s : State) (x y k : Nat) (t : AccTile) : TileDiff :=
  let ops := t.trace.map (fun tr => (traceRows k tr.stream, s.retrace x y t tr))
  let writes (r : Nat) (e : List (Nat × Nat) × Option (WTile × StreamOp)) : Bool := e.1.any (fun p => p.2 == r)
  let all := (List.range 32).filter (fun r => ops.any (writes r))
  let rows := all.filter (fun r => decide (t.streams ≤ 32) && ops.all (fun e => !writes r e || e.2.isSome))
  let sums (r n : Nat) : Option Int :=
    (ops.flatMap (fun e => match e.2 with
      | some (w, o) => (e.1.filter (fun p => p.2 == r && decide (n < o.nn))).map (fun p => o.chained w p.1 n)
      | none => [])).foldl (fun a v => some (a.getD 0 + v)) none
  let table := rows.flatMap (fun r => (List.range 32).filterMap (fun n => (sums r n).map (fun v => (r, n, v - (t.ent r n).a))))
  let total (p : Nat × Nat × Int → Bool) : Int := ((table.filter p).map (·.2.2)).foldl (· + ·) 0
  { key := k, rows := rows, whole := decide (rows.length = all.length)
    badRows := rows.filter (fun r => total (fun e => e.1 == r) % 2 ^ 128 != 0)
    badCols := (List.range 32).filter (fun n => total (fun e => e.2.1 == n) % 2 ^ 128 != 0) }

/-- The test latches after the recompute: the weights of the last stream that it ran, for the last ply with rows of it (R71). -/
def State.lastLatches (s : State) (x y : Nat) : List WTile :=
  let ts := ((s.cell x y).acc.flatMap (fun e => e.2.trace.filterMap (fun tr => s.retrace x y e.2 tr)))
  match ts.getLast? with
  | some (w, o) => latchPly (o.ply (o.m - 1)) w
  | none => (s.cell x y).latches

/-- The recompute of every traced tile of a cell. -/
def State.recomputeCell (s : State) (x y : Nat) : List TileDiff :=
  ((s.cell x y).acc.filter (fun e => !e.2.trace.isEmpty)).map (fun e => s.recompute x y e.1 e.2)

/-- The outcome of a pattern of differences (Table: Localisation outcomes); a pattern that the table does not name compares as
inconclusive (log entry 98). -/
def locOutcome (ds : List TileDiff) : LocOutcome :=
  match ds.filter (fun d => !d.badRows.isEmpty || !d.badCols.isEmpty) with
  | [] => if ds.all (·.whole) then .clear else .inconclusive
  | [d] =>
    match d.badRows, d.badCols with
    | [_], [_] => .entry
    | _, [n] => .column (d.key / 16) n
    | [_], _ => .row (d.key / 16) 0 false
    | _, _ => .inconclusive
  | d :: rest =>
    match d.badCols with
    | [n] => if rest.all (fun e => e.key / 16 == d.key / 16 && e.badCols == [n]) then .column (d.key / 16) n else .inconclusive
    | _ => .inconclusive

/-- The outcomes for one suspect cell. What the array itself does wrong the model cannot compute: ROW_CLOSE's operand brings it. Where the
operand names nothing, the recompute of the model's own state gives the outcome, and no outcome stands when no row can be compared. -/
def State.locOutcomes (s : State) (x y : Nat) (locs : List Localisation) : List LocOutcome :=
  let ds := s.recomputeCell x y
  let given := (locs.filter (fun l => l.x == x && l.y == y)).map (·.outcome)
  if !ds.isEmpty && ds.all (fun d => d.rows.isEmpty) then [.inconclusive]
  else if given.isEmpty then [locOutcome ds] else given

/-! ### What follows from an outcome (R73, R74, R214) -/

/-- The causes that localisation follows. -/
def localisable (cause : Nat) : Bool := [0x01, 0x02, 0x12].contains cause

/-- LOCALISE of an outcome. -/
def locCode : LocOutcome → Nat
  | .column _ _ => 1
  | .row _ _ _ => 2
  | .entry => 3
  | .clear => 4
  | .inconclusive => 5

/-- A repair of the ply word `new` of the cell (x, y) at place `p`: written, appended and signed. -/
def State.plyRepair (s : State) (x y : Nat) (p : Place) (cause kind ply i new code : Nat) : State :=
  let c := s.physCell p.number
  let s := { s with phys := Tab.set s.phys p.number { c with ply := c.ply.set ply new } }
  let s := s.appendDefect .module
    { kind := kind, source := 0x80 + cause, region := p.region, ccol := p.col, crow := p.row, detail := ply * 256 + i }
  s.signature {
    loc := s.cellLoc x y ++ [(7, ply), (if kind = 4 then 8 else 9, i)], mech := cause, needHash := true
    ophash := s.row.alarm.bind ophash, action := 2, localise := some code, defect := s.newDefect }

/-- One outcome: a position is steered when the ply's spare is free, else the cell is lost. Answers whether the cell is clear of
suspicion by it. -/
def State.steer (s : State) (x y : Nat) (p : Place) (cause : Nat) (l : LocOutcome) : State × Bool :=
  let w (ply : Nat) : Nat := (s.physCell p.number).ply.getD (ply % 4) 0
  match l with
  | .column ply col =>
    if colFree (w ply) then (s.plyRepair x y p cause 5 (ply % 4) (col % 32) (steerCol (w ply) (col % 32)) 1, true)
    else (s.retire (.cell x y) cause, false)
  | .row ply k found =>
    if !found then (s, false)
    else if rowFree (w ply) then (s.plyRepair x y p cause 4 (ply % 4) (k % 32) (steerRow (w ply) (k % 32)) 2, true)
    else (s.retire (.cell x y) cause, false)
  | _ => (s, false)

/-- The localisation of one suspect cell: every position that its outcomes name is steered, as a fault in the shared weight register is
in all four plies; a cell that they repair is no suspect any more. -/
def State.localise (s : State) (cause : Nat) (locs : List Localisation) (x y : Nat) : State × List (Nat × Nat × Nat) :=
  match s.map.place x y with
  | none => (s, [])
  | some p =>
    let ls := s.locOutcomes x y locs
    let s := s.setCell x y { s.cell x y with latches := s.lastLatches x y }
    let s := { s with row := { s.row with localised := s.row.localised + 1 } }
    let r := ls.foldl (fun (a : State × Bool) l =>
      let b := a.1.steer x y p cause l
      (b.1, a.2 && b.2)) (s, true)
    let s := if r.2 then { r.1 with row := { r.1.row with suspects := r.1.row.suspects.filter (· != .cell x y) } } else r.1
    (s, ls.map (fun l => (x, y, locCode l)))

/-- Localisation after a failed row closes: for each suspect cell, in the order in which they were named (R214). -/
def State.localiseAll (s : State) (cause : Nat) (locs : List Localisation) : State × List (Nat × Nat × Nat) :=
  s.row.suspects.foldl (fun (a : State × List (Nat × Nat × Nat)) u => match u with
    | .cell x y =>
      let b := a.1.localise cause locs x y
      (b.1, a.2 ++ b.2)
    | _ => a) (s, [])

end Sys2Proof.Machine
end

