-- ==== Sys2Proof/Machine/RowClose.lean ====
section
/-!
DEFINITION. How a row closes: the commit of a clean row in the order of R215, and the failed attempt with its localisation, its
escalation and its undo (R73, R74, R88, R91, R92, R96, R97, R100, R126, R174, R197 to R220, R234, R308, R310, R337 to R340, R353,
R358, R430, R431).
-/
namespace Sys2Proof.Machine

/-! ### Lateness (R92) -/

/-- The row closes now: its close time and its lateness. -/
def State.noteClose (s : State) : State :=
  { s with row := { s.row with closeNs := s.now, late := s.now - s.row.deadline } }

/-! ### Commit (R215) -/

/-- Discards cell undo logs and HBM logs, and flips the selectors of the versioned lines written. -/
def State.dropLogs (s : State) : State :=
  { s with
    cells := s.cells.map (fun e => (e.1, { e.2 with undo := [] }))
    hbm := { s.hbm with
      log := [], written := [], jobRegions := []
      inAlt := s.hbm.inAlt.filter (fun l => !s.hbm.written.contains l) ++ s.hbm.written.filter (fun l => !s.hbm.inAlt.contains l) } }

/-- Sends a back-invalidate for every line the row wrote that the host may hold (R203, R369). -/
def State.snoopRow (s : State) : State :=
  let l := s.hbm.rowLines.filter (fun a => s.hbm.snoop.contains a)
  l.foldl (fun s a => s.snoopOut a none) { s with hbm := { s.hbm with rowLines := [] } }

/-- The committed run ends: its results, digests and status (R109, R217, R235, R376, R379, R388). -/
def State.completeRun (s : State) (r : RunSt) : State :=
  let ranges := if r.kind.advances then [] else r.ranges
  let digs := ranges.map (fun g => s.rangeDigest (addrOf g.1) g.2)
  let s := { s with hbm := { s.hbm with unhashed := s.hbm.unhashed ++ ranges } }
  s.endRun r.doneStatus r.doneDetail digs (!ranges.isEmpty)

/-- After a run's last row: sessions take their tokens (R234), a prefill run hands over to the decode run of its command (R233), any
other run ends. -/
def State.runRowDone (s : State) : State :=
  match s.run with
  | none => s
  | some r =>
    if s.row.waste then s
    else if r.abort then s.endAborted r
    else if r.done < r.rows then s
    else match r.kind with
      | .prefill =>
        let s := s.updateSessions r.batchBuf 0 r.prefills
        let r := s.run.getD r
        if r.decodes.isEmpty then s.completeRun r
        else { s with run := some (s.advanceRun r (s.session (r.handles.headD 0 % 8192)).set false) }
      | .decode =>
        let s := s.updateSessions r.batchBuf 1 r.decodes
        s.completeRun (s.run.getD r)
      | _ => s.completeRun r

/-- A FENCE, or a READ_RECEIPT that waits for its bundle: it is in execution and completes (R386, R390). -/
def Fetched.executing (f : Fetched) : Bool := f.wait && (cmdOpcode f.cmd == 0x21 || cmdOpcode f.cmd == 0x30)

/-- A bind-off toward removal ends the run and every queued command once the present row commits (R338). -/
def State.endForRemoval (s : State) : State :=
  if s.dev = .bindOff ∧ s.nat 0x2200 2 = 2 then
    let s := (s.endRun stAborted 0).abortFetched (fun f => !f.executing)
    { s with row := { s.row with bindBundle := true } }
  else s

/-- Has a bind-off toward READY finished its active command, with no darning or activation left (R337, R340, R471)? -/
def State.readyNow (s : State) : Bool :=
  s.dev == .bindOff && s.nat 0x2200 2 == 1 && !s.start.bindOffMember && s.run.isNone && !s.darningDue && !s.activating

/-- The row's counters begin anew. -/
def State.clearCounts (s : State) : State :=
  { s with row := { s.row with
      inexact := 0, overflow := 0, clamps := 0, outrange := 0, idxClamp := 0, duplicate := 0, tclamps := 0, jobs := 0, retries := 0
      spCorr := 0, hbmCorr := 0, uncorr := 0, localised := 0, undone := 0, clsA := 0, clsB := 0 } }

/-- Messages to modules outside the group leave after the commit (R402). -/
def State.sendAfterCommit (s : State) : State :=
  let l := s.naela.afterCommit
  l.foldl (fun s m => s.sendKept m) { s with naela := { s.naela with afterCommit := [] } }

/-- Running averages that follow a committed row: rail currents of the regions (R312), input current of rows without hints (R308),
the rows since READY (R297), the end of a lookahead raise (R309). -/
def State.rowAverages (s : State) : State :=
  let hinted := s.power.hints.any (fun h => h.row == s.row.num)
  { s with
    regs := s.regs.map (fun e => (e.1, if e.2.samples = 0 then e.2 else
      { e.2 with recent := (e.2.sumDeciA / e.2.samples :: e.2.recent).take 16, sumDeciA := 0, samples := 0 }))
    blks := s.blks.map (fun e => (e.1, if e.2.lookFor ≤ s.row.num then { e.2 with look := e.2.look.toward s.clock 0 } else e.2))
    power := { s.power with
      runAvg := if hinted then s.power.runAvg else
        Config.openResult "average input current" [s.nat 0x2020 5, s.nat 0x2020 1, s.power.runAvg]
      rowsSinceReady := min 64 (s.power.rowsSinceReady + 1)
      hints := s.power.hints.filter (fun h => decide (s.row.num < h.row)) } }

/-- In LOOKAHEAD the plan for row n + 2 is fixed at the close of row n, and sent to the feed group (R306, R308, R310). -/
def State.fixPlan (s : State) : State :=
  if s.nat 0x2500 0x0F ≠ 2 then s else
  let n := s.row.num + 2
  let keep := s.power.plan.filter (fun e => decide (s.row.num ≤ e.1))
  let s := if n ≤ s.power.planFixed then s
    else { s with power := { s.power with plan := Tab.set keep n (s.planRow n), planFixed := n } }
  s.sendPlans n

/-- A run that HOLD suspends. -/
def RunSt.held (r : RunSt) : RunSt := { r with suspended := true }

/-- What the commit of a row leads to in the device state: HOLD (R430), READY (R337), or the end of a removal (R338). -/
def State.afterCommitState (s : State) : State :=
  if s.readyNow then
    let s := (s.enter .ready).setSubstate 0
    { s with start := { s.start with holdPend := false, runPend := false } }
  else if s.dev = .bindOff ∧ s.nat 0x2200 2 = 2 ∧ !s.darningDue then
    -- no row commits any more: what has ended since is written at once (log entry 16)
    (((List.range s.portCount).foldl (fun s p => s.quiescePort p 1 true) s.releaseEnding)).safeToRemove
  else if s.start.holdPend then
    let s := { s with start := { s.start with holdPend := false } }
    if s.dev = .running then
      let s := s.enter .hold
      { s with run := s.run.map RunSt.held }
    else s
  else s

/-- The engines discard what the row left of jobs (R246). -/
def State.dropJobs (s : State) : State :=
  { s with engines := s.engines.map (fun e => (e.1, { e.2 with queue := [], running := none })) }

/-- The commit of the row that closes now. What the row's completions tell is taken from its committed bytes; the host writes that were
held land behind them (R215, R217; log entry 49). -/
def State.commitRow (s : State) : State :=
  let p := if s.row.waste then none else s.runPattern
  let s := (s.recordHistory 0).dropLogs
  let s := s.addCounters.addRunTotals
  let s := s.runRowDone.endForRemoval.landHeld.snoopRow.dropJobs
  let s := s.appendChain (s.rowRecord p)
  let s := if s.readyNow then { s with row := { s.row with bindBundle := true } } else s
  let s := s.dueBundle.releaseEnding.giveNewReceipts.sendAfterCommit
  let s := s.rowAverages.fixPlan.clearCounts
  ({ s with row := { s.row with phase := .waiting, prevSuspects := [] } }).afterCommitState

/-- After a close behind the fallen deadline mark the next row starts at the close (R91, R92); the grid's marks go on. -/
def State.afterLateClose (s : State) : State :=
  if s.row.phase = .waiting ∧ s.row.deadline ≤ s.row.closeNs ∧ (s.row.deadline < s.row.closeNs ∨ s.row.deadline ≤ s.row.markNs) then
    s.startRow s.row.markNs (max s.row.closeNs s.row.deadline) false
  else s

/-! ### A failed attempt -/

/-- Does an HBM address lie in the home copy of a resident range that is still intact in scratchpad (R212)? -/
def State.homeOfLine (s : State) (a : Nat) : Option (Resident × Nat) :=
  (s.pats.flatMap (fun e => e.2.residents)).findSome? (fun r =>
    if !r.disposable && decide (r.home ≤ a) && decide (a < r.home + r.len) && s.cellPlaced (cellNo r.x r.y)
        && !s.map.lostRanges.contains (r.x, r.y, r.off, r.len)
        && !s.map.queue.any (fun e => s.cellUnit r.x r.y == some e.1) then some (r, a - r.home) else none)

/-- Is the failure a loss of HBM that a replay would read again (R212, R358)? A stack that has been retrained answers again; one that
has left service does not. -/
def State.hbmLoss (s : State) : Bool :=
  match s.row.alarm with
  | some a => a.cause == 0x21
      && (s.map.outStacks.contains (sliceOf a.addr) || (s.map.heldReplay.isNone && (s.homeOfLine a.addr).isNone))
  | none => false

/-- Notes the attempt's suspects: a unit named in three rows within 24 h is due for retirement at the next boundary (R213). -/
def State.noteSuspects (s : State) (cause : Nat) : State :=
  s.row.suspects.foldl (fun s u =>
    let kept := s.row.closeHist.filter (fun e => decide (s.clock < e.2.2 + dayNs))
    let h := if kept.any (fun e => e.1 == u && e.2.1 == s.row.num) then kept else kept ++ [(u, s.row.num, s.clock)]
    let n := (h.filter (fun e => e.1 == u)).length
    { s with row := { s.row with
        closeHist := h
        retireDue := if 3 ≤ n ∧ !s.row.retireDue.any (fun e => e.1 == u) then s.row.retireDue ++ [(u, cause)] else s.row.retireDue } }) s

/-- Is a suspect of a kind that two consecutive attempts retire: a cell, link, update engine or region (R211)? A block stands for its
cells. -/
def retiresTwice : Suspect → Bool
  | .slice _ => false
  | .port _ => false
  | .module _ => false
  | _ => true

/-- Units named in this attempt and the one before are retired before the next (R211). -/
def State.retireRepeated (s : State) (cause : Nat) : State :=
  (s.row.suspects.filter (fun u => s.row.prevSuspects.contains u && retiresTwice u)).foldl (fun s u => s.retire u cause) s

/-- Escalation at the close of a failed attempt that is no structural fault (R211 to R213). -/
def State.escalate (s : State) : State :=
  let cause := (s.row.alarm.map (·.cause)).getD 0x44
  let s := s.noteSuspects cause
  let lost := s.hbmLoss
  let s := if lost then { s with row := { s.row with
      unrecoverable := true, unrecDetail := (s.row.alarm.map (·.addr)).orElse (fun _ => s.row.unrecDetail) } } else s
  if s.row.unrecoverable ∨ 2 ≤ s.row.attempt then
    ({ s with row := { s.row with unrecoverable := true } }.addOb 0x2401 3 1).recordHistory 2
  else
    let s := (s.retireRepeated cause).recordHistory 1
    { s with row := { s.row with
        prevSuspects := s.row.suspects, undone := s.row.undone + 1
        clsA := if classA cause then s.row.clsA + 1 else s.row.clsA
        clsB := if classB cause then s.row.clsB + 1 else s.row.clsB } }

/-- The aborted row closes with FAIL (R198): localisation, the failure ring, escalation; the root broadcasts the group's FAIL; then
the undo runs. -/
def State.closeFailed (s : State) (locs : List Localisation) : State :=
  let s := s.noteClose
  let cause := (s.row.alarm.map (·.cause)).getD 0
  let l := if localisable cause then s.localiseAll cause locs else (s, [])
  let s := l.1.recordFailure l.2
  let s := if s.row.fault.isSome then s.recordHistory 3 else s.escalate
  let s := if s.grouped && s.isRoot && s.row.groupKnown.isNone then
      (s.knowGroup false).verdictDown 4 (s.verdictMsg cause s.moduleId (s.nat 0x2220 2))
    else s
  if s.row.phase = .idle then s else { s with row := { s.row with phase := .undoing } }

/-- The close of a row: a clean one once every cell has ended and the group's verdict is known, an aborted one at once (R91, R198,
R200). -/
def State.closeRow (s : State) (locs : List Localisation) : State :=
  if s.row.phase = .aborted then s.closeFailed locs
  else
    let s := s.reportVerdict
    if s.row.phase = .running ∧ s.cellsEnded ∧ s.messagesAcked ∧ s.verdictClean then s.noteClose.commitRow.afterLateClose else s

def execRowClose (locs : List Localisation) (s : State) : Result := s.whenOn (fun s => s.closeRow locs)

/-! ### After the undo -/

/-- An ECC_HBM line that is the home copy of an intact range is rewritten from scratchpad (R212). -/
def State.rewriteHome (s : State) : State :=
  match s.row.alarm with
  | some a =>
    if a.cause = 0x21 ∧ s.map.heldReplay.isNone then
      match s.homeOfLine a.addr with
      | some (r, i) =>
        let l := i / 64 * 64
        { s with
          mem := s.mem.writeBytes (s.committedAt (r.home + l)) (s.scratch r.x r.y (r.off + l) 64)
          hbm := s.hbm.cleared (s.committedAt (a.addr / 64 * 64)) true }
      | none => s
    else s
  | none => s

/-- The run of a row that cannot be replayed ends; the module enters HOLD (R126, R211, R340, R431). -/
def State.endFailedRun (s : State) : State :=
  match s.row.fault with
  | some f => (s.endRun f.status s.row.num).clearCounts
  | none =>
    if s.row.unrecoverable then
      let s := if s.row.waste then s else s.endRun stUnrecoverable (s.row.unrecDetail.getD 0)
      let s := s.clearCounts
      if s.dev = .running then ({ s with start := { s.start with holdPend := false } }).enter .hold else s
    else s

/-- Does the undone row come again: a replay, or in a group the row that the others replay (log entry 41)? -/
def State.comesAgain (s : State) : Bool :=
  if s.row.fault.isSome || s.row.unrecoverable then s.grouped && decide (s.row.attempt < 2) else true

/-- What follows the undo: darnings first (R350), then UNDONE to the group, or a replay from the next mark (R97, R201); a row that
does not come again leaves the next row to the next mark. -/
def State.afterUndo (s : State) : State :=
  let s := { s with map := { s.map with heldReplay := none } }.laneTests
  if !s.comesAgain then { s with row := { s.row with phase := .waiting, prevSuspects := [] } }
  else if s.darningDue then { s with row := { s.row with phase := .darning } }
  else if s.grouped then ({ s with row := { s.row with phase := .waitReplay } }).reportUndone
  else { s with row := { s.row with phase := .replayDue, replayAt := s.now } }

/-- The hints of the undone attempt for rows whose plan is not fixed count no more: those of its replay do (R320). -/
def State.dropHints (s : State) : State :=
  { s with power := { s.power with
    hints := s.power.hints.filter (fun h => h.given != some s.row.num || decide (h.row ≤ s.power.planFixed)) } }

/-- The undo completes; vector 65 tells of it (R389). -/
def State.undoDone (s : State) : State :=
  if s.row.phase = .undoing then ((s.undoImpossible.undoRow.msix 65).landHeld.rewriteHome.endFailedRun.fixPlan.dropHints).afterUndo else s

def execRowUndoDone (s : State) : Result := s.whenOn State.undoDone

/-! ### Hang (R96) -/

/-- Cells that had not ended. -/
def State.unended (s : State) : List (Nat × Nat) :=
  if s.noProgram then []
  else ((List.range 1728).filter (fun k => s.cellPlaced k && (Tab.getD s.cells k {}).phase != .ended)).map (fun k => (k % 48, k / 48))

/-- A row that has not closed HANGROWS periods after it started: a failed attempt with every cell that had not ended as suspect; a
cell that waits on one of them has not ended either. -/
def execRowHang (s : State) : Result :=
  s.whenOn (fun s =>
    if s.row.phase = .running ∧ s.row.startNs + s.nat 0x2212 1 * s.periodNs ≤ s.now then
      let us := s.unended.map (fun c => Suspect.cell c.1 c.2)
      let at0 := s.unended.headD (0, 0)
      s.failRow { cause := 0x42, x := at0.1, y := at0.2, suspects := us }
    else s)

end Sys2Proof.Machine
end

