-- ==== Sys2Proof/Machine/Darning.lean ====
section
/-!
DEFINITION. Darning: which unit is next, the new map, the rebuild, void regions, completion and restart; HBM stacks that fail in
service; swatches in waste yarn and from the suspect list (R11, R265, R296, R342 to R355, R358, R359, R364).
-/
namespace Sys2Proof.Machine

/-! ### Which unit is next (R350) -/

/-- The place of a lost unit in the order of darning: regions before cells, then the global block index. -/
def Lost.rank : Lost → Nat
  | .region r => r * 14
  | .block b => 588 + b
  | .cell r row col => 588 + ({ region := r, col := col, row := row : Place }).globalBlock

/-- The region that holds a unit, or is it. -/
def Lost.regionOf : Lost → Nat
  | .cell r _ _ => r
  | .block b => b / 14
  | .region r => r

/-- The queued unit that is darned next. -/
def MapSt.nextLost (m : MapSt) : Option (Lost × Nat) :=
  m.queue.foldl (fun best e => match best with
    | some b => if e.1.rank < b.1.rank then some e else some b
    | none => some e) none

/-- The units that the next darning applies: those of a darning that was stopped, then the next of the queue. -/
def MapSt.dueUnits (m : MapSt) : List (Lost × Nat) := m.redo ++ m.nextLost.toList

/-- The map after units are lost one after the other, with what each loss leads to. -/
def MapSt.loseAll (m : MapSt) (us : List (Lost × Nat)) : MapSt × List Loss :=
  us.foldl (fun r e => let x := r.1.lose e.1; (x.1, r.2 ++ [x.2])) (m, [])

/-- Does a loss take its region with it? -/
def Loss.takesRegion : Loss → Bool
  | .regionDarn _ => true
  | .void _ => true
  | _ => false

/-- The region that a loss has darned. -/
def Loss.darned : Loss → Option Nat
  | .regionDarn r => some r
  | _ => none

/-! ### Rebuild (R345, R347) -/

/-- The physical cells whose content is lost with the units: those of a region that goes whole, else the units' own. -/
def lostPlaces (us : List (Lost × Nat)) (ls : List Loss) : List Place :=
  (us.zip ls).flatMap (fun e =>
    if e.2.takesRegion then Lost.places (.region e.1.1.regionOf) else e.1.1.places)

/-- The units that count as lost: where a column has no spare, case 2 of R343 treats the region that holds it as lost, under the same
cause. -/
def MapSt.lostUnits (m : MapSt) : List (Lost × Nat) → List (Lost × Nat)
  | [] => []
  | e :: us =>
    let n := (m.lose e.1).1
    let whole := !m.badRegions.contains e.1.regionOf && n.badRegions.contains e.1.regionOf
    (if whole then .region e.1.regionOf else e.1, e.2) :: n.lostUnits us

/-- Does a line of `n` bytes from `a` read as ECC_HBM? -/
def State.homeBad (s : State) (a n : Nat) : Bool :=
  s.hbm.poisoned.any (fun l => spansMeet (s.committedAt a, s.committedAt a + n) (l, l + 64)) || !s.hbmOk a n

/-- The run ends: its row cannot be replayed (R211, R347, R353). The history entry of the attempt says UNRECOVERABLE. -/
def State.endUnrecoverable (s : State) (detail : Nat) : State :=
  if s.run.isNone then s
  else
    let s := s.addOb 0x2401 3 1
    if s.row.phase = .darning then
      { s.lastUnrecoverable with row := { s.lastUnrecoverable.row with unrecoverable := true, unrecDetail := some detail } }.endFailedRun
    else
      let s := (s.endRun stUnrecoverable detail).msix 65
      if s.dev = .running then s.enter .hold else s

/-- A resident range of a lost logical cell in its new place: from HOME, zeros when it is disposable; a range whose HOME cannot be
read is marked LOST and ends the run. -/
def State.rebuildRange (s : State) (r : Resident) : State :=
  if r.disposable then s.fillHome r
  else if s.homeBad r.home r.len then
    let k := (r.x, r.y, r.off, r.len)
    let l := if s.map.lostRanges.contains k then s.map.lostRanges else s.map.lostRanges ++ [k]
    { s with map := { s.map with lostRanges := l } }.endUnrecoverable r.home
  else s.fillHome r

/-- Every resident range that a loaded pattern declares for the lost logical cells. -/
def State.rebuild (s : State) (cells : List (Nat × Nat)) : State :=
  ((s.pats.flatMap (fun e => e.2.residents)).filter (fun r => cells.contains (r.x, r.y))).foldl State.rebuildRange s

/-! ### A new map in force (R344, R349, R352) -/

/-- Moved and rebuilt cells load their program and constant areas anew. -/
def State.reloadMoved (s : State) (m0 : MapSt) : State :=
  { s with cells := (List.range 1728).foldl (fun t k =>
      if m0.place (k % 48) (k / 48) != s.map.place (k % 48) (k / 48) then
        Tab.set t k { Tab.getD t k {} with reload := true, ownArea := none }
      else t) s.cells }

/-- Does a block, or a region, carry a logical cell? -/
def MapSt.blockUsed (m : MapSt) (b : Nat) : Bool := (blockCells b).any (fun p => (m.logicalCell p).isSome)
def MapSt.regionUsed (m : MapSt) (r : Nat) : Bool := (m.logicalRegion r).isSome

/-- Blocks and regions that come into use are ungated: guard band 16 %, a ramp from 0, 1,000 beacons of fast slew; a region that
carries nothing any more is gated. -/
def State.ungate (s : State) (m0 : MapSt) : State :=
  let s := (List.range 588).foldl (fun s b =>
    if s.map.blockUsed b && !m0.blockUsed b then s.setOb (0x4000 + b) 0x17 16 else s) s
  (List.range 42).foldl (fun s r =>
    if s.map.regionUsed r && !m0.regionUsed r then
      (s.setReg r { s.reg r with gated := false, ramp := 0, rampHalf := false, fast := 1000 }).setOb (0x3000 + r) 0x24 2
    else if m0.regionUsed r && !s.map.regionUsed r then
      let s := s.setReg r { s.reg r with gated := true }
      if 3 ≤ s.nat (0x3000 + r) 0x24 then s else s.setOb (0x3000 + r) 0x24 1
    else s) s

/-- The signature location of a lost unit. -/
def State.lostLoc (s : State) : Lost → List (Nat × Nat)
  | .cell r row col =>
    let p : Place := { region := r, col := col, row := row }
    [(1, r), (2, col), (3, row)] ++ (match s.map.logicalCell p with
      | some c => [(4, c.1), (5, c.2)]
      | none => []) ++ [(6, p.globalBlock)]
  | .block b => [(1, b / 14), (6, b)]
  | .region r => [(1, r)]

/-- The marks that the failed attempt has skipped so far. -/
def State.heldMarks (s : State) : Nat :=
  if s.row.phase = .darning then (s.row.history.getLast?.map (fun e => bits e 75 64)).getD 0 else 0

/-- A logical region becomes void: VOIDMASK, vector 66, a signature, and the end of a run (R352, R353). -/
def State.becomeVoid (s : State) (k cause durUs : Nat) (loc : List (Nat × Nat)) (no : Option Nat) : State :=
  let old := s.nat 0x2310 1
  let s := ((s.setOb 0x2310 1 (s.map.voidMask : Nat)).logEvent .darning 0x2310 1 old s.map.voidMask).msix 66
  let s := s.signature {
    loc := loc, mech := cause, action := 9, duration := some (durUs, s.heldMarks), defect := no }
  s.endUnrecoverable (0x10000 + k)

/-- Is the unit on the defect list from an earlier start of its darning? -/
def State.listed (s : State) (u : Lost) (cause : Nat) : Bool :=
  s.defectsNow.any (fun d => { d with start := 0 } == lostDefect cause u)

/-- The index of a unit's entry; none when it was retired for this start only (R327, R360). -/
def State.listIndex (s : State) (u : Lost) (cause : Nat) : Option Nat :=
  s.flash.defects.findIdx? (fun d => { d with start := 0 } == lostDefect cause u)

/-- The entry of a lost unit: its own, else that of the region that counts as lost in its place. -/
def State.entryOf (s : State) (e : Lost × Nat) : Option Nat :=
  match s.listIndex e.1 e.2 with
  | some i => some i
  | none => s.listIndex (.region e.1.regionOf) e.2

/-- Appends a unit before it is replaced (R342). -/
def State.listUnit (s : State) (e : Lost × Nat) : State :=
  if s.listed e.1 e.2 then s else s.appendDefect .darning (lostDefect e.2 e.1)

/-- The selector of the swatch of a unit (R363). The test of a swatch in waste yarn is not stated (log entry 42). -/
def selectorOf (d : Defect) (test : Nat) : Bytes :=
  le 1 d.kind ++ le 1 test ++ le 2 d.region ++ le 1 d.ccol ++ le 1 d.crow ++ le 4 d.detail ++ le 1 1 ++ zeros 5

/-- A swatch of a unit in waste yarn fails: its signature, which also says the repair or the retirement that follows (R359). -/
def State.swatchFails (s : State) (d : Defect) (mech action : Nat) (no : Option Nat) : State :=
  let test := Config.openResult "swatch test" [d.kind, d.region, d.ccol, d.crow, d.detail] % 256
  s.signature {
    loc := defectLoc d, mech := mech, action := action, origin := 2, selector := some (selectorOf d test), defect := no }

/-- The spare region fails its swatch: appended, unusable from now on (R349). -/
def State.spareFails (s : State) (r cause : Nat) : State :=
  let spare := r / 7 * 7 + s.map.vOf (r / 7)
  let s := s.appendDefect .darning (lostDefect cause (.region spare))
  { s with map := (s.map.lose (.region spare)).1 }.swatchFails { kind := 3, region := spare } cause 0 s.newDefect

/-! ### Running -/

/-- Is this a time at which a darning may start: READY to BIND-OFF, and no row of a run in progress (R350, R355)? -/
def State.mayDarn (s : State) : Bool :=
  s.dev != .off && s.dev != .castOn && s.dev != .safe && s.map.now.isNone && s.darningDue
    && (s.row.phase == .darning || s.row.waste || (s.row.phase == .waiting && s.row.heldFail.isNone))

/-- What follows a darning: home and proxy ports, and the ring capacity of the streams, by the new map (R133, R148, R151, R344). -/
def State.newPorts (s : State) : State := { s with map := s.map.withPorts }.allocateRings

/-- The units are applied: appended, the map recomputed, content rebuilt, void regions reported. A darning that moves or rebuilds
cells then runs until it completes. -/
def State.applyDarning (s : State) (durUs : Nat) : State :=
  let us := s.map.dueUnits
  match us.getLast? with
  | none => s
  | some e =>
    let m0 := s.map
    let loc := s.lostLoc e.1
    let s := (m0.lostUnits us).foldl State.listUnit s
    let r := m0.loseAll us
    let darns := r.2.any (fun l => match l with
      | .cellDarn => true
      | .regionDarn _ => true
      | _ => false)
    let code := if r.2.any Loss.takesRegion then 2 else 1
    let gone := (lostPlaces us r.2).filterMap m0.logicalCell
    let s := { s with map := { r.1 with
      queue := m0.queue.filter (fun q => !us.any (fun e => e.1 == q.1))
      redo := [], entered := [], now := if darns then some e else none
      oldU := m0.u, oldV := m0.v, oldBadCells := m0.badCells, oldBadRegions := m0.badRegions
      startNs := s.clock, durUs := durUs } }
    let s := ((s.ungate m0).reloadMoved m0).logSlices m0
    let s := s.rebuild (gone.filter (fun c => (s.map.place c.1 c.2).isSome))
    let s := if darns then s.setOb 0x2310 4 (code : Nat) else s.newPorts
    (s.map.voids.filter (fun k => !m0.voids.contains k)).foldl (fun s k => s.becomeVoid k e.2 durUs loc (s.entryOf e)) s

/-- When no darning is left, the undone row goes on to its replay (R350). -/
def State.darned (s : State) : State := if s.row.phase = .darning ∧ !s.darningDue then s.afterUndo else s

/-- A darning starts, of cells or of a region, when that is what is next. -/
def State.startDarning (s : State) (region swatchOk : Bool) (durUs : Nat) : State :=
  if !s.mayDarn then s
  else
    let ls := (s.map.loseAll s.map.dueUnits).2
    if ls.any Loss.takesRegion != region then s
    else
      let s := match ls.findSome? Loss.darned with
        | some r => if swatchOk then s else s.spareFails r ((s.map.dueUnits.getLast?.map Prod.snd).getD 0)
        | none => s
      (s.applyDarning durUs).darned

/-- A lost cell, or a lost block's cells, are replaced by their column spares. -/
def execCellDarning (durUs : Nat) (s : State) : Result := s.whenOn (fun s => s.startDarning false true durUs)

/-- A lost region is replaced by its row spare after a swatch of the spare, or becomes void. -/
def execRegionDarning (swatchOk : Bool) (durUs : Nat) (s : State) : Result :=
  s.whenOn (fun s => s.startDarning true swatchOk durUs)

/-- The darnings that a completed darning counts: the columns of a block are darned together. -/
def darnCount (u : Lost) (region : Bool) : Nat :=
  if region then 2 ^ 32 else match u with
    | .block _ => 4
    | _ => 1

/-- A running darning completes: counted, its duration noted and held against its target, its signature, and the undone row's
replay once none is left (R350, R351). -/
def State.completeDarning (s : State) : State :=
  match s.map.now with
  | none => s
  | some e =>
    let s := s.pass (s.map.startNs + s.map.durUs * 1000 - s.clock)
    -- the fast slew of a region that comes into service ends before its cells carry anything (R272)
    let s := s.endFast
    let us := (s.clock - s.map.startNs) / 1000
    let region := s.nat 0x2310 4 == 2
    let old := s.nat 0x2310 3
    let s := s.setOb 0x2310 3 ((old + darnCount e.1 region : Nat))
    let s := s.logEvent .darning 0x2310 3 old (s.nat 0x2310 3)
    let s := (s.setOb 0x2310 4 0).setOb 0x2310 6 (us : Nat)
    let s := if (if region then 20000 else 1500) < us then
        let n := s.nat 0x2310 5
        (s.addOb 0x2310 5 1).logEvent .darning 0x2310 5 n (n + 1)
      else s
    let s := s.signature {
      loc := s.lostLoc e.1, mech := e.2, action := if region then 7 else (match e.1 with
        | .block _ => 8
        | _ => 6)
      duration := some (us, s.heldMarks), defect := s.entryOf e }
    { s with map := { s.map with now := none, entered := [] } }.newPorts.msix 65 |>.darned

def execDarningComplete (s : State) : Result := s.whenOn State.completeDarning

/-! ### Restart (R346) -/

/-- A unit that the running darning uses fails: the darning stops, the unit is lost, and the darning is to start again on the earlier
map. -/
def State.restartDarning (s : State) (lost : Defect) : State :=
  if s.map.now.isNone then s
  else
    let cause := if lost.source < 0x80 then 0x40 else lost.source - 0x80
    let s := s.stopDarning
    match defectUnit lost with
    | some u => s.queueLoss u cause
    | none => s

/-- Does an entry name a unit that exists? -/
def defectOk (d : Defect) : Bool :=
  (d.kind != 1 || (decide (d.region < 42) && decide (d.ccol < 8) && decide (d.crow < 7)))
    && (d.kind != 2 || (decide (d.region < 42) && decide (d.detail < 14))) && (d.kind != 3 || decide (d.region < 42))

def execDarningRestart (lost : Defect) (s : State) : Result :=
  s.unit "unit" lost.region (defectOk lost) (fun s => s.restartDarning lost)

/-! ### HBM stacks (R358) -/

/-- Does the row in progress, or the run that waits between rows, name a slice? -/
def State.rowNames (s : State) (i : Nat) : Bool :=
  (match s.runPattern with
    | some p => s.patternNames p i
    | none => false)
  && ((s.row.phase == .running && !s.row.waste) || (s.row.phase == .waiting && s.run.isSome))

/-- A stack fails and is retrained, at 6.4 or 5.6 Gb/s, or does not answer. -/
def State.stackFails (s : State) (i deciGb : Nat) : State :=
  if s.map.outStacks.contains i then s
  else
    let back := decide (deciGb = 64 ∨ deciGb = 56)
    let named := s.rowNames i
    let m0 := s.map
    let s := if back then s else s.loseSlice i
    let s := if back && named then { s with map := { s.map with heldReplay := some i } } else s
    let s := if named then s.raise { cause := 0x21, suspects := [.slice i], addr := i * 0x2000000000 } else s
    if deciGb = 64 then s
    else
      let s := if back then { s with map := { s.map with slowStacks := addOnce s.map.slowStacks i } } else s
      let s := s.logSlices m0
      let s := s.appendDefect .module { kind := if back then 10 else 9, source := 0x80 + 0x21, detail := i }
      (s.signature { loc := [(12, i)], mech := 0x21, action := if back then 11 else 12
                     defect := s.newDefect }).msix 65

def execHbmStackFail (stack retrainedDeciGb : Nat) (s : State) : Result :=
  s.unit "HBM stack" stack (decide (stack < 48)) (fun s => s.stackFails stack retrainedDeciGb)

/-! ### Swatches (R11, R364) -/

/-- Do waste-yarn swatches run: the module ticks rows? -/
def State.ticks (s : State) : Bool := s.row.phase != .idle

/-- The physical cells that a swatch of a unit runs on. -/
def swatchPlaces (d : Defect) : List Place :=
  match defectUnit d with
  | some u => u.places
  | none => if d.kind = 4 ∨ d.kind = 5 ∨ d.kind = 6 then [placeOf (defectCell d)] else []

/-- Do cells tick waste yarn: none of their logical cells runs a row program that has not ended (R72)? -/
def State.inYarn (s : State) (ps : List Place) : Bool :=
  s.ticks && ps.all (fun p => match s.map.logicalCell p with
    | some (x, y) => (s.cell x y).phase == .idle || (s.cell x y).phase == .ended
    | none => true)

/-- A swatch in waste yarn: its unused units are ungated; a spare or unused unit that fails is appended, and no longer counts as a
spare; a fault located to a ply row, a ply column or a line is repaired there when its spare is free, else it costs the cell; a
failure has its signature (R11, R72, R74). -/
def State.wasteSwatch (s : State) (d : Defect) (passed : Bool) : State :=
  let ps := swatchPlaces d
  if !s.inYarn ps then s
  else
    let s := s.wake ps
    if passed then s
    else match defectUnit d with
      | some u =>
        if s.map.known u then s
        else if s.map.carries u then s.swatchFails d (0x100 + d.kind) 0 none
        else
          let s := s.enterUnit u 0
          s.swatchFails d (0x100 + d.kind) (defectAction d) s.newDefect
      | none =>
        if ps.isEmpty ∨ s.map.known (.cell d.region d.crow d.ccol) then s.swatchFails d (0x100 + d.kind) 0 none
        else
          let steered := s.steers d
          let s := s.repairPlace d 0
          s.swatchFails d (0x100 + d.kind) (if steered then defectAction d else 0) (if steered then s.newDefect else none)

def execWasteYarnSwatch (u : Defect) (passed : Bool) (s : State) : Result :=
  s.unit "unit" u.region (defectOk u) (fun s => s.wasteSwatch u passed)

/-- A selector of the suspect list. -/
structure Selector where
  bytes : Bytes
  unit  : Defect
deriving DecidableEq, Repr, Inhabited

/-- The selectors of the list, in order. -/
def State.selectors (s : State) : List Selector :=
  (cut 16 (s.flash.suspectList.length / 16) s.flash.suspectList).map (fun b =>
    { bytes := b, unit := { kind := uAt b 0 1, region := uAt b 2 2, ccol := uAt b 4 1, crow := uAt b 5 1, detail := uAt b 6 4 } })

/-- The unit a selector retires when it fails again: cells, blocks and regions; for a repairable place the cell that holds it. -/
def Selector.lost (l : Selector) : Option Lost :=
  if l.unit.kind = 4 ∨ l.unit.kind = 5 ∨ l.unit.kind = 6 then some (.cell l.unit.region l.unit.crow l.unit.ccol)
  else defectUnit l.unit

/-- Is a selector's unit unusable or being darned? -/
def State.skipsSelector (s : State) (l : Selector) : Bool :=
  match l.lost with
  | some u => s.map.known u
  | none => decide (l.unit.kind = 8) && s.map.outStacks.contains (l.unit.detail / 2 ^ 26)

/-- The runs that a selector makes in one pass: its REPEAT (R363). -/
def Selector.runs (l : Selector) : Nat := uAt l.bytes 10 1

/-- Where a region stands in the list. -/
def State.setSel (s : State) (region : Nat) (at_ : Nat × Nat) : State :=
  { s with map := { s.map with nextSel := Tab.set s.map.nextSel region at_ } }

/-- The selector that comes next in list order for a region, or the one whose REPEAT runs are not done, is run, skipped, or found to
fail. -/
def State.runSelector (s : State) (region : Nat) (passed : Bool) : State :=
  let all := s.selectors
  let n := all.length
  let here := Tab.getD s.map.nextSel region (0, 0)
  match (List.range n).findSome? (fun i =>
      let j := (here.1 + i) % n
      match all[j]? with
      | some l => if l.unit.region = region then some (j, l) else none
      | none => none) with
  | none => s
  | some (j, l) =>
    let done := (if j = here.1 then here.2 else 0) + 1
    if !s.inYarn (swatchPlaces l.unit) then s
    else if s.skipsSelector l then (s.setSel region ((j + 1) % n, 0)).addOb 0x2405 4 1
    else
      let s := s.setSel region (if l.runs ≤ done then ((j + 1) % n, 0) else (j, done))
      let s := (s.wake (swatchPlaces l.unit)).addOb 0x2405 2 1
      if passed then s
      else
        let s := s.addOb 0x2405 3 1
        let s := s.signature {
          loc := defectLoc l.unit
          mech := 0x100 + l.unit.kind, origin := 3, selector := some l.bytes }
        let kept := s.map.swatchFails.filter (fun e => decide (s.clock < e.2 + dayNs))
        let again := kept.any (fun e => e.1 == l.bytes)
        { s with map := { s.map with
          swatchFails := if again then kept.filter (fun e => e.1 != l.bytes) else kept ++ [(l.bytes, s.clock)]
          retireSel := if again then s.map.retireSel ++ [l.unit] else s.map.retireSel } }

def execSuspectSwatch (region : Nat) (passed : Bool) (s : State) : Result :=
  s.unit "region" region (decide (region < 42) || decide (region = 0xFFFF))
    (fun s => if s.ticks then s.runSelector region passed else s)

end Sys2Proof.Machine
end

