-- ==== Sys2Proof/Machine/Rights.lean ====
section
/-!
DEFINITION. Service tokens and what each origin may write (R414, R419, R420, R422, R435, R436, R460, R470).
-/
namespace Sys2Proof.Machine

/-! ### Tokens (R436) -/

/-- The token that an origin holds. -/
def State.tokenOf (s : State) (o : Origin) : Option Token :=
  match o with
  | .can => s.sec.tokCan
  | .cxl => s.sec.tokCxl
  | .usb => s.sec.tokUsb
  | _ => none

/-- Stores the token of an origin. -/
def State.setToken (s : State) (o : Origin) (t : Option Token) : State :=
  match o with
  | .can => { s with sec := { s.sec with tokCan := t } }
  | .cxl => { s with sec := { s.sec with tokCxl := t } }
  | .usb => { s with sec := { s.sec with tokUsb := t } }
  | _ => s

/-- The scope bits open for an origin; a token whose lifetime has run out grants nothing. -/
def State.scopeOf (s : State) (o : Origin) : Nat :=
  match s.tokenOf o with
  | some t => if s.clock < t.until_ then t.scope else 0
  | none => 0

/-- The seconds before an origin's token lapses. -/
def State.tokenLeft (s : State) (o : Origin) : Nat :=
  match s.tokenOf o with
  | some t => (t.until_ - s.clock) / 1000000000
  | none => 0

/-- Is the debug port open (R460): does any origin hold a token with scope bit 2? -/
def State.debugOpen (s : State) : Bool := bit (s.scopeOf .can) 2 || bit (s.scopeOf .cxl) 2 || bit (s.scopeOf .usb) 2

/-- Logs a change of the debug port (R460). -/
def State.logDebug (s : State) (was : Bool) : State :=
  if was = s.debugOpen then s
  else s.logEvent .module 0x2840 2 (if was then 1 else 0) (if was then 0 else 1)

/-- An origin's token closes; the debug port that it held open closes with it. `was`: was the port open? -/
def State.dropToken (s : State) (o : Origin) : State :=
  let was : Bool := match s.tokenOf o with
    | some t => bit t.scope 2
    | none => false
  let s := s.setToken o none
  if was && !s.debugOpen then s.logEvent .module 0x2840 2 1 0 else s

/-- A cast-on closes every token (R436). -/
def State.dropTokens (s : State) : State := ((s.dropToken .can).dropToken .cxl).dropToken .usb

/-! ### Rights (R422, R435, R470) -/

/-- Does an index lie in a range of Table: Index map? -/
def inIdx (lo hi idx : Nat) : Bool := decide (lo ≤ idx) && decide (idx ≤ hi)

/-- What CAN may write of the entries that are not RO. -/
def canMayWrite (idx sub : Nat) : Bool :=
  !inIdx 0x2000 0x2020 idx && (!inIdx 0x2300 0x2310 idx || (idx == 0x2302 && sub == 1)) && !inIdx 0x2700 0x273F idx

/-- What the CXL host may write: not the communication objects, REMOVE, key records; RESTART and COMMIT depend on the value. -/
def cxlMayWrite (idx sub : Nat) : Bool :=
  canMayWrite idx sub && !inIdx 0x1000 0x1018 idx && idx != 0x2302
    && (!inIdx 0x2800 0x28FF idx || idx == 0x2810 || idx == 0x2820 || idx == 0x2801)

/-- What the USB console may write without a token: panel entries but KEYS, its CURSOR, its token, QUIESCE, FORCEFULL, REMOVE (which
asks for a token itself), COMMAND (BIND_REMOVE only). -/
def usbMayWrite (idx sub : Nat) : Bool :=
  (idx == 0x2201 && sub == 1) || (idx == 0x2302 && sub == 1) || (inIdx 0x2620 0x2631 idx && sub == 6) || (idx == 0x2900 && sub == 2)
    || (inIdx 0x2A00 0x2A20 idx && !(idx == 0x2A00 && sub == 1)) || (idx == 0x2D00 && sub == 6)

/-- The rights under which an origin writes: USB with scope bit 1 has those of CAN (R436). -/
def State.asCan (s : State) (o : Origin) : Bool := o == .can || (o == .usb && bit (s.scopeOf .usb) 1)

/-- May an origin write an entry? A touch or press writes through the entries of Table: Panel actions. -/
def State.mayWrite (s : State) (o : Origin) (idx sub : Nat) : Bool :=
  if s.asCan o then canMayWrite idx sub
  else match o with
    | .cxl => cxlMayWrite idx sub
    | .usb => usbMayWrite idx sub
    | .panel => (idx == 0x2201 && sub == 1) || (inIdx 0x2620 0x2631 idx && sub == 6)
    | _ => false

/-! ### Who is answered (R284, R331, R414, R420) -/

/-- Who makes dictionary accesses (R435). -/
def accessOrigin (o : Origin) : Bool := o == .can || o == .cxl || o == .usb || o == .panel

/-- Does the module answer an origin at all? In the recovery console CAN is up by the straps that step 3 read at its start. -/
def State.answers (s : State) (o : Origin) : Bool :=
  accessOrigin o && s.on && (s.start.recovery || (s.start.step3done && !(o == .can && s.start.nodeId == 0)))

/-- The entries that the recovery console answers, read only (R420). -/
def recoveryEntry (idx sub : Nat) : Bool :=
  inIdx 0x1000 0x1018 idx || idx == 0x2000 || idx == 0x2010 || (idx == 0x2200 && decide (1 ≤ sub) && decide (sub ≤ 3)) || idx == 0x2900
    || idx == 0x2D00

/-- The entries of its recovery services (R453): COMMAND, FWCMD, IMAGE. -/
def recoveryService (idx sub : Nat) : Bool := sub == 1 && (idx == 0x2201 || idx == 0x2801 || idx == 0x2820)

/-- Does an entry answer: every one, or in the recovery console those of R420? -/
def State.answersAt (s : State) (o : Origin) (idx sub : Nat) : Bool :=
  s.answers o && (!s.start.recovery || recoveryEntry idx sub || recoveryService idx sub)

end Sys2Proof.Machine
end

