-- ==== Sys2Proof/Machine/CastOn.lean ====
section
/-!
DEFINITION. The front end's off and on, the start journal, and the steps of cast-on (R21, R219, R274, R286, R321 to R335,
R340, R414, R444, R445, R453, R458, R473).
-/
namespace Sys2Proof.Machine

/-! ### The journal -/

/-- The cast-on step running (`0x2D00:02`). -/
def State.castStep (s : State) : Nat := s.nat 0x2D00 2

/-- The number of the most recent start (`0x2D00:03`). -/
def State.starts (s : State) : Nat := s.nat 0x2D00 3

/-- The 32 bytes of a record (Table: Start journal record). -/
def JRec.bytes (r : JRec) : Bytes :=
  le 4 r.start ++ le 1 r.step ++ le 1 r.mode ++ le 1 r.result ++ le 1 0 ++ le 8 r.tStart ++ le 8 r.tEnd ++ le 1 r.ukind
    ++ le 1 0 ++ le 2 r.uregion ++ le 2 r.udetail ++ le 2 r.ndefects

/-- Appends to the ring of 4,096 records. -/
def Flash.journalPush (f : Flash) (rs : List JRec) : Flash :=
  let all := f.journal ++ rs
  { f with journal := all.drop (all.length - 4096) }

/-- Appends a record: to the journal once step 3 has begun in this power-on, before that to the front-end controller's
own memory (R330). -/
def State.journal (s : State) (r : JRec) : State :=
  if r.step < 3 ∧ !s.start.step3done then s.modFe (fun f => { f with records := f.records ++ [r] })
  else s.modFlash (fun f => f.journalPush [r])

/-- UDETAIL of a blamed unit. -/
def blameDetail (d : Defect) : Nat := if d.kind = 1 then d.ccol * 8 + d.crow else d.detail % 65536

/-- Time since the entry into ON, µs. -/
def State.sinceOn (s : State) : Nat := (s.clock - s.start.tOn) / 1000

/-- The record that closes the running step. -/
def State.endRecord (s : State) (result : Nat) (blamed : Option Defect) (n : Nat) : JRec :=
  let u := blamed.getD { kind := 0, region := 0, detail := 0 }
  { start := s.starts, step := s.castStep, mode := s.start.mode, result := result,
    tStart := (s.start.tStep - s.start.tOn) / 1000, tEnd := s.sinceOn, ukind := u.kind, uregion := u.region,
    udetail := blameDetail u, ndefects := n }

/-- The mode that a step takes from the records of the most recent start `n` (R332). -/
def modeFrom (recs : List JRec) (n step : Nat) (interrupted : Option Nat) : Nat :=
  match (recs.filter (fun r => r.start == n && r.step == step)).getLast? with
  | none => 0
  | some r =>
    let res := if r.result = 0 then (if interrupted = some step then 5 else 4) else r.result
    if res = 3 ∨ res = 4 then
      if 1 ≤ r.mode ∧ (step = 1 ∨ step = 3 ∨ step = 10) then 2 else 1
    else 0

/-- The records the front-end controller holds of the most recent start. -/
def FrontEnd.known (f : FrontEnd) : List JRec := f.lastRecords ++ f.records

/-- The closing records of a start: one for each step with a start record and no end record (R332). -/
def closings (j : List JRec) (n : Nat) (interrupted : Option Nat) : List JRec :=
  let rs := j.filter (fun r => r.start == n)
  (rs.filter (fun r => r.result == 0 && !rs.any (fun e => e.step == r.step && e.result != 0))).map (fun r =>
    { r with result := if interrupted = some r.step then 5 else 4 })

/-! ### Off -/

/-- What the change log keeps of itself when 42 V is lost: what flash holds (R445). -/
def ChangeLog.powerLoss (l : ChangeLog) : ChangeLog :=
  if l.buffered = 0 then { l with cursorCan := 0, cursorCxl := 0, cursorUsb := 0 }
  else
    let kept := l.recs.take (l.recs.length - l.buffered)
    let last := kept.getLast?
    { recs := kept, seq := (last.map (·.seq)).getD (l.seq - l.buffered)
      chain := (last.map (·.chain)).getD (zeros 16), buffered := 0, lost := true }

/-- The dictionary entries that survive (R335): the counters of `0x2401`, DARNINGS, and the objects of `0x2D00`. -/
def survives (key : Nat) : Bool := key / 256 == 0x2401 || key / 256 == 0x2D00 || key == okey 0x2310 3

/-- The front end turns off: everything but flash is lost (R21, R284, R335). A start that it cuts short counts in
FAILEDRUN; `latched` says that HS_EN, the input or the seat cut it, which the front-end controller latches (R332). -/
def State.powerOff (s : State) (latched : Bool) : State :=
  let cut := s.on && s.dev == .castOn
  let s := if cut then s.addOb 0x2D00 4 1 else s
  { fe := { s.fe with
      fe := .off, offUs := 0, inRangeUs := 0, over460Us := 0, below35Us := 0, lowUs := 0, highUs := 0, over50Us := 0
      interrupted := if cut && latched then some s.castStep else s.fe.interrupted
      releaseLatched := false, early := [], earlyMore := 0 }
    flash := { s.flash with
      log := s.flash.log.powerLoss
      fullOpen := if cut && latched then 0 else s.flash.fullOpen }
    obj := s.obj.filter (fun e => survives e.1)
    hostMem := s.hostMem
    out := s.out
    free := s.free
    clock := s.clock
    pending := s.pending }

/-- The front end is off for 2 s and then follows R286; after the third start without READY it stays off until HS_EN is
deasserted and reasserted (R333, R430). -/
def State.offFor2s (s : State) : State :=
  let starting := s.dev == .castOn
  let s := s.powerOff false
  s.modFe (fun f => { f with offUs := 2000000, offHold := starting && decide (3 ≤ s.nat 0x2D00 4) })

/-! ### Steps -/

/-- Limit of the running step, µs (Table: Cast-on steps). -/
def State.stepLimitUs (s : State) : Nat :=
  if s.castStep = 8 ∧ s.start.fullMarch then 60000000
  else [1000000, 1000000, 10000000, 100000, 60000000, 1000000, 10000000, 30000000, 100000, 5000000, 2000000,
    90000000].getD (s.castStep - 1) 0

/-- Time passes until the running step has lasted `us` µs. -/
def State.passStep (s : State) (us : Nat) : State := s.pass (s.start.tStep + us * 1000 - s.clock)

/-- Step 2: the converters start, the region groups with their limits armed as each starts switching; every region is clock-gated
throughout (R322). -/
def State.groupsStart (s : State) : State :=
  { s with
    power := { s.power with groupsOff := false, hbmOff := false }
    regs := (List.range 42).map (fun r => (r, { s.reg r with gated := true })) }

/-- Step 6: every region is ungated, under its ramp governor from 0 and with the guard band of 16 %, which is GUARD's default (R265,
R296, R324). -/
def State.ungateAll (s : State) : State :=
  (List.range 42).foldl (fun s r =>
    (s.setReg r { s.reg r with gated := false, ramp := 0, rampHalf := false }).setOb (0x3000 + r) 0x24 2)
    { s with obj := s.obj.filter (fun e => !(inIdx 0x4000 0x424B (e.1 / 256) && e.1 % 256 == 0x17)) }

/-- The ramps of step 6 have ended when step 7 has lasted longer than two of the longest RAMPTIME (R296; log entry 101). -/
def State.rampsEnd (s : State) : State :=
  (List.range 42).foldl (fun s r =>
    let s := s.setReg r { s.reg r with ramp := 64, rampHalf := false }
    if s.nat (0x3000 + r) 0x24 = 2 then s.setOb (0x3000 + r) 0x24 0 else s) s

/-- Did the previous start fail or hang during the full march (R326)? -/
def State.marchFailed (s : State) : Bool := s.flash.fullOpen != 0 && s.flash.fullOpen + 1 == s.starts

/-- A step begins: its mode, its start record, STEP, ALTMASK (R330, R332, R334). Mode 2 of step 3 is the boot ROM's
recovery console, mode 2 of step 10 is SAFE. -/
def State.beginStep (s : State) (n : Nat) : State :=
  let s := if n = 3 then
      -- step 3 copies the records that the front-end controller holds
      { s with
        flash := s.flash.journalPush s.fe.records
        fe := { s.fe with lastRecords := s.fe.records, records := [] } }
    else s
  let prev := s.starts - 1
  let mode := if n < 3 ∧ !s.start.step3done then modeFrom s.fe.known prev n s.fe.interrupted
    else modeFrom s.flash.journal prev n s.fe.interrupted
  let s := s.setOb 0x2D00 2 (n : Nat)
  let s := if mode = 0 then s else s.setOb 0x2D00 8 ((s.nat 0x2D00 8 ||| 2 ^ n : Nat))
  let full := decide (n = 8) && (decide (10080 < s.nat 0x2D00 5) || s.marchFailed || decide (s.nat 0x2D00 6 = 1))
  let s := { s with
    start := { s.start with mode := mode, modes := s.start.modes ++ [mode], tStep := s.clock, fullMarch := full, forceNew := false }
    flash := { s.flash with fullOpen := if full then s.starts else s.flash.fullOpen } }
  let s := if n = 2 then s.groupsStart else s
  let s := s.journal { start := s.starts, step := n, mode := mode, tStart := s.sinceOn }
  if n = 3 ∧ mode = 2 then
    ({ s with dev := .safe, start := { s.start with recovery := true } }).setOb 0x2200 3 0x200
  else if n = 10 ∧ mode = 2 then s.latchSafe none
  else s

/-- The front end enters ON: a new start at step 1 (R286). -/
def State.beginStart (s : State) : State :=
  let s := { s with
    fe := { s.fe with fe := .on, inputFault := false, inRangeUs := 0 }
    dev := .castOn
    start := { tOn := s.clock, tStep := s.clock } }
  ((s.addOb 0x2D00 3 1).setOb 0x2D00 8 0).beginStep 1

/-- The conditions of R286 hold: precharge, unless the front end is held off or step 1 runs in mode 2, where it stays
OFF and the start counts in FAILEDRUN (Table: Alternate steps). -/
def State.precharge (s : State) : State :=
  if !s.fe.hsEn ∨ s.fe.seatOpen ∨ s.fe.offHold then s
  else if modeFrom s.fe.known s.starts 1 s.fe.interrupted = 2 then
    let s := (s.addOb 0x2D00 3 1).addOb 0x2D00 4 1
    s.modFe (fun f => { f with offHold := decide (3 ≤ s.nat 0x2D00 4) })
  else s.modFe (fun f => { f with fe := .precharge })

/-- Does an entry count since cast-on, or show the guard band of an ungating: STRETCHED, QUANTA, MAXRUN, GUARD, WARNS, BUSSAGS, RUNS, FAILS
(R267, R287, R292, R367)? -/
def sinceCastOn (key : Nat) : Bool :=
  let idx := key / 256
  let sub := key % 256
  (inIdx 0x4000 0x424B idx && [0x11, 0x12, 0x13, 0x17].contains sub) || (inIdx 0x3000 0x3029 idx && sub == 0x27)
    || key == okey 0x2020 6 || key == okey 0x2405 2 || key == okey 0x2405 3

/-- A hung or failed start begins again from step 2 within the power-on, with every converter group off; the ring, the
chip controller and the CXL link stay up (R333). -/
def State.restartFrom2 (s : State) : State :=
  let s := { s.groupsOff with
    obj := s.obj.filter (fun e => !sinceCastOn e.1)
    regs := [], blks := [], map := {}, cells := [], phys := [], hbm := {}, links := [], engines := [] }
  ((s.addOb 0x2D00 3 1).setOb 0x2D00 8 0).beginStep 2

/-- A start ends without READY (R333): the chip controller, when it runs, restarts from step 2, or enters SAFE after the
third such start; else the front end turns off for 2 s. -/
def State.failStart (s : State) : State :=
  if s.start.step3done then
    let s := s.addOb 0x2D00 4 1
    if 3 ≤ s.nat 0x2D00 4 then s.groupsOff.latchSafe none else s.restartFrom2
  else s.offFor2s

/-- The running step runs past its limit (R321, R333). Before the chip controller runs, a hung step 3 waits for the
front-end controller's watchdog. -/
def State.hangStep (s : State) (blamed : Option Defect) : State :=
  let s := s.passStep s.stepLimitUs
  if s.castStep = 3 ∧ !s.start.step3done then s
  else (s.journal (s.endRecord 4 blamed 0)).failStart

/-! ### What the steps do -/

/-- SHA-512 over the head of the last bundle, SERIAL, EPOCH and FWDIGEST: the epoch's start value (R219). -/
def State.epochStart (s : State) : Bytes :=
  let head := match s.flash.bundles.getLast? with
    | some b => slice b 64 64
    | none => zeros 64
  sha512 (head ++ fit 16 Config.serialNumber ++ le 4 s.flash.epoch ++ fit 64 s.sec.running.digestBytes)

/-- The image that step 3 boots: the active bank's, or in mode 1 the other bank's when that holds a verified image
(R453, Table: Alternate steps). -/
def State.bootImage (s : State) : FwInfo :=
  let a := if s.flash.active = 0 then s.flash.bank0.info else s.flash.bank1.info
  let b := if s.flash.active = 0 then s.flash.bank1.info else s.flash.bank0.info
  let pick := if s.start.mode = 1 then (b.orElse (fun _ => a)) else a
  pick.getD fw22

/-- Logs what happened before the dictionary answered: lost log records (R445), the removal latch (R23), node-ID 0
(R414), the early touches (R473), and the change of state to CAST-ON (R431). -/
def State.step3Logs (s : State) (newest : Nat) (lost : Bool) : State :=
  let s := if lost then s.log .castOn 12 0x2900 4 newest 0 0 else s
  let s := s.logEvent .module 0x2200 1 0 1
  let s := if s.fe.removalLatch then
      (s.logEvent .castOn 0x2200 1 0 0).modFe (fun f => { f with removalLatch := false })
    else s
  let s := if s.start.nodeId = 0 then s.logEvent .castOn 0x1017 0 0 0 else s
  let s := s.fe.early.foldl (fun s e => s.log .panel 5 e.2.1 e.2.2 0 e.1 0) s
  let s := if s.fe.earlyMore = 0 then s else s.log .panel 5 0x2A00 0 0 s.fe.earlyMore 0
  s.modFe (fun f => { f with early := [], earlyMore := 0 })

/-- Step 3 ends: the chip controller runs, the dictionary answers (R331), the last start's open steps are closed (R332),
a new epoch begins (R219), open tokens close (R436), CHALLENGE is drawn (R458), the log goes on from flash (R445), CAN is up (R414, R415). -/
def State.step3 (s : State) (straps : Nat) : State :=
  let lost := s.flash.log.lost
  let newest := s.flash.log.seq
  let close := closings s.flash.journal (s.starts - 1) s.fe.interrupted
  let s := { s with
    flash := { s.flash.journalPush close with
      epoch := s.flash.epoch + 1
      log := { s.flash.log with lost := false } }
    fe := { s.fe with interrupted := none }
    start := { s.start with step3done := true, nodeId := straps % 128, nmtUp := decide (straps % 128 ≠ 0), statusDue := true }
    sec := { s.sec with challengeNo := s.free, running := s.bootImage }
    free := s.free + 1 }
  let s := (s.step3Logs newest lost).dropTokens
  { s with row := { s.row with head := s.epochStart, prevHead := s.epochStart } }

/-- The line of memory after step 5: HBM reads zero, the scratchpads are as they were (R323). -/
def zeroHbm (m : Mem) : Mem := m.filter (fun e => decide (hbmEnd ≤ e.1))

/-- What a step leaves behind when it ends well (Table: Cast-on steps). -/
def State.stepEffect (s : State) (n : Nat) (r : StepReport) : State :=
  if n = 3 then s.step3 r.straps
  else if n = 4 then
    -- mode 1: the reference from the free-running module oscillator (Table: Alternate steps)
    let s := s.timeBit 0 true
    if s.start.mode = 1 then s.setOb 0x2100 2 1 else s
  else if n = 5 then { s with mem := zeroHbm s.mem, hbm := {} }
  else if n = 6 then s.ungateAll
  else if n = 7 then (if 2000 ≤ r.durUs then s.rampsEnd else s)
  else if n = 8 then
    if s.start.fullMarch then
      let again := s.start.forceNew
      let s := (s.setOb 0x2D00 5 0).setOb 0x2D00 6 (if again then 1 else 0)
      s.modFlash (fun f => { f with fullOpen := 0 })
    else s
  else if n = 10 then
    let s := { s with map := (mapOf s.defectsNow).withPorts }
    (s.seedUnits.gateUnused).setOb 0x2310 1 (s.map.voidMask : Nat)
  else if n = 11 then
    let s := { s with time := { s.time with dev := r.setTime * 65536, slew := 0 } }
    -- mode 1: the FREE source (Table: Alternate steps)
    let s := if s.start.mode = 1 then s.setOb 0x2100 2 1 else s
    (List.range 42).foldl (fun s g => s.setReg g { s.reg g with fast := 1000, timeOff := 0, slew := 0, slewNs := 0 }) s
  else if n = 12 then
    -- step 12 lasts longer than the 1,000 beacons of the fast slew (R272); after mode 1 of step 11 time is acquired later by slewing
    let s := s.endFast.timeBit 4 false
    if r.setTime ≠ 0 ∧ !bit (s.nat 0x2D00 8) 11 then { s with time := { s.time with dev := r.setTime * 65536 } } else s
  else s

/-- READY (step 13): the mark grid is anchored at device time 0, the queues and CXL.mem open, FAILEDRUN is 0, every
seed state stands (R274, R331, R334, R335). -/
def State.enterReady (s : State) : State :=
  let s := (s.setOb 0x2D00 2 13).setOb 0x2D00 7 ((s.clock - s.start.tOn) / 1000000 : Nat)
  let s := s.setOb 0x2D00 4 0
  let rec13 : JRec := { start := s.starts, step := 13, tStart := s.sinceOn }
  let s := s.modFlash (fun f => f.journalPush [rec13, { rec13 with result := 1, tEnd := s.sinceOn }])
  let t := s.nat 0x2210 1 * 1000
  let m := s.now / t
  let s := { s with
    row := { phase := .waiting, mark := m, markNs := m * t, head := s.row.head, prevHead := s.row.prevHead,
             carried := s.flash.unbundled, ctrBase := (List.range 16).map (fun i => s.nat 0x2401 (i + 1)) }
    flash := { s.flash with unbundled := 0 }
    host := { s.host with memActive := !s.host.ioOnly } }
  s.enter .ready

/-- A removal request during cast-on ends the running step with RESULT 6 and goes on with the flash flush (R338). -/
def State.castOnRemoval (s : State) : State :=
  let s := s.journal (s.endRecord 6 none 0)
  let s := s.addOb 0x2D00 4 1
  ((s.enter .bindOff).setSubstate 2).safeToRemove

/-- The step that follows step `n`: a start that began again from step 2 within the power-on does not repeat step 3 (R333). -/
def State.stepAfter (s : State) (n : Nat) : Nat := if n = 2 ∧ s.start.step3done then 4 else n + 1

/-- The next step, or READY. A release press latched before the end of step 3 takes effect there (R473). -/
def State.nextStep (s : State) (n : Nat) : State :=
  if n = 12 then s.enterReady
  else
    let s := s.beginStep (s.stepAfter n)
    if n = 3 ∧ s.fe.releaseLatched then
      let s := s.modFe (fun f => { f with releaseLatched := false })
      ((s.setOb 0x2201 2 4).log .panel 0 0x2201 1 0 4 4).castOnRemoval
    else s

/-- What step `n` has found: what its report says, and in step 8 the failed units that stand on no list: those lost in SAFE (R355), and
those retired for one start only (R327). -/
def State.foundBy (s : State) (n : Nat) (ds : List Defect) : List Defect :=
  ds ++ (if n = 8 then s.flash.owed.filter (fun d => !(s.defectsNow ++ ds).any (sameUnit d)) else [])

/-- A step ends: its defects are appended, its end record is written, and the next step begins (R321, R327, R330). -/
def State.endStep (s : State) (r : StepReport) : State :=
  let n := s.castStep
  let s := s.passStep r.durUs
  let found := s.foundBy n r.defects
  let s := if n = 8 then s.modFlash (fun f => { f with owed := [] }) else s
  let s := found.foldl (fun s d => s.appendFound n d) s
  let result := if r.failed then 3 else if found.isEmpty then 1 else 2
  let s := s.journal (s.endRecord result r.blamed found.length)
  if r.failed then s.failStart else (s.stepEffect n r).nextStep n

end Sys2Proof.Machine
end

