-- ==== Sys2Proof/Machine/Display.lean ====
section
/-!
DEFINITION. The status display (R476 to R479): the state line, the message line, the pages.
-/
namespace Sys2Proof.Machine

/-- Decimal digits of a number below 10^n, without leading zeros. -/
def decimal : Nat → Nat → Bytes
  | 0, _ => []
  | n + 1, v => (if v < 10 then [] else decimal n (v / 10)) ++ [BitVec.ofNat 8 (48 + v % 10)]

/-- A line of 25 characters, padded with spaces. -/
def displayLine (t : Bytes) : Bytes := (t ++ List.replicate 25 0x20).take 25

/-- Line 0: the device state. -/
def State.stateLine (s : State) : Bytes :=
  match s.dev with
  | .off => ascii "OFF"
  | .castOn => ascii "CAST-ON STEP " ++ decimal 3 (s.nat 0x2D00 2) ++ ascii "/13" ++ (if s.start.mode = 1 ∨ s.start.mode = 2 then ascii " ALT" else [])
  | .ready => ascii "READY"
  | .running => ascii "RUNNING"
  | .hold => ascii "HOLD"
  | .bindOff => ascii "BIND-OFF"
  | .safe => ascii "SAFE"

/-- The mnemonics of Table: Check causes. -/
def causeNames : List (Nat × String) :=
  [(0x01, "RESIDUE_ARRAY"), (0x02, "RESIDUE_DRAIN"), (0x03, "RESIDUE_VECTOR"), (0x04, "RESIDUE_UPDATE"),
   (0x05, "DUPLICATE_MISMATCH"), (0x10, "GAUGE_MISMATCH"), (0x11, "TRANSIT_MISMATCH"), (0x12, "ACCUM_MISMATCH"),
   (0x13, "VERIFY_MISMATCH"), (0x14, "OPERAND_MISMATCH"), (0x15, "COLLECTIVE_MISMATCH"), (0x20, "ECC_SCRATCHPAD"),
   (0x21, "ECC_HBM"), (0x22, "PARITY_ACCUM"), (0x30, "LINK_FAILED"), (0x31, "NAELA_DELIVERY"), (0x38, "DESCRIPTOR_CRC"),
   (0x40, "CELL_LOST"), (0x41, "REGION_LOST"), (0x42, "ROW_HANG"), (0x43, "CONTROLLER_SWITCH"), (0x44, "GROUP_FAIL")]

/-- The text of a cause. -/
def causeText (c : Nat) : Bytes :=
  match causeNames.find? (fun e => e.1 == c) with
  | some e => ascii e.2
  | none => Config.causeText c

/-- Is a row open, so that a removal waits for its close? -/
def State.rowOpen (s : State) : Bool := !(s.row.phase == .idle || s.row.phase == .waiting)

/-- The text of a port message, for the port it names. -/
def portText (kind p : Nat) : Bytes :=
  ascii "PORT " ++ decimal 2 p ++ ascii (if kind = 1 then " IN USE" else if kind = 2 then " DISABLED" else " PULLED LIVE")

/-- The lowest quiesced port. -/
def State.quiescedPort (s : State) : Option Nat := (List.range 18).find? (fun p => s.portState p == 6)

/-- The messages that are in force, highest priority first (Table: Display messages). -/
def State.messages (s : State) : List Bytes :=
  let sub := s.nat 0x2200 2
  let when_ (b : Bool) (t : Bytes) : List Bytes := if b then [t] else []
  when_ (sub == 4) (ascii "SAFE TO REMOVE")
    ++ when_ (s.dev == .safe) (ascii "SAFE: " ++ causeText (s.nat 0x2200 3))
    ++ when_ (sub == 3) (ascii "WAITING FOR ORCHESTRATOR")
    ++ when_ (sub == 2) (ascii (if s.rowOpen then "REMOVAL REQUESTED" else "BINDING OFF"))
    ++ (match s.power.bladeFault with
      | some b => [ascii (if b then "BLADE PAIR B NO CURRENT" else "BLADE PAIR A NO CURRENT")]
      | none => [])
    ++ when_ s.host.onlyB (ascii "HOST LINK B ONLY")
    ++ when_ (s.host.up && s.host.width == 8) (ascii "HOST LINK X8")
    ++ when_ (s.start.step3done && s.start.nodeId == 0) (ascii "CAN NODE-ID 0")
    ++ (match s.panel.portMsg with
      | some m => [portText m.1 m.2]
      | none => [])
    ++ (match s.panel.pulled with
      | some p => [portText 3 p]
      | none => [])
    ++ (match s.quiescedPort with
      | some p => [ascii "PORT " ++ decimal 2 p ++ ascii " SAFE TO PULL"]
      | none => [])
    ++ when_ (s.panel.keyMsg == 1) (ascii "REMOVAL REFUSED")
    ++ when_ (s.panel.keyMsg == 2) (ascii "KEY DISABLED")

/-- The character of a port on page 3. -/
def State.portChar (s : State) (p : Nat) : Byte :=
  match s.portState p with
  | 0 => 0x20
  | 1 => 0x2D
  | 2 => 0x54
  | 3 => 0x54
  | 4 => if s.nat (0x2620 + p) 2 = 12 then 0x61 else 0x41
  | 5 => 0x44
  | 6 => 0x51
  | 7 => 0x46
  | _ => 0x52

/-- What a page shows, for the pages whose layout the spec does not give. -/
def State.pageValues (s : State) (page : Nat) : List Nat :=
  if page = 0 then [s.row.num, s.row.late]
  else if page = 1 then [((s.flash.sigs.getLast?).map (fun e => ofLe e.bytes)).getD 0, s.nat 0x2200 3, s.now]
  else if page = 2 then [s.nat 0x2020 4, s.nat 0x2500 2, s.nat 0x2502 1]
  else if page = 4 then [ofLe Config.serialNumber, s.sec.running.fwver, s.start.nodeId, s.nat 0x2600 1]
  else [s.host.width, s.host.rate, if s.host.memActive then 1 else 0]

/-- Lines 2 and 3: the page shown. -/
def State.pageLines (s : State) : Bytes :=
  if s.panel.page = 3 then displayLine ((List.range 18).map s.portChar) ++ displayLine []
  else (Config.pageText s.panel.page (s.pageValues s.panel.page) ++ List.replicate 50 0x20).take 50

/-- DISPLAY: the 4 lines as 100 characters. -/
def State.displayText (s : State) : Bytes :=
  displayLine s.stateLine ++ displayLine (s.messages.headD []) ++ s.pageLines

end Sys2Proof.Machine
end

