-- ==== Sys2Proof/Machine/Entries.lean ====
section
/-!
DEFINITION. The dictionary entries whose value follows from the rest of the state, as the bytes a read returns (R3, R93, R100,
R150, R205, R218, R220, R221, R254, R261, R281, R297, R328, R334, R356, R357, R362, R401, R412, R423 to R427, R446, R470).
-/
namespace Sys2Proof.Machine

/-- A bit of a register. -/
def flag (b : Bool) (n : Nat) : Nat := if b then 2 ^ n else 0

/-! ### Communication, module, time, state, rows -/

/-- ERRREG (Table: Communication objects). -/
def State.errReg (s : State) : Nat :=
  let vin := s.nat 0x2020 1
  flag (s.dev == .safe) 0 + flag (bit s.limitedBy 2) 1 + flag (decide (vin < 38000) || decide (46000 < vin)) 2
    + flag (decide (0 < s.throttled)) 3 + flag ((List.range 18).any (fun p => s.portState p == 7)) 4
    + flag (decide (s.flash.sigCursor ≤ s.flash.sigSeq)) 7

/-- SWVER: major.minor.patch. -/
def versionText (v : Nat) : Bytes :=
  decimal 3 (bits v 31 24) ++ ascii "." ++ decimal 3 (bits v 23 16) ++ ascii "." ++ decimal 5 (bits v 15 0)

/-- `0x1001` to `0x1018`, `0x2000`, `0x2010`. -/
def State.commEntry (s : State) (idx sub : Nat) : Option Bytes :=
  if idx = 0x1001 then some (le 1 s.errReg)
  else if idx = 0x1008 then some (ascii (if s.flash.variantG then "TW60-G" else "TW60-F"))
  else if idx = 0x1009 then some Config.hwVersion
  else if idx = 0x100A then some (versionText s.sec.running.fwver)
  else if idx = 0x1018 then
    some (le 4 (if sub = 1 then Config.vendorId
      else if sub = 2 then (if s.flash.variantG then 0x6002 else 0x6001)
      else if sub = 3 then bits s.sec.running.fwver 31 24 * 65536 + bits s.sec.running.fwver 23 16
      else uAt (fit 16 Config.serialNumber) 0 4))
  else if idx = 0x2000 then
    some (if sub = 1 then le 1 (if s.flash.variantG then 2 else 1) else if sub = 2 then fit 16 Config.serialNumber else Config.partNumber)
  else if idx = 0x2010 then some (le 4 (if sub = 1 then s.engineCount else 2 ^ s.portCount - 1))
  else none

/-- The value that waits for a latched entry, or 0. -/
def State.pendingVal (s : State) (idx sub : Nat) : Nat :=
  match s.latched.find? (fun l => l.key == okey idx sub) with
  | some l => l.val.toNat
  | none => 0

/-- The slot state of a pattern: 1 loaded, 2 when a run of it is active or queued. -/
def State.slotState (s : State) (i : Nat) : Nat :=
  let active := match s.run with
    | some r => r.kind != .copy && r.slot == i
    | none => false
  if active || s.host.fetched.any (fun f => isRunOp (cmdOpcode f.cmd) && fetchedSlot f.cmd == some i) then 2 else 1

/-- An entry of PTABLE (R425). -/
def State.ptableEntry (s : State) (i : Nat) : Bytes :=
  match Tab.get? s.pats i with
  | some p => fit 64 p.digest ++ le 8 p.addr ++ le 4 p.cycles ++ le 2 p.rows ++ le 1 p.flevel ++ le 1 p.phase ++ le 1 (s.slotState i)
      ++ zeros 15
  | none => zeros 96

/-- `0x2100` to `0x2240`. -/
def State.rowEntry (s : State) (idx sub : Nat) : Option Bytes :=
  if idx = 0x2100 ∧ sub = 4 then some (le 8 s.now)
  else if idx = 0x2200 ∧ sub = 1 then some (le 1 (stateCode s.dev))
  else if idx = 0x2210 ∧ sub = 3 then some (le 4 (s.pendingVal 0x2210 1))
  else if idx = 0x2211 ∧ sub = 2 then some (le 4 (s.pendingVal 0x2211 1))
  else if idx = 0x2230 then some (s.row.history.flatMap (le 16))
  else if idx = 0x2231 then some (le 8 (if sub = 1 then s.row.num else if sub = 2 then s.row.mark else s.row.skipped))
  else if idx = 0x2240 then some (if sub = 1 then le 4 s.pats.length else (List.range 64).flatMap s.ptableEntry)
  else none

/-! ### Map, checks, receipts -/

/-- CELLU of a cell column (Table: Darning objects). -/
def MapSt.cellU (m : MapSt) (region col : Nat) : Nat :=
  match (m.colBad region col).length with
  | 0 => m.uOf region col
  | 1 => m.uOf region col + 0x80
  | _ => 0xFF

/-- v of a region row, 0xFF with a void region in it. -/
def MapSt.regionV (m : MapSt) (row : Nat) : Nat := if m.voids.any (fun k => k / 6 == row) then 0xFF else m.vOf row

/-- An entry of MAP. -/
def MapSt.mapEntry (m : MapSt) (n : Nat) : Nat :=
  match m.place (n % 48) (n / 48) with
  | some p => p.region * 64 + p.col * 8 + p.row
  | none => 0xFFFF

/-- ROLE of a physical region (R426): the place of a void logical region is held clock-gated (R352). -/
def MapSt.role (m : MapSt) (r : Nat) : Nat :=
  if (m.logicalRegion r).isSome then 0
  else if (unskip (m.vOf (r / 7)) (r % 7)).isSome then 3
  else if m.badRegions.contains r then 2
  else 1

/-- A suspect in 4 bytes: its kind and its number. -/
def suspectCode : Suspect → Nat
  | .cell x y => 1 + 256 * (x + 256 * y)
  | .region r => 2 + 256 * r
  | .block b => 3 + 256 * b
  | .link (.mesh x y d) => 4 + 256 * ((y * 48 + x) * 5 + d)
  | .link (.ring b i) => 5 + 256 * ((if b then 48 else 0) + i)
  | .slice i => 6 + 256 * i
  | .engine i => 7 + 256 * i
  | .port p => 8 + 256 * p
  | .module m => 9 + 256 * m

/-- The localisation outcomes of an entry in one byte: that of the cell that raised the failure, else of the first cell. -/
def FailEnt.locByte (f : FailEnt) : Nat :=
  ((f.localise.find? (fun e => e.1 == f.x && e.2.1 == f.y)).orElse (fun _ => f.localise.head?)).elim 0 (·.2.2)

/-- The 32 bytes of a failure-ring entry, the first three suspects in it; the spec gives its content, not its places (log entry 45). -/
def FailEnt.bytes (f : FailEnt) : Bytes :=
  fit 32 (le 8 f.row ++ le 1 f.attempt ++ le 1 f.cause ++ le 1 f.x ++ le 1 f.y ++ le 2 f.phys ++ le 2 f.suspects.length ++ le 1 f.locByte
    ++ le 1 0 ++ (f.suspects.take 3).flatMap (fun u => le 4 (suspectCode u)))

/-- UNDOBASES: the base of each share, 8 bytes a slice. -/
def State.shareBases (s : State) : Bytes := (List.range 48).flatMap (fun i => le 8 (s.shareBase i))

/-- `0x2300` to `0x2420`. -/
def State.checkEntry (s : State) (idx sub : Nat) : Option Bytes :=
  if idx = 0x2300 then
    some ((List.range 2352).flatMap (fun n =>
      if sub = 1 then (s.physCell n).ply.flatMap (le 4) else (s.physCell n).spare.flatMap (le 1)))
  else if idx = 0x2301 then
    some (if sub = 1 then s.flash.defects.flatMap defectBytes else if sub = 2 then le 2 s.flash.defects.length
      else if sub = 3 then s.defectsDigest else le 4 (if s.flash.full then 1 else 0))
  else if idx = 0x2310 ∧ sub = 2 then some ((List.range 6).flatMap (fun r => le 1 (s.map.regionV r)))
  else if idx = 0x2310 ∧ sub = 7 then some ((List.range 1728).flatMap (fun n => le 2 (s.map.mapEntry n)))
  else if idx = 0x2402 then some (s.row.failRing.flatMap FailEnt.bytes)
  else if idx = 0x2404 ∧ sub = 2 then some (le 4 s.flash.sigCursor)
  else if idx = 0x2404 ∧ sub = 3 then some (le 4 (s.flash.sigSeq + 1 - s.flash.sigs.length))
  else if idx = 0x2404 ∧ sub = 4 then some (le 4 s.flash.sigSeq)
  else if idx = 0x2405 ∧ sub = 1 then some s.flash.suspectList
  else if idx = 0x2410 ∧ sub = 4 then some (fit 64 s.row.head)
  else if idx = 0x2420 ∧ sub = 2 then some s.shareBases
  else none

/-! ### Power, Naela, rings and slices -/

/-- The bytes of ROUTES. -/
def State.routesBytes (s : State) : Bytes := (List.range 1024).flatMap (fun m => le 4 (Tab.getD s.naela.routes m 0))

/-- The segment where a ring is broken beyond repair, 0xFF for none. -/
def State.ringBreak (s : State) (b : Bool) : Nat := ((List.range 48).find? (s.ringBroken b)).getD 0xFF

/-- `0x2500` to `0x273F`. -/
def State.naelaEntry (s : State) (idx sub : Nat) : Option Bytes :=
  if idx = 0x2500 ∧ sub = 3 then some (le 4 s.limitBy)
  else if idx = 0x2502 ∧ sub = 4 then some (le 4 s.throttled)
  else if idx = 0x2600 ∧ sub = 5 then some s.routesBytes
  else if idx = 0x2600 ∧ sub = 8 then some (le 4 s.sec.running.proto)
  else if inIdx 0x2620 0x2631 idx ∧ s.portCount ≤ idx - 0x2620 then
    some (zeros (((Objects.find idx sub).bind (·.typ.size)).getD 0))
  else if idx = 0x2701 then some (le 1 (s.ringBreak (sub == 2)))
  else if inIdx 0x2710 0x273F idx then
    let i := idx - 0x2710
    some (le 4 (if sub = 1 then (s.map.activePorts i).length else if sub = 2 then s.map.sliceRate i else s.map.stackState i))
  else none

/-! ### Security, change log, panel -/

/-- STAGED: manifest bytes 4 to 19 of the staging bank. -/
def State.stagedBytes (s : State) : Bytes :=
  let b := s.stagedBank
  match b.info with
  | some i => if i.digest.isNone && b.content.isEmpty then fit 16 Config.factoryManifest else b.content.readBytes 4 16
  | none => b.content.readBytes 4 16

/-- A slot's state byte (R457 block 5). -/
def KeySlot.stateByte (k : KeySlot) : Nat := flag k.programmed 0 + flag k.revoked 1 + flag k.image 2 + flag k.record 3

/-- SLOTS. -/
def State.slotBytes (s : State) : Bytes := (s.flash.slots.take 4).flatMap (fun k => le 1 k.stateByte)

/-- CHALLENGE: the draw of the random source that stands. -/
def State.challengeBytes (s : State) : Bytes := fit 64 (Config.random s.sec.challengeNo)

/-- CHAIN: the four certificates, each after its length. -/
def chainBytes : Bytes := (List.range 4).flatMap (fun n => le 4 (Config.certificate n).length ++ Config.certificate n)

/-- `0x2800` to `0x2850`. -/
def State.secureEntry (s : State) (idx sub : Nat) : Option Bytes :=
  let f := s.sec.running
  if idx = 0x2800 then
    some (if sub = 1 then le 4 f.fwver else if sub = 2 then fit 64 f.digestBytes else if sub = 3 then le 1 f.svn
      else if sub = 4 then le 1 s.flash.floor else if sub = 5 then le 1 f.flmax else le 1 s.flash.active)
  else if idx = 0x2801 ∧ sub = 2 then some (le 4 s.sec.fwState)
  else if idx = 0x2801 ∧ sub = 3 then some (le 4 s.sec.phase)
  else if idx = 0x2802 then some s.stagedBytes
  else if idx = 0x2830 ∧ sub = 1 then some s.slotBytes
  else if idx = 0x2840 then some (if sub = 1 then s.challengeBytes else le 4 (if s.debugOpen then 1 else 0))
  else if idx = 0x2850 then some chainBytes
  else none

/-- OLDEST of the change log. -/
def ChangeLog.oldest (l : ChangeLog) : Nat := (l.seq + 1 + 2 ^ 32 - l.recs.length) % 2 ^ 32

/-- An origin's CURSOR as it was written. -/
def ChangeLog.cursorOf (l : ChangeLog) (o : Origin) : Nat :=
  match o with
  | .can => l.cursorCan
  | .cxl => l.cursorCxl
  | _ => l.cursorUsb

/-- A sequence number held within OLDEST to NEWEST + 1, compared modulo 2^32 (R440, R446). -/
def ChangeLog.within (l : ChangeLog) (c : Nat) : Nat :=
  if (c + 2 ^ 32 - l.oldest) % 2 ^ 32 ≤ l.recs.length then c % 2 ^ 32
  else if c < l.oldest then l.oldest
  else (l.seq + 1) % 2 ^ 32

/-- CURSOR of an origin: within the records held; it starts at OLDEST. -/
def ChangeLog.cursor (l : ChangeLog) (o : Origin) : Nat :=
  if l.cursorOf o = 0 then l.oldest
  else if (l.cursorOf o + 2 ^ 32 - l.oldest) % 2 ^ 32 ≤ l.recs.length then l.cursorOf o
  else l.oldest

/-- Stores an origin's CURSOR. -/
def ChangeLog.setCursor (l : ChangeLog) (o : Origin) (c : Nat) : ChangeLog :=
  match o with
  | .can => { l with cursorCan := c }
  | .cxl => { l with cursorCxl := c }
  | _ => { l with cursorUsb := c }

/-- `0x2900`, `0x2A00`, `0x2A20` as an origin reads them; UNLOGGED is stored. -/
def State.panelEntry (s : State) (o : Origin) (idx sub : Nat) : Option Bytes :=
  let l := s.flash.log
  if idx = 0x2900 ∧ sub = 2 then some (le 4 (l.cursor o))
  else if idx = 0x2900 ∧ sub = 3 then some (le 4 l.oldest)
  else if idx = 0x2900 ∧ sub = 4 then some (le 4 l.seq)
  else if idx = 0x2900 ∧ sub = 5 then some (fit 16 l.chain)
  else if idx = 0x2900 ∧ sub = 6 then some (le 2 l.buffered)
  else if idx = 0x2A00 ∧ sub = 4 then some s.displayText
  else if idx = 0x2A20 ∧ sub = 2 then some (le 4 (s.scopeOf o))
  else if idx = 0x2A20 ∧ sub = 3 then some (le 4 (s.tokenLeft o))
  else none

/-! ### Sessions, engines, journal, regions, blocks -/

/-- STATE of the update engine of a slice (R254, R329). -/
def State.engineState (s : State) (i : Nat) : Nat :=
  if s.engineCount = 0 ∨ s.map.outStacks.contains i then 0 else if s.nat 0x2C02 (i + 1) = 2 then 2 else 1

/-- MERGEOVF of a region: counts by cell row × 8 + cell column, of the logical cells its cells carry. -/
def State.mergeOvfs (s : State) (r : Nat) : Bytes :=
  (List.range 56).flatMap (fun n => le 4 (match s.map.logicalCell { region := r, row := n / 8, col := n % 8 } with
    | some c => (s.cell c.1 c.2).mergeOvf
    | none => 0))

/-- CURRENT of a block, 0.1 A: what its regulator measures, which no command tells (R319; log entry 103). -/
def State.blockCurrent (s : State) (b : Nat) : Nat := Config.openResult "block current" [b, s.clock] % 2 ^ 16

/-- PLLSTATE of a block: failed, locking until cast-on step 4 has ended, else locked (R263, R267). -/
def State.pllState (s : State) (b : Nat) : Nat :=
  if s.nat (0x4000 + b) 0x16 = 2 then 2 else if s.dev = .castOn ∧ s.castStep ≤ 4 then 1 else 0

/-- `0x2B10` to `0x4FFF`. -/
def State.unitEntry (s : State) (idx sub : Nat) : Option Bytes :=
  if idx = 0x2B10 ∧ sub = 3 then some (le 4 s.freePages)
  else if idx = 0x2B12 then some (le 4 s.openCount)
  else if idx = 0x2B13 then some ((List.range 8192).flatMap s.sessionBytes)
  else if idx = 0x2C02 then some (le 4 (s.engineState (sub - 1)))
  else if idx = 0x2D00 ∧ sub = 1 then some (s.flash.journal.flatMap JRec.bytes)
  else if inIdx 0x3000 0x3029 idx then
    let r := idx - 0x3000
    if sub = 1 then some (le 4 (s.map.role r))
    else if sub = 2 then some (le 4 ((s.map.logicalRegion r).getD 0xFF))
    else if sub = 3 then some (le 4 (s.refIn r))
    else if sub = 4 then some (s.mergeOvfs r)
    else if sub = 0x26 then some (le 4 (s.ceiling r))
    else if sub = 0x30 then some ((List.range 8).flatMap (fun c => le 1 (s.map.cellU r c)))
    else none
  else if inIdx 0x4000 0x424B idx then
    let b := idx - 0x4000
    if sub = 1 then some (le 4 (s.vset b))
    else if sub = 3 then some (le 4 (s.issueLimit b).1)
    else if sub = 4 then some (le 4 (s.issueLimit b).2)
    else if sub = 5 then some (le 4 (s.bubbles b))
    else if sub = 6 then some (le 4 (s.blockCurrent b))
    else if 9 ≤ sub ∧ sub ≤ 12 ∧ bit (s.blk b).failedSensors (sub - 9) then some (le 4 0x7FFF)
    else if sub = 0x16 then some (le 4 (s.pllState b))
    else none
  else none

/-! ### Any entry -/

/-- The computed entries, each group by its range of indexes. -/
def State.computed (s : State) (o : Origin) (idx sub : Nat) : Option Bytes :=
  if idx < 0x2020 then s.commEntry idx sub
  else if idx < 0x2300 then s.rowEntry idx sub
  else if idx < 0x2500 then s.checkEntry idx sub
  else if idx < 0x2800 then s.naelaEntry idx sub
  else if idx < 0x2900 then s.secureEntry idx sub
  else if idx < 0x2B00 then s.panelEntry o idx sub
  else s.unitEntry idx sub

/-- The bytes of an entry as an origin reads it: computed, or the numeric value stored for it; WO entries read as zero (R422). -/
def State.entryBytes (s : State) (o : Origin) (e : ObjSpec) (idx sub : Nat) : Bytes :=
  if e.acc = .wo then zeros (e.typ.size.getD 0)
  else (s.computed o idx sub).getD (e.typ.encode (s.ob idx sub))

end Sys2Proof.Machine
end

