-- ==== Sys2Proof/Machine/Access.lean ====
section
/-!
DEFINITION. A dictionary access and its answer; how the change log tells of writes and refusals; reads, the stream objects among
them (R417, R418, R420, R428, R440 to R446, R362).
-/
namespace Sys2Proof.Machine

/-- A write as it arrives: origin, entry, OFFSET, the bytes of the value. -/
structure Write where
  o : Origin
  idx : Nat
  sub : Nat
  off : Nat := 0
  data : Bytes
deriving DecidableEq, Repr

/-- The answer to an access; nothing is sent while `heard` is false. -/
structure Answer where
  heard : Bool := true
  abort : Nat := 0
  clamped : Bool := false
  more : Bool := false
  data : Bytes := []                  -- the bytes read, or the applied value of a write
deriving DecidableEq, Repr

/-- The access is not answered. -/
def Answer.unheard : Answer := { heard := false }

/-! ### Abort codes (Table: Abort codes) -/

def abOrigin : Nat := 0x06010000
def abReadWo : Nat := 0x06010001
def abReadOnly : Nat := 0x06010002
def abIndex : Nat := 0x06020000
def abLength : Nat := 0x06070010
def abSub : Nat := 0x06090011
def abValue : Nat := 0x06090030
def abToken : Nat := 0x08000020
def abKeys : Nat := 0x08000021
def abState : Nat := 0x08000022
def abAbsent : Nat := 0x08000024

/-- The RESULT of a refusal (Table: Change-log results). -/
def refusalResult (abort : Nat) : Nat :=
  if abort = abOrigin ∨ abort = abReadOnly then 6
  else if abort = abState then 5
  else if abort = abToken then 7
  else if abort = abKeys then 9
  else 8

/-! ### What the change log says of a write (R443) -/

/-- A value as a record holds it, and flag bit 0 for a value longer than 8 B. -/
def loggedValue (signed : Bool) (b : Bytes) : Nat × Nat :=
  if 8 < b.length then (logDigest b, 1)
  else if signed then (logVal (toSigned (8 * b.length) (ofLe b)), 0)
  else (ofLe b, 0)

/-- The value in force of an entry, as records hold it. -/
def State.loggedOld (s : State) (w : Write) : Nat × Nat :=
  match Objects.find w.idx w.sub with
  | some e => if e.acc = .wo then (0, 0) else loggedValue e.typ.signed (s.entryBytes w.o e w.idx w.sub)
  | none => (0, 0)

/-- The value that a write asks for, as records hold it. -/
def Write.logged (w : Write) : Nat × Nat :=
  loggedValue ((Objects.find w.idx w.sub).any (fun e => e.typ.signed && e.typ.size == some w.data.length)) w.data

/-- Flag bit 2: the write rests on a token. -/
def State.tokenFlag (s : State) (w : Write) : Nat :=
  if (w.o == .usb && s.asCan .usb && !usbMayWrite w.idx w.sub) || (w.idx == 0x2302 && bit (s.scopeOf w.o) 0) then 4 else 0

/-- A refused write: nothing changes but the log. -/
def State.refuseWrite (s : State) (w : Write) (abort : Nat) : Answer × State :=
  let old := s.loggedOld w
  let req := w.logged
  ({ abort := abort }, s.log w.o (refusalResult abort) w.idx w.sub old.1 req.1 old.1 (old.2 ||| req.2))

/-- The record of a write that is carried out: OLD and what it applied, with further flags. -/
def State.logWrite (s : State) (w : Write) (result : Nat) (old app : Nat × Nat) (flags : Nat := 0) : State :=
  let req := w.logged
  s.log w.o result w.idx w.sub old.1 req.1 app.1 (old.2 ||| req.2 ||| app.2 ||| flags ||| s.tokenFlag w)

/-! ### Reads -/

/-- The most bytes one transfer carries. -/
def maxTransfer : Nat := 1044480

/-- The records from a sequence number on, as many whole ones as `n` bytes hold. -/
def ChangeLog.from_ (l : ChangeLog) (c n : Nat) : List LogRec := (l.recs.drop ((c + 2 ^ 32 - l.oldest) % 2 ^ 32)).take (n / 64)

/-- Reads LOG: whole records from the origin's CURSOR, which advances past them. -/
def State.readLog (s : State) (o : Origin) (n : Nat) : Answer × State :=
  let l := s.flash.log
  let c := l.cursor o
  let rs := l.from_ c n
  let next := (c + rs.length) % 2 ^ 32
  ({ data := rs.flatMap LogRec.bytes, more := next != (l.seq + 1) % 2 ^ 32 },
   { s with flash := { s.flash with log := l.setCursor o next } })

/-- The whole signatures that fit. -/
def wholeSigs : List Signature → Nat → List Signature
  | [], _ => []
  | e :: r, n => if n < e.bytes.length then [] else e :: wholeSigs r (n - e.bytes.length)

/-- Reads STREAM: whole signatures from CURSOR, which advances past them. -/
def State.readSigs (s : State) (n : Nat) : Answer × State :=
  let oldest := s.flash.sigSeq + 1 - s.flash.sigs.length
  let c := max oldest s.flash.sigCursor
  let es := wholeSigs (s.flash.sigs.drop (c - oldest)) n
  ({ data := es.flatMap (·.bytes), more := decide (c + es.length ≤ s.flash.sigSeq) },
   { s with flash := { s.flash with sigCursor := c + es.length } })

/-- What a read leaves behind: bit 6 of STATUS tells of alarms since the last read (R281). -/
def State.afterRead (s : State) (idx sub : Nat) : State :=
  if idx = 0x2100 ∧ sub = 3 then s.setOb 0x2100 3 ((s.nat 0x2100 3 &&& 0xBF : Nat)) else s

/-- Reads an entry: `len` bytes at most. -/
def State.read (s : State) (o : Origin) (idx sub off len : Nat) : Answer × State :=
  if !s.answersAt o idx sub then (.unheard, s)
  else if (Objects.atIndex idx).isEmpty then ({ abort := abIndex }, s)
  else match Objects.find idx sub with
    | none => ({ abort := abSub }, s)
    | some e =>
      let n := min len maxTransfer
      if e.acc = .wo then ({ abort := abReadWo, data := zeros (e.typ.size.getD 0) }, s)
      else if idx = 0x2900 ∧ sub = 1 then s.readLog o n
      else if idx = 0x2404 ∧ sub = 1 then s.readSigs n
      else if off ≠ 0 ∧ e.typ ≠ .domain then ({ abort := abLength }, s)
      else
        let b := (s.entryBytes o e idx sub).drop off
        ({ data := b.take n, more := e.typ == .domain && decide (n < b.length) }, s.afterRead idx sub)

end Sys2Proof.Machine
end

