-- ==== Sys2Proof/Machine/StateCmd.lean ====
section
/-!
DEFINITION. The state commands written to COMMAND (R109, R337 to R340, R430, R431, R447, R453, R483).
-/
namespace Sys2Proof.Machine

/-- The codes of Table: State commands. -/
def cmdRun : Nat := 1
def cmdHold : Nat := 2
def cmdBindReady : Nat := 3
def cmdBindRemove : Nat := 4
def cmdRestart : Nat := 5

/-- May an origin write a command? -/
def State.mayCommand (s : State) (o : Origin) (code : Nat) : Bool :=
  s.asCan o || (o == .cxl && code != cmdRestart) || ((o == .usb || o == .panel) && code == cmdBindRemove)

/-- Is a command accepted in the present state? The recovery console takes RESTART alone. A module that already binds off toward
removal accepts BIND_REMOVE with no change (R483). -/
def State.commandOk (s : State) (code : Nat) : Bool :=
  if s.start.recovery then code == cmdRestart
  else match s.dev with
    | .off => false
    | .castOn => code == cmdBindRemove
    | .ready => code == cmdRun || code == cmdBindReady || code == cmdBindRemove
    | .running => decide (1 ≤ code) && decide (code ≤ 4)
    | .hold => decide (1 ≤ code) && decide (code ≤ 4)
    | .bindOff => code == cmdBindRemove && decide (s.nat 0x2200 2 < 4)
    | .safe => code == cmdBindRemove || code == cmdRestart

/-- RUN: RUNNING from the next row boundary; a HOLD that waits is followed by it. -/
def State.takeRun (s : State) : State :=
  if s.dev = .running ∧ !s.start.holdPend then s
  else { s with start := { s.start with runPend := true } }

/-- HOLD once the present row closes, at once when none is open; a RUN that waits is overtaken. -/
def State.takeHold (s : State) : State :=
  let s := { s with start := { s.start with runPend := false } }
  if s.dev != .running then s
  else if s.rowOpen then { s with start := { s.start with holdPend := true } }
  else
    let s := s.enter .hold
    { s with run := s.run.map RunSt.held }

/-- The bind-off begins: what waits of RUN and HOLD is dropped. -/
def State.beginBindOff (s : State) (sub : Nat) : State :=
  let s := { s with start := { s.start with runPend := false, holdPend := false, bindOffMember := s.grouped } }
  (s.enter .bindOff).setSubstate sub

/-- BIND_READY: the active command goes on to its end. -/
def State.takeBindReady (s : State) : State :=
  let s := s.beginBindOff 1
  { s with run := s.run.map RunSt.resumed }

/-- BIND_REMOVE: a member of a larger commit group waits for the orchestrator (R339). -/
def State.takeBindRemove (s : State) : State :=
  match s.dev with
  | .castOn => s.castOnRemoval
  | .safe => if s.nat 0x2200 2 = 4 then s else s.safeToRemove
  | .bindOff => if 2 ≤ s.nat 0x2200 2 then s else s.beginBindOff (if s.grouped then 3 else 2)
  | _ => s.beginBindOff (if s.grouped then 3 else 2)

/-- What an accepted command does. -/
def State.takeCommand (s : State) (code : Nat) : State :=
  if code = cmdRun then s.takeRun
  else if code = cmdHold then s.takeHold
  else if code = cmdBindReady then s.takeBindReady
  else if code = cmdBindRemove then s.takeBindRemove
  else s.offFor2s

/-- A write of COMMAND: rights, code, state; accepted, it writes LASTCMD and its record. -/
def State.command (s : State) (w : Write) : Answer × State :=
  let code := ofLe w.data
  if !s.mayCommand w.o code then s.refuseWrite w abOrigin
  else if w.data.length ≠ 1 then s.refuseWrite w abLength
  else if code < 1 ∨ 5 < code then s.refuseWrite w abValue
  else if !s.commandOk code then s.refuseWrite w abState
  else
    let s := (s.setOb 0x2201 2 (code : Nat)).logWrite w 0 (0, 0) (code, 0)
    ({ data := w.data }, s.takeCommand code)

end Sys2Proof.Machine
end

