-- ==== Sys2Proof/Machine/Tokens.lean ====
section
/-!
DEFINITION. Signed records: service tokens and root-key slots; removal of defect entries (R327, R436, R448, R449, R458 to
R460).
-/
namespace Sys2Proof.Machine

/-! ### Signed records (R458, R459) -/

/-- The layout of a record of each type: what the type does not use is zero. -/
def recordShape (r : Bytes) : Bool :=
  let t := uAt r 6 1
  r.length == 1184 && uAt r 0 4 == 0x52535754 && uAt r 4 2 == 1 && decide (uAt r 7 1 < 4)
    && (if t = 1 then decide (uAt r 92 2 < 8) && allZero (slice r 94 66)
      else if t = 2 then allZero (slice r 88 6) && decide (uAt r 94 1 < 4) && decide (uAt r 95 1 < 4)
      else t == 3 && allZero (slice r 88 6) && decide (uAt r 94 1 < 4) && allZero (slice r 95 65))

/-- A root-key slot. -/
def State.slot (s : State) (n : Nat) : KeySlot := s.flash.slots.getD n {}

/-- Is a slot active? -/
def KeySlot.active (k : KeySlot) : Bool := k.programmed && !k.revoked

/-- HASH of a slot. -/
def KeySlot.hashBytes (k : KeySlot) : Bytes :=
  match k.hash with
  | some h => h
  | none => if k.programmed then fit 64 Config.rootKeyHash else zeros 64

/-- Does a modulus belong to an active slot? -/
def KeySlot.holds (k : KeySlot) (modulus : Bytes) : Bool := k.active && sha512 modulus == k.hashBytes

/-- Is a record accepted (R459)? -/
def State.recordOk (s : State) (r : Bytes) : Bool :=
  let k := s.slot (uAt r 7 1)
  recordShape r && slice r 8 16 == fit 16 Config.serialNumber && slice r 24 64 == s.challengeBytes && k.record
    && k.holds (slice r 160 512) && rsaVerify (r.take 672) (slice r 160 512) (slice r 672 512)

/-- CHALLENGE is replaced by 64 new random bytes. -/
def State.newChallenge (s : State) : State := { s with sec := { s.sec with challengeNo := s.free }, free := s.free + 1 }

/-! ### Service tokens (R436, R459) -/

/-- The lifetime of a token, s, held within its range. -/
def tokenLife (r : Bytes) : Nat := clampN 60 86400 (uAt r 88 4)

/-- A write of TOKEN. -/
def State.presentToken (s : State) (w : Write) : Answer × State :=
  if uAt w.data 6 1 ≠ 1 ∨ !s.recordOk w.data then s.refuseWrite w abToken
  else
    let was := s.debugOpen
    let life := tokenLife w.data
    let s := s.setToken w.o (some { scope := uAt w.data 92 2, until_ := s.clock + life * 1000000000 })
    let s := s.newChallenge.logWrite w 0 (0, 0) w.logged
    let s := if life = uAt w.data 88 4 then s else s.log w.o 1 0x2A20 3 0 (uAt w.data 88 4) life
    ({ data := [] }, s.logDebug was)

/-- A write of CLOSE closes the origin's token. -/
def State.closeToken (s : State) (w : Write) : Answer × State :=
  if w.data.length ≠ 4 then s.refuseWrite w abLength
  else ({ data := w.data }, (s.logWrite w 0 (0, 0) w.logged).dropToken w.o)

/-- The lifetime of an origin's token runs out. -/
def State.lapseToken (s : State) (o : Origin) : State := s.dropToken o

/-! ### Root-key slots (R448, R449) -/

/-- The 65 bytes of a slot (Table: Root-key slot). -/
def KeySlot.bytes (k : KeySlot) : Bytes :=
  k.hashBytes ++ le 1 (flag k.programmed 2 + flag k.revoked 3 + flag k.record 4 + flag k.image 5)

/-- Is some other slot active with IMAGE set? -/
def State.otherImageSlot (s : State) (n : Nat) : Bool := (List.range 4).any (fun i => i != n && (s.slot i).active && (s.slot i).image)

/-- May the record's slot be programmed, or revoked (R449)? -/
def State.slotChangeOk (s : State) (r : Bytes) : Bool :=
  let n := uAt r 94 1
  let k := s.slot n
  n != uAt r 7 1 && (if uAt r 6 1 = 2 then !k.programmed && uAt r 95 1 != 0
    else !k.revoked && n != s.sec.running.keyslot && (!(k.active && k.image) || s.otherImageSlot n))

/-- The slot after the record. -/
def slotAfter (k : KeySlot) (r : Bytes) : KeySlot :=
  if uAt r 6 1 = 2 then
    { k with programmed := true, hash := some (slice r 96 64), image := bit (uAt r 95 1) 0, record := bit (uAt r 95 1) 1 }
  else { k with revoked := true }

/-- A write of KEYREC. -/
def State.keyRecord (s : State) (w : Write) : Answer × State :=
  let r := w.data
  if (uAt r 6 1 ≠ 2 ∧ uAt r 6 1 ≠ 3) ∨ !s.recordOk r then s.refuseWrite w abToken
  else if !s.slotChangeOk r then s.refuseWrite w abValue
  else
    let n := uAt r 94 1
    let old := s.slot n
    let new := slotAfter old r
    let s := { s with flash := { s.flash with slots := s.flash.slots.set n new } }
    ({ data := [] }, s.newChallenge.logWrite w 0 (logDigest old.bytes, 1) (logDigest new.bytes, 1))

/-! ### Removal of a defect entry (R327) -/

/-- A write of REMOVE: the entry leaves the list, and the change log keeps it as the old value. -/
def State.removeDefect (s : State) (w : Write) : Answer × State :=
  let n := ofLe w.data
  if !bit (s.scopeOf w.o) 0 then s.refuseWrite w abToken
  else if w.data.length ≠ 2 then s.refuseWrite w abLength
  else match s.flash.defects[n]? with
    | none => s.refuseWrite w abValue
    | some d =>
      let s := s.logWrite w 0 (0, 0) (n, 0)
      let s := { s with flash := { s.flash with defects := s.flash.defects.eraseIdx n } }
      let c := s.flash.defects.length
      ({ data := w.data }, s.log .defectList 10 0x2301 2 (logDigest (defectBytes d)) c c 1)

end Sys2Proof.Machine
end

