-- ==== Sys2Proof/Machine/Firmware.lean ====
section
/-!
DEFINITION. Firmware: verification of an image, staging, activation, rollback, commit, the recovery console's services, SYSFL
(R448 to R453, R461 to R470).
-/
namespace Sys2Proof.Machine

/-! ### Images (R451, R452) -/

/-- The most bytes an image takes: a bank. -/
def bankBytes : Nat := 67108864

/-- Component `i` of a manifest: its 96 bytes. -/
def compEntry (m : Bytes) (i : Nat) : Bytes := slice m (64 + 96 * i) 96

/-- Where a component lies: offset and length. -/
def compSpan (c : Bytes) : Nat × Nat := (uAt c 8 8, uAt c 16 8)

/-- Is a component's entry well formed, at or above 4,096 and within LENGTH? -/
def compOk (len : Nat) (c : Bytes) : Bool :=
  decide (1 ≤ uAt c 0 1) && decide (uAt c 0 1 ≤ 5) && allZero (slice c 1 7) && allZero (slice c 88 8)
    && decide (4096 ≤ (compSpan c).1) && decide ((compSpan c).1 + (compSpan c).2 ≤ len)

/-- Do no two spans of a list overlap? -/
def spansApart : List (Nat × Nat) → Bool
  | [] => true
  | a :: r => r.all (fun b => decide (a.1 + a.2 ≤ b.1) || decide (b.1 + b.2 ≤ a.1)) && spansApart r

/-- Does a list hold each component type once? -/
def typesOnce (ts : List Nat) : Bool := (List.range 5).all (fun i => (ts.filter (· == i + 1)).length == 1)

/-- Step 1 of R452, on the manifest's 1,856 bytes. -/
def manifestOk (m : Bytes) : Bool :=
  let len := uAt m 16 8
  let n := uAt m 15 1
  let cs := (List.range n).map (compEntry m)
  uAt m 0 4 == 0x4D465754 && uAt m 4 2 == 1 && allZero (slice m 24 40) && decide (uAt m 14 1 < 4) && decide (len ≤ bankBytes)
    && decide (1 ≤ n) && decide (n ≤ 8) && cs.all (compOk len) && spansApart (cs.map compSpan)
    && typesOnce (cs.map (fun c => uAt c 0 1)) && allZero (slice m (64 + 96 * n) (96 * (8 - n)))

/-- What a manifest says of its image; FWDIGEST is the SHA-512 of its bytes 0 to 1,343. -/
def manifestInfo (m : Bytes) : FwInfo :=
  { fwver := uAt m 8 4, svn := uAt m 7 1, flmax := uAt m 12 1, proto := uAt m 13 1, keyslot := uAt m 6 1
    digest := some (sha512 (m.take 1344)) }

/-- The bit of VARIANTS that this module needs. -/
def State.variantBit (s : State) : Nat := if s.flash.variantG then 1 else 0

/-- Step 5 of R452, but for VARIANTS. -/
def State.levelOk (s : State) (i : FwInfo) : Bool := decide (s.flash.floor ≤ i.svn) && decide (1 ≤ i.flmax)

/-- Verifies a bank's bytes. -/
def State.verifyBytes (s : State) (b : Mem) : Option FwInfo :=
  let m := b.readBytes 0 1856
  let k := s.slot (uAt m 6 1)
  let i := manifestInfo m
  if manifestOk m && k.image && k.holds (slice m 832 512) && rsaVerify (m.take 1344) (slice m 832 512) (slice m 1344 512)
      && (List.range (uAt m 15 1)).all (fun n =>
        let c := compEntry m n
        sha512 (b.readBytes (compSpan c).1 (compSpan c).2) == slice c 24 64)
      && s.levelOk i && bit (uAt m 14 1) s.variantBit
  then some i else none

/-- Verifies a bank. The factory image's bytes are not part of the model: it was signed for this module, and its slot, SVN and level
are judged. -/
def State.verifyBank (s : State) (b : FwBank) : Option FwInfo :=
  match b.info with
  | some i =>
    if i.digest.isNone && b.content.isEmpty then
      (if s.levelOk i && (s.slot i.keyslot).active && (s.slot i.keyslot).image then some i else none)
    else s.verifyBytes b.content
  | none => s.verifyBytes b.content

/-- Stores the staging bank. -/
def State.setStaged (s : State) (b : FwBank) : State :=
  { s with flash := if s.flash.active = 0 then { s.flash with bank1 := b } else { s.flash with bank0 := b } }

/-- Sets FWSTATE. -/
def State.fwStateTo (s : State) (v : Nat) : State := { s with sec := { s.sec with fwState := v } }

/-! ### Staging (R461) -/

/-- A write of IMAGE: at OFFSET 0 it erases the bank first; the bank is no longer verified. -/
def State.writeImage (s : State) (w : Write) : Answer × State :=
  if (s.dev = .safe ∧ !s.start.recovery) ∨ s.activating then s.refuseWrite w abState
  else if bankBytes < w.off + w.data.length then s.refuseWrite w abLength
  else
    let old : Mem := if w.off = 0 then [] else s.stagedBank.content
    let s := (s.setStaged { content := old.writeBytes w.off w.data, info := none }).fwStateTo 1
    ({ data := [] }, s.logWrite w 0 (0, 0) w.logged)

/-! ### Commands of FWCMD -/

/-- The record of an accepted FWCMD. -/
def State.logFwCmd (s : State) (w : Write) : State := s.logWrite w 0 (0, 0) w.logged

/-- VERIFY. -/
def State.takeVerify (s : State) (w : Write) : Answer × State :=
  if s.activating then s.refuseWrite w abState
  else
    let b := s.stagedBank
    let r := s.verifyBank b
    ({ data := w.data }, ((s.setStaged { b with info := r }).fwStateTo (if r.isSome then 2 else 3)).logFwCmd w)

/-- May the image of a bank be activated now (R462)? -/
def State.activateOk (s : State) (i : FwInfo) : Bool :=
  (s.dev == .ready || s.dev == .running || s.dev == .hold) && decide (s.nat 0x2810 1 ≤ i.flmax)
    && s.pats.all (fun e => decide (e.2.flevel ≤ i.flmax)) && decide (s.flash.floor ≤ i.svn) && !s.activating && !s.darningDue

/-- The activation begins. -/
def State.beginActivation (s : State) (w : Write) : Answer × State :=
  let s := { s with sec := { s.sec with fwState := 4, retried := false } }
  ({ data := w.data }, (s.fwPhase 1).logFwCmd w)

/-- In the recovery console: the verified bank becomes the active one (R453). -/
def State.markActive (s : State) (w : Write) : Answer × State :=
  ({ data := w.data }, (({ s with flash := { s.flash with active := 1 - s.flash.active } }).fwStateTo 5).logFwCmd w)

/-- ACTIVATE. -/
def State.takeActivate (s : State) (w : Write) : Answer × State :=
  if s.sec.fwState ≠ 2 then s.refuseWrite w abState
  else if s.start.recovery then s.markActive w
  else match s.stagedBank.info with
    | some i => if s.activateOk i then s.beginActivation w else s.refuseWrite w abState
    | none => s.refuseWrite w abState

/-- ROLLBACK: the staging bank's image, which must still verify (R466). -/
def State.takeRollback (s : State) (w : Write) : Answer × State :=
  if s.start.recovery then s.refuseWrite w abState
  else match s.verifyBank s.stagedBank with
    | some i =>
      if s.activateOk i then (s.setStaged { s.stagedBank with info := some i }).beginActivation w
      else s.refuseWrite w abState
    | none => s.refuseWrite w abState

/-- The SVN of the image in the staging bank, if it holds one. -/
def State.stagedSvn (s : State) : Option Nat :=
  match s.stagedBank.info with
  | some i => some i.svn
  | none => if s.stagedBank.content.isEmpty then none else some (uAt (s.stagedBank.content.readBytes 7 1) 0 1)

/-- The fuses of the floor burn up to the running SVN (R450, R467). -/
def State.raiseFloor (s : State) : State :=
  let n := min 128 s.sec.running.svn
  if n ≤ s.flash.floor then s
  else
    let old := s.flash.floor
    let s := { s with flash := { s.flash with floor := n } }
    let s := s.logEvent .module 0x2800 4 old n
    match s.stagedSvn with
    | some v => if v < n then s.fwStateTo 3 else s
    | none => s

/-- COMMIT. -/
def State.takeCommit (s : State) (w : Write) : Answer × State :=
  if (s.dev == .ready || s.dev == .running || s.dev == .hold) && !s.activating then
    ({ data := w.data }, (s.logFwCmd w).raiseFloor)
  else s.refuseWrite w abState

/-- A write of FWCMD; only CAN, or USB under scope bit 1, may commit. -/
def State.fwCommand (s : State) (w : Write) : Answer × State :=
  let code := ofLe w.data
  if w.data.length ≠ 1 then s.refuseWrite w abLength
  else if code = 1 then s.takeVerify w
  else if code = 2 then s.takeActivate w
  else if code = 3 then s.takeRollback w
  else if code = 4 then (if s.asCan w.o then s.takeCommit w else s.refuseWrite w abOrigin)
  else s.refuseWrite w abValue

/-! ### SYSFL (R469) -/

/-- A write of SYSFL: clamped to 1 to FLMAX, refused below the level of a loaded pattern, latched. -/
def State.writeSysfl (s : State) (w : Write) : Answer × State :=
  let v := ofLe w.data
  let a := clampN 1 (max 1 s.sec.running.flmax) v
  if w.data.length ≠ 4 then s.refuseWrite w abLength
  else if s.pats.any (fun e => decide (a < e.2.flevel)) then s.refuseWrite w abState
  else
    let old := s.loggedOld w
    let s := (s.hold 0x2810 1 (a : Nat) false).logWrite w (if a = v then 2 else 3) old (a, 0)
    ({ clamped := a != v, data := le 4 a }, s)

end Sys2Proof.Machine
end

