-- ==== Sys2Proof/Machine/HostQueue.lean ====
section
/-!
DEFINITION. The host's queues and memory: BAR0 registers and doorbells, enable and disable, fetch, coalescing, digests that
complete, host reads and writes over CXL.mem, back-invalidates, link training and PERST# (R19, R203, R217, R331, R365 to R377,
R389, R390).
-/
namespace Sys2Proof.Machine

/-! ### BAR0 (R371 to R373) -/

/-- Logs a BAR0 write that is ignored or clamped: INDEX 0x2B00, SUBINDEX 0, OLD the offset (log entry 43). -/
def State.logBar0 (s : State) (result off req app : Nat) : State := s.log .cxl result 0x2B00 0 off req app

/-- The active run of a disabled queue ends once its present row commits, at once when no row of it is open. -/
def State.stopRun (s : State) (sel : RunSt → Bool) (silent : Bool) : State :=
  match s.run with
  | some r =>
    if !sel r then s
    else if s.runRowOpen then { s with run := some { r with abort := true, silent := r.silent || silent } }
    else s.endAborted { r with silent := r.silent || silent }
  | none => s

/-- EN clears: what is fetched and not started completes FAILED_ABORTED, the queue's run ends after its row; ACTIVE clears when the
last completion has been written. -/
def State.disableQueue (s : State) (q : Nat) : State :=
  let s := s.setQueue q { s.queue q with en := false }
  let s := s.abortFetched (fun f => f.queue == q && f.unstarted)
  let s := s.stopRun (fun r => r.queue == q) false
  s.settleFences.settleQueue q

/-- EN is set: below QUEUES only. A pair that is not in use starts both queues at entry 0, in the first pass. -/
def State.enableQueue (s : State) (q : Nat) : State :=
  let qp := s.queue q
  if qp.active then s.setQueue q { qp with en := true }
  else s.setQueue q { qp with
    en := true, active := true, sqhead := 0, sqtail := 0, cqhead := 0, cqtail := 0, phase := true, coal := 0, cqfull := false }

/-- The control word at +0x14. -/
def QueuePair.ctl (q : QueuePair) : Nat :=
  q.coalTime + q.coalCnt * 0x10000 + (if q.ien then 0x40000000 else 0) + (if q.en then 0x80000000 else 0)

/-- A write of the control word. -/
def State.writeCtl (s : State) (q v : Nat) : State :=
  let was := (s.queue q).en
  let s := s.setQueue q { s.queue q with ien := bit v 30, coalCnt := bits v 23 16, coalTime := bits v 15 0 }
  if bit v 31 && !was then
    if s.nat 0x2B00 1 ≤ q then s.logBar0 5 (0x2014 + 64 * q) (v % 2 ^ 32) 0 else s.enableQueue q
  else if was && !bit v 31 then s.disableQueue q
  else s

/-- A base as it is kept: SPACE and bits [51:12]; the rest is reserved. -/
def baseOf (v : Nat) : Nat := bits v 63 63 * 2 ^ 63 + bits v 51 12 * 4096

/-- Half a base written at `old`: low or high word. -/
def halfWrite (old v : Nat) (high : Bool) : Nat :=
  if high then old % 2 ^ 32 + v % 2 ^ 32 * 2 ^ 32 else old / 2 ^ 32 * 2 ^ 32 + v % 2 ^ 32

/-- A write to a base: both words at offsets 0 and 8, the high word alone at 4 and 12. -/
def QueuePair.writeBase (q : QueuePair) (off v : Nat) : QueuePair :=
  if off = 0 then { q with sqbase := baseOf v }
  else if off = 4 then { q with sqbase := baseOf (halfWrite q.sqbase v true) }
  else if off = 8 then { q with cqbase := baseOf v }
  else { q with cqbase := baseOf (halfWrite q.cqbase v true) }

/-- A write of QSIZE: both sizes clamped to 16 to 4,096 entries, and the clamp logged. -/
def State.writeSize (s : State) (q v : Nat) : State :=
  let sq := clampN 15 4095 (bits v 11 0)
  let cq := clampN 15 4095 (bits v 27 16)
  let s := s.setQueue q { s.queue q with sqent := sq, cqent := cq }
  if sq = bits v 11 0 ∧ cq = bits v 27 16 then s else s.logBar0 1 (0x2010 + 64 * q) v (sq + cq * 65536)

/-- A write of a 32-bit word of the MSI-X table, 16 bytes a vector: unmasking a vector with its pending bit set sends it (R389). -/
def State.writeMsix (s : State) (off v : Nat) : State :=
  let n := (off - 0x4000) / 16
  let s := { s with host := { s.host with msixTab := Tab.set s.host.msixTab ((off - 0x4000) / 4) (v % 2 ^ 32) } }
  if off % 16 != 12 then s
  else if bit v 0 then { s with host := { s.host with masked := addOnce s.host.masked n } }
  else
    let due := s.host.pendingVec.contains n
    let s := { s with host := { s.host with
      masked := s.host.masked.filter (· != n), pendingVec := s.host.pendingVec.filter (· != n) } }
    if due then s.msix n else s

/-- A write at an offset from the registers of queue `q`; an offset beyond them reaches the rest of BAR0 above. -/
def State.writeQueueReg (s : State) (q off v : Nat) : State :=
  let at0 := 0x2000 + 64 * q + off
  if 64 ≤ off then
    if 0x4000 ≤ at0 ∧ at0 < 0x4000 + 16 * 68 ∧ at0 % 4 = 0 then s.writeMsix at0 v else s.logBar0 8 at0 v 0
  else if off = 0 ∨ off = 4 ∨ off = 8 ∨ off = 12 then
    if (s.queue q).en then s.logBar0 5 at0 v 0 else s.setQueue q ((s.queue q).writeBase off v)
  else if off = 0x10 then
    if (s.queue q).en then s.logBar0 5 at0 v 0 else s.writeSize q v
  else if off = 0x14 then s.writeCtl q v
  else if off = 0x18 then
    let qp := s.queue q
    s.setQueue q { qp with dberr := qp.dberr && !bit v 2, fetcherr := qp.fetcherr && !bit v 1 }
  else if off = 0x1C then s.logBar0 6 at0 v 0
  else s.logBar0 8 at0 v 0

/-- A command over the CXL link to queue `q`: BAR0 is there once the link presents it, after step 3 (R331). -/
def State.onQueue (s : State) (q : Nat) (f : State → State) : Result :=
  s.unit "queue" q (decide (q < 64)) (fun s => if s.serves then f s else s)

def execQueueRegisterWrite (q off v : Nat) (s : State) : Result := s.onQueue q (fun s => s.writeQueueReg q off v)
def execQueueEnable (q : Nat) (s : State) : Result :=
  s.onQueue q (fun s => s.writeCtl q ((s.queue q).ctl % 2 ^ 31 + 2 ^ 31))
def execQueueDisable (q : Nat) (s : State) : Result := s.onQueue q (fun s => s.writeCtl q ((s.queue q).ctl % 2 ^ 31))

/-- A doorbell value at or above the queue's size is ignored, with DBERR, and logged. -/
def State.doorbell (s : State) (q off v size : Nat) (ok : State → State) : State :=
  if size < v then (s.setQueue q { s.queue q with dberr := true }).logBar0 8 (off + 8 * q) v 0 else ok s

def execSqtailDoorbell (q v : Nat) (s : State) : Result :=
  s.onQueue q (fun s => s.doorbell q 0x1000 v (s.queue q).sqent (fun s => s.setQueue q { s.queue q with sqtail := v }))

/-- Room in the completion queue lets held completions out. -/
def execCqheadDoorbell (q v : Nat) (s : State) : Result :=
  s.onQueue q (fun s => s.doorbell q 0x1004 v (s.queue q).cqent (fun s =>
    (s.setQueue q { s.queue q with cqhead := v }).deliver))

/-! ### What BAR0 reads (R371, R372, R389) -/

/-- MODID and MODSTAT. -/
def State.modId (s : State) : Nat := (if s.flash.variantG then 0x6002 else 0x6001) * 0x10000 + 0x0100 + s.sec.running.flmax % 256
def State.modStat (s : State) : Nat :=
  stateCode s.dev * 0x1000000 + (if s.host.ioOnly then 0x10000 else 0) + s.host.width % 256 * 0x100 + s.host.rate % 256

/-- The 32-bit word at an offset of a queue's registers. -/
def QueuePair.word (q : QueuePair) (off : Nat) : Nat :=
  match off with
  | 0x00 => q.sqbase % 2 ^ 32
  | 0x04 => q.sqbase / 2 ^ 32
  | 0x08 => q.cqbase % 2 ^ 32
  | 0x0C => q.cqbase / 2 ^ 32
  | 0x10 => q.sqent + q.cqent * 0x10000
  | 0x14 => q.ctl
  | 0x18 => (if q.cqfull then 1 else 0) + (if q.fetcherr then 2 else 0) + (if q.dberr then 4 else 0) + (if q.active then 2 ^ 31 else 0)
  | 0x1C => q.sqhead
  | _ => 0

/-- The 32-bit word that a read of BAR0 answers (Table: BAR0 map); 0 at an unlisted offset. -/
def State.bar0Word (s : State) (off : Nat) : Nat :=
  if off = 0 then s.modId
  else if off = 8 then s.modStat
  else if 0x1000 ≤ off ∧ off < 0x1200 then
    let q := s.queue ((off - 0x1000) / 8)
    if off % 8 = 0 then q.sqtail else if off % 8 = 4 then q.cqhead else 0
  else if 0x2000 ≤ off ∧ off < 0x3000 then (s.queue ((off - 0x2000) / 64)).word (off % 64)
  else if 0x4000 ≤ off ∧ off < 0x4000 + 16 * 68 then Tab.getD s.host.msixTab ((off - 0x4000) / 4) 0
  else if 0x5000 ≤ off ∧ off < 0x500C then
    (List.range 32).foldl (fun v i => if s.host.pendingVec.contains ((off - 0x5000) / 4 * 32 + i) then v + 2 ^ i else v) 0
  else 0

/-! ### Fetch (R375, R377, R434, R445) -/

/-- May commands be fetched: from READY on, with CXL.cache, and the log's buffer not near full? -/
def State.fetches (s : State) : Bool :=
  s.takesCommands && !s.host.ioOnly && decide (s.flash.log.buffered < 3840)

/-- Has a queue a command to fetch: one is in flight at a time (log entry 44)? -/
def State.fetchable (s : State) (q : Nat) : Bool :=
  let qp := s.queue q
  qp.en && qp.sqhead != qp.sqtail && !s.queueBusy q && (s.headOf q).isNone

/-- The opcodes of Table: Opcodes. -/
def opcodes : List Nat := [0x01, 0x02, 0x03, 0x04, 0x10, 0x11, 0x12, 0x20, 0x21, 0x30, 0x31]

/-- A failed queue access stops the pair as though EN had been cleared. -/
def State.fetchError (s : State) (q : Nat) : State :=
  (s.setQueue q { s.queue q with fetcherr := true }).disableQueue q

/-- Fetches the next command of queue `q`. An unknown opcode is refused; so is every command toward removal. -/
def State.fetchFrom (s : State) (q : Nat) : State :=
  let qp := s.queue q
  let at0 := qp.sqbase + 128 * qp.sqhead
  let s := { s with host := { s.host with rrFetch := q } }
  if !s.fieldOk at0 128 then s.fetchError q
  else
    let c := s.readField at0 128
    let s := s.setQueue q { qp with sqhead := (qp.sqhead + 1) % (qp.sqent + 1) }
    let e := s.enterFetched q c
    if s.refusesCommands then e.2.refuseRemoving e.1
    else if opcodes.contains (cmdOpcode c) then e.2
    else e.2.refuse e.1 stMalformed

/-- The module fetches from the next queue in round-robin order that has a command. -/
def execCommandFetch (s : State) : Result :=
  s.whenOn (fun s =>
    if !s.fetches then s
    else match ((List.range 64).map (fun i => (s.host.rrFetch + 1 + i) % 64)).find? s.fetchable with
      | some q => s.fetchFrom q
      | none => s)

/-- COALTIME has passed since the first completion that waits: vector q fires (R389). -/
def execMsixCoalesceTimeout (q : Nat) (s : State) : Result :=
  s.onQueue q (fun s =>
    let qp := s.queue q
    if qp.coal = 0 ∨ qp.coalTime = 0 then s
    else
      let s := s.setQueue q { qp with coal := 0 }
      if qp.ien then s.msix q else s)

/-! ### Output digests (R217) -/

/-- The oldest completion that waits for its digests has them: its ranges are hashed. -/
def State.digestDone (s : State) : State :=
  match (s.host.held ++ s.host.ending).find? (·.needDigest) with
  | none => s
  | some e =>
    let clear (l : List Ended) : List Ended := l.map (fun g => if g.no = e.no then { g with needDigest := false } else g)
    { s with
      host := { s.host with held := clear s.host.held, ending := clear s.host.ending }
      hbm := { s.hbm with unhashed := s.hbm.unhashed.drop e.digests.length } }.deliver

def execOutputDigestComplete (s : State) : Result := s.whenOn State.digestDone

/-! ### Host reads and writes (R203, R368, R369) -/

/-- Is a device range decoded: Memory_Active set, and inside HBM? -/
def State.decoded (s : State) (a n : Nat) : Bool := s.host.memActive && decide (a + n ≤ hbmEnd)

/-- The data of a host read inside one line, and whether it is marked poisoned. -/
def State.hostData (s : State) (a n : Nat) : Output :=
  if s.sliceOut a then .hostData (zeros n) true
  else .hostData ((List.range n).map (fun i => s.hostByte (a + i))) (s.hbm.poisoned.contains (s.committedAt a / 64 * 64))

/-- A host read inside one line: tracked by the snoop filter; with its set full, the least recently used line is invalidated first
and the read is answered after that. Reads of an undo share are counted (R205). -/
def State.hostReadPiece (s : State) (a n : Nat) : State :=
  let line := a / 64 * 64
  let s := if s.inShare a n then s.addOb 0x2401 0x11 1 else s
  let set := s.sameSet line
  if set.contains line || decide (set.length < 16) then (s.track line).emit (s.hostData a n)
  else match set.getLast? with
    | some lru => s.snoopOut lru (some (a, n))
    | none => (s.track line).emit (s.hostData a n)

def execHostMemRead (addr len : Nat) (s : State) : Result :=
  s.whenOn (fun s =>
    if s.decoded addr len then (pieces (len / 64 + 2) addr (zeros len)).foldl (fun s p => s.hostReadPiece p.1 p.2.length) s
    else s)

def execHostMemWrite (addr : Nat) (data : Bytes) (s : State) : Result :=
  s.whenOn (fun s => if s.decoded addr data.length then s.hostWrite addr data else s)

/-- The host no longer holds a line: the read that waited for it is answered, or a commit's completions are released. -/
def State.birsp (s : State) (line : Nat) : State :=
  let w := s.hbm.waitSnoop.filter (fun e => e.1 == line)
  let s := { s with hbm := { s.hbm with
    snoop := s.hbm.snoop.filter (· != line), waitSnoop := s.hbm.waitSnoop.filter (fun e => e.1 != line) } }
  (w.foldl (fun s e => match e.2 with
    | some r => (s.track (r.1 / 64 * 64)).emit (s.hostData r.1 r.2)
    | none => s) s).deliver

def execBirsp (addr : Nat) (s : State) : Result := s.whenOn (fun s => s.birsp (addr / 64 * 64))

/-! ### The link (R19, R365, R366, R374) -/

/-- What follows an abort without a completion: it is logged. -/
def State.logAborts (s : State) : State :=
  s.host.fetched.foldl (fun s f => if f.unstarted then s.logAbort f else s) s

/-- A queue pair whose host is gone. -/
def QueuePair.stopped (q : QueuePair) : QueuePair := { q with en := false }

/-- PERST# or link down: every queue stops as by a disable, but no completion is written; a host that is gone holds no line. The
device state stays. -/
def State.linkDown (s : State) : State :=
  let s := s.logAborts
  let s := { s with
    queues := s.queues.map (fun (e : Nat × QueuePair) => (e.1, e.2.stopped))
    hbm := { s.hbm with snoop := [], waitSnoop := [] } }
  let s := s.abortFetched Fetched.unstarted
  let s := s.stopRun (fun _ => true) true
  let quiet (l : List Ended) : List Ended := l.map (fun e => { e with silent := true })
  let s := { s with host := { s.host with up := false, ending := quiet s.host.ending, held := quiet s.host.held } }
  (List.range 64).foldl State.settleQueue s.deliver

def execPerstAssert (s : State) : Result := s.whenOn State.linkDown

/-- Lanes that train: 16 with both connectors, 8 with A alone, none with B alone (R19). -/
def lanesOf (connA connB : Bool) : Nat := if connA then (if connB then 16 else 8) else 0

/-- The link trains; without 256-byte flits CXL.io alone is enabled, and Memory_Active is not set. Connector B alone is reported: on the
status display, and over the management connector by a change-log record and a status frame (R19; log entry 95). -/
def State.linkTrained (s : State) (connA connB : Bool) (rate : Nat) (flit256 : Bool) : State :=
  let lanes := lanesOf connA connB
  let up := lanes != 0 && (rate == 32 || rate == 64)
  let ready := s.dev == .ready || s.dev == .running || s.dev == .hold || (s.dev == .bindOff && s.nat 0x2200 2 != 4)
  let mem := up && flit256 && ready
  let was := s.host.memActive
  let alone := connB && !connA
  let s := if alone && !s.host.onlyB then
      (s.logEvent .cable 0x2A00 4 0 1).dueStatus
    else s
  let s := { s with host := { s.host with
    up := up, width := if up then lanes else 0, rate := if up then rate else 0, ioOnly := up && !flit256
    onlyB := alone, memActive := mem } }
  if was = mem then s else s.msix 66

def execCxlLinkTrain (connA connB : Bool) (rate : Nat) (flit256 : Bool) (s : State) : Result :=
  s.whenOn (fun s => s.linkTrained connA connB rate flit256)

end Sys2Proof.Machine
end

