-- ==== Sys2Proof/Machine/Writes.lean ====
section
/-!
DEFINITION. A write to the dictionary: how it is judged, in the order availability, existence, rights, state, length, value
(R428, R432, R435 to R438, R445), what an entry does with it, and the entries with a rule of their own (R199, R205, R221, R223, R253,
R254, R275, R281, R292, R340, R362, R363, R372, R401, R409, R412, R446).
-/
namespace Sys2Proof.Machine

/-! ### States (Table: Writes by state) -/

/-- Is an entry latched (R433)? -/
def latchedEntry (idx sub : Nat) : Bool :=
  idx == 0x2210 || idx == 0x2211 || idx == 0x2212 || idx == 0x2220 || (idx == 0x2410 && sub == 1)
    || (idx == 0x2500 && (sub == 1 || sub == 4 || sub == 6)) || inIdx 0x2510 0x251F idx || (idx == 0x2600 && sub == 6) || idx == 0x2C01

/-- Is an entry applied at the next row boundary without being latched? -/
def boundaryEntry (idx sub : Nat) : Bool :=
  !latchedEntry idx sub && (idx == 0x2500 || idx == 0x2502 || inIdx 0x3000 0x3029 idx || inIdx 0x4000 0x424B idx)

/-- Is a state among READY, HOLD and the like? -/
def DevState.among (d : DevState) (l : List DevState) : Bool := l.contains d

/-- The entries that every state from CAST-ON on accepts; SYSFL and FWCMD judge the state themselves. -/
def anyState (idx sub : Nat) : Bool :=
  idx == 0x1017 || (idx == 0x2200 && sub == 4) || (idx == 0x2900 && sub == 2) || idx == 0x2A00 || idx == 0x2A20
    || (idx == 0x2D00 && sub == 6) || (idx == 0x2404 && sub == 2) || (idx == 0x2405 && sub == 1) || idx == 0x2810 || idx == 0x2801
    || idx == 0x2820

/-- Does the present state accept a write to an entry? -/
def State.writeState (s : State) (idx sub : Nat) : Bool :=
  if anyState idx sub then s.dev != .off
  else if idx = 0x2100 ∧ sub = 7 then s.dev.among [.castOn, .ready]
  else if idx = 0x2302 then s.dev.among [.ready, .hold, .safe]
  else if idx = 0x2420 then s.dev == .ready && s.pats.isEmpty
  else if idx = 0x2600 ∧ sub < 5 then s.dev.among [.castOn, .ready]
  else if idx = 0x2600 ∧ sub = 5 then s.dev.among [.castOn, .ready, .hold]
  else if inIdx 0x2640 0x267F idx then s.dev.among [.ready, .hold]
  else if idx = 0x2B00 then s.dev.among [.castOn, .ready]
  else if idx = 0x2B10 ∨ idx = 0x2B11 then s.dev.among [.castOn, .ready, .running, .hold, .bindOff] && s.openCount == 0
  else if inIdx 0x2B20 0x2B2F idx then s.dev.among [.castOn, .ready, .running, .hold, .bindOff] && !s.setBound (idx - 0x2B20)
  else s.dev.among [.castOn, .ready, .running, .hold, .bindOff]

/-! ### Values (R437) -/

/-- What a value comes to: the applied value and record flags, or an abort code. -/
abbrev Judged := Except Nat (Int × Nat)

/-- The range of PLENMAX. -/
def State.plenTop (s : State) (idx : Nat) : Int :=
  if s.ob idx 6 = 0 then 16384 * s.ob idx 3 - 1 else s.ob idx 6 - 1

/-- CTXMAX within its range. -/
def State.ctxFit (s : State) (idx : Nat) (v : Int) : Int := if v ≤ 0 then 0 else clampI 2 (16384 * s.ob idx 3) v

/-- The largest DIMZ beside DIMX and DIMY. -/
def State.dimzTop (s : State) : Int := min 16 (1024 / (max 1 (s.nat 0x2600 2) * max 1 (s.nat 0x2600 3)) : Nat)

/-- A hyperparameter as R253 clamps it. -/
def hyperFit (sub : Nat) (v : Nat) : Nat :=
  if sub = 5 then clampEps v else if sub = 3 ∨ sub = 4 then clampBeta v else clampRate v

/-- Is a value a multiple? A structural value otherwise. -/
def multipleOf (n : Nat) (v : Int) : Judged := if v % n = 0 then .ok (v, 0) else .error abValue

/-- A sequence number held within the bounds of the signatures. -/
def Flash.sigWithin (f : Flash) (v : Int) : Int := clampI ((f.sigSeq + 1 - f.sigs.length : Nat)) (f.sigSeq + 1 : Nat) v

/-- Is window `w` enabled, with which base and length? -/
def State.windowAt (s : State) (w : Nat) : Nat × Nat × Nat := (s.nat (0x2640 + w) 1, s.nat (0x2640 + w) 2, s.nat (0x2640 + w) 3)

/-- May window `w` have this kind, base and length (R401)? -/
def State.windowOk (s : State) (w kind base len : Nat) : Bool :=
  base % 64 == 0 && len % 64 == 0 && (kind != 2 || len % 17984 == 0) && (kind != 3 || len % 4480 == 0)
    && (kind == 0 || (decide (base + len ≤ hbmEnd)
      && (List.range 64).all (fun v =>
        let o := s.windowAt v
        v == w || o.1 == 0 || !spansMeet (base, base + len) (o.2.1, o.2.1 + o.2.2))))

/-- A value of a window entry. -/
def State.windowFit (s : State) (w sub : Nat) (v : Int) : Judged :=
  let o := s.windowAt w
  let a : Int := if sub = 1 ∧ 3 < v then 0 else v
  let n := a.toNat
  let ok := if sub = 1 then s.windowOk w n o.2.1 o.2.2
    else if sub = 2 then s.windowOk w o.1 n o.2.2
    else if sub = 3 then s.windowOk w o.1 o.2.1 n
    else true
  if ok then .ok (a, 0) else .error abValue

/-- The value of an entry with a rule of its own. -/
def State.ownFit (s : State) (idx sub : Nat) (v : Int) : Judged :=
  if idx = 0x2900 then .ok ((s.flash.log.within v.toNat : Nat), 0)
  else if idx = 0x2404 then .ok (s.flash.sigWithin v, 0)
  else if inIdx 0x2620 0x2631 idx then .ok (clampI 0 1 v, 0)
  else if inIdx 0x2640 0x267F idx then s.windowFit (idx - 0x2640) sub v
  else if idx = 0x2B10 then multipleOf 0x200000 v
  else if idx = 0x2B11 then multipleOf 0x40000000 v
  else if inIdx 0x2B20 0x2B2F idx ∧ sub = 6 then .ok (s.ctxFit idx v, 0)
  else if inIdx 0x2B20 0x2B2F idx ∧ sub = 7 then .ok (clampI 1 (s.plenTop idx) v, 0)
  else if idx = 0x2C01 then .ok ((hyperFit sub v.toNat : Nat), 0)
  else if inIdx 0x3000 0x3029 idx ∧ sub = 0x23 then .ok (clampI (s.ob idx 0x22 + 20) 700 v, 0)
  else .ok (v, 0)

/-- What a written value comes to (R437): clamped to its range, refused when it is enumerated and reserved, without its reserved
bits. -/
def State.fitValue (s : State) (e : ObjSpec) (idx sub : Nat) (v : Int) : Judged :=
  match e.rule with
  | .any => .ok (v, 0)
  | .range lo hi => .ok (clampI lo (if idx = 0x2600 ∧ sub = 4 then s.dimzTop else hi) v, 0)
  | .enum hi => if 0 ≤ v ∧ v ≤ hi then .ok (v, 0) else .error abValue
  | .zeroOr lo hi => .ok ((if v ≤ 0 then 0 else clampI lo hi v), 0)
  | .mask m => .ok ((v.toNat &&& m : Nat), if v.toNat &&& m = v.toNat then 0 else 2)
  | .own => s.ownFit idx sub v

/-! ### Dependent limits (R438) -/

/-- An entry is held in a limit that has changed: origin module, flag bit 3. -/
def State.depend (s : State) (idx sub : Nat) (a : Int) : State :=
  let v := s.ob idx sub
  if a = v then s else (s.setOb idx sub a).log .module 1 idx sub (logVal v) (logVal v) (logVal a) 8

/-- The entries whose limits follow the one written. -/
def State.dependents (s : State) (idx sub : Nat) : State :=
  if idx = 0x2600 ∧ (sub = 2 ∨ sub = 3) then s.depend 0x2600 4 (clampI 1 s.dimzTop (s.ob 0x2600 4))
  else if inIdx 0x2B20 0x2B2F idx ∧ (sub = 3 ∨ sub = 6) then
    let s := s.depend idx 6 (s.ctxFit idx (s.ob idx 6))
    s.depend idx 7 (clampI 1 (s.plenTop idx) (s.ob idx 7))
  else s

/-! ### What a write does beyond storing its value -/

/-- QUEUES: enabled pairs at or above it are disabled, each logged (R372). -/
def State.limitQueues (s : State) (n : Nat) : State :=
  ((List.range 64).filter (fun q => decide (n ≤ q) && (s.queue q).en)).foldl (fun s q =>
    (s.log .module 10 0x2B00 0 (0x2014 + 64 * q) 0 0).disableQueue q) s

/-- ENABLE: a port with its cable in trains from then on. -/
def State.enablePort (s : State) (p : Nat) (v : Int) : State :=
  if v = 1 ∧ s.portState p = 1 ∧ (s.port p).present then (s.portTo p 2).portEvent p 1 2 else s

/-- Carries out an applied value at an entry that is neither latched nor held for the boundary. -/
def State.applyWrite (s : State) (o : Origin) (idx sub : Nat) (v : Int) : State :=
  if idx = 0x2900 then { s with flash := { s.flash with log := s.flash.log.setCursor o v.toNat } }
  else if idx = 0x2404 then { s with flash := { s.flash with sigCursor := v.toNat } }
  else if inIdx 0x2620 0x2631 idx ∧ sub = 6 then s.quiescePort (idx - 0x2620) v.toNat false
  else
    let s := s.setOb idx sub v
    if idx = 0x2100 ∧ sub = 7 then { s with time := { s.time with ppsPending := true } }
    else if idx = 0x2100 ∧ sub ≠ 8 then { s with time := { s.time with srcDue := true } }
    else if inIdx 0x2620 0x2631 idx ∧ sub = 7 then s.enablePort (idx - 0x2620) v
    else if idx = 0x2B00 then s.limitQueues v.toNat
    else if idx = 0x2D00 ∧ s.dev = .castOn ∧ s.castStep = 8 then { s with start := { s.start with forceNew := decide (v = 1) } }
    else s.dependents idx sub

/-- May a QUIESCE be written: not when a group member would be cut off (R409), no cancel toward removal (R483)? -/
def State.quiesceOk (s : State) (idx sub : Nat) (v : Int) : Bool :=
  if inIdx 0x2620 0x2631 idx ∧ sub = 6 then
    let p := idx - 0x2620
    if v = 1 then s.portState p != 4 || s.groupReachable p
    else !(s.dev == .bindOff && decide (2 ≤ s.nat 0x2200 2))
  else true

/-- A judged value takes its way: latched, held for the boundary, or applied at once. -/
def State.storeWrite (s : State) (w : Write) (e : ObjSpec) (v a : Int) (flags : Nat) : Answer × State :=
  let old := s.loggedOld w
  let app := loggedValue e.typ.signed (e.typ.encode a)
  let clamped := decide (a ≠ v) && flags &&& 2 == 0
  let ans : Answer := { clamped := clamped, data := e.typ.encode a }
  let c := if clamped then 1 else 0
  if latchedEntry w.idx w.sub then (ans, (s.hold w.idx w.sub a false).logWrite w (2 + c) old app flags)
  else if boundaryEntry w.idx w.sub then (ans, (s.hold w.idx w.sub a true).logWrite w c old app flags)
  else if !s.quiesceOk w.idx w.sub a then
    let r := s.refuseWrite w abState
    (r.1, if a = 1 then r.2.showInUse (w.idx - 0x2620) else r.2)
  else (ans, (s.logWrite w c old app flags).applyWrite w.o w.idx w.sub a)

/-- A write to a numeric entry. -/
def State.writeNumber (s : State) (w : Write) (e : ObjSpec) : Answer × State :=
  if e.typ.size ≠ some w.data.length ∨ w.off ≠ 0 then s.refuseWrite w abLength
  else
    let v := e.typ.decode w.data
    match s.fitValue e w.idx w.sub v with
    | .error c => s.refuseWrite w c
    | .ok a => s.storeWrite w e v a.1 a.2

/-! ### The DOMAIN entries: suspect list and routes -/

/-- Is a swatch selector well formed (Table: Swatch selector)? -/
def selectorOk (b : Bytes) : Bool :=
  [1, 2, 3, 4, 5, 6, 7, 8, 13].contains (uAt b 0 1) && decide (1 ≤ uAt b 1 1) && decide (uAt b 1 1 ≤ 8)
    && (decide (uAt b 2 2 < 42) || uAt b 2 2 == 0xFFFF) && (decide (uAt b 4 1 < 8) || uAt b 4 1 == 0xFF)
    && (decide (uAt b 5 1 < 7) || uAt b 5 1 == 0xFF) && allZero (slice b 11 5)

/-- A selector with REPEAT held within 1 to 16. -/
def selectorFit (b : Bytes) : Bytes := patch b 10 (le 1 (clampN 1 16 (uAt b 10 1)))

/-- The list's selectors. -/
def selectorsOf (b : Bytes) : List Bytes := cut 16 (b.length / 16) b

/-- A write of LIST replaces the whole list (R363): a longer one is cut after 256 selectors, and the counts are logged. -/
def State.writeList (s : State) (w : Write) : Answer × State :=
  let all := selectorsOf w.data
  if w.off ≠ 0 ∨ maxTransfer < w.data.length then s.refuseWrite w abLength
  else if w.data.length % 16 ≠ 0 ∨ !all.all selectorOk then s.refuseWrite w abValue
  else
    let new := (all.take 256).map selectorFit
    let clamped := new.flatten != w.data
    let old := s.loggedOld w
    let s := { s with flash := { s.flash with suspectList := new.flatten }, map := { s.map with nextSel := [] } }
    let s := s.logWrite w (if clamped then 1 else 0) old (logDigest new.flatten, 1)
    let s := if all.length ≤ 256 then s else s.log w.o 1 0x2405 1 0 all.length 256
    ({ clamped := clamped }, s)

/-- ROUTES as bytes come to the table: the reserved byte of an entry is ignored. -/
def routeTab (b : Bytes) : Tab Nat :=
  (List.range 1024).filterMap (fun m => if uAt b (4 * m) 3 = 0 then none else some (m, uAt b (4 * m) 3))

/-- Is some reserved byte of the routes set? -/
def routeReserved (b : Bytes) : Bool := (List.range 1024).any (fun m => uAt b (4 * m + 3) 1 != 0)

/-- The bytes of a route table. -/
def routeTabBytes (t : Tab Nat) : Bytes := (List.range 1024).flatMap (fun m => le 4 (Tab.getD t m 0))

/-- A write of ROUTES, in parts or whole: it waits for a row boundary. -/
def State.writeRoutes (s : State) (w : Write) : Answer × State :=
  if 4096 < w.off + w.data.length then s.refuseWrite w abLength
  else
    let new := patch (routeTabBytes (s.naela.routesNext.getD s.naela.routes)) w.off w.data
    let old := s.loggedOld w
    let s := { s with naela := { s.naela with routesNext := some (routeTab new) } }
    ({}, s.logWrite w 0 old (logDigest (routeTabBytes (routeTab new)), 1) (if routeReserved new then 2 else 0))

/-! ### The whole write -/

/-- An entry beyond the checks that every write passes. -/
def State.writeEntry (s : State) (w : Write) (e : ObjSpec) : Answer × State :=
  if w.idx = 0x2A20 ∧ w.sub = 1 then s.presentToken w
  else if w.idx = 0x2A20 then s.closeToken w
  else if w.idx = 0x2302 then s.removeDefect w
  else if w.idx = 0x2405 then s.writeList w
  else if w.idx = 0x2600 ∧ w.sub = 5 then s.writeRoutes w
  else if w.idx = 0x2801 then s.fwCommand w
  else if w.idx = 0x2810 then s.writeSysfl w
  else if w.idx = 0x2820 then s.writeImage w
  else if w.idx = 0x2830 then s.keyRecord w
  else s.writeNumber w e

/-- The bit of KEYS that enables a panel entry. -/
def panelKey (idx : Nat) : Nat := if idx = 0x2201 then 1 else 2

/-- Is the write's control disabled by KEYS (R419, R435, R482)? -/
def State.keyOff (s : State) (w : Write) : Bool :=
  (w.o == .usb && !bit (s.nat 0x2A00 1) 3) || (w.o == .panel && !bit (s.nat 0x2A00 1) (panelKey w.idx))

/-- An entry of a port or of the update engines that the variant lacks (R3); the engines' defaults stay (R254). -/
def State.absentEntry (s : State) (idx : Nat) : Bool :=
  (inIdx 0x2620 0x2631 idx && decide (s.portCount ≤ idx - 0x2620)) || (idx == 0x2C02 && s.engineCount == 0)

/-- Does the recovery console carry out a write (R453)? -/
def State.recoveryRefuses (s : State) (w : Write) : Bool := s.start.recovery && !recoveryService w.idx w.sub

/-- A write to an entry that exists. -/
def State.writeAt (s : State) (w : Write) (e : ObjSpec) : Answer × State :=
  if s.keyOff w then s.refuseWrite w abKeys
  else if s.recoveryRefuses w then s.refuseWrite w abReadOnly
  else if s.absentEntry w.idx then s.refuseWrite w abAbsent
  else if e.acc = .ro then s.refuseWrite w abReadOnly
  else if !s.mayWrite w.o w.idx w.sub then s.refuseWrite w abOrigin
  else if w.idx = 0x2201 then s.command w
  else if !s.writeState w.idx w.sub then s.refuseWrite w abState
  else if e.typ != .domain && w.off != 0 then s.refuseWrite w abLength
  else s.writeEntry w e

/-- A dictionary write. With the log's buffer near full it is refused, counted and not logged (R445). -/
def State.write (s : State) (w : Write) : Answer × State :=
  if !s.answersAt w.o w.idx w.sub then (.unheard, s)
  else if 3840 ≤ s.flash.log.buffered then ({ abort := abToken }, s.addOb 0x2900 7 1)
  else match Objects.find w.idx w.sub with
    | some e => s.writeAt w e
    | none => s.refuseWrite w (if (Objects.atIndex w.idx).isEmpty then abIndex else abSub)

end Sys2Proof.Machine
end

