-- ==== Sys2Proof/Machine/Dictionary.lean ====
section
/-!
DEFINITION. The dictionary's commands: accesses over BAR2, CAN and the USB console, the state commands, the entries with a command
of their own, the CAN services (R327, R362, R363, R409, R415 to R420, R427, R430 to R437, R445, R446, R449, R461 to R470, R480).
-/
namespace Sys2Proof.Machine

/-! ### Console text (R480) -/

/-- An upper-case hexadecimal digit. -/
def hexDigit (v : Nat) : Byte := BitVec.ofNat 8 (if v % 16 < 10 then 48 + v % 16 else 55 + v % 16)

/-- `n` hexadecimal digits of a number, most significant first. -/
def hexDigits : Nat → Nat → Bytes
  | 0, _ => []
  | n + 1, v => hexDigits n (v / 16) ++ [hexDigit v]

/-- Digits in groups of four from the right, parted by an underscore. -/
def grouped4 : Bytes → Bytes
  | [] => []
  | d :: r => if r.length % 4 = 0 ∧ r ≠ [] then d :: 0x5F :: grouped4 r else d :: grouped4 r

/-- A value of `n` bytes as the console writes it. -/
def hexValue (n v : Nat) : Bytes := ascii "0x" ++ grouped4 (hexDigits (2 * n) v)

/-- Bytes as pairs of digits. -/
def hexBytes (b : Bytes) : Bytes := b.flatMap (fun x => hexDigits 2 x.toNat)

/-- The console's line for a value: a number by its size, a string as text, octets as hex bytes. -/
def consoleValue (t : OType) (b : Bytes) : Bytes :=
  match t with
  | .str => b
  | .oct _ => hexBytes b
  | .domain => hexBytes b
  | _ => hexValue b.length (ofLe b)

/-- The console's line for a refusal. -/
def consoleErr (abort : Nat) : Bytes := ascii "ERR " ++ hexValue 4 abort

/-- The console's line for a write. -/
def consoleWritten (t : OType) (a : Answer) : Bytes :=
  if a.abort ≠ 0 then consoleErr a.abort
  else if a.clamped then ascii "OK CLAMPED " ++ consoleValue t a.data
  else ascii "OK"

/-- The console's line for a read. -/
def consoleRead1 (t : OType) (a : Answer) : Bytes :=
  if a.abort ≠ 0 then consoleErr a.abort
  else ascii "OK " ++ consoleValue t a.data ++ (if a.more then ascii " MORE" else [])

/-- The type of an entry; one that does not exist is shown as a DOMAIN. -/
def typeAt (idx sub : Nat) : OType :=
  match Objects.find idx sub with
  | some e => e.typ
  | none => .domain

/-! ### Answers by origin -/

/-- REQUEST of an access over BAR2 (Table: REQUEST). -/
def requestWord (op idx sub : Nat) : Nat := idx % 65536 * 2 ^ 32 + sub % 256 * 2 ^ 24 + op * 2 ^ 20

/-- What BAR2 shows of a finished request: STATUS, DONELEN, the data buffer (R417, R418). -/
def Bar2.finish (b : Bar2) (a : Answer) (doneLen : Nat) (buf : Bytes) : Bar2 :=
  { b with busy := false, done := true, clamped := a.clamped, more := a.more, abort := a.abort
           doneLen := if a.abort = 0 then doneLen else 0, buf := buf }

/-- The bytes of the buffer with data from its start. -/
def Bar2.place (b : Bar2) (d : Bytes) : Bytes := d ++ b.buf.drop d.length

/-- The answer to a write goes to its origin. -/
def State.answerWrite (r : Answer × State) (w : Write) : State :=
  if !r.1.heard then r.2
  else match w.o with
    | .can => r.2.emit (.usdo r.1.abort [])
    | .cxl =>
      let b := r.2.bar2
      { r.2 with bar2 := { b with req := requestWord 2 w.idx w.sub, off := w.off, len := w.data.length }.finish r.1 w.data.length
                           (b.place w.data) }
    | .usb => r.2.emit (.usb (consoleWritten (typeAt w.idx w.sub) r.1))
    | _ => r.2

/-- The answer to a read goes to its origin. -/
def State.answerRead (r : Answer × State) (o : Origin) (idx sub off len : Nat) : State :=
  if !r.1.heard then r.2
  else match o with
    | .can => r.2.emit (.usdo r.1.abort r.1.data)
    | .cxl =>
      let b := r.2.bar2
      { r.2 with bar2 := { b with req := requestWord 1 idx sub, off := off, len := len }.finish r.1 r.1.data.length (b.place r.1.data) }
    | .usb => r.2.emit (.usb (consoleRead1 (typeAt idx sub) r.1))
    | _ => r.2

/-- A write from an origin, with its answer. -/
def State.writeFrom (s : State) (w : Write) : State := State.answerWrite (s.write w) w

/-- A read from an origin, with its answer. -/
def State.readFrom (s : State) (o : Origin) (idx sub off len : Nat) : State :=
  State.answerRead (s.read o idx sub off len) o idx sub off len

/-- A command that writes an entry. -/
def State.writes (s : State) (w : Write) : Result := s.whenOn (fun s => s.writeFrom w)

/-! ### BAR2, CAN (R415, R417, R418) -/

/-- A write whose length or type does not match the entry; near a full log it is not logged. -/
def State.refuseLength (s : State) (w : Write) : Answer × State :=
  if 3840 ≤ s.flash.log.buffered then s.write w else s.refuseWrite w abLength

/-- The status mirror of BAR2, 48 bytes (Table: Status mirror). -/
def State.mirror (s : State) : Bytes :=
  le 8 s.now ++ le 8 s.row.num ++ le 1 (stateCode s.dev) ++ le 1 (s.nat 0x2200 2) ++ zeros 6 ++ le 8 s.flash.log.seq
    ++ le 8 s.flash.sigSeq ++ le 8 s.flash.bundleSeq

/-- STATUS of BAR2 (Table: STATUS). -/
def Bar2.status (b : Bar2) : Nat :=
  b.abort % 2 ^ 32 + (if b.more then 2 ^ 60 else 0) + (if b.clamped then 2 ^ 61 else 0) + (if b.done then 2 ^ 62 else 0)
    + (if b.busy then 2 ^ 63 else 0)

/-- The byte that a read of BAR2 answers (Table: BAR2 map); 0 at an unlisted offset, as at SUBMIT. -/
def State.bar2Byte (s : State) (off : Nat) : Byte :=
  let b := s.bar2
  if off < 0x30 then
    (le 8 ([b.req, b.off, b.len, 0, b.status, b.doneLen].getD (off / 8) 0)).getD (off % 8) 0
  else if 0x100 ≤ off ∧ off < 0x130 then s.mirror.getD (off - 0x100) 0
  else if 0x1000 ≤ off ∧ off < 0x100000 then b.buf.getD (off - 0x1000) 0
  else 0

/-- SUBMIT with OP 1. -/
def execBar2Read (idx sub off len : Nat) (s : State) : Result := s.whenOn (fun s => s.readFrom .cxl idx sub off len)

/-- SUBMIT with OP 2: the value is the first LENGTH bytes of the buffer, where the host has placed `data`. -/
def State.bar2Submit (s : State) (idx sub off len : Nat) (data : Bytes) : State :=
  if !s.answersAt .cxl idx sub then s
  else
    let s := { s with bar2 := { s.bar2 with buf := s.bar2.place (data.take maxTransfer) } }
    let w : Write := { o := .cxl, idx := idx, sub := sub, off := off, data := [] }
    if maxTransfer < len then
      let r := s.refuseLength w
      { r.2 with bar2 := { r.2.bar2 with req := requestWord 2 idx sub, off := off, len := len }.finish r.1 0 r.2.bar2.buf }
    else s.writeFrom { w with data := fit len s.bar2.buf }

def execBar2Write (idx sub off len : Nat) (data : Bytes) (s : State) : Result :=
  s.whenOn (fun s => s.bar2Submit idx sub off len data)

/-- A USDO transfer ends: a read, or a write judged at its completion (R436). -/
def execUsdoTransfer (isWrite : Bool) (idx sub : Nat) (data : Bytes) (s : State) : Result :=
  s.whenOn (fun s =>
    if isWrite then s.writeFrom { o := .can, idx := idx, sub := sub, data := data }
    else s.readFrom .can idx sub 0 maxTransfer)

def execObjectWrite (o : Origin) (idx sub : Nat) (data : Bytes) (s : State) : Result :=
  s.writes { o := o, idx := idx, sub := sub, data := data }

/-! ### NMT, heartbeat, status frame (R415, R416) -/

/-- Does the CAN interface run? -/
def State.canUp (s : State) : Bool := s.serves && s.start.nmtUp && s.start.nodeId != 0

/-- A NMT command is logged: REQUESTED is its specifier. -/
def State.logNmt (s : State) (code : Nat) : State := s.log .can 10 0x1017 0 0 code 0

/-- Stop and Enter Pre-operational change nothing. -/
def execNmtStop (preOperational : Bool) (s : State) : Result :=
  s.whenOn (fun s => if s.canUp then s.logNmt (if preOperational then 128 else 2) else s)

/-- Reset Node and Reset Communication restart the CAN interface, which is Operational again. -/
def execNmtReset (node : Bool) (s : State) : Result :=
  s.whenOn (fun s => if s.canUp then s.logNmt (if node then 129 else 130) else s)

/-- The 16 bytes of Table: Status frame. -/
def State.statusBytes (s : State) : Bytes :=
  le 1 (stateCode s.dev) ++ le 1 (s.nat 0x2200 2) ++ le 2 (s.nat 0x2200 3) ++ le 6 s.row.num ++ le 1 (s.nat 0x2D00 2)
    ++ le 1 (flag s.start.sigSince 0 + flag s.start.logSince 1 + flag s.panel.held 2) ++ le 4 s.flash.log.seq

/-- Sends a status frame; what it reported as new is new no longer. -/
def State.sendStatus (s : State) : State :=
  let s := s.emit (.can (0x680 + s.start.nodeId) s.statusBytes)
  { s with
    start := { s.start with statusDue := false, sigSince := false, logSince := false }
    panel := { s.panel with held := false } }

/-- The heartbeat timer expires: the heartbeat of a node that is Operational, and the status frame with it. -/
def execCanHeartbeat (s : State) : Result :=
  s.whenOn (fun s =>
    if s.canUp && s.nat 0x1017 0 != 0 then
      let s := s.emit (.can (0x700 + s.start.nodeId) [0x05])
      if s.nat 0x2200 4 = 1 then s.sendStatus else s
    else s)

/-- A status frame that a change of STATE or SUBSTATE made due. -/
def execStatusFrame (s : State) : Result :=
  s.whenOn (fun s => if s.canUp && s.start.statusDue && s.nat 0x2200 4 == 1 then s.sendStatus else s)

/-! ### State commands (R430) -/

/-- A write of a command code. -/
def commandWrite (o : Origin) (code : Nat) : Write := { o := o, idx := 0x2201, sub := 1, data := le 1 code }

def execRun (o : Origin) (s : State) : Result := s.writes (commandWrite o cmdRun)
def execHold (o : Origin) (s : State) : Result := s.writes (commandWrite o cmdHold)
def execBindReady (o : Origin) (s : State) : Result := s.writes (commandWrite o cmdBindReady)
def execBindRemove (o : Origin) (s : State) : Result := s.writes (commandWrite o cmdBindRemove)
def execRestart (o : Origin) (s : State) : Result := s.writes (commandWrite o cmdRestart)

/-! ### Tokens and the defect list (R327, R436) -/

def execServiceToken (o : Origin) (r : Bytes) (s : State) : Result := s.writes { o := o, idx := 0x2A20, sub := 1, data := r }
def execTokenLapse (o : Origin) (s : State) : Result := s.whenOn (fun s => s.lapseToken o)
def execClose (o : Origin) (s : State) : Result := s.writes { o := o, idx := 0x2A20, sub := 4, data := zeros 4 }
def execRemove (o : Origin) (entry : Nat) (s : State) : Result := s.writes { o := o, idx := 0x2302, sub := 1, data := le 2 entry }

/-! ### Suspect list, PPSSET, QUIESCE -/

def execSuspectListWrite (o : Origin) (data : Bytes) (s : State) : Result := s.writes { o := o, idx := 0x2405, sub := 1, data := data }
def execPpssetWrite (o : Origin) (v : Nat) (s : State) : Result := s.writes { o := o, idx := 0x2100, sub := 7, data := le 8 v }

def execQuiesce (o : Origin) (p v : Nat) (s : State) : Result :=
  s.unit "port" p (decide (p < 18)) (fun s => s.writeFrom { o := o, idx := 0x2620 + p, sub := 6, data := le 4 v })

/-! ### Streams and the log's flush (R362, R445, R446) -/

def execLogStreamRead (o : Origin) (maxBytes : Nat) (s : State) : Result := s.whenOn (fun s => s.readFrom o 0x2900 1 0 maxBytes)
def execSignatureStreamRead (o : Origin) (maxBytes : Nat) (s : State) : Result := s.whenOn (fun s => s.readFrom o 0x2404 1 0 maxBytes)

/-- The buffered records reach flash and mirror. -/
def execChangeLogFlush (s : State) : Result := s.whenOn State.flushLog

/-! ### Firmware and keys -/

/-- A write of an FWCMD code. -/
def fwWrite (o : Origin) (code : Nat) : Write := { o := o, idx := 0x2801, sub := 1, data := le 1 code }

def execVerify (o : Origin) (s : State) : Result := s.writes (fwWrite o 1)
def execActivate (o : Origin) (s : State) : Result := s.writes (fwWrite o 2)
def execRollback (o : Origin) (s : State) : Result := s.writes (fwWrite o 3)
def execCommit (o : Origin) (s : State) : Result := s.writes (fwWrite o 4)

def execImageWrite (o : Origin) (off : Nat) (data : Bytes) (s : State) : Result :=
  s.writes { o := o, idx := 0x2820, sub := 1, off := off, data := data }

def execKeySlotProgram (o : Origin) (r : Bytes) (s : State) : Result := s.writes { o := o, idx := 0x2830, sub := 2, data := r }
def execKeySlotRevoke (o : Origin) (r : Bytes) (s : State) : Result := s.writes { o := o, idx := 0x2830, sub := 2, data := r }
def execSysflWrite (o : Origin) (v : Nat) (s : State) : Result := s.writes { o := o, idx := 0x2810, sub := 1, data := le 4 v }

/-! ### The console's commands (R419, R480) -/

/-- Does the console answer a line? -/
def State.console (s : State) (f : State → State) : Result := s.whenOn (fun s => if s.answers .usb then f s else s)

/-- A reply line. -/
def State.say (s : State) (line : Bytes) : State := s.emit (.usb line)

/-- `r IDX:SUB`: an object that is not a DOMAIN. -/
def execConsoleRead (idx sub : Nat) (s : State) : Result :=
  s.console (fun s =>
    if (Objects.find idx sub).any (fun e => e.typ == .domain) then s.say (consoleErr abLength)
    else s.readFrom .usb idx sub 0 maxTransfer)

/-- `rd IDX:SUB OFF LEN`: up to 2,048 B of a DOMAIN. -/
def execConsoleReadDomain (idx sub off len : Nat) (s : State) : Result :=
  s.console (fun s =>
    if (Objects.find idx sub).any (fun e => e.typ != .domain) then s.say (consoleErr abLength)
    else s.readFrom .usb idx sub off (min len 2048))

/-- The bytes of a console value for an entry: as many as the entry holds, more when the value needs more. -/
def consoleBytes (idx sub v : Nat) : Bytes :=
  let n := ((Objects.find idx sub).bind (·.typ.size)).getD 8
  if v < 2 ^ (8 * n) then le n v else le (n + 8) v

/-- `w IDX:SUB VALUE`: an object that is not a DOMAIN. A value for a DOMAIN has a length that does not match it. -/
def execConsoleWrite (idx sub v : Nat) (s : State) : Result :=
  s.console (fun s =>
    let w : Write := { o := .usb, idx := idx, sub := sub, data := consoleBytes idx sub v }
    if typeAt idx sub = .domain ∧ (Objects.find idx sub).isSome ∧ !s.keyOff w ∧ s.mayWrite .usb idx sub then
      State.answerWrite (s.refuseLength w) w
    else s.writeFrom w)

/-- `wd IDX:SUB OFF HEX`: up to 4,096 B of a DOMAIN; a longer line matches no command. -/
def execConsoleWriteDomain (idx sub off : Nat) (data : Bytes) (s : State) : Result :=
  s.console (fun s =>
    if 4096 < data.length then s.say (ascii "ERR SYNTAX")
    else
      let w : Write := { o := .usb, idx := idx, sub := sub, off := off, data := data }
      if (Objects.find idx sub).any (fun e => e.typ != .domain) ∧ !s.keyOff w ∧ s.mayWrite .usb idx sub then
        State.answerWrite (s.refuseLength w) w
      else s.writeFrom w)

/-- `remove`: BIND_REMOVE. -/
def execConsoleRemove (s : State) : Result := s.console (fun s => s.writeFrom (commandWrite .usb cmdBindRemove))

/-- `log`: up to 32 records from the console's CURSOR. -/
def execConsoleLog (s : State) : Result := s.console (fun s => s.readFrom .usb 0x2900 1 0 2048)

/-- `help`: the commands, then OK. -/
def execConsoleHelp (s : State) : Result :=
  s.console (fun s =>
    (["r IDX:SUB", "rd IDX:SUB OFF LEN", "w IDX:SUB VALUE", "wd IDX:SUB OFF HEX", "remove", "log", "help", "OK"]).foldl
      (fun s t => s.say (ascii t)) s)

end Sys2Proof.Machine
end

