-- ==== Sys2Proof/Machine/FrontEnd.lean ====
section
/-!
DEFINITION. The commands of the front end and of cast-on (R18, R21, R23, R286, R287, R321, R333).
-/
namespace Sys2Proof.Machine

/-! ### The front end -/

/-- The input has stood in range: precharge, and VIN shows what was measured (R286, R287). -/
def State.prechargeAt (s : State) (vinMv : Int) : State := s.precharge.setOb 0x2020 1 vinMv

/-- HS_EN is asserted with the module seated (R22): the input is taken to stand in range for the 100 ms of R286 when
`vinMv` is. -/
def execHsEnAssert (vinMv : Int) (s : State) : Result :=
  let s := s.modFe (fun f => { f with hsEn := true, seatOpen := false })
  .next (if s.fe.fe = .off ∧ 38000 ≤ vinMv ∧ vinMv ≤ 46000 ∧ s.fe.offUs = 0 then s.prechargeAt vinMv else s)

/-- Precharge completes: the front end conducts and cast-on starts at step 1 (R286). -/
def execFrontEndOn (s : State) : Result :=
  .next (if s.fe.fe = .precharge then s.beginStart else s)

/-- HS_EN is deasserted: the front end turns off, and all that is not in flash is lost (R21). -/
def execHsEnDeassert (s : State) : Result :=
  .next ((s.powerOff true).modFe (fun f => { f with hsEn := false, offHold := false, offUs := 0 }))

/-- SEAT_SENSE opens (R23): a pull while the front end is on is latched. -/
def execSeatSenseOpen (s : State) : Result :=
  .next ((if s.on then (s.powerOff true).modFe (fun f => { f with removalLatch := true })
    else s.modFe (fun f => { f with fe := .off })).modFe (fun f => { f with seatOpen := true }))

/-- An input fault (R287): the front end turns off and stays off until the conditions of R286 hold again. -/
def State.inputFault (s : State) : State :=
  (s.powerOff true).modFe (fun f => { f with inputFault := true })

/-- The counters of the input responses after one more measurement (R287). -/
def FrontEnd.measure (f : FrontEnd) (vinMv : Int) (deciA : Nat) : FrontEnd :=
  { f with
    over460Us := if 4600 < deciA then f.over460Us + 1 else 0
    below35Us := if vinMv < 35000 then f.below35Us + 1 else 0
    lowUs := if 35000 ≤ vinMv ∧ vinMv < 38000 then f.lowUs + 1 else 0
    highUs := if 46000 < vinMv ∧ vinMv ≤ 50000 then f.highUs + 1 else 0
    over50Us := if 50000 < vinMv then f.over50Us + 1 else 0 }

/-- Does the front end turn off (Table: Input responses)? -/
def FrontEnd.trips (f : FrontEnd) (deciA : Nat) : Bool :=
  decide (20 ≤ f.over460Us) || decide (5200 < deciA) || decide (50 ≤ f.below35Us) || decide (10 ≤ f.over50Us)

/-- A logged warning of the input at the moment its time is reached: the entry is VIN. -/
def State.vinWarning (s : State) (vinMv : Int) : State :=
  if s.serves then s.logEvent .module 0x2020 1 (logVal vinMv) (logVal vinMv) else s

/-- A measurement while the front end is on. -/
def State.measureOn (s : State) (vinMv : Int) (iA iB : Nat) : State :=
  let s := s.modFe (fun f => f.measure vinMv (iA + iB))
  if s.fe.trips (iA + iB) then s.inputFault
  else
    let pin := vinMv.toNat * (iA + iB) / 10000
    let avg := (pin :: s.power.pavg).take 100
    let s := { s with power := { s.power with
      pavg := avg
      limCurrent := some (vinMv.toNat * 440 / 1000)
      overCurrent := decide (4400 < iA + iB) } }
    let s := (((s.setOb 0x2020 1 vinMv).setOb 0x2020 2 iA).setOb 0x2020 3 iB).setOb 0x2020 4 pin
    let s := s.setOb 0x2020 5 ((avg.foldl (· + ·) 0 / avg.length : Nat))
    let s := if s.fe.lowUs = 1000 ∨ s.fe.highUs = 1000 then s.vinWarning vinMv else s
    s.applyCap

/-- A measurement while the front end is off: 100 ms in range lead to precharge, once an off time has passed (R286). -/
def State.measureOff (s : State) (vinMv : Int) : State :=
  let inRange := decide (38000 ≤ vinMv) && decide (vinMv ≤ 46000)
  let s := s.modFe (fun f => { f with
    offUs := f.offUs - 1
    inRangeUs := if inRange then min (f.inRangeUs + 1) 100000 else 0 })
  if s.fe.inRangeUs = 100000 ∧ s.fe.offUs = 0 then s.prechargeAt vinMv else s

/-- One 1 µs measurement of the input: mV, and 0.1 A of the blade pairs A and B (R286, R287). -/
def execInputMeasurement (vinMv : Int) (iA iB : Nat) (s : State) : Result :=
  .next (match s.fe.fe with
    | .on => s.measureOn vinMv iA iB
    | .precharge =>
      if 38000 ≤ vinMv ∧ vinMv ≤ 46000 then s.setOb 0x2020 1 vinMv else s.modFe (fun f => { f with fe := .off, inRangeUs := 0 })
    | .off => s.measureOff vinMv)

/-- One blade pair carries nothing for 10 ms while the other carries over 20 A: the cap is limited to 9.0 kW until the
next cast-on (R18). -/
def execBladePairFault (pairB : Bool) (otherDeciA : Nat) (s : State) : Result :=
  s.whenOn (fun s =>
    if 200 < otherDeciA then
      ({ s with power := { s.power with bladeFault := some pairB } }).applyCap
    else s)

/-- The bus falls below 34.0 V: every slope ceiling goes to 16/64 and the sag is counted (R286). -/
def execBusSag (s : State) : Result :=
  s.whenOn (fun s => if s.power.sag then s else ({ s with power := { s.power with sag := true } }).addOb 0x2020 6 1)

/-- The bus is back above 37.0 V (R286). -/
def execBusSagRecover (s : State) : Result :=
  s.whenOn (fun s => { s with power := { s.power with sag := false } })

/-! ### Cast-on -/

/-- A cast-on step ends (R321); one that ran past its limit has hung. -/
def execCastOnStep (r : StepReport) (s : State) : Result :=
  s.whenOn (fun s =>
    if s.dev = .castOn ∧ 1 ≤ s.castStep ∧ s.castStep ≤ 12 then
      if s.stepLimitUs < r.durUs then s.hangStep r.blamed else s.endStep r
    else s)

/-- A cast-on step exceeds its limit (R321, R333). -/
def execCastOnStepHang (blamed : Option Defect) (s : State) : Result :=
  s.whenOn (fun s => if s.dev = .castOn ∧ 1 ≤ s.castStep ∧ s.castStep ≤ 12 then s.hangStep blamed else s)

/-- No journal record for 300 s, watched from step 3 of cast-on onward: the front end turns off for 2 s (R333). -/
def execJournalWatchdog (s : State) : Result :=
  s.whenOn (fun s => if s.dev = .castOn ∧ 3 ≤ s.castStep then s.offFor2s else s)

end Sys2Proof.Machine
end

