-- ==== Sys2Proof/Machine/Loose.lean ====
section
/-!
DEFINITION. Loose traffic of rows: remote reads and writes, merge tables, responses (R84, R134, R135, R137 to R141, R152, R153,
R352).
-/
namespace Sys2Proof.Machine

/-- The structural fault of an access laid to cell (x, y). -/
def State.addressFault (s : State) (x y : Nat) : State := s.raiseFault x y .address

/-- Does a range of a cell's window meet the cell's program area or its constant area (R103, R137)? -/
def State.meetsAreas (s : State) (x y off n : Nat) : Bool :=
  match s.cellEntry x y with
  | none => false
  | some e =>
    let hit (b l : Nat) : Bool := decide (off < b + l) && decide (b < off + n)
    hit e.progOff (32 * e.progLen) || (e.constLen != 0 && hit e.constOff e.constLen)

/-- A request of a cell leaves, and is outstanding. -/
def State.asked (s : State) (x y : Nat) (p : Packet) : State :=
  (s.setCell x y { s.cell x y with loose := (s.cell x y).loose + 1 }).sendPackets [p]

/-- The lookup of one line in the merge table of cell (x, y) for requester `r`: the first READ opens an entry, whose response leaves
once its data is ready; a hit before then joins it; a later one is held, to leave with others; with 32 entries open a READ is answered
unmerged and counted (R138, R140, R141). -/
def State.lookup (s : State) (x y line : Nat) (r : Nat × Nat) : State :=
  let c := s.cell x y
  if c.merge.any (fun e => e.line == line) then
    s.setCell x y { c with merge := c.merge.map (fun e =>
      if e.line = line then { e with held := e.held ++ [r], holding := !e.opening } else e) }
  else if c.merge.length < 32 then
    s.setCell x y { c with merge := c.merge ++ [{ line := line, held := [r], opening := true }] }
  else (s.setCell x y { c with mergeOvf := c.mergeOvf + 1 }).sendPackets (multicast (x, y) [r] (s.scratch x y line 64))

/-- A READ of `n` lines at an address by cell (rx, ry). -/
def State.looseRead (s : State) (rx ry a n : Nat) : State :=
  match cellAt a with
  | some k =>
    let x := k % 48
    let y := k / 48
    let off := a % 0x1000000
    if !s.cellPlaced k then s.addressFault rx ry
    else if reachEnd < off + 64 * n || s.meetsAreas x y off (64 * n) then s.addressFault x y
    else (List.range n).foldl (fun s i => s.lookup x y (off + 64 * i) (rx, ry)) (s.asked rx ry (meshPacket 0 (rx, ry) [(x, y)] []))
  | none =>
    match s.readHbm a (64 * n) with
    | .error e => s.stop rx ry e
    | .ok b => (s.asked rx ry (s.hbmPacket 0 rx ry a [])).sendPackets [s.hbmPacket 1 rx ry a b]

/-- Can a cell send a loose request: it runs its row program's traffic, with fewer than 16 outstanding (R135)? -/
def State.canAsk (s : State) (rx ry : Nat) : Bool := s.cellRuns rx ry && decide ((s.cell rx ry).loose < 16)

def execLooseRead (rx ry addr lines : Nat) (s : State) : Result :=
  s.unit "cell" (cellNo rx ry) (isCell rx ry) (fun s =>
    if s.canAsk rx ry ∧ 1 ≤ lines ∧ lines ≤ 16 then s.looseRead rx ry (addr / 64 * 64) lines else s)

/-- A WRITE of whole lines at an address by cell (rx, ry). -/
def State.looseWrite (s : State) (rx ry a : Nat) (data : Bytes) : State :=
  match cellAt a with
  | some k =>
    let x := k % 48
    let y := k / 48
    if !s.cellPlaced k then s.addressFault rx ry
    else match s.writeCell x y (a % 0x1000000) data with
      | .error e => s.stop x y e
      | .ok s => (s.asked rx ry (meshPacket 0 (rx, ry) [(x, y)] data)).sendPackets [meshPacket 1 (x, y) [(rx, ry)] []]
  | none =>
    match s.writeHbm a data with
    | .error e => s.stop rx ry e
    | .ok s => (s.asked rx ry (s.hbmPacket 0 rx ry a data)).sendPackets [s.hbmPacket 1 rx ry a []]

def execLooseWrite (rx ry addr : Nat) (data : Bytes) (s : State) : Result :=
  s.unit "cell" (cellNo rx ry) (isCell rx ry) (fun s =>
    if s.canAsk rx ry ∧ data.length % 64 = 0 ∧ 64 ≤ data.length ∧ data.length ≤ 1024 then
      s.looseWrite rx ry (addr / 64 * 64) data
    else s)

/-- A response, or the acknowledgement of a write, arrives at the requester. -/
def execLooseResponse (rx ry : Nat) (s : State) : Result :=
  s.unit "cell" (cellNo rx ry) (isCell rx ry) (fun s =>
    if s.rowRuns ∧ 0 < (s.cell rx ry).loose then
      (s.setCell rx ry { s.cell rx ry with loose := (s.cell rx ry).loose - 1 }).tryEnd rx ry
    else s)

/-- The held responses of a line leave, in multicast packets of up to 8 destinations (R140). -/
def State.release (s : State) (x y line : Nat) : State :=
  let c := s.cell x y
  let held := (c.merge.filter (fun e => e.line == line)).flatMap (·.held)
  (s.setCell x y { c with merge := c.merge.map (fun e =>
    if e.line = line then { e with held := [], holding := false, opening := false } else e) }).sendPackets
    (multicast (x, y) held (s.scratch x y line 64))

/-- The responses of opening reads whose data is ready leave, with the hits that joined them: 7 cycles after the lookup, within a tick
(R140). -/
def State.openingsLeave (s : State) : State :=
  s.cells.foldl (fun s e => (e.2.merge.filter (·.opening)).foldl (fun s m => s.release (e.1 % 48) (e.1 / 48) m.line) s) s

/-- 8 cycles after a hit that found no response pending was looked up. -/
def execMergeHoldExpire (x y line : Nat) (s : State) : Result :=
  s.unit "cell" (cellNo x y) (isCell x y) (fun s => s.release x y line)

/-- 64 cycles after an entry's lookup: it closes. -/
def execMergeEntryExpire (x y line : Nat) (s : State) : Result :=
  s.unit "cell" (cellNo x y) (isCell x y) (fun s => s.closeMerge x y [line])

end Sys2Proof.Machine
end

