-- ==== Sys2Proof/Machine/Panel.lean ====
section
/-!
DEFINITION. The front panel: release button, cage pads, attention key, lights, timed messages (R435, R472 to R483).
-/
namespace Sys2Proof.Machine

/-! ### Lights (R474, R476, R472) -/

/-- How an LED shows: off, solid, or blinking at a rate in 0.1 Hz. -/
inductive Light where
  | off | solid | blink (deciHz : Nat)
deriving DecidableEq, Repr, Inhabited

/-- The lights of a cage: green, amber, blue (Table: Cage indicators). A refused quiesce blinks amber at 4 Hz, three times,
which takes 750 ms. -/
structure CageLights where
  green : Light := .off
  amber : Light := .off
  blue : Light := .off
deriving DecidableEq, Repr, Inhabited

/-- The blue light: CAGELOCATE blinks it, but in STATE 6 it is solid. -/
def State.blueLight (s : State) (p : Nat) : Light :=
  if s.portState p = 6 then .solid else if bit (s.nat 0x2A00 3) p then .blink 10 else .off

/-- The lights of cage `p`. -/
def State.cageLights (s : State) (p : Nat) : CageLights :=
  let blue := s.blueLight p
  if s.panel.blink = some p ∧ s.clock < s.panel.blinkAt + 750000000 then { amber := .blink 40, blue := blue }
  else match s.portState p with
    | 2 => { green := .blink 20, blue := blue }
    | 3 => { green := .blink 20, blue := blue }
    | 4 => { green := if s.nat (0x2620 + p) 2 = 12 then .blink 5 else .solid, blue := blue }
    | 5 => { amber := .blink 20, blue := blue }
    | 7 => { amber := .solid, blue := blue }
    | 8 => { amber := .blink 5, blue := blue }
    | _ => { blue := blue }

/-- The module's locate LED follows LOCATE. -/
def State.locateLight (s : State) : Light :=
  match s.nat 0x2A00 2 with
  | 0 => .off
  | 1 => .solid
  | _ => .blink 10

/-! ### Touches and presses -/

/-- A touch before the end of step 3 is kept, 32 of them at most; further ones are counted (R473). -/
def State.earlyTouch (s : State) (idx sub : Nat) : State :=
  s.modFe (fun f =>
    if f.early.length < 32 then { f with early := f.early ++ [(s.sinceOn, idx, sub)] } else { f with earlyMore := f.earlyMore + 1 })

/-- Shows a message about a key: 1 REMOVAL REFUSED, 2 KEY DISABLED. -/
def State.keyMessage (s : State) (n : Nat) : State := { s with panel := { s.panel with keyMsg := n } }

/-- A touch that a KEYS bit disables is ignored and logged with RESULT 9 (R482). -/
def State.keyDisabled (s : State) (idx sub v : Nat) : State := (s.log .panel 9 idx sub v v v).keyMessage 2

/-- A touch that writes nothing is logged as an event with its value unchanged (R481). -/
def State.touchEvent (s : State) (idx sub v : Nat) : State := s.logEvent .panel idx sub v v

/-- A control of the panel: kept before the chip controller serves it, ignored while its key is disabled. -/
def State.touch (s : State) (key idx sub v : Nat) (f : State → State) : State :=
  if !s.start.step3done then s.earlyTouch idx sub
  else if !bit (s.nat 0x2A00 1) key then s.keyDisabled idx sub v
  else f s

/-- The release button held 3 s writes BIND_REMOVE; a refusal shows for 5 s. -/
def State.removeByPress (s : State) : State :=
  let r := s.write (commandWrite .panel cmdBindRemove)
  if r.1.abort = 0 then r.2 else r.2.keyMessage 1

/-- A release press of this length (R477). Held 3 s before the end of step 3 it is latched. -/
def execReleasePress (heldMs : Nat) (s : State) : Result :=
  s.whenOn (fun s =>
    let s := { s with panel := { s.panel with held := true } }
    if 3000 ≤ heldMs ∧ !s.start.step3done then s.modFe (fun f => { f with releaseLatched := true })
    else s.touch 1 0x2201 1 0 (fun s => if 3000 ≤ heldMs then s.removeByPress else s.touchEvent 0x2201 1 0))

/-- A pad writes QUIESCE. -/
def State.padWrites (s : State) (p v : Nat) : State := (s.write { o := .panel, idx := 0x2620 + p, sub := 6, data := le 4 v }).2

/-- What a touch of a pad does by the port's state (Table: Pad actions). -/
def State.padTouched (s : State) (p heldMs : Nat) : State :=
  let st := s.portState p
  if st = 5 ∨ st = 6 then s.padWrites p 0
  else if 1000 ≤ heldMs ∧ (st = 2 ∨ st = 3 ∨ st = 4 ∨ st = 7 ∨ st = 8) then s.padWrites p 1
  else s.touchEvent (0x2620 + p) 6 (s.nat (0x2620 + p) 6)

/-- A touch of the pad of cage `p`; the blanked cages of a TW60-G have none. -/
def execCagePadTouch (p heldMs : Nat) (s : State) : Result :=
  s.unit "cage pad" p (decide (p < s.portCount)) (fun s =>
    s.touch 2 (0x2620 + p) 6 (s.nat (0x2620 + p) 6) (fun s => s.padTouched p heldMs))

/-- The next page, and a message that waits for acknowledgement is cleared (R478). -/
def State.nextPage (s : State) : State :=
  let old := s.panel.page
  let new := (old + 1) % 6
  let waits := match s.panel.portMsg with
    | some m => m.1 == 3
    | none => false
  let s := { s with panel := { s.panel with
    page := new, portMsg := if waits then none else s.panel.portMsg, pulled := none } }
  s.logEvent .panel 0x2A00 4 old new

def execAttentionTouch (s : State) : Result :=
  s.whenOn (fun s => s.touch 0 0x2A00 4 s.panel.page State.nextPage)

/-- 60 s without a touch: page 0. -/
def execDisplayPageTimeout (s : State) : Result :=
  s.whenOn (fun s => { s with panel := { s.panel with page := 0 } })

/-- The timed message that line 1 shows expires: IN USE or DISABLED of a port, else that of a key (R476 to R479). -/
def State.expireMessage (s : State) : State :=
  let timed := match s.panel.portMsg with
    | some m => m.1 == 1 || m.1 == 2
    | none => false
  if timed then { s with panel := { s.panel with portMsg := none, blink := none } } else s.keyMessage 0

def execDisplayMessageTimeout (s : State) : Result := s.whenOn State.expireMessage

end Sys2Proof.Machine
end

