-- ==== Sys2Proof/Machine/RowMark.lean ====
section
/-!
DEFINITION. Row marks and the pulse input: ROW_MARK, PPS_EDGE, a direct set of device time in READY (R86, R93, R97, R274, R275,
R279).
-/
namespace Sys2Proof.Machine

/-- Is the mark at `m` one that an open or undone attempt passes beyond its deadline (R93, R350)? -/
def State.passesMark (s : State) (m : Nat) : Bool := decide (s.row.deadline < m)

/-- The next mark falls: device time reaches it; the next row or the replay starts, or the mark is counted as skipped, and a pending
period or slack that is due takes effect (R88). Between the marks of a module that ticks no rows there is nothing to do. -/
def State.markFalls (s : State) : State :=
  if s.row.phase = .idle then s
  else
    let m := s.row.markNs + s.periodNs
    let s := s.passTo m
    let s := { s with row := { s.row with mark := s.row.mark + 1, markNs := m } }
    match s.row.phase with
    | .waiting => s.startRow m m true
    | .replayDue =>
      if s.row.replayAt < m then s.startReplay m else (if s.passesMark m then s.skipMark else s).applyGrid s.row.num
    | _ => (if s.passesMark m then s.skipMark else s).applyGrid s.row.num

def execRowMark (s : State) : Result := s.whenOn State.markFalls

/-! ### Pulses (R275, R279) -/

/-- The device times that an attempt keeps, moved by `d` with a direct set of device time. -/
def RowSt.shift (r : RowSt) (d : Int) : RowSt :=
  let f (t : Nat) : Nat := (t + d : Int).toNat
  { r with startNs := f r.startNs, closeNs := f r.closeNs, deadline := f r.deadline, replayAt := f r.replayAt, ownDue := r.ownDue.map f }

/-- Sets device time directly in READY: the waste-yarn row in progress ends, the grid is anchored at the set value, the change is logged
and vector 66 raised. What an undone row still waits for goes on; the regions' counters are set along (log entry 101). -/
def State.setTime (s : State) (v : Nat) : State :=
  let s := if s.row.phase = .running then s.noteClose.commitRow else s
  let old := s.now
  let s := { s with
    time := { s.time with dev := v * 65536, slew := 0 }
    row := { s.row.shift ((v : Int) - old) with gridT0 := v, markNs := v, mark := 0 } }
  (s.logEvent .module 0x2100 4 old v).msix 66

/-- What a valid pulse does to device time: it applies a PPSSET that waits, or slews by its distance to a whole second, less the
cable's delay, within 200 ppm of the second that passes (R275, R279). -/
def State.applyPulse (s : State) : State :=
  if s.time.ppsPending then
    let v := s.nat 0x2100 7
    let s := { s with time := { s.time with ppsPending := false } }
    if s.dev = .ready then s.setTime v
    else if s.dev = .castOn then { s with time := { s.time with dev := v * 65536, slew := 0 } }
    else s
  else
    let at0 : Int := (s.now : Int) - s.ob 0x2100 8
    let half : Int := 500000000
    let e := (at0 + half) % 1000000000 - half
    let s := { s with time := { s.time with slew := clampI (-200000) 200000 (-e) * 65536 } }
    s.setOb 0x2100 5 (clampI (-2147483648) 2147483647 e)

/-- A rising edge of the PPS input; the third in a row that comes 1 s ± 1 µs after the last makes the input valid. -/
def execPpsEdge (s : State) : Result :=
  s.whenOn (fun s =>
    let near := match s.time.ppsLast with
      | some t => decide (999999000 ≤ s.clock - t) && decide (s.clock - t ≤ 1000001000)
      | none => false
    let n := if near then min 3 (s.time.ppsCount + 1) else 1
    let s := { s with time := { s.time with ppsCount := n, ppsLast := some s.clock } }
    let s := (s.timeBit 2 (decide (n = 3))).elect
    if n = 3 ∧ (s.nat 0x2100 1 = 2 ∨ s.nat 0x2100 2 = 2) then s.applyPulse else s)

end Sys2Proof.Machine
end

