-- ==== Sys2Proof/Machine/Spdm.lean ====
section
/-!
DEFINITION. The SPDM responder and the test access port (R454 to R457, R460). The layout of the messages is that of SPDM 1.3 (DSP0274),
to which R456 refers (log entry 46).
-/
namespace Sys2Proof.Machine

/-! ### Messages -/

/-- The version that the module speaks, and the one that GET_VERSION carries. -/
def spdm13 : Nat := 0x13
def spdm10 : Nat := 0x10

/-- A message header. -/
def spdmHeader (version code p1 p2 : Nat) : Bytes := le 1 version ++ le 1 code ++ le 1 p1 ++ le 1 p2

/-- ERROR with a code: 0x01 InvalidRequest, 0x04 UnexpectedRequest, 0x07 UnsupportedRequest, 0x41 MajorVersionMismatch. -/
def spdmError (code : Nat) : Bytes := spdmHeader spdm13 0x7F code 0

/-- Sends a response. -/
def State.respond (s : State) (b : Bytes) : State := s.emit (.spdm b)

/-- A request of the responder: from the end of step 3, in version 1.3, once what must come before it has come. -/
def State.spdm (s : State) (version : Nat) (ready : Bool) (f : State → State) : Result :=
  s.whenOn (fun s =>
    if !s.serves then s
    else if version ≠ spdm13 then s.respond (spdmError 0x41)
    else if !ready then s.respond (spdmError 0x04)
    else f s)

/-! ### Version, capabilities, algorithms -/

/-- GET_VERSION: version 1.3 only. What was negotiated is forgotten. -/
def execGetVersion (version : Nat) (s : State) : Result :=
  s.whenOn (fun s =>
    if !s.serves then s
    else if version ≠ spdm10 then s.respond (spdmError 0x41)
    else ({ s with sec := { s.sec with spdmVersion := true, spdmCaps := false, spdmAlg := 0 } }).respond
      (spdmHeader spdm10 0x04 0 0 ++ [0, 1] ++ le 2 0x1300))

/-- CERT_CAP, CHAL_CAP, MEAS_CAP with signature, MEAS_FRESH_CAP. -/
def spdmCapFlags : Nat := 0x36

/-- The timing exponent and the transfer sizes, which the spec leaves open. -/
def spdmLimits : Bytes :=
  le 1 (Config.openResult "SPDM CTExponent" [])
def spdmSizes : Bytes :=
  le 4 (Config.openResult "SPDM DataTransferSize" []) ++ le 4 (Config.openResult "SPDM MaxSPDMmsgSize" [])

/-- GET_CAPABILITIES. -/
def execGetCapabilities (version : Nat) (s : State) : Result :=
  s.spdm version s.sec.spdmVersion (fun s =>
    ({ s with sec := { s.sec with spdmCaps := true } }).respond
      (spdmHeader spdm13 0x61 0 0 ++ [0] ++ spdmLimits ++ [0, 0] ++ le 4 spdmCapFlags ++ spdmSizes))

/-- The signature scheme chosen: RSAPSS-4096 before RSASSA-4096; 0 when neither is offered. -/
def asymChoice (offered : Nat) : Nat := if bit offered 6 then 2 else if bit offered 5 then 1 else 0

/-- NEGOTIATE_ALGORITHMS: SHA-512 only. -/
def execNegotiateAlgorithms (version asymOffered hashOffered : Nat) (s : State) : Result :=
  s.spdm version s.sec.spdmCaps (fun s =>
    let a := asymChoice asymOffered
    if a = 0 ∨ !bit hashOffered 2 then s.respond (spdmError 0x01)
    else ({ s with sec := { s.sec with spdmAlg := a } }).respond
      (spdmHeader spdm13 0x63 0 0 ++ le 2 36 ++ [1, 0] ++ le 4 8 ++ le 4 (if a = 2 then 0x40 else 0x20) ++ le 4 4 ++ zeros 16))

/-! ### Certificates (R455) -/

/-- The certificates, root first. -/
def spdmCerts : Bytes := (List.range 4).flatMap Config.certificate

/-- The certificate chain of slot 0. -/
def spdmChain : Bytes := le 2 (68 + spdmCerts.length) ++ [0, 0] ++ sha512 (Config.certificate 0) ++ spdmCerts

/-- GET_DIGESTS: slot 0 only. -/
def execGetDigests (version : Nat) (s : State) : Result :=
  s.spdm version (s.sec.spdmAlg != 0) (fun s => s.respond (spdmHeader spdm13 0x01 1 1 ++ sha512 spdmChain))

/-- GET_CERTIFICATE. -/
def execGetCertificate (version slot offset length : Nat) (s : State) : Result :=
  s.spdm version (s.sec.spdmAlg != 0) (fun s =>
    if slot ≠ 0 ∨ spdmChain.length ≤ offset then s.respond (spdmError 0x01)
    else
      let part := (spdmChain.drop offset).take length
      s.respond (spdmHeader spdm13 0x02 0 0 ++ le 2 part.length ++ le 2 (spdmChain.length - offset - part.length) ++ part))

/-! ### Signed responses (R454, R457) -/

/-- Nonce of a response: 32 random bytes. -/
def State.spdmNonce (s : State) : Bytes := fit 32 (Config.random s.free)

/-- Sends a response with the signature that stands for this draw of the module's random source. -/
def State.respondSigned (s : State) (body : Bytes) : State :=
  ({ s with free := s.free + 1 }).respond (body ++ fit 512 (Config.spdmSignature s.free body))

/-- What follows a response nonce: no opaque data, and the requester's context, which the request holds after its nonce. -/
def spdmTail (nonce : Bytes) : Bytes := [0, 0] ++ fit 8 (nonce.drop 32)

/-- CHALLENGE. -/
def execChallenge (version slot : Nat) (nonce : Bytes) (s : State) : Result :=
  s.spdm version (s.sec.spdmAlg != 0) (fun s =>
    if slot ≠ 0 then s.respond (spdmError 0x01)
    else s.respondSigned (spdmHeader spdm13 0x03 0 1 ++ sha512 spdmChain ++ s.spdmNonce ++ spdmTail nonce))

/-- A measurement block: index, DMTF type, raw or digest, value. -/
def measurement (index type : Nat) (raw : Bool) (v : Bytes) : Bytes :=
  le 1 index ++ le 1 1 ++ le 2 (v.length + 3) ++ le 1 (type + (if raw then 0x80 else 0)) ++ le 2 v.length ++ v

/-- The blocks of Table: Measurement blocks, with their indexes. -/
def State.measurements (s : State) : List (Nat × Bytes) :=
  let f := s.sec.running
  [(1, measurement 1 3 false (fit 64 f.digestBytes)),
   (2, measurement 2 0 false (fit 64 Config.romDigest)),
   (3, measurement 3 3 true (le 1 f.svn ++ le 1 s.flash.floor ++ le 1 f.flmax ++ le 1 (s.nat 0x2810 1) ++ le 1 s.flash.active
      ++ le 1 s.sec.fwState ++ zeros 10)),
   (4, measurement 4 2 false s.defectsDigest),
   (5, measurement 5 2 true s.slotBytes),
   (6, measurement 6 5 true (le 1 (if s.debugOpen then 1 else 0))),
   (7, measurement 7 3 false s.patternsDigest)]
    ++ s.pats.map (fun (e : Nat × Pattern) => (0x10 + e.1, measurement (0x10 + e.1) 3 false (fit 64 e.2.digest)))

/-- A MEASUREMENTS response with these blocks. -/
def State.measureWith (s : State) (p1 : Nat) (blocks : List Bytes) (signed : Bool) (nonce : Bytes) : State :=
  let body := spdmHeader spdm13 0x60 p1 0 ++ le 1 blocks.length ++ le 3 blocks.flatten.length ++ blocks.flatten ++ s.spdmNonce
    ++ spdmTail nonce
  if signed then s.respondSigned body else ({ s with free := s.free + 1 }).respond body

/-- GET_MEASUREMENTS: operation 0 asks for the number of blocks, 0xFF for all, another value for the block of that index. -/
def execGetMeasurements (version slot op : Nat) (signed : Bool) (nonce : Bytes) (s : State) : Result :=
  s.spdm version (s.sec.spdmAlg != 0) (fun s =>
    let all := s.measurements
    if slot ≠ 0 then s.respond (spdmError 0x01)
    else if op = 0 then s.measureWith all.length [] signed nonce
    else if op = 0xFF then s.measureWith 0 (all.map (·.2)) signed nonce
    else match all.find? (fun e => e.1 == op) with
      | some e => s.measureWith 0 [e.2] signed nonce
      | none => s.respond (spdmError 0x01))

/-! ### Test access port (R460) -/

/-- An instruction of the test access port: 0 BYPASS, 1 IDCODE, 2 a read-only scan instruction, above 2 any other (log entry 47). While
locked, the port executes BYPASS and IDCODE only; open, an instruction outside the allowed set latches SAFE. -/
def execTapInstruction (code : Nat) (s : State) : Result :=
  s.whenOn (fun s =>
    if code = 0 then s
    else if code = 1 then s.emit (.tap (Config.tapData 0))
    else if !s.debugOpen then s
    else if code = 2 then ({ s with free := s.free + 1 }).emit (.tap (Config.tapData (s.free + 1)))
    else s.latchSafe (some 0x0201))

end Sys2Proof.Machine
end

