-- ==== Sys2Proof/Machine/Verdicts.lean ====
section
/-!
DEFINITION. The verdict messages of a commit group as they arrive (R197 to R201).
-/
namespace Sys2Proof.Machine

/-- A verdict message of one kind arrives: where it had been gathered it is taken as a control message, and it takes effect. -/
def State.hearVerdict (s : State) (kind : Nat) (v : VerdictMsg) : State :=
  match s.naela.rxDone.find? (fun e => msgType e.2.2 == 0x10 && msgBody e.2.2 == verdictBytes kind v) with
  | some e => s.control e.1 e.2.2 (fun s => s.takeVerdict kind v)
  | none => s.takeVerdict kind v

/-- A member's early FAIL (R198, R200). -/
def execVerdictEarlyFail (m : VerdictMsg) (s : State) : Result := s.whenOn (fun s => s.hearVerdict 0 m)

/-- A child's subtree verdict (R200). -/
def execVerdictSubtree (m : VerdictMsg) (clean : Bool) (s : State) : Result :=
  s.whenOn (fun s => s.hearVerdict (if clean then 1 else 2) m)

/-- The root's group verdict (R200). -/
def execVerdictGroup (m : VerdictMsg) (clean : Bool) (s : State) : Result :=
  s.whenOn (fun s => s.hearVerdict (if clean then 3 else 4) m)

/-- A child's subtree UNDONE (R201). -/
def execVerdictUndone (m : VerdictMsg) (s : State) : Result := s.whenOn (fun s => s.hearVerdict 5 m)

/-- The root's REPLAY (R201). -/
def execVerdictReplay (m : VerdictMsg) (s : State) : Result := s.whenOn (fun s => s.hearVerdict 6 m)

end Sys2Proof.Machine
end

