-- ==== Sys2Proof/Machine/Dispatch.lean ====
section
/-!
DEFINITION. The effect of a command on everything but the queue: one arm per constructor of `Instr`.
-/
namespace Sys2Proof.Machine

def exec (i : Instr) (s : State) : Host.Outcome State Fault Refusal :=
  match i with
  | .hsEnAssert vinMv => Sys2Proof.Machine.execHsEnAssert vinMv s
  | .frontEndOn => Sys2Proof.Machine.execFrontEndOn s
  | .hsEnDeassert => Sys2Proof.Machine.execHsEnDeassert s
  | .seatSenseOpen => Sys2Proof.Machine.execSeatSenseOpen s
  | .inputMeasurement vinMv iA iB => Sys2Proof.Machine.execInputMeasurement vinMv iA iB s
  | .bladePairFault pairB otherDeciA => Sys2Proof.Machine.execBladePairFault pairB otherDeciA s
  | .busSag => Sys2Proof.Machine.execBusSag s
  | .busSagRecover => Sys2Proof.Machine.execBusSagRecover s
  | .castOnStep r => Sys2Proof.Machine.execCastOnStep r s
  | .castOnStepHang blamed => Sys2Proof.Machine.execCastOnStepHang blamed s
  | .journalWatchdog => Sys2Proof.Machine.execJournalWatchdog s
  | .rowMark => Sys2Proof.Machine.execRowMark s
  | .runStart => Sys2Proof.Machine.execRunStart s
  | .rowClose locs => Sys2Proof.Machine.execRowClose locs s
  | .rowUndoDone => Sys2Proof.Machine.execRowUndoDone s
  | .rowHang => Sys2Proof.Machine.execRowHang s
  | .checkAlarm a => Sys2Proof.Machine.execCheckAlarm a s
  | .cellHeartbeat x y => Sys2Proof.Machine.execCellHeartbeat x y s
  | .cellLost x y => Sys2Proof.Machine.execCellLost x y s
  | .regionHeartbeatLost r => Sys2Proof.Machine.execRegionHeartbeatLost r s
  | .syncNetDisagree region => Sys2Proof.Machine.execSyncNetDisagree region s
  | .controllerSwitch => Sys2Proof.Machine.execControllerSwitch s
  | .sequencerIssue x y => Sys2Proof.Machine.execSequencerIssue x y s
  | .descriptorStart x y unit => Sys2Proof.Machine.execDescriptorStart x y unit s
  | .descriptorComplete x y unit n => Sys2Proof.Machine.execDescriptorComplete x y unit n s
  | .matWload x y d => Sys2Proof.Machine.execMatWload x y d s
  | .matStream x y d => Sys2Proof.Machine.execMatStream x y d s
  | .matDrain x y d => Sys2Proof.Machine.execMatDrain x y d s
  | .matGauge x y d => Sys2Proof.Machine.execMatGauge x y d s
  | .matGcombine x y d => Sys2Proof.Machine.execMatGcombine x y d s
  | .vecAdd x y d => Sys2Proof.Machine.execVecAdd x y d s
  | .vecSub x y d => Sys2Proof.Machine.execVecSub x y d s
  | .vecMul x y d => Sys2Proof.Machine.execVecMul x y d s
  | .vecFma x y d => Sys2Proof.Machine.execVecFma x y d s
  | .vecDiv x y d => Sys2Proof.Machine.execVecDiv x y d s
  | .vecSqrt x y d => Sys2Proof.Machine.execVecSqrt x y d s
  | .vecMin x y d => Sys2Proof.Machine.execVecMin x y d s
  | .vecMax x y d => Sys2Proof.Machine.execVecMax x y d s
  | .vecCmp x y d => Sys2Proof.Machine.execVecCmp x y d s
  | .vecSelect x y d => Sys2Proof.Machine.execVecSelect x y d s
  | .vecAnd x y d => Sys2Proof.Machine.execVecAnd x y d s
  | .vecOr x y d => Sys2Proof.Machine.execVecOr x y d s
  | .vecXor x y d => Sys2Proof.Machine.execVecXor x y d s
  | .vecConvert x y d => Sys2Proof.Machine.execVecConvert x y d s
  | .vecSum x y d => Sys2Proof.Machine.execVecSum x y d s
  | .vecRmax x y d => Sys2Proof.Machine.execVecRmax x y d s
  | .vecRmin x y d => Sys2Proof.Machine.execVecRmin x y d s
  | .vecArgmax x y d => Sys2Proof.Machine.execVecArgmax x y d s
  | .vecArgmin x y d => Sys2Proof.Machine.execVecArgmin x y d s
  | .vecExp x y d => Sys2Proof.Machine.execVecExp x y d s
  | .vecLog x y d => Sys2Proof.Machine.execVecLog x y d s
  | .vecRecip x y d => Sys2Proof.Machine.execVecRecip x y d s
  | .vecRsqrt x y d => Sys2Proof.Machine.execVecRsqrt x y d s
  | .vecTanh x y d => Sys2Proof.Machine.execVecTanh x y d s
  | .vecSigmoid x y d => Sys2Proof.Machine.execVecSigmoid x y d s
  | .vecErf x y d => Sys2Proof.Machine.execVecErf x y d s
  | .vecPhilox x y d => Sys2Proof.Machine.execVecPhilox x y d s
  | .vecSort x y d => Sys2Proof.Machine.execVecSort x y d s
  | .vecTopk x y d => Sys2Proof.Machine.execVecTopk x y d s
  | .movCopy x y d => Sys2Proof.Machine.execMovCopy x y d s
  | .movPermute x y d => Sys2Proof.Machine.execMovPermute x y d s
  | .movGather x y d => Sys2Proof.Machine.execMovGather x y d s
  | .movScatter x y d => Sys2Proof.Machine.execMovScatter x y d s
  | .movScatterAdd x y d => Sys2Proof.Machine.execMovScatterAdd x y d s
  | .movReshard x y d => Sys2Proof.Machine.execMovReshard x y d s
  | .synSend x y d => Sys2Proof.Machine.execSynSend x y d s
  | .synRecv x y d => Sys2Proof.Machine.execSynRecv x y d s
  | .synRecvadd x y d => Sys2Proof.Machine.execSynRecvadd x y d s
  | .synBarrier x y d => Sys2Proof.Machine.execSynBarrier x y d s
  | .barrierRelease chan gen => Sys2Proof.Machine.execBarrierRelease chan gen s
  | .synWaitmark x y d => Sys2Proof.Machine.execSynWaitmark x y d s
  | .chkInsert x y d => Sys2Proof.Machine.execChkInsert x y d s
  | .chkVerify x y d => Sys2Proof.Machine.execChkVerify x y d s
  | .updJob x y d => Sys2Proof.Machine.execUpdJob x y d s
  | .hntHeavy x y d => Sys2Proof.Machine.execHntHeavy x y d s
  | .smpSample x y d => Sys2Proof.Machine.execSmpSample x y d s
  | .ctlNop x y d => Sys2Proof.Machine.execCtlNop x y d s
  | .ctlEnd x y d => Sys2Proof.Machine.execCtlEnd x y d s
  | .ctlLi x y d => Sys2Proof.Machine.execCtlLi x y d s
  | .ctlAdd x y d => Sys2Proof.Machine.execCtlAdd x y d s
  | .ctlSub x y d => Sys2Proof.Machine.execCtlSub x y d s
  | .ctlMul x y d => Sys2Proof.Machine.execCtlMul x y d s
  | .ctlAnd x y d => Sys2Proof.Machine.execCtlAnd x y d s
  | .ctlOr x y d => Sys2Proof.Machine.execCtlOr x y d s
  | .ctlXor x y d => Sys2Proof.Machine.execCtlXor x y d s
  | .ctlShl x y d => Sys2Proof.Machine.execCtlShl x y d s
  | .ctlShr x y d => Sys2Proof.Machine.execCtlShr x y d s
  | .ctlSra x y d => Sys2Proof.Machine.execCtlSra x y d s
  | .ctlAddi x y d => Sys2Proof.Machine.execCtlAddi x y d s
  | .ctlMin x y d => Sys2Proof.Machine.execCtlMin x y d s
  | .ctlMax x y d => Sys2Proof.Machine.execCtlMax x y d s
  | .ctlCmp x y d => Sys2Proof.Machine.execCtlCmp x y d s
  | .ctlCmpi x y d => Sys2Proof.Machine.execCtlCmpi x y d s
  | .ctlBr x y d => Sys2Proof.Machine.execCtlBr x y d s
  | .ctlJmp x y d => Sys2Proof.Machine.execCtlJmp x y d s
  | .ctlLoop x y d => Sys2Proof.Machine.execCtlLoop x y d s
  | .ctlCall x y d => Sys2Proof.Machine.execCtlCall x y d s
  | .ctlRet x y d => Sys2Proof.Machine.execCtlRet x y d s
  | .ctlLd x y d => Sys2Proof.Machine.execCtlLd x y d s
  | .ctlSt x y d => Sys2Proof.Machine.execCtlSt x y d s
  | .hbmWrite w addr data => Sys2Proof.Machine.execHbmWrite w addr data s
  | .updJobStart slice => Sys2Proof.Machine.execUpdJobStart slice s
  | .updJobDone slice => Sys2Proof.Machine.execUpdJobDone slice s
  | .looseRead rx ry addr lines => Sys2Proof.Machine.execLooseRead rx ry addr lines s
  | .looseWrite rx ry addr data => Sys2Proof.Machine.execLooseWrite rx ry addr data s
  | .looseResponse rx ry => Sys2Proof.Machine.execLooseResponse rx ry s
  | .mergeEntryExpire x y line => Sys2Proof.Machine.execMergeEntryExpire x y line s
  | .mergeHoldExpire x y line => Sys2Proof.Machine.execMergeHoldExpire x y line s
  | .flitReceive link crcOk failedWires => Sys2Proof.Machine.execFlitReceive link crcOk failedWires s
  | .scratchpadScrub px py offset o => Sys2Proof.Machine.execScratchpadScrub px py offset o s
  | .hbmPatrolScrub addr o => Sys2Proof.Machine.execHbmPatrolScrub addr o s
  | .cellDarning durUs => Sys2Proof.Machine.execCellDarning durUs s
  | .regionDarning swatchOk durUs => Sys2Proof.Machine.execRegionDarning swatchOk durUs s
  | .darningComplete => Sys2Proof.Machine.execDarningComplete s
  | .darningRestart lost => Sys2Proof.Machine.execDarningRestart lost s
  | .hbmStackFail stack retrainedDeciGb => Sys2Proof.Machine.execHbmStackFail stack retrainedDeciGb s
  | .wasteYarnSwatch unit passed => Sys2Proof.Machine.execWasteYarnSwatch unit passed s
  | .suspectSwatch region passed => Sys2Proof.Machine.execSuspectSwatch region passed s
  | .verdictEarlyFail m => Sys2Proof.Machine.execVerdictEarlyFail m s
  | .verdictSubtree m clean => Sys2Proof.Machine.execVerdictSubtree m clean s
  | .verdictGroup m clean => Sys2Proof.Machine.execVerdictGroup m clean s
  | .verdictUndone m => Sys2Proof.Machine.execVerdictUndone m s
  | .verdictReplay m => Sys2Proof.Machine.execVerdictReplay m s
  | .droopDetect b mv => Sys2Proof.Machine.execDroopDetect b mv s
  | .droopEnd b => Sys2Proof.Machine.execDroopEnd b s
  | .shuntClamp b mv => Sys2Proof.Machine.execShuntClamp b mv s
  | .replicaPathWarning b path => Sys2Proof.Machine.execReplicaPathWarning b path s
  | .slowLoopStep b warning => Sys2Proof.Machine.execSlowLoopStep b warning s
  | .guardBandExpire b => Sys2Proof.Machine.execGuardBandExpire b s
  | .regulatorPhaseLoss b phase => Sys2Proof.Machine.execRegulatorPhaseLoss b phase s
  | .converterPhaseFail conv phase => Sys2Proof.Machine.execConverterPhaseFail conv phase s
  | .regionRailSample r deciA mv => Sys2Proof.Machine.execRegionRailSample r deciA mv s
  | .regionShort r => Sys2Proof.Machine.execRegionShort r s
  | .efuseOpen r => Sys2Proof.Machine.execEfuseOpen r s
  | .capShareUpdate pin pavg regions => Sys2Proof.Machine.execCapShareUpdate pin pavg regions s
  | .capLoopUpdate r watts => Sys2Proof.Machine.execCapLoopUpdate r watts s
  | .bubbleLoopUpdate r watts => Sys2Proof.Machine.execBubbleLoopUpdate r watts s
  | .capUnattainable => Sys2Proof.Machine.execCapUnattainable s
  | .slopeCeilingUpdate r riseDeciA used64 => Sys2Proof.Machine.execSlopeCeilingUpdate r riseDeciA used64 s
  | .floorTargetUpdate r measuredDeciA shareDeciA preRampDeciA => Sys2Proof.Machine.execFloorTargetUpdate r measuredDeciA shareDeciA preRampDeciA s
  | .rampGovernorStep r neighbourHot => Sys2Proof.Machine.execRampGovernorStep r neighbourHot s
  | .lookaheadRaise b planned64 => Sys2Proof.Machine.execLookaheadRaise b planned64 s
  | .preRamp => Sys2Proof.Machine.execPreRamp s
  | .junctionSensorRead b t0 t1 t2 t3 => Sys2Proof.Machine.execJunctionSensorRead b t0 t1 t2 t3 s
  | .sensorFailed b k => Sys2Proof.Machine.execSensorFailed b k s
  | .hbmTempRead hottestDeciC => Sys2Proof.Machine.execHbmTempRead hottestDeciC s
  | .coolantReading flowDeciL inletDeciC outletDeciC sensorOk => Sys2Proof.Machine.execCoolantReading flowDeciL inletDeciC outletDeciC sensorOk s
  | .safeEntry cause => Sys2Proof.Machine.execSafeEntry cause s
  | .referenceLoss => Sys2Proof.Machine.execReferenceLoss s
  | .blockPllLoss b => Sys2Proof.Machine.execBlockPllLoss b s
  | .referenceInputSwitch r newInput => Sys2Proof.Machine.execReferenceInputSwitch r newInput s
  | .timeBeacon r errPs => Sys2Proof.Machine.execTimeBeacon r errPs s
  | .ppsEdge => Sys2Proof.Machine.execPpsEdge s
  | .ref10mValid => Sys2Proof.Machine.execRef10mValid s
  | .timeSourceInvalid => Sys2Proof.Machine.execTimeSourceInvalid s
  | .timeExchange port t1 t2 t3 t4 => Sys2Proof.Machine.execTimeExchange port t1 t2 t3 t4 s
  | .timeMasterLoss => Sys2Proof.Machine.execTimeMasterLoss s
  | .naelaFrame p frame => Sys2Proof.Machine.execNaelaFrame p frame s
  | .retryRequest p fseq => Sys2Proof.Machine.execRetryRequest p fseq s
  | .frameRetryTimeout p => Sys2Proof.Machine.execFrameRetryTimeout p s
  | .data p msg => Sys2Proof.Machine.execData p msg s
  | .collective p msg => Sys2Proof.Machine.execCollective p msg s
  | .ack p msg => Sys2Proof.Machine.execAck p msg s
  | .messageResendTimeout dst msgId => Sys2Proof.Machine.execMessageResendTimeout dst msgId s
  | .barrier p msg => Sys2Proof.Machine.execBarrier p msg s
  | .time p msg => Sys2Proof.Machine.execTime p msg s
  | .power p msg => Sys2Proof.Machine.execPower p msg s
  | .negotiate p msg => Sys2Proof.Machine.execNegotiate p msg s
  | .route p msg => Sys2Proof.Machine.execRoute p msg s
  | .portPresence p supported => Sys2Proof.Machine.execPortPresence p supported s
  | .portTrained p ok lanes => Sys2Proof.Machine.execPortTrained p ok lanes s
  | .linkTestDone p passed => Sys2Proof.Machine.execLinkTestDone p passed s
  | .laneFailure p lane => Sys2Proof.Machine.execLaneFailure p lane s
  | .lossOfSignal p groups => Sys2Proof.Machine.execLossOfSignal p groups s
  | .presenceDeassert p => Sys2Proof.Machine.execPresenceDeassert p s
  | .quiesceDrained p => Sys2Proof.Machine.execQuiesceDrained p s
  | .sqtailDoorbell q val => Sys2Proof.Machine.execSqtailDoorbell q val s
  | .cqheadDoorbell q val => Sys2Proof.Machine.execCqheadDoorbell q val s
  | .queueEnable q => Sys2Proof.Machine.execQueueEnable q s
  | .queueDisable q => Sys2Proof.Machine.execQueueDisable q s
  | .commandFetch => Sys2Proof.Machine.execCommandFetch s
  | .msixCoalesceTimeout q => Sys2Proof.Machine.execMsixCoalesceTimeout q s
  | .loadPattern q cmd => Sys2Proof.Machine.execLoadPattern q cmd s
  | .patternUnload q cmd => Sys2Proof.Machine.execPatternUnload q cmd s
  | .runPattern q cmd => Sys2Proof.Machine.execRunPattern q cmd s
  | .reshard q cmd => Sys2Proof.Machine.execReshard q cmd s
  | .copy q cmd => Sys2Proof.Machine.execCopy q cmd s
  | .openSession q cmd => Sys2Proof.Machine.execOpenSession q cmd s
  | .advance q cmd => Sys2Proof.Machine.execAdvance q cmd s
  | .advanceAdmission q => Sys2Proof.Machine.execAdvanceAdmission q s
  | .closeSession q cmd => Sys2Proof.Machine.execCloseSession q cmd s
  | .hint q cmd => Sys2Proof.Machine.execHint q cmd s
  | .fence q cmd => Sys2Proof.Machine.execFence q cmd s
  | .readReceipt q cmd => Sys2Proof.Machine.execReadReceipt q cmd s
  | .readSignatures q cmd => Sys2Proof.Machine.execReadSignatures q cmd s
  | .hostMemRead addr len => Sys2Proof.Machine.execHostMemRead addr len s
  | .hostMemWrite addr data => Sys2Proof.Machine.execHostMemWrite addr data s
  | .birsp addr => Sys2Proof.Machine.execBirsp addr s
  | .perstAssert => Sys2Proof.Machine.execPerstAssert s
  | .cxlLinkTrain connA connB rate flit256 => Sys2Proof.Machine.execCxlLinkTrain connA connB rate flit256 s
  | .bar2Read idx sub off len => Sys2Proof.Machine.execBar2Read idx sub off len s
  | .bar2Write idx sub off len data => Sys2Proof.Machine.execBar2Write idx sub off len data s
  | .usdoTransfer isWrite idx sub data => Sys2Proof.Machine.execUsdoTransfer isWrite idx sub data s
  | .objectWrite o idx sub data => Sys2Proof.Machine.execObjectWrite o idx sub data s
  | .nmtStop preOperational => Sys2Proof.Machine.execNmtStop preOperational s
  | .nmtReset node => Sys2Proof.Machine.execNmtReset node s
  | .canHeartbeat => Sys2Proof.Machine.execCanHeartbeat s
  | .statusFrame => Sys2Proof.Machine.execStatusFrame s
  | .run o => Sys2Proof.Machine.execRun o s
  | .hold o => Sys2Proof.Machine.execHold o s
  | .bindReady o => Sys2Proof.Machine.execBindReady o s
  | .bindRemove o => Sys2Proof.Machine.execBindRemove o s
  | .restart o => Sys2Proof.Machine.execRestart o s
  | .serviceToken o record => Sys2Proof.Machine.execServiceToken o record s
  | .tokenLapse o => Sys2Proof.Machine.execTokenLapse o s
  | .close o => Sys2Proof.Machine.execClose o s
  | .remove o entry => Sys2Proof.Machine.execRemove o entry s
  | .suspectListWrite o data => Sys2Proof.Machine.execSuspectListWrite o data s
  | .ppssetWrite o val => Sys2Proof.Machine.execPpssetWrite o val s
  | .quiesce o p val => Sys2Proof.Machine.execQuiesce o p val s
  | .logStreamRead o maxBytes => Sys2Proof.Machine.execLogStreamRead o maxBytes s
  | .signatureStreamRead o maxBytes => Sys2Proof.Machine.execSignatureStreamRead o maxBytes s
  | .changeLogFlush => Sys2Proof.Machine.execChangeLogFlush s
  | .verify o => Sys2Proof.Machine.execVerify o s
  | .activate o => Sys2Proof.Machine.execActivate o s
  | .rollback o => Sys2Proof.Machine.execRollback o s
  | .commit o => Sys2Proof.Machine.execCommit o s
  | .imageWrite o off data => Sys2Proof.Machine.execImageWrite o off data s
  | .keySlotProgram o record => Sys2Proof.Machine.execKeySlotProgram o record s
  | .keySlotRevoke o record => Sys2Proof.Machine.execKeySlotRevoke o record s
  | .sysflWrite o val => Sys2Proof.Machine.execSysflWrite o val s
  | .getVersion version => Sys2Proof.Machine.execGetVersion version s
  | .getCapabilities version => Sys2Proof.Machine.execGetCapabilities version s
  | .negotiateAlgorithms version asymOffered hashOffered => Sys2Proof.Machine.execNegotiateAlgorithms version asymOffered hashOffered s
  | .getDigests version => Sys2Proof.Machine.execGetDigests version s
  | .getCertificate version slot offset length => Sys2Proof.Machine.execGetCertificate version slot offset length s
  | .challenge version slot nonce => Sys2Proof.Machine.execChallenge version slot nonce s
  | .getMeasurements version slot op signed nonce => Sys2Proof.Machine.execGetMeasurements version slot op signed nonce s
  | .tapInstruction code => Sys2Proof.Machine.execTapInstruction code s
  | .releasePress heldMs => Sys2Proof.Machine.execReleasePress heldMs s
  | .cagePadTouch p heldMs => Sys2Proof.Machine.execCagePadTouch p heldMs s
  | .attentionTouch => Sys2Proof.Machine.execAttentionTouch s
  | .displayPageTimeout => Sys2Proof.Machine.execDisplayPageTimeout s
  | .displayMessageTimeout => Sys2Proof.Machine.execDisplayMessageTimeout s
  | .consoleRead idx sub => Sys2Proof.Machine.execConsoleRead idx sub s
  | .consoleReadDomain idx sub off len => Sys2Proof.Machine.execConsoleReadDomain idx sub off len s
  | .consoleWrite idx sub val => Sys2Proof.Machine.execConsoleWrite idx sub val s
  | .consoleWriteDomain idx sub off data => Sys2Proof.Machine.execConsoleWriteDomain idx sub off data s
  | .consoleRemove => Sys2Proof.Machine.execConsoleRemove s
  | .consoleLog => Sys2Proof.Machine.execConsoleLog s
  | .consoleHelp => Sys2Proof.Machine.execConsoleHelp s
  | .outputDigestComplete => Sys2Proof.Machine.execOutputDigestComplete s
  | .pageZeroingDone handle => Sys2Proof.Machine.execPageZeroingDone handle s
  | .queueRegisterWrite q off val => Sys2Proof.Machine.execQueueRegisterWrite q off val s

end Sys2Proof.Machine
end

