-- ==== Sys2Proof/Machine/Tick.lean ====
section
/-!
DEFINITION. One tick of device time, what step does on an empty queue (R271; log entry 3).
-/
namespace Sys2Proof.Machine

/-- Has the receiver of a SEND its RECV or RECVADD at the head of its queue, its counts reached: what arrives lands at once (R131)? -/
def State.recvPosted (s : State) (x y : Nat) (d : Desc) : Bool :=
  match neighbour x y (synDir d) with
  | none => false
  | some (nx, ny) =>
    let c := s.cell nx ny
    match c.syn.q with
    | [] => false
    | i :: _ => (descOp i.d == 2 || descOp i.d == 3) && synDir i.d == opposite (synDir d) && synStream i.d == synStream d
        && c.ready i.d i.before

/-- Does a unit of a cell slip (R94, R131): a RECV or RECVADD at the head of its queue, its counts reached, whose data has not arrived;
a SEND there without credit; a SEND that has started, with more flits than the receiver has room for? -/
def State.cellSlips (s : State) (x y : Nat) : Bool :=
  let c := s.cell x y
  (match c.syn.q with
    | [] => false
    | i :: _ =>
      c.ready i.d i.before
        && (((descOp i.d == 2 || descOp i.d == 3) && !s.arrivedFor x y i.d)
          || (descOp i.d == 1 && s.synTurn x y i.d false && !s.hasCredit x y i.d)))
  || c.syn.running.any (fun e => descOp e.d == 1 && s.overCredit x y e.d && !s.recvPosted x y e.d)

/-- Cycles that a cell's block runs in one tick: 12, fewer while its periods stretch, none when its PLL has failed (R94, R263, R264). -/
def State.cellCycles (s : State) (x y : Nat) : Nat :=
  match s.map.place x y with
  | some p =>
    let b := s.blk p.globalBlock
    if s.nat (0x4000 + p.globalBlock) 0x16 = 2 then 0
    else if b.period8 = 8 then 12 else (b.phase40 + 480) / (5 * b.period8)
  | none => 0

/-- The cycles of one tick at every cell that runs: its slips (R94), and the age of its heartbeat at the hub, whose clock does
not stretch (R143). -/
def State.cellTick (s : State) : State :=
  { s with cells := s.cells.map (fun (e : Nat × CellSt) =>
      let x := e.1 % 48
      let y := e.1 / 48
      if s.cellRuns x y ∧ e.2.phase ≠ .idle then
        (e.1, { e.2 with
          slips := e.2.slips + (if s.cellSlips x y then s.cellCycles x y else 0)
          hbAge := e.2.hbAge + 12 })
      else e) }

/-- Device time advances by 5 ns, twelve cycles of 2.4 GHz (R271), while the front end is on; the model's clock always. -/
def State.tick (s : State) : State :=
  if s.on then s.openingsLeave.cellTick.pass 5 else s.pass 5

end Sys2Proof.Machine
end

