-- ==== Sys2Proof/WellFormed.lean ====
section
/-!
DEFINITION. Well-formed commands: units within the ranges of R6 and of the tables of their kind, byte strings of the
lengths the spec gives.
-/
namespace Sys2Proof

/-- A logical cell (R6). -/
def Instr.okCell (x y : Nat) : Bool := decide (x < 48) && decide (y < 36)

/-- A host command: a queue pair of the 64 (R372) and 128 bytes (R378). -/
def Instr.okHost (q : Nat) (c : Bytes) : Bool := decide (q < 64) && decide (c.length = 128)

/-- A link's sending end exists (R119, R146). -/
def LinkId.wf : LinkId → Bool
  | .mesh x y d => Instr.okCell x y && decide (d < 5)
  | .ring _ i => decide (i < 48)

/-- A suspect's unit exists. -/
def Suspect.wf : Suspect → Bool
  | .cell x y => Instr.okCell x y
  | .region r => decide (r < 42)
  | .block b => decide (b < 588)
  | .link l => l.wf
  | .slice i => decide (i < 48)
  | .engine i => decide (i < 48)
  | .port p => decide (p < 18)
  | .module m => decide (m < 1024)

/-- A defect names a unit that exists: a cell by region, column and row, a block by region and number, a region (R327). -/
def Defect.wf (d : Defect) : Bool :=
  (d.kind != 1 || (decide (d.region < 42) && decide (d.ccol < 8) && decide (d.crow < 7)))
    && (d.kind != 2 || (decide (d.region < 42) && decide (d.detail < 14))) && (d.kind != 3 || decide (d.region < 42))

/-- The Naela port that a command names, if it names one. -/
def Instr.portNamed : Instr → Option Nat
  | .naelaFrame p _ | .retryRequest p _ | .frameRetryTimeout p | .data p _ | .collective p _ | .ack p _ | .barrier p _
  | .time p _ | .power p _ | .negotiate p _ | .route p _ | .timeExchange p _ _ _ _ | .portPresence p _ | .portTrained p _ _
  | .linkTestDone p _ | .laneFailure p _ | .lossOfSignal p _ | .presenceDeassert p | .quiesceDrained p
  | .cagePadTouch p _ => some p
  | _ => none

/-- The operands of a command name units that exist and strings of their lengths. -/
def Instr.wf : Instr → Bool
  | .checkAlarm a => Instr.okCell a.x a.y && decide (a.ply < 4) && a.suspects.all Suspect.wf
  | .cellHeartbeat x y | .cellLost x y => Instr.okCell x y
  | .sequencerIssue x y => Instr.okCell x y
  | .descriptorStart x y _ | .descriptorComplete x y _ _ => Instr.okCell x y
  | .matWload x y _ | .matStream x y _ | .matDrain x y _ | .matGauge x y _ | .matGcombine x y _ => Instr.okCell x y
  | .vecAdd x y _ | .vecSub x y _ | .vecMul x y _ | .vecFma x y _ | .vecDiv x y _ | .vecSqrt x y _
  | .vecMin x y _ | .vecMax x y _ | .vecCmp x y _ | .vecSelect x y _ | .vecAnd x y _ | .vecOr x y _
  | .vecXor x y _ | .vecConvert x y _ | .vecSum x y _ | .vecRmax x y _ | .vecRmin x y _ | .vecArgmax x y _
  | .vecArgmin x y _ | .vecExp x y _ | .vecLog x y _ | .vecRecip x y _ | .vecRsqrt x y _ | .vecTanh x y _
  | .vecSigmoid x y _ | .vecErf x y _ | .vecPhilox x y _ | .vecSort x y _ | .vecTopk x y _ => Instr.okCell x y
  | .movCopy x y _ | .movPermute x y _ | .movGather x y _ | .movScatter x y _ | .movScatterAdd x y _
  | .movReshard x y _ => Instr.okCell x y
  | .synSend x y _ | .synRecv x y _ | .synRecvadd x y _ | .synBarrier x y _ | .synWaitmark x y _ => Instr.okCell x y
  | .chkInsert x y _ | .chkVerify x y _ | .updJob x y _ | .hntHeavy x y _ | .smpSample x y _ => Instr.okCell x y
  | .ctlNop x y _ | .ctlEnd x y _ | .ctlLi x y _ | .ctlAdd x y _ | .ctlSub x y _ | .ctlMul x y _ | .ctlAnd x y _
  | .ctlOr x y _ | .ctlXor x y _ | .ctlShl x y _ | .ctlShr x y _ | .ctlSra x y _ | .ctlAddi x y _ | .ctlMin x y _
  | .ctlMax x y _ | .ctlCmp x y _ | .ctlCmpi x y _ | .ctlBr x y _ | .ctlJmp x y _ | .ctlLoop x y _ | .ctlCall x y _
  | .ctlRet x y _ | .ctlLd x y _ | .ctlSt x y _ => Instr.okCell x y
  | .barrierRelease chan _ => decide (chan < 32)
  | .hbmWrite (.cell x y) _ _ => Instr.okCell x y
  | .hbmWrite (.engine i) _ _ => decide (i < 48)
  | .updJobStart i | .updJobDone i => decide (i < 48)
  | .looseRead rx ry _ lines => Instr.okCell rx ry && decide (1 ≤ lines) && decide (lines ≤ 16)
  | .looseWrite rx ry _ bs => Instr.okCell rx ry && decide (bs.length % 64 = 0)
  | .looseResponse rx ry => Instr.okCell rx ry
  | .mergeEntryExpire x y _ | .mergeHoldExpire x y _ => Instr.okCell x y
  | .flitReceive l _ _ => l.wf
  | .scratchpadScrub px py off _ => decide (px < 56) && decide (py < 42) && decide (off < 0x1000000)
  | .hbmPatrolScrub a _ => decide (a < 48 * 0x2000000000)
  | .hbmStackFail i _ => decide (i < 48)
  | .darningRestart d | .wasteYarnSwatch d _ => d.wf
  | .suspectSwatch r _ => decide (r < 42) || r == 0xFFFF
  | .syncNetDisagree r => (match r with
    | some r => decide (r < 42)
    | none => true)
  | .regionHeartbeatLost r | .regionRailSample r _ _ | .regionShort r | .efuseOpen r => decide (r < 42)
  | .capLoopUpdate r _ | .bubbleLoopUpdate r _ | .slopeCeilingUpdate r _ _ | .floorTargetUpdate r _ _ _
  | .rampGovernorStep r _ | .timeBeacon r _ => decide (r < 42)
  | .referenceInputSwitch r i => decide (r < 42) && decide (i < 5)
  | .droopDetect b _ | .droopEnd b | .shuntClamp b _ | .slowLoopStep b _
  | .guardBandExpire b | .lookaheadRaise b _ | .junctionSensorRead b _ _ _ _ | .blockPllLoss b => decide (b < 588)
  | .replicaPathWarning b p => decide (b < 588) && decide (p < 6)
  | .regulatorPhaseLoss b p => decide (b < 588) && decide (p < 8)
  | .sensorFailed b k => decide (b < 588) && decide (k < 4)
  | .converterPhaseFail v _ => decide (v < 5)
  | .naelaFrame p f => decide (p < 18) && decide (f.length = 512)
  | .data p _ | .collective p _ | .ack p _ | .barrier p _ | .time p _ | .power p _ | .negotiate p _ | .route p _ =>
    decide (p < 18)
  | .retryRequest p _ | .frameRetryTimeout p | .timeExchange p _ _ _ _ | .portPresence p _ | .portTrained p _ _
  | .linkTestDone p _ | .presenceDeassert p | .quiesceDrained p | .cagePadTouch p _ | .quiesce _ p _ => decide (p < 18)
  | .laneFailure p l => decide (p < 18) && decide (l < 16)
  | .lossOfSignal p g => decide (p < 18) && decide (g < 16)
  | .sqtailDoorbell q _ | .cqheadDoorbell q _ | .queueEnable q | .queueDisable q | .msixCoalesceTimeout q
  | .advanceAdmission q | .queueRegisterWrite q _ _ => decide (q < 64)
  | .loadPattern q c | .patternUnload q c | .runPattern q c | .reshard q c | .copy q c | .openSession q c
  | .advance q c | .closeSession q c | .hint q c | .fence q c | .readReceipt q c | .readSignatures q c =>
    Instr.okHost q c
  | .pageZeroingDone h => decide (h % 65536 < 8192)
  | .hsEnAssert _ | .frontEndOn | .hsEnDeassert | .seatSenseOpen | .inputMeasurement _ _ _ | .bladePairFault _ _
  | .busSag | .busSagRecover | .castOnStep _ | .castOnStepHang _ | .journalWatchdog | .rowMark | .runStart
  | .rowClose _ | .rowUndoDone | .rowHang | .controllerSwitch | .cellDarning _ | .regionDarning _ _ | .darningComplete
  | .verdictEarlyFail _ | .verdictSubtree _ _ | .verdictGroup _ _ | .verdictUndone _ | .verdictReplay _
  | .capShareUpdate _ _ _ | .capUnattainable | .preRamp | .hbmTempRead _ | .coolantReading _ _ _ _ | .safeEntry _
  | .referenceLoss | .ppsEdge | .ref10mValid | .timeSourceInvalid | .timeMasterLoss | .messageResendTimeout _ _
  | .commandFetch | .hostMemRead _ _ | .hostMemWrite _ _ | .birsp _ | .perstAssert | .cxlLinkTrain _ _ _ _
  | .bar2Read _ _ _ _ | .bar2Write _ _ _ _ _ | .usdoTransfer _ _ _ _ | .objectWrite _ _ _ _ | .nmtStop _ | .nmtReset _
  | .canHeartbeat | .statusFrame | .run _ | .hold _ | .bindReady _ | .bindRemove _ | .restart _ | .serviceToken _ _
  | .tokenLapse _ | .close _ | .remove _ _ | .suspectListWrite _ _ | .ppssetWrite _ _ | .logStreamRead _ _
  | .signatureStreamRead _ _ | .changeLogFlush | .verify _ | .activate _ | .rollback _ | .commit _ | .imageWrite _ _ _
  | .keySlotProgram _ _ | .keySlotRevoke _ _ | .sysflWrite _ _ | .getVersion _ | .getCapabilities _
  | .negotiateAlgorithms _ _ _ | .getDigests _ | .getCertificate _ _ _ _ | .challenge _ _ _
  | .getMeasurements _ _ _ _ _ | .tapInstruction _ | .releasePress _ | .attentionTouch | .displayPageTimeout
  | .displayMessageTimeout | .consoleRead _ _ | .consoleReadDomain _ _ _ _ | .consoleWrite _ _ _
  | .consoleWriteDomain _ _ _ _ | .consoleRemove | .consoleLog | .consoleHelp | .outputDigestComplete => true

end Sys2Proof
end

