-- ==== Sys2Proof/Safety.lean ====
section
/-!
DEFINITION. What counts as a sound state and a completed command, in the terms the statements use.
-/
namespace Sys2Proof.Machine

/-- Every waiting command is well formed. -/
def State.queueOk (s : State) : Prop := ∀ c ∈ s.pending, c.wf = true

/-- Both memories hold their canonical form. -/
def State.memOk (s : State) : Prop := Mem.wf s.mem = true ∧ Mem.wf s.hostMem = true

/-- A step ends in a next state. -/
def completes (c : Instr) (s : State) : Prop := ∃ t, exec c s = .next t

/-! ### Cells -/

/-- The units of logical cell (x, y) can run: the cell exists and has a place, the module is on, a row runs. -/
def State.cellLive (s : State) (x y : Nat) : Prop := isCell x y = true ∧ s.on = true ∧ s.cellRuns x y = true

/-- The operand `f` names `n` bytes at offset `o`, within what a row program may reach (R114). -/
def State.operandAt (s : State) (x y f n o : Nat) : Prop := spa (s.cell x y).s f = .ok o ∧ o + n ≤ reachEnd

/-- Resident lines among `ls` that the undo log does not hold yet (R80). -/
def CellSt.unlogged (c : CellSt) (ls : List Nat) : List Nat :=
  ls.filter (fun l => decide (l < c.rbound) && !c.undo.any (fun e => e.1 == l))

/-- A row program of the cell may write `n` bytes at offset `o`: within reach, every line writable (R103), and room in the undo
log for the resident lines it does not hold yet (R80). -/
def State.canWrite (s : State) (x y o n : Nat) : Prop :=
  o + n ≤ reachEnd ∧ (∀ l ∈ linesOf o n, s.writableLine x y l = true) ∧
    (s.cell x y).undo.length + ((s.cell x y).unlogged (linesOf o n)).length ≤ 15408

/-- `t` is `s` after the cell wrote `bs` at offset `o` and nothing else: every other byte of memory, every other cell, the
cell's registers, predicates, queues and tiles, and every other part of the module but its output and the row's counts are as
before. -/
structure State.cellWrote (s t : State) (x y o : Nat) (bs : Bytes) : Prop where
  data : t.scratch x y o bs.length = bs
  memory : ∀ a, a < cellBase x y + o ∨ cellBase x y + o + bs.length ≤ a → t.mem.read a = s.mem.read a
  cells : ∀ k, k ≠ cellNo x y → Tab.get? t.cells k = Tab.get? s.cells k
  cell : t.cell x y = { s.cell x y with undo := (t.cell x y).undo, merge := (t.cell x y).merge }
  rest : t = { s with mem := t.mem, cells := t.cells, out := t.out, row := t.row }

/-- `row` with counts added (R220, R388). -/
def RowSt.counted (r : RowSt) (inexact overflow clamps idxClamp : Nat) : RowSt :=
  { r with inexact := r.inexact + inexact, overflow := r.overflow + overflow, clamps := r.clamps + clamps
           idxClamp := r.idxClamp + idxClamp }

/-- `t` is `s` with scalar register `rd` of the cell at `v` (s0 stays 0), its counter at the next descriptor, and nothing else
changed (R124). -/
def State.wroteReg (s t : State) (x y rd : Nat) (v : W64) : Prop :=
  ∃ regs, t = s.setCell x y { s.cell x y with s := regs, pc := (s.cell x y).pc + 1 } ∧
    ∀ i < 32, (t.cell x y).sr i = if i = rd ∧ i ≠ 0 then v else (s.cell x y).sr i

/-! ### Elements -/

/-- `n` elements of format `c` at offset `o` of the cell. -/
def State.elemsAt (s : State) (x y o c n : Nat) : List Nat := unpack (fmtWidth c) n (s.scratch x y o (n * vBytes c))

/-- Source B of a VEC descriptor in format `c`: `n` elements in scratchpad, a scalar register, or one element broadcast
(R117). -/
def State.sourceB (s : State) (x y : Nat) (d : Desc) (c n : Nat) (bs : List Nat) : Prop :=
  (fld d 54 53 = 0 ∧ ∃ o, s.operandAt x y (fld d 159 136) (n * vBytes c) o ∧ bs = s.elemsAt x y o c n) ∨
  (fld d 54 53 = 1 ∧ fld d 159 136 % 524288 = 0 ∧
    bs = List.replicate n (sreg (s.cell x y).s (fld d 159 136 / 524288) % 2 ^ fmtWidth c)) ∨
  (fld d 54 53 = 2 ∧ ∃ o, s.operandAt x y (fld d 159 136) (vBytes c) o ∧
    bs = List.replicate n ((s.elemsAt x y o c 1).getD 0 0))

end Sys2Proof.Machine
end

