-- ==== Sys2Proof/Certificates/Slice0/Obligations.lean ====
section
/-!
DEFINITION. The statements for the provers: what the commands do, family by family, from the numbered rules of spec/.
-/

namespace Sys2Proof.Machine

/-- The comparison that a CTL condition code names. -/
def ctlRelation (cond : Nat) (a b : W64) : Prop :=
  (cond = 0 ∧ a = b) ∨ (cond = 1 ∧ a ≠ b) ∨ (cond = 2 ∧ a.toInt < b.toInt) ∨ (cond = 3 ∧ b.toInt ≤ a.toInt) ∨
    (cond = 4 ∧ a.toNat < b.toNat) ∨ (cond = 5 ∧ b.toNat ≤ a.toNat)


/-- The value of a finite number cut toward minus infinity at 2^l: floor(p / 2^l) (R37); 0 for a special. -/
def floorAt (l : Int) : Sys2Proof.Num → Int
  | .fin neg m e => ⌊(if neg then -(m : ℚ) else (m : ℚ)) * (2 : ℚ) ^ (e - l)⌋
  | _ => 0

/-- The code that a drain makes of an entry: INT32 saturated, a floating format rounded once to nearest even. -/
def drainCode (fmt : Nat) (sat : Bool) (a : Int) (spec : Nat) (l : Int) : Nat :=
  if fmt = 11 then (if spec = 0 then ofSigned 32 (max (-(2 ^ 31)) (min (2 ^ 31 - 1) a)) else 0) else (drainFloat fmt sat a spec l).1

/-- Every byte of the buffer is in memory, and every other byte of memory is as before. -/
def State.bufferIn (s t : State) (buf : Tab Byte) : Prop :=
  (∀ e ∈ buf, t.mem.read e.1 = e.2) ∧ ∀ a, (∀ e ∈ buf, e.1 ≠ a) → t.mem.read a = s.mem.read a

/-- A byte of a placed cell's working partition that the running pattern may write: no undo log holds it (R79, R80, R103). -/
def State.freeByte (s : State) (a : Nat) : Prop :=
  ∃ k, cellAt a = some k ∧ s.cellPlaced k = true ∧ a % 0x1000000 < reachEnd ∧
    s.writableLine (k % 48) (k / 48) (a % 0x1000000 / 64 * 64) = true ∧
    (s.cell (k % 48) (k / 48)).rbound ≤ a % 0x1000000 / 64 * 64

/-- The command writes the elements `es` of tensor `dst`, then makes `after` of the counts: whenever the write succeeds, wherever the
tensor lies; and it does succeed when the tensor lies in working partitions that may be written, leaving every other byte. -/
def State.movesTo (s : State) (i : Instr) (dst : TDesc) (es : List (List Nat × Nat × Nat)) (after : State → State) : Prop :=
  (∀ u, s.writeTensor dst es = .ok u → exec i s = .next (after u)) ∧
  ((∀ e ∈ s.tensorBuf dst es, s.freeByte e.1) →
    ∃ u, exec i s = .next (after u) ∧ s.bufferIn (after u) (s.tensorBuf dst es) ∧ (after u).hbm = s.hbm)

/-- The number of index values outside 0 to n - 1. -/
def outOfRange (vs : List Int) (n : Nat) : Nat := (vs.filter (fun v => decide (v < 0) || decide ((n : Int) ≤ v))).length

/-- The counts of an indexed move: values out of range, those clamped or wrapped, repeated effective indices. -/
def State.indexCounts (s t : State) (vs : List Int) (mode n : Nat) : Prop :=
  t.row = { s.row with
    outrange := s.row.outrange + outOfRange vs n
    idxClamp := s.row.idxClamp + (if mode = 2 then 0 else outOfRange vs n)
    duplicate := s.row.duplicate + duplicates [] (vs.map (fun v => indexMode mode v n)) }


/-- `t` is `s` after 42 V went: the front end is off, the module is off, and of everything else only flash is left, but for change
log records not yet flushed. -/
def State.lostPower (s t : State) : Prop :=
  t.fe.fe = .off ∧ t.dev = .off ∧ t.flash = { s.flash with log := t.flash.log, fullOpen := t.flash.fullOpen } ∧
    t.mem = [] ∧ t.cells = [] ∧ t.pats = [] ∧ t.run = none ∧ t.row = {} ∧ t.sess = [] ∧ t.queues = [] ∧ t.naela = {} ∧
    t.hbm = {} ∧ t.map = {} ∧ t.regs = [] ∧ t.blks = [] ∧ t.start = {} ∧ t.sec = {} ∧ t.hostMem = s.hostMem

/-- `t` is `s` with the running attempt failed for the check failure `a` (R181, R197, R198): the row is aborted with the verdict FAIL
and the failure's suspects, row traffic and engine jobs are gone, memory keeps what the row wrote until the undo, the run goes on. -/
def State.attemptFailed (s t : State) (a : Alarm) : Prop :=
  t.row.phase = .aborted ∧ t.row.failed = true ∧ t.row.alarm = some a ∧ t.row.suspects = allSuspects a ∧
    t.row.num = s.row.num ∧ t.row.attempt = s.row.attempt ∧ t.mem = s.mem ∧ t.run = s.run ∧ t.dev = s.dev ∧
    ∀ k c, Tab.get? t.cells k = some c →
      (c.phase = .idle ∨ c.phase = .ended) ∧ c.mat.q = [] ∧ c.vec.q = [] ∧ c.mov.q = [] ∧ c.syn.q = [] ∧ c.chk.q = [] ∧ c.rx = []

/-- `t` is `s` in SAFE (R317, R377, R431): no row, no run, no command fetched and open, no darning queued, the converter groups off,
memory but for released results as it was. -/
def State.latchedSafe (t : State) : Prop :=
  t.dev = .safe ∧ t.row.phase = .idle ∧ t.run = none ∧ t.host.fetched = [] ∧ t.map.queue = [] ∧ t.map.now = none ∧
    t.power.groupsOff = true

/-- Nothing waits for the module but its grid: no run, no command, no pending write, repair, darning, message or activation; it is in
READY, a group of one. -/
structure State.quietModule (s : State) : Prop where
  fe : s.fe.fe = .on
  dev : s.dev = .ready
  run : s.run = none
  latched : s.latched = []
  fetched : s.host.fetched = []
  ending : s.host.ending = []
  held : s.host.held = []
  now_ : s.map.now = none
  queue : s.map.queue = []
  redo : s.map.redo = []
  sel : s.map.retireSel = []
  phys : ∀ e ∈ s.phys, e.2.pendingLines = []
  regs : ∀ e ∈ s.regs, e.2.alarm = false
  hbm : s.hbm = {}
  lanes : s.row.lanesDue = []
  due : s.row.retireDue = []
  failDue : s.row.heldFail = none
  verdicts : s.row.heldVerdicts = []
  naela : s.naela = {}
  runPend : s.start.runPend = false
  holdPend : s.start.holdPend = false
  bindOff : s.start.bindOffMember = false
  fw : s.sec.fwState ≠ 4
  log : s.flash.log.buffered < 4096
  one : s.grouped = false

/-- One unit waits for its darning and a darning may start: in a waste-yarn row of a module that runs, no pattern loaded. -/
structure State.darnReady (s : State) (u : Lost) (cause : Nat) : Prop where
  fe : s.fe.fe = .on
  dev : s.dev = .running
  phase : s.row.phase = .running
  waste : s.row.waste = true
  pats : s.pats = []
  run : s.run = none
  now_ : s.map.now = none
  queue : s.map.queue = [(u, cause)]
  redo : s.map.redo = []

/-- `t` is `s` with block `b` at `k`, and no other block; only dictionary entries, the change log and what it raises may differ too. -/
def State.blockBecame (s t : State) (b : Nat) (k : Blk) : Prop :=
  t.blk b = k ∧ (∀ c, c ≠ b → Tab.get? t.blks c = Tab.get? s.blks c) ∧
    t = { s with blks := t.blks, obj := t.obj, flash := t.flash, start := t.start, host := t.host, out := t.out } ∧
    t.flash = { s.flash with log := t.flash.log }

/-- A command of queue `q` is at its turn: the device state takes commands, the queue is below 64 and has none in execution or
fetched. -/
def State.turnOf (s : State) (q : Nat) : Prop :=
  s.fe.fe = .on ∧ q < 64 ∧ s.takesCommands = true ∧ s.queueBusy q = false ∧ s.headOf q = none ∧ s.refusesCommands = false

/-- `t` is `s` with one more command of queue `q` ended: CID and OPCODE of the command `c`, STATUS `st`, RESULT `res`. -/
def State.endedCmd (s t : State) (q : Nat) (c : Bytes) (st res : Nat) : Prop :=
  ∃ e, t.host.ending = s.host.ending ++ [e] ∧ e.queue = q ∧ uAt e.bytes 0 2 = cmdCid c ∧ uAt e.bytes 4 1 = st ∧
    uAt e.bytes 6 1 = cmdOpcode c ∧ uAt e.bytes 8 8 = res % 2 ^ 64

/-- A write at this entry is heard, the log has room, the control is enabled, and the module is past the recovery console. -/
def State.mayTry (s : State) (o : Origin) (idx sub : Nat) : Prop :=
  s.answersAt o idx sub = true ∧ s.flash.log.buffered < 3840 ∧ s.start.recovery = false ∧ s.absentEntry idx = false ∧
    (o = .can ∨ o = .cxl ∨ (o = .usb ∧ bit (s.nat 0x2A00 1) 3 = true) ∨ (o = .panel ∧ bit (s.nat 0x2A00 1) (panelKey idx) = true))

/-- A write at this entry meets no rule but the entry's own. -/
def State.mayDo (s : State) (o : Origin) (idx sub : Nat) : Prop :=
  s.mayTry o idx sub ∧ s.mayWrite o idx sub = true ∧ s.writeState idx sub = true

/-- `t` is `s` but for the change log, which is one record of this origin, RESULT and entry longer, what tells of the log, and the
answers sent. -/
def State.oneRecord (s t : State) (o : Origin) (result idx sub : Nat) : Prop :=
  ∃ r : LogRec, r.origin = originCode o ∧ r.result = result ∧ r.idx = idx ∧ r.sub = sub ∧ t.flash.log = s.flash.log.push r ∧
    t = { s with
      flash := { s.flash with log := t.flash.log }, start := { s.start with logSince := true }
      host := { s.host with pendingVec := t.host.pendingVec }, out := t.out, bar2 := t.bar2 }

/-- The origin has received this abort code. -/
def State.answered (t : State) (o : Origin) (abort : Nat) : Prop :=
  (o = .can → ∃ os, t.out = .usdo abort [] :: os) ∧ (o = .cxl → t.bar2.abort = abort ∧ t.bar2.done = true ∧ t.bar2.doneLen = 0) ∧
    (o = .usb → ∃ os, t.out = .usb (consoleErr abort) :: os)

/-- The command is refused with this abort code: nothing changes but the log and the answer. -/
def State.refuses (s : State) (i : Instr) (o : Origin) (idx sub abort : Nat) : Prop :=
  ∃ t, exec i s = .next t ∧ s.oneRecord t o (refusalResult abort) idx sub ∧ t.answered o abort

/-- The row, the cells, memory and the patterns are as before. -/
def State.sameRun (s t : State) : Prop := t.mem = s.mem ∧ t.cells = s.cells ∧ t.row = s.row ∧ t.pats = s.pats

end Sys2Proof.Machine

open Sys2Proof Sys2Proof.Machine

/-! ### The step -/

/-- A step takes the command at the front of the queue and runs it on the state with the queue's rest. -/
def Obligations.StepRunsFrontCommand : Prop :=
  ∀ (c : Instr) (rest : List Instr) (s : State), step { s with pending := c :: rest } = exec c { s with pending := rest }

/-- On an empty queue one tick of 5 ns passes (the model's choice, log entry 3): the model's clock counts it, and with the front
end on and no correction pending device time counts it too. -/
def Obligations.EmptyQueueTicks : Prop :=
  ∀ s : State, s.pending = [] → ∃ t, step s = .next t ∧ t.pending = [] ∧ t.clock = s.clock + 5 ∧ t.mem = s.mem ∧
    t.flash = s.flash ∧ t.dev = s.dev ∧
    (s.fe.fe = .on → s.time.slew = 0 → t.time.dev = (s.time.dev + 5 * 65536) % 2 ^ 80) ∧
    (s.fe.fe ≠ .on → t = { s with clock := s.clock + 5 })

/-- Every well-formed command ends in a next state, whatever the state: no fault, no refusal. A command that names a Naela port that
the variant does not have (12 on the TW60-G, 18 on the TW60) is an event that cannot happen: it faults under a name of its
own. -/
def Obligations.EveryCommandCompletes : Prop :=
  ∀ (c : Instr) (s : State), c.wf = true →
    ((∀ p, c.portNamed = some p → p < s.portCount) → completes c s) ∧
    (∀ p, c.portNamed = some p → s.portCount ≤ p → ∃ what k, exec c s = .fault (.noSuchUnit what k))

/-- With the front end off the module does nothing and answers nothing: but for the inputs that the front end itself watches
(HS_EN, the input, SEAT_SENSE, the eFuse), a well-formed command leaves the state as it was. -/
def Obligations.OffModuleDoesNothing : Prop :=
  ∀ (c : Instr) (s : State), c.wf = true → (∀ p, c.portNamed = some p → p < s.portCount) → s.fe.fe ≠ .on →
    (∀ v, c ≠ .hsEnAssert v) → c ≠ .frontEndOn → c ≠ .hsEnDeassert → c ≠ .seatSenseOpen →
    (∀ v a b, c ≠ .inputMeasurement v a b) → exec c s = .next s

/-! ### CTL descriptors (R124, R125, R98) -/

/-- CTL arithmetic, logic and shifts: s[RD] takes the result modulo 2^64, shifts count modulo 64, SRA is the floor of the signed
quotient, MIN and MAX are signed; a write of s0 has no effect; nothing else but the counter changes.
CMP and CMPI: p[PD] becomes the comparison COND of s[RA] with s[RB] or IMM; a write of p0 has no effect; nothing else but the
counter changes. -/
def Obligations.CtlScalarOperations : Prop :=
  (∀ (x y : Nat) (d : Desc) (s : State), s.cellLive x y → (s.cell x y).s.length = 32 →
      let c := s.cell x y
      let a := c.sr (ctlRa d)
      let b := c.sr (ctlRb d)
      let does (i : Instr) (v : W64) : Prop := ∃ t, exec i s = .next t ∧ s.wroteReg t x y (ctlRd d) v
      (∃ t, exec (.ctlNop x y d) s = .next t ∧ s.wroteReg t x y 0 0) ∧
      does (.ctlLi x y d) (ctlImm d) ∧
      does (.ctlAdd x y d) (BitVec.ofNat 64 (a.toNat + b.toNat)) ∧
      does (.ctlSub x y d) (BitVec.ofInt 64 (a.toInt - b.toInt)) ∧
      does (.ctlMul x y d) (BitVec.ofNat 64 (a.toNat * b.toNat)) ∧
      does (.ctlAnd x y d) (a &&& b) ∧ does (.ctlOr x y d) (a ||| b) ∧ does (.ctlXor x y d) (a ^^^ b) ∧
      does (.ctlShl x y d) (BitVec.ofNat 64 (a.toNat * 2 ^ (b.toNat % 64))) ∧
      does (.ctlShr x y d) (BitVec.ofNat 64 (a.toNat / 2 ^ (b.toNat % 64))) ∧
      does (.ctlSra x y d) (BitVec.ofInt 64 (a.toInt / 2 ^ (b.toNat % 64))) ∧
      does (.ctlAddi x y d) (BitVec.ofNat 64 (a.toNat + (ctlImm d).toNat)) ∧
      does (.ctlMin x y d) (BitVec.ofInt 64 (min a.toInt b.toInt)) ∧
      does (.ctlMax x y d) (BitVec.ofInt 64 (max a.toInt b.toInt))) ∧
  (∀ (x y : Nat) (d : Desc) (s : State), s.cellLive x y → (s.cell x y).p.length = 8 → ctlCond d < 6 →
      let c := s.cell x y
      let a := c.sr (ctlRa d)
      let does (i : Instr) (b : W64) : Prop := ∃ t preds, exec i s = .next t ∧
        t = s.setCell x y { c with p := preds, pc := c.pc + 1 } ∧
        ∀ k < 8, ((t.cell x y).pr k = true ↔ if k = ctlPd d ∧ k ≠ 0 then ctlRelation (ctlCond d) a b else c.pr k = true)
      does (.ctlCmp x y d) (c.sr (ctlRb d)) ∧ does (.ctlCmpi x y d) (ctlImm d))

/-- Control flow within the program: BR jumps by TARGET when p[PS] XOR PNEG is 1, JMP always, LOOP when s[RA] less 1 is not 0, CALL
pushes the next index, RET pops it. -/
def Obligations.CtlJumpsMoveTheCounter : Prop :=
  ∀ (x y : Nat) (d : Desc) (s : State), s.cellLive x y → (s.cell x y).s.length = 32 →
    let c := s.cell x y
    let dest : Int := (c.pc : Int) + ctlTarget d
    0 ≤ dest → dest < s.progLen x y →
    exec (.ctlJmp x y d) s = .next (s.setCell x y { c with pc := dest.toNat }) ∧
    exec (.ctlBr x y d) s =
      .next (s.setCell x y { c with pc := if (c.pr (ctlPs d) ^^ ctlPneg d) then dest.toNat else c.pc + 1 }) ∧
    (∃ t regs, exec (.ctlLoop x y d) s = .next t ∧
      t = s.setCell x y { c with s := regs, pc := if (t.cell x y).sr (ctlRa d) ≠ 0 then dest.toNat else c.pc + 1 } ∧
      ∀ i < 32, (t.cell x y).sr i = if i = ctlRa d ∧ i ≠ 0 then c.sr i - 1 else c.sr i) ∧
    (c.stack.length < 16 →
      exec (.ctlCall x y d) s = .next (s.setCell x y { c with stack := (c.pc + 1) :: c.stack, pc := dest.toNat })) ∧
    (∀ k rest, c.stack = k :: rest → k < s.progLen x y →
      exec (.ctlRet x y d) s = .next (s.setCell x y { c with stack := rest, pc := k }))

/-- Structural faults abort the row, to be undone, and name the cell: a jump that leaves the program raises ADDRESS_FAULT, a CALL on a
full stack and a RET on an empty one STACK_FAULT, a STREAM with no WLOAD before it in the row PAIR_FAULT, a scalar access whose offset is
not a multiple of 8 MISALIGN_FAULT; memory keeps what the row has written until it is undone. -/
def Obligations.StructuralFaultsAbortTheRow : Prop :=
  ∀ (x y : Nat) (d : Desc) (s : State), s.cellLive x y →
    let c := s.cell x y
    let dest : Int := (c.pc : Int) + ctlTarget d
    let faults (i : Instr) (f : StructFault) : Prop := ∃ t, exec i s = .next t ∧ t.row.phase = .aborted ∧
      t.row.failed = true ∧ t.row.fault = some f ∧ t.row.faultAt = (x, y) ∧ t.mem = s.mem ∧ t.run = s.run
    ((dest < 0 ∨ (s.progLen x y : Int) ≤ dest) → faults (.ctlJmp x y d) .address) ∧
    (16 ≤ c.stack.length → faults (.ctlCall x y d) .stack) ∧
    (c.stack = [] → faults (.ctlRet x y d) .stack) ∧
    (c.shadow = none → c.weights = none → faults (.matStream x y d) .pair) ∧
    ((c.sr (ctlRa d) + ctlImm d).toNat % 8 ≠ 0 → faults (.ctlLd x y d) .misalign ∧ faults (.ctlSt x y d) .misalign)

/-- LD reads the 64-bit little-endian word at s[RA] + IMM into s[RD]; ST writes s[RB] there, and no other byte of memory.
A scalar store to a resident line is undo-logged: whatever ST writes, undoing the row gives the resident bytes of the cell
back. -/
def Obligations.CtlLoadsAndLoggedStores : Prop :=
  (∀ (x y : Nat) (d : Desc) (s : State), s.cellLive x y → (s.cell x y).s.length = 32 →
      let c := s.cell x y
      let o := (c.sr (ctlRa d) + ctlImm d).toNat
      o % 8 = 0 → o + 8 ≤ reachEnd →
      (∃ t, exec (.ctlLd x y d) s = .next t ∧
        s.wroteReg t x y (ctlRd d) (BitVec.ofNat 64 (ofLe (s.scratch x y o 8)))) ∧
      (s.canWrite x y o 8 → ∃ t u, exec (.ctlSt x y d) s = .next t ∧ s.cellWrote u x y o (le 8 (c.sr (ctlRb d)).toNat) ∧
        t = u.setCell x y { u.cell x y with pc := c.pc + 1 })) ∧
  (∀ (x y : Nat) (d : Desc) (s : State), s.cellLive x y → (s.cell x y).undo = [] →
      let c := s.cell x y
      let o := (c.sr (ctlRa d) + ctlImm d).toNat
      o % 8 = 0 → o + 8 ≤ c.rbound → s.canWrite x y o 8 →
      ∃ t, exec (.ctlSt x y d) s = .next t ∧ (t.cell x y).undo = [(o / 64 * 64, s.scratch x y (o / 64 * 64) 64)] ∧
        ∀ a, Mem.read (restoreLines (cellBase x y) t.mem (t.cell x y).undo) a = s.mem.read a)


/-- END: the sequencer stops fetching; END completes once every queue of the cell is empty, every descriptor has completed, every
loose request is answered and every UPD job done, with no changed tile that fails its compare and nothing of a stream left over,
and the cell then is waste yarn (its verdict may go to the group); until then it waits. -/
def Obligations.CtlEndWaitsForQuiet : Prop :=
  ∀ (x y : Nat) (d : Desc) (s : State), s.cellLive x y → (s.cell x y).phase = .running →
    ((s.cell x y).quiet = false →
      exec (.ctlEnd x y d) s = .next (s.setCell x y { s.cell x y with phase := .endFetched })) ∧
    ((s.cell x y).quiet = true → (s.cell x y).acc.any (fun e => e.2.changed && !e.2.ckOk) = false →
      s.unposted x y = false → s.grouped = false →
      ∃ t, exec (.ctlEnd x y d) s = .next t ∧ (t.cell x y) = { s.cell x y with phase := .ended } ∧
        t = { s with cells := t.cells } ∧ ∀ k, k ≠ cellNo x y → Tab.get? t.cells k = Tab.get? s.cells k)

/-! ### VEC descriptors (R49 to R56, R75, R76, R117) -/

/-- ADD, SUB, MUL, FMA, DIV, SQRT, MIN, MAX, CMP, AND, OR, XOR: each element of the destination is the operation on the elements of
the sources at its place, in the formats R117 allows; nothing else of the cell's scratchpad changes, and each saturation counts
once in the clamp count.
SQRT, CONVERT, EXP, LOG, RECIP, RSQRT, TANH, SIGMOID, ERF over their one source, and SELECT, B where the INT8 mask is not 0,
else C. -/
def Obligations.VecElementOperations : Prop :=
  (∀ (x y : Nat) (d : Desc) (s : State) (oa od : Nat) (bs : List Nat), s.cellLive x y →
      let n := vN d
      let c := vSfmt d
      let as := s.elemsAt x y oa c n
      s.operandAt x y (fld d 183 160) (n * vBytes c) oa → s.sourceB x y d c n bs →
      s.operandAt x y (fld d 111 88) 0 od →
      let does (i : Instr) (w : Nat) (rs : List (Nat × Bool)) : Prop :=
        s.canWrite x y od (pack w (rs.map (·.1))).length →
        ∃ t, exec i s = .next t ∧ s.cellWrote t x y od (pack w (rs.map (·.1))) ∧
          t.row = s.row.counted 0 0 (rs.filter (·.2)).length 0
      (c ∈ [8, 9, 10, 11] → vDfmt d = c →
        does (.vecAdd x y d) (fmtWidth c) (List.zipWith (fun a b => vAdd c (vSat d) a b) as bs) ∧
        does (.vecSub x y d) (fmtWidth c) (List.zipWith (fun a b => vSub c (vSat d) a b) as bs) ∧
        does (.vecMul x y d) (fmtWidth c) (List.zipWith (fun a b => vMul c (vSat d) a b) as bs) ∧
        does (.vecMin x y d) (fmtWidth c) (List.zipWith (fun a b => vMin c a b) as bs) ∧
        does (.vecMax x y d) (fmtWidth c) (List.zipWith (fun a b => vMax c a b) as bs)) ∧
      (c ∈ [8, 9, 10, 11] → vDfmt d = 8 → fld d 52 50 < 7 →
        does (.vecCmp x y d) 8 (List.zipWith (fun a b => vCmp c (fld d 52 50) a b) as bs)) ∧
      (c ∈ [9, 10] → vDfmt d = c →
        does (.vecDiv x y d) (fmtWidth c) (List.zipWith (fun a b => vDiv c a b) as bs) ∧
        (∀ oc, s.operandAt x y (fld d 135 112) (n * vBytes c) oc →
          does (.vecFma x y d) (fmtWidth c)
            (List.zipWith (fun ab e => vFma c ab.1 ab.2 e) (as.zip bs) (s.elemsAt x y oc c n)))) ∧
      (c ∈ [8, 11] → vDfmt d = c →
        does (.vecAnd x y d) (fmtWidth c) (List.zipWith (fun a b => (a &&& b, false)) as bs) ∧
        does (.vecOr x y d) (fmtWidth c) (List.zipWith (fun a b => (a ||| b, false)) as bs) ∧
        does (.vecXor x y d) (fmtWidth c) (List.zipWith (fun a b => (a ^^^ b, false)) as bs))) ∧
  (∀ (x y : Nat) (d : Desc) (s : State) (oa od : Nat), s.cellLive x y →
      let n := vN d
      let c := vSfmt d
      let t' := vDfmt d
      let as := s.elemsAt x y oa c n
      s.operandAt x y (fld d 183 160) (n * vBytes c) oa → s.operandAt x y (fld d 111 88) 0 od →
      let does (i : Instr) (rs : List (Nat × Bool)) : Prop :=
        s.canWrite x y od (pack (fmtWidth t') (rs.map (·.1))).length →
        ∃ t, exec i s = .next t ∧ s.cellWrote t x y od (pack (fmtWidth t') (rs.map (·.1))) ∧
          t.row = s.row.counted 0 0 (rs.filter (·.2)).length 0
      (c ∈ [9, 10] → t' = c →
        does (.vecSqrt x y d) (as.map (vSqrt c)) ∧
        does (.vecExp x y d) (as.map (fun a => (fnExp c a, false))) ∧
        does (.vecLog x y d) (as.map (fun a => (fnLog c a, false))) ∧
        does (.vecRecip x y d) (as.map (fun a => (fnRecip c a, false))) ∧
        does (.vecRsqrt x y d) (as.map (fun a => (fnRsqrt c a, false))) ∧
        does (.vecTanh x y d) (as.map (fun a => (fnTanh c a, false))) ∧
        does (.vecSigmoid x y d) (as.map (fun a => (fnSigmoid c a, false))) ∧
        does (.vecErf x y d) (as.map (fun a => (fnErf c a, false)))) ∧
      (c ∈ [8, 9, 10, 11] → t' ∈ [8, 9, 10, 11] →
        does (.vecConvert x y d) (as.map (vConvert c t' (fld d 48 48 == 1)))) ∧
      (c = 8 → t' ∈ [8, 9, 10, 11] → ∀ (oc : Nat) (bs : List Nat), s.sourceB x y d t' n bs →
        s.operandAt x y (fld d 135 112) (n * vBytes t') oc →
        does (.vecSelect x y d)
          (List.zipWith (fun ab e => (if ab.1 ≠ 0 then ab.2 else e, false)) (as.zip bs) (s.elemsAt x y oc t' n))))


/-- INT32 add, subtract and multiply wrap modulo 2^32 unless saturation is selected; every INT8 operation saturates. -/
def Obligations.IntegerArithmeticWrapsOrSaturates : Prop :=
  ∀ (a b : Nat) (sat : Bool), a < 2 ^ 32 → b < 2 ^ 32 →
    let sgn (v : Nat) : Int := if v < 2 ^ 31 then (v : Int) else (v : Int) - 2 ^ 32
    let fits (v : Int) : Prop := -(2 ^ 31) ≤ v ∧ v < 2 ^ 31
    let rule (r : Nat × Bool) (v : Int) : Prop :=
      (sat = false → (r.1 : Int) = v % 2 ^ 32 ∧ r.2 = false) ∧
      (sat = true → (fits v → (r.1 : Int) = v % 2 ^ 32 ∧ r.2 = false) ∧
        (v < -(2 ^ 31) → r = (0x80000000, true)) ∧ (2 ^ 31 ≤ v → r = (0x7FFFFFFF, true)))
    rule (vAdd 11 sat a b) (sgn a + sgn b) ∧ rule (vSub 11 sat a b) (sgn a - sgn b) ∧
    rule (vMul 11 sat a b) (sgn a * sgn b) ∧
    (a < 256 → b < 256 →
      let sg8 (v : Nat) : Int := if v < 128 then (v : Int) else (v : Int) - 256
      vAdd 8 sat a b = ((max (-128) (min 127 (sg8 a + sg8 b)) % 256).toNat, decide (sg8 a + sg8 b < -128 ∨ 127 < sg8 a + sg8 b)) ∧
      vSub 8 sat a b = ((max (-128) (min 127 (sg8 a - sg8 b)) % 256).toNat, decide (sg8 a - sg8 b < -128 ∨ 127 < sg8 a - sg8 b)) ∧
      vMul 8 sat a b = ((max (-128) (min 127 (sg8 a * sg8 b)) % 256).toNat, decide (sg8 a * sg8 b < -128 ∨ 127 < sg8 a * sg8 b)))

/-- SUM writes the exact sum rounded once, or its unconverted form as a tile; RMAX, RMIN, ARGMAX and ARGMIN the extreme element or
its index. A SUM that overflows counts an OVERFLOW tile, one whose cut-off loses bits an INEXACT tile, one that saturates a
clamp. -/
def Obligations.VecReductions : Prop :=
  ∀ (x y : Nat) (d : Desc) (s : State) (oa od : Nat), s.cellLive x y →
    let n := vN d
    let c := vSfmt d
    let es := s.elemsAt x y oa c n
    let e := exactSum c es
    let lost := if e.lost then 1 else 0
    s.operandAt x y (fld d 183 160) (n * vBytes c) oa → s.operandAt x y (fld d 111 88) 0 od →
    c ∈ [8, 9, 10, 11] → n ≤ 2 ^ 24 →
    let does (i : Instr) (bs : Bytes) (row : RowSt) : Prop :=
      s.canWrite x y od bs.length → ∃ t, exec i s = .next t ∧ s.cellWrote t x y od bs ∧ t.row = row
    (vDfmt d = c →
      does (.vecSum x y d) (pack (fmtWidth c) [(sumResult c (vSat d) e).1])
        (s.row.counted lost (if (sumResult c (vSat d) e).2.1 then 1 else 0) (if (sumResult c (vSat d) e).2.2 then 1 else 0) 0)) ∧
    (vDfmt d = 12 → does (.vecSum x y d) (sumTile e n) (s.row.counted lost 0 0 0)) ∧
    (vDfmt d = c →
      does (.vecRmax x y d) (pack (fmtWidth c) [canon c (es.getD (argOf true c es) 0)]) s.row ∧
      does (.vecRmin x y d) (pack (fmtWidth c) [canon c (es.getD (argOf false c es) 0)]) s.row) ∧
    (vDfmt d = 11 →
      does (.vecArgmax x y d) (pack 32 [argOf true c es]) s.row ∧
      does (.vecArgmin x y d) (pack 32 [argOf false c es]) s.row)

/-- SORT and TOPK order their keys stably: the indices are a permutation of the places, the keys run in the order asked, and equal
keys keep their input order in both directions.
SORT writes its keys in order at DADDR, and its values, moved with their keys, from the first 64-byte boundary at or after them; TOPK
writes the first k keys and their INT32 indices so; k above 1,024 or the element count is clamped and counted. -/
def Obligations.VecSortAndTopkAreStable : Prop :=
  (∀ (c : Nat) (desc : Bool) (keys : List Nat),
      let o := sortedIdx c desc keys
      let k (i : Nat) : Int := orderKey c (keys.getD i 0)
      List.Perm o (List.range keys.length) ∧
      o.Pairwise (fun i j => (if desc then k j ≤ k i else k i ≤ k j) ∧ (k i = k j → i < j))) ∧
  (∀ (x y : Nat) (d : Desc) (s : State) (oa od : Nat), s.cellLive x y →
      let n := vN d
      let c := vSfmt d
      let ks := s.elemsAt x y oa c n
      let o := sortedIdx c (fld d 47 47 == 1) ks
      let k := fld d 45 35 + 1
      let k' := min k (min 1024 n)
      let after (keys : Nat) : Nat := cdiv (od + keys * vBytes c) 64 * 64
      s.operandAt x y (fld d 183 160) (n * vBytes c) oa → s.operandAt x y (fld d 111 88) 0 od →
      c ∈ [9, 10, 11] → vDfmt d = c →
      (n ≤ 65536 → fld d 46 46 = 0 → s.canWrite x y od (n * vBytes c) →
        ∃ t, exec (.vecSort x y d) s = .next t ∧ s.cellWrote t x y od (pack (fmtWidth c) (o.map (fun i => ks.getD i 0)))) ∧
      (n ≤ 65536 → fld d 46 46 = 1 → ∀ ov, s.operandAt x y (fld d 159 136) (n * 4) ov →
        s.canWrite x y od (after n + n * 4 - od) →
        ∃ t, exec (.vecSort x y d) s = .next t ∧
          t.scratch x y od (n * vBytes c) = pack (fmtWidth c) (o.map (fun i => ks.getD i 0)) ∧
          t.scratch x y (after n) (n * 4) =
            pack 32 (o.map (fun i => (s.elemsAt x y ov 11 n).getD i 0))) ∧
      (n ≤ 2 ^ 24 → s.canWrite x y od (after k' + k' * 4 - od) →
        ∃ t, exec (.vecTopk x y d) s = .next t ∧
          t.scratch x y od (k' * vBytes c) = pack (fmtWidth c) ((o.take k').map (fun i => ks.getD i 0)) ∧
          t.scratch x y (after k') (k' * 4) = pack 32 (o.take k') ∧
          t.row = s.row.counted 0 0 (if k' = k then 0 else 1) 0))


/-- Philox4x32-10: ten rounds from the counter's and the key's words, low word first; the known answer for key and counter 0.
PHILOX: element e of a draw is word e mod 4 of counter base + e / 4, modulo 2^128, raw or as a uniform. -/
def Obligations.PhiloxDraws : Prop :=
  philox 0 0 = [0x6627E8D5, 0xE169C58D, 0xBC57AC4C, 0x9B00DBD8] ∧
  (∀ key ctr : Nat, ∃ c : Nat → Nat → Nat, (∀ i < 4, c 0 i = ctr / 2 ^ (32 * i) % 2 ^ 32) ∧
    (∀ r < 10,
      let k0 := (key % 2 ^ 32 + r * 0x9E3779B9) % 2 ^ 32
      let k1 := (key / 2 ^ 32 % 2 ^ 32 + r * 0xBB67AE85) % 2 ^ 32
      let p := 0xD2511F53 * c r 0
      let p' := 0xCD9E8D57 * c r 2
      c (r + 1) 0 = (p' / 2 ^ 32) ^^^ c r 1 ^^^ k0 ∧ c (r + 1) 1 = p' % 2 ^ 32 ∧
        c (r + 1) 2 = (p / 2 ^ 32) ^^^ c r 3 ^^^ k1 ∧ c (r + 1) 3 = p % 2 ^ 32) ∧
    philox key ctr = [c 10 0, c 10 1, c 10 2, c 10 3]) ∧
  ∀ (x y : Nat) (d : Desc) (s : State) (od : Nat), s.cellLive x y → vSfmt d = 0 →
    ((fld d 34 33 = 0 ∧ vDfmt d = 11) ∨ ((fld d 34 33 = 1 ∨ fld d 34 33 = 2) ∧ (vDfmt d = 9 ∨ vDfmt d = 10))) →
    s.operandAt x y (fld d 111 88) 0 od →
    let r := (s.cell x y).s
    let key := sreg r (fld d 183 160 / 524288)
    let base := sreg r (fld d 159 136 / 524288) + sreg r (fld d 135 112 / 524288) * 2 ^ 64
    let words := (List.range (vN d)).map (fun e =>
      uniformOf (fld d 34 33) (vDfmt d) ((philox key ((base + e / 4) % 2 ^ 128)).getD (e % 4) 0))
    s.canWrite x y od (pack (fmtWidth (vDfmt d)) words).length →
    ∃ t, exec (.vecPhilox x y d) s = .next t ∧ s.cellWrote t x y od (pack (fmtWidth (vDfmt d)) words) ∧ t.row = s.row

/-! ### MAT descriptors (R37, R41 to R44, R62 to R68, R116) -/

/-- WLOAD fills the shadow weight register with the tile it reads, its format and its valid K and N, and leaves the weights in the
positions alone.
STREAM swaps the shadow register in and adds, at every entry of its rows and effective columns, the products cut at the window
bottom toward minus infinity, as integers; from zero when ZERO is set or the tile is empty. Entries at or beyond the effective valid N,
and everything else of the module, stay. -/
def Obligations.MatWloadAndStream : Prop :=
  (∀ (x y : Nat) (d : Desc) (s : State) (ow os : Nat), s.cellLive x y →
      let fmt := fld d 135 132
      let vk := fld d 131 126 + 1
      let vn := fld d 125 121 + 1
      let n := (vk - 1) * 32 + vn
      let ns := (cdiv vk 32 - 1) * 32 + vn
      fmt < 10 → s.operandAt x y (fld d 183 160) (cdiv (n * fmtWidth fmt) 8) ow →
      (fmtMx fmt = true → s.operandAt x y (fld d 159 136) ns os) →
      let w : WTile := { fmt := fmt, vk := vk, vn := vn
                         codes := unpack (fmtWidth fmt) n (s.scratch x y ow (cdiv (n * fmtWidth fmt) 8))
                         scales := if fmtMx fmt then (s.scratch x y os ns).map (·.toNat) else []
                         load := d, regs := (s.cell x y).s }
      exec (.matWload x y d) s = .next (s.setCell x y { s.cell x y with shadow := some w })) ∧
  (∀ (x y : Nat) (d : Desc) (s : State) (w : WTile) (tk oa os gr gc : Nat), s.cellLive x y →
      let c := (s.cell x y).swap
      let fmt := fld d 87 84
      let m := fld d 83 73 + 1
      let ktotal := fld d 62 38
      let kk := min (fld d 37 32 + 1) w.vk
      let nn := min (fld d 31 27 + 1) w.vn
      let na := cdiv (((m - 1) * tk + kk) * fmtWidth fmt) 8
      let ns := (m - 1) * (tk / 32) + cdiv kk 32
      let gauges (o n : Nat) : List Int := (List.range n).map (fun i => toSigned 16 (uAt (s.scratch x y o (64 + 2 * n)) (64 + 2 * i) 2))
      let o := streamOf d (s.cell x y).s w tk (s.scratch x y oa na) (if fmtMx fmt then (s.scratch x y os ns).map (·.toNat) else [])
        (if fmt = 8 then List.replicate m noGauge else gauges gr m) (if fmt = 8 then List.replicate nn noGauge else gauges gc nn)
      c.weights = some w → pairTileK fmt w.fmt = some tk → fld d 37 32 + 1 ≤ tk → w.vk ≤ tk → 1 ≤ ktotal → ktotal ≤ 2 ^ 24 →
      fld d 72 64 + cdiv m 4 ≤ 512 → s.operandAt x y (fld d 183 160) na oa → (fmtMx fmt = true → s.operandAt x y (fld d 159 136) ns os) →
      (fmt = 8 → fld d 135 112 = 0 ∧ fld d 111 88 = 0) →
      (fmt ≠ 8 → s.operandAt x y (fld d 135 112) (64 + 2 * m) gr ∧ uAt (s.scratch x y gr (64 + 2 * m)) 0 4 = ktotal ∧
        s.operandAt x y (fld d 111 88) (64 + 2 * nn) gc ∧ uAt (s.scratch x y gc (64 + 2 * nn)) 0 4 = ktotal) →
      (∀ i < o.m, o.mismatch (c.tile (o.key i)) i = false) →
      ∃ t, exec (.matStream x y d) s = .next t ∧ t = s.setCell x y (t.cell x y) ∧
        (t.cell x y).weights = some w ∧ (t.cell x y).shadow = none ∧
        ∀ i < o.m,
          let old := c.tile (o.key i)
          let new := (t.cell x y).tile (o.key i)
          let row := o.accRow i % 32
          (∀ n < o.nn,
            let ps := List.zipWith Sys2Proof.Num.mul (o.acts.getD i []) (o.wcols.getD n [])
            let l := if o.afmt = 8 then 0 else windowL (o.rowG.getD i noGauge) (o.colG.getD n noGauge)
            let e : AccEnt := if o.zero || old.empty then {} else old.ent row n
            new.ent row n = accEnt (e.a + (ps.map (floorAt l)).sum)
              (specJoin e.spec (ps.foldl (fun v p => specJoin v (specOf p)) 0))) ∧
          (∀ n, o.nn ≤ n → n < 32 → new.ent row n = old.ent row n) ∧
          new.ktotal = o.ktotal ∧
          new.window = if o.zero || old.empty then (if o.afmt = 8 then 2 else 1) else old.window)


/-- DRAIN in natural order to a format without block scales writes the rows of every ply, 32 elements each, and no other byte; without
KEEP the drained tiles are left empty, with KEEP they keep their entries. A row of an empty tile is written as zeros. -/
def Obligations.MatDrainWritesRows : Prop :=
  ∀ (x y : Nat) (d : Desc) (s : State) (od : Nat), s.cellLive x y → fld d 135 128 = 0 →
    let c := s.cell x y
    let base := fld d 159 151
    let n := fld d 150 142 + 1
    let fmt := fld d 141 138
    let sat := fld d 137 137 == 1
    let keys := drainKeys base n
    let codes := (List.range 4).flatMap (fun p => (List.range n).flatMap (fun j => (List.range 32).map (fun k =>
      let t := c.tile (tileKey p (base + j))
      let e := t.ent ((base + j) % 32) k
      if t.empty then 0 else drainCode fmt sat e.a e.spec (t.l ((base + j) % 32) k))))
    base + n ≤ 512 → fmt < 12 → fmtMx fmt = false → c.drainFmtOk keys fmt = true → c.drainCheck keys = none →
    s.operandAt x y (fld d 183 160) 0 od → s.canWrite x y od (pack (fmtWidth fmt) codes).length →
    ∃ t, exec (.matDrain x y d) s = .next t ∧
      t.scratch x y od (pack (fmtWidth fmt) codes).length = pack (fmtWidth fmt) codes ∧
      (∀ a, a < cellBase x y + od ∨ cellBase x y + od + (pack (fmtWidth fmt) codes).length ≤ a → t.mem.read a = s.mem.read a) ∧
      (∀ k ∈ keys, (fld d 136 136 = 0 → (t.cell x y).tile k = {}) ∧
        (fld d 136 136 = 1 → ((t.cell x y).tile k).ents = (c.tile k).ents)) ∧
      (∀ k, k ∉ keys → (t.cell x y).tile k = c.tile k)

/-- GAUGE writes the header with KTOTAL and, per row or column, the largest gauge of its blocks or elements; GCOMBINE the element-wise
maximum of two vectors and the sum of their KTOTALs. -/
def Obligations.MatGaugeVectors : Prop :=
  ∀ (x y : Nat) (d : Desc) (s : State) (oa ob od : Nat), s.cellLive x y →
    (let fmt := fld d 135 132
      let n := fld d 130 118 + 1
      let kp := fld d 117 93
      let tk := if fld d 92 92 = 1 then 64 else 32
      let w := if fmtMx fmt then 8 else fmtWidth fmt
      let idx := (List.range n).map (gaugeTerms (fmtMx fmt) (fld d 131 131 == 1) tk n kp)
      let top := (idx.map (fun l => l.foldl max 0)).foldl max 0
      let code (i : Nat) : Nat := (unpack w (top + 1) (s.scratch x y oa (cdiv ((top + 1) * w) 8))).getD i 0
      let gs := idx.map (fun l => (l.map (fun i => if fmtMx fmt then gaugeBlock fmt (code i) else gaugeElem fmt (code i))).foldl
        max noGauge)
      fmt < 10 → fmt ≠ 8 → (tk = 64 → halfFmt fmt = true) → 1 ≤ kp → kp ≤ 2 ^ 24 →
      s.operandAt x y (fld d 183 160) (cdiv ((top + 1) * w) 8) oa → s.operandAt x y (fld d 159 136) 0 od →
      s.canWrite x y od (gaugeBytes kp gs).length →
      ∃ t, exec (.matGauge x y d) s = .next t ∧ s.cellWrote t x y od (gaugeBytes kp gs) ∧ t.row = s.row) ∧
    (let n := fld d 111 99 + 1
      let g (o i : Nat) : Int := toSigned 16 (uAt (s.scratch x y o (64 + 2 * n)) (64 + 2 * i) 2)
      let kt (o : Nat) : Nat := uAt (s.scratch x y o (64 + 2 * n)) 0 4
      let out := gaugeBytes (kt oa + kt ob) ((List.range n).map (fun i => max (g oa i) (g ob i)))
      s.operandAt x y (fld d 183 160) (64 + 2 * n) oa → s.operandAt x y (fld d 159 136) (64 + 2 * n) ob →
      s.operandAt x y (fld d 135 112) 0 od → kt oa + kt ob ≤ 2 ^ 24 → s.canWrite x y od out.length →
      ∃ t, exec (.matGcombine x y d) s = .next t ∧ s.cellWrote t x y od out ∧ t.row = s.row)

/-! ### MOV descriptors (R118, R154 to R179) -/

/-- COPY and PERMUTE write at every index of the destination the element that the source held, before any of it is written, at the
permuted index k[PERM[i]] = j[i]. RESHARD: a cell outside the source rectangle sends nothing; a cell inside sends every destination cell
its elements, read before any is written, but those that elements of other cells overwrite in the bytes they share; the cell has then
run its part. A destination whose elements R167 forbids raises TENSOR_FAULT.
GATHER reads, at each destination index, the source slice that the index tensor names under the index mode (CLAMP, WRAP; zero under
ZERO); SCATTER writes the source slices so, index positions in rising order; SCATTER_ADD writes, at each destination index that any source
element reaches, the exact sum of the old value and the contributions, rounded once. All count what R174 says, SCATTER_ADD one INEXACT when
bits are dropped and a clamp per saturated element. -/
def Obligations.MovMovesElements : Prop :=
  ((∀ (x y : Nat) (d : Desc) (s : State) (src dst : TDesc), s.cellLive x y →
      s.readTDesc x y (s.cell x y).s (fld d 183 160) = .ok src → s.readTDesc x y (s.cell x y).s (fld d 159 136) = .ok dst →
      (s.checkTensors [src, dst] [src] (copyRulesOk src dst permId) = .ok () →
        s.movesTo (.movCopy x y d) dst ((indices dst.dims).map (fun j => (j, s.peekElem src (permIndex permId j)))) id) ∧
      (s.checkTensors [src, dst] [src] (copyRulesOk src dst (permOf (fld d 106 95))) = .ok () →
        s.movesTo (.movPermute x y d) dst
          ((indices dst.dims).map (fun j => (j, s.peekElem src (permIndex (permOf (fld d 106 95)) j)))) id)) ∧
    (∀ (x y : Nat) (d : Desc) (s : State) (p : Pattern) (src dst : MapTable), s.cellLive x y → s.runPattern = some p →
      findMap p.mapTab (fld d 94 83) = some src → findMap p.mapTab (fld d 82 71) = some dst →
      hasPlan p.mapTab (fld d 94 83) (fld d 82 71) = true →
      let done (u : State) : State := u.setCell x y { u.cell x y with
        resharded := (fld d 94 83, fld d 82 71) :: (u.cell x y).resharded }
      (dst.unwritable = true → ∃ t, exec (.movReshard x y d) s = .next t ∧ t.row.phase = .aborted ∧ t.row.fault = some .tensor ∧
        t.mem = s.mem) ∧
      (dst.unwritable = false → src.qOf x y = none → exec (.movReshard x y d) s = .next (done s)) ∧
      (∀ q, dst.unwritable = false → src.qOf x y = some q →
        (∀ u, s.reshardFrom src dst q = .ok u → exec (.movReshard x y d) s = .next (done u)) ∧
        (∀ es, es = (dst.shardDesc 0).standing (s.shardElems src dst q 0) → dst.cells = 1 → es ≠ [] →
          s.movesTo (.movReshard x y d) (dst.shardDesc 0) es done)))) ∧
  ((∀ (x y : Nat) (d : Desc) (s : State) (src dst idx : TDesc), s.cellLive x y →
      let axis := fld d 111 109
      let mode := fld d 108 107
      let vs := s.readIndices idx
      s.readTDesc x y (s.cell x y).s (fld d 183 160) = .ok src → s.readTDesc x y (s.cell x y).s (fld d 159 136) = .ok dst →
      s.readTDesc x y (s.cell x y).s (fld d 135 112) = .ok idx →
      (s.checkTensors [src, dst, idx] [src, idx] (indexedRulesOk src dst dst idx axis mode) = .ok () →
        s.movesTo (.movGather x y d) dst
          ((indices dst.dims).map (fun j => match indexMode mode (vs.getD (j.getD axis 0) 0) (src.dim axis) with
            | some k => (j, s.peekElem src (j.set axis k))
            | none => (j, 0, 0)))
          (fun u => u.countIndices vs mode (src.dim axis))) ∧
      (s.checkTensors [src, dst, idx] [src, idx] (indexedRulesOk src dst src idx axis mode) = .ok () →
        s.movesTo (.movScatter x y d) dst (s.scatterElems src vs axis mode (dst.dim axis))
          (fun u => u.countIndices vs mode (dst.dim axis))) ∧
      (∀ n, s.indexCounts (s.countIndices vs mode n) vs mode n)) ∧
    (∀ (x y : Nat) (d : Desc) (s : State) (src dst idx : TDesc), s.cellLive x y →
      let axis := fld d 111 109
      let mode := fld d 108 107
      let vs := s.readIndices idx
      let cs := s.scatterElems src vs axis mode (dst.dim axis)
      let js := (indices dst.dims).filter (fun j => cs.any (fun e => e.1 == j))
      let sum (j : List Nat) : Nat × Bool × Bool :=
        scatterSum src.fmt ((s.peekElem dst j).1 :: (cs.filter (fun e => e.1 == j)).map (fun e => e.2.1))
      s.readTDesc x y (s.cell x y).s (fld d 183 160) = .ok src → s.readTDesc x y (s.cell x y).s (fld d 159 136) = .ok dst →
      s.readTDesc x y (s.cell x y).s (fld d 135 112) = .ok idx →
      s.checkTensors [src, dst, idx] [src, dst, idx]
        (indexedRulesOk src dst src idx axis mode && [9, 10, 11].contains src.fmt) = .ok () →
      s.movesTo (.movScatterAdd x y d) dst (js.map (fun j => (j, (sum j).1, 0)))
        (fun u => (u.countIndices vs mode (dst.dim axis)).countRow (inexact := if js.any (fun j => (sum j).2.1) then 1 else 0)
          (clamps := (js.filter (fun j => (sum j).2.2)).length))))

/-! ### CHK, SMP, HNT (R120, R122, R187, R188, R237, R238, R308) -/

/-- CHK INSERT writes the record of the tile at TADDR at CADDR: the operand checksum record of an activation or weight tile, or the
partial-sum record of a tile in exact or packed form. CHK VERIFY recomputes it: agreement leaves the state alone, any difference fails the
row with OPERAND_MISMATCH, or VERIFY_MISMATCH for a partial sum. A VERIFY that names the drained copy of a tile which differs from its
checksum register fails it with ACCUM_MISMATCH. -/
def Obligations.ChkInsertAndVerify : Prop :=
  (∀ (x y : Nat) (d : Desc) (s : State) (ot oc : Nat), s.cellLive x y → chkOk d = true →
    s.operandAt x y (fld d 159 136) 0 oc →
    let does (b : Bytes) : Prop := s.canWrite x y oc b.length →
      ∃ t, exec (.chkInsert x y d) s = .next t ∧ s.cellWrote t x y oc b ∧ t.row = s.row
    (chkKind d ≠ 2 → s.operandAt x y (fld d 183 160) (cdiv (operandBytes d) 64 * 64 + scaleBytes d) ot →
      does (operandRecord d x y (s.scratch x y ot (operandBytes d))
        (s.scratch x y (ot + cdiv (operandBytes d) 64 * 64) (scaleBytes d)))) ∧
    (chkKind d = 2 → chkPacked d = false → s.operandAt x y (fld d 183 160) 16576 ot →
      does ((exactTile (s.scratch x y ot 16576)).exactRecord x y)) ∧
    (chkKind d = 2 → chkPacked d = true → s.operandAt x y (fld d 183 160) (chkRows d * 128) ot →
      does (packedRecord (unpack 32 (chkRows d * 32) (s.scratch x y ot (chkRows d * 128))) (chkRows d - 1) (chkCols d - 1) x y))) ∧
  (∀ (x y : Nat) (d : Desc) (s : State) (ot oc : Nat) (same : Bool), s.cellLive x y → chkOk d = true →
    s.operandAt x y (fld d 183 160) 0 ot → s.operandAt x y (fld d 159 136) (chkRecordLen d) oc →
    s.chkAgrees x y (s.cell x y).s d (s.scratch x y oc (chkRecordLen d)) = .ok same →
    let fails (cause : Nat) : Prop := s.row.waste = false → ∃ t a, exec (.chkVerify x y d) s = .next t ∧ t.row.phase = .aborted ∧
      t.row.alarm = some a ∧ a.cause = cause ∧ (a.x, a.y) = (x, y) ∧ t.mem = s.mem
    let copyAt := Tab.get? (s.cell x y).copies ot
    (∀ k, chkKind d = 2 → copyAt = some k → ((s.cell x y).tile k).ckOk = false → fails 0x12) ∧
    ((∀ k, chkKind d = 2 → copyAt = some k → ((s.cell x y).tile k).ckOk = true) →
      (same = true → exec (.chkVerify x y d) s = .next s) ∧ (same = false → fails (if chkKind d = 2 then 0x13 else 0x14))))

/-- SMP SAMPLE of one session reads its logits and its record and writes its token, counting clamped fields and NaN logits; of more
sessions, it is the same done one session after another. -/
def Obligations.SmpSampleWritesTokens : Prop :=
  ∀ (x y : Nat) (d : Desc) (s : State) (ol op ot : Nat), s.cellLive x y →
    let c := fld d 78 75
    let n := fld d 91 79 + 1
    let v := fld d 111 92 + 1
    c ∈ [9, 10] → s.operandAt x y (fld d 183 160) 0 ol → s.operandAt x y (fld d 159 136) 0 op →
    s.operandAt x y (fld d 135 112) 0 ot →
    (∀ u, State.sampleAll x y ol op ot c v n 0 s = .ok u → exec (.smpSample x y d) s = .next u) ∧
    (n = 1 → ol + v * vBytes c ≤ reachEnd → op + 32 ≤ reachEnd → s.canWrite x y ot 4 →
      let o := sampleToken c (unpack (fmtWidth c) v (s.scratch x y ol (v * vBytes c))) (s.scratch x y op 32)
      ∃ t, exec (.smpSample x y d) s = .next t ∧ s.cellWrote t x y ot (le 4 o.1) ∧ t.row = s.row.counted 0 0 o.2 0)

/-- HNT HEAVY enters a hint for the row LEAD rows ahead, LEAD clamped to 1 to 32 and LEVEL to 64, each clamp counted; when that row's
plan is fixed the hint counts only in HNTLATE, and in PHASE mode it has no effect. -/
def Obligations.HntHeavyEntersAHint : Prop :=
  ∀ (x y : Nat) (d : Desc) (s : State), s.cellLive x y →
    let lead := max 1 (min 32 (fld d 183 178))
    let level := min (fld d 177 171) 64
    let clamps := (if lead = fld d 183 178 then 0 else 1) + (if level = fld d 177 171 then 0 else 1)
    let h : HintRec := { row := s.row.num + lead, cell := some (x, y), level := level, dur := fld d 170 146, given := some s.row.num }
    ∃ t, exec (.hntHeavy x y d) s = .next t ∧ t.row = s.row.counted 0 0 clamps 0 ∧ t.mem = s.mem ∧ t.cells = s.cells ∧
      (s.nat 0x2500 0x0F = 1 → t.power = s.power ∧ t.obj = s.obj) ∧
      (s.nat 0x2500 0x0F ≠ 1 → s.power.planFixed < h.row →
        t.power.hints = s.power.hints ++ [h] ∧ t.obj = s.obj) ∧
      (s.nat 0x2500 0x0F ≠ 1 → h.row ≤ s.power.planFixed →
        t.power = s.power ∧ t.nat 0x2500 0x14 = min (s.nat 0x2500 0x14 + 1) (2 ^ 32 - 1))

/-! ### HBM writes and update engines (R105, R121, R244 to R253) -/

/-- A write to HBM inside a row, by a cell's ring port or by an update engine that runs a job: in a LOGGED region the old line is logged
once before the bytes land, in a VERSIONED one the bytes land in the copy that is not the committed one, whose other bytes of the line
come from the committed one first, in a disposable one they land;
a write with a byte outside every lifeline region of the running pattern, or by an engine outside its own slice, is blocked whole with
ADDRESS_FAULT, laid to the cell or to the cell whose job the engine runs. An engine without a job, or a cell without a row, writes nothing. -/
def Obligations.HbmWritesUnderTheLifeline : Prop :=
  (∀ (w : HbmWriter) (a : Nat) (data : Bytes) (s : State), s.on = true →
    (∀ x y, w = .cell x y → isCell x y = true ∧ s.cellRuns x y = false) →
    (∀ i, w = .engine i → i < 48 ∧ (s.row.phase ≠ .running ∨ (s.engine i).running = none)) →
    exec (.hbmWrite w a data) s = .next s) ∧
  (∀ (i a : Nat) (data : Bytes) (s : State) (j : JobRun), i < 48 → s.on = true → s.row.phase = .running → (s.engine i).running = some j →
    (a < i * 0x2000000000 ∨ (i + 1) * 0x2000000000 < a + data.length) →
    ∃ t, exec (.hbmWrite (.engine i) a data) s = .next t ∧ t.mem = s.mem ∧ t.row.phase = .aborted ∧ t.row.fault = some .address ∧
      t.row.faultAt = (j.job.x, j.job.y)) ∧
  ∀ (w : HbmWriter) (x y : Nat) (a : Nat) (data : Bytes) (s : State) (p : Pattern), s.runPattern = some p →
    (w = .cell x y ∧ s.cellLive x y ∨ ∃ i j, w = .engine i ∧ i < 48 ∧ s.on = true ∧ s.row.phase = .running ∧
      (s.engine i).running = some j ∧ (j.job.x, j.job.y) = (x, y) ∧ i * 0x2000000000 ≤ a ∧ a + data.length ≤ (i + 1) * 0x2000000000) →
    s.hbmOk a data.length = true → data ≠ [] → a % 64 + data.length ≤ 64 → s.hbm.poisoned = [] → (∀ w < 64, (s.window w).1 = 0) →
    let line := a / 64 * 64
    (∀ r, regionAt p.regions a = some r → r.attr = 1 → s.hbm.log.any (fun e => e.1 == line) = false →
      s.logCount (sliceOf line) < s.logCapacity (sliceOf line) →
      ∃ t, exec (.hbmWrite w a data) s = .next t ∧ t.mem = s.mem.writeBytes a data ∧
        t.hbm.log = (line, s.mem.readBytes line 64) :: s.hbm.log ∧ t.row = s.row ∧ t.cells = s.cells) ∧
    (∀ r, regionAt p.regions a = some r → r.attr = 1 → s.hbm.log.any (fun e => e.1 == line) = true →
      ∃ t, exec (.hbmWrite w a data) s = .next t ∧ t.mem = s.mem.writeBytes a data ∧ t.hbm.log = s.hbm.log) ∧
    (∀ r, regionAt p.regions a = some r → r.attr = 2 →
      let fresh := if s.hbm.written.contains line = true ∨ data.length = 64 then s.mem
        else s.mem.writeBytes (s.newCopyAt r line) (s.mem.readBytes (s.committedAt line) 64)
      ∃ t, exec (.hbmWrite w a data) s = .next t ∧ t.mem = fresh.writeBytes (s.newCopyAt r a) data ∧ t.hbm.log = s.hbm.log ∧
        line ∈ t.hbm.written) ∧
    (∀ r, regionAt p.regions a = some r → r.attr ≠ 1 → r.attr ≠ 2 →
      ∃ t, exec (.hbmWrite w a data) s = .next t ∧ t.mem = s.mem.writeBytes a data ∧ t.hbm.log = s.hbm.log) ∧
    (regionAt p.regions a = none →
      ∃ t, exec (.hbmWrite w a data) s = .next t ∧ t.mem = s.mem ∧ t.row.phase = .aborted ∧
        t.row.fault = some .address ∧ t.row.faultAt = (x, y))

/-- UPD JOB joins the queue of its slice and counts as sent; the engine starts its oldest job with the record and the defaults in
force; when it is done its element writes have landed, the row's job count rises, and the cell's UPD count follows program order. -/
def Obligations.UpdJobsRunInOrder : Prop :=
  (∀ (x y : Nat) (d : Desc) (s : State), s.cellLive x y →
    let i := fld d 183 178
    let a := fld d 177 126
    s.flash.variantG = false → a % 64 = 0 → i < 48 → i * 0x2000000000 ≤ a → a + 128 ≤ (i + 1) * 0x2000000000 →
    (s.engine i).queue.length < 64 →
    let c := s.cell x y
    ∃ t, exec (.updJob x y d) s = .next t ∧ t.cell x y = { c with updSent := c.updSent + 1 } ∧
      t.engine i = { s.engine i with queue := (s.engine i).queue ++ [{ x := x, y := y, n := c.updSent, addr := a }] } ∧
      t.mem = s.mem ∧ t.row = s.row) ∧
  (∀ (i : Nat) (s : State) (j : Job) (rest : List Job) (b : Bytes) (r : Rule), i < 48 → s.on = true → s.row.phase = .running →
    (s.engine i).queue = j :: rest → (s.engine i).running = none → s.readHbm j.addr 128 = .ok b → jobFault b i = none →
    ruleOf b = some r →
    ∃ t, exec (.updJobStart i) s = .next t ∧
      t.engine i = { queue := rest, running := some (s.jobRun j b) } ∧ t.mem = s.mem) ∧
  (∀ (i : Nat) (s u : State) (j : JobRun) (r : Rule), i < 48 → s.on = true → s.row.phase = .running →
    (s.engine i).running = some j → ruleOf j.record = some r → (s.cell j.job.x j.job.y).phase = .running →
    State.updElements j.record r j.asked.clamped (jobCount j.record) 0 s = .ok u → u.cells = s.cells →
    ∃ t, exec (.updJobDone i) s = .next t ∧ t.mem = u.mem ∧ t.row.jobs = u.row.jobs + 1 ∧
      (t.engine i).running = none ∧ t.cell j.job.x j.job.y = (s.cell j.job.x j.job.y).jobDone j.job.n)

/-! ### SYN descriptors, barriers (R44 to R48, R94, R119, R131, R144, R189) -/

/-- SEND over a mesh link: the transfer, with its partial-sum records, joins what has arrived at the neighbour, and the use is posted;
SEND over the ring port writes the lines to HBM. A SEND whose stream is not its group's next, or whose group has no credit, waits.
RECV takes the oldest transfer that has arrived on its stream, checks a partial sum against its records, and writes its lines;
RECVADD adds its tiles into the accumulator, divided among the plies as R63 divides rows, and writes no memory; both wait for their turn,
and while no data has arrived or a flit of its link is being retried. A record that differs fails the row with PSUM_TRANSIT. -/
def Obligations.SynStreamsTransfer : Prop :=
  (∀ (x y : Nat) (d : Desc) (s : State) (l : LinkRec) (e : StreamEnt) (o : Nat), s.cellLive x y →
      s.synEntry x y d false = some (l, e) → e.lines = synLines d →
      s.operandAt x y (fld d 168 145) (64 * synLines d) o →
      let b := s.scratch x y o (64 * synLines d)
      let k := postKey false (synDir d) (synStream d)
      let use := Tab.getD (s.cell x y).posted k 0
      (s.synWaits x y d = true → exec (.synSend x y d) s = .next s) ∧
      (s.synWaits x y d = false → synDir d ≠ 4 → ∀ nx ny, neighbour x y (synDir d) = some (nx, ny) →
        (s.map.place nx ny).isSome = true → (s.cell nx ny).phase ≠ .ended →
        let key := streamKey (opposite (synDir d)) (synStream d)
        ∀ recs, (synPsum d = false → recs = []) →
          (synPsum d = true → ∃ ts, tilesOf (synPacked d) b = some ts ∧ recs = ts.map (tileRecord (synPacked d) x y)) →
          ∃ t, exec (.synSend x y d) s = .next t ∧
            Tab.getD (t.cell x y).posted k 0 = use + 1 ∧
            Tab.getD (t.cell nx ny).rx key [] = Tab.getD (s.cell nx ny).rx key [] ++ [{ data := b, records := recs }] ∧
            t.mem = s.mem ∧ t.row = s.row ∧ t = { s with cells := t.cells }) ∧
      (s.synWaits x y d = false → synDir d = 4 → use < e.uses → (synPsum d = true → (tilesOf (synPacked d) b).isSome) →
        ∀ u, s.writeHbm (e.haddr + use * e.stride) b = .ok u → exec (.synSend x y d) s = .next (u.postUse x y k))) ∧
  ((∀ (x y : Nat) (d : Desc) (s : State) (l : LinkRec) (e : StreamEnt) (o : Nat), s.cellLive x y →
      s.synEntry x y d true = some (l, e) → e.lines = synLines d → synDir d ≠ 4 → s.operandAt x y (fld d 168 145) 0 o →
      let key := streamKey (synDir d) (synStream d)
      let k := postKey true (synDir d) (synStream d)
      ((Tab.getD (s.cell x y).rx key [] = [] ∨ s.retrying x y (synDir d) = true ∨ s.synTurn x y d true = false) →
        exec (.synRecv x y d) s = .next s ∧ exec (.synRecvadd x y d) s = .next s) ∧
      (∀ tr rest, Tab.getD (s.cell x y).rx key [] = tr :: rest → s.synTurn x y d true = true → s.retrying x y (synDir d) = false →
        recvCheck x y d tr = .ok () → s.canWrite x y o tr.data.length →
        ∃ t, exec (.synRecv x y d) s = .next t ∧ t.scratch x y o tr.data.length = tr.data ∧
          (∀ a, a < cellBase x y + o ∨ cellBase x y + o + tr.data.length ≤ a → t.mem.read a = s.mem.read a) ∧
          Tab.getD (t.cell x y).rx key [] = rest ∧
          Tab.getD (t.cell x y).posted k 0 = Tab.getD (s.cell x y).posted k 0 + 1 ∧ (t.cell x y).acc = (s.cell x y).acc) ∧
      (∀ tr rest ts, Tab.getD (s.cell x y).rx key [] = tr :: rest → s.synTurn x y d true = true →
        s.retrying x y (synDir d) = false → synPsum d = true →
        tilesOf (synPacked d) tr.data = some ts → transitOk (synPacked d) ts tr x y = false → s.row.waste = false →
        ∃ t a, exec (.synRecv x y d) s = .next t ∧ t.row.phase = .aborted ∧ t.row.alarm = some a ∧ a.cause = 0x11 ∧
          t.mem = s.mem)) ∧
    (∀ (x y : Nat) (d : Desc) (s : State) (l : LinkRec) (e : StreamEnt) (tr : Transfer) (rest : List Transfer) (ts : List Bytes)
        (c : CellSt), s.cellLive x y →
      s.synEntry x y d true = some (l, e) → e.lines = synLines d → synDir d ≠ 4 → s.synTurn x y d true = true →
      s.retrying x y (synDir d) = false →
      let key := streamKey (synDir d) (synStream d)
      let base := fld d 114 106
      Tab.getD (s.cell x y).rx key [] = tr :: rest → recvCheck x y d tr = .ok () → tilesOf (synPacked d) tr.data = some ts →
      base / 32 + cdiv ts.length 4 ≤ 16 → (s.cell x y).recvTiles (synPacked d) base ts.length 0 ts = some c →
      ∃ t, exec (.synRecvadd x y d) s = .next t ∧ t.mem = s.mem ∧ t.row = s.row ∧ (t.cell x y).acc = c.acc ∧
        Tab.getD (t.cell x y).rx key [] = rest))


/-- A packed-form value v of an element adds floor(v / 2^L) to its A, sets INEXACT of its row if bits are lost, and saturates A to
2^127 - 1 or -2^127, setting OVERFLOW, when the aligned sum leaves the range. Adding exact tiles is integer addition of A modulo 2^128,
element by element, with SPEC joined and INEXACT ORed; an empty tile adds nothing but fills the checksum register, a tile that was empty takes what it adds, and two
tiles that differ in gauges, KTOTAL, MCOUNT or NCOUNT do not add. -/
def Obligations.PartialTilesAddAsIntegers : Prop :=
  (∀ (t : AccTile) (i j m : Nat) (neg : Bool) (e : Int), i < 32 → j < 32 →
    let v : Int := if neg then -(m : Int) else m
    let d := (t.l i j - e).toNat
    let q : Int := if e < t.l i j then v / 2 ^ d else v * 2 ^ (e - t.l i j).toNat
    let sum := (t.ent i j).a + q
    let u := t.addValue i j (.fin neg m e)
    (u.ent i j).a = max (-(2 ^ 127)) (min (2 ^ 127 - 1) sum) ∧
    (∀ k < 32, bit u.inexact k = (bit t.inexact k || (k == i && decide (e < t.l i j ∧ v % 2 ^ d ≠ 0)))) ∧
    u.overflow = (t.overflow || decide (sum < -(2 ^ 127) ∨ 2 ^ 127 - 1 < sum)) ∧
    ∀ i' j', i' < 32 → j' < 32 → (i', j') ≠ (i, j) → u.ent i' j' = t.ent i' j') ∧
  (∀ (t v : AccTile), (v.ents.map (·.1)).Nodup →
    (v.ktotal = 0 → t.recvExact v = some { t with ck := some (t.ck.getD t.fill) }) ∧
    (v.ktotal ≠ 0 → t.empty = false → t.agrees v = false → t.recvExact v = none) ∧
    (v.ktotal ≠ 0 → (t.empty = true ∨ t.agrees v = true) → ∃ u, t.recvExact v = some u ∧ u.inexact = t.inexact ||| v.inexact ∧
      (t.empty = true → u.ktotal = v.ktotal ∧ u.mcount = v.mcount ∧ u.ncount = v.ncount ∧ u.rowG = v.rowG ∧ u.colG = v.colG) ∧
      ∀ i j, i < 32 → j < 32 →
        u.ent i j = if (Tab.get? v.ents (i * 32 + j)).isSome
          then accEnt ((t.ent i j).a + (v.ent i j).a) (specJoin (t.ent i j).spec (v.ent i j).spec) else t.ent i j))

/-- BARRIER arrives on its channel; WAITMARK changes nothing but waits for its completion; a release of the generation that every member
has reached completes it in every local member of a channel inside the module. -/
def Obligations.BarrierArrivesAndReleases : Prop :=
  (∀ (x y : Nat) (d : Desc) (s : State), s.cellLive x y →
    exec (.synWaitmark x y d) s = .next s ∧
    (bit (s.barrierMembers (synChan d)) (cellNo x y) = true →
      exec (.synBarrier x y d) s = .next (s.setCell x y { s.cell x y with
        arrived := Tab.set (s.cell x y).arrived (synChan d) (Tab.getD (s.cell x y).arrived (synChan d) 0 + 1) }))) ∧
  (∀ (chan gen : Nat) (s : State), chan < 32 → s.on = true → s.row.phase = .running → s.grouped = false →
    (∃ k < 1728, bit (s.barrierMembers chan) k = true) →
    (∀ k < 1728, bit (s.barrierMembers chan) k = true →
      gen ≤ Tab.getD (Tab.getD s.cells k {}).arrived chan 0 ∧ Tab.getD (Tab.getD s.cells k {}).released chan 0 + 1 = gen ∧
        (Tab.getD s.cells k {}).phase = .running) →
    ∃ t, exec (.barrierRelease chan gen) s = .next t ∧ t.mem = s.mem ∧
      ∀ k < 1728, Tab.getD t.cells k {} =
        if bit (s.barrierMembers chan) k then (Tab.getD s.cells k {}).release chan gen else Tab.getD s.cells k {})

/-! ### The sequencer (R59, R60, R111 to R113) -/

/-- The sequencer fetches the descriptor at its counter; one of a unit joins that unit's queue with the registers it names, unless the
queue is full, when nothing is issued; one of its own (CTL, UPD, HNT) acts once its waits and FENCE are met.
A unit starts the oldest descriptor of its queue once its two counts and its FENCE are met: it leaves the queue, its effect takes
place, and it runs until it completes; until then it stays where it is. When a descriptor completes, the unit's count becomes the number of
its descriptors, taken from the first in program order, that have all completed. -/
def Obligations.SequencerAndUnitsRunInOrder : Prop :=
  (∀ (x y : Nat) (s : State) (e : CellEntry) (eff : Effect), s.cellLive x y → (s.cell x y).phase = .running →
      s.cellEntry x y = some e → (s.cell x y).pc < e.progLen →
      let c := s.cell x y
      let d : Desc := BitVec.ofNat 256 (ofLe (s.scratch x y (e.progOff + 32 * c.pc) 32))
      crcOk d = true → effectOf d = some eff → commonOk d = true →
      (∀ u, unitOf d = some u →
        ((c.unitQ u).q.length < queueDepth u →
          exec (.sequencerIssue x y) s = .next (s.setCell x y
            (c.setUnitQ u { c.unitQ u with
                q := (c.unitQ u).q ++ [{ d := d, regs := c.s, before := c.issuedAll }]
                issued := (c.unitQ u).issued + 1 }).next)) ∧
        (queueDepth u ≤ (c.unitQ u).q.length → exec (.sequencerIssue x y) s = .next (s.setCell x y c))) ∧
      (unitOf d = none → s.holdsOwn c d = true → exec (.sequencerIssue x y) s = .next s) ∧
      (unitOf d = none → s.holdsOwn c d = false → descClass d = 0 →
        exec (.sequencerIssue x y) s = .next (s.settle x y (eff x y c.s d s)))) ∧
  ((∀ (x y : Nat) (u : UnitId) (s : State) (i : Issued) (rest : List Issued) (eff : Effect), s.cellLive x y →
      let c := s.cell x y
      (c.unitQ u).q = i :: rest → effectOf i.d = some eff →
      let s1 := s.setCell x y (c.setUnitQ u { c.unitQ u with q := rest, started := (c.unitQ u).started + 1 })
      ((c.ready i.d i.before = false ∨ s.unitHolds x y i.d = true ∨ s.looseHolds x y i = true) →
        exec (.descriptorStart x y u) s = .next s) ∧
      (c.ready i.d i.before = true → s.unitHolds x y i.d = false → s.looseHolds x y i = false → ∀ t, eff x y i.regs i.d s1 = .ok t →
        ∃ aux, exec (.descriptorStart x y u) s = .next (t.setCell x y ((t.cell x y).setUnitQ u { (t.cell x y).unitQ u with
          running := ((t.cell x y).unitQ u).running ++ [{ n := (c.unitQ u).started, d := i.d, aux := aux }] })))) ∧
    (∀ (x y : Nat) (u : UnitId) (n : Nat) (s : State) (e : Started), s.cellLive x y → (s.cell x y).phase = .running →
      ((s.cell x y).unitQ u).running.find? (fun r => r.n == n) = some e → s.reached x y e = true →
      exec (.descriptorComplete x y u n) s =
        .next (s.setCell x y ((s.cell x y).setUnitQ u (((s.cell x y).unitQ u).finish n)))) ∧
    (∀ (q : UnitQ) (n : Nat), q.count ≤ n → n ∉ q.finished → (∀ k ∈ q.finished, q.count < k) → q.finished.Nodup →
      let r := q.finish n
      q.count ≤ r.count ∧ (∀ k, q.count ≤ k → k < r.count → k = n ∨ k ∈ q.finished) ∧
      r.count ∉ n :: q.finished ∧ (∀ k ∈ r.finished, r.count < k)))

/-! ### The front end and cast-on (R18, R21, R23, R284, R286, R287, R321, R323, R333, R335) -/

/-- All that is not in flash is lost when the front end turns off: HS_EN deasserted, the module pulled with the front end on
(which is latched for the change log), a single measurement above 520.0 A, the journal watchdog of a start (off for 2 s).
With the module seated, HS_EN asserted and the input within 38.0 to 46.0 V, the front end precharges and VIN shows the input; when it then conducts,
cast-on starts at step 1 with one more start counted. -/
def Obligations.FrontEndOnAndOff : Prop :=
  (∀ s : State,
      (∃ t, exec .hsEnDeassert s = .next t ∧ s.lostPower t ∧ t.fe.hsEn = false) ∧
      (s.fe.fe = .on → ∃ t, exec .seatSenseOpen s = .next t ∧ s.lostPower t ∧ t.fe.removalLatch = true ∧ t.fe.seatOpen = true) ∧
      (s.fe.fe = .on → ∀ vin a b, 5200 < a + b →
        ∃ t, exec (.inputMeasurement vin a b) s = .next t ∧ s.lostPower t ∧ t.fe.inputFault = true) ∧
      (s.fe.fe = .on → s.dev = .castOn → 3 ≤ s.castStep →
        ∃ t, exec .journalWatchdog s = .next t ∧ s.lostPower t ∧ t.fe.offUs = 2000000)) ∧
  (∀ s : State,
      (∀ vin : Int, s.fe.fe = .off → 38000 ≤ vin → vin ≤ 46000 → s.fe.offUs = 0 → s.fe.offHold = false →
        modeFrom s.fe.known s.starts 1 s.fe.interrupted ≠ 2 →
        exec (.hsEnAssert vin) s =
          .next ({ s with fe := { s.fe with hsEn := true, seatOpen := false, fe := .precharge } }.setOb 0x2020 1 vin)) ∧
      (∀ vin : Int, (s.fe.fe ≠ .off ∨ vin < 38000 ∨ 46000 < vin) →
        exec (.hsEnAssert vin) s = .next { s with fe := { s.fe with hsEn := true, seatOpen := false } }) ∧
      (s.fe.fe = .precharge → s.starts < 2 ^ 32 - 1 →
        ∃ t, exec .frontEndOn s = .next t ∧ t.fe.fe = .on ∧ t.dev = .castOn ∧ t.castStep = 1 ∧ t.starts = s.starts + 1 ∧
          t.start.tOn = s.clock ∧ t.mem = s.mem ∧ t.flash = s.flash))


/-- The input while the front end conducts: the entries of 0x2020 follow the measurement; a failed blade pair limits the cap to
9.0 kW; a sag of the bus is counted once until the bus is back. Memory, cells, rows and runs are untouched. -/
def Obligations.InputEntriesFollowTheInput : Prop :=
  ∀ s : State, s.fe.fe = .on →
    let still (t : State) : Prop := t.mem = s.mem ∧ t.hostMem = s.hostMem ∧ t.cells = s.cells ∧ t.row = s.row ∧ t.run = s.run ∧
      t.dev = s.dev ∧ t.time = s.time
    (∀ (vin : Int) (a b : Nat), (s.fe.measure vin (a + b)).trips (a + b) = false →
      ∃ t, exec (.inputMeasurement vin a b) s = .next t ∧ still t ∧ t.fe = s.fe.measure vin (a + b) ∧
        t.ob 0x2020 1 = vin ∧ t.ob 0x2020 2 = a ∧ t.ob 0x2020 3 = b ∧ t.ob 0x2020 4 = (vin.toNat * (a + b) / 10000 : Nat)) ∧
    (∀ (pairB : Bool) (other : Nat), 200 < other →
      ∃ t, exec (.bladePairFault pairB other) s = .next t ∧ still t ∧ t.power.bladeFault = some pairB ∧
        t.nat 0x2500 2 ≤ 9000) ∧
    (s.power.sag = false → s.nat 0x2020 6 < 2 ^ 32 - 1 →
      ∃ t, exec .busSag s = .next t ∧ still t ∧ t.power.sag = true ∧ t.nat 0x2020 6 = s.nat 0x2020 6 + 1) ∧
    (s.power.sag = true → exec .busSag s = .next s) ∧
    exec .busSagRecover s = .next { s with power := { s.power with sag := false } }

/-- Cast-on: a step that ends in time, and has not failed, hands over to the next; step 5 leaves HBM reading zero and every scratchpad
as it was; step 12 leads to READY with a row about to start and no failed start counted. A step that hangs once the chip controller
runs counts a failed start and begins again at step 2, at the third such start in SAFE; before that the front end turns off for
2 s. -/
def Obligations.CastOnStepsInOrder : Prop :=
  ∀ (s : State) (r : StepReport), s.fe.fe = .on → s.dev = .castOn → 1 ≤ s.castStep → s.castStep ≤ 12 →
    (r.failed = false → r.durUs ≤ s.stepLimitUs →
      (s.castStep < 12 → (s.castStep = 3 → s.fe.releaseLatched = false) →
        ∃ t, exec (.castOnStep r) s = .next t ∧ t.castStep = if s.castStep = 2 ∧ s.start.step3done = true then 4 else s.castStep + 1) ∧
      (s.castStep = 5 → ∃ t, exec (.castOnStep r) s = .next t ∧ (∀ a < hbmEnd, t.mem.read a = 0) ∧
        ∀ a, hbmEnd ≤ a → t.mem.read a = s.mem.read a) ∧
      (s.castStep = 12 → ∃ t, exec (.castOnStep r) s = .next t ∧ t.dev = .ready ∧ t.castStep = 13 ∧ t.nat 0x2D00 4 = 0 ∧
        t.row.phase = .waiting ∧ t.row.failed = false ∧ t.mem = s.mem)) ∧
    (∀ b : Option Defect, s.start.step3done = true →
      (s.nat 0x2D00 4 < 2 → ∃ t, exec (.castOnStepHang b) s = .next t ∧ t.castStep = 2 ∧ t.dev = .castOn ∧
        t.nat 0x2D00 4 = s.nat 0x2D00 4 + 1 ∧ (∀ g < 42, (t.reg g).gated = true) ∧ t.cells = [] ∧ t.mem = s.mem) ∧
      (s.nat 0x2D00 4 = 2 → ∃ t, exec (.castOnStepHang b) s = .next t ∧ t.dev = .safe)) ∧
    (∀ b : Option Defect, s.start.step3done = false → s.castStep ≠ 3 →
      ∃ t, exec (.castOnStepHang b) s = .next t ∧ t.fe.fe = .off ∧ t.fe.offUs = 2000000 ∧ t.mem = [])

/-! ### Checks, heartbeats, lost units (R142, R143, R181, R182, R195, R197, R198, R317, R341, R342, R431) -/

/-- A check failure in the running row of a run fails its attempt, whatever its cause; a waste-yarn row takes no notice of it, but for a
group's failure. In an aborted attempt its suspects are added; outside an attempt it fails none, but that the loss of a slice's data
between the rows of a run fails the next attempt. The loss of a cell or of a region queues the unit for darning.
A controller mismatch hands control to the standby pair, and fails the attempt of a run; with the standby in control already the
module enters SAFE; during an activation it ends one whose standby is not ready yet, and has the standby's load tried once more. -/
def Obligations.CheckFailuresFailTheRow : Prop :=
  (∀ (s : State) (a : Alarm), s.fe.fe = .on → isCell a.x a.y = true →
    let other : Prop := a.cause ∈ causes ∧ a.cause ∉ [0x40, 0x41, 0x43]
    let noted (t : State) : Prop := (a.cause ∉ [0x20, 0x21, 0x22] → t = s) ∧
      (a.cause = 0x20 → ∀ p, s.map.place a.x a.y = some p →
        a.addr % 0x1000000 / 64 * 64 ∈ (t.physCell p.number).refill ∧ t.row.uncorr = s.row.uncorr + 1)
    (other → s.row.phase = .running → (s.row.waste = false ∨ a.cause = 0x44) →
      ∃ t, exec (.checkAlarm a) s = .next t ∧ s.attemptFailed t a) ∧
    (other → s.row.phase = .running → s.row.waste = true → a.cause ≠ 0x44 →
      ∃ t, exec (.checkAlarm a) s = .next t ∧ t.row.phase = .running ∧ t.row.failed = s.row.failed ∧ t.mem = s.mem ∧ noted t) ∧
    (other → s.row.phase = .aborted →
      ∃ t, exec (.checkAlarm a) s = .next t ∧ t.row.phase = .aborted ∧ t.row.alarm = s.row.alarm ∧ t.mem = s.mem ∧
        ∀ u, u ∈ t.row.suspects ↔ u ∈ s.row.suspects ∨ u ∈ allSuspects a) ∧
    (other → s.row.phase ≠ .running → s.row.phase ≠ .aborted →
      ∃ t, exec (.checkAlarm a) s = .next t ∧ t.row.phase = s.row.phase ∧ t.row.suspects = s.row.suspects ∧ t.mem = s.mem ∧ noted t ∧
        (a.cause = 0x21 → s.row.phase = .waiting → s.run.isSome = true → s.row.heldFail = none → t.row.heldFail = some a)) ∧
    (∀ u, a.cause = 0x40 → s.cellUnit a.x a.y = some u → s.map.known u = false → s.map.carries u = true → s.dev = .running →
      s.row.phase = .running → s.row.waste = false → s.map.now = none →
      ∃ t, exec (.checkAlarm a) s = .next t ∧
        s.attemptFailed t { cause := 0x40, x := a.x, y := a.y, suspects := [.cell a.x a.y] } ∧
        t.map = { s.map with queue := s.map.queue ++ [(u, 0x40)] }) ∧
    (∀ r, a.cause = 0x41 → a.suspects = [.region r] → exec (.checkAlarm a) s = exec (.syncNetDisagree (some r)) s ∨ 42 ≤ r) ∧
    (a.cause = 0x43 → exec (.checkAlarm a) s = exec .controllerSwitch s) ∧
    (a.cause ∉ causes → exec (.checkAlarm a) s = .next s) ∧
    ∃ t, exec (.checkAlarm a) s = .next t) ∧
  (∀ s : State, s.fe.fe = .on →
    (s.sec.fwState ≠ 4 → s.start.standby = false →
      (s.row.phase = .running → s.row.waste = false →
        ∃ t, exec .controllerSwitch s = .next t ∧ s.attemptFailed t { cause := 0x43 } ∧ t.start.standby = true) ∧
      ((s.row.phase = .running ∧ s.row.waste = true ∨ s.row.phase = .idle ∨ s.row.phase = .waiting) →
        exec .controllerSwitch s = .next { s with start := { s.start with standby := true } })) ∧
    (s.sec.fwState ≠ 4 → s.start.standby = true → s.dev ≠ .safe → s.dev ≠ .off →
      ∃ t, exec .controllerSwitch s = .next t ∧ t.latchedSafe ∧ t.nat 0x2200 3 = 0x43) ∧
    (s.sec.fwState = 4 → s.sec.phase = 3 → s.sec.retried = false →
      exec .controllerSwitch s = .next { s with sec := { s.sec with retried := true, since := s.clock } }) ∧
    (s.sec.fwState = 4 → s.sec.phase = 1 → s.start.standby = false →
      ∃ t, exec .controllerSwitch s = .next t ∧ t.sec.fwState = 6 ∧ t.start.standby = true ∧ t.mem = s.mem) ∧
    (s.sec.fwState = 4 → s.sec.phase = 3 → s.sec.retried = true → s.dev ≠ .safe → s.dev ≠ .off →
      ∃ t, exec .controllerSwitch s = .next t ∧ t.latchedSafe ∧ t.nat 0x2200 3 = 0x43) ∧
    ∃ t, exec .controllerSwitch s = .next t)

/-- A heartbeat restarts its cell's count and nothing else. The loss of a cell, of a region by its heartbeat or by its sync net,
queues the unit for darning and fails the attempt, naming the unit; a chip-tree disagreement enters SAFE. -/
def Obligations.LostUnitsAreQueuedForDarning : Prop :=
  ∀ s : State, s.fe.fe = .on → s.dev = .running → s.row.phase = .running → s.row.waste = false → s.map.now = none →
    (∀ x y, isCell x y = true → exec (.cellHeartbeat x y) s = .next (s.setCell x y { s.cell x y with hbAge := 0 })) ∧
    (∀ x y u, isCell x y = true → s.cellUnit x y = some u → s.map.known u = false → s.map.carries u = true →
      ∃ t, exec (.cellLost x y) s = .next t ∧ s.attemptFailed t { cause := 0x40, x := x, y := y, suspects := [.cell x y] } ∧
        t.map = { s.map with queue := s.map.queue ++ [(u, 0x40)] }) ∧
    (∀ r < 42, s.map.known (.region r) = false → s.map.carries (.region r) = true →
      (∃ t, exec (.regionHeartbeatLost r) s = .next t ∧ s.attemptFailed t { cause := 0x41, suspects := [.region r] } ∧
        t.map = { s.map with queue := s.map.queue ++ [(.region r, 0x41)] }) ∧
      (∃ t, exec (.syncNetDisagree (some r)) s = .next t ∧ s.attemptFailed t { cause := 0x41, suspects := [.region r] } ∧
        t.map = { s.map with queue := s.map.queue ++ [(.region r, 0x41)] })) ∧
    (∃ t, exec (.syncNetDisagree none) s = .next t ∧ t.latchedSafe)

/-! ### Links and scrubs (R81, R193, R194) -/

/-- A flit whose CRC fails is retried and counted, in the row and on its link, and nothing else happens until the eighth failure of one
flit or more than 64 retries in a millisecond, which fail the attempt; a good flit ends the count of its flit.
A scrub counts what it finds in the row: a corrected scratchpad line that fails again, or a second time within 24 h, and an
uncorrectable one, are due for repair, and an uncorrectable one has lost its content; an uncorrectable scratchpad line of a logical
cell fails the attempt of a run, one of an unused cell fails none, a clock-gated cell is not scrubbed; an uncorrectable HBM line is
poisoned. No byte of memory changes. -/
def Obligations.FlitRetriesAndScrubs : Prop :=
  (∀ (s : State) (l : LinkId) (ws : List Nat), s.fe.fe = .on → l.wf = true → (s.link l).failed = false →
      let recent := s.clock :: (s.link l).retries.filter (fun t => decide (s.clock < t + 1000000))
      let k := { s.link l with sameFlit := (s.link l).sameFlit + 1, retries := recent }
      ((s.link l).sameFlit < 7 → recent.length ≤ 64 →
        exec (.flitReceive l false ws) s =
          .next { s.setLink l k with row := { s.row with retries := s.row.retries + 1 } }) ∧
      (∀ x y d, l = .mesh x y d → (7 ≤ (s.link l).sameFlit ∨ 64 < recent.length) → s.row.phase = .running → s.row.waste = false →
        s.dev = .running → (s.map.seamRegion x y d).isNone → s.map.now = none →
        ∃ t, exec (.flitReceive l false ws) s = .next t ∧ t.row.phase = .aborted ∧ t.row.failed = true ∧
          t.row.alarm = some { cause := 0x30, x := x, y := y, suspects := [.link l] } ∧ (t.link l).failed = true ∧
          t.mem = s.mem) ∧
      (∃ t, exec (.flitReceive l true ws) s = .next t ∧ (t.link l).sameFlit = 0 ∧ t = { s with links := t.links } ∧
        ∀ k, k ≠ s.map.linkNo l → Tab.get? t.links k = Tab.get? s.links k)) ∧
  (∀ s : State, s.fe.fe = .on →
      (∀ (px py off : Nat) (o : EccOutcome), px < 56 → py < 42 → off < 0x1000000 → s.map.cellGated (placeAt px py) = true →
        exec (.scratchpadScrub px py off o) s = .next s) ∧
      (∀ (px py off : Nat), px < 56 → py < 42 → off < 0x1000000 → s.map.cellGated (placeAt px py) = false →
        let line := off / 64 * 64
        let p := placeAt px py
        exec (.scratchpadScrub px py off .clean) s = .next s ∧
        (∀ again, ∃ t, exec (.scratchpadScrub px py off (.corrected again)) s = .next t ∧ t.mem = s.mem ∧ t.hbm = s.hbm ∧
          t.row = { s.row with spCorr := s.row.spCorr + 1 } ∧
          (again = true → ∃ c, (line, c) ∈ (t.physCell p.number).pendingLines) ∧
          ((∃ e ∈ (s.physCell p.number).corrected, e.1 = line ∧ s.clock < e.2 + dayNs) →
            ∃ c, (line, c) ∈ (t.physCell p.number).pendingLines)) ∧
        (∃ t, exec (.scratchpadScrub px py off .uncorrectable) s = .next t ∧ line ∈ (t.physCell p.number).refill ∧
          (∃ c, (line, c) ∈ (t.physCell p.number).pendingLines) ∧
          (s.map.logicalCell p = none → t.row = { s.row with uncorr := s.row.uncorr + 1 }) ∧
          (∀ x y, s.map.logicalCell p = some (x, y) → s.row.phase = .running → s.row.waste = false →
            s.attemptFailed t { cause := 0x20, x := x, y := y, addr := cellBase x y + line }))) ∧
      (∀ a < hbmEnd,
        exec (.hbmPatrolScrub a .clean) s = .next s ∧
        (∀ again, ∃ t, exec (.hbmPatrolScrub a (.corrected again)) s = .next t ∧ t.mem = s.mem ∧
          t.row = { s.row with hbmCorr := s.row.hbmCorr + 1 } ∧ t.hbm.poisoned = s.hbm.poisoned) ∧
        (∃ t, exec (.hbmPatrolScrub a .uncorrectable) s = .next t ∧ t.mem = s.mem ∧
          t.row = { s.row with uncorr := s.row.uncorr + 1 } ∧
          ∀ l, l ∈ t.hbm.poisoned ↔ l = a / 64 * 64 ∨ l ∈ s.hbm.poisoned)))


/-! ### Loose traffic (R134 to R141) -/

/-- A READ of one line of a cell leaves as a request packet, and the requester has one more request outstanding: the first READ of a
line opens an entry of the merge table, whose response is still to leave; one of a line whose entry is open joins that response, or is
held when it has left. A READ of HBM answers the bytes there. A WRITE writes its lines, undo-logged in the resident partition, and is
acknowledged. A response leaves one request fewer outstanding.
The opening response leaves with the hits that joined it, and hits held for a multicast leave when their hold expires, in packets of up
to 8 destinations with the line's bytes, and the entry stays; when the entry's 64 cycles end it closes. Nothing else changes. -/
def Obligations.LooseRequestsAndMerging : Prop :=
  (∀ (s : State) (rx ry : Nat), s.cellLive rx ry → (s.cell rx ry).loose < 16 →
      (∀ (a k : Nat), cellAt a = some k → a % 64 = 0 → s.cellPlaced k = true → a % 0x1000000 + 64 ≤ reachEnd →
        s.meetsAreas (k % 48) (k / 48) (a % 0x1000000) 64 = false → (rx, ry) ≠ (k % 48, k / 48) →
        let x := k % 48
        let y := k / 48
        let off := a % 0x1000000
        ((s.cell x y).merge.any (fun e => e.line == off) = false → (s.cell x y).merge.length < 32 →
          ∃ t, exec (.looseRead rx ry a 1) s = .next t ∧ t.out = .packet (meshPacket 0 (rx, ry) [(x, y)] []) :: s.out ∧
            (t.cell x y).merge = (s.cell x y).merge ++ [{ line := off, held := [(rx, ry)], opening := true }] ∧ (t.cell rx ry).loose = (s.cell rx ry).loose + 1 ∧
            t.mem = s.mem) ∧
        ((s.cell x y).merge.any (fun e => e.line == off) = true →
          ∃ t, exec (.looseRead rx ry a 1) s = .next t ∧ t.out = .packet (meshPacket 0 (rx, ry) [(x, y)] []) :: s.out ∧
            (∀ e ∈ (t.cell x y).merge, e.line = off → (rx, ry) ∈ e.held ∧ e.holding = !e.opening) ∧
            (t.cell rx ry).loose = (s.cell rx ry).loose + 1 ∧ t.mem = s.mem)) ∧
      (∀ (a n : Nat) (b : Bytes), cellAt (a / 64 * 64) = none → 1 ≤ n → n ≤ 16 → s.readHbm (a / 64 * 64) (64 * n) = .ok b →
        exec (.looseRead rx ry a n) s = .next
          ((s.asked rx ry (s.hbmPacket 0 rx ry (a / 64 * 64) [])).sendPackets [s.hbmPacket 1 rx ry (a / 64 * 64) b])) ∧
      (∀ (a k : Nat) (bs : Bytes), cellAt a = some k → a % 64 = 0 → s.cellPlaced k = true → bs.length % 64 = 0 → 64 ≤ bs.length →
        bs.length ≤ 1024 → s.canWrite (k % 48) (k / 48) (a % 0x1000000) bs.length →
        ∃ u, exec (.looseWrite rx ry a bs) s = .next ((u.asked rx ry (meshPacket 0 (rx, ry) [(k % 48, k / 48)] bs)).sendPackets
            [meshPacket 1 (k % 48, k / 48) [(rx, ry)] []]) ∧ s.cellWrote u (k % 48) (k / 48) (a % 0x1000000) bs) ∧
      (0 < (s.cell rx ry).loose → (s.cell rx ry).phase ≠ .endFetched →
        exec (.looseResponse rx ry) s = .next (s.setCell rx ry { s.cell rx ry with loose := (s.cell rx ry).loose - 1 }))) ∧
  (∀ (s : State) (x y : Nat) (e : MergeEnt), s.fe.fe = .on → isCell x y = true → (s.cell x y).merge = [e] →
      let leave := (multicast (x, y) e.held (s.scratch x y e.line 64)).map Output.packet
      let left := { s.setCell x y { s.cell x y with merge := [{ e with held := [], holding := false, opening := false }] } with
        out := leave.reverse ++ s.out }
      (∀ n, n < leave.length → ∃ p, leave[n]? = some (.packet p) ∧ p.dests = (e.held.drop (8 * n)).take 8 ∧
        p.data = s.scratch x y e.line 64) ∧
      (e.opening = true → s.cells = [(cellNo x y, s.cell x y)] → s.openingsLeave = left) ∧
      exec (.mergeHoldExpire x y e.line) s = .next left ∧
      (∃ t, exec (.mergeEntryExpire x y e.line) s = .next t ∧ t.out = leave.reverse ++ s.out ∧
        t = { s.setCell x y { s.cell x y with merge := [] } with out := t.out }))

/-! ### Rows (R86, R90 to R93, R96, R97, R99, R198, R204, R215, R216) -/

/-- A mark of the grid: outside rows it does nothing; a quiet module starts its next row there, as waste yarn, with the deadline at the
mark after; an attempt that passes its deadline counts every further mark as skipped, and goes on. -/
def Obligations.MarksStartOrSkipRows : Prop :=
  ∀ s : State, s.fe.fe = .on →
    let m := s.row.markNs + s.periodNs
    (s.row.phase = .idle → exec .rowMark s = .next s) ∧
    (s.row.phase = .running ∨ s.row.phase = .aborted ∨ s.row.phase = .undoing ∨ s.row.phase = .darning ∨
        s.row.phase = .waitReplay →
      ∃ t, exec .rowMark s = .next t ∧ t.row.phase = s.row.phase ∧ t.row.num = s.row.num ∧ t.row.attempt = s.row.attempt ∧
        t.row.mark = s.row.mark + 1 ∧ t.row.markNs = m ∧ t.now = max s.now m ∧ t.mem = s.mem ∧ t.cells = s.cells ∧
        t.row.skipped = s.row.skipped + (if s.row.deadline < m then 1 else 0)) ∧
    (s.row.phase = .waiting → s.quietModule →
      ∃ t, exec .rowMark s = .next t ∧ t.row.phase = .running ∧ t.row.num = s.row.num + 1 ∧ t.row.attempt = 0 ∧
        t.row.waste = true ∧ t.row.startNs = max s.now m ∧ t.row.deadline = s.markAfter m ∧ t.row.failed = false ∧
        t.mem = s.mem ∧ t.run = none)

/-- The close of a row: a waste-yarn row of a quiet module commits, its record goes into the receipt chain, and the module waits for the
next mark; an aborted attempt starts its undo, with memory as the row left it.
The undo of a failed attempt writes every logged line back, newest first, restores the registers and predicates of every cell to
what they were at the row's start, and forgets the row's HBM writes; the same row is then due again. With an error in an undo record
the row does not come again: its run has ended, and the module is in HOLD. A hung row fails, naming the
cells that had not ended. -/
def Obligations.RowsCommitOrAreUndone : Prop :=
  (∀ s : State, s.fe.fe = .on →
      (∀ locs, s.row.phase = .running → s.row.waste = true → s.quietModule → s.now ≤ s.row.deadline →
        (s.now = s.row.deadline → s.row.markNs < s.row.deadline) →
        ∃ t, exec (.rowClose locs) s = .next t ∧ t.row.phase = .waiting ∧ t.row.num = s.row.num ∧ t.dev = .ready ∧
          t.row.head = sha512 (s.row.head ++ leafOf (s.rowRecord none) []) ∧ t.row.late = 0 ∧ t.mem = s.mem ∧
          t.row.history = (s.row.history ++ [historyEntry s.row.num s.row.attempt 0 s.row.skippedNow 0 s.maxSlips
            s.stretchShare]).drop (s.row.history.length + 1 - 4096)) ∧
      (∀ locs, s.row.phase = .aborted → (∀ b i, Suspect.link (.ring b i) ∉ s.row.suspects) →
        ∃ t, exec (.rowClose locs) s = .next t ∧ t.row.phase = .undoing ∧ t.row.num = s.row.num ∧
          t.row.attempt = s.row.attempt ∧ t.mem = s.mem ∧ t.run = s.run)) ∧
  (∀ s : State, s.fe.fe = .on →
      (s.row.phase = .undoing → s.hbm.heldWrites = [] → (∀ a, s.row.alarm = some a → a.cause ≠ 0x21) → s.row.fault = none →
        s.row.unrecoverable = false → s.darningDue = false → s.grouped = false → s.row.lanesDue = [] →
        s.badCellLogs = [] → s.badHbmRecords = [] →
        ∃ t, exec .rowUndoDone s = .next t ∧ t.row.phase = .replayDue ∧ t.row.num = s.row.num ∧ t.run = s.run ∧
          t.mem = restoreLines 0 (s.cells.foldl (fun m e => restoreLines (scratchBase + e.1 * 0x1000000) m e.2.undo) s.mem)
            s.hbm.log ∧
          t.hbm.log = [] ∧ t.hbm.written = [] ∧ t.hbm.rowLines = [] ∧
          ∀ k c, Tab.get? s.cells k = some c → Tab.get? t.cells k = some { c with undo := [], s := c.savedS, p := c.savedP }) ∧
      (s.row.phase = .undoing → s.dev = .running → s.row.waste = false → s.row.fault = none → s.grouped = false →
        s.row.lanesDue = [] → (s.badCellLogs ≠ [] ∨ s.badHbmRecords ≠ []) →
        ∃ t, exec .rowUndoDone s = .next t ∧ t.row.phase = .waiting ∧ t.dev = .hold ∧ t.run = none) ∧
      (s.row.phase = .running → s.row.startNs + s.nat 0x2212 1 * s.periodNs ≤ s.now →
        ∃ t a, exec .rowHang s = .next t ∧ s.attemptFailed t a ∧ a.cause = 0x42 ∧
          a.suspects = s.unended.map (fun c => Suspect.cell c.1 c.2)) ∧
      (s.row.phase = .running → s.now < s.row.startNs + s.nat 0x2212 1 * s.periodNs → exec .rowHang s = .next s))


/-! ### Verdicts (R197 to R201) -/

/-- Verdict messages of the module's commit group for its present attempt: a FAIL from anywhere in the group aborts the attempt with
GROUP_FAIL and no suspect, a clean group verdict is known, a child's CLEAN and UNDONE are counted, REPLAY sets the row due
10 µs after its time. A message of another group changes nothing. -/
def Obligations.VerdictMessagesTakeEffect : Prop :=
  ∀ (s : State) (v : VerdictMsg), s.fe.fe = .on → s.naela.rxDone = [] →
    (v.groupId ≠ s.nat 0x2220 1 → ∀ clean,
      exec (.verdictEarlyFail v) s = .next s ∧ exec (.verdictSubtree v clean) s = .next s ∧
      exec (.verdictGroup v clean) s = .next s ∧ exec (.verdictUndone v) s = .next s ∧ exec (.verdictReplay v) s = .next s) ∧
    (v.groupId = s.nat 0x2220 1 → s.grouped = true → v.row = s.row.num → v.attempt = s.row.attempt →
      (s.row.phase = .running →
        (∃ t, exec (.verdictEarlyFail v) s = .next t ∧ s.attemptFailed t { cause := 0x44 }) ∧
        (∃ t, exec (.verdictSubtree v false) s = .next t ∧ s.attemptFailed t { cause := 0x44 }) ∧
        (∃ t, exec (.verdictGroup v false) s = .next t ∧ s.attemptFailed t { cause := 0x44 } ∧ t.row.groupKnown = some false) ∧
        (∃ t, exec (.verdictSubtree v true) s = .next t ∧ (v.origin, true) ∈ t.row.children ∧ t.row.phase = .running ∧
          t.mem = s.mem) ∧
        (∃ t, exec (.verdictGroup v true) s = .next t ∧ t.row.groupKnown = some true ∧ t.row.phase = .running ∧
          t.mem = s.mem)) ∧
      (s.row.phase = .waitReplay →
        (∃ t, exec (.verdictUndone v) s = .next t ∧ v.origin ∈ t.row.undoneFrom ∧ t.row.num = s.row.num ∧ t.mem = s.mem) ∧
        (∃ t, exec (.verdictReplay v) s = .next t ∧ t.row.phase = .replayDue ∧ t.row.replayAt = v.time + 10000 ∧
          t.mem = s.mem)))

/-! ### Darning, stacks, swatches (R11, R342 to R364) -/

/-- A darning replaces the lost unit: a cell by the spare of its column, a region, whose spare has passed its swatch, by the spare of its
row; the darning then runs until it completes. A region without a spare becomes void at once. No byte of memory is written where no
loaded pattern declares a resident range.
A darning completes: it is counted in DARNINGS (a column each, a region in the upper half), DARNSTATE is idle, device time has
reached its end; no byte of memory changes. A unit it uses that fails stops it: it is to be applied again. -/
def Obligations.DarningLostUnits : Prop :=
  (∀ (s : State) (cause dur : Nat),
      (∀ r row col, s.darnReady (.cell r row col) cause → r < 42 → row < 7 → col < 8 → s.map.colSpare r col = true →
        s.map.unusable (.cell r row col) = false →
        ∃ t, exec (.cellDarning dur) s = .next t ∧ t.map.u = Tab.set s.map.u (r * 8 + col) row ∧ t.map.v = s.map.v ∧
          t.map.badCells = s.map.badCells ++ [(r * 8 + col, row)] ∧ t.map.badRegions = s.map.badRegions ∧ t.map.queue = [] ∧
          t.map.now = some (.cell r row col, cause) ∧ t.nat 0x2310 4 = 1 ∧ t.map.voids = s.map.voids ∧ t.mem = s.mem) ∧
      (∀ r, s.darnReady (.region r) cause → r < 42 → s.map.rowSpare (r / 7) = true → s.map.badRegions.contains r = false →
        ∃ t, exec (.regionDarning true dur) s = .next t ∧ t.map.v = Tab.set s.map.v (r / 7) (r % 7) ∧ t.map.u = s.map.u ∧
          t.map.badRegions = s.map.badRegions ++ [r] ∧ t.map.queue = [] ∧ t.map.now = some (.region r, cause) ∧
          t.nat 0x2310 4 = 2 ∧ t.map.voids = s.map.voids ∧ t.mem = s.mem) ∧
      (∀ r k, s.darnReady (.region r) cause → r < 42 → s.map.rowSpare (r / 7) = false → s.map.badRegions.contains r = false →
        s.map.logicalRegion r = some k →
        ∃ t, exec (.regionDarning true dur) s = .next t ∧ t.map.voids = s.map.voids ++ [k] ∧ t.map.now = none ∧
          t.map.queue = [] ∧ t.nat 0x2310 1 = t.map.voidMask ∧ t.mem = s.mem) ∧
      ((s.map.now ≠ none ∨ s.darningDue = false) → s.fe.fe = .on → ∀ ok,
        exec (.cellDarning dur) s = .next s ∧ exec (.regionDarning ok dur) s = .next s)) ∧
  (∀ (s : State) (u : Lost) (cause : Nat), s.fe.fe = .on → s.map.now = some (u, cause) →
      (s.row.phase ≠ .darning →
        ∃ t, exec .darningComplete s = .next t ∧ t.map.now = none ∧ t.nat 0x2310 4 = 0 ∧
          t.nat 0x2310 3 = s.nat 0x2310 3 + darnCount u (s.nat 0x2310 4 == 2) ∧
          t.clock = max s.clock (s.map.startNs + s.map.durUs * 1000) ∧ t.mem = s.mem ∧ t.cells = s.cells ∧ t.row = s.row) ∧
      (∀ d v, d.wf = true → defectUnit d = some v →
        ∃ t, exec (.darningRestart d) s = .next t ∧ t.map.now = none ∧ (u, cause) ∈ t.map.redo ∧ t.nat 0x2310 4 = 0 ∧
          t.mem = s.mem ∧ t.row = s.row))


/-- A stack that fails and does not answer its retraining leaves service: its slice is out, every session with a page there is
FAULTED, and the attempt of a row that names it fails. A stack back at 5.6 Gb/s is slow, one back at 6.4 Gb/s is as before.
A swatch runs once the cells it would run on tick waste yarn, those of them that are gated ungated for it; one that passes changes nothing
else, and a spare cell or region that fails one is entered as unusable. Each suspect-list selector that runs is counted, its failures
too, and it makes as many runs as its REPEAT says before the next has its turn; one whose unit is out of use is counted as skipped. -/
def Obligations.StacksAndSwatches : Prop :=
  (∀ (s : State) (i g : Nat), s.fe.fe = .on → i < 48 → s.map.outStacks.contains i = false →
      (g ≠ 64 → g ≠ 56 →
        ∃ t, exec (.hbmStackFail i g) s = .next t ∧ i ∈ t.map.outStacks ∧ t.mem = s.mem ∧
          (∀ k v, Tab.get? s.sess k = some v → Tab.get? t.sess k = some
            (if v.status ≠ 0 ∧ v.pages.any (fun p => p / 65536 == i) then { v with status := 5 } else v)) ∧
          (s.rowNames i = true → s.row.phase = .running →
            t.row.phase = .aborted ∧ t.row.alarm = some { cause := 0x21, suspects := [.slice i], addr := i * 0x2000000000 })) ∧
      (s.rowNames i = false →
        (∃ t, exec (.hbmStackFail i 56) s = .next t ∧ t.map.outStacks = s.map.outStacks ∧ i ∈ t.map.slowStacks ∧
          t.sess = s.sess ∧ t.mem = s.mem ∧ t.row = s.row) ∧
        exec (.hbmStackFail i 64) s = .next s)) ∧
  (∀ s : State, s.fe.fe = .on → s.row.phase ≠ .idle → s.dev = .running →
      (∀ d, d.wf = true →
        (s.inYarn (swatchPlaces d) = true → exec (.wasteYarnSwatch d true) s = .next (s.wake (swatchPlaces d))) ∧
        (s.inYarn (swatchPlaces d) = false → ∀ passed, exec (.wasteYarnSwatch d passed) s = .next s)) ∧
      (∀ ps, let t := s.wake ps
        t = { s with map := { s.map with awake := t.map.awake }, regs := t.regs } ∧
          ∀ p ∈ ps, t.map.cellGated p = false) ∧
      (∀ d u, d.wf = true → defectUnit d = some u → s.map.known u = false → s.map.carries u = false → s.map.now = none →
        ∃ t, exec (.wasteYarnSwatch d false) s = .next t ∧
          t.map = { ((s.wake (swatchPlaces d)).map.lose u).1 with entered := [] } ∧ t.mem = s.mem ∧ t.row = s.row) ∧
      (∀ l, s.selectors = [l] → l.unit.region < 42 ∨ l.unit.region = 0xFFFF → ∀ passed,
        (s.inYarn (swatchPlaces l.unit) = false → exec (.suspectSwatch l.unit.region passed) s = .next s) ∧
        (s.inYarn (swatchPlaces l.unit) = true → s.skipsSelector l = true →
          exec (.suspectSwatch l.unit.region passed) s =
            .next ((s.setSel l.unit.region (0, 0)).addOb 0x2405 4 1)) ∧
        (s.inYarn (swatchPlaces l.unit) = true → s.skipsSelector l = false →
          ∃ t, exec (.suspectSwatch l.unit.region passed) s = .next t ∧ t.nat 0x2405 2 = (s.addOb 0x2405 2 1).nat 0x2405 2 ∧
            t.nat 0x2405 3 = (if passed then s.nat 0x2405 3 else (s.addOb 0x2405 3 1).nat 0x2405 3) ∧
            (let here := Tab.getD s.map.nextSel l.unit.region (0, 0);
              let done := (if 0 = here.1 then here.2 else 0) + 1;
              t.map.nextSel = Tab.set s.map.nextSel l.unit.region (if l.runs ≤ done then (0, 0) else (0, done))) ∧
            t.mem = s.mem ∧ t.row = s.row)))

/-! ### Blocks (R263 to R265, R294, R295, R309, R313 to R315) -/

/-- Supply events of a block: a droop stretches its periods by two quanta from the threshold and by four from 15 mV above it, until it
falls 5 mV below the threshold or ends; more than 25 mV is counted as a reservoir charge, an overshoot above 30 mV as a shunt clamp.
The slow voltage loop: each step while a path warns raises the voltage by 5 mV, or at the maximum stretches every period; a
millisecond without warning ends the stretch, and after 10 ms lowers the raise by 2.5 mV; the guard band falls to 8 % when its time
ends; lookahead raises a block for a heavy row whose plan is fixed and whose mark is near, and for no other. -/
def Obligations.BlocksFollowTheirSupply : Prop :=
  (∀ (s : State) (b mv : Nat), s.fe.fe = .on → b < 588 →
      let q := if s.droopTh b + 15 ≤ mv then 4 else if s.droopTh b ≤ mv ∨ (s.droopTh b ≤ mv + 5 ∧ (s.blk b).droop ≠ 0) then 2 else 0
      (∃ t, exec (.droopDetect b mv) s = .next t ∧ s.blockBecame t b { s.blk b with droop := q } ∧
        t.ob (0x4000 + b) 0x0D = if 25 < mv then (s.addOb (0x4000 + b) 0x0D 1).ob (0x4000 + b) 0x0D else s.ob (0x4000 + b) 0x0D) ∧
      exec (.droopEnd b) s = .next (s.setBlk b { s.blk b with droop := 0 }) ∧
      (∃ t, exec (.shuntClamp b mv) s = .next t ∧ t = { s with obj := t.obj } ∧
        t.ob (0x4000 + b) 0x0E = if 30 < mv then (s.addOb (0x4000 + b) 0x0E 1).ob (0x4000 + b) 0x0E else s.ob (0x4000 + b) 0x0E)) ∧
  (∀ (s : State) (b : Nat), s.fe.fe = .on → b < 588 →
      let k := s.blk b
      (s.atVmax b = false →
        (∃ t, exec (.slowLoopStep b true) s = .next t ∧ s.blockBecame t b { k with warnFreeUs := 0, slowRaise := k.slowRaise + 2 }) ∧
        (∀ p < 6, k.warnMask = 0 → ∃ t, exec (.replicaPathWarning b p) s = .next t ∧
          s.blockBecame t b { k with warnMask := 2 ^ p, warnFreeUs := 0, slowRaise := k.slowRaise + 2 })) ∧
      (∀ p < 6, k.warnMask ≠ 0 → ∃ t, exec (.replicaPathWarning b p) s = .next t ∧
        s.blockBecame t b { k with warnMask := k.warnMask ||| 2 ^ p, warnFreeUs := 0 } ∧
        t.ob (0x4000 + b) 0x14 = (s.addOb (0x4000 + b) 0x14 1).ob (0x4000 + b) 0x14) ∧
      (s.atVmax b = true → k.sustained = false →
        ∃ t, exec (.slowLoopStep b true) s = .next t ∧ s.blockBecame t b { k with warnFreeUs := 0, sustained := true }) ∧
      (k.warnFreeUs < 9000 → exec (.slowLoopStep b false) s =
        .next (s.setBlk b { k with warnMask := 0, warnFreeUs := k.warnFreeUs + 1000, sustained := false })) ∧
      (9000 ≤ k.warnFreeUs → exec (.slowLoopStep b false) s =
        .next (s.setBlk b { k with warnMask := 0, warnFreeUs := 10000, sustained := false, slowRaise := k.slowRaise - 1 })) ∧
      exec (.guardBandExpire b) s = .next (s.setOb (0x4000 + b) 0x17 8) ∧
      (∀ n r, s.nat 0x2500 0x0F = 2 → (s.raiseRows b).getLast? = some r → exec (.lookaheadRaise b n) s =
        .next (s.setBlk b { k with look := k.look.toward s.clock (s.nat 0x2500 0x0B), lookFor := r })) ∧
      (∀ n, (s.nat 0x2500 0x0F ≠ 2 ∨ s.raiseRows b = []) → exec (.lookaheadRaise b n) s = .next s))


/-- Losses in a block: a regulator phase leaves the mask and the defect list has it; a failed sensor reads 0x7FFF; a block PLL that loses
lock reads 2, and its cells are lost; a junction reading sets its entries, the hottest working sensor and TJMAX. -/
def Obligations.BlockLossesAreRecorded : Prop :=
  ∀ (s : State) (b : Nat), s.fe.fe = .on → b < 588 →
    (∀ p < 8, bit (s.nat (0x4000 + b) 7) p = false → exec (.regulatorPhaseLoss b p) s = .next s) ∧
    (∀ p < 8, bit (s.nat (0x4000 + b) 7) p = true → s.phasesLost b < 3 → s.flash.full = false → s.flash.defects.length < 16383 →
      ∃ t, exec (.regulatorPhaseLoss b p) s = .next t ∧ t.nat (0x4000 + b) 7 = s.nat (0x4000 + b) 7 - 2 ^ p ∧
        t.flash.defects = s.flash.defects ++ [{ kind := 11, source := 0x80, region := b / 14, detail := b % 14 * 256 + p,
                                                start := s.nat 0x2D00 3 }] ∧
        t.map = s.map ∧ t.mem = s.mem ∧ t.row = s.row) ∧
    (∀ k < 4, bit (s.blk b).failedSensors k = false → { s.blk b with failedSensors := (s.blk b).failedSensors ||| 2 ^ k }.sensors ≠ 0 →
      ∃ t, exec (.sensorFailed b k) s = .next t ∧
        s.blockBecame t b { s.blk b with failedSensors := (s.blk b).failedSensors ||| 2 ^ k } ∧
        t.ob (0x4000 + b) (9 + k) = 0x7FFF) ∧
    (s.dev = .running → s.row.phase = .running → s.row.waste = false → s.map.now = none → s.map.known (.block b) = false →
      s.map.carries (.block b) = true →
      ∃ t a, exec (.blockPllLoss b) s = .next t ∧ s.attemptFailed t a ∧ a.cause = 0x40 ∧
        t.nat (0x4000 + b) 0x16 = 2 ∧ t.map = { s.map with queue := s.map.queue ++ [(.block b, 0x40)] }) ∧
    (∀ t0 t1 t2 t3, (s.blk b).failedSensors = 0 → t0 < 1150 → t1 < 1150 → t2 < 1150 → t3 < 1150 →
      ∃ t, exec (.junctionSensorRead b t0 t1 t2 t3) s = .next t ∧ t.nat (0x4000 + b) 9 = t0 ∧ t.nat (0x4000 + b) 10 = t1 ∧
        t.nat (0x4000 + b) 11 = t2 ∧ t.nat (0x4000 + b) 12 = t3 ∧ t.nat (0x4000 + b) 8 = max (max t0 t1) (max t2 t3) ∧
        t.nat (0x4000 + b) 8 ≤ t.nat 0x2502 1 ∧ t.mem = s.mem ∧ t.row = s.row ∧ t.map = s.map)

/-! ### Regions, cap, temperature, SAFE (R286 to R292, R296, R300 to R304, R308, R311, R312, R316, R317) -/

/-- A region's loops, each exactly one step of its own record: cap loop, bubble loop, slope ceiling, ramp governor, the target of waste
yarn, and the shares that the cap leaves the regions.
Rail samples set the region's entries; four averages in a row above OCTRIP, a short, or an open eFuse latch its converter group
off and lose the region. A second failed phase of one converter enters SAFE. -/
def Obligations.RegionLoopsAndTrips : Prop :=
  (∀ (s : State) (r : Nat), s.fe.fe = .on → r < 42 →
      let k := s.reg r
      let sh := s.nat (0x3000 + r) 0x25
      (∀ w, sh < w → 0 < sh → s.bubbling = false → exec (.capLoopUpdate r w) s =
        .next (s.setReg r { k with pin := w, capN := max 4 (k.capN - max 1 (cdiv (64 * (w - sh)) sh)), capUs := 0 })) ∧
      (∀ w, sh < w → 0 < sh → s.bubbling = true → exec (.bubbleLoopUpdate r w) s =
        .next (s.setReg r { k with pin := w, bub := min 60 (k.bub + s.nat 0x2500 5 * 8 * (w - sh) / sh) })) ∧
      (∀ rise used, exec (.slopeCeilingUpdate r rise used) s = .next (s.setReg r { k with
        slope := if s.nat 0x2500 9 * 10 < rise then max 4 (min 64 used) else min 64 (k.slope + 8) })) ∧
      (∀ hot, k.ramp < 63 → (s.neighbourHot r = false ∨ k.rampHalf = true) → exec (.rampGovernorStep r hot) s =
        .next (s.setReg r { k with ramp := k.ramp + 1, rampHalf := false })) ∧
      (∀ hot, k.ramp < 63 → k.rampHalf = false → s.neighbourHot r = true →
        exec (.rampGovernorStep r hot) s = .next (s.setReg r { k with rampHalf := true })) ∧
      (∀ hot, k.ramp = 63 → (s.neighbourHot r = false ∨ k.rampHalf = true) → ∃ t, exec (.rampGovernorStep r hot) s = .next t ∧
        t.reg r = { k with ramp := 64, rampHalf := false } ∧ t = { s with regs := t.regs, obj := t.obj } ∧
        (s.nat (0x3000 + r) 0x24 = 2 → t.nat (0x3000 + r) 0x24 = 0)) ∧
      (∀ hot, 64 ≤ k.ramp → exec (.rampGovernorStep r hot) s = .next s) ∧
      (∀ m share pre, ∃ t, exec (.floorTargetUpdate r m share pre) s = .next t ∧ t = { s with obj := t.obj } ∧
        t.nat (0x3000 + r) 0x29 ≤ s.shareDeciA r ∧
        (s.shareDeciA r ≤ s.nat 0x2500 8 * k.meanDeciA / 100 → t.nat (0x3000 + r) 0x29 = s.shareDeciA r) ∧
        (k.recent = [] → s.power.preRamp = none → s.power.downSlope = none →
          t.nat (0x3000 + r) 0x29 = min (s.shareDeciA r) (k.lastDeciA - s.nat 0x2500 9 * 10))) ∧
      (∀ pin pavg regions, s.power.shareUs ≠ 0 → s.power.shareScale = none → s.carriesRegion r = true →
        ∃ t, exec (.capShareUpdate pin pavg regions) s = .next t ∧ t.mem = s.mem ∧ t.row = s.row ∧ t.regs = s.regs ∧
          t.nat (0x3000 + r) 0x25 = (s.nat 0x2500 2 - (pin - regions)) / max 1 s.carrying.length)) ∧
  (∀ (s : State) (r : Nat), s.fe.fe = .on → r < 42 →
      (∀ a mv, (a ≤ s.nat (0x3000 + r) 0x23 * 10 ∨ (s.reg r).overTrip < 3) →
        ∃ t, exec (.regionRailSample r a mv) s = .next t ∧ t.nat (0x3000 + r) 0x20 = a ∧ t.nat (0x3000 + r) 0x21 = mv ∧
          t = { s with obj := t.obj, regs := t.regs } ∧ (t.reg r).lastDeciA = a ∧
          (t.reg r).overTrip = if s.nat (0x3000 + r) 0x23 * 10 < a then (s.reg r).overTrip + 1 else 0) ∧
      (s.dev = .running → s.row.phase = .running → s.row.waste = false → s.map.now = none → s.map.known (.region r) = false →
        s.map.carries (.region r) = true → s.nat (0x3000 + r) 0x24 < 3 →
        let trips (i : Instr) (cstate : Nat) : Prop := ∃ t, exec i s = .next t ∧
          s.attemptFailed t { cause := 0x41, suspects := [.region r] } ∧ t.nat (0x3000 + r) 0x24 = cstate ∧
          t.map = { s.map with queue := s.map.queue ++ [(.region r, 0x41)] }
        trips (.regionShort r) 4 ∧ trips (.efuseOpen r) 6 ∧
        (∀ a mv, s.nat (0x3000 + r) 0x23 * 10 < a → 3 ≤ (s.reg r).overTrip → trips (.regionRailSample r a mv) 3)) ∧
      (∀ c < 5, ∀ p, (∀ e ∈ s.power.convFailed, e.1 ≠ c) →
        ∃ t, exec (.converterPhaseFail c p) s = .next t ∧ t.power.convFailed = s.power.convFailed ++ [(c, p)] ∧ t.dev = s.dev ∧
          t.mem = s.mem ∧ t.row = s.row) ∧
      (∀ c < 5, ∀ p p', (c, p') ∈ s.power.convFailed → (c, p) ∉ s.power.convFailed → s.dev ≠ .safe → s.dev ≠ .off →
        ∃ t, exec (.converterPhaseFail c p) s = .next t ∧ t.latchedSafe))


/-- Temperatures, coolant, cap and pre-ramp: the readings are held; the hottest stack takes 50 W a tenth of a degree above 94.0 °C off
CAP and enters SAFE at 105.0 °C; low coolant flow limits the cap and enters SAFE below 6.0 L/min; a latched fault enters SAFE with its
cause. A cap that every region at its minimum does not attain is counted. Without LOOKAHEAD there is no pre-ramp. -/
def Obligations.ProtectionLimitsTheCap : Prop :=
  ∀ s : State, s.fe.fe = .on →
    (∀ h, 950 ≤ h → h < 1050 →
      ∃ t, exec (.hbmTempRead h) s = .next t ∧ t.nat 0x2502 5 = h ∧ t.nat 0x2500 2 ≤ s.nat 0x2500 1 - 50 * (h - 940) ∧
        t.dev = s.dev ∧ t.mem = s.mem ∧ t.row = s.row) ∧
    (∀ (f : Nat) (i o : Int), 60 ≤ f → f < 150 → 170 ≤ i → i ≤ 450 →
      ∃ t, exec (.coolantReading f i o true) s = .next t ∧ t.nat 0x2530 1 = f ∧ t.ob 0x2530 2 = i ∧ t.ob 0x2530 3 = o ∧
        t.nat 0x2500 2 ≤ 110 * f ∧ t.dev = s.dev ∧ t.mem = s.mem ∧ t.row = s.row) ∧
    (s.unattainable = true → ∃ t, exec .capUnattainable s = .next t ∧
      t.nat 0x2500 0x13 = (s.addOb 0x2500 0x13 1).nat 0x2500 0x13 ∧ t.mem = s.mem ∧ t.row = s.row ∧ t.dev = s.dev) ∧
    (s.unattainable = false → exec .capUnattainable s = .next s) ∧
    (s.nat 0x2500 0x0F ≠ 2 → exec .preRamp s = .next s) ∧
    (s.nat 0x2500 0x0F = 2 → s.feedPeers = [] → s.ownPlan s.row.num < s.ownPlan (s.row.num + 1) →
      ∃ t ns, exec .preRamp s = .next t ∧
        t = { s with power := { s.power with
          preRamp := some { at_ := s.now, tr := ns, from_ := s.ownPlan s.row.num, to_ := s.ownPlan (s.row.num + 1) }
          downSlope := none } }) ∧
    (s.dev ≠ .safe → s.dev ≠ .off →
      (∀ h, 1050 ≤ h → ∃ t, exec (.hbmTempRead h) s = .next t ∧ t.latchedSafe) ∧
      (∀ (f : Nat) (i o : Int), f < 60 →
        ∃ t, exec (.coolantReading f i o true) s = .next t ∧ t.latchedSafe ∧ t.power.hbmOff = true) ∧
      (∀ c < 65536, ∃ t, exec (.safeEntry c) s = .next t ∧ t.latchedSafe ∧ t.nat 0x2200 3 = c)) ∧
    (s.dev = .safe → ∀ c, exec (.safeEntry c) s = .next s)

/-! ### Clocks and device time (R261 to R263, R271 to R281) -/

/-- Time: the loss of the reference enters SAFE; a region that loses its reference input goes on to the next by its hops, held in
REFIN, and to no other; a beacon slews the region's counter by
16 ns at most in its fast period, else by 1 ns; the third pulse in a row makes the PPS input valid, the 10 MHz input is valid when it
says so; a source that becomes invalid leaves HOLDOVER; a slave's exchange slews by 2 ns at most; a slave whose master is lost holds
over, and a module that may be master takes the part. -/
def Obligations.TimeFollowsItsSources : Prop :=
  ∀ s : State, s.fe.fe = .on →
    let still (t : State) : Prop := t.mem = s.mem ∧ t.hostMem = s.hostMem ∧ t.row = s.row ∧ t.run = s.run ∧ t.cells = s.cells ∧
      t.dev = s.dev ∧ t.map = s.map
    (s.dev ≠ .safe → s.dev ≠ .off →
      ∃ t, exec .referenceLoss s = .next t ∧ t.latchedSafe ∧ bit (t.nat 0x2100 3) 0 = false) ∧
    (∀ r < 42, ∀ i < 5, s.refIn r ≠ i → refBest r (s.refLostBy r i) = some i →
      ∃ t, exec (.referenceInputSwitch r i) s = .next t ∧ still t ∧ t.refIn r = i ∧ (t.reg r).refLost = s.refLostBy r i) ∧
    (∀ r < 42, ∀ i < 5, (s.refIn r = i ∨ refBest r (s.refLostBy r i) ≠ some i) → exec (.referenceInputSwitch r i) s = .next s) ∧
    (∀ r < 42, ∀ e : Int, ∃ t, exec (.timeBeacon r e) s = .next t ∧ still t ∧ (t.reg r).fast = (s.reg r).fast - 1 ∧
      (t.reg r).timeOff = e * 65536 / 1000 ∧ (t.reg r).slewNs = 1024 ∧
      (0 < (s.reg r).fast → (t.reg r).slew = -((max (-16000) (min 16000 e)) * 65536 / 1000) ∧ (t.reg r).alarm = (s.reg r).alarm) ∧
      ((s.reg r).fast = 0 → (t.reg r).slew = -((max (-1000) (min 1000 e)) * 65536 / 1000) ∧
        ((64000 < e ∨ e < -64000) → (t.reg r).alarm = true))) ∧
    (s.time.ppsLast = none → ∃ t, exec .ppsEdge s = .next t ∧ still t ∧ t.time.ppsCount = 1 ∧ t.time.ppsLast = some s.clock ∧
      bit (t.nat 0x2100 3) 2 = false) ∧
    (∀ l, s.time.ppsLast = some l → 999999000 ≤ s.clock - l → s.clock - l ≤ 1000001000 → s.time.ppsCount = 2 →
      s.time.ppsPending = false → ∃ t, exec .ppsEdge s = .next t ∧ still t ∧ t.time.ppsCount = 3 ∧ bit (t.nat 0x2100 3) 2 = true) ∧
    (∃ t, exec .ref10mValid s = .next t ∧ still t ∧ bit (t.nat 0x2100 3) 1 = true ∧ bit (t.nat 0x2100 3) 0 = bit (s.nat 0x2100 3) 0) ∧
    (s.nat 0x2100 2 = 2 ∨ s.nat 0x2100 2 = 3 → ∃ t, exec .timeSourceInvalid s = .next t ∧ still t ∧ t.nat 0x2100 2 = 4) ∧
    (s.nat 0x2100 2 ≠ 2 → s.nat 0x2100 2 ≠ 3 → exec .timeSourceInvalid s = .next s) ∧
    (∀ p < s.portCount, ∀ t1 t2 t3 t4 : Nat,
      let o : Int := (((t2 : Int) - t1) - ((t4 : Int) - t3)) * 65536 / 2
      (s.nat 0x2100 2 = 3 → s.timeParent = some p → ∃ t, exec (.timeExchange p t1 t2 t3 t4) s = .next t ∧ still t ∧
        t.time.slew = max (-131072) (min 131072 o) ∧ t.time.lastOffset = o) ∧
      (s.nat 0x2100 2 ≠ 3 ∨ s.timeParent ≠ some p → exec (.timeExchange p t1 t2 t3 t4) s = .next s)) ∧
    (s.time.announce = none → exec .timeMasterLoss s = .next s) ∧
    (s.time.announce ≠ none → ∃ t, exec .timeMasterLoss s = .next t ∧ still t ∧ t.time.announce = none ∧
      (s.nat 0x2100 9 = 2 → t.nat 0x2100 2 = (if s.nat 0x2100 2 = 3 then 4 else s.nat 0x2100 2)) ∧
      (s.nat 0x2100 9 ≠ 2 → t.nat 0x2100 0x0B = ownHash ∧ t.nat 0x2100 0x0C = 0 ∧
        (s.nat 0x2100 1 = 0 → t.nat 0x2100 2 = s.localSource)))

/-! ### Naela (R392 to R410) -/

/-- Ports. Presence at an absent, enabled port (STATE 1) starts training (2), or finds an unsuitable cable (8); a disabled port shows a
message and stays; a port that the last start blamed, in step 12 in mode 1, is left untrained. Training to 16 or 12 lanes leads to the link test (3), a failed one to STATE 7; a link test that has passed waits for
the peer's NEGOTIATE, a failed one leads to STATE 7. The group of a failed lane is due to be dropped. A loss of signal that leaves three
lane groups changes STATE not, with fewer a port in training or test goes to STATE 7. Removing a cable that carries no traffic leads to
STATE 1. A drain ends in STATE 6 once every message that crossed the port is acknowledged, not before. Memory, row, run and cells stay. -/
def Obligations.PortsChangeState : Prop :=
  ∀ (s : State) (p : Nat), s.fe.fe = .on → p < s.portCount →
    let st := s.portState p
    let still (t : State) : Prop := t.mem = s.mem ∧ t.row = s.row ∧ t.run = s.run ∧ t.cells = s.cells
    (∀ ok, st = 1 → s.leftUntrained p = false → s.nat (0x2620 + p) 7 ≠ 0 → ∃ t, exec (.portPresence p ok) s = .next t ∧ still t ∧
      t.portState p = (if ok then 2 else 8) ∧ t.port p = { present := true }) ∧
    (∀ ok, st = 1 → s.leftUntrained p = false → s.nat (0x2620 + p) 7 = 0 → ∃ t, exec (.portPresence p ok) s = .next t ∧ still t ∧
      t.portState p = 1 ∧ t.panel.portMsg = some (2, p)) ∧
    (∀ ok, st = 1 → s.leftUntrained p = true → exec (.portPresence p ok) s = .next (s.setPort p { s.port p with present := true })) ∧
    (∀ ok, st ≠ 1 → exec (.portPresence p ok) s = .next s) ∧
    (st = 2 → (∀ lanes, lanes = 16 ∨ lanes = 12 → ∃ t, exec (.portTrained p true lanes) s = .next t ∧ still t ∧
        t.portState p = 3 ∧ t.nat (0x2620 + p) 2 = lanes) ∧
      ∀ lanes, ∃ t, exec (.portTrained p false lanes) s = .next t ∧ still t ∧ t.portState p = 7) ∧
    (st = 3 → ((s.port p).negotiated = none → ∃ t, exec (.linkTestDone p true) s = .next t ∧ still t ∧ t.portState p = 3 ∧
        (t.port p).tested = true) ∧
      ∃ t, exec (.linkTestDone p false) s = .next t ∧ still t ∧ t.portState p = 7) ∧
    (∀ lane < 16, ∃ t, exec (.laneFailure p lane) s = .next t ∧ still t ∧ lane ∈ (t.port p).dropDue ∧ t.portState p = st) ∧
    (∀ g < 16, st = 2 ∨ st = 3 ∨ st = 4 ∨ st = 5 → 3 ≤ popcount 4 ((s.port p).groups &&& (15 - g)) →
      ∃ t, exec (.lossOfSignal p g) s = .next t ∧ still t ∧ t.portState p = st ∧
        (t.port p).groups = (s.port p).groups &&& (15 - g)) ∧
    (∀ g < 16, st = 2 ∨ st = 3 → popcount 4 ((s.port p).groups &&& (15 - g)) < 3 →
      ∃ t, exec (.lossOfSignal p g) s = .next t ∧ still t ∧ t.portState p = 7) ∧
    (st ≠ 4 → st ≠ 5 → ∃ t, exec (.presenceDeassert p) s = .next t ∧ still t ∧ t.portState p = 1 ∧ t.port p = {} ∧
      t.nat (0x2620 + p) 6 = 0) ∧
    (st = 5 → (∀ m ∈ s.naela.sentMsgs, m.port ≠ p) →
      exec (.quiesceDrained p) s = .next (s.setOb (0x2620 + p) 1 6)) ∧
    ((st ≠ 5 ∨ ∃ m ∈ s.naela.sentMsgs, m.port = p) → exec (.quiesceDrained p) s = .next s)

/-- Frames: one that comes in its turn is taken and the next one expected; a damaged one, or one ahead of its turn, asks for a resend
of the frame expected, and is not taken; one that has been taken is dropped. A retry request, and an ACK that has not advanced, resend
the kept frames in order. A port whose link is down takes nothing. -/
def Obligations.FramesAreTakenInOrder : Prop :=
  ∀ (s : State) (p : Nat), s.fe.fe = .on → p < s.portCount →
    let pt := s.port p
    (∀ f, f.length = 512 → s.linkUp p = false → exec (.naelaFrame p f) s = .next s) ∧
    (∀ f, s.linkUp p = true → frameOk f = false →
      ∃ t, exec (.naelaFrame p f) s = .next t ∧ (t.port p).retry = some pt.expect ∧ (t.port p).expect = pt.expect ∧
        t.mem = s.mem ∧ t.naela.rxDone = s.naela.rxDone) ∧
    (∀ f, s.linkUp p = true → frameOk f = true → uAt f 0 1 = 1 → uAt f 4 4 = pt.expect →
      ∃ t, exec (.naelaFrame p f) s = .next t ∧ (t.port p).expect = (pt.expect + 1) % 2 ^ 32 ∧ (t.port p).retry = none ∧
        t.mem = s.mem ∧ t.row = s.row) ∧
    (∀ f, s.linkUp p = true → frameOk f = true → uAt f 0 1 ≠ 0 → uAt f 4 4 ≠ pt.expect → seqAfter (uAt f 4 4) pt.expect = true →
      ∃ t, exec (.naelaFrame p f) s = .next t ∧ (t.port p).retry = some pt.expect ∧ (t.port p).expect = pt.expect ∧
        t.mem = s.mem ∧ t.naela.rxDone = s.naela.rxDone) ∧
    (∀ f, s.linkUp p = true → frameOk f = true → uAt f 0 1 ≠ 0 → uAt f 4 4 ≠ pt.expect → seqAfter (uAt f 4 4) pt.expect = false →
      exec (.naelaFrame p f) s = .next s) ∧
    (∀ n, s.linkUp p = true → pt.resends = [] → pt.resentAt = [] → (pt.replay.map (·.1)).Nodup → pt.replay.length ≤ 256 →
      let fs := pt.replay.filter (fun e => e.1 == n || seqAfter e.1 n)
      (∃ t, exec (.retryRequest p n) s = .next t ∧ t.out = (fs.map (fun e => Output.naela p e.2)).reverse ++ s.out ∧
        t.mem = s.mem ∧ t.row = { s.row with retries := s.row.retries + fs.length }) ∧
      ((pt.acked + 1) % 2 ^ 32 = n → pt.replay ≠ [] →
        ∃ t, exec (.frameRetryTimeout p) s = .next t ∧ t.out = (fs.map (fun e => Output.naela p e.2)).reverse ++ s.out ∧
          t.mem = s.mem ∧ t.row = { s.row with retries := s.row.retries + fs.length })) ∧
    (pt.replay = [] → exec (.frameRetryTimeout p) s = .next s)

/-- Messages for this module whose CRC-64 agrees: a window message or a partial sum of a member, in its order and for the open row,
lands as a write of the row; a partial sum that does not agree with its record fails the attempt; an acknowledgement ends its
message's wait; a barrier arrival, a plan, a NEGOTIATE and newer links are held where they belong; a better master's announcement is
followed. One whose CRC-64 disagrees is dropped. An unacknowledged message is sent again twice and then given up. -/
def Obligations.MessagesTakeEffect : Prop :=
  ∀ (s : State) (p : Nat) (m : Bytes), s.fe.fe = .on → p < s.portCount → s.naela.rxDone = [] →
    (msgDst m = s.moduleId → msgCrcOk m = false →
      exec (.ack p m) s = .next s ∧ exec (.barrier p m) s = .next s ∧ exec (.time p m) s = .next s ∧
      exec (.power p m) s = .next s ∧ exec (.negotiate p m) s = .next s ∧ exec (.route p m) s = .next s) ∧
    (msgDst m = s.moduleId → msgCrcOk m = true → s.naela.early = [] →
      (s.naela.heldMsgs = [] → s.tookId (msgSrc m) (msgId m) = false → s.nextInOrder (msgSrc m) (msgId m) = true →
        s.inGroup (msgSrc m) = true → s.rowStands (msgRow m) (msgAttempt m) = 0 →
        (∀ u, msgType m = 1 → s.landBody (msgAddr m) (msgBody m) = .ok u →
          ∃ t, exec (.data p m) s = .next t ∧ t.mem = u.mem ∧ t.hbm = u.hbm ∧ t.row = s.row) ∧
        (∀ u, msgType m = 2 → unitsAgree (msgBody m) = true → s.landBody (msgAddr m) (msgBody m) = .ok u →
          ∃ t, exec (.collective p m) s = .next t ∧ t.mem = u.mem ∧ t.hbm = u.hbm ∧ t.row = s.row) ∧
        (msgType m = 2 → unitsAgree (msgBody m) = false → s.row.waste = false →
          ∃ t, exec (.collective p m) s = .next t ∧ s.attemptFailed t { cause := 0x15, suspects := [.module (msgSrc m), .port p] })) ∧
      (s.grouped = false → ∃ t, exec (.ack p m) s = .next t ∧ t.mem = s.mem ∧ t.row = s.row ∧
        t.naela.sentMsgs = s.naela.sentMsgs.filter (fun e => !(e.dst == msgSrc m && e.id == uAt (msgBody m) 0 4))) ∧
      (let b := msgBody m;
        uAt b 0 4 = s.nat 0x2220 1 → uAt b 11 1 < 32 → s.rowStands (uAt b 4 6) (uAt b 10 1) = 0 → uAt b 14 1 = 0 →
        ∃ t, exec (.barrier p m) s = .next t ∧ (uAt b 11 1, uAt b 12 2, msgSrc m) ∈ t.naela.barUp) ∧
      (let b := msgBody m;
        uAt b 0 4 = s.nat 0x2500 0x0C → uAt b 12 2 ∈ s.feedPeers →
        ∃ t plan, exec (.power p m) s = .next t ∧ t.mem = s.mem ∧ t.row = s.row ∧
          Tab.get? t.power.peerPlans (uAt b 4 6 * 1024 + uAt b 12 2) = some plan ∧
          ∀ i < 32, plan.getD i 0 = uAt b (16 + 2 * i) 2) ∧
      (s.portState p = 3 → (s.port p).tested = false →
        ∃ t, exec (.negotiate p m) s = .next t ∧ (t.port p).negotiated = some (msgBody m) ∧ t.portState p = 3 ∧ t.mem = s.mem) ∧
      (let b := msgBody m;
        b ≠ [] → uAt b 0 2 ≠ s.moduleId → (∀ k, Tab.get? s.naela.linkAt (uAt b 0 2) = some k → k < uAt b 8 8) →
        ∃ t, exec (.route p m) s = .next t ∧ Tab.get? t.naela.linkAt (uAt b 0 2) = some (uAt b 8 8) ∧ t.mem = s.mem ∧
          t.row = s.row) ∧
      (let b := msgBody m;
        uAt b 0 1 = 2 → uAt b 4 4 ≠ ownHash → s.nat 0x2100 9 = 0 → s.time.announce = none →
        betterMaster (claimOf (uAt b 1 1) (uAt b 2 1) (uAt b 4 4)) s.ownClaim = true →
        ∃ t, exec (.time p m) s = .next t ∧ t.mem = s.mem ∧ t.row = s.row ∧
          t.time.announce = some (p, uAt b 1 1, uAt b 2 1, uAt b 3 1 + 1, uAt b 4 4) ∧
          t.nat 0x2100 0x0B = uAt b 4 4 ∧ t.nat 0x2100 0x0C = uAt b 3 1 + 1)) ∧
    (∀ e, s.naela.sentMsgs = [e] →
      (e.sends < 3 → ∃ t f, exec (.messageResendTimeout e.dst e.id) s = .next t ∧ t.naela.sentMsgs = [f] ∧
        f.sends = e.sends + 1 ∧ f.id = e.id ∧ f.dst = e.dst ∧ f.bytes = e.bytes ∧ t.mem = s.mem ∧ t.row = s.row ∧
        t.nat 0x2600 9 = (s.addOb 0x2600 9 1).nat 0x2600 9) ∧
      (3 ≤ e.sends → e.inGroup = true → s.row.phase = .running → s.row.waste = false →
        ∃ t, exec (.messageResendTimeout e.dst e.id) s = .next t ∧ t.naela.sentMsgs = [] ∧
          s.attemptFailed t { cause := 0x31, suspects := [.port e.port] }))

/-! ### Host queues (R370 to R376, R389) -/

/-- Queue pairs: a doorbell within the queue's size is taken, one beyond it is ignored with DBERR; EN starts both queues at entry 0
below QUEUES and no further; a disabled queue has no unstarted command left; a fetch takes the next command of a queue; a held
completion leaves once its queue has room, written with SQHEAD and the phase; a coalescing time that has passed sends the vector;
bases are writable only while the queue is disabled. -/
def Obligations.HostQueuesRun : Prop :=
  ∀ (s : State) (q : Nat), s.serves = true → q < 64 →
    let qp := s.queue q
    let still (t : State) : Prop := t.mem = s.mem ∧ t.hostMem = s.hostMem ∧ t.row = s.row ∧ t.cells = s.cells ∧ t.dev = s.dev
    (∀ v ≤ qp.sqent, exec (.sqtailDoorbell q v) s = .next (s.setQueue q { qp with sqtail := v })) ∧
    (∀ v, qp.sqent < v → ∃ t, exec (.sqtailDoorbell q v) s = .next t ∧ still t ∧ t.queue q = { qp with dberr := true }) ∧
    (∀ v ≤ qp.cqent, s.host.held = [] → s.host.fetched = [] →
      exec (.cqheadDoorbell q v) s = .next (s.setQueue q { qp with cqhead := v })) ∧
    (∀ v e, v ≤ qp.cqent → s.host.held = [e] → s.host.fetched = [] → e.queue = q → e.silent = false → e.needDigest = false →
      s.hbm.waitSnoop = [] → e.writes = [] → e.digAddr = 0 → e.irq = false → e.bytes.length = 64 → uAt e.bytes 4 1 ≠ 1 →
      { qp with cqhead := v }.room = true → s.fieldOk (qp.cqbase + 64 * qp.cqtail) 64 = true →
      (isHost (qp.cqbase + 64 * qp.cqtail) = true ∨ s.hbm.inAlt = [] ∧ s.hbm.log = []) →
      ∃ t, exec (.cqheadDoorbell q v) s = .next t ∧ t.host.held = [] ∧ (t.queue q).cqtail = (qp.cqtail + 1) % (qp.cqent + 1) ∧
        t.readField (qp.cqbase + 64 * qp.cqtail) 64 =
          patch (patch e.bytes 2 (le 2 e.sqhead)) 5 (le 1 (if qp.phase then 1 else 0))) ∧
    (qp.en = false → qp.active = false → q < s.nat 0x2B00 1 →
      ∃ t, exec (.queueEnable q) s = .next t ∧ still t ∧ (t.queue q).en = true ∧ (t.queue q).active = true ∧
        (t.queue q).sqhead = 0 ∧ (t.queue q).sqtail = 0 ∧ (t.queue q).cqhead = 0 ∧ (t.queue q).cqtail = 0 ∧
        (t.queue q).phase = true) ∧
    (qp.en = false → s.nat 0x2B00 1 ≤ q → ∃ t, exec (.queueEnable q) s = .next t ∧ still t ∧ (t.queue q).en = false) ∧
    (qp.en = true → ∃ t, exec (.queueDisable q) s = .next t ∧ still t ∧ (t.queue q).en = false ∧
      ∀ f ∈ t.host.fetched, f ∈ s.host.fetched ∧ ¬(f.queue = q ∧ f.unstarted = true)) ∧
    (s.fetches = true → ((List.range 64).map (fun i => (s.host.rrFetch + 1 + i) % 64)).find? s.fetchable = some q →
      s.refusesCommands = false → s.fieldOk (qp.sqbase + 128 * qp.sqhead) 128 = true →
      cmdOpcode (s.readField (qp.sqbase + 128 * qp.sqhead) 128) ∈ opcodes →
      ∃ t, exec .commandFetch s = .next t ∧ still t ∧ (t.queue q).sqhead = (qp.sqhead + 1) % (qp.sqent + 1) ∧
        t.host.rrFetch = q ∧ t.host.fetched = s.host.fetched ++ [{
          queue := q, cmd := s.readField (qp.sqbase + 128 * qp.sqhead) 128, sqhead := (qp.sqhead + 1) % (qp.sqent + 1)
          no := s.host.fetchNo + 1 }]) ∧
    (s.fetches = false → exec .commandFetch s = .next s) ∧
    (qp.coal ≠ 0 → qp.coalTime ≠ 0 → qp.ien = true → s.host.masked.contains q = false →
      ∃ t, exec (.msixCoalesceTimeout q) s = .next t ∧ t.out = .msix q :: s.out ∧ (t.queue q).coal = 0 ∧ still t) ∧
    ((qp.coal = 0 ∨ qp.coalTime = 0) → exec (.msixCoalesceTimeout q) s = .next s) ∧
    (∀ v, qp.en = false →
      exec (.queueRegisterWrite q 0 v) s = .next (s.setQueue q { qp with sqbase := bits v 63 63 * 2 ^ 63 + bits v 51 12 * 4096 }) ∧
      exec (.queueRegisterWrite q 8 v) s = .next (s.setQueue q { qp with cqbase := bits v 63 63 * 2 ^ 63 + bits v 51 12 * 4096 }) ∧
      ∃ t, exec (.queueRegisterWrite q 0x10 v) s = .next t ∧ still t ∧ (t.queue q).sqent = max 15 (min 4095 (bits v 11 0)) ∧
        (t.queue q).cqent = max 15 (min 4095 (bits v 27 16))) ∧
    (∀ v off, qp.en = true → off ∈ [0, 4, 8, 12, 0x10] →
      ∃ t, exec (.queueRegisterWrite q off v) s = .next t ∧ still t ∧ t.queues = s.queues)

/-! ### Host commands (R109, R226, R240, R375 to R387) -/

/-- Run commands: one whose checks pass waits at the head of its queue for its run, one that fails is refused with the failing
check's status and changes nothing else. When a run can start, the waiting RUN_PATTERN whose turn it is becomes the active run, and
a waiting ADVANCE becomes the active run over its sessions, each of them BUSY. -/
def Obligations.RunCommandsWaitAndStart : Prop :=
  (∀ (s : State) (q : Nat) (c : Bytes), s.turnOf q → c.length = 128 →
    let f := (s.enterFetched q c).1
    let u := (s.enterFetched q c).2
    let waits (i : Instr) : Prop := ∃ t, exec i s = .next t ∧ t.host.fetched = s.host.fetched ++ [{ f with wait := true }] ∧
      t = { s with host := t.host }
    let refused (i : Instr) (st : Nat) : Prop := ∃ t, exec i s = .next t ∧ s.endedCmd t q c st 0 ∧
      t.host.fetched = s.host.fetched ∧ t.mem = s.mem ∧ t.pats = s.pats ∧ t.sess = s.sess ∧ t.run = s.run ∧ t.row = s.row
    (∀ g ∈ s.host.fetched, g.no ≤ s.host.fetchNo) →
    (∀ p, u.checkRunTurn c = .ok p → waits (.runPattern q c)) ∧
    (∀ st < 256, u.checkRunTurn c = .error st → refused (.runPattern q c) st) ∧
    (∀ p, u.checkReshard c = .ok p → waits (.reshard q c)) ∧
    (∀ st < 256, u.checkReshard c = .error st → refused (.reshard q c) st) ∧
    (∀ p, u.checkCopy c = .ok p → waits (.copy q c)) ∧ (∀ st < 256, u.checkCopy c = .error st → refused (.copy q c) st) ∧
    (headerOk 0x11 [(16, 4), (24, 24)] c = true → addrsOk c [24, 32, 40] = true → waits (.advance q c)) ∧
    ((headerOk 0x11 [(16, 4), (24, 24)] c && addrsOk c [24, 32, 40]) = false → refused (.advance q c) 0x12)) ∧
  (∀ (s : State) (f : Fetched), s.fe.fe = .on →
    let u : State := { s with host := { s.host with rrRun := f.queue } }
    (s.canStart = false → exec .runStart s = .next s) ∧
    (∀ p, s.canStart = true → s.nextRun = some f → cmdOpcode f.cmd = 0x02 → u.checkRun f.cmd = .ok p →
      ∃ t r, exec .runStart s = .next t ∧ t.run = some r ∧ r.kind = .pattern ∧ r.queue = f.queue ∧ r.cmd = f.cmd ∧
        r.slot = uAt f.cmd 16 2 ∧ r.rows = p.rows ∧ r.done = 0 ∧ r.arg = uAt f.cmd 24 8 ∧
        t.host.fetched = s.host.fetched.filter (fun g => g.no != f.no) ∧ t.mem = s.mem ∧ t.row = s.row) ∧
    (∀ a, s.canStart = true → s.nextRun = some f → cmdOpcode f.cmd = 0x11 → f.queue < 64 → u.checkAdvance f.cmd = .ok a →
      ∃ t r, exec (.advanceAdmission f.queue) s = .next t ∧ t.run = some r ∧ r.cmd = f.cmd ∧ r.handles = a.handles ∧
        r.kind = (if a.prefills.isEmpty then .decode else .prefill) ∧ t.row = s.row ∧
        ∀ h ∈ a.handles, (t.session (h % 8192)).inRun = true) ∧
    ((∀ g, s.nextRun = some g → g.queue ≠ f.queue ∨ cmdOpcode g.cmd ≠ 0x11) → f.queue < 64 →
      exec (.advanceAdmission f.queue) s = .next s))

/-- Immediate commands at their turn, their checks passed: LOAD_PATTERN enters the pattern in its slot and answers it, its unload form
empties it; OPEN_SESSION opens its slot with an empty page list, CLOSE_SESSION frees it with the next TAG, its pages returned or
being zeroed; HINT enters a hint for every cell; FENCE ends once nothing it waits for is left, READ_RECEIPT and READ_SIGNATURES end
with their data to be written, or with NEW wait for the next bundle. -/
def Obligations.ImmediateCommandsTakeEffect : Prop :=
  ∀ (s : State) (q : Nat) (c : Bytes), s.turnOf q → c.length = 128 →
    let f := (s.enterFetched q c).1
    let u := (s.enterFetched q c).2
    let quiet (t : State) : Prop := t.mem = s.mem ∧ t.pats = s.pats ∧ t.run = s.run
    (∀ m i, loadFieldsOk c = true → uAt c 24 1 = 0 → (uAt c 26 2 < 64 ∨ uAt c 26 2 = 0xFFFF) → isHost (uAt c 16 8) = false →
      u.checkImage (addrOf (uAt c 16 8)) = .ok m → u.loadSlot (uAt c 26 2) = .ok i →
      ∃ t, exec (.loadPattern q c) s = .next t ∧ t.pats = Tab.set s.pats i m.pattern ∧
        s.endedCmd t q c (if uAt m.bytes 7 1 ≤ 15 then 0 else 1) i) ∧
    (∀ p, loadFieldsOk c = true → uAt c 24 1 = 1 → uAt c 16 8 = 0 → uAt c 26 2 < 64 → u.slotInUse (uAt c 26 2) = false →
      Tab.get? s.pats (uAt c 26 2) = some p →
      ∃ t, exec (.patternUnload q c) s = .next t ∧ t.pats = Tab.erase s.pats (uAt c 26 2) ∧
        s.endedCmd t q c 0 (uAt c 26 2)) ∧
    (∀ i, u.checkOpen c = .ok i →
      ∃ t st, exec (.openSession q c) s = .next t ∧ st ≤ 1 ∧ s.endedCmd t q c st ((s.session i).tag * 65536 + i) ∧
        (t.session i).status = 1 ∧ (t.session i).tag = (s.session i).tag ∧ (t.session i).set = uAt c 18 1 ∧
        (t.session i).plen = uAt c 20 4 ∧ (t.session i).prompt = uAt c 24 8 ∧ (t.session i).seed = uAt c 32 8 ∧
        (t.session i).pages = [] ∧ (∀ k, k ≠ i → Tab.get? t.sess k = Tab.get? s.sess k) ∧ t.pats = s.pats) ∧
    (∀ i, u.checkClose c = .ok i →
      let next := if (s.session i).tag = 65535 then 1 else (s.session i).tag + 1
      ((bit (uAt c 20 1) 0 = false ∨ (s.session i).pages = []) →
        ∃ t, exec (.closeSession q c) s = .next t ∧ s.endedCmd t q c 0 (uAt c 16 4) ∧ t.session i = { tag := next } ∧
          ∀ p, p ∈ t.pool.used ↔ p ∈ s.pool.used ∧ p ∉ (s.session i).pages) ∧
      (bit (uAt c 20 1) 0 = true → (s.session i).pages ≠ [] →
        ∃ t, exec (.closeSession q c) s = .next t ∧ t.session i = { tag := next } ∧ t.pool.used = s.pool.used ∧
          (uAt c 16 4, (s.session i).pages.map (fun p => (p, s.pageAddr p))) ∈ t.pool.zeroing ∧ t.host.ending = s.host.ending)) ∧
    (headerOk 0x20 [(16, 2), (20, 4)] c = true →
      ∃ t st, exec (.hint q c) s = .next t ∧ st ≤ 1 ∧ s.endedCmd t q c st 0 ∧ quiet t ∧
        t.power.hints = (u.addHint { row := s.row.num + max 1 (min 32 (uAt c 16 1)), cell := none, level := min 64 (uAt c 17 1)
                                     dur := min 0x1FFFFFF (uAt c 20 4) }).power.hints) ∧
    (headerOk 0x21 [(16, 8)] c = true →
      (u.fenceClear f = true → ∃ t, exec (.fence q c) s = .next t ∧ s.endedCmd t q c 0 0 ∧ quiet t) ∧
      (u.fenceClear f = false → ∃ t, exec (.fence q c) s = .next t ∧ quiet t ∧ t.host.ending = s.host.ending ∧
        { f with wait := true } ∈ t.host.fetched)) ∧
    (headerOk 0x30 [(16, 13), (32, 8)] c = true → addrsOk c [32] = true → addrOf (uAt c 32 8) % 64 = 0 →
      destOk (uAt c 32 8) (1024 * max 1 (min 1024 (uAt c 24 4))) = true →
      (uAt c 28 1 = 0 → ∃ t st n, exec (.readReceipt q c) s = .next t ∧ st ≤ 1 ∧ s.endedCmd t q c st n ∧ quiet t ∧
        n ≤ s.flash.bundles.flatten.length / 1024) ∧
      (uAt c 28 1 = 1 → ∃ t, exec (.readReceipt q c) s = .next t ∧ quiet t ∧ t.row.forceNew = true ∧
        t.host.ending = s.host.ending ∧ { f with wait := true } ∈ t.host.fetched)) ∧
    (headerOk 0x31 [(16, 12), (32, 8)] c = true → addrsOk c [32] = true → addrOf (uAt c 32 8) % 64 = 0 →
      destOk (uAt c 32 8) (max 512 (uAt c 24 4)) = true →
      ∃ t st n, exec (.readSignatures q c) s = .next t ∧ st ≤ 1 ∧ s.endedCmd t q c st n ∧ quiet t)

/-! ### Host memory and link (R19, R203, R205, R217, R222, R240, R368, R369, R374) -/

/-- The host's accesses and its link: a read in one line answers the committed bytes and is tracked by the snoop filter; a write in
one line of ordinary memory lands at once, of a logged or versioned region while a run's row is open it is held; the answer to a
back-invalidate ends its wait; PERST# takes the link down and disables every queue; the link trains to 16 lanes with both
connectors and 8 with A alone. A range that is not decoded is untouched. -/
def Obligations.HostMemoryAndLink : Prop :=
  ∀ s : State, s.fe.fe = .on →
    (∀ a n, s.decoded a n = false → exec (.hostMemRead a n) s = .next s) ∧
    (∀ a d, s.decoded a d.length = false → exec (.hostMemWrite a d) s = .next s) ∧
    (∀ a n, s.decoded a n = true → 0 < n → a % 64 + n ≤ 64 → s.inShare a n = false → s.sliceOut a = false →
      (a / 64 * 64 ∈ s.hbm.snoop ∨ s.hbm.snoop.length < 16) →
      ∃ t poison, exec (.hostMemRead a n) s = .next t ∧
        t.out = .hostData ((List.range n).map (fun i => s.hostByte (a + i))) poison :: s.out ∧ a / 64 * 64 ∈ t.hbm.snoop ∧
        t.mem = s.mem ∧ t.row = s.row) ∧
    (∀ a d, s.decoded a d.length = true → d ≠ [] → a % 64 + d.length ≤ 64 → s.inShare a d.length = false → s.inSarea a = false →
      s.inImage a = false → s.sliceOut a = false →
      (s.heldTarget a = false → ∃ t, exec (.hostMemWrite a d) s = .next t ∧ t.mem.readBytes (s.committedAt a) d.length = d ∧
        ∀ b, b < s.committedAt a ∨ s.committedAt a + d.length ≤ b → t.mem.read b = s.mem.read b) ∧
      (s.heldTarget a = true → exec (.hostMemWrite a d) s =
        .next { s with hbm := { s.hbm with heldWrites := s.hbm.heldWrites ++ [(a, d)] } })) ∧
    (∀ a d, s.decoded a d.length = true → d ≠ [] → a % 64 + d.length ≤ 64 → s.inShare a d.length = true →
      exec (.hostMemWrite a d) s = .next (s.addOb 0x2401 0x11 1)) ∧
    (∀ a b n, s.hbm.waitSnoop = [(a / 64 * 64, some (b, n))] → s.host.held = [] → s.host.fetched = [] →
      ∃ t, exec (.birsp a) s = .next t ∧ t.hbm.waitSnoop = [] ∧ t.out = s.hostData b n :: s.out ∧ b / 64 * 64 ∈ t.hbm.snoop ∧
        t.mem = s.mem) ∧
    (∃ t, exec .perstAssert s = .next t ∧ t.host.up = false ∧ (∀ q, (t.queue q).en = false) ∧ t.hbm.snoop = [] ∧
      t.dev = s.dev ∧ t.mem = s.mem ∧ t.hostMem = s.hostMem ∧ t.row = s.row) ∧
    (∀ a b rate flit, rate = 32 ∨ rate = 64 → ∃ t, exec (.cxlLinkTrain a b rate flit) s = .next t ∧
      t.host.up = a ∧ t.host.width = (if a then (if b then 16 else 8) else 0) ∧ t.host.onlyB = (b && !a) ∧
      t.host.ioOnly = (a && !flit) ∧ (flit = false → t.host.memActive = false) ∧
      (a = true → flit = true → s.dev = .ready ∨ s.dev = .running ∨ s.dev = .hold → t.host.memActive = true) ∧
      t.mem = s.mem ∧ t.dev = s.dev) ∧
    ((∀ e ∈ s.host.held ++ s.host.ending, e.needDigest = false) → exec .outputDigestComplete s = .next s) ∧
    (∀ e, s.host.held = [] → s.host.ending = [e] → s.host.fetched = [] → e.needDigest = true →
      ∃ t, exec .outputDigestComplete s = .next t ∧ t.host.ending = [{ e with needDigest := false }] ∧ t.mem = s.mem ∧
        t.hbm.unhashed = s.hbm.unhashed.drop e.digests.length) ∧
    (∀ h ps, h % 65536 < 8192 → s.pool.zeroing = [(h, ps)] →
      ∃ t, exec (.pageZeroingDone h) s = .next t ∧ t.pool.zeroing = [] ∧ (∀ p, p ∈ t.pool.used ↔ p ∈ s.pool.used ∧ p ∉ ps.map (·.1)) ∧
        ∀ p ∈ ps, s.map.outStacks.contains (p.1 / 65536) = false → ∀ a, p.2 ≤ a → a < p.2 + pageBytes → t.mem.read a = 0)

/-! ### The dictionary (R415 to R418, R420, R428, R432, R433, R435 to R438, R443, R445) -/

/-- A write that is not answered does nothing. One that is heard is refused by the first rule it breaks, in the order of R428:
existence, rights, state, length, value. One that breaks none is stored, held for the row boundary when its entry is latched. A
read answers the entry's bytes and changes nothing else. With the log near full a write is refused and counted, not logged. -/
def Obligations.DictionaryAccesses : Prop :=
  ∀ (s : State) (o : Origin) (idx sub : Nat) (data : Bytes),
    let i : Instr := .objectWrite o idx sub data
    (s.answersAt o idx sub = false → exec i s = .next s) ∧
    (s.answersAt .cxl idx sub = false → ∀ off len, exec (.bar2Read idx sub off len) s = .next s ∧
      exec (.bar2Write idx sub off len data) s = .next s) ∧
    (s.answersAt o idx sub = true → 3840 ≤ s.flash.log.buffered → ∃ t, exec i s = .next t ∧ t.answered o abToken ∧
      t.flash = s.flash ∧ t.obj = (s.addOb 0x2900 7 1).obj ∧ s.sameRun t) ∧
    (s.mayTry o idx sub → Objects.atIndex idx = [] → s.refuses i o idx sub abIndex) ∧
    (s.mayTry o idx sub → Objects.atIndex idx ≠ [] → Objects.find idx sub = none → s.refuses i o idx sub abSub) ∧
    (∀ e, s.mayTry o idx sub → Objects.find idx sub = some e →
      (e.acc = .ro → s.refuses i o idx sub abReadOnly) ∧
      (e.acc ≠ .ro → s.mayWrite o idx sub = false → s.refuses i o idx sub abOrigin) ∧
      (e.acc ≠ .ro → s.mayWrite o idx sub = true → idx ≠ 0x2201 → s.writeState idx sub = false →
        s.refuses i o idx sub abState) ∧
      (s.mayDo o idx sub → e.acc = .rw → idx ≠ 0x2201 → idx ≠ 0x2A20 → idx ≠ 0x2302 → idx ≠ 0x2810 → ∀ n, e.typ.size = some n →
        (data.length ≠ n → s.refuses i o idx sub abLength) ∧
        (data.length = n → ∀ code, s.fitValue e idx sub (e.typ.decode data) = .error code → s.refuses i o idx sub code) ∧
        (data.length = n → ∀ a, s.fitValue e idx sub (e.typ.decode data) = .ok (a, 0) →
          let clamped := a ≠ e.typ.decode data
          (latchedEntry idx sub = true → ∃ t, exec i s = .next t ∧ t.obj = s.obj ∧ s.sameRun t ∧
            ∃ l ∈ t.latched, l.key = okey idx sub ∧ l.val = a) ∧
          (latchedEntry idx sub = false → boundaryEntry idx sub = false → idx ∈ [0x1017, 0x2200, 0x2A00] →
            ∃ t, exec i s = .next t ∧ t.ob idx sub = a ∧ s.sameRun t ∧
              (∀ k l, l < 256 → (k, l) ≠ (idx, sub) → t.ob k l = s.ob k l) ∧ (o = .can → ∃ os, t.out = .usdo 0 [] :: os) ∧
              (o = .cxl → t.bar2.abort = 0 ∧ (t.bar2.clamped = true ↔ clamped)) ∧
              ∃ r : LogRec, t.flash.log = s.flash.log.push r ∧ r.result = if clamped then 1 else 0)))) ∧
    (∀ len, s.answersAt .can idx sub = true → s.answersAt .cxl idx sub = true →
      (Objects.atIndex idx = [] → exec (.usdoTransfer false idx sub data) s = .next (s.emit (.usdo abIndex []))) ∧
      (Objects.atIndex idx ≠ [] → Objects.find idx sub = none →
        exec (.usdoTransfer false idx sub data) s = .next (s.emit (.usdo abSub []))) ∧
      (∀ e, Objects.find idx sub = some e → e.acc ≠ .wo → e.typ ≠ .domain → (idx, sub) ≠ (0x2100, 3) →
        exec (.usdoTransfer false idx sub data) s = .next (s.emit (.usdo 0 ((s.entryBytes .can e idx sub).take maxTransfer))) ∧
        ∃ t, exec (.bar2Read idx sub 0 len) s = .next t ∧ t = { s with bar2 := t.bar2 } ∧ t.bar2.done = true ∧
          t.bar2.busy = false ∧ t.bar2.abort = 0 ∧
          t.bar2.buf.take t.bar2.doneLen = (s.entryBytes .cxl e idx sub).take (min len maxTransfer))) ∧
    (exec (.usdoTransfer true idx sub data) s = exec (.objectWrite .can idx sub data) s) ∧
    (∀ len, s.answersAt .cxl idx sub = true → len ≤ maxTransfer → data.length = len →
      exec (.bar2Write idx sub 0 len data) s =
        exec (.objectWrite .cxl idx sub data) { s with bar2 := { s.bar2 with buf := data ++ s.bar2.buf.drop len } })

/-! ### CAN services, streams (R362, R415, R416, R440, R445, R446) -/

/-- NMT commands leave the module Operational and are logged; the heartbeat of a node that is up is a frame with 0x05, and a status
frame of 16 bytes goes with it, or when STATE or SUBSTATE has changed. The log and the signatures are read as whole records from
CURSOR, which advances past them; a flush leaves no record unflushed. -/
def Obligations.CanServicesAndStreams : Prop :=
  ∀ s : State, s.fe.fe = .on →
    let node := s.start.nodeId
    let statusSent (u t : State) : Prop := ∃ b, b.length = 16 ∧ uAt b 0 1 = stateCode s.dev ∧ uAt b 4 6 = s.row.num % 2 ^ 48 ∧
      t.out = .can (0x680 + node) b :: u.out ∧ t.start.statusDue = false ∧ s.sameRun t ∧ t.dev = s.dev
    (∀ b, s.canUp = true → (∃ t, exec (.nmtStop b) s = .next t ∧ s.oneRecord t .can 10 0x1017 0) ∧
      ∃ t, exec (.nmtReset b) s = .next t ∧ s.oneRecord t .can 10 0x1017 0) ∧
    (∀ b, s.canUp = false → exec (.nmtStop b) s = .next s ∧ exec (.nmtReset b) s = .next s ∧ exec .canHeartbeat s = .next s ∧
      exec .statusFrame s = .next s) ∧
    (s.canUp = true → s.nat 0x1017 0 = 0 → exec .canHeartbeat s = .next s) ∧
    (s.canUp = true → s.nat 0x1017 0 ≠ 0 →
      let u := s.emit (.can (0x700 + node) [0x05])
      (s.nat 0x2200 4 ≠ 1 → exec .canHeartbeat s = .next u) ∧
      (s.nat 0x2200 4 = 1 → ∃ t, exec .canHeartbeat s = .next t ∧ statusSent u t)) ∧
    (s.canUp = true → s.start.statusDue = true → s.nat 0x2200 4 = 1 → ∃ t, exec .statusFrame s = .next t ∧ statusSent s t) ∧
    (s.start.statusDue = false → exec .statusFrame s = .next s) ∧
    (∀ o n, s.answersAt o 0x2900 1 = true →
      let l := s.flash.log
      let rs := (l.recs.drop ((l.cursor o + 2 ^ 32 - l.oldest) % 2 ^ 32)).take (min n maxTransfer / 64)
      ∃ t, exec (.logStreamRead o n) s = .next t ∧
        t = { s with flash := { s.flash with log := l.setCursor o ((l.cursor o + rs.length) % 2 ^ 32) }, out := t.out
                     bar2 := t.bar2 } ∧
        (o = .can → t.out = .usdo 0 (rs.flatMap LogRec.bytes) :: s.out) ∧
        (o = .cxl → t.bar2.abort = 0 ∧ t.bar2.buf.take t.bar2.doneLen = rs.flatMap LogRec.bytes)) ∧
    (∀ o n, s.answersAt o 0x2404 1 = true → o = .can ∨ o = .cxl ∨ o = .usb →
      let oldest := s.flash.sigSeq + 1 - s.flash.sigs.length
      let c := max oldest s.flash.sigCursor
      ∃ t es, exec (.signatureStreamRead o n) s = .next t ∧ es <+: s.flash.sigs.drop (c - oldest) ∧
        (es.flatMap Signature.bytes).length ≤ n ∧
        t = { s with flash := { s.flash with sigCursor := c + es.length }, out := t.out, bar2 := t.bar2 } ∧
        (o = .can → t.out = .usdo 0 (es.flatMap Signature.bytes) :: s.out)) ∧
    exec .changeLogFlush s = .next { s with flash := { s.flash with log := { s.flash.log with buffered := 0 } } }

/-! ### State commands (R109, R338, R339, R430, R431, R483) -/

/-- A command that its origin may not give is refused with 0x0601_0000, one that the present state does not accept with 0x0800_0022.
An accepted command is the last command; RUN makes RUNNING due at the next row boundary; HOLD takes effect when the open row closes,
or at once; BIND_READY and BIND_REMOVE begin the bind-off, a member of a larger group waits for the orchestrator; toward removal from
CAST-ON or SAFE the module is safe to remove at once; RESTART turns the front end off for 2 s. -/
def Obligations.StateCommandsMoveTheState : Prop :=
  ∀ (s : State) (o : Origin), o = .can ∨ o = .cxl ∨ o = .usb ∨ o = .panel → s.mayTry o 0x2201 1 →
    let row (p : Instr × Nat) : Prop :=
      (s.mayCommand o p.2 = false → s.refuses p.1 o 0x2201 1 abOrigin) ∧
      (s.mayCommand o p.2 = true → s.commandOk p.2 = false → s.refuses p.1 o 0x2201 1 abState)
    let taken (code : Nat) (i : Instr) (p : State → Prop) : Prop := s.mayCommand o code = true → s.commandOk code = true →
      ∃ t, exec i s = .next t ∧ t.nat 0x2201 2 = code ∧ t.mem = s.mem ∧ t.cells = s.cells ∧ t.pats = s.pats ∧ p t
    row (.run o, 1) ∧ row (.hold o, 2) ∧ row (.bindReady o, 3) ∧ row (.bindRemove o, 4) ∧ row (.restart o, 5) ∧
    taken 1 (.run o) (fun t => t.dev = s.dev ∧
      t.start.runPend = (if s.dev = .running ∧ s.start.holdPend = false then s.start.runPend else true)) ∧
    taken 2 (.hold o) (fun t => t.start.runPend = false ∧
      t.dev = (if s.dev = .running ∧ s.rowOpen = false then .hold else s.dev) ∧
      t.start.holdPend = (if s.dev = .running ∧ s.rowOpen = true then true else s.start.holdPend)) ∧
    taken 3 (.bindReady o) (fun t => t.dev = .bindOff ∧ t.nat 0x2200 2 = 1 ∧ t.start.runPend = false ∧ t.start.holdPend = false) ∧
    taken 4 (.bindRemove o) (fun t =>
      (s.dev = .ready ∨ s.dev = .running ∨ s.dev = .hold ∨ (s.dev = .bindOff ∧ s.nat 0x2200 2 < 2) →
        t.dev = .bindOff ∧ t.nat 0x2200 2 = if s.grouped then 3 else 2) ∧
      (s.dev = .bindOff → 2 ≤ s.nat 0x2200 2 → t.dev = .bindOff ∧ t.nat 0x2200 2 = s.nat 0x2200 2) ∧
      (s.dev = .castOn → t.dev = .bindOff ∧ t.nat 0x2200 2 = 4 ∧ t.power.groupsOff = true) ∧
      (s.dev = .safe → t.dev = .safe ∧ t.nat 0x2200 2 = 4 ∧ (s.nat 0x2200 2 ≠ 4 → t.power.groupsOff = true))) ∧
    (s.mayCommand o 5 = true → s.commandOk 5 = true → ∃ t, exec (.restart o) s = .next t ∧ t.fe.fe = .off ∧ t.fe.offUs = 2000000 ∧
      t.dev = .off ∧ t.mem = [] ∧ t.run = none ∧ t.flash.active = s.flash.active ∧ t.flash.defects = s.flash.defects ∧
      t.hostMem = s.hostMem)

/-! ### Tokens, key slots, defects, entries with a command of their own (R275, R327, R363, R409, R436, R449, R459, R476) -/

/-- An accepted token gives its origin its scope until its lifetime, held within 60 s and 24 h, has run out, and CHALLENGE is drawn
anew; a token ends by CLOSE or when it lapses. An accepted key record programs or revokes its slot alone. REMOVE takes one entry out
of the defect list. A record that does not verify is refused with 0x0800_0020. The suspect list is replaced whole; a PPSSET waits for
its edge; a quiesce drains a port that carries traffic unless a group member would be cut off. -/
def Obligations.SignedRecordsAndSettings : Prop :=
  ∀ (s : State) (o : Origin), o = .can ∨ o = .cxl ∨ o = .usb →
    let others (t : State) : Prop := ∀ p, p ≠ o → t.tokenOf p = s.tokenOf p
    (∀ r, s.mayDo o 0x2A20 1 →
      (uAt r 6 1 = 1 → s.recordOk r = true → ∃ t, exec (.serviceToken o r) s = .next t ∧ s.sameRun t ∧ others t ∧
        t.tokenOf o = some { scope := uAt r 92 2, until_ := s.clock + max 60 (min 86400 (uAt r 88 4)) * 1000000000 } ∧
        t.sec.challengeNo = s.free ∧ t.free = s.free + 1) ∧
      (uAt r 6 1 ≠ 1 ∨ s.recordOk r = false → s.refuses (.serviceToken o r) o 0x2A20 1 abToken)) ∧
    (s.mayDo o 0x2A20 4 → ∃ t, exec (.close o) s = .next t ∧ s.sameRun t ∧ others t ∧ t.tokenOf o = none) ∧
    (s.fe.fe = .on → ∃ t, exec (.tokenLapse o) s = .next t ∧ s.sameRun t ∧ others t ∧ t.tokenOf o = none) ∧
    (∀ r i, i = .keySlotProgram o r ∨ i = .keySlotRevoke o r → s.mayDo o 0x2830 2 → s.flash.slots.length = 4 →
      let ok := (uAt r 6 1 = 2 ∨ uAt r 6 1 = 3) ∧ s.recordOk r = true
      (ok → s.slotChangeOk r = true → ∃ t, exec i s = .next t ∧ s.sameRun t ∧
        (∀ n < 4, t.slot n = if n = uAt r 94 1 then slotAfter (s.slot n) r else s.slot n) ∧ t.sec.challengeNo = s.free) ∧
      (¬ok → s.refuses i o 0x2830 2 abToken) ∧ (ok → s.slotChangeOk r = false → s.refuses i o 0x2830 2 abValue)) ∧
    (∀ n < 65536, s.mayDo o 0x2302 1 →
      (bit (s.scopeOf o) 0 = true → n < s.flash.defects.length → ∃ t, exec (.remove o n) s = .next t ∧ s.sameRun t ∧
        t.flash.defects = s.flash.defects.eraseIdx n ∧ t.map = s.map) ∧
      (bit (s.scopeOf o) 0 = true → s.flash.defects.length ≤ n → s.refuses (.remove o n) o 0x2302 1 abValue) ∧
      (bit (s.scopeOf o) 0 = false → s.refuses (.remove o n) o 0x2302 1 abToken)) ∧
    (∀ data, s.mayDo o 0x2405 1 → data.length ≤ maxTransfer →
      let all := cut 16 (data.length / 16) data
      (data.length % 16 = 0 → (∀ b ∈ all, selectorOk b = true) → ∃ t, exec (.suspectListWrite o data) s = .next t ∧ s.sameRun t ∧
        t.flash.suspectList = ((all.take 256).map selectorFit).flatten) ∧
      (data.length % 16 ≠ 0 ∨ (∃ b ∈ all, selectorOk b = false) → s.refuses (.suspectListWrite o data) o 0x2405 1 abValue)) ∧
    (∀ v < 2 ^ 64, (s.mayDo o 0x2100 7 → ∃ t, exec (.ppssetWrite o v) s = .next t ∧ s.sameRun t ∧ t.nat 0x2100 7 = v ∧
        t.time.ppsPending = true) ∧
      (s.mayTry o 0x2100 7 → s.mayWrite o 0x2100 7 = true → s.dev ≠ .castOn → s.dev ≠ .ready →
        s.refuses (.ppssetWrite o v) o 0x2100 7 abState)) ∧
    (∀ p < s.portCount, s.mayDo o (0x2620 + p) 6 →
      (s.portState p = 4 → s.groupReachable p = true → ∃ t, exec (.quiesce o p 1) s = .next t ∧ s.sameRun t ∧ t.portState p = 5 ∧
        t.nat (0x2620 + p) 6 = 1) ∧
      (s.portState p = 4 → s.groupReachable p = false → ∃ t, exec (.quiesce o p 1) s = .next t ∧ t.answered o abState ∧
        t.obj = s.obj ∧ t.naela = s.naela ∧ t.panel.portMsg = some (1, p) ∧ t.panel.blink = some p) ∧
      (s.portState p = 2 ∨ s.portState p = 3 ∨ s.portState p = 7 ∨ s.portState p = 8 →
        ∃ t, exec (.quiesce o p 1) s = .next t ∧ s.sameRun t ∧ t.portState p = 6) ∧
      (s.portState p = 5 → s.dev ≠ .bindOff → ∃ t, exec (.quiesce o p 0) s = .next t ∧ s.sameRun t ∧ t.portState p = 4 ∧
        t.nat (0x2620 + p) 6 = 0))

/-! ### Firmware (R448 to R453, R461 to R470) -/

/-- IMAGE bytes go to the staging bank, which a write at offset 0 erases first, and FWSTATE becomes 1. VERIFY makes FWSTATE 2 or 3.
ACTIVATE of a verified image, and ROLLBACK to one that still verifies, begin the activation: FWSTATE 4, PHASE 1; the image that runs
changes at its boundaries only. COMMIT burns the anti-rollback floor up to the running SVN. SYSFL is held for the row boundary, within
1 to FLMAX, and refused below the level of a loaded pattern. -/
def Obligations.FirmwareCommands : Prop :=
  ∀ (s : State) (o : Origin), o = .can ∨ o = .cxl ∨ o = .usb →
    let same (t : State) : Prop := s.sameRun t ∧ t.sec.running = s.sec.running ∧ t.flash.active = s.flash.active
    (∀ off data, s.mayDo o 0x2820 1 →
      (s.dev ≠ .safe → s.activating = false → off + data.length ≤ 67108864 →
        ∃ t, exec (.imageWrite o off data) s = .next t ∧ same t ∧ t.sec.fwState = 1 ∧ t.stagedBank.info = none ∧
          t.stagedBank.content.readBytes off data.length = data ∧
          (∀ a, a < off ∨ off + data.length ≤ a →
            t.stagedBank.content.read a = if off = 0 then 0 else s.stagedBank.content.read a)) ∧
      (s.activating = true → s.refuses (.imageWrite o off data) o 0x2820 1 abState) ∧
      (s.dev ≠ .safe → s.activating = false → 67108864 < off + data.length → s.refuses (.imageWrite o off data) o 0x2820 1 abLength)) ∧
    (s.mayDo o 0x2801 1 →
      (s.activating = false → ∃ t, exec (.verify o) s = .next t ∧ same t ∧ t.stagedBank.content = s.stagedBank.content ∧
        t.stagedBank.info = s.verifyBank s.stagedBank ∧
        t.sec.fwState = if (s.verifyBank s.stagedBank).isSome then 2 else 3) ∧
      (s.activating = true → s.refuses (.verify o) o 0x2801 1 abState) ∧
      (∀ m, s.sec.fwState = 2 → s.stagedBank.info = some m → s.activateOk m = true →
        ∃ t, exec (.activate o) s = .next t ∧ same t ∧ t.sec.fwState = 4 ∧ t.sec.phase = 1) ∧
      (s.sec.fwState ≠ 2 → s.refuses (.activate o) o 0x2801 1 abState) ∧
      (∀ m, s.stagedBank.info = some m → s.activateOk m = false → s.refuses (.activate o) o 0x2801 1 abState) ∧
      (∀ m, s.verifyBank s.stagedBank = some m → s.activateOk m = true →
        ∃ t, exec (.rollback o) s = .next t ∧ same t ∧ t.sec.fwState = 4 ∧ t.sec.phase = 1) ∧
      (s.verifyBank s.stagedBank = none → s.refuses (.rollback o) o 0x2801 1 abState) ∧
      (s.asCan o = true → s.dev = .ready ∨ s.dev = .running ∨ s.dev = .hold → s.activating = false →
        ∃ t, exec (.commit o) s = .next t ∧ same t ∧ t.flash.floor = max s.flash.floor (min 128 s.sec.running.svn)) ∧
      (s.asCan o = false → s.refuses (.commit o) o 0x2801 1 abOrigin)) ∧
    (∀ v < 2 ^ 32, s.mayDo o 0x2810 1 →
      let a := max 1 (min (max 1 s.sec.running.flmax) v)
      (s.pats.all (fun e => decide (e.2.flevel ≤ a)) = true → ∃ t, exec (.sysflWrite o v) s = .next t ∧ same t ∧ t.obj = s.obj ∧
        ∃ l ∈ t.latched, l.key = okey 0x2810 1 ∧ l.val = (a : Nat)) ∧
      (s.pats.all (fun e => decide (e.2.flevel ≤ a)) = false → s.refuses (.sysflWrite o v) o 0x2810 1 abState))

/-! ### SPDM and the test access port (R454 to R457, R460) -/

/-- The responder speaks version 1.3 alone and asks for the requests in their order; it chooses RSAPSS before RSASSA and SHA-512
alone; a signed response draws its nonce and signature (free values, log entries 1 and 46) and changes nothing else. Locked, the
test access port executes BYPASS and IDCODE only; open, an instruction outside the allowed set enters SAFE with cause 0x0201. -/
def Obligations.SpdmAndTestPort : Prop :=
  ∀ s : State, s.serves = true →
    let replies (i : Instr) (b : Bytes) : Prop := exec i s = .next (s.emit (.spdm b))
    let ready := s.sec.spdmAlg ≠ 0
    (∀ v, v ≠ 0x10 → replies (.getVersion v) (spdmError 0x41)) ∧
    (∃ t b, exec (.getVersion 0x10) s = .next t ∧ t.out = .spdm b :: s.out ∧ uAt b 1 1 = 4 ∧ uAt b 6 2 = 0x1300 ∧
      t.sec = { s.sec with spdmVersion := true, spdmCaps := false, spdmAlg := 0 }) ∧
    (∀ v slot off len op n signed a h, v ≠ 0x13 → replies (.getCapabilities v) (spdmError 0x41) ∧
      replies (.negotiateAlgorithms v a h) (spdmError 0x41) ∧ replies (.getDigests v) (spdmError 0x41) ∧
      replies (.getCertificate v slot off len) (spdmError 0x41) ∧ replies (.challenge v slot n) (spdmError 0x41) ∧
      replies (.getMeasurements v slot op signed n) (spdmError 0x41)) ∧
    (∀ slot off len op n signed, ¬ready → replies (.getDigests 0x13) (spdmError 4) ∧
      replies (.getCertificate 0x13 slot off len) (spdmError 4) ∧ replies (.challenge 0x13 slot n) (spdmError 4) ∧
      replies (.getMeasurements 0x13 slot op signed n) (spdmError 4)) ∧
    (s.sec.spdmVersion = false → replies (.getCapabilities 0x13) (spdmError 4)) ∧
    (s.sec.spdmVersion = true → ∃ t b, exec (.getCapabilities 0x13) s = .next t ∧ t.out = .spdm b :: s.out ∧ uAt b 8 4 = 0x36 ∧
      t.sec = { s.sec with spdmCaps := true }) ∧
    (∀ a h, s.sec.spdmCaps = true →
      (bit h 2 = true → bit a 6 = true ∨ bit a 5 = true → ∃ t b, exec (.negotiateAlgorithms 0x13 a h) s = .next t ∧
        t.out = .spdm b :: s.out ∧ t.sec = { s.sec with spdmAlg := if bit a 6 then 2 else 1 } ∧
        uAt b 12 4 = (if bit a 6 then 0x40 else 0x20) ∧ uAt b 16 4 = 4) ∧
      (bit h 2 = false ∨ (bit a 6 = false ∧ bit a 5 = false) → replies (.negotiateAlgorithms 0x13 a h) (spdmError 1))) ∧
    (ready → ∃ b, replies (.getDigests 0x13) b ∧ slice b 4 64 = sha512 spdmChain) ∧
    (∀ off len, ready → off < spdmChain.length → ∃ b, replies (.getCertificate 0x13 0 off len) b ∧
      b.drop 8 = (spdmChain.drop off).take len) ∧
    (∀ n, ready → ∃ t body, exec (.challenge 0x13 0 n) s = .next t ∧ t = { s with free := s.free + 1, out := t.out } ∧
      t.out = .spdm (body ++ fit 512 (Config.spdmSignature s.free body)) :: s.out ∧ slice body 4 64 = sha512 spdmChain ∧
      slice body 68 32 = fit 32 (Config.random s.free)) ∧
    (∀ op n signed, ready → op = 0 ∨ op = 0xFF ∨ (∃ e ∈ s.measurements, e.1 = op) →
      ∃ t body, exec (.getMeasurements 0x13 0 op signed n) s = .next t ∧ t = { s with free := s.free + 1, out := t.out } ∧
        t.out = .spdm (body ++ if signed then fit 512 (Config.spdmSignature s.free body) else []) :: s.out ∧
        uAt body 4 1 = (if op = 0 then 0 else if op = 0xFF then s.measurements.length % 256 else 1)) ∧
    (∀ slot off len op n signed, ready → slot ≠ 0 → replies (.getCertificate 0x13 slot off len) (spdmError 1) ∧
      replies (.challenge 0x13 slot n) (spdmError 1) ∧ replies (.getMeasurements 0x13 slot op signed n) (spdmError 1)) ∧
    (exec (.tapInstruction 0) s = .next s) ∧ (exec (.tapInstruction 1) s = .next (s.emit (.tap (Config.tapData 0)))) ∧
    (∀ c, 2 ≤ c → s.debugOpen = false → exec (.tapInstruction c) s = .next s) ∧
    (s.debugOpen = true → ∃ t d, exec (.tapInstruction 2) s = .next t ∧ t = { s with free := s.free + 1, out := .tap d :: s.out }) ∧
    (∀ c, 2 < c → s.debugOpen = true → s.dev ≠ .safe → s.dev ≠ .off → ∃ t, exec (.tapInstruction c) s = .next t ∧ t.dev = .safe ∧
      t.nat 0x2200 3 = 0x0201 ∧ t.power.groupsOff = true)

/-! ### Panel and console (R419, R435, R472 to R483) -/

/-- Before the end of step 3 a touch is kept and a release press held 3 s is latched; a key that KEYS disables is ignored. Held 3 s,
the release button gives BIND_REMOVE and a refusal shows; a pad held 1 s drains its port, a touch of a port that drains or is
quiesced ends that; the attention key turns the page and clears what waits for it; pages and messages time out. A console line is
answered by a line: reads and writes of the kind their entry has go the way of the dictionary. -/
def Obligations.PanelAndConsole : Prop :=
  ∀ s : State, s.fe.fe = .on →
    let keys := s.nat 0x2A00 1
    let done := s.start.step3done = true
    let open_ (idx sub : Nat) : Prop := s.answersAt .panel idx sub = true ∧ s.flash.log.buffered < 3840 ∧ s.start.recovery = false
    let kept (i : Instr) (idx sub : Nat) : Prop := s.fe.early.length < 32 → ∃ t, exec i s = .next t ∧
      t.fe.early = s.fe.early ++ [(s.sinceOn, idx, sub)] ∧ t.dev = s.dev ∧ t.obj = s.obj
    let ignored (i : Instr) (idx sub : Nat) : Prop := ∃ t, exec i s = .next t ∧ t.panel.keyMsg = 2 ∧ t.dev = s.dev ∧ t.obj = s.obj ∧
      t.panel.page = s.panel.page ∧ ∃ r : LogRec, t.flash.log = s.flash.log.push r ∧ r.origin = 4 ∧ r.result = 9 ∧ r.idx = idx ∧ r.sub = sub
    (∀ ms, ¬done → (3000 ≤ ms → ∃ t, exec (.releasePress ms) s = .next t ∧ t.fe.releaseLatched = true ∧ t.dev = s.dev) ∧
      (ms < 3000 → kept (.releasePress ms) 0x2201 1) ∧ (∀ p < s.portCount, kept (.cagePadTouch p ms) (0x2620 + p) 6)) ∧
    (¬done → kept .attentionTouch 0x2A00 4) ∧
    (∀ ms, done → bit keys 1 = false → ignored (.releasePress ms) 0x2201 1) ∧
    (∀ p ms, done → p < s.portCount → bit keys 2 = false → ignored (.cagePadTouch p ms) (0x2620 + p) 6) ∧
    (done → bit keys 0 = false → ignored .attentionTouch 0x2A00 4) ∧
    (∀ ms, done → bit keys 1 = true → open_ 0x2201 1 →
      (3000 ≤ ms → s.dev = .ready ∨ s.dev = .running ∨ s.dev = .hold → ∃ t, exec (.releasePress ms) s = .next t ∧ t.dev = .bindOff ∧
        t.nat 0x2200 2 = (if s.grouped then 3 else 2) ∧ t.panel.held = true ∧ s.sameRun t) ∧
      (3000 ≤ ms → s.commandOk 4 = false → ∃ t, exec (.releasePress ms) s = .next t ∧ t.dev = s.dev ∧ t.panel.keyMsg = 1 ∧
        t.obj = s.obj) ∧
      (ms < 3000 → ∃ t, exec (.releasePress ms) s = .next t ∧ t.dev = s.dev ∧ t.obj = s.obj ∧ t.panel.held = true)) ∧
    (∀ p ms, done → p < s.portCount → bit keys 2 = true → open_ (0x2620 + p) 6 → s.dev = .ready ∨ s.dev = .running ∨ s.dev = .hold →
      (1000 ≤ ms → s.portState p = 4 → s.groupReachable p = true →
        ∃ t, exec (.cagePadTouch p ms) s = .next t ∧ t.portState p = 5 ∧ s.sameRun t) ∧
      (1000 ≤ ms → s.portState p = 4 → s.groupReachable p = false →
        ∃ t, exec (.cagePadTouch p ms) s = .next t ∧ t.portState p = 4 ∧ t.panel.portMsg = some (1, p)) ∧
      (ms < 1000 → s.portState p = 4 → ∃ t, exec (.cagePadTouch p ms) s = .next t ∧ t.obj = s.obj ∧ t.panel = s.panel) ∧
      (s.portState p = 5 → ∃ t, exec (.cagePadTouch p ms) s = .next t ∧ t.portState p = 4 ∧ s.sameRun t)) ∧
    (done → bit keys 0 = true → ∃ t, exec .attentionTouch s = .next t ∧ t.panel.page = (s.panel.page + 1) % 6 ∧ t.obj = s.obj ∧
      (∀ m, s.panel.portMsg = some m → t.panel.portMsg = if m.1 = 3 then none else some m)) ∧
    (exec .displayPageTimeout s = .next { s with panel := { s.panel with page := 0 } }) ∧
    (∀ k p, s.panel.portMsg = some (k, p) →
      (k ≠ 3 → k = 1 ∨ k = 2 → exec .displayMessageTimeout s = .next { s with panel := { s.panel with portMsg := none, blink := none } }) ∧
      (k = 3 → exec .displayMessageTimeout s = .next { s with panel := { s.panel with keyMsg := 0 } })) ∧
    (s.answers .usb = false → ∀ idx sub off len v data, exec (.consoleRead idx sub) s = .next s ∧
      exec (.consoleReadDomain idx sub off len) s = .next s ∧ exec (.consoleWrite idx sub v) s = .next s ∧
      exec (.consoleWriteDomain idx sub off data) s = .next s ∧ exec .consoleLog s = .next s ∧ exec .consoleHelp s = .next s) ∧
    (exec .consoleRemove s = exec (.bindRemove .usb) s) ∧
    (s.answers .usb = true → s.start.recovery = false →
      (∀ idx sub e, Objects.find idx sub = some e → e.acc ≠ .wo → (idx, sub) ≠ (0x2100, 3) →
        (∀ n, e.typ.size = some n → exec (.consoleRead idx sub) s = .next (s.emit (.usb (ascii "OK " ++
          consoleValue e.typ ((s.entryBytes .usb e idx sub).take maxTransfer))))) ∧
        (e.typ = .domain → exec (.consoleRead idx sub) s = .next (s.emit (.usb (ascii "ERR 0x0607_0010")))) ∧
        (∀ off len, e.typ = .domain → (idx, sub) ≠ (0x2900, 1) → (idx, sub) ≠ (0x2404, 1) →
          let b := (s.entryBytes .usb e idx sub).drop off
          exec (.consoleReadDomain idx sub off len) s = .next (s.emit (.usb (ascii "OK " ++ hexBytes (b.take (min len 2048)) ++
            if min len 2048 < b.length then ascii " MORE" else []))))) ∧
      (∀ idx sub v e n, Objects.find idx sub = some e → e.typ.size = some n → v < 2 ^ (8 * n) →
        exec (.consoleWrite idx sub v) s = exec (.objectWrite .usb idx sub (le n v)) s) ∧
      (∀ idx sub off data, 4096 < data.length →
        exec (.consoleWriteDomain idx sub off data) s = .next (s.emit (.usb (ascii "ERR SYNTAX")))) ∧
      (∀ idx sub data e, Objects.find idx sub = some e → e.typ = .domain → data.length ≤ 4096 →
        exec (.consoleWriteDomain idx sub 0 data) s = exec (.objectWrite .usb idx sub data) s) ∧
      (∃ t, exec .consoleLog s = .next t ∧ ∃ n ≤ 32, n ≤ s.flash.log.recs.length ∧
        t.flash.log = { s.flash.log with cursorUsb := (s.flash.log.cursor .usb + n) % 2 ^ 32 } ∧ t.obj = s.obj) ∧
      (∃ t ls, exec .consoleHelp s = .next t ∧ t = { s with out := ls ++ s.out } ∧ ls.length = 8 ∧ ls.head? = some (.usb (ascii "OK"))))

/-! ### Reset and memory -/

/-- After reset the front end is off, the state is OFF, neither memory lists a byte, no pattern, session or run stands, the floor is
0, bank 0 is active, the change log is empty (R284, R335, R429), and both memories hold their canonical form. -/
def Obligations.ResetIsOff : Prop :=
  State.reset.fe.fe = .off ∧ State.reset.dev = .off ∧ State.reset.mem = [] ∧ State.reset.hostMem = [] ∧ State.reset.pats = [] ∧
    State.reset.sess = [] ∧ State.reset.run = none ∧ State.reset.flash.floor = 0 ∧ State.reset.flash.active = 0 ∧
    State.reset.flash.log.recs = [] ∧ State.reset.pending = [] ∧ State.reset.memOk ∧ State.reset.queueOk

/-- Every step keeps both memories in their canonical form: addresses strictly rising, no listed byte that reads as unlisted ones
do. -/
def Obligations.EveryStepKeepsMemoryCanonical : Prop :=
  ∀ s t : State, s.memOk → step s = .next t → t.memOk
end

