-- ==== Sys2Proof/Laws/Bytes.lean ====
section
/-!
SUPPORT. Lemmas about byte strings: little-endian words, fields of a concatenation, check codes of frames and messages.
-/
namespace Sys2Proof

@[simp] theorem length_le (n v : Nat) : (le n v).length = n := by
  induction n generalizing v with
  | zero => rfl
  | succ n ih => simp [le, ih]

/-- A little-endian word reads back as the value, modulo its width. -/
@[simp] theorem ofLe_le (n v : Nat) : ofLe (le n v) = v % 256 ^ n := by
  induction n generalizing v with
  | zero => simp [le, ofLe, Nat.mod_one]
  | succ n ih =>
    have h := ih (v / 256)
    rw [Nat.pow_succ', Nat.mod_mul, ← h]
    simp [le, ofLe]

@[simp] theorem length_zeros (n : Nat) : (zeros n).length = n := List.length_replicate

@[simp] theorem length_fit (n : Nat) (bs : Bytes) : (fit n bs).length = n := by
  simp [fit]

/-- A field that begins where the first string ends lies in the second. -/
theorem uAt_append (a b : Bytes) (o n : Nat) : uAt (a ++ b) (a.length + o) n = uAt b o n := by
  have h : (a ++ b).drop (a.length + o) = b.drop o := by rw [← List.drop_drop, List.drop_left]
  rw [uAt, slice, h]; rfl

/-- A field within the first string. -/
theorem uAt_append_left (a b : Bytes) (o n : Nat) (h : o + n ≤ a.length) : uAt (a ++ b) o n = uAt a o n := by
  unfold uAt slice
  rw [List.drop_append_of_le_length (by omega), List.take_append_of_le_length (by rw [List.length_drop]; omega)]

/-- Bytes behind the first string, within the first string, of bytes of a string. -/
theorem slice_append (a b : Bytes) (o n : Nat) : slice (a ++ b) (a.length + o) n = slice b o n := by
  rw [slice, ← List.drop_drop, List.drop_left]; rfl

theorem slice_append_left (a b : Bytes) (o n : Nat) (h : o + n ≤ a.length) : slice (a ++ b) o n = slice a o n := by
  unfold slice
  rw [List.drop_append_of_le_length (by omega), List.take_append_of_le_length (by rw [List.length_drop]; omega)]

theorem slice_slice (b : Bytes) (o n p m : Nat) (h : p + m ≤ n) : slice (slice b o n) p m = slice b (o + p) m := by
  unfold slice
  rw [List.drop_take, List.take_take, List.drop_drop, Nat.min_eq_left (by omega)]

/-- A whole word as a field. -/
theorem uAt_le (n v : Nat) (b : Bytes) : uAt (le n v ++ b) 0 n = v % 256 ^ n := by
  rw [uAt_append_left _ _ _ _ (by simp), uAt, slice, List.drop_zero, List.take_of_length_le (by simp), ofLe_le]

theorem length_bitsDown (n v : Nat) : (bitsDown n v).length = n := by
  induction n with
  | zero => rfl
  | succ n ih => simp [bitsDown, ih]

theorem reflect_lt (w c : Nat) : reflect w c < 2 ^ w := by
  unfold reflect
  have h : ∀ l : List Bool, l.foldr (fun b a => a * 2 + (if b then 1 else 0)) 0 < 2 ^ l.length := by
    intro l
    induction l with
    | nil => simp
    | cons b l ih =>
      simp only [List.foldr_cons, List.length_cons, Nat.pow_succ]
      split <;> omega
  have := h (bitsDown w c)
  rwa [length_bitsDown] at this

/-- CRC-32 has 32 bits. -/
theorem crc32_lt (bs : Bytes) : crc32 bs < 2 ^ 32 := Nat.xor_lt_two_pow (reflect_lt 32 _) (by decide)

theorem crcBit_lt (w poly c : Nat) (b : Bool) (hp : poly < 2 ^ w) : crcBit w poly c b < 2 ^ w := by
  simp only [crcBit]
  have h : (c * 2) % 2 ^ w < 2 ^ w := Nat.mod_lt _ (Nat.two_pow_pos w)
  split
  · exact Nat.xor_lt_two_pow h hp
  · exact h

theorem crcBits_lt (w poly c : Nat) (l : List Bool) (hp : poly < 2 ^ w) (hc : c < 2 ^ w) : l.foldl (crcBit w poly) c < 2 ^ w := by
  induction l generalizing c with
  | nil => exact hc
  | cons b l ih => exact ih _ (crcBit_lt w poly c b hp)

/-- CRC-64 has 64 bits. -/
theorem crc64_lt (bs : Bytes) : crc64 bs < 2 ^ 64 := by
  refine Nat.xor_lt_two_pow ?_ (by decide)
  have h : ∀ (l : Bytes) (c : Nat), c < 2 ^ 64 →
      l.foldl (fun c b => (bitsDown 8 b.toNat).foldl (crcBit 64 0x42F0E1EBA9EA3693) c) c < 2 ^ 64 := by
    intro l
    induction l with
    | nil => exact fun c hc => hc
    | cons b l ih => exact fun c hc => ih _ (crcBits_lt 64 _ c _ (by decide) hc)
  exact h bs _ (by decide)

namespace Machine

/-- A frame that the module forms is intact (R393). -/
theorem frameOk_frameBytes (ftype vc fseq ack credit creditVc : Nat) (payload : Bytes) (ht : ftype ≤ 2) (hv : vc ≤ 3) :
    frameOk (frameBytes ftype vc fseq ack credit creditVc payload) = true := by
  unfold frameBytes
  generalize hb : le 1 ftype ++ le 1 vc ++ le 2 (min payload.length 480) ++ le 4 fseq ++ le 4 ack ++ le 2 credit ++ le 1 creditVc
    ++ le 1 0 ++ fit 480 payload ++ zeros 12 = b
  have hl : b.length = 508 := by rw [← hb]; simp
  have h0 : uAt b 0 1 = ftype := by
    rw [← hb]; simp only [List.append_assoc]; rw [uAt_le]; omega
  have h1 : uAt b 1 1 = vc := by
    rw [← hb]; simp only [List.append_assoc]
    have := uAt_append (le 1 ftype) (le 1 vc ++ (le 2 (min payload.length 480) ++ (le 4 fseq ++ (le 4 ack ++ (le 2 credit ++ (le 1 creditVc
      ++ (le 1 0 ++ (fit 480 payload ++ zeros 12)))))))) 0 1
    rw [length_le] at this
    rw [this, uAt_le]; omega
  have hc : uAt (b ++ le 4 (crc32 b)) 508 4 = crc32 b := by
    have := uAt_append b (le 4 (crc32 b)) 0 4
    rw [hl] at this
    rw [this, ← List.append_nil (le 4 (crc32 b)), uAt_le]
    exact Nat.mod_eq_of_lt (crc32_lt b)
  simp only [frameOk, List.length_append, hl, length_le, hc, List.take_append_of_le_length (Nat.le_of_eq hl.symm),
    uAt_append_left b (le 4 (crc32 b)) 0 1 (by omega), uAt_append_left b (le 4 (crc32 b)) 1 1 (by omega), h0, h1]
  rw [List.take_of_length_le (Nat.le_of_eq hl)]
  simp [ht, hv]

/-- The CRC-64 of a message that the module forms agrees (R396). -/
theorem msgCrcOk_messageBytes (mtype attempt src dst row msgId window addr : Nat) (body : Bytes) (hb : body.length < 2 ^ 32) :
    msgCrcOk (messageBytes mtype attempt src dst row msgId window addr body) = true := by
  unfold messageBytes
  generalize hh : le 1 mtype ++ le 1 attempt ++ le 2 src ++ le 2 dst ++ le 6 row ++ le 4 msgId ++ le 4 body.length ++ le 2 window
    ++ le 2 0 ++ le 8 addr = h
  have hl : h.length = 32 := by rw [← hh]; simp
  have hn : uAt h 16 4 = body.length := by
    rw [← hh]
    have := uAt_append (le 1 mtype ++ le 1 attempt ++ le 2 src ++ le 2 dst ++ le 6 row ++ le 4 msgId)
      (le 4 body.length ++ (le 2 window ++ (le 2 0 ++ le 8 addr))) 0 4
    simp only [List.length_append, length_le] at this
    simp only [List.append_assoc] at this ⊢
    rw [this, uAt_le]
    exact Nat.mod_eq_of_lt hb
  have hm : ∀ t, msgLen (h ++ body ++ t) = body.length := by
    intro t
    rw [msgLen, List.append_assoc, uAt_append_left h _ 16 4 (by omega), hn]
  have hc : uAt (h ++ body ++ le 8 (crc64 (h ++ body))) (32 + body.length) 8 = crc64 (h ++ body) := by
    have := uAt_append (h ++ body) (le 8 (crc64 (h ++ body))) 0 8
    rw [List.length_append, hl] at this
    rw [← Nat.add_zero (32 + body.length), this, ← List.append_nil (le 8 (crc64 (h ++ body))), uAt_le]
    exact Nat.mod_eq_of_lt (crc64_lt _)
  have ht : (h ++ body ++ le 8 (crc64 (h ++ body))).take (32 + body.length) = h ++ body := by
    rw [List.take_append_of_le_length (by simp [hl]), List.take_of_length_le (by simp [hl])]
  simp only [msgCrcOk, hm, hc, ht, List.length_append, hl, length_le]
  simp; omega

end Machine

end Sys2Proof
end

