-- ==== Sys2Proof/Laws/Tables.lean ====
section
/-!
SUPPORT. Laws of the sparse tables and byte memories: read after write, what a write leaves alone, and that every memory
operation keeps the canonical form.
-/
namespace Sys2Proof

/-! ### Tables -/

@[simp] theorem Tab.get?_nil {α : Type} (k : Nat) : Tab.get? ([] : Tab α) k = none := rfl

theorem Tab.get?_cons {α : Type} (e : Nat × α) (t : Tab α) (k : Nat) :
    Tab.get? (e :: t) k = if e.1 = k then some e.2 else Tab.get? t k := by
  cases e; rfl

@[simp] theorem Tab.get?_set_same {α : Type} (t : Tab α) (k : Nat) (v : α) : Tab.get? (Tab.set t k v) k = some v := by
  induction t with
  | nil => simp [Tab.set, Tab.get?]
  | cons e t ih =>
    obtain ⟨k', v'⟩ := e
    simp only [Tab.set]
    split
    · simp [Tab.get?]
    · split
      · simp [Tab.get?]
      · rename_i h; simp [Tab.get?, h, ih]

theorem Tab.get?_set_ne {α : Type} (t : Tab α) {k j : Nat} (v : α) (h : j ≠ k) :
    Tab.get? (Tab.set t k v) j = Tab.get? t j := by
  induction t with
  | nil => simp [Tab.set, Tab.get?, Ne.symm h]
  | cons e t ih =>
    obtain ⟨k', v'⟩ := e
    simp only [Tab.set]
    split
    · simp [Tab.get?, Ne.symm h]
    · split
      · rename_i _ e; subst e; simp [Tab.get?, Ne.symm h]
      · simp [Tab.get?, ih]

@[simp] theorem Tab.getD_set_same {α : Type} (t : Tab α) (k : Nat) (v d : α) : Tab.getD (Tab.set t k v) k d = v := by
  simp [Tab.getD]

theorem Tab.getD_set_ne {α : Type} (t : Tab α) {k j : Nat} (v d : α) (h : j ≠ k) :
    Tab.getD (Tab.set t k v) j d = Tab.getD t j d := by
  simp [Tab.getD, Tab.get?_set_ne t v h]

/-- A table listing that keeps or drops entries by their key finds a kept key as before. -/
theorem Tab.get?_filter {α : Type} (t : Tab α) (p : Nat → Bool) (k : Nat) :
    Tab.get? (t.filter (fun e => p e.1)) k = if p k then Tab.get? t k else none := by
  induction t with
  | nil => simp
  | cons e t ih =>
    obtain ⟨k', v'⟩ := e
    by_cases hk : k' = k
    · subst hk
      by_cases hp : p k' = true
      · simp [hp, Tab.get?]
      · simp [hp, ih]
    · by_cases hp : p k' = true
      · simp [hp, Tab.get?, hk, ih]
      · simp [hp, Tab.get?, hk, ih]

@[simp] theorem Tab.get?_erase_same {α : Type} (t : Tab α) (k : Nat) : Tab.get? (Tab.erase t k) k = none := by
  have := Tab.get?_filter t (fun j => j != k) k
  simpa [Tab.erase] using this

theorem Tab.get?_erase_ne {α : Type} (t : Tab α) {k j : Nat} (h : j ≠ k) :
    Tab.get? (Tab.erase t k) j = Tab.get? t j := by
  have := Tab.get?_filter t (fun i => i != k) j
  simpa [Tab.erase, h] using this

theorem Tab.get?_append {α : Type} (t u : Tab α) (k : Nat) :
    Tab.get? (t ++ u) k = (Tab.get? t k).or (Tab.get? u k) := by
  induction t with
  | nil => simp
  | cons e t ih =>
    obtain ⟨k', v'⟩ := e
    by_cases hk : k' = k <;> simp [Tab.get?, hk, ih]

/-! ### Byte memories: read after write -/

theorem cellsAt_get? (bs : Bytes) (a k : Nat) :
    Tab.get? ((cellsAt a bs).filter (fun e => e.2 != 0)) k =
      if a ≤ k ∧ bs.getD (k - a) 0 ≠ 0 then some (bs.getD (k - a) 0) else none := by
  induction bs generalizing a with
  | nil => simp [cellsAt]
  | cons b bs ih =>
    have ih := ih (a + 1)
    rw [cellsAt, List.filter_cons]
    by_cases hk : a = k
    · subst hk
      have h1 : ¬ (a + 1 ≤ a) := by omega
      simp only [h1, false_and, if_false] at ih
      by_cases hb : b = 0
      · simp only [hb, bne_self_eq_false, Bool.false_eq_true, if_false, ih]; simp
      · simp only [bne_iff_ne, ne_eq, hb, not_false_eq_true, if_true, Tab.get?]; simp; exact hb
    · have hg : Tab.get? (if ((a, b) : Nat × Byte).2 != 0 then (a, b) :: (cellsAt (a + 1) bs).filter (fun e => e.2 != 0)
          else (cellsAt (a + 1) bs).filter (fun e => e.2 != 0)) k =
          Tab.get? ((cellsAt (a + 1) bs).filter (fun e => e.2 != 0)) k := by
        split
        · simp only [Tab.get?, hk, if_false]
        · rfl
      rw [hg, ih]
      by_cases hlt : a < k
      · have e : k - a = (k - (a + 1)) + 1 := by omega
        have h1 : a + 1 ≤ k := hlt
        have h2 : a ≤ k := by omega
        rw [e]; simp only [h1, h2, List.getD_cons_succ]
      · have h1 : ¬ (a + 1 ≤ k) := by omega
        have h2 : ¬ (a ≤ k) := by omega
        simp [h1, h2]

theorem Mem.get?_writeBytes (m : Mem) (a k : Nat) (bs : Bytes) :
    Tab.get? (m.writeBytes a bs) k =
      if a ≤ k ∧ k < a + bs.length then (if bs.getD (k - a) 0 ≠ 0 then some (bs.getD (k - a) 0) else none)
      else Tab.get? m k := by
  unfold Mem.writeBytes
  rw [Tab.get?_append, Tab.get?_append, cellsAt_get?]
  have h1 := Tab.get?_filter m (fun i => decide (i < a)) k
  have h2 := Tab.get?_filter m (fun i => decide (a + bs.length ≤ i)) k
  rw [h1, h2]
  by_cases hlt : k < a
  · have e1 : ¬ a ≤ k := by omega
    have e2 : ¬ a + bs.length ≤ k := by omega
    simp [hlt, e1, e2]
  · have e1 : a ≤ k := by omega
    by_cases hin : k < a + bs.length
    · have e2 : ¬ a + bs.length ≤ k := by omega
      simp [hlt, e1, e2, hin]
    · have e2 : a + bs.length ≤ k := by omega
      have e3 : bs.getD (k - a) 0 = 0 := by
        rw [List.getD_eq_default]; omega
      rw [e3]
      simp [hlt, e2, hin]

/-- A byte outside the written range reads as before. -/
theorem Mem.read_writeBytes_outside (m : Mem) (a k : Nat) (bs : Bytes) (h : k < a ∨ a + bs.length ≤ k) :
    (m.writeBytes a bs).read k = m.read k := by
  have : ¬ (a ≤ k ∧ k < a + bs.length) := by omega
  simp only [Mem.read, Tab.getD, Mem.get?_writeBytes, if_neg this]

/-- A byte of the written range reads as written. -/
theorem Mem.read_writeBytes_inside (m : Mem) (a i : Nat) (bs : Bytes) (h : i < bs.length) :
    (m.writeBytes a bs).read (a + i) = bs.getD i 0 := by
  have h1 : a ≤ a + i ∧ a + i < a + bs.length := by omega
  simp only [Mem.read, Tab.getD, Mem.get?_writeBytes, if_pos h1, Nat.add_sub_cancel_left]
  split
  · simp
  · rename_i h0; simp only [ne_eq, not_not] at h0; rw [h0]; rfl

/-- Reading back the whole written range gives what was written. -/
theorem Mem.readBytes_writeBytes_same (m : Mem) (a : Nat) (bs : Bytes) :
    (m.writeBytes a bs).readBytes a bs.length = bs := by
  apply List.ext_getElem
  · simp [Mem.readBytes]
  · intro i h1 h2
    simp only [Mem.readBytes, List.getElem_map, List.getElem_range]
    rw [Mem.read_writeBytes_inside m a i bs h2, List.getD_eq_getElem _ _ h2]

/-- Reading a range that the write does not meet gives what it gave. -/
theorem Mem.readBytes_writeBytes_disjoint (m : Mem) (a b n : Nat) (bs : Bytes) (h : b + n ≤ a ∨ a + bs.length ≤ b) :
    (m.writeBytes a bs).readBytes b n = m.readBytes b n := by
  apply List.map_congr_left
  intro i hi
  have hi := List.mem_range.mp hi
  exact Mem.read_writeBytes_outside m a (b + i) bs (by omega)

@[simp] theorem Mem.length_readBytes (m : Mem) (a n : Nat) : (m.readBytes a n).length = n := by
  simp [Mem.readBytes]

/-- A range inside a written range reads as the part of the data at its place. -/
theorem Mem.readBytes_writeBytes_part (m : Mem) (a o n : Nat) (bs : Bytes) (h : o + n ≤ bs.length) :
    (m.writeBytes a bs).readBytes (a + o) n = slice bs o n := by
  apply List.ext_getElem
  · simp [Mem.readBytes, slice]; omega
  · intro i h1 h2
    have hi : i < n := by simpa [Mem.readBytes] using h1
    simp only [Mem.readBytes, List.getElem_map, List.getElem_range, slice, List.getElem_take, List.getElem_drop]
    rw [Nat.add_assoc, Mem.read_writeBytes_inside m a (o + i) bs (by omega), List.getD_eq_getElem _ _ (by omega)]

/-! ### The canonical form -/

/-- Addresses strictly rising, and no entry 0. -/
theorem Mem.wf_iff (m : Mem) : Mem.wf m = true ↔ m.Pairwise (fun e f => e.1 < f.1) ∧ ∀ e ∈ m, e.2 ≠ 0 := by
  induction m with
  | nil => simp [Mem.wf]
  | cons e m ih =>
    obtain ⟨a, b⟩ := e
    cases m with
    | nil => simp [Mem.wf]
    | cons f r =>
      obtain ⟨a', b'⟩ := f
      simp only [Mem.wf, Bool.and_eq_true, bne_iff_ne, decide_eq_true_eq]
      rw [ih]
      constructor
      · rintro ⟨⟨hb, hlt⟩, hp, hn⟩
        refine ⟨List.pairwise_cons.mpr ⟨?_, hp⟩, ?_⟩
        · intro g hg
          rcases List.mem_cons.mp hg with rfl | hg
          · exact hlt
          · exact lt_trans hlt ((List.pairwise_cons.mp hp).1 g hg)
        · intro g hg
          rcases List.mem_cons.mp hg with rfl | hg
          · exact hb
          · exact hn g hg
      · rintro ⟨hp, hn⟩
        have hp' := List.pairwise_cons.mp hp
        refine ⟨⟨hn _ (List.mem_cons_self ..), hp'.1 _ (List.mem_cons_self ..)⟩, hp'.2, ?_⟩
        exact fun g hg => hn g (List.mem_cons_of_mem _ hg)

theorem cellsAt_pairwise (a : Nat) (bs : Bytes) :
    (cellsAt a bs).Pairwise (fun e f => e.1 < f.1) ∧ ∀ e ∈ cellsAt a bs, a ≤ e.1 ∧ e.1 < a + bs.length := by
  induction bs generalizing a with
  | nil => simp [cellsAt]
  | cons b bs ih =>
    obtain ⟨hp, hr⟩ := ih (a + 1)
    refine ⟨List.pairwise_cons.mpr ⟨fun g hg => ?_, hp⟩, fun g hg => ?_⟩
    · have := hr g hg; simp only; omega
    · rcases List.mem_cons.mp hg with rfl | hg
      · simp
      · have := hr g hg; simp only [List.length_cons]; omega

/-- A write of bytes keeps the canonical form. -/
theorem Mem.wf_writeBytes (m : Mem) (a : Nat) (bs : Bytes) (h : Mem.wf m = true) : Mem.wf (m.writeBytes a bs) = true := by
  rw [Mem.wf_iff] at h ⊢
  obtain ⟨hp, hn⟩ := h
  obtain ⟨cp, cr⟩ := cellsAt_pairwise a bs
  unfold Mem.writeBytes
  refine ⟨?_, ?_⟩
  · rw [List.pairwise_append, List.pairwise_append]
    refine ⟨⟨hp.filter _, cp.filter _, ?_⟩, hp.filter _, ?_⟩
    · intro e he f hf
      have h1 : e.1 < a := by simpa using (List.mem_filter.mp he).2
      have h2 := cr f (List.mem_filter.mp hf).1
      omega
    · intro e he f hf
      have h3 : a + bs.length ≤ f.1 := by simpa using (List.mem_filter.mp hf).2
      rcases List.mem_append.mp he with he | he
      · have h1 : e.1 < a := by simpa using (List.mem_filter.mp he).2
        omega
      · have h2 := cr e (List.mem_filter.mp he).1
        omega
  · intro e he
    rcases List.mem_append.mp he with he | he
    · rcases List.mem_append.mp he with he | he
      · exact hn e (List.mem_filter.mp he).1
      · simpa using (List.mem_filter.mp he).2
    · exact hn e (List.mem_filter.mp he).1

/-- Dropping entries keeps the canonical form. -/
theorem Mem.wf_filter (m : Mem) (p : Nat × Byte → Bool) (h : Mem.wf m = true) : Mem.wf (m.filter p) = true := by
  rw [Mem.wf_iff] at h ⊢
  exact ⟨h.1.filter _, fun e he => h.2 e (List.mem_filter.mp he).1⟩

@[simp] theorem Mem.wf_nil : Mem.wf [] = true := rfl

end Sys2Proof
end

