-- ==== Sys2Proof/Laws/State.lean ====
section
/-!
SUPPORT. What each update of the state leaves alone, field by field, and what it makes of the field it writes.
-/
namespace Sys2Proof.Machine

/-! ### setOb -/

@[simp] theorem State.setOb_fe (s : State) (i j : Nat) (v : Int) : (s.setOb i j v).fe = s.fe := rfl
@[simp] theorem State.setOb_flash (s : State) (i j : Nat) (v : Int) : (s.setOb i j v).flash = s.flash := rfl
@[simp] theorem State.setOb_dev (s : State) (i j : Nat) (v : Int) : (s.setOb i j v).dev = s.dev := rfl
@[simp] theorem State.setOb_latched (s : State) (i j : Nat) (v : Int) : (s.setOb i j v).latched = s.latched := rfl
@[simp] theorem State.setOb_start (s : State) (i j : Nat) (v : Int) : (s.setOb i j v).start = s.start := rfl
@[simp] theorem State.setOb_sec (s : State) (i j : Nat) (v : Int) : (s.setOb i j v).sec = s.sec := rfl
@[simp] theorem State.setOb_bar2 (s : State) (i j : Nat) (v : Int) : (s.setOb i j v).bar2 = s.bar2 := rfl
@[simp] theorem State.setOb_time (s : State) (i j : Nat) (v : Int) : (s.setOb i j v).time = s.time := rfl
@[simp] theorem State.setOb_regs (s : State) (i j : Nat) (v : Int) : (s.setOb i j v).regs = s.regs := rfl
@[simp] theorem State.setOb_blks (s : State) (i j : Nat) (v : Int) : (s.setOb i j v).blks = s.blks := rfl
@[simp] theorem State.setOb_power (s : State) (i j : Nat) (v : Int) : (s.setOb i j v).power = s.power := rfl
@[simp] theorem State.setOb_panel (s : State) (i j : Nat) (v : Int) : (s.setOb i j v).panel = s.panel := rfl
@[simp] theorem State.setOb_map (s : State) (i j : Nat) (v : Int) : (s.setOb i j v).map = s.map := rfl
@[simp] theorem State.setOb_cells (s : State) (i j : Nat) (v : Int) : (s.setOb i j v).cells = s.cells := rfl
@[simp] theorem State.setOb_phys (s : State) (i j : Nat) (v : Int) : (s.setOb i j v).phys = s.phys := rfl
@[simp] theorem State.setOb_mem (s : State) (i j : Nat) (v : Int) : (s.setOb i j v).mem = s.mem := rfl
@[simp] theorem State.setOb_hostMem (s : State) (i j : Nat) (v : Int) : (s.setOb i j v).hostMem = s.hostMem := rfl
@[simp] theorem State.setOb_pats (s : State) (i j : Nat) (v : Int) : (s.setOb i j v).pats = s.pats := rfl
@[simp] theorem State.setOb_run (s : State) (i j : Nat) (v : Int) : (s.setOb i j v).run = s.run := rfl
@[simp] theorem State.setOb_row (s : State) (i j : Nat) (v : Int) : (s.setOb i j v).row = s.row := rfl
@[simp] theorem State.setOb_hbm (s : State) (i j : Nat) (v : Int) : (s.setOb i j v).hbm = s.hbm := rfl
@[simp] theorem State.setOb_links (s : State) (i j : Nat) (v : Int) : (s.setOb i j v).links = s.links := rfl
@[simp] theorem State.setOb_engines (s : State) (i j : Nat) (v : Int) : (s.setOb i j v).engines = s.engines := rfl
@[simp] theorem State.setOb_sess (s : State) (i j : Nat) (v : Int) : (s.setOb i j v).sess = s.sess := rfl
@[simp] theorem State.setOb_pool (s : State) (i j : Nat) (v : Int) : (s.setOb i j v).pool = s.pool := rfl
@[simp] theorem State.setOb_queues (s : State) (i j : Nat) (v : Int) : (s.setOb i j v).queues = s.queues := rfl
@[simp] theorem State.setOb_host (s : State) (i j : Nat) (v : Int) : (s.setOb i j v).host = s.host := rfl
@[simp] theorem State.setOb_naela (s : State) (i j : Nat) (v : Int) : (s.setOb i j v).naela = s.naela := rfl
@[simp] theorem State.setOb_out (s : State) (i j : Nat) (v : Int) : (s.setOb i j v).out = s.out := rfl
@[simp] theorem State.setOb_free (s : State) (i j : Nat) (v : Int) : (s.setOb i j v).free = s.free := rfl
@[simp] theorem State.setOb_clock (s : State) (i j : Nat) (v : Int) : (s.setOb i j v).clock = s.clock := rfl
@[simp] theorem State.setOb_pending (s : State) (i j : Nat) (v : Int) : (s.setOb i j v).pending = s.pending := rfl

/-! ### addOb -/

@[simp] theorem State.addOb_fe (s : State) (i j n : Nat) : (s.addOb i j n).fe = s.fe := rfl
@[simp] theorem State.addOb_flash (s : State) (i j n : Nat) : (s.addOb i j n).flash = s.flash := rfl
@[simp] theorem State.addOb_dev (s : State) (i j n : Nat) : (s.addOb i j n).dev = s.dev := rfl
@[simp] theorem State.addOb_latched (s : State) (i j n : Nat) : (s.addOb i j n).latched = s.latched := rfl
@[simp] theorem State.addOb_start (s : State) (i j n : Nat) : (s.addOb i j n).start = s.start := rfl
@[simp] theorem State.addOb_sec (s : State) (i j n : Nat) : (s.addOb i j n).sec = s.sec := rfl
@[simp] theorem State.addOb_bar2 (s : State) (i j n : Nat) : (s.addOb i j n).bar2 = s.bar2 := rfl
@[simp] theorem State.addOb_time (s : State) (i j n : Nat) : (s.addOb i j n).time = s.time := rfl
@[simp] theorem State.addOb_regs (s : State) (i j n : Nat) : (s.addOb i j n).regs = s.regs := rfl
@[simp] theorem State.addOb_blks (s : State) (i j n : Nat) : (s.addOb i j n).blks = s.blks := rfl
@[simp] theorem State.addOb_power (s : State) (i j n : Nat) : (s.addOb i j n).power = s.power := rfl
@[simp] theorem State.addOb_panel (s : State) (i j n : Nat) : (s.addOb i j n).panel = s.panel := rfl
@[simp] theorem State.addOb_map (s : State) (i j n : Nat) : (s.addOb i j n).map = s.map := rfl
@[simp] theorem State.addOb_cells (s : State) (i j n : Nat) : (s.addOb i j n).cells = s.cells := rfl
@[simp] theorem State.addOb_phys (s : State) (i j n : Nat) : (s.addOb i j n).phys = s.phys := rfl
@[simp] theorem State.addOb_mem (s : State) (i j n : Nat) : (s.addOb i j n).mem = s.mem := rfl
@[simp] theorem State.addOb_hostMem (s : State) (i j n : Nat) : (s.addOb i j n).hostMem = s.hostMem := rfl
@[simp] theorem State.addOb_pats (s : State) (i j n : Nat) : (s.addOb i j n).pats = s.pats := rfl
@[simp] theorem State.addOb_run (s : State) (i j n : Nat) : (s.addOb i j n).run = s.run := rfl
@[simp] theorem State.addOb_row (s : State) (i j n : Nat) : (s.addOb i j n).row = s.row := rfl
@[simp] theorem State.addOb_hbm (s : State) (i j n : Nat) : (s.addOb i j n).hbm = s.hbm := rfl
@[simp] theorem State.addOb_links (s : State) (i j n : Nat) : (s.addOb i j n).links = s.links := rfl
@[simp] theorem State.addOb_engines (s : State) (i j n : Nat) : (s.addOb i j n).engines = s.engines := rfl
@[simp] theorem State.addOb_sess (s : State) (i j n : Nat) : (s.addOb i j n).sess = s.sess := rfl
@[simp] theorem State.addOb_pool (s : State) (i j n : Nat) : (s.addOb i j n).pool = s.pool := rfl
@[simp] theorem State.addOb_queues (s : State) (i j n : Nat) : (s.addOb i j n).queues = s.queues := rfl
@[simp] theorem State.addOb_host (s : State) (i j n : Nat) : (s.addOb i j n).host = s.host := rfl
@[simp] theorem State.addOb_naela (s : State) (i j n : Nat) : (s.addOb i j n).naela = s.naela := rfl
@[simp] theorem State.addOb_out (s : State) (i j n : Nat) : (s.addOb i j n).out = s.out := rfl
@[simp] theorem State.addOb_free (s : State) (i j n : Nat) : (s.addOb i j n).free = s.free := rfl
@[simp] theorem State.addOb_clock (s : State) (i j n : Nat) : (s.addOb i j n).clock = s.clock := rfl
@[simp] theorem State.addOb_pending (s : State) (i j n : Nat) : (s.addOb i j n).pending = s.pending := rfl

/-! ### setReg -/

@[simp] theorem State.setReg_fe (s : State) (r : Nat) (v : Reg) : (s.setReg r v).fe = s.fe := rfl
@[simp] theorem State.setReg_flash (s : State) (r : Nat) (v : Reg) : (s.setReg r v).flash = s.flash := rfl
@[simp] theorem State.setReg_dev (s : State) (r : Nat) (v : Reg) : (s.setReg r v).dev = s.dev := rfl
@[simp] theorem State.setReg_obj (s : State) (r : Nat) (v : Reg) : (s.setReg r v).obj = s.obj := rfl
@[simp] theorem State.setReg_latched (s : State) (r : Nat) (v : Reg) : (s.setReg r v).latched = s.latched := rfl
@[simp] theorem State.setReg_start (s : State) (r : Nat) (v : Reg) : (s.setReg r v).start = s.start := rfl
@[simp] theorem State.setReg_sec (s : State) (r : Nat) (v : Reg) : (s.setReg r v).sec = s.sec := rfl
@[simp] theorem State.setReg_bar2 (s : State) (r : Nat) (v : Reg) : (s.setReg r v).bar2 = s.bar2 := rfl
@[simp] theorem State.setReg_time (s : State) (r : Nat) (v : Reg) : (s.setReg r v).time = s.time := rfl
@[simp] theorem State.setReg_blks (s : State) (r : Nat) (v : Reg) : (s.setReg r v).blks = s.blks := rfl
@[simp] theorem State.setReg_power (s : State) (r : Nat) (v : Reg) : (s.setReg r v).power = s.power := rfl
@[simp] theorem State.setReg_panel (s : State) (r : Nat) (v : Reg) : (s.setReg r v).panel = s.panel := rfl
@[simp] theorem State.setReg_map (s : State) (r : Nat) (v : Reg) : (s.setReg r v).map = s.map := rfl
@[simp] theorem State.setReg_cells (s : State) (r : Nat) (v : Reg) : (s.setReg r v).cells = s.cells := rfl
@[simp] theorem State.setReg_phys (s : State) (r : Nat) (v : Reg) : (s.setReg r v).phys = s.phys := rfl
@[simp] theorem State.setReg_mem (s : State) (r : Nat) (v : Reg) : (s.setReg r v).mem = s.mem := rfl
@[simp] theorem State.setReg_hostMem (s : State) (r : Nat) (v : Reg) : (s.setReg r v).hostMem = s.hostMem := rfl
@[simp] theorem State.setReg_pats (s : State) (r : Nat) (v : Reg) : (s.setReg r v).pats = s.pats := rfl
@[simp] theorem State.setReg_run (s : State) (r : Nat) (v : Reg) : (s.setReg r v).run = s.run := rfl
@[simp] theorem State.setReg_row (s : State) (r : Nat) (v : Reg) : (s.setReg r v).row = s.row := rfl
@[simp] theorem State.setReg_hbm (s : State) (r : Nat) (v : Reg) : (s.setReg r v).hbm = s.hbm := rfl
@[simp] theorem State.setReg_links (s : State) (r : Nat) (v : Reg) : (s.setReg r v).links = s.links := rfl
@[simp] theorem State.setReg_engines (s : State) (r : Nat) (v : Reg) : (s.setReg r v).engines = s.engines := rfl
@[simp] theorem State.setReg_sess (s : State) (r : Nat) (v : Reg) : (s.setReg r v).sess = s.sess := rfl
@[simp] theorem State.setReg_pool (s : State) (r : Nat) (v : Reg) : (s.setReg r v).pool = s.pool := rfl
@[simp] theorem State.setReg_queues (s : State) (r : Nat) (v : Reg) : (s.setReg r v).queues = s.queues := rfl
@[simp] theorem State.setReg_host (s : State) (r : Nat) (v : Reg) : (s.setReg r v).host = s.host := rfl
@[simp] theorem State.setReg_naela (s : State) (r : Nat) (v : Reg) : (s.setReg r v).naela = s.naela := rfl
@[simp] theorem State.setReg_out (s : State) (r : Nat) (v : Reg) : (s.setReg r v).out = s.out := rfl
@[simp] theorem State.setReg_free (s : State) (r : Nat) (v : Reg) : (s.setReg r v).free = s.free := rfl
@[simp] theorem State.setReg_clock (s : State) (r : Nat) (v : Reg) : (s.setReg r v).clock = s.clock := rfl
@[simp] theorem State.setReg_pending (s : State) (r : Nat) (v : Reg) : (s.setReg r v).pending = s.pending := rfl

/-! ### setBlk -/

@[simp] theorem State.setBlk_fe (s : State) (b : Nat) (v : Blk) : (s.setBlk b v).fe = s.fe := rfl
@[simp] theorem State.setBlk_flash (s : State) (b : Nat) (v : Blk) : (s.setBlk b v).flash = s.flash := rfl
@[simp] theorem State.setBlk_dev (s : State) (b : Nat) (v : Blk) : (s.setBlk b v).dev = s.dev := rfl
@[simp] theorem State.setBlk_obj (s : State) (b : Nat) (v : Blk) : (s.setBlk b v).obj = s.obj := rfl
@[simp] theorem State.setBlk_latched (s : State) (b : Nat) (v : Blk) : (s.setBlk b v).latched = s.latched := rfl
@[simp] theorem State.setBlk_start (s : State) (b : Nat) (v : Blk) : (s.setBlk b v).start = s.start := rfl
@[simp] theorem State.setBlk_sec (s : State) (b : Nat) (v : Blk) : (s.setBlk b v).sec = s.sec := rfl
@[simp] theorem State.setBlk_bar2 (s : State) (b : Nat) (v : Blk) : (s.setBlk b v).bar2 = s.bar2 := rfl
@[simp] theorem State.setBlk_time (s : State) (b : Nat) (v : Blk) : (s.setBlk b v).time = s.time := rfl
@[simp] theorem State.setBlk_regs (s : State) (b : Nat) (v : Blk) : (s.setBlk b v).regs = s.regs := rfl
@[simp] theorem State.setBlk_power (s : State) (b : Nat) (v : Blk) : (s.setBlk b v).power = s.power := rfl
@[simp] theorem State.setBlk_panel (s : State) (b : Nat) (v : Blk) : (s.setBlk b v).panel = s.panel := rfl
@[simp] theorem State.setBlk_map (s : State) (b : Nat) (v : Blk) : (s.setBlk b v).map = s.map := rfl
@[simp] theorem State.setBlk_cells (s : State) (b : Nat) (v : Blk) : (s.setBlk b v).cells = s.cells := rfl
@[simp] theorem State.setBlk_phys (s : State) (b : Nat) (v : Blk) : (s.setBlk b v).phys = s.phys := rfl
@[simp] theorem State.setBlk_mem (s : State) (b : Nat) (v : Blk) : (s.setBlk b v).mem = s.mem := rfl
@[simp] theorem State.setBlk_hostMem (s : State) (b : Nat) (v : Blk) : (s.setBlk b v).hostMem = s.hostMem := rfl
@[simp] theorem State.setBlk_pats (s : State) (b : Nat) (v : Blk) : (s.setBlk b v).pats = s.pats := rfl
@[simp] theorem State.setBlk_run (s : State) (b : Nat) (v : Blk) : (s.setBlk b v).run = s.run := rfl
@[simp] theorem State.setBlk_row (s : State) (b : Nat) (v : Blk) : (s.setBlk b v).row = s.row := rfl
@[simp] theorem State.setBlk_hbm (s : State) (b : Nat) (v : Blk) : (s.setBlk b v).hbm = s.hbm := rfl
@[simp] theorem State.setBlk_links (s : State) (b : Nat) (v : Blk) : (s.setBlk b v).links = s.links := rfl
@[simp] theorem State.setBlk_engines (s : State) (b : Nat) (v : Blk) : (s.setBlk b v).engines = s.engines := rfl
@[simp] theorem State.setBlk_sess (s : State) (b : Nat) (v : Blk) : (s.setBlk b v).sess = s.sess := rfl
@[simp] theorem State.setBlk_pool (s : State) (b : Nat) (v : Blk) : (s.setBlk b v).pool = s.pool := rfl
@[simp] theorem State.setBlk_queues (s : State) (b : Nat) (v : Blk) : (s.setBlk b v).queues = s.queues := rfl
@[simp] theorem State.setBlk_host (s : State) (b : Nat) (v : Blk) : (s.setBlk b v).host = s.host := rfl
@[simp] theorem State.setBlk_naela (s : State) (b : Nat) (v : Blk) : (s.setBlk b v).naela = s.naela := rfl
@[simp] theorem State.setBlk_out (s : State) (b : Nat) (v : Blk) : (s.setBlk b v).out = s.out := rfl
@[simp] theorem State.setBlk_free (s : State) (b : Nat) (v : Blk) : (s.setBlk b v).free = s.free := rfl
@[simp] theorem State.setBlk_clock (s : State) (b : Nat) (v : Blk) : (s.setBlk b v).clock = s.clock := rfl
@[simp] theorem State.setBlk_pending (s : State) (b : Nat) (v : Blk) : (s.setBlk b v).pending = s.pending := rfl

/-! ### setCell -/

@[simp] theorem State.setCell_fe (s : State) (x y : Nat) (c : CellSt) : (s.setCell x y c).fe = s.fe := rfl
@[simp] theorem State.setCell_flash (s : State) (x y : Nat) (c : CellSt) : (s.setCell x y c).flash = s.flash := rfl
@[simp] theorem State.setCell_dev (s : State) (x y : Nat) (c : CellSt) : (s.setCell x y c).dev = s.dev := rfl
@[simp] theorem State.setCell_obj (s : State) (x y : Nat) (c : CellSt) : (s.setCell x y c).obj = s.obj := rfl
@[simp] theorem State.setCell_latched (s : State) (x y : Nat) (c : CellSt) : (s.setCell x y c).latched = s.latched := rfl
@[simp] theorem State.setCell_start (s : State) (x y : Nat) (c : CellSt) : (s.setCell x y c).start = s.start := rfl
@[simp] theorem State.setCell_sec (s : State) (x y : Nat) (c : CellSt) : (s.setCell x y c).sec = s.sec := rfl
@[simp] theorem State.setCell_bar2 (s : State) (x y : Nat) (c : CellSt) : (s.setCell x y c).bar2 = s.bar2 := rfl
@[simp] theorem State.setCell_time (s : State) (x y : Nat) (c : CellSt) : (s.setCell x y c).time = s.time := rfl
@[simp] theorem State.setCell_regs (s : State) (x y : Nat) (c : CellSt) : (s.setCell x y c).regs = s.regs := rfl
@[simp] theorem State.setCell_blks (s : State) (x y : Nat) (c : CellSt) : (s.setCell x y c).blks = s.blks := rfl
@[simp] theorem State.setCell_power (s : State) (x y : Nat) (c : CellSt) : (s.setCell x y c).power = s.power := rfl
@[simp] theorem State.setCell_panel (s : State) (x y : Nat) (c : CellSt) : (s.setCell x y c).panel = s.panel := rfl
@[simp] theorem State.setCell_map (s : State) (x y : Nat) (c : CellSt) : (s.setCell x y c).map = s.map := rfl
@[simp] theorem State.setCell_phys (s : State) (x y : Nat) (c : CellSt) : (s.setCell x y c).phys = s.phys := rfl
@[simp] theorem State.setCell_mem (s : State) (x y : Nat) (c : CellSt) : (s.setCell x y c).mem = s.mem := rfl
@[simp] theorem State.setCell_hostMem (s : State) (x y : Nat) (c : CellSt) : (s.setCell x y c).hostMem = s.hostMem := rfl
@[simp] theorem State.setCell_pats (s : State) (x y : Nat) (c : CellSt) : (s.setCell x y c).pats = s.pats := rfl
@[simp] theorem State.setCell_run (s : State) (x y : Nat) (c : CellSt) : (s.setCell x y c).run = s.run := rfl
@[simp] theorem State.setCell_row (s : State) (x y : Nat) (c : CellSt) : (s.setCell x y c).row = s.row := rfl
@[simp] theorem State.setCell_hbm (s : State) (x y : Nat) (c : CellSt) : (s.setCell x y c).hbm = s.hbm := rfl
@[simp] theorem State.setCell_links (s : State) (x y : Nat) (c : CellSt) : (s.setCell x y c).links = s.links := rfl
@[simp] theorem State.setCell_engines (s : State) (x y : Nat) (c : CellSt) : (s.setCell x y c).engines = s.engines := rfl
@[simp] theorem State.setCell_sess (s : State) (x y : Nat) (c : CellSt) : (s.setCell x y c).sess = s.sess := rfl
@[simp] theorem State.setCell_pool (s : State) (x y : Nat) (c : CellSt) : (s.setCell x y c).pool = s.pool := rfl
@[simp] theorem State.setCell_queues (s : State) (x y : Nat) (c : CellSt) : (s.setCell x y c).queues = s.queues := rfl
@[simp] theorem State.setCell_host (s : State) (x y : Nat) (c : CellSt) : (s.setCell x y c).host = s.host := rfl
@[simp] theorem State.setCell_naela (s : State) (x y : Nat) (c : CellSt) : (s.setCell x y c).naela = s.naela := rfl
@[simp] theorem State.setCell_out (s : State) (x y : Nat) (c : CellSt) : (s.setCell x y c).out = s.out := rfl
@[simp] theorem State.setCell_free (s : State) (x y : Nat) (c : CellSt) : (s.setCell x y c).free = s.free := rfl
@[simp] theorem State.setCell_clock (s : State) (x y : Nat) (c : CellSt) : (s.setCell x y c).clock = s.clock := rfl
@[simp] theorem State.setCell_pending (s : State) (x y : Nat) (c : CellSt) : (s.setCell x y c).pending = s.pending := rfl

/-! ### setQueue -/

@[simp] theorem State.setQueue_fe (s : State) (q : Nat) (v : QueuePair) : (s.setQueue q v).fe = s.fe := rfl
@[simp] theorem State.setQueue_flash (s : State) (q : Nat) (v : QueuePair) : (s.setQueue q v).flash = s.flash := rfl
@[simp] theorem State.setQueue_dev (s : State) (q : Nat) (v : QueuePair) : (s.setQueue q v).dev = s.dev := rfl
@[simp] theorem State.setQueue_obj (s : State) (q : Nat) (v : QueuePair) : (s.setQueue q v).obj = s.obj := rfl
@[simp] theorem State.setQueue_latched (s : State) (q : Nat) (v : QueuePair) : (s.setQueue q v).latched = s.latched := rfl
@[simp] theorem State.setQueue_start (s : State) (q : Nat) (v : QueuePair) : (s.setQueue q v).start = s.start := rfl
@[simp] theorem State.setQueue_sec (s : State) (q : Nat) (v : QueuePair) : (s.setQueue q v).sec = s.sec := rfl
@[simp] theorem State.setQueue_bar2 (s : State) (q : Nat) (v : QueuePair) : (s.setQueue q v).bar2 = s.bar2 := rfl
@[simp] theorem State.setQueue_time (s : State) (q : Nat) (v : QueuePair) : (s.setQueue q v).time = s.time := rfl
@[simp] theorem State.setQueue_regs (s : State) (q : Nat) (v : QueuePair) : (s.setQueue q v).regs = s.regs := rfl
@[simp] theorem State.setQueue_blks (s : State) (q : Nat) (v : QueuePair) : (s.setQueue q v).blks = s.blks := rfl
@[simp] theorem State.setQueue_power (s : State) (q : Nat) (v : QueuePair) : (s.setQueue q v).power = s.power := rfl
@[simp] theorem State.setQueue_panel (s : State) (q : Nat) (v : QueuePair) : (s.setQueue q v).panel = s.panel := rfl
@[simp] theorem State.setQueue_map (s : State) (q : Nat) (v : QueuePair) : (s.setQueue q v).map = s.map := rfl
@[simp] theorem State.setQueue_cells (s : State) (q : Nat) (v : QueuePair) : (s.setQueue q v).cells = s.cells := rfl
@[simp] theorem State.setQueue_phys (s : State) (q : Nat) (v : QueuePair) : (s.setQueue q v).phys = s.phys := rfl
@[simp] theorem State.setQueue_mem (s : State) (q : Nat) (v : QueuePair) : (s.setQueue q v).mem = s.mem := rfl
@[simp] theorem State.setQueue_hostMem (s : State) (q : Nat) (v : QueuePair) : (s.setQueue q v).hostMem = s.hostMem := rfl
@[simp] theorem State.setQueue_pats (s : State) (q : Nat) (v : QueuePair) : (s.setQueue q v).pats = s.pats := rfl
@[simp] theorem State.setQueue_run (s : State) (q : Nat) (v : QueuePair) : (s.setQueue q v).run = s.run := rfl
@[simp] theorem State.setQueue_row (s : State) (q : Nat) (v : QueuePair) : (s.setQueue q v).row = s.row := rfl
@[simp] theorem State.setQueue_hbm (s : State) (q : Nat) (v : QueuePair) : (s.setQueue q v).hbm = s.hbm := rfl
@[simp] theorem State.setQueue_links (s : State) (q : Nat) (v : QueuePair) : (s.setQueue q v).links = s.links := rfl
@[simp] theorem State.setQueue_engines (s : State) (q : Nat) (v : QueuePair) : (s.setQueue q v).engines = s.engines := rfl
@[simp] theorem State.setQueue_sess (s : State) (q : Nat) (v : QueuePair) : (s.setQueue q v).sess = s.sess := rfl
@[simp] theorem State.setQueue_pool (s : State) (q : Nat) (v : QueuePair) : (s.setQueue q v).pool = s.pool := rfl
@[simp] theorem State.setQueue_host (s : State) (q : Nat) (v : QueuePair) : (s.setQueue q v).host = s.host := rfl
@[simp] theorem State.setQueue_naela (s : State) (q : Nat) (v : QueuePair) : (s.setQueue q v).naela = s.naela := rfl
@[simp] theorem State.setQueue_out (s : State) (q : Nat) (v : QueuePair) : (s.setQueue q v).out = s.out := rfl
@[simp] theorem State.setQueue_free (s : State) (q : Nat) (v : QueuePair) : (s.setQueue q v).free = s.free := rfl
@[simp] theorem State.setQueue_clock (s : State) (q : Nat) (v : QueuePair) : (s.setQueue q v).clock = s.clock := rfl
@[simp] theorem State.setQueue_pending (s : State) (q : Nat) (v : QueuePair) : (s.setQueue q v).pending = s.pending := rfl

/-! ### setPort -/

@[simp] theorem State.setPort_fe (s : State) (p : Nat) (v : PortSt) : (s.setPort p v).fe = s.fe := rfl
@[simp] theorem State.setPort_flash (s : State) (p : Nat) (v : PortSt) : (s.setPort p v).flash = s.flash := rfl
@[simp] theorem State.setPort_dev (s : State) (p : Nat) (v : PortSt) : (s.setPort p v).dev = s.dev := rfl
@[simp] theorem State.setPort_obj (s : State) (p : Nat) (v : PortSt) : (s.setPort p v).obj = s.obj := rfl
@[simp] theorem State.setPort_latched (s : State) (p : Nat) (v : PortSt) : (s.setPort p v).latched = s.latched := rfl
@[simp] theorem State.setPort_start (s : State) (p : Nat) (v : PortSt) : (s.setPort p v).start = s.start := rfl
@[simp] theorem State.setPort_sec (s : State) (p : Nat) (v : PortSt) : (s.setPort p v).sec = s.sec := rfl
@[simp] theorem State.setPort_bar2 (s : State) (p : Nat) (v : PortSt) : (s.setPort p v).bar2 = s.bar2 := rfl
@[simp] theorem State.setPort_time (s : State) (p : Nat) (v : PortSt) : (s.setPort p v).time = s.time := rfl
@[simp] theorem State.setPort_regs (s : State) (p : Nat) (v : PortSt) : (s.setPort p v).regs = s.regs := rfl
@[simp] theorem State.setPort_blks (s : State) (p : Nat) (v : PortSt) : (s.setPort p v).blks = s.blks := rfl
@[simp] theorem State.setPort_power (s : State) (p : Nat) (v : PortSt) : (s.setPort p v).power = s.power := rfl
@[simp] theorem State.setPort_panel (s : State) (p : Nat) (v : PortSt) : (s.setPort p v).panel = s.panel := rfl
@[simp] theorem State.setPort_map (s : State) (p : Nat) (v : PortSt) : (s.setPort p v).map = s.map := rfl
@[simp] theorem State.setPort_cells (s : State) (p : Nat) (v : PortSt) : (s.setPort p v).cells = s.cells := rfl
@[simp] theorem State.setPort_phys (s : State) (p : Nat) (v : PortSt) : (s.setPort p v).phys = s.phys := rfl
@[simp] theorem State.setPort_mem (s : State) (p : Nat) (v : PortSt) : (s.setPort p v).mem = s.mem := rfl
@[simp] theorem State.setPort_hostMem (s : State) (p : Nat) (v : PortSt) : (s.setPort p v).hostMem = s.hostMem := rfl
@[simp] theorem State.setPort_pats (s : State) (p : Nat) (v : PortSt) : (s.setPort p v).pats = s.pats := rfl
@[simp] theorem State.setPort_run (s : State) (p : Nat) (v : PortSt) : (s.setPort p v).run = s.run := rfl
@[simp] theorem State.setPort_row (s : State) (p : Nat) (v : PortSt) : (s.setPort p v).row = s.row := rfl
@[simp] theorem State.setPort_hbm (s : State) (p : Nat) (v : PortSt) : (s.setPort p v).hbm = s.hbm := rfl
@[simp] theorem State.setPort_links (s : State) (p : Nat) (v : PortSt) : (s.setPort p v).links = s.links := rfl
@[simp] theorem State.setPort_engines (s : State) (p : Nat) (v : PortSt) : (s.setPort p v).engines = s.engines := rfl
@[simp] theorem State.setPort_sess (s : State) (p : Nat) (v : PortSt) : (s.setPort p v).sess = s.sess := rfl
@[simp] theorem State.setPort_pool (s : State) (p : Nat) (v : PortSt) : (s.setPort p v).pool = s.pool := rfl
@[simp] theorem State.setPort_queues (s : State) (p : Nat) (v : PortSt) : (s.setPort p v).queues = s.queues := rfl
@[simp] theorem State.setPort_host (s : State) (p : Nat) (v : PortSt) : (s.setPort p v).host = s.host := rfl
@[simp] theorem State.setPort_out (s : State) (p : Nat) (v : PortSt) : (s.setPort p v).out = s.out := rfl
@[simp] theorem State.setPort_free (s : State) (p : Nat) (v : PortSt) : (s.setPort p v).free = s.free := rfl
@[simp] theorem State.setPort_clock (s : State) (p : Nat) (v : PortSt) : (s.setPort p v).clock = s.clock := rfl
@[simp] theorem State.setPort_pending (s : State) (p : Nat) (v : PortSt) : (s.setPort p v).pending = s.pending := rfl

/-! ### emit -/

@[simp] theorem State.emit_fe (s : State) (o : Output) : (s.emit o).fe = s.fe := rfl
@[simp] theorem State.emit_flash (s : State) (o : Output) : (s.emit o).flash = s.flash := rfl
@[simp] theorem State.emit_dev (s : State) (o : Output) : (s.emit o).dev = s.dev := rfl
@[simp] theorem State.emit_obj (s : State) (o : Output) : (s.emit o).obj = s.obj := rfl
@[simp] theorem State.emit_latched (s : State) (o : Output) : (s.emit o).latched = s.latched := rfl
@[simp] theorem State.emit_start (s : State) (o : Output) : (s.emit o).start = s.start := rfl
@[simp] theorem State.emit_sec (s : State) (o : Output) : (s.emit o).sec = s.sec := rfl
@[simp] theorem State.emit_bar2 (s : State) (o : Output) : (s.emit o).bar2 = s.bar2 := rfl
@[simp] theorem State.emit_time (s : State) (o : Output) : (s.emit o).time = s.time := rfl
@[simp] theorem State.emit_regs (s : State) (o : Output) : (s.emit o).regs = s.regs := rfl
@[simp] theorem State.emit_blks (s : State) (o : Output) : (s.emit o).blks = s.blks := rfl
@[simp] theorem State.emit_power (s : State) (o : Output) : (s.emit o).power = s.power := rfl
@[simp] theorem State.emit_panel (s : State) (o : Output) : (s.emit o).panel = s.panel := rfl
@[simp] theorem State.emit_map (s : State) (o : Output) : (s.emit o).map = s.map := rfl
@[simp] theorem State.emit_cells (s : State) (o : Output) : (s.emit o).cells = s.cells := rfl
@[simp] theorem State.emit_phys (s : State) (o : Output) : (s.emit o).phys = s.phys := rfl
@[simp] theorem State.emit_mem (s : State) (o : Output) : (s.emit o).mem = s.mem := rfl
@[simp] theorem State.emit_hostMem (s : State) (o : Output) : (s.emit o).hostMem = s.hostMem := rfl
@[simp] theorem State.emit_pats (s : State) (o : Output) : (s.emit o).pats = s.pats := rfl
@[simp] theorem State.emit_run (s : State) (o : Output) : (s.emit o).run = s.run := rfl
@[simp] theorem State.emit_row (s : State) (o : Output) : (s.emit o).row = s.row := rfl
@[simp] theorem State.emit_hbm (s : State) (o : Output) : (s.emit o).hbm = s.hbm := rfl
@[simp] theorem State.emit_links (s : State) (o : Output) : (s.emit o).links = s.links := rfl
@[simp] theorem State.emit_engines (s : State) (o : Output) : (s.emit o).engines = s.engines := rfl
@[simp] theorem State.emit_sess (s : State) (o : Output) : (s.emit o).sess = s.sess := rfl
@[simp] theorem State.emit_pool (s : State) (o : Output) : (s.emit o).pool = s.pool := rfl
@[simp] theorem State.emit_queues (s : State) (o : Output) : (s.emit o).queues = s.queues := rfl
@[simp] theorem State.emit_host (s : State) (o : Output) : (s.emit o).host = s.host := rfl
@[simp] theorem State.emit_naela (s : State) (o : Output) : (s.emit o).naela = s.naela := rfl
@[simp] theorem State.emit_free (s : State) (o : Output) : (s.emit o).free = s.free := rfl
@[simp] theorem State.emit_clock (s : State) (o : Output) : (s.emit o).clock = s.clock := rfl
@[simp] theorem State.emit_pending (s : State) (o : Output) : (s.emit o).pending = s.pending := rfl

/-! ### countRow -/

@[simp] theorem State.countRow_fe (s : State) (a b c d e f : Nat) : (s.countRow a b c d e f).fe = s.fe := rfl
@[simp] theorem State.countRow_flash (s : State) (a b c d e f : Nat) : (s.countRow a b c d e f).flash = s.flash := rfl
@[simp] theorem State.countRow_dev (s : State) (a b c d e f : Nat) : (s.countRow a b c d e f).dev = s.dev := rfl
@[simp] theorem State.countRow_obj (s : State) (a b c d e f : Nat) : (s.countRow a b c d e f).obj = s.obj := rfl
@[simp] theorem State.countRow_latched (s : State) (a b c d e f : Nat) : (s.countRow a b c d e f).latched = s.latched := rfl
@[simp] theorem State.countRow_start (s : State) (a b c d e f : Nat) : (s.countRow a b c d e f).start = s.start := rfl
@[simp] theorem State.countRow_sec (s : State) (a b c d e f : Nat) : (s.countRow a b c d e f).sec = s.sec := rfl
@[simp] theorem State.countRow_bar2 (s : State) (a b c d e f : Nat) : (s.countRow a b c d e f).bar2 = s.bar2 := rfl
@[simp] theorem State.countRow_time (s : State) (a b c d e f : Nat) : (s.countRow a b c d e f).time = s.time := rfl
@[simp] theorem State.countRow_regs (s : State) (a b c d e f : Nat) : (s.countRow a b c d e f).regs = s.regs := rfl
@[simp] theorem State.countRow_blks (s : State) (a b c d e f : Nat) : (s.countRow a b c d e f).blks = s.blks := rfl
@[simp] theorem State.countRow_power (s : State) (a b c d e f : Nat) : (s.countRow a b c d e f).power = s.power := rfl
@[simp] theorem State.countRow_panel (s : State) (a b c d e f : Nat) : (s.countRow a b c d e f).panel = s.panel := rfl
@[simp] theorem State.countRow_map (s : State) (a b c d e f : Nat) : (s.countRow a b c d e f).map = s.map := rfl
@[simp] theorem State.countRow_cells (s : State) (a b c d e f : Nat) : (s.countRow a b c d e f).cells = s.cells := rfl
@[simp] theorem State.countRow_phys (s : State) (a b c d e f : Nat) : (s.countRow a b c d e f).phys = s.phys := rfl
@[simp] theorem State.countRow_mem (s : State) (a b c d e f : Nat) : (s.countRow a b c d e f).mem = s.mem := rfl
@[simp] theorem State.countRow_hostMem (s : State) (a b c d e f : Nat) : (s.countRow a b c d e f).hostMem = s.hostMem := rfl
@[simp] theorem State.countRow_pats (s : State) (a b c d e f : Nat) : (s.countRow a b c d e f).pats = s.pats := rfl
@[simp] theorem State.countRow_run (s : State) (a b c d e f : Nat) : (s.countRow a b c d e f).run = s.run := rfl
@[simp] theorem State.countRow_hbm (s : State) (a b c d e f : Nat) : (s.countRow a b c d e f).hbm = s.hbm := rfl
@[simp] theorem State.countRow_links (s : State) (a b c d e f : Nat) : (s.countRow a b c d e f).links = s.links := rfl
@[simp] theorem State.countRow_engines (s : State) (a b c d e f : Nat) : (s.countRow a b c d e f).engines = s.engines := rfl
@[simp] theorem State.countRow_sess (s : State) (a b c d e f : Nat) : (s.countRow a b c d e f).sess = s.sess := rfl
@[simp] theorem State.countRow_pool (s : State) (a b c d e f : Nat) : (s.countRow a b c d e f).pool = s.pool := rfl
@[simp] theorem State.countRow_queues (s : State) (a b c d e f : Nat) : (s.countRow a b c d e f).queues = s.queues := rfl
@[simp] theorem State.countRow_host (s : State) (a b c d e f : Nat) : (s.countRow a b c d e f).host = s.host := rfl
@[simp] theorem State.countRow_naela (s : State) (a b c d e f : Nat) : (s.countRow a b c d e f).naela = s.naela := rfl
@[simp] theorem State.countRow_out (s : State) (a b c d e f : Nat) : (s.countRow a b c d e f).out = s.out := rfl
@[simp] theorem State.countRow_free (s : State) (a b c d e f : Nat) : (s.countRow a b c d e f).free = s.free := rfl
@[simp] theorem State.countRow_clock (s : State) (a b c d e f : Nat) : (s.countRow a b c d e f).clock = s.clock := rfl
@[simp] theorem State.countRow_pending (s : State) (a b c d e f : Nat) : (s.countRow a b c d e f).pending = s.pending := rfl

/-! ### modFe -/

@[simp] theorem State.modFe_fe (s : State) (f : FrontEnd → FrontEnd) : (s.modFe f).fe = f s.fe := rfl
@[simp] theorem State.modFe_flash (s : State) (f : FrontEnd → FrontEnd) : (s.modFe f).flash = s.flash := rfl
@[simp] theorem State.modFe_dev (s : State) (f : FrontEnd → FrontEnd) : (s.modFe f).dev = s.dev := rfl
@[simp] theorem State.modFe_obj (s : State) (f : FrontEnd → FrontEnd) : (s.modFe f).obj = s.obj := rfl
@[simp] theorem State.modFe_latched (s : State) (f : FrontEnd → FrontEnd) : (s.modFe f).latched = s.latched := rfl
@[simp] theorem State.modFe_start (s : State) (f : FrontEnd → FrontEnd) : (s.modFe f).start = s.start := rfl
@[simp] theorem State.modFe_sec (s : State) (f : FrontEnd → FrontEnd) : (s.modFe f).sec = s.sec := rfl
@[simp] theorem State.modFe_bar2 (s : State) (f : FrontEnd → FrontEnd) : (s.modFe f).bar2 = s.bar2 := rfl
@[simp] theorem State.modFe_time (s : State) (f : FrontEnd → FrontEnd) : (s.modFe f).time = s.time := rfl
@[simp] theorem State.modFe_regs (s : State) (f : FrontEnd → FrontEnd) : (s.modFe f).regs = s.regs := rfl
@[simp] theorem State.modFe_blks (s : State) (f : FrontEnd → FrontEnd) : (s.modFe f).blks = s.blks := rfl
@[simp] theorem State.modFe_power (s : State) (f : FrontEnd → FrontEnd) : (s.modFe f).power = s.power := rfl
@[simp] theorem State.modFe_panel (s : State) (f : FrontEnd → FrontEnd) : (s.modFe f).panel = s.panel := rfl
@[simp] theorem State.modFe_map (s : State) (f : FrontEnd → FrontEnd) : (s.modFe f).map = s.map := rfl
@[simp] theorem State.modFe_cells (s : State) (f : FrontEnd → FrontEnd) : (s.modFe f).cells = s.cells := rfl
@[simp] theorem State.modFe_phys (s : State) (f : FrontEnd → FrontEnd) : (s.modFe f).phys = s.phys := rfl
@[simp] theorem State.modFe_mem (s : State) (f : FrontEnd → FrontEnd) : (s.modFe f).mem = s.mem := rfl
@[simp] theorem State.modFe_hostMem (s : State) (f : FrontEnd → FrontEnd) : (s.modFe f).hostMem = s.hostMem := rfl
@[simp] theorem State.modFe_pats (s : State) (f : FrontEnd → FrontEnd) : (s.modFe f).pats = s.pats := rfl
@[simp] theorem State.modFe_run (s : State) (f : FrontEnd → FrontEnd) : (s.modFe f).run = s.run := rfl
@[simp] theorem State.modFe_row (s : State) (f : FrontEnd → FrontEnd) : (s.modFe f).row = s.row := rfl
@[simp] theorem State.modFe_hbm (s : State) (f : FrontEnd → FrontEnd) : (s.modFe f).hbm = s.hbm := rfl
@[simp] theorem State.modFe_links (s : State) (f : FrontEnd → FrontEnd) : (s.modFe f).links = s.links := rfl
@[simp] theorem State.modFe_engines (s : State) (f : FrontEnd → FrontEnd) : (s.modFe f).engines = s.engines := rfl
@[simp] theorem State.modFe_sess (s : State) (f : FrontEnd → FrontEnd) : (s.modFe f).sess = s.sess := rfl
@[simp] theorem State.modFe_pool (s : State) (f : FrontEnd → FrontEnd) : (s.modFe f).pool = s.pool := rfl
@[simp] theorem State.modFe_queues (s : State) (f : FrontEnd → FrontEnd) : (s.modFe f).queues = s.queues := rfl
@[simp] theorem State.modFe_host (s : State) (f : FrontEnd → FrontEnd) : (s.modFe f).host = s.host := rfl
@[simp] theorem State.modFe_naela (s : State) (f : FrontEnd → FrontEnd) : (s.modFe f).naela = s.naela := rfl
@[simp] theorem State.modFe_out (s : State) (f : FrontEnd → FrontEnd) : (s.modFe f).out = s.out := rfl
@[simp] theorem State.modFe_free (s : State) (f : FrontEnd → FrontEnd) : (s.modFe f).free = s.free := rfl
@[simp] theorem State.modFe_clock (s : State) (f : FrontEnd → FrontEnd) : (s.modFe f).clock = s.clock := rfl
@[simp] theorem State.modFe_pending (s : State) (f : FrontEnd → FrontEnd) : (s.modFe f).pending = s.pending := rfl

/-! ### modFlash -/

@[simp] theorem State.modFlash_fe (s : State) (f : Flash → Flash) : (s.modFlash f).fe = s.fe := rfl
@[simp] theorem State.modFlash_flash (s : State) (f : Flash → Flash) : (s.modFlash f).flash = f s.flash := rfl
@[simp] theorem State.modFlash_dev (s : State) (f : Flash → Flash) : (s.modFlash f).dev = s.dev := rfl
@[simp] theorem State.modFlash_obj (s : State) (f : Flash → Flash) : (s.modFlash f).obj = s.obj := rfl
@[simp] theorem State.modFlash_latched (s : State) (f : Flash → Flash) : (s.modFlash f).latched = s.latched := rfl
@[simp] theorem State.modFlash_start (s : State) (f : Flash → Flash) : (s.modFlash f).start = s.start := rfl
@[simp] theorem State.modFlash_sec (s : State) (f : Flash → Flash) : (s.modFlash f).sec = s.sec := rfl
@[simp] theorem State.modFlash_bar2 (s : State) (f : Flash → Flash) : (s.modFlash f).bar2 = s.bar2 := rfl
@[simp] theorem State.modFlash_time (s : State) (f : Flash → Flash) : (s.modFlash f).time = s.time := rfl
@[simp] theorem State.modFlash_regs (s : State) (f : Flash → Flash) : (s.modFlash f).regs = s.regs := rfl
@[simp] theorem State.modFlash_blks (s : State) (f : Flash → Flash) : (s.modFlash f).blks = s.blks := rfl
@[simp] theorem State.modFlash_power (s : State) (f : Flash → Flash) : (s.modFlash f).power = s.power := rfl
@[simp] theorem State.modFlash_panel (s : State) (f : Flash → Flash) : (s.modFlash f).panel = s.panel := rfl
@[simp] theorem State.modFlash_map (s : State) (f : Flash → Flash) : (s.modFlash f).map = s.map := rfl
@[simp] theorem State.modFlash_cells (s : State) (f : Flash → Flash) : (s.modFlash f).cells = s.cells := rfl
@[simp] theorem State.modFlash_phys (s : State) (f : Flash → Flash) : (s.modFlash f).phys = s.phys := rfl
@[simp] theorem State.modFlash_mem (s : State) (f : Flash → Flash) : (s.modFlash f).mem = s.mem := rfl
@[simp] theorem State.modFlash_hostMem (s : State) (f : Flash → Flash) : (s.modFlash f).hostMem = s.hostMem := rfl
@[simp] theorem State.modFlash_pats (s : State) (f : Flash → Flash) : (s.modFlash f).pats = s.pats := rfl
@[simp] theorem State.modFlash_run (s : State) (f : Flash → Flash) : (s.modFlash f).run = s.run := rfl
@[simp] theorem State.modFlash_row (s : State) (f : Flash → Flash) : (s.modFlash f).row = s.row := rfl
@[simp] theorem State.modFlash_hbm (s : State) (f : Flash → Flash) : (s.modFlash f).hbm = s.hbm := rfl
@[simp] theorem State.modFlash_links (s : State) (f : Flash → Flash) : (s.modFlash f).links = s.links := rfl
@[simp] theorem State.modFlash_engines (s : State) (f : Flash → Flash) : (s.modFlash f).engines = s.engines := rfl
@[simp] theorem State.modFlash_sess (s : State) (f : Flash → Flash) : (s.modFlash f).sess = s.sess := rfl
@[simp] theorem State.modFlash_pool (s : State) (f : Flash → Flash) : (s.modFlash f).pool = s.pool := rfl
@[simp] theorem State.modFlash_queues (s : State) (f : Flash → Flash) : (s.modFlash f).queues = s.queues := rfl
@[simp] theorem State.modFlash_host (s : State) (f : Flash → Flash) : (s.modFlash f).host = s.host := rfl
@[simp] theorem State.modFlash_naela (s : State) (f : Flash → Flash) : (s.modFlash f).naela = s.naela := rfl
@[simp] theorem State.modFlash_out (s : State) (f : Flash → Flash) : (s.modFlash f).out = s.out := rfl
@[simp] theorem State.modFlash_free (s : State) (f : Flash → Flash) : (s.modFlash f).free = s.free := rfl
@[simp] theorem State.modFlash_clock (s : State) (f : Flash → Flash) : (s.modFlash f).clock = s.clock := rfl
@[simp] theorem State.modFlash_pending (s : State) (f : Flash → Flash) : (s.modFlash f).pending = s.pending := rfl

/-! ### draw -/

@[simp] theorem State.draw_fe (s : State) : s.draw.2.fe = s.fe := rfl
@[simp] theorem State.draw_flash (s : State) : s.draw.2.flash = s.flash := rfl
@[simp] theorem State.draw_dev (s : State) : s.draw.2.dev = s.dev := rfl
@[simp] theorem State.draw_obj (s : State) : s.draw.2.obj = s.obj := rfl
@[simp] theorem State.draw_latched (s : State) : s.draw.2.latched = s.latched := rfl
@[simp] theorem State.draw_start (s : State) : s.draw.2.start = s.start := rfl
@[simp] theorem State.draw_sec (s : State) : s.draw.2.sec = s.sec := rfl
@[simp] theorem State.draw_bar2 (s : State) : s.draw.2.bar2 = s.bar2 := rfl
@[simp] theorem State.draw_time (s : State) : s.draw.2.time = s.time := rfl
@[simp] theorem State.draw_regs (s : State) : s.draw.2.regs = s.regs := rfl
@[simp] theorem State.draw_blks (s : State) : s.draw.2.blks = s.blks := rfl
@[simp] theorem State.draw_power (s : State) : s.draw.2.power = s.power := rfl
@[simp] theorem State.draw_panel (s : State) : s.draw.2.panel = s.panel := rfl
@[simp] theorem State.draw_map (s : State) : s.draw.2.map = s.map := rfl
@[simp] theorem State.draw_cells (s : State) : s.draw.2.cells = s.cells := rfl
@[simp] theorem State.draw_phys (s : State) : s.draw.2.phys = s.phys := rfl
@[simp] theorem State.draw_mem (s : State) : s.draw.2.mem = s.mem := rfl
@[simp] theorem State.draw_hostMem (s : State) : s.draw.2.hostMem = s.hostMem := rfl
@[simp] theorem State.draw_pats (s : State) : s.draw.2.pats = s.pats := rfl
@[simp] theorem State.draw_run (s : State) : s.draw.2.run = s.run := rfl
@[simp] theorem State.draw_row (s : State) : s.draw.2.row = s.row := rfl
@[simp] theorem State.draw_hbm (s : State) : s.draw.2.hbm = s.hbm := rfl
@[simp] theorem State.draw_links (s : State) : s.draw.2.links = s.links := rfl
@[simp] theorem State.draw_engines (s : State) : s.draw.2.engines = s.engines := rfl
@[simp] theorem State.draw_sess (s : State) : s.draw.2.sess = s.sess := rfl
@[simp] theorem State.draw_pool (s : State) : s.draw.2.pool = s.pool := rfl
@[simp] theorem State.draw_queues (s : State) : s.draw.2.queues = s.queues := rfl
@[simp] theorem State.draw_host (s : State) : s.draw.2.host = s.host := rfl
@[simp] theorem State.draw_naela (s : State) : s.draw.2.naela = s.naela := rfl
@[simp] theorem State.draw_out (s : State) : s.draw.2.out = s.out := rfl
@[simp] theorem State.draw_clock (s : State) : s.draw.2.clock = s.clock := rfl
@[simp] theorem State.draw_pending (s : State) : s.draw.2.pending = s.pending := rfl

/-! ### setLink -/

@[simp] theorem State.setLink_fe (s : State) (l : LinkId) (v : LinkSt) : (s.setLink l v).fe = s.fe := rfl
@[simp] theorem State.setLink_flash (s : State) (l : LinkId) (v : LinkSt) : (s.setLink l v).flash = s.flash := rfl
@[simp] theorem State.setLink_dev (s : State) (l : LinkId) (v : LinkSt) : (s.setLink l v).dev = s.dev := rfl
@[simp] theorem State.setLink_latched (s : State) (l : LinkId) (v : LinkSt) : (s.setLink l v).latched = s.latched := rfl
@[simp] theorem State.setLink_start (s : State) (l : LinkId) (v : LinkSt) : (s.setLink l v).start = s.start := rfl
@[simp] theorem State.setLink_sec (s : State) (l : LinkId) (v : LinkSt) : (s.setLink l v).sec = s.sec := rfl
@[simp] theorem State.setLink_bar2 (s : State) (l : LinkId) (v : LinkSt) : (s.setLink l v).bar2 = s.bar2 := rfl
@[simp] theorem State.setLink_time (s : State) (l : LinkId) (v : LinkSt) : (s.setLink l v).time = s.time := rfl
@[simp] theorem State.setLink_regs (s : State) (l : LinkId) (v : LinkSt) : (s.setLink l v).regs = s.regs := rfl
@[simp] theorem State.setLink_blks (s : State) (l : LinkId) (v : LinkSt) : (s.setLink l v).blks = s.blks := rfl
@[simp] theorem State.setLink_power (s : State) (l : LinkId) (v : LinkSt) : (s.setLink l v).power = s.power := rfl
@[simp] theorem State.setLink_panel (s : State) (l : LinkId) (v : LinkSt) : (s.setLink l v).panel = s.panel := rfl
@[simp] theorem State.setLink_map (s : State) (l : LinkId) (v : LinkSt) : (s.setLink l v).map = s.map := rfl
@[simp] theorem State.setLink_cells (s : State) (l : LinkId) (v : LinkSt) : (s.setLink l v).cells = s.cells := rfl
@[simp] theorem State.setLink_phys (s : State) (l : LinkId) (v : LinkSt) : (s.setLink l v).phys = s.phys := rfl
@[simp] theorem State.setLink_mem (s : State) (l : LinkId) (v : LinkSt) : (s.setLink l v).mem = s.mem := rfl
@[simp] theorem State.setLink_hostMem (s : State) (l : LinkId) (v : LinkSt) : (s.setLink l v).hostMem = s.hostMem := rfl
@[simp] theorem State.setLink_pats (s : State) (l : LinkId) (v : LinkSt) : (s.setLink l v).pats = s.pats := rfl
@[simp] theorem State.setLink_run (s : State) (l : LinkId) (v : LinkSt) : (s.setLink l v).run = s.run := rfl
@[simp] theorem State.setLink_row (s : State) (l : LinkId) (v : LinkSt) : (s.setLink l v).row = s.row := rfl
@[simp] theorem State.setLink_hbm (s : State) (l : LinkId) (v : LinkSt) : (s.setLink l v).hbm = s.hbm := rfl
@[simp] theorem State.setLink_engines (s : State) (l : LinkId) (v : LinkSt) : (s.setLink l v).engines = s.engines := rfl
@[simp] theorem State.setLink_sess (s : State) (l : LinkId) (v : LinkSt) : (s.setLink l v).sess = s.sess := rfl
@[simp] theorem State.setLink_pool (s : State) (l : LinkId) (v : LinkSt) : (s.setLink l v).pool = s.pool := rfl
@[simp] theorem State.setLink_queues (s : State) (l : LinkId) (v : LinkSt) : (s.setLink l v).queues = s.queues := rfl
@[simp] theorem State.setLink_host (s : State) (l : LinkId) (v : LinkSt) : (s.setLink l v).host = s.host := rfl
@[simp] theorem State.setLink_naela (s : State) (l : LinkId) (v : LinkSt) : (s.setLink l v).naela = s.naela := rfl
@[simp] theorem State.setLink_out (s : State) (l : LinkId) (v : LinkSt) : (s.setLink l v).out = s.out := rfl
@[simp] theorem State.setLink_free (s : State) (l : LinkId) (v : LinkSt) : (s.setLink l v).free = s.free := rfl
@[simp] theorem State.setLink_clock (s : State) (l : LinkId) (v : LinkSt) : (s.setLink l v).clock = s.clock := rfl
@[simp] theorem State.setLink_pending (s : State) (l : LinkId) (v : LinkSt) : (s.setLink l v).pending = s.pending := rfl
@[simp] theorem State.setLink_obj (s : State) (l : LinkId) (v : LinkSt) : (s.setLink l v).obj = s.obj := rfl

/-! ### setSession -/

@[simp] theorem State.setSession_fe (s : State) (i : Nat) (v : Session) : (s.setSession i v).fe = s.fe := rfl
@[simp] theorem State.setSession_flash (s : State) (i : Nat) (v : Session) : (s.setSession i v).flash = s.flash := rfl
@[simp] theorem State.setSession_dev (s : State) (i : Nat) (v : Session) : (s.setSession i v).dev = s.dev := rfl
@[simp] theorem State.setSession_latched (s : State) (i : Nat) (v : Session) : (s.setSession i v).latched = s.latched := rfl
@[simp] theorem State.setSession_start (s : State) (i : Nat) (v : Session) : (s.setSession i v).start = s.start := rfl
@[simp] theorem State.setSession_sec (s : State) (i : Nat) (v : Session) : (s.setSession i v).sec = s.sec := rfl
@[simp] theorem State.setSession_bar2 (s : State) (i : Nat) (v : Session) : (s.setSession i v).bar2 = s.bar2 := rfl
@[simp] theorem State.setSession_time (s : State) (i : Nat) (v : Session) : (s.setSession i v).time = s.time := rfl
@[simp] theorem State.setSession_regs (s : State) (i : Nat) (v : Session) : (s.setSession i v).regs = s.regs := rfl
@[simp] theorem State.setSession_blks (s : State) (i : Nat) (v : Session) : (s.setSession i v).blks = s.blks := rfl
@[simp] theorem State.setSession_power (s : State) (i : Nat) (v : Session) : (s.setSession i v).power = s.power := rfl
@[simp] theorem State.setSession_panel (s : State) (i : Nat) (v : Session) : (s.setSession i v).panel = s.panel := rfl
@[simp] theorem State.setSession_map (s : State) (i : Nat) (v : Session) : (s.setSession i v).map = s.map := rfl
@[simp] theorem State.setSession_cells (s : State) (i : Nat) (v : Session) : (s.setSession i v).cells = s.cells := rfl
@[simp] theorem State.setSession_phys (s : State) (i : Nat) (v : Session) : (s.setSession i v).phys = s.phys := rfl
@[simp] theorem State.setSession_mem (s : State) (i : Nat) (v : Session) : (s.setSession i v).mem = s.mem := rfl
@[simp] theorem State.setSession_hostMem (s : State) (i : Nat) (v : Session) : (s.setSession i v).hostMem = s.hostMem := rfl
@[simp] theorem State.setSession_pats (s : State) (i : Nat) (v : Session) : (s.setSession i v).pats = s.pats := rfl
@[simp] theorem State.setSession_run (s : State) (i : Nat) (v : Session) : (s.setSession i v).run = s.run := rfl
@[simp] theorem State.setSession_row (s : State) (i : Nat) (v : Session) : (s.setSession i v).row = s.row := rfl
@[simp] theorem State.setSession_hbm (s : State) (i : Nat) (v : Session) : (s.setSession i v).hbm = s.hbm := rfl
@[simp] theorem State.setSession_links (s : State) (i : Nat) (v : Session) : (s.setSession i v).links = s.links := rfl
@[simp] theorem State.setSession_engines (s : State) (i : Nat) (v : Session) : (s.setSession i v).engines = s.engines := rfl
@[simp] theorem State.setSession_pool (s : State) (i : Nat) (v : Session) : (s.setSession i v).pool = s.pool := rfl
@[simp] theorem State.setSession_queues (s : State) (i : Nat) (v : Session) : (s.setSession i v).queues = s.queues := rfl
@[simp] theorem State.setSession_host (s : State) (i : Nat) (v : Session) : (s.setSession i v).host = s.host := rfl
@[simp] theorem State.setSession_naela (s : State) (i : Nat) (v : Session) : (s.setSession i v).naela = s.naela := rfl
@[simp] theorem State.setSession_out (s : State) (i : Nat) (v : Session) : (s.setSession i v).out = s.out := rfl
@[simp] theorem State.setSession_free (s : State) (i : Nat) (v : Session) : (s.setSession i v).free = s.free := rfl
@[simp] theorem State.setSession_clock (s : State) (i : Nat) (v : Session) : (s.setSession i v).clock = s.clock := rfl
@[simp] theorem State.setSession_pending (s : State) (i : Nat) (v : Session) : (s.setSession i v).pending = s.pending := rfl
@[simp] theorem State.setSession_obj (s : State) (i : Nat) (v : Session) : (s.setSession i v).obj = s.obj := rfl

/-! ### Entries read back -/

theorem okey_inj {i j k l : Nat} (hj : j < 256) (hl : l < 256) (h : okey i j = okey k l) : i = k ∧ j = l := by
  simp only [okey] at h; omega

@[simp] theorem State.ob_setOb_same (s : State) (i j : Nat) (v : Int) : (s.setOb i j v).ob i j = v := by
  simp [State.ob, State.setOb]

theorem State.ob_setOb_ne (s : State) {i j k l : Nat} (v : Int) (h : okey k l ≠ okey i j) : (s.setOb i j v).ob k l = s.ob k l := by
  simp [State.ob, State.setOb, Tab.get?_set_ne _ _ h]

@[simp] theorem State.nat_setOb_same (s : State) (i j v : Nat) : (s.setOb i j (v : Int)).nat i j = v := by
  simp [State.nat]

theorem State.nat_setOb_ne (s : State) {i j k l : Nat} (v : Int) (h : okey k l ≠ okey i j) :
    (s.setOb i j v).nat k l = s.nat k l := by
  simp [State.nat, State.ob_setOb_ne s v h]

@[simp] theorem State.reg_setReg_same (s : State) (r : Nat) (v : Reg) : (s.setReg r v).reg r = v := by
  simp [State.reg, State.setReg]

theorem State.reg_setReg_ne (s : State) {r q : Nat} (v : Reg) (h : q ≠ r) : (s.setReg r v).reg q = s.reg q := by
  simp [State.reg, State.setReg, Tab.getD_set_ne _ _ _ h]

@[simp] theorem State.blk_setBlk_same (s : State) (b : Nat) (v : Blk) : (s.setBlk b v).blk b = v := by
  simp [State.blk, State.setBlk]

theorem State.blk_setBlk_ne (s : State) {b c : Nat} (v : Blk) (h : c ≠ b) : (s.setBlk b v).blk c = s.blk c := by
  simp [State.blk, State.setBlk, Tab.getD_set_ne _ _ _ h]

@[simp] theorem State.cell_setCell_same (s : State) (x y : Nat) (c : CellSt) : (s.setCell x y c).cell x y = c := by
  simp [State.cell, State.setCell]

theorem State.cell_setCell_ne (s : State) {x y x' y' : Nat} (c : CellSt) (h : cellNo x' y' ≠ cellNo x y) :
    (s.setCell x y c).cell x' y' = s.cell x' y' := by
  simp [State.cell, State.setCell, Tab.getD_set_ne _ _ _ h]

@[simp] theorem State.queue_setQueue_same (s : State) (q : Nat) (v : QueuePair) : (s.setQueue q v).queue q = v := by
  simp [State.queue, State.setQueue]

theorem State.queue_setQueue_ne (s : State) {q r : Nat} (v : QueuePair) (h : r ≠ q) :
    (s.setQueue q v).queue r = s.queue r := by
  simp [State.queue, State.setQueue, Tab.getD_set_ne _ _ _ h]

@[simp] theorem State.port_setPort_same (s : State) (p : Nat) (v : PortSt) : (s.setPort p v).port p = v := by
  simp [State.port, State.setPort]

theorem State.port_setPort_ne (s : State) {p q : Nat} (v : PortSt) (h : q ≠ p) : (s.setPort p v).port q = s.port q := by
  simp [State.port, State.setPort, Tab.getD_set_ne _ _ _ h]

@[simp] theorem State.link_setLink_same (s : State) (l : LinkId) (v : LinkSt) : (s.setLink l v).link l = v := by
  simp [State.link, State.setLink]

theorem State.link_setLink_ne (s : State) {l k : LinkId} (v : LinkSt) (h : s.map.linkNo k ≠ s.map.linkNo l) :
    (s.setLink l v).link k = s.link k := by
  simp [State.link, State.setLink, Tab.getD_set_ne _ _ _ h]

end Sys2Proof.Machine
end

