-- ==== Sys2Proof/Laws/Cells.lean ====
section
/-!
SUPPORT. What the shared operations of the cells' units can do: a command to a unit, reads and writes of the scratchpad with
the undo log, operands, scalar registers.
-/
namespace Sys2Proof.Machine

/-! ### Commands -/

theorem State.whenOn_on {s : State} (h : s.on = true) (f : State → State) : s.whenOn f = .next (f s) := by
  simp [State.whenOn, h]

theorem State.whenOn_off {s : State} (h : s.on = false) (f : State → State) : s.whenOn f = .next s := by
  simp [State.whenOn, h]

theorem State.unit_on {s : State} {ok : Bool} (w : String) (i : Nat) (hok : ok = true) (h : s.on = true)
    (f : State → State) : s.unit w i ok f = .next (f s) := by
  simp [State.unit, hok, State.whenOn, h]

theorem State.unit_off {s : State} {ok : Bool} (w : String) (i : Nat) (hok : ok = true) (h : s.on = false)
    (f : State → State) : s.unit w i ok f = .next s := by
  simp [State.unit, hok, State.whenOn, h]

/-- A command to a unit that exists completes. -/
theorem State.unit_completes (s : State) {ok : Bool} (w : String) (i : Nat) (hok : ok = true) (f : State → State) :
    ∃ t, s.unit w i ok f = .next t := by
  simp [State.unit, hok, State.whenOn]

theorem State.cellOp_live {s : State} {x y : Nat} (h : s.cellLive x y) (d : Desc) (eff : Effect) :
    s.cellOp x y d eff = .next (s.settle x y (eff x y (s.cell x y).s d s)) := by
  obtain ⟨hc, ho, hr⟩ := h
  simp [State.cellOp, State.unit, hc, State.whenOn, ho, hr]

/-! ### Scratchpad -/

theorem State.readCell_ok (s : State) {x y o n : Nat} (h : o + n ≤ reachEnd) :
    s.readCell x y o n = .ok (s.scratch x y o n) := by
  simp [State.readCell, h]

theorem State.readSpa_ok {s : State} {x y f n o : Nat} (h : s.operandAt x y f n o) :
    s.readSpa x y (s.cell x y).s f n = .ok (s.scratch x y o n) := by
  simp [State.readSpa, h.1, s.readCell_ok h.2]

theorem linesOf_nodup (o n : Nat) : (linesOf o n).Nodup := by
  unfold linesOf
  split
  · exact List.nodup_nil
  · refine List.Nodup.map ?_ List.nodup_range
    intro a b h
    simp only at h
    omega

/-- Logging keeps the cell but for the log, which grows by the unlogged resident lines with what they hold. -/
theorem State.logLines_ok (s : State) (x y : Nat) (ls : List Nat) (c : CellSt) (hn : ls.Nodup)
    (h : c.undo.length + (c.unlogged ls).length ≤ 15408) :
    s.logLines x y c ls = .ok { c with undo := (c.unlogged ls).reverse.map (fun l => (l, s.scratch x y l 64)) ++ c.undo } := by
  induction ls generalizing c with
  | nil => simp [State.logLines, CellSt.unlogged]
  | cons l ls ih =>
    have hn' := (List.nodup_cons.mp hn)
    unfold State.logLines
    by_cases hs : c.rbound ≤ l ∨ c.undo.any (fun e => e.1 == l) = true
    · have hf : c.unlogged (l :: ls) = c.unlogged ls := by
        unfold CellSt.unlogged
        rw [List.filter_cons, if_neg]
        rcases hs with hs | hs
        · simp only [Bool.and_eq_true, decide_eq_true_eq]; omega
        · simp [hs]
      rw [if_pos hs, hf, ih c hn'.2 (by rw [← hf]; exact h)]
    · have hs' : l < c.rbound ∧ c.undo.any (fun e => e.1 == l) = false := by
        constructor
        · by_contra h'; exact hs (Or.inl (by omega))
        · by_contra h'; exact hs (Or.inr (by simpa using h'))
      have hf : c.unlogged (l :: ls) = l :: c.unlogged ls := by
        unfold CellSt.unlogged
        rw [List.filter_cons, if_pos]
        simp only [hs'.1, hs'.2, decide_true, Bool.not_false, Bool.and_self]
      rw [if_neg hs]
      have hlen : ¬ 15408 ≤ c.undo.length := by
        rw [hf] at h; simp only [List.length_cons] at h; omega
      rw [if_neg hlen]
      have hu : ({ c with undo := (l, s.scratch x y l 64) :: c.undo } : CellSt).unlogged ls = c.unlogged ls := by
        unfold CellSt.unlogged
        apply List.filter_congr
        intro k hk
        have hkl : (l == k) = false := by simpa using fun (e : l = k) => hn'.1 (e ▸ hk)
        simp [hkl]
      rw [ih _ hn'.2 (by rw [hu]; rw [hf] at h; simp only [List.length_cons] at h ⊢; omega)]
      rw [hu, hf]
      simp

theorem State.closeMerge_frame (s : State) (x y : Nat) (ls : List Nat) :
    s.closeMerge x y ls = s ∨
      ∃ m o, s.closeMerge x y ls = { s.setCell x y { s.cell x y with merge := m } with out := o } := by
  unfold State.closeMerge
  simp only
  split
  · exact Or.inl rfl
  · exact Or.inr ⟨_, _, rfl⟩

theorem State.setCell_frame {s u : State} (h : ∃ cs ou, u = { s with cells := cs, out := ou }) (p : Prop) [Decidable p]
    (x y : Nat) (c : CellSt) :
    (if p then u else u.setCell x y c) =
      { s with cells := (if p then u else u.setCell x y c).cells, out := (if p then u else u.setCell x y c).out } := by
  obtain ⟨cs, ou, rfl⟩ := h
  split <;> rfl

/-- A write that the cell may make does exactly that, and logs the resident lines it touches for the first time. -/
theorem State.writeCell_ok {s : State} {x y o : Nat} {bs : Bytes} (h : s.canWrite x y o bs.length) :
    ∃ t, s.writeCell x y o bs = .ok t ∧ s.cellWrote t x y o bs ∧ t.row = s.row ∧
      (t.cell x y).undo = ((s.cell x y).unlogged (linesOf o bs.length)).reverse.map (fun l => (l, s.scratch x y l 64))
        ++ (s.cell x y).undo := by
  obtain ⟨h1, h2, h3⟩ := h
  unfold State.writeCell
  have hc : ¬ (reachEnd < o + bs.length ∨ (!(linesOf o bs.length).all (fun l => s.writableLine x y l)) = true) := by
    rintro (h' | h')
    · omega
    · simp only [Bool.not_eq_true', List.all_eq_false] at h'
      obtain ⟨l, hl, hw⟩ := h'
      exact hw (h2 l hl)
  simp only
  rw [if_neg hc]
  obtain ⟨m, hcell, hmem, hr0, hcs⟩ : ∃ m, (s.closeMerge x y (linesOf o bs.length)).cell x y = { s.cell x y with merge := m } ∧
      (s.closeMerge x y (linesOf o bs.length)).mem = s.mem ∧
      (∃ cs ou, s.closeMerge x y (linesOf o bs.length) = { s with cells := cs, out := ou }) ∧
      ∀ k, k ≠ cellNo x y → Tab.get? (s.closeMerge x y (linesOf o bs.length)).cells k = Tab.get? s.cells k := by
    rcases s.closeMerge_frame x y (linesOf o bs.length) with hm | ⟨m, ou, hm⟩
    · rw [hm]; exact ⟨(s.cell x y).merge, rfl, rfl, ⟨s.cells, s.out, rfl⟩, fun _ _ => rfl⟩
    · rw [hm]
      exact ⟨m, by simp [State.cell, State.setCell], rfl, ⟨_, ou, rfl⟩, fun k hk => Tab.get?_set_ne _ _ hk⟩
  have hscr : ∀ l, (s.closeMerge x y (linesOf o bs.length)).scratch x y l 64 = s.scratch x y l 64 := by
    intro l; simp [State.scratch, hmem]
  have hlog := State.logLines_ok (s.closeMerge x y (linesOf o bs.length)) x y (linesOf o bs.length)
    ({ s.cell x y with merge := m }) (linesOf_nodup _ _) h3
  rw [hcell, hlog]
  simp only
  set u := s.closeMerge x y (linesOf o bs.length) with hu
  set c' : CellSt := { ({ s.cell x y with merge := m } : CellSt) with
    undo := (({ s.cell x y with merge := m } : CellSt).unlogged (linesOf o bs.length)).reverse.map
      (fun l => (l, u.scratch x y l 64)) ++ ({ s.cell x y with merge := m } : CellSt).undo } with hc'
  set v : State := (if c' = ({ s.cell x y with merge := m } : CellSt) then u else u.setCell x y c') with hv
  have hvcell : v.cell x y = c' := by
    rw [hv]; split
    · rename_i he; rw [hcell]; exact he.symm
    · simp
  have hvmem : v.mem = s.mem := by
    rw [hv]; split
    · exact hmem
    · simp [hmem]
  have hvrest : v = { s with cells := v.cells, out := v.out } := State.setCell_frame hr0 _ x y c'
  have hvrow : v.row = s.row := by
    have := congrArg State.row hvrest
    exact this
  have hvcells : ∀ k, k ≠ cellNo x y → Tab.get? v.cells k = Tab.get? s.cells k := by
    intro k hk
    have h1 : Tab.get? u.cells k = Tab.get? s.cells k := hcs k hk
    rw [hv]; split
    · exact h1
    · simp only [State.setCell]; rw [Tab.get?_set_ne _ _ hk]; exact h1
  refine ⟨_, rfl, ⟨?_, ?_, ?_, ?_, ?_⟩, ?_, ?_⟩
  · show (Mem.writeBytes u.mem _ bs).readBytes _ _ = bs
    exact Mem.readBytes_writeBytes_same ..
  · intro a ha
    show (Mem.writeBytes u.mem _ bs).read a = _
    rw [Mem.read_writeBytes_outside _ _ _ _ ha, hmem]
  · exact hvcells
  · show v.cell x y = { s.cell x y with undo := (v.cell x y).undo, merge := (v.cell x y).merge }
    rw [hvcell]
  · show ({ v with mem := _ } : State) = { s with mem := _, cells := v.cells, out := v.out, row := v.row }
    conv_lhs => rw [hvrest]
    rw [hvrow]
  · exact hvrow
  · show (v.cell x y).undo = _
    rw [hvcell, hc']
    simp only [hscr]
    rfl

/-! ### Registers -/

theorem CellSt.sr_setSr (c : CellSt) (h : c.s.length = 32) (rd : Nat) (v : W64) (i : Nat) (hi : i < 32) :
    (c.setSr rd v).sr i = if i = rd ∧ i ≠ 0 then v else c.sr i := by
  unfold CellSt.setSr CellSt.sr
  by_cases h0 : i = 0
  · simp [h0]
  · by_cases hr : rd = 0
    · have : ¬ i = rd := by omega
      simp [h0, hr]
    · by_cases e : i = rd
      · subst e; simp [h0, List.getD_eq_getElem?_getD, h, hi]
      · simp [h0, hr, e, List.getD_eq_getElem?_getD, Ne.symm e]

end Sys2Proof.Machine
end

