-- ==== Sys2Proof/Laws/PerInstr.lean ====
section
/-!
SUPPORT. The per-command family `WellFormed`: the Naela port that a well-formed command names is one of P0 to P17
(R270), one lemma per constructor.
-/

/-- A well-formed command names no Naela port beyond P17 (R270). -/
def Sys2Proof.Laws.WellFormed.Statement (i : Sys2Proof.Instr) : Prop :=
  i.wf = true → ∀ p, i.portNamed = some p → p < 18

namespace Sys2Proof.Laws.WellFormed
open Sys2Proof

/-- A command that names no port meets the statement. -/
theorem of_none {i : Instr} (hi : i.portNamed = none) : Statement i := by
  intro _ p hp; rw [hi] at hp; cases hp

/-- A command that names the port its well-formedness bounds meets the statement. -/
theorem of_some {i : Instr} {q : Nat} (hi : i.portNamed = some q) (hw : i.wf = true → q < 18) : Statement i := by
  intro h p hp; rw [hi] at hp; cases hp; exact hw h

theorem hsEnAssert (v0 : Int) : Statement (.hsEnAssert v0) := of_none rfl
theorem frontEndOn : Statement (.frontEndOn) := of_none rfl
theorem hsEnDeassert : Statement (.hsEnDeassert) := of_none rfl
theorem seatSenseOpen : Statement (.seatSenseOpen) := of_none rfl
theorem inputMeasurement (v0 : Int) (v1 : Nat) (v2 : Nat) : Statement (.inputMeasurement v0 v1 v2) := of_none rfl
theorem bladePairFault (v0 : Bool) (v1 : Nat) : Statement (.bladePairFault v0 v1) := of_none rfl
theorem busSag : Statement (.busSag) := of_none rfl
theorem busSagRecover : Statement (.busSagRecover) := of_none rfl
theorem castOnStep (v0 : StepReport) : Statement (.castOnStep v0) := of_none rfl
theorem castOnStepHang (v0 : Option Defect) : Statement (.castOnStepHang v0) := of_none rfl
theorem journalWatchdog : Statement (.journalWatchdog) := of_none rfl
theorem rowMark : Statement (.rowMark) := of_none rfl
theorem runStart : Statement (.runStart) := of_none rfl
theorem rowClose (v0 : List Localisation) : Statement (.rowClose v0) := of_none rfl
theorem rowUndoDone : Statement (.rowUndoDone) := of_none rfl
theorem rowHang : Statement (.rowHang) := of_none rfl
theorem checkAlarm (v0 : Alarm) : Statement (.checkAlarm v0) := of_none rfl
theorem cellHeartbeat (v0 : Nat) (v1 : Nat) : Statement (.cellHeartbeat v0 v1) := of_none rfl
theorem cellLost (v0 : Nat) (v1 : Nat) : Statement (.cellLost v0 v1) := of_none rfl
theorem regionHeartbeatLost (v0 : Nat) : Statement (.regionHeartbeatLost v0) := of_none rfl
theorem syncNetDisagree (v0 : Option Nat) : Statement (.syncNetDisagree v0) := of_none rfl
theorem controllerSwitch : Statement (.controllerSwitch) := of_none rfl
theorem sequencerIssue (v0 : Nat) (v1 : Nat) : Statement (.sequencerIssue v0 v1) := of_none rfl
theorem descriptorStart (v0 : Nat) (v1 : Nat) (v2 : UnitId) : Statement (.descriptorStart v0 v1 v2) := of_none rfl
theorem descriptorComplete (v0 : Nat) (v1 : Nat) (v2 : UnitId) (v3 : Nat) : Statement (.descriptorComplete v0 v1 v2 v3) :=
  of_none rfl
theorem matWload (v0 : Nat) (v1 : Nat) (v2 : Desc) : Statement (.matWload v0 v1 v2) := of_none rfl
theorem matStream (v0 : Nat) (v1 : Nat) (v2 : Desc) : Statement (.matStream v0 v1 v2) := of_none rfl
theorem matDrain (v0 : Nat) (v1 : Nat) (v2 : Desc) : Statement (.matDrain v0 v1 v2) := of_none rfl
theorem matGauge (v0 : Nat) (v1 : Nat) (v2 : Desc) : Statement (.matGauge v0 v1 v2) := of_none rfl
theorem matGcombine (v0 : Nat) (v1 : Nat) (v2 : Desc) : Statement (.matGcombine v0 v1 v2) := of_none rfl
theorem vecAdd (v0 : Nat) (v1 : Nat) (v2 : Desc) : Statement (.vecAdd v0 v1 v2) := of_none rfl
theorem vecSub (v0 : Nat) (v1 : Nat) (v2 : Desc) : Statement (.vecSub v0 v1 v2) := of_none rfl
theorem vecMul (v0 : Nat) (v1 : Nat) (v2 : Desc) : Statement (.vecMul v0 v1 v2) := of_none rfl
theorem vecFma (v0 : Nat) (v1 : Nat) (v2 : Desc) : Statement (.vecFma v0 v1 v2) := of_none rfl
theorem vecDiv (v0 : Nat) (v1 : Nat) (v2 : Desc) : Statement (.vecDiv v0 v1 v2) := of_none rfl
theorem vecSqrt (v0 : Nat) (v1 : Nat) (v2 : Desc) : Statement (.vecSqrt v0 v1 v2) := of_none rfl
theorem vecMin (v0 : Nat) (v1 : Nat) (v2 : Desc) : Statement (.vecMin v0 v1 v2) := of_none rfl
theorem vecMax (v0 : Nat) (v1 : Nat) (v2 : Desc) : Statement (.vecMax v0 v1 v2) := of_none rfl
theorem vecCmp (v0 : Nat) (v1 : Nat) (v2 : Desc) : Statement (.vecCmp v0 v1 v2) := of_none rfl
theorem vecSelect (v0 : Nat) (v1 : Nat) (v2 : Desc) : Statement (.vecSelect v0 v1 v2) := of_none rfl
theorem vecAnd (v0 : Nat) (v1 : Nat) (v2 : Desc) : Statement (.vecAnd v0 v1 v2) := of_none rfl
theorem vecOr (v0 : Nat) (v1 : Nat) (v2 : Desc) : Statement (.vecOr v0 v1 v2) := of_none rfl
theorem vecXor (v0 : Nat) (v1 : Nat) (v2 : Desc) : Statement (.vecXor v0 v1 v2) := of_none rfl
theorem vecConvert (v0 : Nat) (v1 : Nat) (v2 : Desc) : Statement (.vecConvert v0 v1 v2) := of_none rfl
theorem vecSum (v0 : Nat) (v1 : Nat) (v2 : Desc) : Statement (.vecSum v0 v1 v2) := of_none rfl
theorem vecRmax (v0 : Nat) (v1 : Nat) (v2 : Desc) : Statement (.vecRmax v0 v1 v2) := of_none rfl
theorem vecRmin (v0 : Nat) (v1 : Nat) (v2 : Desc) : Statement (.vecRmin v0 v1 v2) := of_none rfl
theorem vecArgmax (v0 : Nat) (v1 : Nat) (v2 : Desc) : Statement (.vecArgmax v0 v1 v2) := of_none rfl
theorem vecArgmin (v0 : Nat) (v1 : Nat) (v2 : Desc) : Statement (.vecArgmin v0 v1 v2) := of_none rfl
theorem vecExp (v0 : Nat) (v1 : Nat) (v2 : Desc) : Statement (.vecExp v0 v1 v2) := of_none rfl
theorem vecLog (v0 : Nat) (v1 : Nat) (v2 : Desc) : Statement (.vecLog v0 v1 v2) := of_none rfl
theorem vecRecip (v0 : Nat) (v1 : Nat) (v2 : Desc) : Statement (.vecRecip v0 v1 v2) := of_none rfl
theorem vecRsqrt (v0 : Nat) (v1 : Nat) (v2 : Desc) : Statement (.vecRsqrt v0 v1 v2) := of_none rfl
theorem vecTanh (v0 : Nat) (v1 : Nat) (v2 : Desc) : Statement (.vecTanh v0 v1 v2) := of_none rfl
theorem vecSigmoid (v0 : Nat) (v1 : Nat) (v2 : Desc) : Statement (.vecSigmoid v0 v1 v2) := of_none rfl
theorem vecErf (v0 : Nat) (v1 : Nat) (v2 : Desc) : Statement (.vecErf v0 v1 v2) := of_none rfl
theorem vecPhilox (v0 : Nat) (v1 : Nat) (v2 : Desc) : Statement (.vecPhilox v0 v1 v2) := of_none rfl
theorem vecSort (v0 : Nat) (v1 : Nat) (v2 : Desc) : Statement (.vecSort v0 v1 v2) := of_none rfl
theorem vecTopk (v0 : Nat) (v1 : Nat) (v2 : Desc) : Statement (.vecTopk v0 v1 v2) := of_none rfl
theorem movCopy (v0 : Nat) (v1 : Nat) (v2 : Desc) : Statement (.movCopy v0 v1 v2) := of_none rfl
theorem movPermute (v0 : Nat) (v1 : Nat) (v2 : Desc) : Statement (.movPermute v0 v1 v2) := of_none rfl
theorem movGather (v0 : Nat) (v1 : Nat) (v2 : Desc) : Statement (.movGather v0 v1 v2) := of_none rfl
theorem movScatter (v0 : Nat) (v1 : Nat) (v2 : Desc) : Statement (.movScatter v0 v1 v2) := of_none rfl
theorem movScatterAdd (v0 : Nat) (v1 : Nat) (v2 : Desc) : Statement (.movScatterAdd v0 v1 v2) := of_none rfl
theorem movReshard (v0 : Nat) (v1 : Nat) (v2 : Desc) : Statement (.movReshard v0 v1 v2) := of_none rfl
theorem synSend (v0 : Nat) (v1 : Nat) (v2 : Desc) : Statement (.synSend v0 v1 v2) := of_none rfl
theorem synRecv (v0 : Nat) (v1 : Nat) (v2 : Desc) : Statement (.synRecv v0 v1 v2) := of_none rfl
theorem synRecvadd (v0 : Nat) (v1 : Nat) (v2 : Desc) : Statement (.synRecvadd v0 v1 v2) := of_none rfl
theorem synBarrier (v0 : Nat) (v1 : Nat) (v2 : Desc) : Statement (.synBarrier v0 v1 v2) := of_none rfl
theorem barrierRelease (v0 : Nat) (v1 : Nat) : Statement (.barrierRelease v0 v1) := of_none rfl
theorem synWaitmark (v0 : Nat) (v1 : Nat) (v2 : Desc) : Statement (.synWaitmark v0 v1 v2) := of_none rfl
theorem chkInsert (v0 : Nat) (v1 : Nat) (v2 : Desc) : Statement (.chkInsert v0 v1 v2) := of_none rfl
theorem chkVerify (v0 : Nat) (v1 : Nat) (v2 : Desc) : Statement (.chkVerify v0 v1 v2) := of_none rfl
theorem updJob (v0 : Nat) (v1 : Nat) (v2 : Desc) : Statement (.updJob v0 v1 v2) := of_none rfl
theorem hntHeavy (v0 : Nat) (v1 : Nat) (v2 : Desc) : Statement (.hntHeavy v0 v1 v2) := of_none rfl
theorem smpSample (v0 : Nat) (v1 : Nat) (v2 : Desc) : Statement (.smpSample v0 v1 v2) := of_none rfl
theorem ctlNop (v0 : Nat) (v1 : Nat) (v2 : Desc) : Statement (.ctlNop v0 v1 v2) := of_none rfl
theorem ctlEnd (v0 : Nat) (v1 : Nat) (v2 : Desc) : Statement (.ctlEnd v0 v1 v2) := of_none rfl
theorem ctlLi (v0 : Nat) (v1 : Nat) (v2 : Desc) : Statement (.ctlLi v0 v1 v2) := of_none rfl
theorem ctlAdd (v0 : Nat) (v1 : Nat) (v2 : Desc) : Statement (.ctlAdd v0 v1 v2) := of_none rfl
theorem ctlSub (v0 : Nat) (v1 : Nat) (v2 : Desc) : Statement (.ctlSub v0 v1 v2) := of_none rfl
theorem ctlMul (v0 : Nat) (v1 : Nat) (v2 : Desc) : Statement (.ctlMul v0 v1 v2) := of_none rfl
theorem ctlAnd (v0 : Nat) (v1 : Nat) (v2 : Desc) : Statement (.ctlAnd v0 v1 v2) := of_none rfl
theorem ctlOr (v0 : Nat) (v1 : Nat) (v2 : Desc) : Statement (.ctlOr v0 v1 v2) := of_none rfl
theorem ctlXor (v0 : Nat) (v1 : Nat) (v2 : Desc) : Statement (.ctlXor v0 v1 v2) := of_none rfl
theorem ctlShl (v0 : Nat) (v1 : Nat) (v2 : Desc) : Statement (.ctlShl v0 v1 v2) := of_none rfl
theorem ctlShr (v0 : Nat) (v1 : Nat) (v2 : Desc) : Statement (.ctlShr v0 v1 v2) := of_none rfl
theorem ctlSra (v0 : Nat) (v1 : Nat) (v2 : Desc) : Statement (.ctlSra v0 v1 v2) := of_none rfl
theorem ctlAddi (v0 : Nat) (v1 : Nat) (v2 : Desc) : Statement (.ctlAddi v0 v1 v2) := of_none rfl
theorem ctlMin (v0 : Nat) (v1 : Nat) (v2 : Desc) : Statement (.ctlMin v0 v1 v2) := of_none rfl
theorem ctlMax (v0 : Nat) (v1 : Nat) (v2 : Desc) : Statement (.ctlMax v0 v1 v2) := of_none rfl
theorem ctlCmp (v0 : Nat) (v1 : Nat) (v2 : Desc) : Statement (.ctlCmp v0 v1 v2) := of_none rfl
theorem ctlCmpi (v0 : Nat) (v1 : Nat) (v2 : Desc) : Statement (.ctlCmpi v0 v1 v2) := of_none rfl
theorem ctlBr (v0 : Nat) (v1 : Nat) (v2 : Desc) : Statement (.ctlBr v0 v1 v2) := of_none rfl
theorem ctlJmp (v0 : Nat) (v1 : Nat) (v2 : Desc) : Statement (.ctlJmp v0 v1 v2) := of_none rfl
theorem ctlLoop (v0 : Nat) (v1 : Nat) (v2 : Desc) : Statement (.ctlLoop v0 v1 v2) := of_none rfl
theorem ctlCall (v0 : Nat) (v1 : Nat) (v2 : Desc) : Statement (.ctlCall v0 v1 v2) := of_none rfl
theorem ctlRet (v0 : Nat) (v1 : Nat) (v2 : Desc) : Statement (.ctlRet v0 v1 v2) := of_none rfl
theorem ctlLd (v0 : Nat) (v1 : Nat) (v2 : Desc) : Statement (.ctlLd v0 v1 v2) := of_none rfl
theorem ctlSt (v0 : Nat) (v1 : Nat) (v2 : Desc) : Statement (.ctlSt v0 v1 v2) := of_none rfl
theorem hbmWrite (v0 : HbmWriter) (v1 : Nat) (v2 : Bytes) : Statement (.hbmWrite v0 v1 v2) := of_none rfl
theorem updJobStart (v0 : Nat) : Statement (.updJobStart v0) := of_none rfl
theorem updJobDone (v0 : Nat) : Statement (.updJobDone v0) := of_none rfl
theorem looseRead (v0 : Nat) (v1 : Nat) (v2 : Nat) (v3 : Nat) : Statement (.looseRead v0 v1 v2 v3) := of_none rfl
theorem looseWrite (v0 : Nat) (v1 : Nat) (v2 : Nat) (v3 : Bytes) : Statement (.looseWrite v0 v1 v2 v3) :=
  of_none rfl
theorem looseResponse (v0 : Nat) (v1 : Nat) : Statement (.looseResponse v0 v1) := of_none rfl
theorem mergeEntryExpire (v0 : Nat) (v1 : Nat) (v2 : Nat) : Statement (.mergeEntryExpire v0 v1 v2) := of_none rfl
theorem mergeHoldExpire (v0 : Nat) (v1 : Nat) (v2 : Nat) : Statement (.mergeHoldExpire v0 v1 v2) := of_none rfl
theorem flitReceive (v0 : LinkId) (v1 : Bool) (v2 : List Nat) : Statement (.flitReceive v0 v1 v2) := of_none rfl
theorem scratchpadScrub (v0 : Nat) (v1 : Nat) (v2 : Nat) (v3 : EccOutcome) : Statement (.scratchpadScrub v0 v1 v2 v3) :=
  of_none rfl
theorem hbmPatrolScrub (v0 : Nat) (v1 : EccOutcome) : Statement (.hbmPatrolScrub v0 v1) := of_none rfl
theorem cellDarning (v0 : Nat) : Statement (.cellDarning v0) := of_none rfl
theorem regionDarning (v0 : Bool) (v1 : Nat) : Statement (.regionDarning v0 v1) := of_none rfl
theorem darningComplete : Statement (.darningComplete) := of_none rfl
theorem darningRestart (v0 : Defect) : Statement (.darningRestart v0) := of_none rfl
theorem hbmStackFail (v0 : Nat) (v1 : Nat) : Statement (.hbmStackFail v0 v1) := of_none rfl
theorem wasteYarnSwatch (v0 : Defect) (v1 : Bool) : Statement (.wasteYarnSwatch v0 v1) := of_none rfl
theorem suspectSwatch (v0 : Nat) (v1 : Bool) : Statement (.suspectSwatch v0 v1) := of_none rfl
theorem verdictEarlyFail (v0 : VerdictMsg) : Statement (.verdictEarlyFail v0) := of_none rfl
theorem verdictSubtree (v0 : VerdictMsg) (v1 : Bool) : Statement (.verdictSubtree v0 v1) := of_none rfl
theorem verdictGroup (v0 : VerdictMsg) (v1 : Bool) : Statement (.verdictGroup v0 v1) := of_none rfl
theorem verdictUndone (v0 : VerdictMsg) : Statement (.verdictUndone v0) := of_none rfl
theorem verdictReplay (v0 : VerdictMsg) : Statement (.verdictReplay v0) := of_none rfl
theorem droopDetect (v0 : Nat) (v1 : Nat) : Statement (.droopDetect v0 v1) := of_none rfl
theorem droopEnd (v0 : Nat) : Statement (.droopEnd v0) := of_none rfl
theorem shuntClamp (v0 : Nat) (v1 : Nat) : Statement (.shuntClamp v0 v1) := of_none rfl
theorem replicaPathWarning (v0 : Nat) (v1 : Nat) : Statement (.replicaPathWarning v0 v1) := of_none rfl
theorem slowLoopStep (v0 : Nat) (v1 : Bool) : Statement (.slowLoopStep v0 v1) := of_none rfl
theorem guardBandExpire (v0 : Nat) : Statement (.guardBandExpire v0) := of_none rfl
theorem regulatorPhaseLoss (v0 : Nat) (v1 : Nat) : Statement (.regulatorPhaseLoss v0 v1) := of_none rfl
theorem converterPhaseFail (v0 : Nat) (v1 : Nat) : Statement (.converterPhaseFail v0 v1) := of_none rfl
theorem regionRailSample (v0 : Nat) (v1 : Nat) (v2 : Nat) : Statement (.regionRailSample v0 v1 v2) := of_none rfl
theorem regionShort (v0 : Nat) : Statement (.regionShort v0) := of_none rfl
theorem efuseOpen (v0 : Nat) : Statement (.efuseOpen v0) := of_none rfl
theorem capShareUpdate (v0 : Nat) (v1 : Nat) (v2 : Nat) : Statement (.capShareUpdate v0 v1 v2) := of_none rfl
theorem capLoopUpdate (v0 : Nat) (v1 : Nat) : Statement (.capLoopUpdate v0 v1) := of_none rfl
theorem bubbleLoopUpdate (v0 : Nat) (v1 : Nat) : Statement (.bubbleLoopUpdate v0 v1) := of_none rfl
theorem capUnattainable : Statement (.capUnattainable) := of_none rfl
theorem slopeCeilingUpdate (v0 : Nat) (v1 : Nat) (v2 : Nat) : Statement (.slopeCeilingUpdate v0 v1 v2) :=
  of_none rfl
theorem floorTargetUpdate (v0 : Nat) (v1 : Nat) (v2 : Nat) (v3 : Nat) : Statement (.floorTargetUpdate v0 v1 v2 v3) :=
  of_none rfl
theorem rampGovernorStep (v0 : Nat) (v1 : Bool) : Statement (.rampGovernorStep v0 v1) := of_none rfl
theorem lookaheadRaise (v0 : Nat) (v1 : Nat) : Statement (.lookaheadRaise v0 v1) := of_none rfl
theorem preRamp : Statement (.preRamp) := of_none rfl
theorem junctionSensorRead (v0 : Nat) (v1 : Nat) (v2 : Nat) (v3 : Nat) (v4 : Nat) : Statement (.junctionSensorRead v0 v1 v2 v3 v4) :=
  of_none rfl
theorem sensorFailed (v0 : Nat) (v1 : Nat) : Statement (.sensorFailed v0 v1) := of_none rfl
theorem hbmTempRead (v0 : Nat) : Statement (.hbmTempRead v0) := of_none rfl
theorem coolantReading (v0 : Nat) (v1 : Int) (v2 : Int) (v3 : Bool) : Statement (.coolantReading v0 v1 v2 v3) :=
  of_none rfl
theorem safeEntry (v0 : Nat) : Statement (.safeEntry v0) := of_none rfl
theorem referenceLoss : Statement (.referenceLoss) := of_none rfl
theorem blockPllLoss (v0 : Nat) : Statement (.blockPllLoss v0) := of_none rfl
theorem referenceInputSwitch (v0 : Nat) (v1 : Nat) : Statement (.referenceInputSwitch v0 v1) := of_none rfl
theorem timeBeacon (v0 : Nat) (v1 : Int) : Statement (.timeBeacon v0 v1) := of_none rfl
theorem ppsEdge : Statement (.ppsEdge) := of_none rfl
theorem ref10mValid : Statement (.ref10mValid) := of_none rfl
theorem timeSourceInvalid : Statement (.timeSourceInvalid) := of_none rfl
theorem timeExchange (v0 : Nat) (v1 : Nat) (v2 : Nat) (v3 : Nat) (v4 : Nat) : Statement (.timeExchange v0 v1 v2 v3 v4) :=
  of_some rfl fun h => of_decide_eq_true h
theorem timeMasterLoss : Statement (.timeMasterLoss) := of_none rfl
theorem naelaFrame (v0 : Nat) (v1 : Bytes) : Statement (.naelaFrame v0 v1) :=
  of_some rfl fun h => of_decide_eq_true ((Bool.and_eq_true _ _).mp h).1
theorem retryRequest (v0 : Nat) (v1 : Nat) : Statement (.retryRequest v0 v1) :=
  of_some rfl fun h => of_decide_eq_true h
theorem frameRetryTimeout (v0 : Nat) : Statement (.frameRetryTimeout v0) := of_some rfl fun h => of_decide_eq_true h
theorem data (v0 : Nat) (v1 : Bytes) : Statement (.data v0 v1) := of_some rfl fun h => of_decide_eq_true h
theorem collective (v0 : Nat) (v1 : Bytes) : Statement (.collective v0 v1) :=
  of_some rfl fun h => of_decide_eq_true h
theorem ack (v0 : Nat) (v1 : Bytes) : Statement (.ack v0 v1) := of_some rfl fun h => of_decide_eq_true h
theorem messageResendTimeout (v0 : Nat) (v1 : Nat) : Statement (.messageResendTimeout v0 v1) := of_none rfl
theorem barrier (v0 : Nat) (v1 : Bytes) : Statement (.barrier v0 v1) := of_some rfl fun h => of_decide_eq_true h
theorem time (v0 : Nat) (v1 : Bytes) : Statement (.time v0 v1) := of_some rfl fun h => of_decide_eq_true h
theorem power (v0 : Nat) (v1 : Bytes) : Statement (.power v0 v1) := of_some rfl fun h => of_decide_eq_true h
theorem negotiate (v0 : Nat) (v1 : Bytes) : Statement (.negotiate v0 v1) := of_some rfl fun h => of_decide_eq_true h
theorem route (v0 : Nat) (v1 : Bytes) : Statement (.route v0 v1) := of_some rfl fun h => of_decide_eq_true h
theorem portPresence (v0 : Nat) (v1 : Bool) : Statement (.portPresence v0 v1) :=
  of_some rfl fun h => of_decide_eq_true h
theorem portTrained (v0 : Nat) (v1 : Bool) (v2 : Nat) : Statement (.portTrained v0 v1 v2) :=
  of_some rfl fun h => of_decide_eq_true h
theorem linkTestDone (v0 : Nat) (v1 : Bool) : Statement (.linkTestDone v0 v1) :=
  of_some rfl fun h => of_decide_eq_true h
theorem laneFailure (v0 : Nat) (v1 : Nat) : Statement (.laneFailure v0 v1) :=
  of_some rfl fun h => of_decide_eq_true ((Bool.and_eq_true _ _).mp h).1
theorem lossOfSignal (v0 : Nat) (v1 : Nat) : Statement (.lossOfSignal v0 v1) :=
  of_some rfl fun h => of_decide_eq_true ((Bool.and_eq_true _ _).mp h).1
theorem presenceDeassert (v0 : Nat) : Statement (.presenceDeassert v0) := of_some rfl fun h => of_decide_eq_true h
theorem quiesceDrained (v0 : Nat) : Statement (.quiesceDrained v0) := of_some rfl fun h => of_decide_eq_true h
theorem sqtailDoorbell (v0 : Nat) (v1 : Nat) : Statement (.sqtailDoorbell v0 v1) := of_none rfl
theorem cqheadDoorbell (v0 : Nat) (v1 : Nat) : Statement (.cqheadDoorbell v0 v1) := of_none rfl
theorem queueEnable (v0 : Nat) : Statement (.queueEnable v0) := of_none rfl
theorem queueDisable (v0 : Nat) : Statement (.queueDisable v0) := of_none rfl
theorem commandFetch : Statement (.commandFetch) := of_none rfl
theorem msixCoalesceTimeout (v0 : Nat) : Statement (.msixCoalesceTimeout v0) := of_none rfl
theorem loadPattern (v0 : Nat) (v1 : Bytes) : Statement (.loadPattern v0 v1) := of_none rfl
theorem patternUnload (v0 : Nat) (v1 : Bytes) : Statement (.patternUnload v0 v1) := of_none rfl
theorem runPattern (v0 : Nat) (v1 : Bytes) : Statement (.runPattern v0 v1) := of_none rfl
theorem reshard (v0 : Nat) (v1 : Bytes) : Statement (.reshard v0 v1) := of_none rfl
theorem copy (v0 : Nat) (v1 : Bytes) : Statement (.copy v0 v1) := of_none rfl
theorem openSession (v0 : Nat) (v1 : Bytes) : Statement (.openSession v0 v1) := of_none rfl
theorem advance (v0 : Nat) (v1 : Bytes) : Statement (.advance v0 v1) := of_none rfl
theorem advanceAdmission (v0 : Nat) : Statement (.advanceAdmission v0) := of_none rfl
theorem closeSession (v0 : Nat) (v1 : Bytes) : Statement (.closeSession v0 v1) := of_none rfl
theorem hint (v0 : Nat) (v1 : Bytes) : Statement (.hint v0 v1) := of_none rfl
theorem fence (v0 : Nat) (v1 : Bytes) : Statement (.fence v0 v1) := of_none rfl
theorem readReceipt (v0 : Nat) (v1 : Bytes) : Statement (.readReceipt v0 v1) := of_none rfl
theorem readSignatures (v0 : Nat) (v1 : Bytes) : Statement (.readSignatures v0 v1) := of_none rfl
theorem hostMemRead (v0 : Nat) (v1 : Nat) : Statement (.hostMemRead v0 v1) := of_none rfl
theorem hostMemWrite (v0 : Nat) (v1 : Bytes) : Statement (.hostMemWrite v0 v1) := of_none rfl
theorem birsp (v0 : Nat) : Statement (.birsp v0) := of_none rfl
theorem perstAssert : Statement (.perstAssert) := of_none rfl
theorem cxlLinkTrain (v0 : Bool) (v1 : Bool) (v2 : Nat) (v3 : Bool) : Statement (.cxlLinkTrain v0 v1 v2 v3) :=
  of_none rfl
theorem bar2Read (v0 : Nat) (v1 : Nat) (v2 : Nat) (v3 : Nat) : Statement (.bar2Read v0 v1 v2 v3) := of_none rfl
theorem bar2Write (v0 : Nat) (v1 : Nat) (v2 : Nat) (v3 : Nat) (v4 : Bytes) : Statement (.bar2Write v0 v1 v2 v3 v4) :=
  of_none rfl
theorem usdoTransfer (v0 : Bool) (v1 : Nat) (v2 : Nat) (v3 : Bytes) : Statement (.usdoTransfer v0 v1 v2 v3) :=
  of_none rfl
theorem objectWrite (v0 : Origin) (v1 : Nat) (v2 : Nat) (v3 : Bytes) : Statement (.objectWrite v0 v1 v2 v3) :=
  of_none rfl
theorem nmtStop (v0 : Bool) : Statement (.nmtStop v0) := of_none rfl
theorem nmtReset (v0 : Bool) : Statement (.nmtReset v0) := of_none rfl
theorem canHeartbeat : Statement (.canHeartbeat) := of_none rfl
theorem statusFrame : Statement (.statusFrame) := of_none rfl
theorem run (v0 : Origin) : Statement (.run v0) := of_none rfl
theorem hold (v0 : Origin) : Statement (.hold v0) := of_none rfl
theorem bindReady (v0 : Origin) : Statement (.bindReady v0) := of_none rfl
theorem bindRemove (v0 : Origin) : Statement (.bindRemove v0) := of_none rfl
theorem restart (v0 : Origin) : Statement (.restart v0) := of_none rfl
theorem serviceToken (v0 : Origin) (v1 : Bytes) : Statement (.serviceToken v0 v1) := of_none rfl
theorem tokenLapse (v0 : Origin) : Statement (.tokenLapse v0) := of_none rfl
theorem close (v0 : Origin) : Statement (.close v0) := of_none rfl
theorem remove (v0 : Origin) (v1 : Nat) : Statement (.remove v0 v1) := of_none rfl
theorem suspectListWrite (v0 : Origin) (v1 : Bytes) : Statement (.suspectListWrite v0 v1) := of_none rfl
theorem ppssetWrite (v0 : Origin) (v1 : Nat) : Statement (.ppssetWrite v0 v1) := of_none rfl
theorem quiesce (v0 : Origin) (v1 : Nat) (v2 : Nat) : Statement (.quiesce v0 v1 v2) := of_none rfl
theorem logStreamRead (v0 : Origin) (v1 : Nat) : Statement (.logStreamRead v0 v1) := of_none rfl
theorem signatureStreamRead (v0 : Origin) (v1 : Nat) : Statement (.signatureStreamRead v0 v1) := of_none rfl
theorem changeLogFlush : Statement (.changeLogFlush) := of_none rfl
theorem verify (v0 : Origin) : Statement (.verify v0) := of_none rfl
theorem activate (v0 : Origin) : Statement (.activate v0) := of_none rfl
theorem rollback (v0 : Origin) : Statement (.rollback v0) := of_none rfl
theorem commit (v0 : Origin) : Statement (.commit v0) := of_none rfl
theorem imageWrite (v0 : Origin) (v1 : Nat) (v2 : Bytes) : Statement (.imageWrite v0 v1 v2) := of_none rfl
theorem keySlotProgram (v0 : Origin) (v1 : Bytes) : Statement (.keySlotProgram v0 v1) := of_none rfl
theorem keySlotRevoke (v0 : Origin) (v1 : Bytes) : Statement (.keySlotRevoke v0 v1) := of_none rfl
theorem sysflWrite (v0 : Origin) (v1 : Nat) : Statement (.sysflWrite v0 v1) := of_none rfl
theorem getVersion (v0 : Nat) : Statement (.getVersion v0) := of_none rfl
theorem getCapabilities (v0 : Nat) : Statement (.getCapabilities v0) := of_none rfl
theorem negotiateAlgorithms (v0 : Nat) (v1 : Nat) (v2 : Nat) : Statement (.negotiateAlgorithms v0 v1 v2) :=
  of_none rfl
theorem getDigests (v0 : Nat) : Statement (.getDigests v0) := of_none rfl
theorem getCertificate (v0 : Nat) (v1 : Nat) (v2 : Nat) (v3 : Nat) : Statement (.getCertificate v0 v1 v2 v3) :=
  of_none rfl
theorem challenge (v0 : Nat) (v1 : Nat) (v2 : Bytes) : Statement (.challenge v0 v1 v2) := of_none rfl
theorem getMeasurements (v0 : Nat) (v1 : Nat) (v2 : Nat) (v3 : Bool) (v4 : Bytes) : Statement (.getMeasurements v0 v1 v2 v3 v4) :=
  of_none rfl
theorem tapInstruction (v0 : Nat) : Statement (.tapInstruction v0) := of_none rfl
theorem releasePress (v0 : Nat) : Statement (.releasePress v0) := of_none rfl
theorem cagePadTouch (v0 : Nat) (v1 : Nat) : Statement (.cagePadTouch v0 v1) :=
  of_some rfl fun h => of_decide_eq_true h
theorem attentionTouch : Statement (.attentionTouch) := of_none rfl
theorem displayPageTimeout : Statement (.displayPageTimeout) := of_none rfl
theorem displayMessageTimeout : Statement (.displayMessageTimeout) := of_none rfl
theorem consoleRead (v0 : Nat) (v1 : Nat) : Statement (.consoleRead v0 v1) := of_none rfl
theorem consoleReadDomain (v0 : Nat) (v1 : Nat) (v2 : Nat) (v3 : Nat) : Statement (.consoleReadDomain v0 v1 v2 v3) :=
  of_none rfl
theorem consoleWrite (v0 : Nat) (v1 : Nat) (v2 : Nat) : Statement (.consoleWrite v0 v1 v2) := of_none rfl
theorem consoleWriteDomain (v0 : Nat) (v1 : Nat) (v2 : Nat) (v3 : Bytes) : Statement (.consoleWriteDomain v0 v1 v2 v3) :=
  of_none rfl
theorem consoleRemove : Statement (.consoleRemove) := of_none rfl
theorem consoleLog : Statement (.consoleLog) := of_none rfl
theorem consoleHelp : Statement (.consoleHelp) := of_none rfl
theorem outputDigestComplete : Statement (.outputDigestComplete) := of_none rfl
theorem pageZeroingDone (v0 : Nat) : Statement (.pageZeroingDone v0) := of_none rfl
theorem queueRegisterWrite (v0 : Nat) (v1 : Nat) (v2 : Nat) : Statement (.queueRegisterWrite v0 v1 v2) :=
  of_none rfl

end Sys2Proof.Laws.WellFormed
end

