-- ==== Sys2Proof/Laws/Rsa.lean ====
section
/-!
SUPPORT. The signature check of R452 can be met: under a modulus of small primes, whose roots are known, every message has a signature
that verifies. Witnesses of statements about accepted records use it.
-/
namespace Sys2Proof

/-! ### Big-endian numbers -/

theorem ofBe_eq (bs : Bytes) : ofBe bs = ofLe bs.reverse := by
  have key : ∀ (bs : Bytes), ofLe bs.reverse = bs.foldl (fun a b => a * 256 + b.toNat) 0 := by
    intro bs
    induction bs using List.reverseRecOn with
    | nil => rfl
    | append_singleton l b ih =>
      rw [List.reverse_append, List.foldl_append, ← ih]
      simp [ofLe]; omega
  exact (key bs).symm

theorem ofBe_be (n v : Nat) : ofBe (be n v) = v % 256 ^ n := by rw [ofBe_eq, be, List.reverse_reverse, ofLe_le]

@[simp] theorem length_be (n v : Nat) : (be n v).length = n := by simp [be]

theorem le_ofLe (bs : Bytes) : le bs.length (ofLe bs) = bs := by
  induction bs with
  | nil => rfl
  | cons b r ih =>
    have hb := b.isLt
    have h1 : (b.toNat + 256 * ofLe r) / 256 = ofLe r := by omega
    simp only [List.length_cons, le, ofLe, h1, ih, List.cons.injEq, and_true]
    apply BitVec.eq_of_toNat_eq
    simp
    omega

theorem be_ofBe (bs : Bytes) : be bs.length (ofBe bs) = bs := by
  have h := le_ofLe bs.reverse
  rw [List.length_reverse] at h
  rw [be, ofBe_eq, h, List.reverse_reverse]

theorem ofLe_lt (bs : Bytes) : ofLe bs < 256 ^ bs.length := by
  induction bs with
  | nil => simp [ofLe]
  | cons b r ih =>
    have hb := b.isLt
    simp only [ofLe, List.length_cons, Nat.pow_succ]
    omega

/-- A big-endian number whose first byte is below 128. -/
theorem ofBe_cons_lt (b : Byte) (bs : Bytes) (h : b.toNat < 128) : ofBe (b :: bs) < 128 * 256 ^ bs.length := by
  have hr := ofLe_lt bs.reverse
  rw [ofBe_eq, List.reverse_cons]
  have key : ∀ (l : Bytes), ofLe (l ++ [b]) = ofLe l + 256 ^ l.length * b.toNat := by
    intro l
    induction l with
    | nil => simp [ofLe]
    | cons a l ih => simp only [List.cons_append, ofLe, ih, List.length_cons, Nat.pow_succ]; ring
  rw [key]
  rw [List.length_reverse] at *
  have : 256 ^ bs.length * b.toNat ≤ 256 ^ bs.length * 127 := Nat.mul_le_mul_left _ (by omega)
  omega

/-! ### SHA-512 answers 64 bytes -/

theorem length_shaStep (vs : List W64) (x : W64) (h : vs.length = 8) : (shaStep vs x).length = 8 := by
  unfold shaStep
  split
  · rfl
  · exact h

theorem length_shaSteps (win vs ks : List W64) (h : vs.length = 8) : (shaSteps win vs ks).length = 8 := by
  induction ks generalizing win vs with
  | nil => exact h
  | cons k ks ih => exact ih _ _ (length_shaStep vs _ h)

theorem length_shaFold (msg : Bytes) (n : Nat) : (shaFold msg n).length = 8 := by
  induction n with
  | zero => rfl
  | succ n ih => rw [shaFold, shaMix, List.length_zipWith, length_shaSteps _ _ _ ih, ih]; rfl

@[simp] theorem length_sha512 (b : Bytes) : (sha512 b).length = 64 := by
  have key : ∀ l : List W64, (l.flatMap (fun w => be 8 w.toNat)).length = 8 * l.length := by
    intro l
    induction l with
    | nil => rfl
    | cons a l ih => simp [List.flatMap_cons, ih]; omega
  simp only [sha512, key, length_shaFold]

theorem length_mgf1 (seed : Bytes) (n : Nat) : (mgf1 seed n).length = 64 * n := by
  induction n with
  | zero => rfl
  | succ n ih => simp [mgf1, ih]; omega

/-! ### The encoding of a message -/

theorem zipWith_xor_twice (d m : Bytes) (h : d.length = m.length) :
    List.zipWith (· ^^^ ·) (List.zipWith (· ^^^ ·) d m) m = d := by
  induction d generalizing m with
  | nil => simp
  | cons a d ih =>
    cases m with
    | nil => simp at h
    | cons b m =>
      simp only [List.zipWith_cons_cons, List.cons.injEq]
      exact ⟨by rw [BitVec.xor_assoc, BitVec.xor_self, BitVec.xor_zero], ih m (by simpa using h)⟩

/-- The data block behind its first byte: zeros, the byte 1, a salt of zeros. -/
def pssRest : Bytes := zeros 381 ++ [1] ++ zeros 64

/-- Every message has an encoding that verifies; its first byte is below 128. -/
theorem pss_exists (msg : Bytes) : ∃ (b : Byte) (r : Bytes), b.toNat < 128 ∧ r.length = 511 ∧ pssVerify msg (b :: r) = true := by
  let h := sha512 (zeros 8 ++ sha512 msg ++ zeros 64)
  have hh : h.length = 64 := length_sha512 _
  obtain ⟨m0, ms, hm⟩ : ∃ m0 ms, (mgf1 h 7).take 447 = m0 :: ms := by
    cases hc : (mgf1 h 7).take 447 with
    | nil => have := congrArg List.length hc; simp [length_mgf1] at this
    | cons a b => exact ⟨a, b, rfl⟩
  have hml : ms.length = 446 := by
    have := congrArg List.length hm
    simp [length_mgf1] at this; omega
  have hpl : pssRest.length = 446 := by simp [pssRest]
  let x := List.zipWith (· ^^^ ·) pssRest ms
  have hx : x.length = 446 := by simp [x, hpl, hml]
  refine ⟨m0 &&& 0x7F#8, x ++ h ++ [0xBC#8], ?_, by simp [hx, hh], ?_⟩
  · have : (m0 &&& 0x7F#8).toNat ≤ 127 := by rw [BitVec.toNat_and]; exact Nat.and_le_right
    omega
  · have e1 : ((m0 &&& 0x7F#8) :: (x ++ h ++ [0xBC#8])).take 447 = (m0 &&& 0x7F#8) :: x := by
      rw [List.take_succ_cons, List.append_assoc, List.take_append_of_le_length (by omega), List.take_of_length_le (by omega)]
    have e2 : slice ((m0 &&& 0x7F#8) :: (x ++ h ++ [0xBC#8])) 447 64 = h := by
      rw [slice, List.drop_succ_cons, List.append_assoc, List.drop_append_of_le_length (by omega), List.drop_of_length_le (by omega),
        List.nil_append, List.take_append_of_le_length (by omega), List.take_of_length_le (by omega)]
    have e3 : ((m0 &&& 0x7F#8) :: (x ++ h ++ [0xBC#8])).getD 511 0 = 0xBC#8 := by
      rw [List.getD_cons_succ, List.getD_append_right _ _ _ _ (by simp [hx, hh])]
      simp [hx, hh]
    have e4 : List.zipWith (· ^^^ ·) x ms = pssRest := zipWith_xor_twice _ _ (by rw [hpl, hml])
    have e5 : ((m0 &&& 0x7F#8) ^^^ m0) &&& 0x7F#8 = 0#8 := by
      apply BitVec.eq_of_getLsbD_eq
      intro i hi
      simp only [BitVec.getLsbD_and, BitVec.getLsbD_xor, BitVec.getLsbD_zero]
      cases (m0.getLsbD i) <;> cases ((0x7F#8).getLsbD i) <;> rfl
    have e6 : (m0 &&& 0x7F#8).toNat < 128 := by
      have : (m0 &&& 0x7F#8).toNat ≤ 127 := by rw [BitVec.toNat_and]; exact Nat.and_le_right
      omega
    have e7 : (0#8 :: pssRest).drop 383 = zeros 64 := by decide +kernel
    have e8 : allZero ((0#8 :: pssRest).take 382) = true := by decide +kernel
    have e9 : (0#8 :: pssRest).getD 382 0 = 1 := by decide +kernel
    unfold pssVerify
    simp only [e1, e2, e3, hm, List.zipWith_cons_cons, e4, e5, e7, e8, e9, List.getD_cons_zero]
    simp only [beq_self_eq_true, Bool.and_true, decide_eq_true e6, h]

/-! ### A modulus of small primes -/

/-- Is a number below 2,916 prime, by trial division? -/
def smallPrime (p : Nat) : Bool :=
  Nat.ble 2 p && [2, 3, 5, 7, 11, 13, 17, 19, 23, 29, 31, 37, 41, 43, 47, 53].all (fun m => Nat.blt p (m * m) || Nat.blt 0 (p % m))

theorem prime_of_smallPrime (p : Nat) (h : smallPrime p = true) (hp : p < 2916) : p.Prime := by
  simp only [smallPrime, Bool.and_eq_true, Nat.ble_eq, List.all_eq_true, Bool.or_eq_true, Nat.blt_eq] at h
  by_contra hc
  have hm := Nat.minFac_prime (n := p) (by omega)
  have hs : p.minFac * p.minFac ≤ p := by
    have := Nat.minFac_sq_le_self (n := p) (by omega) hc
    rwa [pow_two] at this
  have h54 : p.minFac < 54 := by
    by_contra hc
    have : 54 * 54 ≤ p.minFac * p.minFac := Nat.mul_le_mul (by omega) (by omega)
    omega
  have hd : p % p.minFac = 0 := Nat.mod_eq_zero_of_dvd (Nat.minFac_dvd p)
  generalize p.minFac = m at *
  have hl : m ∈ [2, 3, 5, 7, 11, 13, 17, 19, 23, 29, 31, 37, 41, 43, 47, 53] := by
    interval_cases m <;> first | decide | exact absurd hm (by norm_num)
  have := h.2 m hl
  omega

/-- The primes up to 2,897 but 223: their product has 4,096 bits. -/
def somePrimes : List Nat := (List.range 2898).filter (fun p => !(Nat.beq p 223) && smallPrime p)

theorem somePrimes_prime (p : Nat) (h : p ∈ somePrimes) : p.Prime := by
  simp only [somePrimes, List.mem_filter, List.mem_range, Bool.and_eq_true] at h
  exact prime_of_smallPrime p h.2.2 (by omega)

theorem somePrimes_coprime : somePrimes.Pairwise Nat.Coprime := by
  have h : somePrimes.Pairwise (· ≠ ·) := (List.nodup_range (n := 2898)).filter _
  exact h.imp_of_mem (fun ha hb hne => (Nat.coprime_primes (somePrimes_prime _ ha) (somePrimes_prime _ hb)).mpr hne)

/-- The product. -/
def someModulus : Nat := somePrimes.prod

/-- The inverse of 65,537 modulo p - 1 for each of the primes. -/
def someRoot : Nat := 0x1766e8f1d04d2fd22e9be2a6ed44b47fd6c62adda06861fa05bf950b826d402ac782518352051a4a3191fb3cbc94f8062691b0467430df9cd712b058edfd94e6963ec1b3cfb544b65c148ddcf45fcbd24e12de51ca9d404edf16725ae3d23bb4333973972a47bf0001

theorem someModulus_bits : 2 ^ 4095 ≤ someModulus ∧ someModulus < 2 ^ 4096 := by decide +kernel

theorem someRoot_inverse : somePrimes.all (fun p => 65537 * someRoot % (p - 1) == 1 % (p - 1)) = true := by decide +kernel

/-- Raising to the root and to 65,537 changes nothing modulo the product. -/
theorem root_power (x : Nat) : (x ^ someRoot) ^ 65537 ≡ x [MOD someModulus] := by
  rw [← pow_mul, someModulus, Nat.modEq_list_prod_iff somePrimes_coprime]
  intro i
  have hmem := somePrimes.get_mem i
  have hp := somePrimes_prime _ hmem
  have hi := List.all_eq_true.mp someRoot_inverse _ hmem
  generalize somePrimes.get i = p at *
  have : Fact p.Prime := ⟨hp⟩
  rw [beq_iff_eq, Nat.mul_comm] at hi
  rw [← ZMod.natCast_eq_natCast_iff, Nat.cast_pow]
  by_cases hx : (x : ZMod p) = 0
  · rw [hx, zero_pow (by decide +kernel)]
  · have h1 : someRoot * 65537 ≡ 1 [MOD p - 1] := hi
    have h2 := ZMod.pow_card_sub_one_eq_one hx
    have h3 : (x : ZMod p) ^ (someRoot * 65537) = (x : ZMod p) ^ 1 := pow_eq_pow_of_modEq h1 h2
    rw [h3, pow_one]

theorem sqMod_eq (n b m : Nat) : sqMod n b m = b ^ 2 ^ n % m := by
  induction n generalizing b with
  | zero => simp [sqMod]
  | succ n ih => rw [sqMod, ih, ← Nat.pow_mod, ← pow_two, ← pow_mul, ← pow_succ']

theorem rsaPublic_eq (b m : Nat) : rsaPublic b m = b ^ 65537 % m := by
  rw [rsaPublic, sqMod_eq, Nat.mod_mul_mod, ← pow_succ, show 2 ^ 16 + 1 = 65537 from rfl]

/-- Under that modulus every message has a signature that verifies. -/
theorem rsa_exists (msg : Bytes) : ∃ sig : Bytes, sig.length = 512 ∧ rsaVerify msg (be 512 someModulus) sig = true := by
  obtain ⟨b, r, hb, hr, hv⟩ := pss_exists msg
  have hN := someModulus_bits
  have h256 : (256 : Nat) ^ 512 = 2 ^ 4096 := by rw [show (256 : Nat) = 2 ^ 8 from rfl, ← pow_mul]
  have hem : ofBe (b :: r) < 2 ^ 4095 := by
    have h := ofBe_cons_lt b r hb
    have e : (128 : Nat) * 256 ^ r.length = 2 ^ 4095 := by
      rw [hr, show (256 : Nat) = 2 ^ 8 from rfl, show (128 : Nat) = 2 ^ 7 from rfl, ← pow_mul, ← pow_add]
    omega
  have hpos : 0 < someModulus := by omega
  refine ⟨be 512 ((ofBe (b :: r)) ^ someRoot % someModulus), length_be _ _, ?_⟩
  have hs : ofBe (be 512 ((ofBe (b :: r)) ^ someRoot % someModulus)) = (ofBe (b :: r)) ^ someRoot % someModulus := by
    rw [ofBe_be, Nat.mod_eq_of_lt]
    have := Nat.mod_lt ((ofBe (b :: r)) ^ someRoot) hpos
    omega
  have hn : ofBe (be 512 someModulus) = someModulus := by rw [ofBe_be, Nat.mod_eq_of_lt]; omega
  have hpub : rsaPublic ((ofBe (b :: r)) ^ someRoot % someModulus) someModulus = ofBe (b :: r) := by
    rw [rsaPublic_eq, ← Nat.pow_mod]
    have hlt : ofBe (b :: r) < someModulus := by omega
    have h := root_power (ofBe (b :: r))
    rw [Nat.ModEq, Nat.mod_eq_of_lt hlt] at h
    exact h
  have hbit : bit someModulus 4095 = true := by
    have h1 : someModulus >>> 4095 = 1 := by
      rw [Nat.shiftRight_eq_div_pow]
      apply Nat.div_eq_of_lt_le <;> omega
    simp only [bit, h1]; rfl
  have hbe : be 512 (ofBe (b :: r)) = b :: r := by
    have := be_ofBe (b :: r)
    rwa [List.length_cons, hr] at this
  simp only [rsaVerify, hs, hn, hpub, hbe, hv, hbit, length_be, beq_self_eq_true, Bool.and_true, Bool.true_and, decide_eq_true_eq]
  exact Nat.mod_lt _ hpos

end Sys2Proof
end

