-- ==== Sys2Proof/Tests/Slice0.lean ====
section
/-!
SUPPORT. Tests: ill-formed terms that each check of `Instr.wf` refuses; for each statement with hypotheses, states and operands that
meet them, clause by clause; worked examples of spec/, and small checks of one operation each.
-/
namespace Sys2Proof.Tests
open Sys2Proof Sys2Proof.Machine

set_option Elab.async false

/-! ### Small states -/

/-- The fields of a descriptor: pairs of lowest bit and value. -/
def dsc (fs : List (Nat × Nat)) : Desc := BitVec.ofNat 256 ((fs.map (fun f => f.2 * 2 ^ f.1)).foldl (· + ·) 0)

/-- The front end on, cast-on done, the module in READY between rows. -/
def onSt : State :=
  { fe := { fe := .on }, dev := .ready, start := { step3done := true, nodeId := 1, nmtUp := true }, row := { phase := .waiting } }

/-- The same in RUNNING, a row of a run open: cells run, no pattern. -/
def live : State := { onSt with dev := .running, row := { phase := .running, waste := false } }

/-- A row of waste yarn open. -/
def wasteSt : State := { onSt with dev := .running, row := { phase := .running } }

/-- A cell entry: a program of 4 descriptors at offset 0, the writable span from 0x1000 to 0x9000. -/
def ent0 : CellEntry :=
  { progOff := 0, progLen := 4, progSrc := 0, rbound := 0x1000, undoMax := 64, constOff := 0, constLen := 0, constSrc := 0
    entry := 0, wlo := 0, whi := 0x9000 }

/-- A pattern whose cell (0, 0) has that entry, with the regions, slot tables, barrier table and mapping tables given. -/
def patWith (rs : List Region) (slots bars maps : Bytes) : Pattern :=
  { addr := 0, len := 4096, digest := zeros 64, flevel := 1, phase := 0, cycles := 4096, rows := 8, voidmask := 0, cells := [ent0]
    residents := [], regions := rs, xfers := [], slotTab := slots, barrierTab := bars, mapTab := maps }

/-- A run of slot 0. -/
def run0 : RunSt := { kind := .pattern, queue := 0, cmd := zeros 128, sqhead := 1, slot := 0, rows := 8 }

/-- A row of a run of a pattern. -/
def runSt (p : Pattern) : State := { live with pats := [(0, p)], run := some run0 }

/-- Cell (0, 0) as given. -/
def withCell (s : State) (c : CellSt) : State := s.setCell 0 0 c

theorem live_cell : live.cellLive 0 0 := by unfold State.cellLive; decide +kernel

/-! ### Ill-formed terms -/

theorem test_ill_formed_cells :
    [Instr.cellHeartbeat 48 0, .cellLost 0 36, .sequencerIssue 48 0, .descriptorStart 0 36 .mat, .descriptorComplete 48 0 .vec 0,
      .matWload 48 0 0, .matDrain 0 36 0, .vecAdd 48 0 0, .vecTopk 0 36 0, .movCopy 48 0 0, .movReshard 0 36 0, .synSend 48 0 0,
      .synWaitmark 0 36 0, .chkInsert 48 0 0, .updJob 0 36 0, .hntHeavy 48 0 0, .smpSample 0 36 0, .ctlNop 48 0 0, .ctlSt 0 36 0,
      .hbmWrite (.cell 48 0) 0 [], .looseRead 48 0 0 1, .looseWrite 0 36 0 [], .looseResponse 48 0, .mergeEntryExpire 48 0 0,
      .mergeHoldExpire 0 36 0, .scratchpadScrub 56 0 0 .clean, .scratchpadScrub 0 42 0 .clean, .checkAlarm { cause := 0x10, x := 48 }].all
      (fun i => !i.wf) = true := by decide

theorem test_ill_formed_units :
    [Instr.checkAlarm { cause := 0x10, ply := 4 }, .checkAlarm { cause := 0x10, suspects := [.cell 0 36] },
      .checkAlarm { cause := 0x10, suspects := [.region 42] }, .checkAlarm { cause := 0x10, suspects := [.block 588] },
      .checkAlarm { cause := 0x10, suspects := [.slice 48] }, .checkAlarm { cause := 0x10, suspects := [.engine 48] },
      .checkAlarm { cause := 0x10, suspects := [.port 18] }, .checkAlarm { cause := 0x10, suspects := [.link (.mesh 0 0 5)] },
      .checkAlarm { cause := 0x10, suspects := [.link (.mesh 48 0 0)] }, .checkAlarm { cause := 0x10, suspects := [.link (.ring true 48)] },
      .barrierRelease 32 1, .hbmWrite (.engine 48) 0 [], .updJobStart 48, .updJobDone 48, .looseRead 0 0 0 0, .looseRead 0 0 0 17,
      .looseWrite 0 0 0 [0], .flitReceive (.ring false 48) true [], .scratchpadScrub 0 0 0x1000000 .clean,
      .hbmPatrolScrub (48 * 0x2000000000) .clean, .hbmStackFail 48 0, .suspectSwatch 42 true, .syncNetDisagree (some 42),
      .regionHeartbeatLost 42, .regionRailSample 42 0 0, .regionShort 42, .efuseOpen 42, .capLoopUpdate 42 0, .bubbleLoopUpdate 42 0,
      .slopeCeilingUpdate 42 0 0, .floorTargetUpdate 42 0 0 0, .rampGovernorStep 42 false, .timeBeacon 42 0,
      .referenceInputSwitch 42 0, .referenceInputSwitch 0 5, .droopDetect 588 0, .droopEnd 588, .shuntClamp 588 0,
      .slowLoopStep 588 false, .guardBandExpire 588, .lookaheadRaise 588 0, .junctionSensorRead 588 0 0 0 0, .blockPllLoss 588,
      .replicaPathWarning 588 0, .replicaPathWarning 0 6, .regulatorPhaseLoss 588 0, .regulatorPhaseLoss 0 8, .sensorFailed 588 0,
      .sensorFailed 0 4, .converterPhaseFail 5 0].all (fun i => !i.wf) = true := by decide

theorem test_ill_formed_defects :
    [Defect.wf { kind := 1, source := 0, region := 42 }, Defect.wf { kind := 1, source := 0, ccol := 8 },
      Defect.wf { kind := 1, source := 0, crow := 7 }, Defect.wf { kind := 2, source := 0, region := 42 },
      Defect.wf { kind := 2, source := 0, detail := 14 }, Defect.wf { kind := 3, source := 0, region := 42 },
      (Instr.darningRestart { kind := 3, source := 0, region := 42 }).wf,
      (Instr.wasteYarnSwatch { kind := 1, source := 0, ccol := 8 } true).wf].all (fun b => !b) = true := by decide

theorem test_ill_formed_ports_and_queues :
    [Instr.naelaFrame 18 (zeros 512), .naelaFrame 0 (zeros 511), .retryRequest 18 0, .frameRetryTimeout 18, .data 18 [], .collective 18 [],
      .ack 18 [], .barrier 18 [], .time 18 [], .power 18 [], .negotiate 18 [], .route 18 [], .timeExchange 18 0 0 0 0,
      .portPresence 18 true, .portTrained 18 true 16, .linkTestDone 18 true, .laneFailure 18 0, .laneFailure 0 16, .lossOfSignal 18 0,
      .lossOfSignal 0 16, .presenceDeassert 18, .quiesceDrained 18, .cagePadTouch 18 0, .quiesce .can 18 1, .sqtailDoorbell 64 0,
      .cqheadDoorbell 64 0, .queueEnable 64, .queueDisable 64, .msixCoalesceTimeout 64, .advanceAdmission 64,
      .queueRegisterWrite 64 0 0, .loadPattern 64 (zeros 128), .loadPattern 0 (zeros 127), .patternUnload 64 (zeros 128),
      .runPattern 0 (zeros 127), .reshard 64 (zeros 128), .copy 0 (zeros 127), .openSession 64 (zeros 128), .advance 0 (zeros 129),
      .closeSession 64 (zeros 128), .hint 0 (zeros 127), .fence 64 (zeros 128), .readReceipt 0 (zeros 127),
      .readSignatures 64 (zeros 128), .pageZeroingDone 8192].all (fun i => !i.wf) = true := by decide +kernel

/-! ### The hypotheses of the statements can be met: the step and CTL -/

theorem witness_EmptyQueueTicks : onSt.pending = [] ∧ onSt.fe.fe = .on ∧ onSt.time.slew = 0 ∧ State.reset.fe.fe ≠ .on := by decide

/-- TW60-G: 12 ports. -/
theorem witness_EveryCommandCompletes :
    Instr.rowMark.wf = true ∧ (∀ p, Instr.rowMark.portNamed = some p → p < onSt.portCount) ∧
    (Instr.portPresence 17 true).portNamed = some 17 ∧ 17 < onSt.portCount ∧
    (Instr.portPresence 12 true).wf = true ∧ ({ onSt with flash := { variantG := true } } : State).portCount ≤ 12 := by
  refine ⟨rfl, fun p h => ?_, rfl, by decide, rfl, by decide⟩; cases h

theorem witness_OffModuleDoesNothing :
    Instr.rowMark.wf = true ∧ State.reset.fe.fe ≠ .on ∧ (∀ v, Instr.rowMark ≠ .hsEnAssert v) ∧ Instr.rowMark ≠ .frontEndOn ∧
      Instr.rowMark ≠ .hsEnDeassert ∧ Instr.rowMark ≠ .seatSenseOpen ∧ (∀ v a b, Instr.rowMark ≠ .inputMeasurement v a b) := by
  refine ⟨rfl, by decide, fun v h => ?_, by decide, by decide, by decide, fun v a b h => ?_⟩ <;> cases h

theorem witness_CtlScalarOperations :
    live.cellLive 0 0 ∧ (live.cell 0 0).s.length = 32 ∧ (live.cell 0 0).p.length = 8 ∧ ctlCond (dsc [(159, 5)]) < 6 :=
  ⟨live_cell, by decide +kernel⟩

/-- A pattern without regions, slots, barriers, mappings. -/
def pat0 : Pattern := patWith [] [] [] []

/-- Its row, cell (0, 0) at descriptor 1 of 4 with the call stack given. -/
def progSt (stack : List Nat) : State := withCell (runSt pat0) { pc := 1, stack := stack }

theorem prog_cell (stack : List Nat) (h : stack = [] ∨ stack = [3] ∨ stack = List.replicate 15 0 ∨ stack = List.replicate 16 0) :
    (progSt stack).cellLive 0 0 ∧ ((progSt stack).cell 0 0).s.length = 32 ∧ (progSt stack).progLen 0 0 = 4 ∧
      ((progSt stack).cell 0 0).stack = stack ∧ ((progSt stack).cell 0 0).pc = 1 := by
  unfold State.cellLive
  rcases h with rfl | rfl | rfl | rfl <;> decide +kernel

/-- Destinations 0 and 3 of 4; 15 entries on the stack; a return to the last descriptor. -/
theorem witness_CtlJumpsMoveTheCounter :
    (1 : Int) + ctlTarget (dsc [(135, 2 ^ 24 - 1)]) = 0 ∧ (1 : Int) + ctlTarget (dsc [(135, 2)]) = 3 ∧
    ((progSt (List.replicate 15 0)).cell 0 0).stack.length < 16 ∧ ((progSt [3]).cell 0 0).stack = 3 :: [] ∧
    3 < (progSt [3]).progLen 0 0 := by decide +kernel

/-- Destinations -1 and 4 of 4; a full stack, an empty one; no weights; offset 4. -/
theorem witness_StructuralFaultsAbortTheRow :
    (1 : Int) + ctlTarget (dsc [(135, 2 ^ 24 - 2)]) = -1 ∧ (1 : Int) + ctlTarget (dsc [(135, 3)]) = (progSt []).progLen 0 0 ∧
    16 ≤ ((progSt (List.replicate 16 0)).cell 0 0).stack.length ∧ ((progSt []).cell 0 0).stack = [] ∧
    ((progSt []).cell 0 0).shadow = none ∧ ((progSt []).cell 0 0).weights = none ∧
    (((progSt []).cell 0 0).sr (ctlRa (dsc [(71, 4)])) + ctlImm (dsc [(71, 4)])).toNat % 8 ≠ 0 := by decide +kernel

/-- The last word below the end of the reach; a store to a resident line. -/
theorem witness_CtlLoadsAndLoggedStores :
    (let o := ((live.cell 0 0).sr (ctlRa (dsc [(71, reachEnd - 8)])) + ctlImm (dsc [(71, reachEnd - 8)])).toNat;
      o % 8 = 0 ∧ o + 8 ≤ reachEnd ∧ o = reachEnd - 8 ∧ live.canWrite 0 0 o 8) ∧
    (let s := withCell live { rbound := 64 };
      let o := ((s.cell 0 0).sr (ctlRa (dsc [(71, 56)])) + ctlImm (dsc [(71, 56)])).toNat;
      s.cellLive 0 0 ∧ (s.cell 0 0).undo = [] ∧ o % 8 = 0 ∧ o + 8 ≤ (s.cell 0 0).rbound ∧ s.canWrite 0 0 o 8) := by
  unfold State.canWrite State.cellLive; decide +kernel

theorem witness_CtlEndWaitsForQuiet :
    (let s := withCell live { phase := .running, loose := 1 };
      s.cellLive 0 0 ∧ (s.cell 0 0).phase = .running ∧ (s.cell 0 0).quiet = false) ∧
    (let s := withCell live { phase := .running };
      s.cellLive 0 0 ∧ (s.cell 0 0).quiet = true ∧ (s.cell 0 0).acc.any (fun e => e.2.changed && !e.2.ckOk) = false ∧
        s.unposted 0 0 = false ∧ s.grouped = false) := by
  unfold State.cellLive; decide +kernel

/-! ### VEC and MAT -/

/-- A VEC descriptor: A at 0x20, B at 0x4000, C at 0x6000, D at 0x8000, `n` elements from format `c` to format `t`. -/
def vd (c t n : Nat) (more : List (Nat × Nat)) : Desc :=
  dsc ([(160, 1), (136, 512), (112, 768), (88, 1024), (63, n - 1), (59, c), (55, t)] ++ more)

theorem witness_VecElementOperations :
    (∀ c ∈ [8, 9, 10, 11], ∀ t ∈ [8, 9, 10, 11], let d := vd c t 3 [(50, 6)]
      vSfmt d = c ∧ vDfmt d = t ∧ vN d = 3 ∧ fld d 52 50 < 7 ∧ live.operandAt 0 0 (fld d 183 160) (3 * vBytes c) 0x20 ∧
        live.operandAt 0 0 (fld d 135 112) (3 * vBytes t) 0x6000 ∧ live.operandAt 0 0 (fld d 111 88) 0 0x8000 ∧
        live.canWrite 0 0 0x8000 (3 * vBytes t)) ∧
    (∀ c ∈ [8, 9, 10, 11],
      live.sourceB 0 0 (vd c c 3 []) c 3 (live.elemsAt 0 0 0x4000 c 3) ∧
      live.sourceB 0 0 (dsc [(136, 31 * 524288), (53, 1)]) c 3
        (List.replicate 3 (sreg (live.cell 0 0).s 31 % 2 ^ fmtWidth c)) ∧
      live.sourceB 0 0 (vd c c 3 [(53, 2)]) c 3 (List.replicate 3 ((live.elemsAt 0 0 0x4000 c 1).getD 0 0))) := by
  refine ⟨by unfold State.operandAt State.canWrite; decide +kernel, fun c hc => ⟨.inl ⟨?_, 0x4000, ?_, rfl⟩,
    .inr (.inl ⟨by decide +kernel, by decide +kernel, ?_⟩), .inr (.inr ⟨?_, 0x4000, ?_, rfl⟩)⟩⟩
  · revert c; decide +kernel
  · revert c; unfold State.operandAt; decide +kernel
  · rw [show fld (dsc [(136, 31 * 524288), (53, 1)]) 159 136 / 524288 = 31 by decide +kernel]
  · revert c; decide +kernel
  · revert c; unfold State.operandAt; decide +kernel

/-- Sums below, at and above the bounds of INT32 and INT8. -/
theorem witness_IntegerArithmeticWrapsOrSaturates :
    (2 ^ 32 - 1 < 2 ^ 32) ∧ vAdd 11 true 0x7FFFFFFF 1 = (0x7FFFFFFF, true) ∧ vAdd 11 false 0x7FFFFFFF 1 = (0x80000000, false) ∧
    vSub 11 true 0x80000000 1 = (0x80000000, true) ∧ vMul 8 false 0x80 0xFF = (0x7F, true) := by decide +kernel

theorem witness_VecReductions :
    ∀ c ∈ [8, 9, 10, 11], ∀ t ∈ [c, 12, 11], let d := vd c t 4 []
      vSfmt d = c ∧ vDfmt d = t ∧ vN d ≤ 2 ^ 24 ∧ live.operandAt 0 0 (fld d 183 160) (vN d * vBytes c) 0x20 ∧
        live.operandAt 0 0 (fld d 111 88) 0 0x8000 ∧ live.canWrite 0 0 0x8000 16576 := by
  unfold State.operandAt State.canWrite; decide +kernel

/-- SORT with and without values; TOPK with k above the element count. -/
theorem witness_VecSortAndTopkAreStable :
    ∀ c ∈ [9, 10, 11], ∀ m ∈ [0, 1], let d := vd c c 5 [(46, m), (47, 1), (35, 1023)]
      vSfmt d = c ∧ vDfmt d = c ∧ fld d 46 46 = m ∧ vN d ≤ 65536 ∧ live.operandAt 0 0 (fld d 183 160) (5 * vBytes c) 0x20 ∧
        live.operandAt 0 0 (fld d 111 88) 0 0x8000 ∧ live.operandAt 0 0 (fld d 159 136) 20 0x4000 ∧
        live.canWrite 0 0 0x8000 (64 + 5 * 4) ∧ live.canWrite 0 0 0x8000 (5 * vBytes c) := by
  unfold State.operandAt State.canWrite; decide +kernel

theorem witness_PhiloxDraws :
    ∀ e ∈ [(0, 11), (1, 9), (2, 10)], let d := vd 0 e.2 8 [(33, e.1)]
      vSfmt d = 0 ∧ fld d 34 33 = e.1 ∧ vDfmt d = e.2 ∧ live.operandAt 0 0 (fld d 111 88) 0 0x8000 ∧
        live.canWrite 0 0 0x8000 32 := by
  unfold State.operandAt State.canWrite; decide +kernel

/-! ### Helpers -/

/-- The result holds a value with the property. -/
def okWith {e a : Type} (p : a → Bool) : Except e a → Bool
  | .ok v => p v
  | .error _ => false

theorem of_okWith {e a : Type} {p : a → Bool} {r : Except e a} (h : okWith p r = true) : ∃ v, r = .ok v ∧ p v = true := by
  cases r with
  | ok v => exact ⟨v, rfl, h⟩
  | error z => cases h

theorem of_isOk {e a : Type} {r : Except e a} (h : okWith (fun _ => true) r = true) : ∃ v, r = .ok v :=
  (of_okWith h).imp fun _ h => h.1

/-- Memory with these byte strings at these addresses. -/
def memAt (bs : List (Nat × Bytes)) : Mem := bs.foldl (fun m e => m.writeBytes e.1 e.2) []

/-- The scratchpad of cell (0, 0) with these byte strings at these offsets. -/
def spAt (bs : List (Nat × Bytes)) : Mem := memAt (bs.map (fun e => (cellBase 0 0 + e.1, e.2)))

/-- `n`-byte little-endian words. -/
def words (n : Nat) (vs : List Nat) : Bytes := vs.flatMap (le n)

/-- The command answers a next state with the property. -/
def nextIs (i : Instr) (s : State) (p : State → Bool) : Bool :=
  match exec i s with
  | .next t => p t
  | _ => false

/-! ### MAT (R41: the example of a BF16 dot product) -/

/-- A gauge vector: KTOTAL and the gauges (R67). -/
def gaugeVec (k : Nat) (gs : List Nat) : Bytes := le 4 k ++ zeros 60 ++ words 2 gs

/-- The weights of the example: column 0 of three K rows. -/
def exW : WTile :=
  { fmt := 9, vk := 3, vn := 1, scales := []
    codes := 0x3F40 :: List.replicate 31 0 ++ 0x3FA0 :: List.replicate 31 0 ++ [0xBF80] }

/-- The activations at 0x400, row gauge 2 at 0x800, column gauge 1 at 0xC00. -/
def exSt : State :=
  withCell { live with mem := spAt [(0x400, words 2 [0x3FC0, 0xC040, 0x0D40]), (0x800, gaugeVec 3 [2]), (0xC00, gaugeVec 3 [1])] }
    { phase := .running, weights := some exW }

def exStream : Desc := dsc [(160, 32), (112, 64), (88, 96), (84, 9), (38, 3), (32, 2)]

/-- The example with weights and activations of another format, the activation scale at 0x1400. -/
def strW (f : Nat) : WTile := { exW with fmt := f, scales := List.replicate 32 127 }
def strSt (f : Nat) : State := withCell { live with mem := exSt.mem } { phase := .running, weights := some (strW f) }
def strD (f : Nat) : Desc := dsc ([(160, 32), (136, 160), (84, f), (38, 3), (32, 2)] ++ if f = 8 then [] else [(112, 64), (88, 96)])

/-- WLOAD of every format, its largest tile; the example's STREAM in two MX formats, INT8 and BF16; the last rows of the accumulator. -/
theorem witness_MatWloadAndStream :
    (∀ f < 10, let d := dsc [(160, 32), (136, 64), (132, f), (126, 63), (121, 31)]
      fld d 135 132 = f ∧ live.operandAt 0 0 (fld d 183 160) (cdiv (2048 * fmtWidth f) 8) 0x400 ∧
        live.operandAt 0 0 (fld d 159 136) 63 0x800) ∧
    (∀ f ∈ [2, 6, 8, 9], let d := strD f
      let tk := if f = 6 then 64 else 32
      (strSt f).cellLive 0 0 ∧ ((strSt f).cell 0 0).swap.weights = some (strW f) ∧ pairTileK f (strW f).fmt = some tk ∧
        fld d 87 84 = f ∧ fld d 37 32 + 1 = 3 ∧ (strW f).vk = 3 ∧ fld d 62 38 = 3 ∧ fld d 72 64 + cdiv (fld d 83 73 + 1) 4 ≤ 512 ∧
        (strSt f).operandAt 0 0 (fld d 183 160) (cdiv (3 * fmtWidth f) 8) 0x400) ∧
    (∀ f ∈ [2, 6], (strSt f).operandAt 0 0 (fld (strD f) 159 136) 1 0x1400) ∧
    fld (strD 8) 135 112 = 0 ∧ fld (strD 8) 111 88 = 0 ∧
    (∀ f ∈ [2, 6, 9], (strSt f).operandAt 0 0 (fld (strD f) 135 112) 66 0x800 ∧ uAt ((strSt f).scratch 0 0 0x800 66) 0 4 = 3 ∧
      (strSt f).operandAt 0 0 (fld (strD f) 111 88) 66 0xC00 ∧ uAt ((strSt f).scratch 0 0 0xC00 66) 0 4 = 3) ∧
    (∀ f ∈ [2, 6, 8, 9], ∀ g, let c := ((strSt f).cell 0 0).swap
      let o := streamOf (strD f) ((strSt f).cell 0 0).s (strW f) 32 [] [] g g
      o.m = 1 ∧ o.mismatch (c.tile (o.key 0)) 0 = false) ∧
    (∀ e ∈ [(0, 2047), (511, 3)], let d := dsc [(64, e.1), (73, e.2)]
      fld d 72 64 + cdiv (fld d 83 73 + 1) 4 = 512) := by
  refine ⟨by unfold State.operandAt; decide +kernel, by unfold State.operandAt State.cellLive; decide +kernel,
    by unfold State.operandAt; decide +kernel, by decide +kernel, by decide +kernel, by unfold State.operandAt; decide +kernel,
    fun f hf g => ⟨?_, ?_⟩, by decide +kernel⟩
  · change fld (strD f) 83 73 + 1 = 1
    clear g; revert f; decide +kernel
  · have : ∀ k, ((strSt f).cell 0 0).swap.tile k = {} := fun _ => rfl
    rw [this]
    simp [StreamOp.mismatch, AccTile.empty]

/-- The sum is -21 * 2^97 - 1 units of 2^-100, residue 52 (the example after R48). -/
theorem test_stream_example :
    nextIs (.matStream 0 0 exStream) exSt (fun t =>
      let c := (t.cell 0 0).tile 0
      decide ((c.ent 0 0).a = -(21 * 2 ^ 97) - 1 ∧ (c.ent 0 0).res = 52 ∧ bit c.inexact 0 = true ∧ c.l 0 0 = -100)) = true := by
  decide +kernel

/-- It drains to BF16 0xC028 and to FP32 0xC0280000. -/
theorem test_drain_example :
    (drainFloat 9 false (-(21 * 2 ^ 97) - 1) 0 (-100)).1 = 0xC028 ∧ (drainFloat 10 false (-(21 * 2 ^ 97) - 1) 0 (-100)).1 = 0xC0280000 := by
  decide +kernel

/-- The last row of the accumulator; formats below 12 without scales. -/
theorem witness_MatDrainWritesRows :
    ∀ f ∈ [0, 1, 9, 10, 11], ∀ k ∈ [0, 1], let d := dsc [(160, 128), (151, 511), (138, f), (136, k)]
      fld d 159 151 + (fld d 150 142 + 1) ≤ 512 ∧ fld d 135 128 = 0 ∧ fld d 141 138 = f ∧ f < 12 ∧ fmtMx f = false ∧
        fld d 136 136 = k ∧ (live.cell 0 0).drainFmtOk (drainKeys 511 1) f = true ∧ (live.cell 0 0).drainCheck (drainKeys 511 1) = none ∧
        live.operandAt 0 0 (fld d 183 160) 0 0x1000 ∧ live.canWrite 0 0 0x1000 (128 * fmtWidth f / 8) := by
  unfold State.operandAt State.canWrite; decide +kernel

/-- Every format, K of 1; two vectors whose KTOTALs sum to 2^24. -/
theorem witness_MatGaugeVectors :
    (∀ f ∈ [0, 1, 2, 3, 4, 5, 6, 7, 9], let d := dsc [(160, 32), (136, 64), (132, f), (93, 1)]
      fld d 135 132 = f ∧ f < 10 ∧ f ≠ 8 ∧ fld d 92 92 = 0 ∧ 1 ≤ fld d 117 93 ∧ fld d 117 93 ≤ 2 ^ 24 ∧
        live.operandAt 0 0 (fld d 183 160) 2 0x400 ∧ live.operandAt 0 0 (fld d 159 136) 0 0x800 ∧ live.canWrite 0 0 0x800 66) ∧
    (let s : State := { live with mem := spAt [(0x400, gaugeVec (2 ^ 24 - 3) [5]), (0x800, gaugeVec 3 [2])] };
      let d := dsc [(160, 32), (136, 64), (112, 96)];
      s.cellLive 0 0 ∧ s.operandAt 0 0 (fld d 183 160) 66 0x400 ∧ s.operandAt 0 0 (fld d 159 136) 66 0x800 ∧
        s.operandAt 0 0 (fld d 135 112) 0 0xC00 ∧ uAt (s.scratch 0 0 0x400 66) 0 4 + uAt (s.scratch 0 0 0x800 66) 0 4 = 2 ^ 24 ∧
        s.canWrite 0 0 0xC00 66) := by
  unfold State.operandAt State.canWrite State.cellLive; decide +kernel

/-! ### MOV -/

/-- A dense tensor descriptor (R154): base, format, lengths. -/
def tensor (base fmt : Nat) (dims : List Nat) (strides : List Nat) : Bytes :=
  le 8 base ++ [BitVec.ofNat 8 fmt, BitVec.ofNat 8 dims.length, 0, 0] ++ zeros 4
    ++ words 4 ((dims ++ List.replicate 6 1).take 6) ++ words 8 ((strides ++ List.replicate 6 0).take 6) ++ zeros 40

/-- Source of 2 by 4 INT32 at 0x4000, destination of 4 by 2 at 0x5000, one of 2 by 4 at 0x6000, 2 index values at 0x7000. -/
def movSt (ix : List Nat) : State :=
  { live with mem := spAt [(0x400, tensor (cellBase 0 0 + 0x4000) 11 [2, 4] [0, 64]), (0x480, tensor (cellBase 0 0 + 0x5000) 11 [4, 2] [0, 64]),
      (0x500, tensor (cellBase 0 0 + 0x6000) 11 [2, 4] [0, 64]), (0x580, tensor (cellBase 0 0 + 0x7000) 11 [2] []),
      (0x4000, words 4 [1, 2]), (0x4040, words 4 [3, 4]), (0x4080, words 4 [5, 6]), (0x40C0, words 4 [7, 8]), (0x7000, words 4 ix)] }

/-- COPY from 0x400 to 0x500; PERMUTE with PERM (1, 0, 2, 3) from 0x400 to 0x480. -/
def copyD : Desc := dsc [(160, 32), (136, 40)]
def permD : Desc := dsc [(160, 32), (136, 36), (95, 1 + 2 * 64 + 3 * 512)]

/-- Along axis 0, index mode `m`. -/
def idxD (m : Nat) : Desc := dsc [(160, 32), (136, 40), (112, 44), (107, m)]

/-- Is a byte free to be written? -/
def freeB (s : State) (a : Nat) : Bool :=
  match cellAt a with
  | some k => s.cellPlaced k && decide (a % 0x1000000 < reachEnd) && s.writableLine (k % 48) (k / 48) (a % 0x1000000 / 64 * 64)
    && decide ((s.cell (k % 48) (k / 48)).rbound ≤ a % 0x1000000 / 64 * 64)
  | none => false

theorem freeByte_of {s : State} {a : Nat} (h : freeB s a = true) : s.freeByte a := by
  unfold freeB at h
  split at h
  · rename_i k hk
    simp only [Bool.and_eq_true, decide_eq_true_eq] at h
    exact ⟨k, hk, h.1.1.1, h.1.1.2, h.1.2, h.2⟩
  · cases h

/-- The tensors read, the sets checked, the destination free, the write a success. -/
theorem witness_MovMovesElements :
    let s := movSt [1, 2 ^ 32 - 1]
    let at_ (f : Nat) := s.readTDesc 0 0 (s.cell 0 0).s f
    let okSet (ts rs : List TDesc) (b : Bool) := okWith (fun _ => true) (s.checkTensors ts rs b)
    s.cellLive 0 0 ∧
    ∃ src dst dst' ix, at_ (fld copyD 183 160) = .ok src ∧ at_ (fld copyD 159 136) = .ok dst ∧ at_ (fld permD 159 136) = .ok dst' ∧
      at_ (fld (idxD 2) 135 112) = .ok ix ∧ okSet [src, dst] [src] (copyRulesOk src dst permId) = true ∧
      okSet [src, dst'] [src] (copyRulesOk src dst' (permOf (fld permD 106 95))) = true ∧
      (∀ m < 3, okSet [src, dst, ix] [src, ix] (indexedRulesOk src dst dst ix 0 m) = true ∧
        okSet [src, dst, ix] [src, ix] (indexedRulesOk src dst src ix 0 m) = true ∧
        okSet [src, dst, ix] [src, dst, ix] (indexedRulesOk src dst src ix 0 m && [9, 10, 11].contains src.fmt) = true) ∧
      (∀ e ∈ s.tensorBuf dst ((indices dst.dims).map (fun j => (j, s.peekElem src (permIndex permId j)))), s.freeByte e.1) ∧
      okWith (fun _ => true)
        (s.writeTensor dst ((indices dst.dims).map (fun j => (j, s.peekElem src (permIndex permId j))))) = true := by
  intro s at_ okSet
  refine ⟨by unfold State.cellLive; decide +kernel, tdescOf (tensor (cellBase 0 0 + 0x4000) 11 [2, 4] [0, 64]),
    tdescOf (tensor (cellBase 0 0 + 0x6000) 11 [2, 4] [0, 64]), tdescOf (tensor (cellBase 0 0 + 0x5000) 11 [4, 2] [0, 64]),
    tdescOf (tensor (cellBase 0 0 + 0x7000) 11 [2] []), by decide +kernel, by decide +kernel, by decide +kernel, by decide +kernel,
    by decide +kernel, by decide +kernel, by decide +kernel, fun e he => freeByte_of ?_, by decide +kernel⟩
  revert e
  decide +kernel

/-- Mapping tables 1 (two cells, source) and 2 (one cell, destination) of 4 INT32, with the plan from 1 to 2. -/
def exMaps : Bytes :=
  let rec1 (id split xn off : Nat) : Bytes :=
    [1, 0] ++ le 2 id ++ [11, 1, 0, 0] ++ words 4 [4, 1, 1, 1, 1, 1] ++ words 2 [split, 1, 1, 1, 1, 1] ++ le 2 0 ++ le 2 0 ++ le 2 xn ++ le 2 1
      ++ le 2 1 ++ zeros 2 ++ le 4 off ++ zeros 68
  rec1 1 2 2 0x4000 ++ rec1 2 1 1 0x5000 ++ [2, 0] ++ le 2 1 ++ le 2 2 ++ zeros 122

theorem witness_MovReshard :
    let s := runSt (patWith [] [] [] exMaps)
    let d := dsc [(83, 1), (71, 2)]
    s.cellLive 0 0 ∧ s.cellLive 2 0 ∧ s.runPattern = some (patWith [] [] [] exMaps) ∧
    ∃ src dst, findMap exMaps (fld d 94 83) = some src ∧ findMap exMaps (fld d 82 71) = some dst ∧
      hasPlan exMaps (fld d 94 83) (fld d 82 71) = true ∧ src.qOf 2 0 = none ∧ src.qOf 1 0 = some 1 ∧ dst.cells = 1 ∧
      dst.unwritable = false ∧ s.shardElems src dst 1 0 ≠ [] ∧ (dst.shardDesc 0).standing (s.shardElems src dst 1 0) ≠ [] ∧
      okWith (fun _ => true) (s.reshardFrom src dst 1) = true := by
  intro s d
  refine ⟨by unfold State.cellLive; decide +kernel, by unfold State.cellLive; decide +kernel, by decide +kernel,
    mapTableOf (exMaps.take 128), mapTableOf (slice exMaps 128 128), by decide +kernel, by decide +kernel, by decide +kernel, by decide +kernel, by decide +kernel, by decide +kernel, by decide +kernel, by decide +kernel, by decide +kernel, by decide +kernel⟩

/-- The same with a destination whose axis 1, of length 2, has stride 0. -/
theorem witness_MovReshard_unwritable :
    let maps := exMaps.take 128 ++ [1, 0] ++ le 2 2 ++ [11, 2, 0, 0] ++ words 4 [4, 2, 1, 1, 1, 1] ++ words 2 [1, 1, 1, 1, 1, 1] ++ zeros 4
      ++ words 2 [1, 1, 1] ++ zeros 2 ++ le 4 0x5000 ++ zeros 68 ++ exMaps.drop 256
    (findMap maps 2).elim false (fun m => m.unwritable) = true ∧ hasPlan maps 1 2 = true := by decide +kernel

/-! ### CHK, SMP, HNT -/

/-- An activation tile, a weight tile with scales, an exact tile, a packed tile of one row. -/
def chkHead : Desc := dsc [(160, 32), (136, 4096), (132, 9), (120, 0)]
def chkTail : Desc := dsc [(160, 32), (136, 4096), (132, 10), (120, 2), (119, 1)]
def chkDs : List Desc :=
  [chkHead, dsc [(160, 32), (136, 4096), (132, 2), (120, 1), (122, 31)], dsc [(160, 32), (136, 4096), (132, 12), (120, 2)], chkTail]

/-- The record of an activation row of zeros stands at 0x20000. -/
def agrees : State := { live with mem := spAt [(0x20000, operandRecord chkHead 0 0 (zeros 64) [])] }

theorem witness_ChkInsertAndVerify :
    (∀ i < 4, let d := chkDs.getD i 0; chkOk d = true ∧ live.operandAt 0 0 (fld d 159 136) (chkRecordLen d) 0x20000 ∧ live.canWrite 0 0 0x20000 1088 ∧
      live.operandAt 0 0 (fld d 183 160) 16576 0x400) ∧
    chkDs.map (fun d => (chkKind d, chkPacked d)) = [(0, false), (1, false), (2, false), (2, true)] ∧
    live.chkAgrees 0 0 (live.cell 0 0).s chkTail (live.scratch 0 0 0x20000 320) = .ok false ∧ chkRecordLen chkTail = 320 ∧
    live.chkAgrees 0 0 (live.cell 0 0).s chkHead (live.scratch 0 0 0x20000 192) = .ok false ∧ chkRecordLen chkHead = 192 ∧
    agrees.chkAgrees 0 0 (agrees.cell 0 0).s chkHead (agrees.scratch 0 0 0x20000 192) = .ok true ∧ live.row.waste = false := by
  unfold State.operandAt State.canWrite; decide +kernel

/-- The drained copy at 0x400 of a kept tile, whose checksum register agrees or not. -/
theorem witness_ChkVerify_copies :
    ∀ n ∈ [0, 1], let s := withCell live { copies := [(0x400, 0)], acc := [(0, { window := 1, ck := some { cols := [n], rows := [], valC := [], valR := [], unit := 0 } })] }
      chkKind chkTail = 2 ∧ s.cellLive 0 0 ∧ s.operandAt 0 0 (fld chkTail 183 160) 0 0x400 ∧ Tab.get? (s.cell 0 0).copies 0x400 = some 0 ∧
        ((s.cell 0 0).tile 0).ckOk = (n == 0) := by
  unfold State.operandAt State.cellLive; decide +kernel

/-- BF16 and FP32, one session, a vocabulary of one and of 4. -/
theorem witness_SmpSampleWritesTokens :
    ∀ c ∈ [9, 10], ∀ v ∈ [0, 3], let d := dsc [(160, 32), (136, 64), (112, 96), (92, v), (75, c)]
      fld d 78 75 = c ∧ fld d 91 79 + 1 = 1 ∧ fld d 111 92 + 1 = v + 1 ∧ live.operandAt 0 0 (fld d 183 160) 0 0x400 ∧
        live.operandAt 0 0 (fld d 159 136) 0 0x800 ∧ live.operandAt 0 0 (fld d 135 112) 0 0xC00 ∧
        0x400 + (v + 1) * vBytes c ≤ reachEnd ∧ 0x800 + 32 ≤ reachEnd ∧ live.canWrite 0 0 0xC00 4 := by
  unfold State.operandAt State.canWrite; decide +kernel

/-- The draw of the example after R239: token 17 for 0xB4000000, token 902 for 0xC0000000 (candidates 0 and 1 of 17, 902, 4, 33). -/
theorem test_draw_example :
    let key := [0x40400000, 0x40200000, 0x3F800000, 0x3F800000]
    drawIndex key 0x3F000000 0x3F666666 0xB4000000 = 0 ∧ drawIndex key 0x3F000000 0x3F666666 0xC0000000 = 1 := by decide +kernel

/-- A mode other than PHASE, in which a hint counts for a row not fixed and comes late for one that is; and PHASE. -/
theorem witness_HntHeavyEntersAHint :
    live.cellLive 0 0 ∧ (live.setOb 0x2500 0x0F 1).nat 0x2500 0x0F = 1 ∧ (live.setOb 0x2500 0x0F 0).nat 0x2500 0x0F ≠ 1 ∧
    live.power.planFixed < live.row.num + 1 ∧
    live.row.num + 1 ≤ ({ live with power := { planFixed := 1 } } : State).power.planFixed :=
  ⟨live_cell, by decide +kernel⟩

/-! ### HBM and the update engines -/

/-- A pattern with a plain, a logged and a versioned region of one MiB each. -/
def lifePat : Pattern :=
  patWith [{ base := 0, len := 0x100000, alt := 0, attr := 0 }, { base := 0x100000, len := 0x100000, alt := 0, attr := 1 },
    { base := 0x200000, len := 0x100000, alt := 0x300000, attr := 2 }] [] [] []

def lifeSt : State := runSt lifePat

/-- The last bytes of the regions' lines; an address in no region. -/
theorem witness_HbmWritesUnderTheLifeline :
    lifeSt.cellLive 0 0 ∧ lifeSt.runPattern = some lifePat ∧ lifeSt.hbm.poisoned = [] ∧ (∀ w < 64, (lifeSt.window w).1 = 0) ∧
    (∀ a ∈ [0xFFFFF, 0x1FFFFF, 0x400000], lifeSt.hbmOk a 1 = true ∧ a % 64 + 1 ≤ 64) ∧
    (regionAt lifePat.regions 0xFFFFF).map (·.attr) = some 0 ∧ (regionAt lifePat.regions 0x1FFFFF).map (·.attr) = some 1 ∧
    lifeSt.hbm.log.any (fun e => e.1 == 0x1FFFC0) = false ∧ lifeSt.logCount (sliceOf 0x1FFFC0) < lifeSt.logCapacity (sliceOf 0x1FFFC0) ∧
    regionAt lifePat.regions 0x400000 = none := by
  unfold State.cellLive; decide +kernel

/-- The record of the AdamW example after R252: one element, BF16 gradient at 0x1000, FP32 moments; PARAM at 0x2000. -/
def adamRec : Bytes :=
  [2, 0, 9, 0] ++ zeros 4 ++ le 8 1 ++ words 8 [0x2000, 0x1000, 0x3000, 0x4000, 0, 0] ++ le 4 1 ++ le 4 0x3F800000
    ++ words 4 [0x3A83126F, 0x3C23D70A, 0x3F666666, 0x3F7FBE77, 0x322BCC77] ++ zeros 36

def adamRun : JobRun :=
  { job := { x := 0, y := 0, n := 0, addr := 0 }, record := adamRec, lr := 0, wd := 0, b1 := 0, b2 := 0, eps := 0, gscale := 0 }

/-- The job waits, and the job runs. -/
def jobSt (e : Engine) : State :=
  { withCell lifeSt { phase := .running, updSent := 1 } with
    mem := memAt [(0, adamRec), (0x1000, le 2 0x3F00), (0x2000, le 4 0x3F800000)], engines := [(0, e)] }

theorem witness_UpdJobsRunInOrder :
    (let d := dsc [(178, 47), (126, 48 * 0x2000000000 - 128)];
      live.flash.variantG = false ∧ fld d 183 178 = 47 ∧ fld d 177 126 % 64 = 0 ∧ 47 * 0x2000000000 ≤ fld d 177 126 ∧
        fld d 177 126 + 128 ≤ 48 * 0x2000000000 ∧ (live.engine 47).queue.length < 64) ∧
    (let s := jobSt { queue := [adamRun.job] };
      s.on = true ∧ s.row.phase = .running ∧ (s.engine 0).queue = adamRun.job :: [] ∧ (s.engine 0).running = none ∧
        s.readHbm 0 128 = .ok adamRec ∧ jobFault adamRec 0 = none ∧ ruleOf adamRec = some .adamW) ∧
    (let s := jobSt { running := some adamRun };
      s.on = true ∧ s.row.phase = .running ∧ (s.engine 0).running = some adamRun ∧ (s.cell 0 0).phase = .running ∧
        ∃ u, State.updElements adamRec .adamW adamRun.asked.clamped (jobCount adamRec) 0 s = .ok u ∧ u.cells = s.cells) := by
  refine ⟨by decide +kernel, by decide +kernel, by decide +kernel, by decide +kernel, by decide +kernel, by decide +kernel, ?_⟩
  have h : okWith (fun u => decide (u.cells = (jobSt { running := some adamRun }).cells)) (State.updElements adamRec .adamW
      adamRun.asked.clamped (jobCount adamRec) 0 (jobSt { running := some adamRun })) = true := by decide +kernel
  exact (of_okWith h).imp fun u hu => ⟨hu.1, of_decide_eq_true hu.2⟩

/-- p, m and v of the example after R252. -/
theorem test_adamw_example :
    nextIs (.updJobDone 0) (jobSt { running := some adamRun }) (fun t =>
      t.mem.readBytes 0x2000 4 == le 4 0x3F7FBDCF && t.mem.readBytes 0x3000 4 == le 4 0x3D4CCCD0
        && t.mem.readBytes 0x4000 4 == le 4 0x39831200) = true := by decide +kernel

/-- The bias correction at t = 2 of the example after it. -/
theorem test_bias_correction : biasCorrection 0x3F7FBE77 2 = 0x3B030139 := by decide +kernel

/-! ### SYN, barriers -/

/-- Cell (0, 0) sends stream 5 east, lines of 64 tiles of packed sums; stream 6 to its ring port; (1, 0) sends it stream 7 west. -/
def slots0 : Bytes :=
  let link (x d : Nat) (es : Bytes) : Bytes := le 2 x ++ le 2 0 ++ le 1 d ++ [0] ++ le 2 (es.length / 32) ++ zeros 8 ++ es
  let ent (st lines hb : Nat) : Bytes := le 2 st ++ [0, 0] ++ le 4 lines ++ le 8 hb ++ le 8 4096 ++ le 4 2 ++ zeros 4
  link 0 0 (ent 5 64 0) ++ link 0 4 (ent 6 1 0x1000) ++ link 1 1 (ent 7 64 0)

/-- Barrier table: channel 31 over cells (0, 0) and (1, 0). -/
def bars0 : Bytes := [31] ++ zeros 7 ++ [3] ++ zeros 247

def synPat : Pattern := patWith lifePat.regions slots0 bars0 []

/-- A packed tile of zeros; the same as a partial sum whose record is missing. -/
def goodTr : Transfer := { data := zeros 4096 }
def badTr : Transfer := { data := zeros 4096, records := [] }

def synSt (rx : List Transfer) : State := withCell (runSt synPat) { phase := .running, rx := if rx = [] then [] else [(7, rx)] }

/-- SEND east, SEND to the ring, RECV and RECVADD from the east, packed partial sums. -/
def sendD : Desc := dsc [(244, 1), (181, 0), (169, 5), (145, 512), (129, 63), (128, 1), (127, 1)]
def ringD : Desc := dsc [(244, 1), (181, 4), (169, 6), (145, 512)]
def recvD : Desc := dsc [(244, 2), (181, 0), (169, 7), (145, 512), (129, 63), (127, 1)]
def recvP : Desc := dsc [(244, 2), (181, 0), (169, 7), (145, 512), (129, 63), (128, 1), (127, 1)]

theorem witness_SendStreams :
    (synSt []).cellLive 0 0 ∧
    (∀ i < 2, let d := [sendD, ringD].getD i 0
      ((synSt []).synEntry 0 0 d false).map (fun e => e.2.lines) = some (synLines d) ∧
      (synSt []).synWaits 0 0 d = false ∧ (synSt []).operandAt 0 0 (fld d 168 145) (64 * synLines d) 0x4000) ∧
    neighbour 0 0 (synDir sendD) = some (1, 0) ∧ ((synSt []).map.place 1 0).isSome = true ∧ ((synSt []).cell 1 0).phase ≠ .ended ∧
    synPsum sendD = true ∧ (tilesOf (synPacked sendD) ((synSt []).scratch 0 0 0x4000 (64 * synLines sendD))).isSome = true ∧
    synPsum ringD = false ∧ okWith (fun _ => true) ((synSt []).writeHbm 0x1000 (zeros 64)) = true := by
  unfold State.cellLive State.operandAt; decide +kernel

/-- A SEND out of its turn: the other stream of its group comes next. -/
theorem witness_SendWaits :
    let link : Bytes := le 2 0 ++ le 2 0 ++ [0, 0, 2, 0] ++ zeros 8 ++ (le 2 8 ++ [0, 0, 1] ++ zeros 27) ++ (le 2 5 ++ [0, 0, 64] ++ zeros 27)
    (runSt (patWith [] link [] [])).synWaits 0 0 sendD = true := by decide +kernel

theorem witness_SynStreamsTransfer :
    ((synSt [goodTr]).synEntry 0 0 recvD true).map (fun e => (e.2.stream, e.2.lines == synLines recvD)) = some (7, true) ∧
    synDir recvD ≠ 4 ∧ (synSt [goodTr]).operandAt 0 0 (fld recvD 168 145) 0 0x4000 ∧
    Tab.getD ((synSt []).cell 0 0).rx (streamKey 0 7) [] = [] ∧ (Tab.getD ((synSt [goodTr]).cell 0 0).rx (streamKey 0 7) []).length = 1 ∧
    (synSt [goodTr]).synTurn 0 0 recvD true = true ∧ okWith (fun _ => true) (recvCheck 0 0 recvD goodTr) = true ∧
    (synSt [goodTr]).canWrite 0 0 0x4000 4096 ∧ (tilesOf (synPacked recvD) goodTr.data).isSome = true ∧ synPsum recvP = true ∧
    (synSt [badTr]).synTurn 0 0 recvP true = true ∧ transitOk true [zeros 4096] badTr 0 0 = false ∧ (synSt [badTr]).row.waste = false ∧
    (∀ b ∈ [0, 480], b / 32 + cdiv 1 4 ≤ 16) ∧
    (((synSt [goodTr]).cell 0 0).recvTiles true 480 1 0 [zeros 4096]).isSome = true := by
  unfold State.operandAt State.canWrite; decide +kernel

/-- Values cut exactly and with a remainder; an empty exact tile, one into an empty tile, one with other gauges. -/
theorem witness_PartialTilesAddAsIntegers :
    let v : AccTile := { ents := [(0, accEnt 5 0)], ktotal := 3, rowG := [(0, 2)], window := 1 }
    let w : AccTile := { v with rowG := [(0, 3)] }
    (v.ents.map (·.1)).Nodup ∧ ({} : AccTile).ktotal = 0 ∧ v.ktotal ≠ 0 ∧ w.empty = false ∧ w.agrees v = false ∧
      ({} : AccTile).empty = true ∧ v.agrees v = true := by decide +kernel

theorem witness_BarrierArrivesAndReleases :
    let s := synSt []
    let d := dsc [(101, 31)]
    let r := (s.setCell 0 0 { phase := .running, arrived := [(31, 1)] }).setCell 1 0 { phase := .running, arrived := [(31, 1)] }
    s.cellLive 0 0 ∧ synChan d = 31 ∧ bit (s.barrierMembers 31) (cellNo 0 0) = true ∧
    r.on = true ∧ r.row.phase = .running ∧ r.grouped = false ∧ (∃ k < 1728, bit (r.barrierMembers 31) k = true) ∧
    ∀ k < 1728, bit (r.barrierMembers 31) k = true →
      1 ≤ Tab.getD (Tab.getD r.cells k {}).arrived 31 0 ∧ Tab.getD (Tab.getD r.cells k {}).released 31 0 + 1 = 1 ∧
        (Tab.getD r.cells k {}).phase = .running := by
  refine ⟨by unfold State.cellLive; decide +kernel, by decide +kernel, by decide +kernel, by decide +kernel, by decide +kernel,
    by decide +kernel, ⟨0, by decide, by decide +kernel⟩, by decide +kernel⟩

/-! ### The sequencer -/

/-- With their CRCs: a VEC descriptor; a CTL NOP; a CTL NOP, and a VEC descriptor, that wait for the first VEC descriptor. -/
def issueV : Desc := vd 10 10 1 [(252, 2), (244, 1), (0, 63137)]
def issueN : Desc := dsc [(0, 10821)]
def issueW : Desc := dsc [(241, 2), (216, 1), (0, 30175)]
def waitV : Desc := vd 10 10 1 [(252, 2), (244, 1), (241, 1), (216, 1), (0, 43821)]

/-- Cell (0, 0) running its program of that descriptor. -/
def seqSt (d : Desc) (u : UnitQ) : State :=
  withCell { runSt pat0 with mem := spAt [(0, le 32 d.toNat)] } { phase := .running, vec := u }

def full : UnitQ := { q := List.replicate 16 { d := issueV, regs := [], before := [] } }

theorem witness_SequencerIssues :
    (∀ i < 3, ∀ u ∈ [({} : UnitQ), full], let d := [issueV, issueN, issueW].getD i 0
      (seqSt d u).cellLive 0 0 ∧ ((seqSt d u).cell 0 0).phase = .running ∧ (seqSt d u).cellEntry 0 0 = some ent0 ∧
        ((seqSt d u).cell 0 0).pc < ent0.progLen ∧
        (BitVec.ofNat 256 (ofLe ((seqSt d u).scratch 0 0 (ent0.progOff + 32 * ((seqSt d u).cell 0 0).pc) 32)) : Desc) = d ∧
        crcOk d = true ∧ (effectOf d).isSome = true ∧ commonOk d = true) ∧
    unitOf issueV = some .vec ∧ full.q.length = queueDepth .vec ∧ unitOf issueN = none ∧ unitOf issueW = none ∧
    (seqSt issueN {}).holdsOwn ((seqSt issueN {}).cell 0 0) issueN = false ∧
    (seqSt issueW {}).holdsOwn ((seqSt issueW {}).cell 0 0) issueW = true ∧ descClass issueN = 0 := by
  unfold State.cellLive; decide +kernel

/-- The oldest descriptor ready, and held by a wait; one running that may complete; numbers that completed ahead. -/
theorem witness_SequencerAndUnitsRunInOrder :
    let i : Issued := { d := issueV, regs := List.replicate 32 0, before := [] }
    let s := seqSt issueV { q := [i], issued := 1 }
    let w := seqSt issueV { q := [{ i with d := waitV }] }
    let r := seqSt issueV { started := 1, running := [{ n := 0, d := issueV, aux := 0 }] }
    ((s.cell 0 0).unitQ .vec).q = i :: [] ∧ (effectOf i.d).isSome = true ∧ (s.cell 0 0).ready i.d i.before = true ∧
    s.unitHolds 0 0 i.d = false ∧ okWith (fun _ => true) (vecAddEffect 0 0 i.regs i.d s) = true ∧
    (w.cell 0 0).ready (waitV) [] = false ∧
    ((r.cell 0 0).unitQ .vec).running.find? (fun e => e.n == 0) = some { n := 0, d := issueV, aux := 0 } ∧
    r.reached 0 0 { n := 0, d := issueV, aux := 0 } = true ∧
    (let q : UnitQ := { count := 2, finished := [3, 5] }; q.count ≤ 2 ∧ 2 ∉ q.finished ∧ (∀ k ∈ q.finished, q.count < k) ∧
      q.finished.Nodup ∧ (q.finish 2).count = 4) := by decide +kernel

/-! ### Front end and cast-on -/

/-- Cast-on at a step. -/
def castSt (n : Nat) : State :=
  ({ onSt with dev := .castOn, start := { step3done := decide (3 < n) } } : State).setOb 0x2D00 2 n

theorem witness_FrontEndOnAndOff :
    onSt.fe.fe = .on ∧ 5200 < 2600 + 2601 ∧ (castSt 3).fe.fe = .on ∧ (castSt 3).dev = .castOn ∧ 3 ≤ (castSt 3).castStep ∧
    (∀ v ∈ [(38000 : Int), 46000], State.reset.fe.fe = .off ∧ 38000 ≤ v ∧ v ≤ 46000) ∧ State.reset.fe.offUs = 0 ∧
    State.reset.fe.offHold = false ∧ modeFrom State.reset.fe.known State.reset.starts 1 State.reset.fe.interrupted ≠ 2 ∧
    ((37999 : Int) < 38000 ∧ (46000 : Int) < 46001) ∧
    (let s : State := { fe := { fe := .precharge } }; s.fe.fe = .precharge ∧ s.starts < 2 ^ 32 - 1) := by decide +kernel

theorem witness_InputEntriesFollowTheInput :
    (onSt.fe.measure 42000 200).trips 200 = false ∧ (onSt.fe.measure 42000 5200).trips 5200 = false ∧ 200 < 201 ∧
    onSt.power.sag = false ∧ onSt.nat 0x2020 6 < 2 ^ 32 - 1 ∧ ({ onSt with power := { sag := true } } : State).power.sag = true := by
  decide +kernel

theorem witness_CastOnStepsInOrder :
    (∀ n ∈ [1, 2, 3, 4, 5, 12], (castSt n).fe.fe = .on ∧ (castSt n).dev = .castOn ∧ (castSt n).castStep = n ∧
      ({ durUs := (castSt n).stepLimitUs } : StepReport).failed = false) ∧ (castSt 3).fe.releaseLatched = false ∧
    (castSt 4).start.step3done = true ∧ (castSt 4).nat 0x2D00 4 < 2 ∧ ((castSt 4).setOb 0x2D00 4 1).nat 0x2D00 4 < 2 ∧
    ((castSt 4).setOb 0x2D00 4 2).nat 0x2D00 4 = 2 ∧ (castSt 2).start.step3done = false ∧ (castSt 2).castStep ≠ 3 := by decide +kernel

/-! ### Checks, lost units, links, scrubs -/

theorem witness_CheckFailuresFailTheRow :
    (∀ s ∈ [live, wasteSt], s.fe.fe = .on ∧ isCell 47 35 = true ∧ s.row.phase = .running ∧ s.sec.fwState ≠ 4) ∧
    (∀ c ∈ [0x10, 0x15, 0x20, 0x31], c ∈ causes ∧ c ≠ 0x40 ∧ c ≠ 0x41 ∧ c ≠ 0x43 ∧ c ≠ 0x44) ∧ live.row.waste = false ∧
    wasteSt.row.waste = true ∧ live.start.standby = false ∧
    (let s : State := { live with start := { step3done := true, standby := true } };
      s.start.standby = true ∧ s.dev ≠ .safe ∧ s.dev ≠ .off) := by decide +kernel

theorem witness_LostUnitsAreQueuedForDarning :
    live.fe.fe = .on ∧ live.dev = .running ∧ live.row.phase = .running ∧ live.row.waste = false ∧ live.map.now = none ∧
    (∀ c ∈ [(0, 0), (47, 35)], isCell c.1 c.2 = true ∧ (live.cellUnit c.1 c.2).isSome = true ∧
      (live.cellUnit c.1 c.2).any (fun u => !live.map.known u && live.map.carries u) = true) ∧
    (∀ r ∈ [0, 41], live.map.known (.region r) = false ∧ live.map.carries (.region r) = true) := by decide +kernel

/-- A link with `n` failures of one flit and `k` retries in the last ms. -/
def flitSt (n k : Nat) : State := live.setLink (.mesh 0 0 0) { sameFlit := n, retries := List.replicate k 0 }

theorem witness_FlitRetriesAndScrubs :
    (LinkId.mesh 0 0 0).wf = true ∧ ((flitSt 6 63).link (.mesh 0 0 0)).sameFlit = 6 ∧ ((flitSt 6 63).link (.mesh 0 0 0)).failed = false ∧
    ((flitSt 6 63).clock :: ((flitSt 6 63).link (.mesh 0 0 0)).retries.filter (fun t => decide ((flitSt 6 63).clock < t + 1000000))).length = 64 ∧
    7 ≤ ((flitSt 7 0).link (.mesh 0 0 0)).sameFlit ∧
    64 < ((flitSt 0 64).clock :: ((flitSt 0 64).link (.mesh 0 0 0)).retries.filter (fun t => decide ((flitSt 0 64).clock < t + 1000000))).length ∧
    (flitSt 7 0).row.phase = .running ∧ (flitSt 7 0).row.waste = false ∧ (flitSt 7 0).dev = .running ∧
    ((flitSt 7 0).map.seamRegion 0 0 0).isNone = true ∧ (flitSt 7 0).map.now = none ∧
    (∀ c ∈ [(0, 0), (55, 41)], live.map.cellGated (placeAt c.1 c.2) = false ∧ (live.map.logicalCell (placeAt c.1 c.2)).isSome = true) ∧
    live.map.logicalCell (placeAt 24 0) = none ∧ ({ live.map with gated := true } : MapSt).cellGated (placeAt 24 0) = true ∧
    (0xFFFFFF : Nat) < 0x1000000 ∧
    ((live.map.place 0 0).map (fun p => ({ live with phys := [(p.number, { corrected := [(0, 0)] })] } : State).physCell p.number)).any
      (fun c => c.corrected.any (fun e => decide (e.1 = 0 ∧ live.clock < e.2 + dayNs))) = true ∧
    hbmEnd - 1 < hbmEnd := by decide +kernel

/-! ### Loose traffic -/

/-- Cell (0, 0) asks with 15 requests outstanding; cell (1, 0) has the merge entries given. -/
def looseSt (m : List MergeEnt) : State := (withCell live { loose := 15 }).setCell 1 0 { merge := m }

theorem witness_LooseRequestsAndMerging :
    let a := cellBase 1 0 + reachEnd - 64
    let s := looseSt (List.replicate 31 { line := 0 })
    let t := looseSt [{ line := reachEnd - 64 }]
    s.cellLive 0 0 ∧ t.cellLive 0 0 ∧ (s.cell 0 0).loose < 16 ∧ cellAt a = some 1 ∧ a % 64 = 0 ∧ s.cellPlaced 1 = true ∧
    a % 0x1000000 + 64 ≤ reachEnd ∧ s.meetsAreas 1 0 (a % 0x1000000) 64 = false ∧ ((0, 0) : Nat × Nat) ≠ (1, 0) ∧
    (s.cell 1 0).merge.any (fun e => e.line == a % 0x1000000) = false ∧ (s.cell 1 0).merge.length < 32 ∧
    (t.cell 1 0).merge.any (fun e => e.line == a % 0x1000000) = true ∧
    (∀ n ∈ [1, 16], cellAt ((hbmEnd - 1024) / 64 * 64) = none ∧ okWith (fun _ => true) (s.readHbm ((hbmEnd - 1024) / 64 * 64) (64 * n)) = true) ∧
    (∀ n ∈ [64, 1024], (zeros n).length % 64 = 0 ∧ s.canWrite 1 0 (reachEnd - 1024) n) ∧
    (s.cell 0 0).phase ≠ .endFetched ∧ (t.cell 1 0).merge = [{ line := reachEnd - 64 }] := by
  unfold State.cellLive State.canWrite; decide +kernel

/-! ### Rows and verdicts -/

/-- An open row of waste yarn in READY. -/
def yarnSt : State := { onSt with row := { phase := .running } }

theorem quiet_onSt : onSt.quietModule := by constructor <;> decide +kernel
theorem quiet_yarnSt : yarnSt.quietModule := by constructor <;> decide +kernel

theorem witness_MarksStartOrSkipRows :
    onSt.fe.fe = .on ∧ onSt.row.phase = .waiting ∧ onSt.quietModule ∧ live.row.phase = .running ∧
      ({ onSt with row := {} } : State).row.phase = .idle :=
  ⟨rfl, rfl, quiet_onSt, rfl, rfl⟩

/-- A cell's undo log and a logged HBM line to be undone; a row open for exactly the hang limit, and 1 ns less. -/
def undoSt : State :=
  { withCell live { undo := [(0, zeros 64)] } with row := { phase := .undoing, waste := false, failed := true }, hbm := { log := [(0, zeros 64)] } }

def hangSt (t : Nat) : State := { live with time := { dev := t * 65536 } }

theorem witness_RowsCommitOrAreUndone :
    yarnSt.quietModule ∧ yarnSt.row.phase = .running ∧ yarnSt.row.waste = true ∧ yarnSt.now ≤ yarnSt.row.deadline ∧
    undoSt.row.phase = .undoing ∧ undoSt.hbm.heldWrites = [] ∧ (∀ a, undoSt.row.alarm = some a → a.cause ≠ 0x21) ∧
    undoSt.row.fault = none ∧ undoSt.row.unrecoverable = false ∧ undoSt.darningDue = false ∧ undoSt.grouped = false ∧
    (let t := live.row.startNs + live.nat 0x2212 1 * live.periodNs;
      (hangSt t).row.startNs + (hangSt t).nat 0x2212 1 * (hangSt t).periodNs ≤ (hangSt t).now ∧
        (hangSt (t - 1)).now < (hangSt (t - 1)).row.startNs + (hangSt (t - 1)).nat 0x2212 1 * (hangSt (t - 1)).periodNs) :=
  ⟨quiet_yarnSt, rfl, rfl, by decide +kernel, rfl, rfl, fun a h => (by cases h), rfl, rfl, by decide +kernel, by decide +kernel,
    by decide +kernel⟩

/-- A member of group 9 of two modules, at row 0. -/
def groupSt (p : RowPhase) : State := { (live.setOb 0x2220 1 9).setOb 0x2220 2 2 with row := { phase := p, waste := false } }

theorem witness_VerdictMessagesTakeEffect :
    let v : VerdictMsg := { groupId := 9, row := 0, attempt := 0 }
    live.naela.rxDone = [] ∧ v.groupId ≠ live.nat 0x2220 1 ∧ v.groupId = (groupSt .running).nat 0x2220 1 ∧
      (groupSt .running).grouped = true ∧ v.row = (groupSt .running).row.num ∧ v.attempt = (groupSt .running).row.attempt ∧
      (groupSt .waitReplay).row.phase = .waitReplay := by decide +kernel

/-! ### Darning, stacks, swatches -/

/-- A unit waits for its darning under the map. -/
def darnSt (m : MapSt) (u : Lost) : State := { wasteSt with map := { m with queue := [(u, 0x40)] } }

theorem darnReady_of (m : MapSt) (u : Lost) (h : m.now = none) (h' : m.redo = []) : (darnSt m u).darnReady u 0x40 :=
  { fe := rfl, dev := rfl, phase := rfl, waste := rfl, pats := rfl, run := rfl, now_ := h, queue := rfl, redo := h' }

theorem witness_DarningLostUnits :
    (darnSt {} (.cell 41 6 7)).darnReady (.cell 41 6 7) 0x40 ∧ ({} : MapSt).colSpare 41 7 = true ∧
    (darnSt {} (.cell 41 6 7)).map.unusable (.cell 41 6 7) = false ∧
    (darnSt {} (.region 41)).darnReady (.region 41) 0x40 ∧ (darnSt {} (.region 41)).map.rowSpare 5 = true ∧
    (darnSt {} (.region 41)).map.badRegions.contains 41 = false ∧
    (darnSt { badRegions := [38] } (.region 41)).darnReady (.region 41) 0x40 ∧
    (darnSt { badRegions := [38] } (.region 41)).map.rowSpare 5 = false ∧
    (darnSt { badRegions := [38] } (.region 41)).map.badRegions.contains 41 = false ∧
    ((darnSt { badRegions := [38] } (.region 41)).map.logicalRegion 41).isSome = true ∧ wasteSt.darningDue = false ∧
    (let s : State := { wasteSt with map := { now := some (.region 41, 0x40) } };
      s.map.now = some (.region 41, 0x40) ∧ s.row.phase ≠ .darning) ∧
    (let d : Defect := { kind := 1, source := 0, region := 41, ccol := 7, crow := 6 };
      d.wf = true ∧ (defectUnit d).isSome = true) :=
  ⟨darnReady_of _ _ rfl rfl, by decide +kernel, by decide +kernel, darnReady_of _ _ rfl rfl, by decide +kernel, by decide +kernel,
    darnReady_of _ _ rfl rfl, by decide +kernel⟩

/-- One selector: cell (6, 7) of region 41. -/
def selSt (m : MapSt) : State := { wasteSt with map := m, flash := { suspectList := [1, 0] ++ le 2 41 ++ [7, 6] ++ zeros 10 } }

theorem witness_StacksAndSwatches :
    live.fe.fe = .on ∧ live.map.outStacks.contains 47 = false ∧ live.rowNames 47 = false ∧ live.row.phase = .running ∧
    lifeSt.rowNames 0 = true ∧
    (let d : Defect := { kind := 1, source := 0, region := 41, ccol := 7, crow := 3 };
      d.wf = true ∧ defectUnit d = some (.cell 41 3 7) ∧ wasteSt.map.known (.cell 41 3 7) = false ∧
        wasteSt.map.carries (.cell 41 3 7) = false ∧ wasteSt.map.now = none) ∧
    (selSt {}).selectors.map (fun l => (l.unit.region, (selSt {}).skipsSelector l)) = [(41, false)] ∧
    (selSt { badCells := [(335, 6)] }).selectors.map (fun l => (selSt { badCells := [(335, 6)] }).skipsSelector l) = [true] := by
  decide +kernel

/-! ### Blocks, regions, protection -/

theorem witness_BlocksFollowTheirSupply :
    (587 : Nat) < 588 ∧ live.atVmax 587 = false ∧ (live.blk 587).warnMask = 0 ∧
    (let s := live.setBlk 587 { slowRaise := 32, warnMask := 1, warnFreeUs := 9000 };
      s.atVmax 587 = true ∧ (s.blk 587).sustained = false ∧ (s.blk 587).warnMask ≠ 0 ∧ 9000 ≤ (s.blk 587).warnFreeUs) ∧
    (live.setBlk 587 { warnFreeUs := 8999 }).atVmax 587 = false ∧ ((live.setBlk 587 { warnFreeUs := 8999 }).blk 587).warnFreeUs < 9000 ∧
    live.raiseRows 587 = [] ∧ live.nat 0x2500 0x0F ≠ 2 ∧
    (let s : State := { live.setOb 0x2500 0x0F 2 with power := { planFixed := live.row.num + 2, hints := [{ row := live.row.num + 1, level := 64, dur := 0x1FFFFFF }] } };
      s.nat 0x2500 0x0F = 2 ∧ (s.raiseRows 587).getLast? = some (live.row.num + 1)) := by
  decide +kernel

theorem witness_BlockLossesAreRecorded :
    (live.setOb 0x424B 7 0x7F).nat (0x4000 + 587) 7 = 0x7F ∧ bit ((live.setOb 0x424B 7 0x7F).nat (0x4000 + 587) 7) 7 = false ∧
    bit (live.nat (0x4000 + 587) 7) 7 = true ∧ live.phasesLost 587 < 3 ∧ (live.setOb 0x424B 7 0x3F).phasesLost 587 < 3 ∧
    live.flash.full = false ∧ live.flash.defects.length < 16383 ∧ bit (live.blk 587).failedSensors 3 = false ∧
    { live.blk 587 with failedSensors := (live.blk 587).failedSensors ||| 2 ^ 3 }.sensors ≠ 0 ∧ live.dev = .running ∧
    live.row.waste = false ∧ live.map.now = none ∧ live.map.known (.block 587) = false ∧ live.map.carries (.block 587) = true ∧
    (live.blk 587).failedSensors = 0 ∧ (1149 : Nat) < 1150 := by decide +kernel

theorem witness_RegionLoopsAndTrips :
    (let s := live.setOb (0x3000 + 41) 0x25 100;
      s.nat (0x3000 + 41) 0x25 < 101 ∧ 0 < s.nat (0x3000 + 41) 0x25 ∧ s.bubbling = false ∧ (s.setOb 0x2500 4 1).bubbling = true) ∧
    (live.setReg 41 { ramp := 62 }).reg 41 = { ramp := 62 } ∧ (live.setReg 41 { ramp := 62, rampHalf := true }).reg 41 = { ramp := 62, rampHalf := true } ∧
    live.neighbourHot 41 = false ∧ (live.setReg 40 { lastDeciA := 7201 }).neighbourHot 41 = true ∧
    (live.reg 41).recent = [] ∧ live.power.preRamp = none ∧ live.power.downSlope = none ∧
    (let s : State := { live with power := { shareUs := 1 } }; s.power.shareUs ≠ 0 ∧ s.power.shareScale = none ∧ s.carriesRegion 41 = true) ∧
    (live.reg 41).overTrip < 3 ∧ 3 ≤ ((live.setReg 41 { overTrip := 3 }).reg 41).overTrip ∧ live.map.known (.region 41) = false ∧
    live.map.carries (.region 41) = true ∧ live.nat (0x3000 + 41) 0x24 < 3 ∧
    live.nat (0x3000 + 41) 0x23 * 10 < live.nat (0x3000 + 41) 0x23 * 10 + 1 ∧ (∀ e ∈ live.power.convFailed, e.1 ≠ 4) ∧
    (let s : State := { live with power := { convFailed := [(4, 0)] } }; (4, 0) ∈ s.power.convFailed ∧ (4, 1) ∉ s.power.convFailed ∧
      s.dev ≠ .safe ∧ s.dev ≠ .off) := by decide +kernel

/-- A share of nothing is no more than any floor. -/
theorem witness_floor_in_share :
    let s := live.setOb (0x3000 + 41) 0x25 0; s.shareDeciA 41 ≤ s.nat 0x2500 8 * (s.reg 41).meanDeciA / 100 := by
  have h : (live.setOb (0x3000 + 41) 0x25 0).nat (0x3000 + 41) 0x25 = 0 := by decide +kernel
  simp [State.shareDeciA, h]

/-- LOOKAHEAD with a plan that rises to the next row; the other modes. -/
theorem witness_ProtectionLimitsTheCap :
    live.fe.fe = .on ∧ live.nat 0x2500 0x0F ≠ 2 ∧
    (let s : State := { live.setOb 0x2500 0x0F 2 with power := { plan := [(0, 10), (1, 20)] } };
      s.nat 0x2500 0x0F = 2 ∧ s.feedPeers = [] ∧ s.ownPlan s.row.num < s.ownPlan (s.row.num + 1)) ∧
    (let s : State := { live.setOb 0x2020 5 16501 with regs := (List.range 42).map (fun r => (r, { capN := 4 })) }; s.unattainable = true) ∧
    live.unattainable = false ∧ live.dev ≠ .safe ∧ live.dev ≠ .off ∧ ({ live with dev := .safe } : State).dev = .safe := by decide +kernel

/-! ### Time and Naela -/

/-- One second after a rising edge, within 1 µs. -/
def ppsSt (d : Nat) : State := { onSt with clock := d, time := { ppsLast := some 0, ppsCount := 2 } }

theorem witness_TimeFollowsItsSources :
    onSt.fe.fe = .on ∧ onSt.dev ≠ .safe ∧ onSt.dev ≠ .off ∧ (onSt.reg 41).fast = 0 ∧
    0 < ((onSt.setReg 41 { fast := 1 }).reg 41).fast ∧ onSt.time.ppsLast = none ∧
    (∀ d ∈ [999999000, 1000001000], (ppsSt d).time.ppsLast = some 0 ∧ 999999000 ≤ (ppsSt d).clock - 0 ∧
      (ppsSt d).clock - 0 ≤ 1000001000 ∧ (ppsSt d).time.ppsCount = 2 ∧ (ppsSt d).time.ppsPending = false) ∧
    (∀ v ∈ [2, 3], (onSt.setOb 0x2100 2 v).nat 0x2100 2 = v) ∧ onSt.nat 0x2100 2 ≠ 2 ∧ onSt.nat 0x2100 2 ≠ 3 ∧ 17 < onSt.portCount ∧
    (onSt.refIn 41 = 0 ∧ refBest 41 (onSt.refLostBy 41 1) = some 1 ∧ refBest 41 (onSt.refLostBy 41 4) = some 1 ∧
      (let s := (onSt.setReg 41 { refLost := [0] }).setOb (0x3000 + 41) 3 1; s.refIn 41 = 1 ∧ refBest 41 (s.refLostBy 41 0) = some 0)) ∧
    ({ onSt with time := { announce := some (17, 0, 0, 0, 0) } } : State).timeParent = some 17 ∧ onSt.timeParent ≠ some 17 ∧
    onSt.nat 0x2100 1 = 0 ∧ onSt.time.announce = none ∧ ({ onSt with time := { announce := some (0, 0, 0, 0, 0) } } : State).time.announce ≠ none ∧
    onSt.nat 0x2100 9 ≠ 2 := by decide +kernel

/-- Port 17 in STATE `v`. -/
def portSt (v : Nat) (q : PortSt) : State := (onSt.setOb (0x2620 + 17) 1 v).setPort 17 q

theorem witness_PortsChangeState :
    17 < onSt.portCount ∧ (∀ v ∈ [1, 2, 3, 4, 5, 6, 7, 8], (portSt v {}).portState 17 = v) ∧ (portSt 1 {}).nat (0x2620 + 17) 7 ≠ 0 ∧
    ((portSt 1 {}).setOb (0x2620 + 17) 7 0).nat (0x2620 + 17) 7 = 0 ∧ (portSt 1 {}).leftUntrained 17 = false ∧
    (let s : State := { portSt 1 {} with dev := .castOn, start := { mode := 1 }
                                         flash := { journal := [{ start := 0, step := 12, result := 3, ukind := 13, udetail := 17 * 256 }] } };
      (((s.setOb 0x2D00 2 12).setOb 0x2D00 3 1).portState 17 = 1 ∧ ((s.setOb 0x2D00 2 12).setOb 0x2D00 3 1).leftUntrained 17 = true)) ∧
    ((portSt 3 {}).port 17).negotiated = none ∧
    3 ≤ popcount 4 (((portSt 4 { groups := 15 }).port 17).groups &&& (15 - 8)) ∧
    popcount 4 (((portSt 2 { groups := 15 }).port 17).groups &&& (15 - 3)) < 3 ∧ (portSt 5 {}).naela.sentMsgs = [] ∧
    (let s : State := { portSt 5 {} with naela := { sentMsgs := [{ dst := 1, id := 1, bytes := [], port := 17 }] } };
      ∃ m ∈ s.naela.sentMsgs, m.port = 17) := by decide +kernel

/-- A message frame with this FSEQ. -/
def frame (n : Nat) : Bytes := frameBytes 1 0 n 0 0 0 [7]

/-- In turn, damaged, ahead, taken before; a frame kept for replay. -/
theorem witness_FramesAreTakenInOrder :
    (zeros 512).length = 512 ∧ (portSt 2 {}).linkUp 17 = false ∧ (portSt 3 {}).linkUp 17 = true ∧ (portSt 6 {}).linkUp 17 = true ∧
    frameOk (zeros 511) = false ∧ (∀ n, frameOk (frame n) = true) ∧ (∀ n ∈ [0, 1, 2], uAt (frame n) 0 1 = 1 ∧ uAt (frame n) 4 4 = n) ∧
    ((portSt 4 {}).port 17).expect = 1 ∧ seqAfter 2 1 = true ∧ seqAfter 0 1 = false ∧
    (let q := (portSt 4 { replay := [(1, frame 1)] }).port 17;
      q.resends = [] ∧ q.resentAt = [] ∧ (q.replay.map (·.1)).Nodup ∧ q.replay.length ≤ 256 ∧ (q.acked + 1) % 2 ^ 32 = 1 ∧ q.replay ≠ []) :=
  ⟨by decide +kernel, by decide +kernel, by decide +kernel, by decide +kernel, by decide +kernel,
    fun n => frameOk_frameBytes 1 0 n 0 0 0 [7] (by decide) (by decide), by decide +kernel, by decide +kernel, by decide +kernel,
    by decide +kernel, by decide +kernel⟩

/-- A message from this module to itself, of the open row, MSGID 1; its bytes with one added. -/
def msg (t addr : Nat) (body : Bytes) : Bytes := messageBytes t 0 0 0 0 1 0 addr body

theorem witness_MessagesTakeEffect :
    let s := lifeSt
    let m := msg 1 0 (zeros 64)
    s.naela.rxDone = [] ∧ msgDst (m ++ [0]) = s.moduleId ∧ msgCrcOk (m ++ [0]) = false ∧ msgDst m = s.moduleId ∧ msgCrcOk m = true ∧
    s.naela.early = [] ∧ s.naela.heldMsgs = [] ∧ s.tookId (msgSrc m) (msgId m) = false ∧ s.nextInOrder (msgSrc m) (msgId m) = true ∧
    s.inGroup (msgSrc m) = true ∧ s.rowStands (msgRow m) (msgAttempt m) = 0 ∧ msgType m = 1 ∧ msgType (msg 2 0 (zeros 64)) = 2 ∧
    okWith (fun _ => true) (s.landBody (msgAddr m) (msgBody m)) = true ∧ unitsAgree (msgBody (msg 2 0 (zeros 64))) = false ∧
    s.row.waste = false ∧ s.grouped = false := by
  intro s m
  have h : msgCrcOk m = true := msgCrcOk_messageBytes 1 0 0 0 0 1 0 0 (zeros 64) (by decide)
  exact ⟨by decide +kernel, by decide +kernel, by decide +kernel, by decide +kernel, h, by decide +kernel, by decide +kernel,
    by decide +kernel, by decide +kernel, by decide +kernel, by decide +kernel, by decide +kernel, by decide +kernel, by decide +kernel,
    by decide +kernel, by decide +kernel, by decide +kernel⟩

/-- A unit of a partial sum, a packed tile of zeros with its record (R406), lands. -/
def unit0 : Bytes := zeros 4096 ++ [0, 0, 0, 0, 0, 0, 1, 0, 0, 0, 0, 0, 1] ++ zeros 371

theorem witness_CollectiveUnit : unitsAgree unit0 = true ∧ okWith (fun _ => true) (lifeSt.landBody 0 unit0) = true := by
  decide +kernel

theorem witness_ControlMessages :
    (let b := msgBody (msg 0x11 0 (zeros 11 ++ [31] ++ zeros 52));
      uAt b 0 4 = live.nat 0x2220 1 ∧ uAt b 11 1 < 32 ∧ live.rowStands (uAt b 4 6) (uAt b 10 1) = 0 ∧ uAt b 14 1 = 0) ∧
    (portSt 3 {}).portState 17 = 3 ∧ ((portSt 3 {}).port 17).tested = false ∧
    (let b := msgBody (msg 0x15 0 ([1, 0] ++ zeros 6 ++ [1] ++ zeros 7));
      b ≠ [] ∧ uAt b 0 2 ≠ onSt.moduleId ∧ Tab.get? onSt.naela.linkAt (uAt b 0 2) = none) ∧
    (∀ n ∈ [2, 3], ({ live with naela := { sentMsgs := [{ dst := 1, id := 1, bytes := [], sends := n }] } } : State).naela.sentMsgs.map
      (fun e => (e.sends, e.inGroup)) = [(n, true)]) := by decide +kernel

/-- An announcement of better quality by another module: of the hashes 0 and 1 one is not this module's. -/
theorem witness_TimeMessage : ∃ h < 2,
    let b := msgBody (msg 0x12 0 ([2, 1, 0, 0, BitVec.ofNat 8 h] ++ zeros 43))
    uAt b 0 1 = 2 ∧ uAt b 4 4 ≠ ownHash ∧ onSt.nat 0x2100 9 = 0 ∧ onSt.time.announce = none ∧
      betterMaster (claimOf (uAt b 1 1) (uAt b 2 1) (uAt b 4 4)) onSt.ownClaim = true := by
  have ho : onSt.ownQuality = 2 := by decide +kernel
  have hr : onSt.nat 0x2100 9 = 0 := by decide +kernel
  have better : ∀ pr m, betterMaster (claimOf 1 pr m) onSt.ownClaim = true := by
    intro pr m
    unfold State.ownClaim claimOf betterMaster
    rw [ho, hr]
    cases Config.masterRole m <;> simp
  have h1 : ∀ h < 2, uAt (msgBody (msg 0x12 0 ([2, 1, 0, 0, BitVec.ofNat 8 h] ++ zeros 43))) 1 1 = 1 := by decide +kernel
  by_cases h : ownHash = 0
  · refine ⟨1, by decide, by decide +kernel, ?_, hr, rfl, ?_⟩
    · rw [h]; decide +kernel
    · have e := h1 1 (by decide)
      rw [e]; exact better _ _
  · refine ⟨0, by decide, by decide +kernel, fun e => h ?_, hr, rfl, ?_⟩
    · rw [← e]; decide +kernel
    · have e := h1 0 (by decide)
      rw [e]; exact better _ _

/-- A plan from another member of the feed group: for any membership that has one (log entry 18). -/
theorem witness_PlanMessage (h : Config.feedMember 1 5 = true) :
    let s := (onSt.setOb 0x2500 0x0C 1).setOb 0x2500 0x0D 2
    let b := msgBody (msg 0x13 0 ([1, 0, 0, 0] ++ zeros 8 ++ [5, 0] ++ zeros 66))
    uAt b 0 4 = s.nat 0x2500 0x0C ∧ uAt b 12 2 ∈ s.feedPeers := by
  refine ⟨by decide +kernel, ?_⟩
  have h1 : uAt (msgBody (msg 0x13 0 ([1, 0, 0, 0] ++ zeros 8 ++ [5, 0] ++ zeros 66))) 12 2 = 5 := by decide +kernel
  have h2 : ¬(((onSt.setOb 0x2500 0x0C 1).setOb 0x2500 0x0D 2).nat 0x2500 0x0C = 0 ∨
      ((onSt.setOb 0x2500 0x0C 1).setOb 0x2500 0x0D 2).nat 0x2500 0x0D ≤ 1) := by decide +kernel
  have h3 : ((onSt.setOb 0x2500 0x0C 1).setOb 0x2500 0x0D 2).nat 0x2500 0x0C = 1 := by decide +kernel
  have h4 : (5 != ((onSt.setOb 0x2500 0x0C 1).setOb 0x2500 0x0D 2).moduleId) = true := by decide +kernel
  unfold State.feedPeers
  rw [if_neg h2, h1]
  exact List.mem_filter.mpr ⟨List.mem_range.mpr (by decide), by rw [h3, h4, h]; rfl⟩

/-! ### More cases of the clauses above -/

/-- An engine with a job and without one; an access beyond its slice; a versioned line written before in the row and not. -/
theorem witness_HbmWrites_engines :
    (jobSt {}).row.phase = .running ∧ ((jobSt {}).engine 0).running = none ∧ (onSt.engine 47).running = none ∧ onSt.row.phase ≠ .running ∧
    onSt.cellRuns 0 0 = false ∧
    (let s := jobSt { running := some adamRun };
      s.on = true ∧ s.row.phase = .running ∧ (s.engine 0).running = some adamRun ∧ s.runPattern = some lifePat ∧ s.hbm.poisoned = [] ∧
        (∀ w < 64, (s.window w).1 = 0) ∧ (1 * 0x2000000000 < 0x1FFFFFFFFF + 2) ∧
        (regionAt lifePat.regions 0x200000).map (·.attr) = some 2 ∧ s.hbmOk 0x2FFFC0 64 = true ∧
        s.hbm.written.contains 0x2FFFC0 = false) ∧
    (let s : State := { lifeSt with hbm := { log := [(0x1FFFC0, zeros 64)], written := [0x2FFFC0] } };
      s.hbm.log.any (fun e => e.1 == 0x1FFFC0) = true ∧ s.hbm.written.contains 0x2FFFC0 = true) := by decide +kernel

/-- A SORT and a TOPK whose destination is 32 modulo 64: the values begin at the boundary at or after the keys' end. -/
theorem witness_VecSort_unaligned :
    (let d := dsc [(160, 1), (88, 1025), (63, 4), (59, 10), (55, 10), (46, 1), (136, 512)];
      live.operandAt 0 0 (fld d 111 88) 0 0x8020 ∧ cdiv (0x8020 + 5 * 4) 64 * 64 = 0x8040 ∧ live.canWrite 0 0 0x8020 (0x8040 + 20 - 0x8020)) := by
  unfold State.operandAt State.canWrite; decide +kernel

/-- The link a direction's data comes by is being retried; the data's group has another stream first; partial sums to the ring port. -/
theorem witness_SynStreams_holds :
    ((synSt [goodTr]).setLink (.mesh 1 0 1) { sameFlit := 1 }).retrying 0 0 0 = true ∧ (synSt [goodTr]).retrying 0 0 0 = false ∧
    (let link : Bytes := le 2 1 ++ le 2 0 ++ [1, 0, 2, 0] ++ zeros 8 ++ (le 2 8 ++ [0, 0, 1] ++ zeros 27) ++ (le 2 7 ++ [0, 0, 64] ++ zeros 27);
      (runSt (patWith [] link [] [])).synTurn 0 0 recvD true = false) ∧
    (let d := dsc [(244, 1), (181, 4), (169, 6), (145, 512), (127, 1), (128, 1), (129, 63)];
      synPsum d = true ∧ synDir d = 4 ∧ (tilesOf (synPacked d) ((synSt []).scratch 0 0 0x4000 4096)).isSome = true) ∧
    (((synSt []).synEntry 0 0 ringD false).map (fun e => e.2.uses)) = some 2 := by decide +kernel

/-- 16 requests outstanding and a MOV with a tensor in another cell; a MOV that waits for the one before it. -/
theorem witness_Units_hold :
    let i : Issued := { d := dsc [(252, 3), (160, 32), (136, 40)], regs := List.replicate 32 0, before := [] }
    let far (n : Nat) : State := withCell { runSt pat0 with mem := spAt [(0x400, tensor (cellBase 1 0 + 0x4000) 11 [2] []), (0x500, tensor (cellBase 0 0 + 0x6000) 11 [2] [])] }
      { phase := .running, loose := n, mov := { q := [i] } }
    let busy : State := withCell (runSt pat0) { phase := .running, mov := { started := 1, running := [{ n := 0, d := i.d, aux := 0 }] } }
    (far 16).looseHolds 0 0 i = true ∧ (far 15).looseHolds 0 0 i = false ∧ ((far 16).cell 0 0).ready i.d i.before = true ∧
      (far 15).unitHolds 0 0 i.d = false ∧ busy.unitHolds 0 0 i.d = true := by decide +kernel

/-- The steps end once step 3 has been left, too. -/
theorem witness_CastOn_again :
    (let s : State := { castSt 2 with start := { step3done := true } };
      s.fe.fe = .on ∧ s.dev = .castOn ∧ s.castStep = 2 ∧ s.start.step3done = true) ∧
    (castSt 12).start.step3done = true ∧ (castSt 1).start.step3done = false ∧ (castSt 1).castStep ≠ 3 := by decide +kernel

/-- Outside an attempt, in an aborted one, between the rows of a run; a cell lost; a region; an activation's phases. -/
theorem witness_CheckFailures_phases :
    (({ live with row := { phase := .aborted } } : State).row.phase = .aborted) ∧ onSt.row.phase = .waiting ∧
    (let s : State := { runSt pat0 with row := { phase := .waiting } };
      s.row.phase = .waiting ∧ s.run.isSome = true ∧ s.row.heldFail = none) ∧ State.reset.row.phase = .idle ∧
    (0x40 ∈ causes ∧ 0x41 ∈ causes ∧ 0x43 ∈ causes ∧ 0x44 ∈ causes ∧ 0x7F ∉ causes) ∧
    (wasteSt.map.place 47 35).isSome = true ∧
    (∀ e ∈ [(1, false), (3, false), (3, true)], (let s : State := { live with sec := { fwState := 4, phase := e.1, retried := e.2 } };
      s.sec.fwState = 4 ∧ s.sec.phase = e.1 ∧ s.sec.retried = e.2 ∧ s.start.standby = false ∧ s.dev ≠ .safe ∧ s.dev ≠ .off)) := by
  decide +kernel

/-- A correction within 24 h at the same line, and one older; the escalation limits by the module's clock. -/
theorem witness_Flits_clock :
    (let s : State := { flitSt 6 63 with clock := 999999 };
      (s.clock :: (s.link (.mesh 0 0 0)).retries.filter (fun t => decide (s.clock < t + 1000000))).length = 64) ∧
    (let s : State := { flitSt 0 64 with clock := 999999 };
      64 < (s.clock :: (s.link (.mesh 0 0 0)).retries.filter (fun t => decide (s.clock < t + 1000000))).length) ∧
    (let s : State := { flitSt 0 64 with clock := 1000000 };
      (s.clock :: (s.link (.mesh 0 0 0)).retries.filter (fun t => decide (s.clock < t + 1000000))).length ≤ 64) ∧
    (let s : State := { live with clock := dayNs - 1, phys := [((placeAt 0 0).number, { corrected := [(0, 0)] })] };
      ∃ e ∈ (s.physCell (placeAt 0 0).number).corrected, e.1 = 0 ∧ s.clock < e.2 + dayNs) := by decide +kernel

/-- A row that closes at its deadline before the mark has fallen; an undo without an error, and two with one: a line of a cell's log
area, and a line of the HBM undo share. -/
theorem witness_Rows_ends :
    (let s : State := { yarnSt with row := { yarnSt.row with deadline := 1000 }, time := { dev := 1000 * 65536 } };
      s.now = s.row.deadline ∧ s.now ≤ s.row.deadline ∧ s.row.markNs < s.row.deadline) ∧
    undoSt.badCellLogs = [] ∧ undoSt.badHbmRecords = [] ∧ undoSt.row.lanesDue = [] ∧ undoSt.row.suspects = [] ∧
    (∀ b i, Suspect.link (.ring b i) ∉ undoSt.row.suspects) ∧
    (let s : State := { undoSt with phys := [((placeAt 0 0).number, { refill := [undoBase] })] };
      s.badCellLogs ≠ [] ∧ s.dev = .running ∧ s.row.waste = false ∧ s.row.fault = none ∧ s.grouped = false) ∧
    (let s : State := { undoSt with hbm := { undoSt.hbm with poisoned := undoSt.recordLines 0 0 } }; s.badHbmRecords ≠ []) := by
  refine ⟨by decide +kernel, by decide +kernel, by decide +kernel, rfl, rfl, ?_, by decide +kernel, by decide +kernel⟩
  intro b i h
  cases h

/-- A swatch's cells tick waste yarn, or run; a selector with runs to go. -/
theorem witness_Swatches_yarn :
    (let d : Defect := { kind := 1, source := 0, region := 0, ccol := 0, crow := 0 };
      d.wf = true ∧ wasteSt.inYarn (swatchPlaces d) = true ∧ (withCell wasteSt { phase := .running }).inYarn (swatchPlaces d) = false) ∧
    ((selSt {}).selectors.map (fun l => (l.runs, (selSt {}).inYarn (swatchPlaces l.unit)))).all (fun e => e.2) = true ∧
    (∀ k ∈ [62, 63, 64], ((live.setReg 41 { ramp := k }).reg 41).ramp = k) := by decide +kernel

/-! ### Host queues and commands -/

/-- A completion of queue 63 that is held. -/
def heldE : Ended := { queue := 63, no := 1, sqhead := 1, irq := false, bytes := zeros 64 }

theorem witness_HostQueuesRun :
    onSt.serves = true ∧ (onSt.queue 63).sqent = 15 ∧ (onSt.queue 63).cqent = 15 ∧ onSt.host.held = [] ∧ onSt.host.fetched = [] ∧
    ((onSt.queue 63).en = false ∧ (onSt.queue 63).active = false) ∧ 63 < (onSt.setOb 0x2B00 1 64).nat 0x2B00 1 ∧
    (onSt.setOb 0x2B00 1 63).nat 0x2B00 1 ≤ 63 ∧ ((onSt.setQueue 63 { en := true }).queue 63).en = true ∧
    (heldE.queue = 63 ∧ heldE.silent = false ∧ heldE.needDigest = false ∧ onSt.hbm.waitSnoop = [] ∧ heldE.writes = [] ∧ heldE.digAddr = 0 ∧
      heldE.irq = false ∧ heldE.bytes.length = 64 ∧ uAt heldE.bytes 4 1 ≠ 1 ∧ ({ onSt.queue 63 with cqhead := 15 } : QueuePair).room = true ∧
      onSt.fieldOk ((onSt.queue 63).cqbase + 64 * (onSt.queue 63).cqtail) 64 = true ∧ onSt.hbm.inAlt = [] ∧ onSt.hbm.log = []) ∧
    (let s : State := { onSt.setQueue 63 { en := true, sqtail := 1 } with mem := memAt [(0, [0x21])] };
      s.fetches = true ∧ ((List.range 64).map (fun i => (s.host.rrFetch + 1 + i) % 64)).find? s.fetchable = some 63 ∧
        s.refusesCommands = false ∧ s.fieldOk ((s.queue 63).sqbase + 128 * (s.queue 63).sqhead) 128 = true ∧
        cmdOpcode (s.readField ((s.queue 63).sqbase + 128 * (s.queue 63).sqhead) 128) ∈ opcodes) ∧
    ({ onSt with dev := .safe } : State).fetches = false ∧
    (let s := onSt.setQueue 63 { coal := 1, coalTime := 1, ien := true };
      (s.queue 63).coal ≠ 0 ∧ (s.queue 63).coalTime ≠ 0 ∧ (s.queue 63).ien = true ∧ s.host.masked.contains 63 = false) ∧
    (onSt.queue 63).coal = 0 := by decide +kernel

/-- A command's bytes: opcode and fields by offset, each of the width given. -/
def cmd (op : Nat) (fs : List (Nat × Nat × Nat)) : Bytes :=
  fs.foldl (fun b f => patch b f.1 (le f.2.1 f.2.2)) (BitVec.ofNat 8 op :: zeros 127)

/-- A pattern in slot 0, one tensor to copy in HBM. -/
def hostSt : State :=
  { onSt with pats := [(0, patWith [] [] [] exMaps)], mem := memAt [(0x1000, tensor 0x2000 11 [4] []), (0x1080, tensor 0x3000 11 [4] [])] }

theorem turn_hostSt : hostSt.turnOf 63 := by unfold State.turnOf; decide +kernel

def runC : Bytes := cmd 0x02 []
def reshardC : Bytes := cmd 0x03 [(18, 2, 1), (20, 2, 2)]
def copyC : Bytes := cmd 0x04 [(16, 8, 0x1000), (24, 8, 0x1080)]
def advanceC : Bytes := cmd 0x11 [(16, 4, 1), (24, 8, 0x1000), (32, 8, 0x2000)]

/-- Commands that pass, and commands that fail, their checks. -/
theorem witness_RunCommandsWait :
    hostSt.turnOf 63 ∧ [runC, reshardC, copyC, advanceC, zeros 128].map List.length = List.replicate 5 128 ∧ hostSt.host.fetched = [] ∧
    (let u (c : Bytes) := (hostSt.enterFetched 63 c).2;
      okWith (fun _ => true) ((u runC).checkRunTurn runC) = true ∧ okWith (fun _ => true) ((u reshardC).checkReshard reshardC) = true ∧
        okWith (fun _ => true) ((u copyC).checkCopy copyC) = true ∧ headerOk 0x11 [(16, 4), (24, 24)] advanceC = true ∧
        addrsOk advanceC [24, 32, 40] = true ∧
        [okWith (fun _ => true) ((u (zeros 128)).checkRunTurn (zeros 128)), okWith (fun _ => true) ((u (zeros 128)).checkReshard (zeros 128)),
          okWith (fun _ => true) ((u (zeros 128)).checkCopy (zeros 128)), headerOk 0x11 [(16, 4), (24, 24)] (zeros 128)] =
          [false, false, false, false]) :=
  ⟨turn_hostSt, by decide +kernel, rfl, by decide +kernel⟩

/-- The pool, of one page a slice, at 1 GiB, the session area at 2 GiB; both patterns of set 0 in slot 0. -/
def sessPat : Pattern :=
  patWith ((List.range 48).map (fun i => { base := i * 0x2000000000 + 0x40000000, len := 0x200000, alt := 0, attr := 3 })
    ++ [{ base := 0xA0000000, len := 0x200000, alt := 0, attr := 3 }]) [] [] []

def sessSt (v : Session) : State :=
  { (((((((((onSt.setOb 0x2B10 1 0x40000000).setOb 0x2B10 2 1).setOb 0x2B11 1 0x80000000).setOb 0x2B20 1 0).setOb 0x2B20 2 0).setOb 0x2B20 4
      1).setOb 0x2B20 5 1).setOb 0x2B20 6 64).setOb 0x2B20 7 64).setOb 0x2B20 8 32 with
    pats := [(0, sessPat)], sess := [(0, v)], mem := memAt [(0x1000, le 4 0x10000)] }

def waiting (c : Bytes) : Fetched := { queue := 63, cmd := c, sqhead := 1, no := 1, wait := true }

/-- RUNNING between rows, the command waiting. -/
def startSt (s : State) (c : Bytes) : State := { s with dev := .running, host := { fetched := [waiting c] } }

theorem witness_RunsStart :
    (startSt hostSt runC).canStart = true ∧ (startSt hostSt runC).nextRun = some (waiting runC) ∧ cmdOpcode runC = 0x02 ∧
    okWith (fun _ => true) (({ startSt hostSt runC with host := { (startSt hostSt runC).host with rrRun := 63 } } : State).checkRun runC) = true ∧
    hostSt.canStart = false ∧
    (let s := startSt (sessSt { status := 2, maxpos := 63 }) advanceC;
      s.canStart = true ∧ s.nextRun = some (waiting advanceC) ∧ cmdOpcode advanceC = 0x11 ∧
        okWith (fun a => a.handles == [0x10000]) (({ s with host := { s.host with rrRun := 63 } } : State).checkAdvance advanceC) = true) ∧
    onSt.nextRun = none := by decide +kernel

def openC : Bytes := cmd 0x10 [(20, 4, 1)]
def closeC (z : Nat) : Bytes := cmd 0x12 [(16, 4, 0x10000), (20, 1, z)]
def unloadC : Bytes := cmd 0x01 [(24, 1, 1), (26, 2, 0)]
def receiptC (new : Nat) : Bytes := cmd 0x30 [(32, 8, 0x4000), (24, 4, 1), (28, 1, new)]

theorem witness_ImmediateCommandsTakeEffect :
    (sessSt {}).turnOf 63 ∧
    (let u := ((sessSt {}).enterFetched 63 openC).2; okWith (fun i => i == 0) (u.checkOpen openC) = true) ∧
    (∀ z < 2, let s := sessSt { status := 2, pages := [0] }
      okWith (fun i => i == 0) ((s.enterFetched 63 (closeC z)).2.checkClose (closeC z)) = true ∧ (s.session 0).pages ≠ [] ∧
        bit (uAt (closeC z) 20 1) 0 = (z == 1)) ∧
    ((sessSt { status := 2 }).session 0).pages = [] ∧
    (loadFieldsOk unloadC = true ∧ uAt unloadC 24 1 = 1 ∧ uAt unloadC 16 8 = 0 ∧ uAt unloadC 26 2 < 64 ∧
      (hostSt.enterFetched 63 unloadC).2.slotInUse (uAt unloadC 26 2) = false ∧ (Tab.get? hostSt.pats 0).isSome = true) ∧
    headerOk 0x20 [(16, 2), (20, 4)] (cmd 0x20 [(16, 1, 32), (17, 1, 64)]) = true ∧
    headerOk 0x21 [(16, 8)] (cmd 0x21 []) = true ∧
    (let f := (onSt.enterFetched 63 (cmd 0x21 [])).1; (onSt.enterFetched 63 (cmd 0x21 [])).2.fenceClear f = true) ∧
    (let s : State := { onSt with host := { fetched := [{ queue := 0, cmd := runC, sqhead := 1, no := 1, wait := true }], fetchNo := 1 } };
      (s.enterFetched 63 (cmd 0x21 [])).2.fenceClear (s.enterFetched 63 (cmd 0x21 [])).1 = false ∧ s.headOf 63 = none) ∧
    (∀ n < 2, headerOk 0x30 [(16, 13), (32, 8)] (receiptC n) = true ∧ addrsOk (receiptC n) [32] = true ∧
      addrOf (uAt (receiptC n) 32 8) % 64 = 0 ∧ uAt (receiptC n) 28 1 = n ∧ destOk 0x4000 1024 = true) ∧
    headerOk 0x31 [(16, 12), (32, 8)] (cmd 0x31 [(32, 8, 0x4000)]) = true := by
  refine ⟨by unfold State.turnOf; decide +kernel, by decide +kernel⟩

/-! ### Host memory and link -/

/-- CXL.mem active. -/
def memSt : State := { live with host := { memActive := true } }

theorem witness_HostMemoryAndLink :
    memSt.decoded (hbmEnd - 64) 65 = false ∧ memSt.decoded (hbmEnd - 0x800000000 - 64) 64 = true ∧
    (hbmEnd - 0x800000000 - 64) % 64 + 64 ≤ 64 ∧ memSt.inShare (hbmEnd - 0x800000000 - 64) 64 = false ∧
    memSt.sliceOut (hbmEnd - 0x800000000 - 64) = false ∧ memSt.hbm.snoop.length < 16 ∧
    memSt.inSarea (hbmEnd - 0x800000000 - 64) = false ∧ memSt.inImage (hbmEnd - 0x800000000 - 64) = false ∧
    memSt.heldTarget (hbmEnd - 0x800000000 - 64) = false ∧
    (let s : State := { lifeSt with host := { memActive := true } }; s.decoded 0x1FFFC0 64 = true ∧ s.inShare 0x1FFFC0 64 = false ∧
      s.inSarea 0x1FFFC0 = false ∧ s.inImage 0x1FFFC0 = false ∧ s.sliceOut 0x1FFFC0 = false ∧ s.heldTarget 0x1FFFC0 = true) ∧
    memSt.decoded (hbmEnd - 64) 64 = true ∧ memSt.inShare (hbmEnd - 64) 64 = true ∧ memSt.host.held = [] ∧ memSt.host.fetched = [] ∧
    (let e : Ended := { heldE with needDigest := true }; e.needDigest = true) ∧
    0x11FFF % 65536 < 8192 := by decide +kernel

/-! ### A pattern image that passes every check of R107: every cell runs END -/

/-- Bytes 0 to 31 of its header. -/
def imgHead : Bytes :=
  le 4 0x54505754 ++ le 2 1 ++ [1, 0] ++ le 8 111168 ++ le 4 4096 ++ le 2 1 ++ le 2 0 ++ le 8 0

/-- END, with its CRC. -/
def endDesc : Desc := let d : Desc := BitVec.ofNat 256 (2 ^ 244); BitVec.ofNat 256 (d.toNat + crc16 d)

/-- Bytes 96 to 575: the directory of the descriptors and the cell table, and the one descriptor. -/
def imgRest : Bytes :=
  zeros 32 ++ (le 4 2 ++ le 4 1 ++ le 8 512 ++ le 8 32) ++ (le 4 1 ++ le 4 1728 ++ le 8 576 ++ le 8 110592) ++ zeros 336
    ++ le 32 endDesc.toNat ++ zeros 32

/-- Every cell's entry: the program at 0x40000, the writable span from 0x80000 to 0x90000. -/
def imgCell : Bytes :=
  le 4 0x40000 ++ le 4 1 ++ le 8 512 ++ le 4 0 ++ le 4 0 ++ le 4 0 ++ le 4 0 ++ le 8 0 ++ le 4 0 ++ le 4 0x80000 ++ le 4 0x90000 ++ zeros 12

/-- The cell table. -/
def imgTable : Bytes := (List.replicate 1728 imgCell).flatten

/-- The image, its digest in place. -/
def exImage : Bytes := imgHead ++ (sha512 (imgHead ++ (zeros 64 ++ (imgRest ++ imgTable))) ++ (imgRest ++ imgTable))

theorem length_imgTable : imgTable.length = 110592 := by
  have h : imgCell.length = 64 := by decide +kernel
  rw [imgTable, List.length_flatten, List.map_replicate, h, List.sum_replicate]
  rfl

theorem length_exImage : exImage.length = 111168 := by
  have h1 : imgHead.length = 32 := by decide +kernel
  have h2 : imgRest.length = 480 := by decide +kernel
  simp only [exImage, List.length_append, h1, h2, length_imgTable, length_sha512]

theorem exImage_head (o n : Nat) (h : o + n ≤ 32) : slice exImage o n = slice imgHead o n :=
  slice_append_left _ _ _ _ (by rw [show imgHead.length = 32 by decide +kernel]; exact h)

theorem exImage_after (o n : Nat) : slice exImage (96 + o) n = slice (imgRest ++ imgTable) o n := by
  have h1 : imgHead.length = 32 := by decide +kernel
  rw [exImage, show 96 + o = imgHead.length + ((sha512 (imgHead ++ (zeros 64 ++ (imgRest ++ imgTable)))).length + o) by
    rw [length_sha512]; omega, slice_append, slice_append]

theorem exImage_rest (o n : Nat) (h : o + n ≤ 480) : slice exImage (96 + o) n = slice imgRest o n := by
  rw [exImage_after, slice_append_left _ _ _ _ (by rw [show imgRest.length = 480 by decide +kernel]; exact h)]

theorem exImage_table : slice exImage 576 110592 = imgTable := by
  have h2 : imgRest.length = 480 := by decide +kernel
  have h3 := length_imgTable
  rw [show (576 : Nat) = 96 + 480 from rfl, exImage_after, show (480 : Nat) = imgRest.length + 0 by rw [h2], slice_append, slice,
    List.drop_zero, List.take_of_length_le (by rw [h3])]

theorem exImage_digest : slice exImage 32 64 = imageDigest exImage := by
  have h1 : imgHead.length = 32 := by decide +kernel
  have e1 : slice exImage 32 64 = sha512 (imgHead ++ (zeros 64 ++ (imgRest ++ imgTable))) := by
    rw [exImage, show (32 : Nat) = imgHead.length + 0 by rw [h1], slice_append, slice_append_left _ _ _ _ (by simp), slice, List.drop_zero,
      List.take_of_length_le (by simp)]
  have e2 : exImage.take 32 = imgHead := by
    rw [exImage]; rw [List.take_append_of_le_length (by omega), List.take_of_length_le (by omega)]
  have e3 : exImage.drop 96 = imgRest ++ imgTable := by
    have : (96 : Nat) = imgHead.length + (sha512 (imgHead ++ (zeros 64 ++ (imgRest ++ imgTable)))).length := by simp [h1]
    rw [exImage, this, ← List.drop_drop, List.drop_left, List.drop_left]
  rw [e1, imageDigest, e2, e3, List.append_assoc]

theorem cut_replicate (b : Bytes) (n k : Nat) (hb : b.length = n) : cut n k (List.replicate k b).flatten = List.replicate k b := by
  induction k with
  | zero => rfl
  | succ k ih =>
    have hl : ¬ (b ++ (List.replicate k b).flatten).length < n := by simp [hb]
    rw [List.replicate_succ, List.flatten_cons, cut, if_neg hl, ← hb, List.take_left, List.drop_left, hb, ih]

/-- The entry as read. -/
def imgEntry : CellEntry := cellEntryOf imgCell

/-- Its directory as read. -/
def imgDirs : List Section := [{ type := 2, count := 1, off := 512, len := 32 }, { type := 1, count := 1728, off := 576, len := 110592 }]

/-- An image of these bytes, of `n` such cells, as read. -/
def readOf (img : Bytes) (n : Nat) : Image :=
  { addr := 0, bytes := img, dirs := imgDirs, descs := [endDesc], cells := List.replicate n imgEntry
    progs := List.replicate n (some [endDesc]), links := [], barriers := [], maps := [], residents := [], regions := [], xfers := [] }

theorem endDesc_class : descClass endDesc = 0 := by decide +kernel

theorem exImage_directory : directory exImage = imgDirs := by
  rw [directory, show (128 : Nat) = 96 + 32 from rfl, exImage_rest _ _ (by decide)]
  decide +kernel

theorem sectionBytes_one (img : Bytes) : sectionBytes img imgDirs 1 = slice img 576 110592 := rfl
theorem sectionBytes_two (img : Bytes) : sectionBytes img imgDirs 2 = slice img 512 32 := rfl
theorem sectionBytes_none (img : Bytes) (t : Nat) (h : 3 ≤ t) : sectionBytes img imgDirs t = [] := by
  have h1 : sectionOf imgDirs t = none := by
    simp [sectionOf, imgDirs]; omega
  rw [sectionBytes, h1]

theorem exImage_cells : recordsOf 64 (slice exImage 576 110592) = List.replicate 1728 imgCell := by
  have h3 : imgCell.length = 64 := by decide +kernel
  have hl : imgTable.length / 64 = 1728 := by rw [length_imgTable]
  rw [exImage_table, recordsOf, hl, imgTable, cut_replicate _ _ _ h3]

theorem exImage_descs : (recordsOf 32 (slice exImage 512 32)).map (fun b => BitVec.ofNat 256 (ofLe b)) = [endDesc] := by
  rw [show (512 : Nat) = 96 + 416 from rfl, exImage_rest 416 32 (by decide)]; decide +kernel

theorem imgProgram : programOf (sectionOf imgDirs 2) [endDesc] imgEntry = some [endDesc] := by decide +kernel

theorem read_of (img : Bytes) (n : Nat) (h1 : directory img = imgDirs) (h2 : recordsOf 64 (slice img 576 110592) = List.replicate n imgCell)
    (h3 : (recordsOf 32 (slice img 512 32)).map (fun b => BitVec.ofNat 256 (ofLe b)) = [endDesc]) : imageOf 0 img = readOf img n := by
  unfold imageOf
  simp only [h1, sectionBytes_one, sectionBytes_two, h2, h3, List.map_replicate, sectionBytes_none img 4 (by decide),
    sectionBytes_none img 5 (by decide), sectionBytes_none img 6 (by decide), sectionBytes_none img 7 (by decide),
    sectionBytes_none img 8 (by decide), sectionBytes_none img 9 (by decide)]
  rw [show cellEntryOf imgCell = imgEntry from rfl, imgProgram]
  rfl

theorem readOf_cells {img : Bytes} {n : Nat} {P : Nat × CellEntry × List Desc → Prop} (h : ∀ k, P (k, imgEntry, [endDesc])) :
    ∀ e ∈ (readOf img n).cellProgs, P e := by
  intro e he
  obtain ⟨a, ha, hf⟩ := List.mem_filterMap.mp he
  have h1 := (List.of_mem_zip ha).2
  have h2 := List.of_mem_zip h1
  have h3 : a.2.1 = imgEntry := List.eq_of_mem_replicate h2.1
  have h4 : a.2.2 = some [endDesc] := List.eq_of_mem_replicate h2.2
  rw [h4, Option.map_some, Option.some.injEq] at hf
  rw [← hf, h3]
  exact h _

theorem imgCell_fits (img : Bytes) (n : Nat) : (readOf img n).cellRefusal imgCell imgEntry (some [endDesc]) = none := by
  have h : ({ readOf [] 0 with bytes := [] } : Image).cellRefusal imgCell imgEntry (some [endDesc]) = none := by decide +kernel
  exact h

theorem ok_bind {α β : Type} (a : α) (f : α → Except Nat β) : (Except.ok a >>= f) = f a := rfl
theorem need_true (st : Nat) : need true st = .ok () := rfl
theorem refuse_none : refuseWith none = .ok () := rfl

/-- Every check but those of the header. -/
theorem check_of (s : State) (img : Bytes) (n : Nat) (ho : s.openImage 0 = .ok img) (hr : imageOf 0 img = readOf img n)
    (h2 : recordsOf 64 (slice img 576 110592) = List.replicate n imgCell) (hl : img.length = 111168) (hf : uAt img 22 2 = 0)
    (hp : s.pats = []) (hv : s.map.voids = []) (hn : s.engineCount = 48) (hr2 : s.allRegions = []) :
    s.checkImage 0 = .ok (readOf img n) := by
  have c1 : directoryOk img imgDirs = true := by
    have h : imgDirs.all (fun e => decide (e.type ≤ 9) && e.off % 64 == 0 && decide (512 ≤ e.off) && decide (e.off + e.len ≤ 111168)
      && sectionSized img e) = true := by simp [imgDirs, sectionSized, recordSize]
    unfold directoryOk
    rw [hl, h]
    decide +kernel
  have c2 : (readOf img n).writesHbm = false := by
    have h : (readOf img n).cellProgs.any (fun c => c.2.2.any ((readOf img n).constWrite c.2.1)) = false := by
      rw [← Bool.not_eq_true, List.any_eq_true]
      rintro ⟨c, hc, hx⟩
      exact readOf_cells (P := fun c => ¬ c.2.2.any ((readOf img n).constWrite c.2.1) = true)
        (fun k => by simp [Image.constWrite, writesTensor, endDesc_class]) c hc hx
    rw [Image.writesHbm, h]
    simp [readOf, endDesc_class]
  have c3 : (readOf img n).descs.any (fun d => descClass d == 6) = false := by simp [readOf, endDesc_class]
  have c4 : (readOf img n).descs.findSome? s.descRefusal = none := by
    have h1 : (!crcOk endDesc || !commonOk endDesc || !reservedClear endDesc || !descFieldsOk endDesc) = false := by decide +kernel
    have : s.descRefusal endDesc = none := by rw [State.descRefusal, h1, endDesc_class]; rfl
    simp [readOf, this]
  have c5 : (readOf img n).slotTablesOk = true := by
    unfold Image.slotTablesOk
    rw [show (readOf img n).bytes = img from rfl, show (readOf img n).dirs = imgDirs from rfl, sectionBytes_none img 4 (by decide)]
    rfl
  have c6 : (readOf img n).barriersOk = true := by
    have h : recordsOf 256 [] = [] := rfl
    simp [Image.barriersOk, readOf, h]
  have h0 : mapRecords [] = [] := rfl
  have c7 : (readOf img n).mapsOk = true := by simp [Image.mapsOk, readOf, mapTables, h0]
  have c8 : (readOf img n).programsOk = true := by
    have h : (readOf img n).cellProgs.all (fun e => (readOf img n).programOk e.1 e.2.1 e.2.2) = true := by
      refine List.all_eq_true.mpr (readOf_cells (fun k => ?_))
      have h1 : pairsOk [endDesc] imgEntry.entry = true := by decide +kernel
      have h2 : drainsOk [endDesc] imgEntry.entry = true := by decide +kernel
      simp [Image.programOk, h1, h2, endDesc_class]
    rw [Image.programsOk, h]
    simp [readOf, endDesc_class]
  have c9 : (readOf img n).cellsRefusal = none := by
    unfold Image.cellsRefusal
    rw [show (readOf img n).bytes = img from rfl, show (readOf img n).dirs = imgDirs from rfl, sectionBytes_one, h2, List.findSome?_eq_none_iff]
    intro e he
    have h1 := List.of_mem_zip he
    have h2 := List.of_mem_zip h1.2
    rw [List.eq_of_mem_replicate h1.1, List.eq_of_mem_replicate h2.1, List.eq_of_mem_replicate h2.2]
    exact imgCell_fits img n
  have c10 : s.constsRefusal (readOf img n) = none := by
    unfold State.constsRefusal
    rw [List.findSome?_eq_none_iff]
    refine readOf_cells (fun k => ?_)
    simp [State.constRefusal, writesTensor, endDesc_class]
  have c11 : (readOf img n).packedOk = true := by
    unfold Image.packedOk
    rw [show (readOf img n).bytes = img from rfl, show (readOf img n).dirs = imgDirs from rfl, sectionBytes_none img 9 (by decide),
      Bool.and_eq_true]
    exact ⟨rfl, by simp [readOf, endDesc_class]⟩
  have c12 : s.regionsRefusal (readOf img n) = none := by
    unfold State.regionsRefusal
    rw [show (readOf img n).bytes = img from rfl, show (readOf img n).dirs = imgDirs from rfl, sectionBytes_none img 8 (by decide)]
    rfl
  have c13 : s.sharesTooSmall (readOf img n) = false := by
    simp [State.sharesTooSmall, readOf, State.distinctRegions, hr2, selectorSpace]
  have c14 : s.rboundOk (readOf img n) = true := by rw [State.rboundOk, hp]
  have c15 : s.streamsInHbm (readOf img n) = true := rfl
  have c16 : s.shardsWritable (readOf img n) = true := by simp [State.shardsWritable, readOf, mapTables, h0]
  have c17 : (readOf img n).streamsCovered = true := rfl
  have c18 : s.map.voidMask = 0 := by rw [MapSt.voidMask, hv]; rfl
  have c19 : (readOf img n).dirs = imgDirs := rfl
  have c20 : recordsOf 32 [] = [] := rfl
  have c21 : (readOf img n).residents = [] := rfl
  have c22 : (readOf img n).regions = [] := rfl
  have c23 : bit 0 1 = false := rfl
  rw [State.checkImage, ho, ok_bind, hr]
  simp only [c19, c1, c2, c3, c4, c5, c6, c7, c8, c9, c10, c11, c12, c13, c14, c15, c16, c17, c18, c20, c21, c22, c23, hn, hf,
    sectionBytes_none img 7 (by decide), need_true, refuse_none, ok_bind, List.findSome?_nil, List.any_nil, Nat.zero_and, Bool.not_false,
    Bool.true_or, Bool.and_self, beq_self_eq_true, Bool.or_true, show ((48 : Nat) != 0) = true from rfl]

/-- The state that holds it at address 0. -/
def imgSt : State := { onSt with mem := Mem.writeBytes [] 0 exImage, sec := { running := fw22 } }

theorem imgSt_open (s : State) (hm : s.mem = imgSt.mem) (hp : s.hbm.poisoned = []) (ha : s.hbm.inAlt = []) (hl : s.hbm.log = []) (h1 : s.hbmOk 0 512 = true)
    (h2 : s.hbmOk 0 111168 = true) (h3 : s.sec.running.flmax = 5) (h4 : s.nat 0x2810 1 = 1) : s.openImage 0 = .ok exImage := by
  have hr (n : Nat) (hn : n ≤ 111168) : s.readImage 0 n = exImage.take n := by
    have := Mem.readBytes_writeBytes_part [] 0 0 n exImage (by rw [length_exImage]; omega)
    rw [State.readImage, ha, hl, hm]
    simpa [imgSt, slice] using this
  have hu (o n : Nat) (h : o + n ≤ 32) : uAt (exImage.take 512) o n = uAt imgHead o n := by
    rw [uAt, uAt, ← exImage_head o n h]
    unfold slice
    rw [List.drop_take, List.take_take, Nat.min_eq_left (by omega)]
  have hs : slice (exImage.take 512) 96 32 = slice imgRest 0 32 := by
    have e := exImage_rest 0 32 (by decide)
    rw [← e]
    unfold slice
    rw [List.drop_take, List.take_take, Nat.min_eq_left (by omega)]
  have hw : (exImage.take 111168) = exImage := List.take_of_length_le (by rw [length_exImage])
  have hf : headerFieldsOk (exImage.take 512) = true := by
    simp only [headerFieldsOk, hu 0 4 (by decide), hu 4 2 (by decide), hu 6 1 (by decide), hu 8 8 (by decide), hu 20 2 (by decide),
      hu 22 2 (by decide), hu 24 8 (by decide), hs]
    decide +kernel
  have hn : uAt (exImage.take 512) 8 8 = 111168 := by rw [hu 8 8 (by decide)]; decide +kernel
  have hv : uAt exImage 6 1 = 1 := by
    rw [uAt, exImage_head 6 1 (by decide)]; decide +kernel
  have hq (a n : Nat) : s.poisonHit a n = none := by rw [State.poisonHit, hp]; rfl
  simp only [State.openImage, hq, hr 512 (by decide), hf, hn, h1, h2, hr 111168 (by decide), hw, h3, h4]
  rw [exImage_digest]
  simp [need]
  rfl

def loadC : Bytes := cmd 0x01 []

/-- LOAD_PATTERN of it into slot 0: every hypothesis of its clause. -/
theorem witness_ImmediateCommandsTakeEffect_load :
    imgSt.turnOf 63 ∧ loadC.length = 128 ∧ loadFieldsOk loadC = true ∧ uAt loadC 24 1 = 0 ∧ uAt loadC 26 2 < 64 ∧
    isHost (uAt loadC 16 8) = false ∧ (imgSt.enterFetched 63 loadC).2.checkImage (addrOf (uAt loadC 16 8)) = .ok (readOf exImage 1728) ∧
    (imgSt.enterFetched 63 loadC).2.loadSlot (uAt loadC 26 2) = .ok 0 := by
  have h0 : addrOf (uAt loadC 16 8) = 0 := by decide +kernel
  have hu (o n : Nat) (h : o + n ≤ 32) : uAt exImage o n = uAt imgHead o n := by rw [uAt, uAt, exImage_head o n h]
  refine ⟨by unfold State.turnOf; decide +kernel, by decide +kernel, by decide +kernel, by decide +kernel, by decide +kernel,
    by decide +kernel, ?_, by decide +kernel⟩
  rw [h0]
  refine check_of _ _ _ (imgSt_open _ rfl rfl rfl rfl ?_ ?_ rfl ?_) (read_of _ _ exImage_directory exImage_cells exImage_descs) exImage_cells
    length_exImage ?_ rfl rfl rfl rfl
  · decide +kernel
  · decide +kernel
  · decide +kernel
  · rw [hu 22 2 (by decide)]; decide +kernel


/-! ### The dictionary -/

/-- A token of scope 7 for each origin that may hold one; the front end on in READY. -/
def tokSt : State :=
  { onSt with sec := { tokCan := some { scope := 7, until_ := 1000 }, tokCxl := some { scope := 7, until_ := 1000 }
                       tokUsb := some { scope := 7, until_ := 1000 } } }

/-- The entry exists and is so. -/
def found (idx sub : Nat) (p : ObjSpec → Bool) : Bool :=
  match Objects.find idx sub with
  | some e => p e
  | none => false

/-- An entry that a write meets, and the origins of R435. -/
theorem witness_DictionaryAccesses :
    onSt.answersAt .module 0x1017 0 = false ∧ State.reset.answersAt .cxl 0x1017 0 = false ∧
    ({ onSt with flash := { onSt.flash with log := { onSt.flash.log with buffered := 3840 } } } : State).flash.log.buffered = 3840 ∧
    (∀ o ∈ [Origin.can, .cxl, .usb, .panel], onSt.mayTry o 0x0001 0 ∧ onSt.mayTry o 0x1017 1 ∧ onSt.mayTry o 0x1017 0 ∧
      onSt.mayTry o 0x1000 0) ∧
    Objects.atIndex 0x0001 = [] ∧ (Objects.atIndex 0x1017 ≠ [] ∧ Objects.find 0x1017 1 = none) ∧
    found 0x1000 0 (fun e => e.acc == .ro) = true ∧ found 0x1017 0 (fun e => e.acc == .rw && e.typ.size == some 2) = true ∧ onSt.mayWrite .cxl 0x1017 0 = false ∧
    found 0x2420 1 (fun e => e.acc == .rw) = true ∧ live.mayWrite .can 0x2420 1 = true ∧ live.writeState 0x2420 1 = false := by
  simp only [State.mayTry]; decide +kernel

theorem witness_DictionaryAccesses_values :
    (∀ o ∈ [Origin.can, .usb], tokSt.mayDo o 0x1017 0) ∧ (∀ o ∈ [Origin.can, .cxl, .usb], tokSt.mayDo o 0x2210 1 ∧ tokSt.mayDo o 0x2200 4) ∧
    found 0x2200 4 (fun e => e.acc == .rw && e.typ.size == some 1 && decide (onSt.fitValue e 0x2200 4 (e.typ.decode [2]) = .error 0x06090030)
      && decide (onSt.fitValue e 0x2200 4 (e.typ.decode [0]) = .ok (0, 0))) = true ∧
    found 0x1017 0 (fun e => decide (onSt.fitValue e 0x1017 0 (e.typ.decode [0xFF, 0xFF]) = .ok (65535, 0))) = true ∧
    found 0x2210 1 (fun e => e.acc == .rw && e.typ.size == some 4
      && decide (onSt.fitValue e 0x2210 1 (e.typ.decode (le 4 19)) = .ok (20, 0))) = true ∧ latchedEntry 0x2210 1 = true ∧
    latchedEntry 0x1017 0 = false ∧ boundaryEntry 0x1017 0 = false ∧ tokSt.answersAt .can 0x1017 0 = true ∧
    tokSt.answersAt .cxl 0x1017 0 = true := by
  simp only [State.mayDo, State.mayTry]; decide +kernel

/-! ### CAN services and streams -/

theorem witness_CanServicesAndStreams :
    onSt.fe.fe = .on ∧ onSt.canUp = true ∧ onSt.nat 0x1017 0 ≠ 0 ∧ (onSt.setOb 0x1017 0 0).canUp = true ∧
    (onSt.setOb 0x1017 0 0).nat 0x1017 0 = 0 ∧ onSt.nat 0x2200 4 = 1 ∧ (onSt.setOb 0x2200 4 0).nat 0x2200 4 ≠ 1 ∧
    ({ onSt with start := { onSt.start with nmtUp := false } } : State).canUp = false ∧
    ({ onSt with start := { onSt.start with statusDue := true } } : State).canUp = true ∧ onSt.start.statusDue = false ∧
    (∀ o ∈ [Origin.can, .cxl, .usb], onSt.answersAt o 0x2900 1 = true ∧ onSt.answersAt o 0x2404 1 = true) := by decide +kernel

/-- A second log record is read from CURSOR on. -/
theorem test_log_read_advances :
    (match exec (.logStreamRead .can 70) ((onSt.logNmt 2).logNmt 128) with
     | .next t => t.flash.log.cursor .can == 2 && (match t.out with | .usdo 0 b :: _ => b.length == 64 | _ => false)
     | _ => false) = true := by decide +kernel

/-! ### State commands -/

theorem witness_StateCommandsMoveTheState :
    (∀ o ∈ [Origin.can, .cxl, .usb, .panel], onSt.mayTry o 0x2201 1) ∧
    (∀ c ∈ [1, 2, 3, 4, 5], onSt.mayCommand .can c = true) ∧ (∀ c ∈ [1, 2, 3], onSt.mayCommand .panel c = false) ∧
    onSt.mayCommand .cxl 5 = false ∧ onSt.mayCommand .usb 4 = true ∧
    (∀ c ∈ [1, 3, 4], onSt.commandOk c = true) ∧ onSt.commandOk 2 = false ∧ onSt.commandOk 5 = false ∧
    (∀ c ∈ [1, 2, 3, 4], live.commandOk c = true ∧ ({ live with dev := .hold } : State).commandOk c = true) ∧ live.rowOpen = true ∧
    ({ live with row := { phase := .waiting } } : State).rowOpen = false ∧
    (∀ d ∈ [DevState.castOn, .safe], ({ onSt with dev := d } : State).mayTry .can 0x2201 1 ∧ ({ onSt with dev := d } : State).commandOk 4 = true) ∧
    ({ onSt with dev := .safe } : State).commandOk 5 = true ∧ ({ onSt with dev := .safe } : State).nat 0x2200 2 ≠ 4 ∧
    (∀ n ∈ [0, 1, 2, 3], ({ onSt with dev := .bindOff } : State).mayTry .can 0x2201 1 ∧
      (({ onSt with dev := .bindOff } : State).setOb 0x2200 2 n).commandOk 4 = true) := by
  simp only [State.mayTry]; decide +kernel

/-! ### Firmware -/

/-- An image verified in the staging bank, of SVN 3. -/
def fwSt : State :=
  { onSt with sec := { fwState := 2, running := { svn := 3, flmax := 2 } }
              flash := { onSt.flash with bank1 := { content := [], info := some { svn := 3, flmax := 2 } } } }

theorem witness_FirmwareCommands_rights :
    (∀ o ∈ [Origin.can, .cxl], ∀ i ∈ [0x2820, 0x2801, 0x2810], fwSt.mayDo o i 1) ∧
    (∀ i ∈ [0x2820, 0x2801, 0x2810], tokSt.mayDo .usb i 1) := by
  simp only [State.mayDo, State.mayTry]; decide +kernel

theorem witness_FirmwareCommands_states :
    fwSt.dev ≠ .safe ∧ fwSt.activating = false ∧ ({ fwSt with sec := { fwSt.sec with fwState := 4 } } : State).activating = true ∧
    fwSt.sec.fwState = 2 ∧ onSt.sec.fwState ≠ 2 ∧ fwSt.stagedBank.info = some { svn := 3, flmax := 2 } ∧
    fwSt.activateOk { svn := 3, flmax := 2 } = true ∧
    ({ fwSt with dev := .castOn } : State).activateOk { svn := 3, flmax := 2 } = false := by decide +kernel

theorem witness_FirmwareCommands_banks :
    (let s : State := { onSt with flash := { onSt.flash with bank1 := { info := some fw22 } } };
      s.verifyBank s.stagedBank = some fw22 ∧ s.activateOk fw22 = true) ∧
    (let s : State := { onSt with flash := { onSt.flash with bank1 := { info := some fw22 }, floor := 8 } };
      s.verifyBank s.stagedBank = none) ∧
    fwSt.asCan .can = true ∧ fwSt.asCan .cxl = false ∧
    ({ onSt with pats := [(0, patWith [] [] [] [])] } : State).pats.all (fun e => decide (e.2.flevel ≤ 1)) = true ∧
    ({ onSt with pats := [(0, { patWith [] [] [] [] with flevel := 2 })] } : State).pats.all (fun e => decide (e.2.flevel ≤ 1)) = false := by
  decide +kernel

/-- COMMIT burns the floor up to the running SVN (R467). -/
theorem test_commit_raises_floor :
    (match exec (.commit .can) fwSt with | .next t => t.flash.floor | _ => 0) = 3 := by decide +kernel

/-! ### SPDM and the test access port -/

def spdmSt (a : Nat) : State := { onSt with sec := { spdmVersion := true, spdmCaps := true, spdmAlg := a } }

theorem witness_SpdmAndTestPort :
    onSt.serves = true ∧ (spdmSt 2).serves = true ∧ (spdmSt 2).sec.spdmAlg ≠ 0 ∧ ¬(onSt.sec.spdmAlg ≠ 0) ∧ onSt.sec.spdmVersion = false ∧
    (spdmSt 0).sec.spdmVersion = true ∧ (spdmSt 0).sec.spdmCaps = true ∧ bit 4 2 = true ∧ bit 0x60 6 = true ∧ bit 0x20 5 = true ∧
    bit 0x20 6 = false ∧ (∃ e ∈ onSt.measurements, e.1 = 1) ∧ onSt.debugOpen = false ∧ tokSt.debugOpen = true ∧ tokSt.serves = true ∧
    tokSt.dev ≠ .safe ∧ tokSt.dev ≠ .off := by decide +kernel

theorem witness_SpdmAndTestPort_certificate : 0 < spdmChain.length := by
  unfold spdmChain; simp [length_le]

/-! ### Signed records and settings -/

/-- Root-key slot 1 may sign records, slot 0 images and records, slot 2 is active for images, slot 3 is not programmed. -/
def keySt : State :=
  { tokSt with flash := { tokSt.flash with slots := [
      { programmed := true, image := true, record := true }, { programmed := true, record := true, hash := some (sha512 (be 512 someModulus)) },
      { programmed := true, image := true, hash := some (zeros 64) }, {}] } }

/-- A record with these bytes 0 to 7 and 88 to 159, of this module, which key slot 1 has signed. -/
def recordIs (head body r : Bytes) : Prop :=
  keySt.recordOk r = true ∧ r.take 8 = head ∧ slice r 88 72 = body

theorem record_exists (head body : Bytes) (hh : head.length = 8) (hb : body.length = 72) (h0 : uAt head 0 4 = 0x52535754)
    (h1 : uAt head 4 2 = 1) (h2 : uAt head 7 1 = 1)
    (h3 : (let t := uAt head 6 1
      if t = 1 then decide (uAt body 4 2 < 8) && allZero (slice body 6 66)
      else if t = 2 then allZero (slice body 0 6) && decide (uAt body 6 1 < 4) && decide (uAt body 7 1 < 4)
      else t == 3 && allZero (slice body 0 6) && decide (uAt body 6 1 < 4) && allZero (slice body 7 65)) = true) :
    ∃ r, recordIs head body r := by
  let pre := head ++ (fit 16 Config.serialNumber ++ keySt.challengeBytes)
  have hc : keySt.challengeBytes.length = 64 := by simp [State.challengeBytes]
  have hp : pre.length = 88 := by simp [pre, hh, hc]
  obtain ⟨sig, hs, hv⟩ := rsa_exists (pre ++ (body ++ be 512 someModulus))
  have hm : (be 512 someModulus).length = 512 := length_be _ _
  have a1 (o n : Nat) (h : o + n ≤ 8) : uAt (pre ++ (body ++ (be 512 someModulus ++ sig))) o n = uAt head o n := by
    rw [uAt_append_left _ _ _ _ (by omega), uAt_append_left _ _ _ _ (by omega)]
  have a2 (o n : Nat) (h : o + n ≤ 72) : slice (pre ++ (body ++ (be 512 someModulus ++ sig))) (88 + o) n = slice body o n := by
    rw [← hp, slice_append, slice_append_left _ _ _ _ (by omega)]
  have a3 (o n : Nat) (h : o + n ≤ 72) : uAt (pre ++ (body ++ (be 512 someModulus ++ sig))) (88 + o) n = uAt body o n := by
    rw [uAt, a2 o n h]; rfl
  have a4 : slice (pre ++ (body ++ (be 512 someModulus ++ sig))) 8 16 = fit 16 Config.serialNumber := by
    rw [slice_append_left _ _ _ _ (by omega), show (8 : Nat) = head.length + 0 by omega, slice_append,
      slice_append_left _ _ _ _ (by simp), slice, List.drop_zero, List.take_of_length_le (by simp)]
  have a5 : slice (pre ++ (body ++ (be 512 someModulus ++ sig))) 24 64 = keySt.challengeBytes := by
    rw [slice_append_left _ _ _ _ (by omega), show (24 : Nat) = head.length + ((fit 16 Config.serialNumber).length + 0) by simp [hh],
      slice_append, slice_append, slice, List.drop_zero, List.take_of_length_le (by omega)]
  have a6 : slice (pre ++ (body ++ (be 512 someModulus ++ sig))) 160 512 = be 512 someModulus := by
    rw [show (160 : Nat) = pre.length + (body.length + 0) by omega, slice_append, slice_append, slice_append_left _ _ _ _ (by omega), slice,
      List.drop_zero, List.take_of_length_le (by omega)]
  have a7 : slice (pre ++ (body ++ (be 512 someModulus ++ sig))) 672 512 = sig := by
    rw [show (672 : Nat) = pre.length + (body.length + ((be 512 someModulus).length + 0)) by omega, slice_append, slice_append, slice_append,
      slice, List.drop_zero, List.take_of_length_le (by omega)]
  have a8 : (pre ++ (body ++ (be 512 someModulus ++ sig))).take 672 = pre ++ (body ++ be 512 someModulus) := by
    rw [← List.append_assoc body, ← List.append_assoc pre, List.take_append_of_le_length (by simp [hp, hb]),
      List.take_of_length_le (by simp [hp, hb])]
  have hl : (pre ++ (body ++ (be 512 someModulus ++ sig))).length = 1184 := by simp [hp, hb, hs]
  refine ⟨pre ++ (body ++ (be 512 someModulus ++ sig)), ?_, ?_, ?_⟩
  · have b1 : slice (pre ++ (body ++ (be 512 someModulus ++ sig))) 88 6 = slice body 0 6 := a2 0 6 (by omega)
    have b2 : slice (pre ++ (body ++ (be 512 someModulus ++ sig))) 94 66 = slice body 6 66 := a2 6 66 (by omega)
    have b3 : slice (pre ++ (body ++ (be 512 someModulus ++ sig))) 95 65 = slice body 7 65 := a2 7 65 (by omega)
    have b4 : uAt (pre ++ (body ++ (be 512 someModulus ++ sig))) 92 2 = uAt body 4 2 := a3 4 2 (by omega)
    have b5 : uAt (pre ++ (body ++ (be 512 someModulus ++ sig))) 94 1 = uAt body 6 1 := a3 6 1 (by omega)
    have b6 : uAt (pre ++ (body ++ (be 512 someModulus ++ sig))) 95 1 = uAt body 7 1 := a3 7 1 (by omega)
    have hslot : keySt.slot 1 = { programmed := true, record := true, hash := some (sha512 (be 512 someModulus)) } := rfl
    simp only [State.recordOk, recordShape, a1 0 4 (by omega), a1 4 2 (by omega), a1 6 1 (by omega), a1 7 1 (by omega), b1, b2, b3, b4, b5,
      b6, a4, a5, a6, a7, a8, hl, h0, h1, h2, hv, hslot, KeySlot.holds, KeySlot.active, KeySlot.hashBytes]
    simpa using h3
  · have h : pre.take head.length = head := List.take_left
    rw [hh] at h
    rw [List.take_append_of_le_length (by omega), h]
  · rw [show (88 : Nat) = 88 + 0 from rfl, a2 0 72 (by omega), slice, List.drop_zero, List.take_of_length_le (by omega)]

theorem recordIs.fields {head body r : Bytes} (h : recordIs head body r) :
    uAt r 6 1 = uAt head 6 1 ∧ uAt r 7 1 = uAt head 7 1 ∧ uAt r 94 1 = uAt body 6 1 ∧ uAt r 95 1 = uAt body 7 1 := by
  have e (p m : Nat) (hp : p + m ≤ 8) : uAt r p m = uAt head p m := by
    have := slice_slice r 0 8 p m hp
    rw [Nat.zero_add, show slice r 0 8 = head from h.2.1] at this
    rw [uAt, ← this]; rfl
  have f (p m : Nat) (hp : p + m ≤ 72) : uAt r (88 + p) m = uAt body p m := by
    have := slice_slice r 88 72 p m hp
    rw [h.2.2] at this
    rw [uAt, ← this]; rfl
  exact ⟨e 6 1 (by decide), e 7 1 (by decide), f 6 1 (by decide), f 7 1 (by decide)⟩

def headOf (t : Nat) : Bytes := le 4 0x52535754 ++ le 2 1 ++ le 1 t ++ [1]

/-- A token of scope 1; a record that programs slot 3, one that revokes slot 2, one that would program the signer's own slot. -/
theorem witness_SignedRecordsAndSettings_records :
    (∃ r, keySt.recordOk r = true ∧ uAt r 6 1 = 1) ∧
    (∃ r, keySt.recordOk r = true ∧ uAt r 6 1 = 2 ∧ keySt.slotChangeOk r = true) ∧
    (∃ r, keySt.recordOk r = true ∧ uAt r 6 1 = 3 ∧ keySt.slotChangeOk r = true) ∧
    (∃ r, keySt.recordOk r = true ∧ uAt r 6 1 = 2 ∧ keySt.slotChangeOk r = false) := by
  have get (t : Nat) (body : Bytes) (ht : t < 4) (h : ∃ r, recordIs (headOf t) body r) :
      ∃ r, keySt.recordOk r = true ∧ uAt r 6 1 = t ∧ uAt r 7 1 = 1 ∧ uAt r 94 1 = uAt body 6 1 ∧ uAt r 95 1 = uAt body 7 1 := by
    obtain ⟨r, hr⟩ := h
    obtain ⟨h6, h7, h94, h95⟩ := hr.fields
    have e : ∀ t < 4, uAt (headOf t) 6 1 = t ∧ uAt (headOf t) 7 1 = 1 := by decide
    exact ⟨r, hr.1, h6.trans (e t ht).1, h7.trans (e t ht).2, h94, h95⟩
  refine ⟨?_, ?_, ?_, ?_⟩
  · obtain ⟨r, h, h6, -⟩ := get 1 (le 4 300 ++ le 2 1 ++ zeros 66) (by decide)
      (record_exists _ _ (by decide) (by decide) (by decide) (by decide) (by decide) (by decide +kernel))
    exact ⟨r, h, h6⟩
  · obtain ⟨r, h, h6, h7, h94, h95⟩ := get 2 (zeros 6 ++ [3, 1] ++ zeros 64) (by decide)
      (record_exists _ _ (by decide) (by decide) (by decide) (by decide) (by decide) (by decide +kernel))
    exact ⟨r, h, h6, by rw [State.slotChangeOk, h6, h7, h94, h95]; decide +kernel⟩
  · obtain ⟨r, h, h6, h7, h94, h95⟩ := get 3 (zeros 6 ++ [2] ++ zeros 65) (by decide)
      (record_exists _ _ (by decide) (by decide) (by decide) (by decide) (by decide) (by decide +kernel))
    exact ⟨r, h, h6, by rw [State.slotChangeOk, h6, h7, h94, h95]; decide +kernel⟩
  · obtain ⟨r, h, h6, h7, h94, h95⟩ := get 2 (zeros 6 ++ [1, 1] ++ zeros 64) (by decide)
      (record_exists _ _ (by decide) (by decide) (by decide) (by decide) (by decide) (by decide +kernel))
    exact ⟨r, h, h6, by rw [State.slotChangeOk, h6, h7, h94, h95]; decide +kernel⟩

/-- `e.1` may do a write at entry `e.2`. -/
def mayAll (s : State) (l : List (Origin × Nat × Nat)) : Prop := ∀ e ∈ l, s.mayDo e.1 e.2.1 e.2.2

/-- A port 0 in STATE `n`. -/
def portIn (n : Nat) : State := tokSt.setOb 0x2620 1 n

theorem witness_SignedRecordsAndSettings_rights :
    mayAll keySt [(.can, 0x2A20, 1), (.can, 0x2A20, 4), (.can, 0x2830, 2), (.can, 0x2302, 1), (.can, 0x2405, 1), (.can, 0x2100, 7),
      (.can, 0x2620, 6), (.cxl, 0x2A20, 1), (.usb, 0x2A20, 1), (.usb, 0x2830, 2)] := by
  simp only [mayAll, State.mayDo, State.mayTry]; decide +kernel

theorem witness_SignedRecordsAndSettings :
    keySt.recordOk [] = false ∧ keySt.flash.slots.length = 4 ∧ keySt.fe.fe = .on ∧ bit (keySt.scopeOf .can) 0 = true ∧
    bit (onSt.scopeOf .can) 0 = false ∧ 0 < ({ keySt with flash := { keySt.flash with defects := [{ kind := 1, source := 0 }] } } : State).flash.defects.length ∧
    selectorOk ([1, 1, 0xFF, 0xFF, 0xFF, 0xFF] ++ zeros 10) = true ∧ selectorOk (zeros 16) = false ∧
    (live.mayWrite .can 0x2100 7 = true ∧ live.dev ≠ .castOn ∧ live.dev ≠ .ready) ∧ 0 < onSt.portCount ∧
    (∀ n ∈ [2, 3, 4, 5, 7, 8], (portIn n).portState 0 = n) ∧ (portIn 4).groupReachable 0 = true ∧ (portIn 5).dev ≠ .bindOff := by
  decide +kernel

/-- The commit group's other member lies behind port 0: for any membership that has one (log entry 18). -/
theorem witness_SignedRecordsAndSettings_cut_off (h : Config.groupMember 1 5 = true) :
    let s := (((portIn 4).setOb 0x2620 3 5).setOb 0x2220 1 1).setOb 0x2220 2 2
    s.portState 0 = 4 ∧ s.groupReachable 0 = false := by
  refine ⟨by decide +kernel, ?_⟩
  rw [← Bool.not_eq_true]
  intro hc
  rw [State.groupReachable, List.all_eq_true] at hc
  have hm := hc 5 (List.mem_filter.mpr ⟨List.mem_range.mpr (by decide), by
    unfold State.inGroup
    rw [show ((((portIn 4).setOb 0x2620 3 5).setOb 0x2220 1 1).setOb 0x2220 2 2).nat 0x2220 1 = 1 by decide +kernel, h]
    decide +kernel⟩)
  exact absurd hm (by decide +kernel)

/-! ### Panel and console -/

theorem witness_PanelAndConsole :
    onSt.fe.fe = .on ∧ onSt.start.step3done = true ∧ ({ fe := { fe := .on } } : State).start.step3done ≠ true ∧
    ({ fe := { fe := .on } } : State).fe.early.length < 32 ∧ (∀ b < 3, bit (onSt.nat 0x2A00 1) b = true) ∧
    (∀ b < 3, bit ((onSt.setOb 0x2A00 1 0).nat 0x2A00 1) b = false) ∧ onSt.answersAt .panel 0x2201 1 = true ∧
    onSt.answersAt .panel 0x2620 6 = true ∧ onSt.flash.log.buffered < 3840 ∧ onSt.start.recovery = false ∧
    ({ onSt with dev := .off } : State).commandOk 4 = false ∧ (portIn 4).portState 0 = 4 ∧ (portIn 4).groupReachable 0 = true ∧
    (portIn 5).portState 0 = 5 ∧ onSt.answers .usb = true ∧ State.reset.answers .usb = false ∧
    (∀ k ∈ [1, 2, 3], ({ onSt with panel := { onSt.panel with portMsg := some (k, 0) } } : State).panel.portMsg = some (k, 0)) := by
  decide +kernel

theorem witness_PanelAndConsole_entries :
    found 0x1017 0 (fun e => e.acc != .wo && e.typ.size == some 2) = true ∧ 65535 < 2 ^ (8 * 2) ∧
    found 0x2405 1 (fun e => e.acc != .wo && e.typ == .domain) = true ∧ (zeros 4097).length = 4097 ∧ (zeros 4096).length = 4096 := by
  refine ⟨by decide +kernel, by decide, by decide +kernel, length_zeros _, length_zeros _⟩

/-- The cut-off member again, at the cage pad. -/
theorem witness_PanelAndConsole_cut_off (h : Config.groupMember 1 5 = true) :
    let s := (((portIn 4).setOb 0x2620 3 5).setOb 0x2220 1 1).setOb 0x2220 2 2
    s.portState 0 = 4 ∧ s.groupReachable 0 = false := witness_SignedRecordsAndSettings_cut_off h

/-! ### Memory -/

theorem witness_EveryStepKeepsMemoryCanonical :
    let s : State := { onSt with mem := memAt [(0x1000, [1, 0, 2])], pending := [.statusFrame] }
    s.memOk ∧ ∃ t, step s = .next t := by
  refine ⟨by unfold State.memOk; decide +kernel, ?_⟩
  exact ⟨_, rfl⟩

/-! ### Worked examples and known answers -/

/-- FIPS 180-4: SHA-512 of "abc". -/
theorem test_sha512_abc : ofBe (sha512 (ascii "abc")) =
    0xddaf35a193617abacc417349ae20413112e6fa4e89a97ea20a9eeee64b55d39a2192992a274fc1a836ba3c23a3feebbd454d4423643ce80e2a9ac94fa54ca49f := by
  decide +kernel

/-- The check value of the CRC-32 of the Naela frames' polynomial: 0xCBF43926 for "123456789". -/
theorem test_crc32_check : crc32 (ascii "123456789") = 0xCBF43926 := by decide +kernel

/-- R55: key 0, counter 0. -/
theorem test_philox : philox 0 0 = [0x6627E8D5, 0xE169C58D, 0xBC57AC4C, 0x9B00DBD8] := by decide +kernel

/-- The example after R175: -1 and 180,224 in a table of 180,224 rows, by mode. -/
theorem test_index_modes :
    (List.range 3).map (fun m => [5, -1, 180224].map (fun v => indexMode m v 180224)) =
      [[some 5, some 0, some 180223], [some 5, some 180223, some 0], [some 5, none, none]] := by decide +kernel

/-- The example of R42: an MXFP4 block whose largest magnitude is 15.0 and four elements of it. -/
theorem test_mxfp4_block : drainMx 6 [(15, 0, 0), (27, 0, -1), (5, 0, 0), (-1468006, 0, -21)] = (0x80, [7, 7, 4, 9], true) := by decide +kernel

/-- The examples of spec/01: cell (29, 20) in block 355; (29, 22) in block 361, and in block 359 once `c5.6` of P4.3 is lost. -/
theorem test_places :
    (({} : MapSt).place 29 20).map Place.globalBlock = some 355 ∧ (({} : MapSt).place 29 22).map Place.globalBlock = some 361 ∧
    ((({} : MapSt).loseCell 25 6 5).1.place 29 22).map Place.globalBlock = some 359 := by decide +kernel

/-- The example of R227: TOPK 5,000, TOPP 1.5 and MAXPOS 100,000 are clamped. -/
theorem test_open_session_clamps :
    ((onSt.setOb 0x2B22 6 8192).setOb 0x2B22 8 180224).openFields
        (patch (patch (patch (patch (patch (patch (patch (zeros 128) 18 [2]) 20 (le 4 300)) 40 (le 4 0x3F333333)) 44 (le 4 5000)) 48
          (le 4 0x3FC00000)) 52 (le 4 2)) 56 (le 4 100000)) =
      [(40, 0x3F333333, 0x3F333333), (44, 5000, 1024), (48, 0x3FC00000, 0x3F800000), (52, 2, 2), (56, 100000, 8191)] := by decide +kernel

/-- The first write of the example after R446: CAP 20,000 W is clamped and waits for the boundary; RESULT 3. -/
theorem test_cap_write :
    (match exec (.objectWrite .cxl 0x2500 1 (le 4 20000)) (live.setOb 0x2500 1 14000) with
     | .next t => (t.nat 0x2500 1, (t.flash.log.recs.getLast?).map (fun r => (r.origin, r.result, r.old, r.req, r.app)))
     | _ => (0, none)) = (14000, some (2, 3, 14000, 20000, 16500)) := by decide +kernel

/-- The three 2 x 2 tiles of the example after R191. -/
def psum (a b c d : Int) : AccTile :=
  { ents := [(0, accEnt a 0), (1, accEnt b 0), (32, accEnt c 0), (33, accEnt d 0)], rowG := [(0, 0), (1, 0)], colG := [(0, 0), (1, 0)]
    ktotal := 4, mcount := 1, ncount := 1, window := 1 }

/-- The register after both arrivals, as the example adds it. -/
def psumReg : CkReg :=
  let k := (psum 2 2 1 1).fill
  { k with cols := bump (bump (bump (bump k.cols 0 12) 1 (-1)) 0 (-1)) 1 (-2), rows := bump (bump (bump (bump k.rows 0 2) 1 9) 0 3) 1 (-6) }

/-- RECVADD's additions pass the drain with that register; with two entries of the second arrival swapped, ACCUM_MISMATCH. -/
theorem test_partial_sums :
    (match (psum 2 2 1 1).recvExact (psum 5 (-3) 7 2) with
     | some t => (match t.recvExact (psum (-1) 4 0 (-6)) with
       | some t => t.drainCheck == none && t.ck.map (fun k => (k.cols, k.rows)) == some (psumReg.cols, psumReg.rows)
       | none => false)
     | none => false) = true ∧
    ({ ((psum 2 2 1 1).addExact (psum 5 (-3) 7 2)).addExact (psum (-1) 4 (-6) 0) with ck := some psumReg } : AccTile).drainCheck = some 0x12 := by
  decide +kernel

end Sys2Proof.Tests
end

/-!
PROOFS. Which commands answer with a next state: every command either asks nothing of a unit, or goes through `State.unit`,
which faults just when the unit that it names is missing.
-/
namespace Sys2Proof.Machine

/-! ### Commands to a unit -/

/-- A command to a unit that does not exist faults under the unit's name. -/
theorem State.unit_missing (s : State) {ok : Bool} (w : String) (i : Nat) (hok : ok = false) (f : State → State) :
    s.unit w i ok f = .fault (.noSuchUnit w i) := by
  simp [State.unit, hok]

/-- A command to a unit that exists completes. -/
theorem completes_of_unit {c : Instr} {s : State} {w : String} {i : Nat} {ok : Bool} {f : State → State}
    (hx : exec c s = s.unit w i ok f) (hok : ok = true) : completes c s := by
  obtain ⟨t, ht⟩ := s.unit_completes w i hok f
  exact ⟨t, hx.trans ht⟩

/-! ### Commands that name no Naela port -/

/-- A well-formed command that names no Naela port completes: it names no unit, or one within the ranges of R6. -/
theorem completes_of_portNamed_none {c : Instr} (s : State) (hw : c.wf = true) (hp : c.portNamed = none) : completes c s := by
  cases c with
  -- commands that name no unit: those of the front end, and those that act when the module is on
  | hsEnAssert | frontEndOn | hsEnDeassert | seatSenseOpen | inputMeasurement
  | bladePairFault | busSag | busSagRecover | castOnStep | castOnStepHang | journalWatchdog | rowMark | runStart | rowClose
  | rowUndoDone | rowHang | controllerSwitch | cellDarning | regionDarning | darningComplete | verdictEarlyFail
  | verdictSubtree | verdictGroup | verdictUndone | verdictReplay | capShareUpdate | capUnattainable | preRamp | hbmTempRead
  | coolantReading | safeEntry | referenceLoss | ppsEdge | ref10mValid | timeSourceInvalid | timeMasterLoss
  | messageResendTimeout | commandFetch | hostMemRead | hostMemWrite | birsp | perstAssert | cxlLinkTrain | bar2Read
  | bar2Write | usdoTransfer | objectWrite | nmtStop | nmtReset | canHeartbeat | statusFrame | run | hold | bindReady
  | bindRemove | restart | serviceToken | tokenLapse | close | remove | suspectListWrite | ppssetWrite | logStreamRead
  | signatureStreamRead | changeLogFlush | verify | activate | rollback | commit | imageWrite | keySlotProgram
  | keySlotRevoke | sysflWrite | getVersion | getCapabilities | negotiateAlgorithms | getDigests | getCertificate | challenge
  | getMeasurements | tapInstruction | releasePress | attentionTouch | displayPageTimeout | displayMessageTimeout
  | consoleRead | consoleReadDomain | consoleWrite | consoleWriteDomain | consoleRemove | consoleLog | consoleHelp
  | outputDigestComplete | pageZeroingDone => exact ⟨_, rfl⟩
  -- descriptors, which name their cell
  | matWload | matStream | matDrain | matGauge | matGcombine
  | vecAdd | vecSub | vecMul | vecFma | vecDiv | vecSqrt | vecMin | vecMax | vecCmp | vecSelect | vecAnd | vecOr | vecXor
  | vecConvert | vecSum | vecRmax | vecRmin | vecArgmax | vecArgmin | vecExp | vecLog | vecRecip | vecRsqrt | vecTanh
  | vecSigmoid | vecErf | vecPhilox | vecSort | vecTopk
  | movCopy | movPermute | movGather | movScatter | movScatterAdd | movReshard
  | synSend | synRecv | synRecvadd | synBarrier | synWaitmark | chkInsert | chkVerify | updJob | hntHeavy | smpSample
  | ctlNop | ctlEnd | ctlLi | ctlAdd | ctlSub | ctlMul | ctlAnd | ctlOr | ctlXor | ctlShl | ctlShr | ctlSra | ctlAddi
  | ctlMin | ctlMax | ctlCmp | ctlCmpi | ctlBr | ctlJmp | ctlLoop | ctlCall | ctlRet | ctlLd | ctlSt
  -- other commands of a cell
  | cellHeartbeat | cellLost | sequencerIssue | descriptorStart | descriptorComplete | looseResponse | mergeEntryExpire
  | mergeHoldExpire
  -- commands of a block or of a part of one
  | droopDetect | droopEnd | shuntClamp | slowLoopStep | guardBandExpire | lookaheadRaise | junctionSensorRead | blockPllLoss
  | replicaPathWarning | regulatorPhaseLoss | sensorFailed
  -- commands of a region
  | regionHeartbeatLost | regionRailSample | regionShort | efuseOpen | capLoopUpdate | bubbleLoopUpdate | slopeCeilingUpdate
  | floorTargetUpdate | rampGovernorStep | timeBeacon | referenceInputSwitch | suspectSwatch
  -- commands of a queue's registers
  | sqtailDoorbell | cqheadDoorbell | queueEnable | queueDisable | msixCoalesceTimeout | advanceAdmission | queueRegisterWrite
  -- commands of a channel, an engine, a stack, a memory line, a converter, a listed defect; the write of QUIESCE, which is to
  -- one of the 18 entries whatever the variant
  | barrierRelease | updJobStart | updJobDone | hbmStackFail | hbmPatrolScrub | scratchpadScrub | converterPhaseFail
  | darningRestart | wasteYarnSwatch | quiesce => exact completes_of_unit rfl hw
  -- commands whose well-formedness asks for more than the unit
  | loadPattern | patternUnload | runPattern | reshard | copy | openSession | advance | closeSession | hint | fence
  | readReceipt | readSignatures | looseWrite => exact completes_of_unit rfl (Bool.and_elim_left hw)
  | looseRead | checkAlarm => exact completes_of_unit rfl (Bool.and_elim_left (Bool.and_elim_left hw))
  -- commands that name a unit of one of two kinds, or none
  | hbmWrite w => cases w <;> exact completes_of_unit rfl hw
  | flitReceive l => cases l <;> exact completes_of_unit rfl hw
  | syncNetDisagree r =>
    cases r with
    | some => exact completes_of_unit rfl hw
    | none => exact ⟨_, rfl⟩
  -- commands of a Naela port
  | _ => cases hp

/-! ### Commands of a Naela port -/

/-- A well-formed command of a port asks of the module that the port exists, and nothing more (R3, R270). -/
theorem exec_of_portNamed {c : Instr} {p : Nat} (s : State) (hw : c.wf = true) (hp : c.portNamed = some p) :
    ∃ w i ok f, exec c s = s.unit w i ok f ∧ ok = decide (p < s.portCount) := by
  cases c with
  | naelaFrame | retryRequest | frameRetryTimeout | data | collective | ack | barrier | time | power | negotiate | route
  | timeExchange | portPresence | portTrained | linkTestDone | presenceDeassert | quiesceDrained | cagePadTouch =>
    cases hp
    exact ⟨_, _, _, _, rfl, rfl⟩
  | laneFailure q lane =>
    cases hp
    have hlane : decide (lane < 16) = true := Bool.and_elim_right hw
    exact ⟨_, _, _, _, rfl, by rw [hlane, Bool.and_true]⟩
  | lossOfSignal q groups =>
    cases hp
    have hgroups : decide (groups < 16) = true := Bool.and_elim_right hw
    exact ⟨_, _, _, _, rfl, by rw [hgroups, Bool.and_true]⟩
  | _ => cases hp

/-- Settles O3: a command without a port completes by its well-formedness, and one with a port asks only for the port. -/
theorem everyCommandCompletes : Obligations.EveryCommandCompletes := by
  intro c s hw
  cases hp : c.portNamed with
  | none => exact ⟨fun _ => completes_of_portNamed_none s hw hp, nofun⟩
  | some p =>
    obtain ⟨w, i, _, f, hx, rfl⟩ := exec_of_portNamed s hw hp
    constructor
    · intro hport
      exact completes_of_unit hx (decide_eq_true (hport p rfl))
    · rintro _ ⟨⟩ hport
      exact ⟨w, i, hx.trans (s.unit_missing w i (decide_eq_false (Nat.not_lt.mpr hport)) f)⟩

end Sys2Proof.Machine

/-!
PROOFS. The front end: what a loss of 42 V leaves, and the start that follows when it conducts again.
-/
namespace Sys2Proof.Machine

/-! ### The front end turns off and on (R21, R284, R286, R335) -/

/-- Whatever cuts the power, only flash is left (R284, R335). -/
theorem State.powerOff_lostPower (s : State) (latched : Bool) : s.lostPower (s.powerOff latched) := by
  cases hcut : s.on && s.dev == .castOn with
  | true => simp [lostPower, powerOff, hcut]
  | false => simp [lostPower, powerOff, hcut]

/-- What the front-end controller latches afterwards leaves the loss as it is. -/
theorem State.lostPower_modFe {s t : State} (h : s.lostPower t) {f : FrontEnd → FrontEnd} (hf : (f t.fe).fe = t.fe.fe) :
    s.lostPower (t.modFe f) := by
  obtain ⟨hfe, hrest⟩ := h
  exact ⟨hf.trans hfe, hrest⟩

/-- A measurement that trips cuts the power with the input fault latched (R287). -/
theorem State.measureOn_trips (s : State) {vin : Int} {a b : Nat} (h : (s.fe.measure vin (a + b)).trips (a + b) = true) :
    s.measureOn vin a b = (s.modFe (fun f => f.measure vin (a + b))).inputFault := if_pos h

/-- 520.0 A in one measurement trips the front end (R287). -/
theorem FrontEnd.trips_of_lt (f : FrontEnd) {deciA : Nat} (h : 5200 < deciA) : f.trips deciA = true := by
  simp [FrontEnd.trips, h]

/-- The conditions of R286 lead to precharge, unless step 1 would run in mode 2. -/
theorem State.precharge_of_ready {s : State} (hen : s.fe.hsEn = true) (hseat : s.fe.seatOpen = false) (hhold : s.fe.offHold = false)
    (hmode : modeFrom s.fe.known s.starts 1 s.fe.interrupted ≠ 2) :
    s.precharge = s.modFe (fun f => { f with fe := .precharge }) := by
  simp [precharge, hen, hseat, hhold, hmode]

theorem top_starts : Objects.top 0x2D00 3 = 2 ^ 32 - 1 := by decide +kernel

/-- A counter that has room counts one more. -/
theorem State.nat_addOb_lt (s : State) {i j n : Nat} (h : s.nat i j + n ≤ Objects.top i j) :
    (s.addOb i j n).nat i j = s.nat i j + n := by
  rw [addOb, State.nat_setOb_same, Nat.min_eq_left h]

/-- An entry reads as in any state with the same dictionary. -/
theorem State.nat_of_obj_eq {s t : State} (h : t.obj = s.obj) (i j : Nat) : t.nat i j = s.nat i j := by
  simp [nat, ob, h]

/-- What step 1 of a start leaves as it is. -/
theorem State.beginStep_one_frame {s : State} (h3 : s.start.step3done = false) :
    let t := s.beginStep 1
    t.fe.fe = s.fe.fe ∧ t.dev = s.dev ∧ t.start.tOn = s.start.tOn ∧ t.mem = s.mem ∧ t.flash = s.flash := by
  cases hm : modeFrom s.fe.known (s.starts - 1) 1 s.fe.interrupted with
  | zero => simp [beginStep, journal, hm, h3, modFe]
  | succ m => simp [beginStep, journal, hm, h3, modFe]

/-- Step 1 of a start sets STEP, and in an alternate mode ALTMASK. -/
theorem State.beginStep_one_obj {s : State} (h3 : s.start.step3done = false) :
    (s.beginStep 1).obj = (s.setOb 0x2D00 2 1).obj ∨
      ∃ v : Int, (s.beginStep 1).obj = ((s.setOb 0x2D00 2 1).setOb 0x2D00 8 v).obj := by
  cases hm : modeFrom s.fe.known (s.starts - 1) 1 s.fe.interrupted with
  | zero => exact .inl (by simp [beginStep, journal, hm, h3, modFe])
  | succ m => exact .inr ⟨_, by simp [beginStep, journal, hm, h3, modFe]; rfl⟩

theorem State.beginStep_one_nat {s : State} (h3 : s.start.step3done = false) :
    (s.beginStep 1).castStep = 1 ∧ (s.beginStep 1).starts = s.starts := by
  have h83 : okey 0x2D00 3 ≠ okey 0x2D00 8 := by decide
  have h82 : okey 0x2D00 2 ≠ okey 0x2D00 8 := by decide
  have h23 : okey 0x2D00 3 ≠ okey 0x2D00 2 := by decide
  have hone : (s.setOb 0x2D00 2 1).nat 0x2D00 2 = 1 := s.nat_setOb_same 0x2D00 2 1
  unfold castStep starts
  obtain h | ⟨v, h⟩ := State.beginStep_one_obj h3
  · rw [nat_of_obj_eq h, nat_of_obj_eq h, hone, nat_setOb_ne _ _ h23]
    exact ⟨rfl, rfl⟩
  · rw [nat_of_obj_eq h, nat_of_obj_eq h, nat_setOb_ne _ _ h82, nat_setOb_ne _ _ h83, hone, nat_setOb_ne _ _ h23]
    exact ⟨rfl, rfl⟩

/-- The front end conducts: a start begins at step 1, and one more start is counted (R286). -/
theorem State.beginStart_next {s : State} (h : s.starts < 2 ^ 32 - 1) :
    let t := s.beginStart
    t.fe.fe = .on ∧ t.dev = .castOn ∧ t.castStep = 1 ∧ t.starts = s.starts + 1 ∧ t.start.tOn = s.clock ∧ t.mem = s.mem ∧
      t.flash = s.flash := by
  let v : State := { s with
    fe := { s.fe with fe := .on, inputFault := false, inRangeUs := 0 }, dev := .castOn, start := { tOn := s.clock, tStep := s.clock } }
  let u := (v.addOb 0x2D00 3 1).setOb 0x2D00 8 0
  have h3 : u.start.step3done = false := rfl
  obtain ⟨hfe, hdev, htOn, hmem, hflash⟩ := State.beginStep_one_frame h3
  obtain ⟨hstep, hstarts⟩ := State.beginStep_one_nat h3
  have hcount : u.starts = s.starts + 1 := by
    have hv : v.nat 0x2D00 3 + 1 ≤ Objects.top 0x2D00 3 := by rw [top_starts]; exact h
    exact (nat_setOb_ne _ _ (by decide)).trans (v.nat_addOb_lt hv)
  exact ⟨hfe, hdev, hstep, hstarts.trans hcount, htOn, hmem, hflash⟩

/-- The front end turned off for 2 s has lost what any loss of 42 V takes (R333). -/
theorem State.offFor2s_lostPower (s : State) : s.lostPower s.offFor2s := s.lostPower_modFe (s.powerOff_lostPower false) rfl

/-- Each of the four ways in which the front end turns off ends in `powerOff` (R21, R23, R287, R333). -/
theorem frontEndOff_lostPower (s : State) :
    (∃ t, exec .hsEnDeassert s = .next t ∧ s.lostPower t ∧ t.fe.hsEn = false) ∧
    (s.fe.fe = .on → ∃ t, exec .seatSenseOpen s = .next t ∧ s.lostPower t ∧ t.fe.removalLatch = true ∧ t.fe.seatOpen = true) ∧
    (s.fe.fe = .on → ∀ vin a b, 5200 < a + b →
      ∃ t, exec (.inputMeasurement vin a b) s = .next t ∧ s.lostPower t ∧ t.fe.inputFault = true) ∧
    (s.fe.fe = .on → s.dev = .castOn → 3 ≤ s.castStep →
      ∃ t, exec .journalWatchdog s = .next t ∧ s.lostPower t ∧ t.fe.offUs = 2000000) := by
  refine ⟨⟨_, rfl, s.lostPower_modFe (s.powerOff_lostPower true) rfl, rfl⟩, ?pulled, ?tripped, ?watchdog⟩
  case pulled =>
    intro hon
    have hx : exec .seatSenseOpen s = .next (((s.powerOff true).modFe (fun f => { f with removalLatch := true })).modFe
        (fun f => { f with seatOpen := true })) := by
      simp [exec, execSeatSenseOpen, State.on, hon]
    exact ⟨_, hx, s.lostPower_modFe (s.lostPower_modFe (s.powerOff_lostPower true) rfl) rfl, rfl, rfl⟩
  case tripped =>
    intro hon vin a b hab
    let u := s.modFe (fun f => f.measure vin (a + b))
    have hx : exec (.inputMeasurement vin a b) s = .next u.inputFault := by
      rw [← s.measureOn_trips (FrontEnd.trips_of_lt _ hab)]
      simp [exec, execInputMeasurement, hon]
    exact ⟨_, hx, State.lostPower_modFe (s := s) (u.powerOff_lostPower true) rfl, rfl⟩
  case watchdog =>
    intro hon hdev hstep
    have hx : exec .journalWatchdog s = .next s.offFor2s := by
      simp [exec, execJournalWatchdog, State.whenOn, State.on, hon, hdev, hstep]
    exact ⟨_, hx, s.offFor2s_lostPower, rfl⟩

/-- Settles O28: every loss of 42 V goes through `powerOff`, and every start begins in `beginStart`. -/
theorem frontEndOnAndOff : Obligations.FrontEndOnAndOff := by
  refine ⟨frontEndOff_lostPower, fun s => ⟨?precharge, ?outOfRange, ?conducts⟩⟩
  case precharge =>
    intro vin hoff hlow hhigh hus hhold hmode
    let u := s.modFe (fun f => { f with hsEn := true, seatOpen := false })
    have hu : u.precharge = u.modFe (fun f => { f with fe := .precharge }) := State.precharge_of_ready rfl rfl hhold hmode
    have hx : exec (.hsEnAssert vin) s = .next (u.prechargeAt vin) := by
      simp [exec, execHsEnAssert, u, State.modFe, hoff, hlow, hhigh, hus]
    rw [hx, State.prechargeAt, hu]
    rfl
  case outOfRange =>
    intro vin h
    have hno : ¬ (s.fe.fe = .off ∧ 38000 ≤ vin ∧ vin ≤ 46000 ∧ s.fe.offUs = 0) := by
      rintro ⟨hoff, hlow, hhigh, -⟩
      rcases h with h | h | h
      · exact h hoff
      · omega
      · omega
    exact congrArg Host.Outcome.next (if_neg hno)
  case conducts =>
    intro hpre hroom
    have hx : exec .frontEndOn s = .next s.beginStart := congrArg Host.Outcome.next (if_pos hpre)
    exact ⟨_, hx, State.beginStart_next hroom⟩

end Sys2Proof.Machine

/-!
PROOFS. What the module records and sends touches its flash, its flags of it, its interrupts and its output, and nothing else; a
failed check touches the row, the cells and engines, and the Naela ports besides.
-/
namespace Sys2Proof.Machine

/-- A relation that holds of each step of a fold holds of the whole. -/
theorem foldl_rel {α β : Type} {R : α → α → Prop} (hrefl : ∀ u, R u u) (htrans : ∀ {u v w}, R u v → R v w → R u w)
    {f : α → β → α} (hstep : ∀ u e, R u (f u e)) (l : List β) (s : α) : R s (l.foldl f s) := by
  induction l generalizing s with
  | nil => exact hrefl s
  | cons e l ih => exact htrans (hstep s e) (ih _)

/-- A table whose values are all rewritten finds the rewritten value. -/
theorem Tab.get?_map_snd {α β : Type} (t : Tab α) (f : α → β) (k : Nat) :
    Tab.get? (t.map (fun e => (e.1, f e.2))) k = (Tab.get? t k).map f := by
  induction t with
  | nil => rfl
  | cons e t ih =>
    obtain ⟨j, v⟩ := e
    by_cases hj : j = k <;> simp [Tab.get?, hj, ih]

/-! ### Records, signatures, interrupts -/

/-- `t` is `s` but for what the module keeps in flash, the start's flags of it, MSI-X pending bits, and output. -/
def State.recorded (s t : State) : Prop :=
  ∃ f st p o, t = { s with flash := f, start := st, host := { s.host with pendingVec := p }, out := o }

namespace State.recorded

variable {s t u : State}

theorem refl (s : State) : s.recorded s := ⟨s.flash, s.start, s.host.pendingVec, s.out, rfl⟩

theorem trans : s.recorded t → t.recorded u → s.recorded u := by
  rintro ⟨_, _, _, _, rfl⟩ ⟨f, st, p, o, rfl⟩
  exact ⟨f, st, p, o, rfl⟩

theorem foldl {β : Type} {f : State → β → State} (hf : ∀ (u : State) e, u.recorded (f u e)) (l : List β) (s : State) :
    s.recorded (l.foldl f s) := foldl_rel refl trans hf l s

theorem fe (h : s.recorded t) : t.fe = s.fe := by obtain ⟨_, _, _, _, rfl⟩ := h; rfl
theorem dev (h : s.recorded t) : t.dev = s.dev := by obtain ⟨_, _, _, _, rfl⟩ := h; rfl
theorem obj (h : s.recorded t) : t.obj = s.obj := by obtain ⟨_, _, _, _, rfl⟩ := h; rfl
theorem map (h : s.recorded t) : t.map = s.map := by obtain ⟨_, _, _, _, rfl⟩ := h; rfl
theorem cells (h : s.recorded t) : t.cells = s.cells := by obtain ⟨_, _, _, _, rfl⟩ := h; rfl
theorem phys (h : s.recorded t) : t.phys = s.phys := by obtain ⟨_, _, _, _, rfl⟩ := h; rfl
theorem mem (h : s.recorded t) : t.mem = s.mem := by obtain ⟨_, _, _, _, rfl⟩ := h; rfl
theorem hostMem (h : s.recorded t) : t.hostMem = s.hostMem := by obtain ⟨_, _, _, _, rfl⟩ := h; rfl
theorem pats (h : s.recorded t) : t.pats = s.pats := by obtain ⟨_, _, _, _, rfl⟩ := h; rfl
theorem run (h : s.recorded t) : t.run = s.run := by obtain ⟨_, _, _, _, rfl⟩ := h; rfl
theorem row (h : s.recorded t) : t.row = s.row := by obtain ⟨_, _, _, _, rfl⟩ := h; rfl
theorem sess (h : s.recorded t) : t.sess = s.sess := by obtain ⟨_, _, _, _, rfl⟩ := h; rfl
theorem links (h : s.recorded t) : t.links = s.links := by obtain ⟨_, _, _, _, rfl⟩ := h; rfl
theorem clock (h : s.recorded t) : t.clock = s.clock := by obtain ⟨_, _, _, _, rfl⟩ := h; rfl

/-- The dictionary reads as before. -/
theorem nat (h : s.recorded t) (i j : Nat) : t.nat i j = s.nat i j := by simp [State.nat, State.ob, h.obj]

end State.recorded

theorem State.emit_recorded (s : State) (o : Output) : s.recorded (s.emit o) := ⟨s.flash, s.start, s.host.pendingVec, o :: s.out, rfl⟩

theorem State.msix_recorded (s : State) (v : Nat) : s.recorded (s.msix v) := by
  unfold State.msix
  split
  · exact ⟨s.flash, s.start, _, s.out, rfl⟩
  · exact s.emit_recorded _

theorem State.log_recorded (s : State) (o : Origin) (result idx sub old req app flags : Nat) :
    s.recorded (s.log o result idx sub old req app flags) := by
  unfold State.log
  refine .trans ?_ (State.msix_recorded _ 64)
  exact ⟨_, _, s.host.pendingVec, s.out, rfl⟩

theorem State.logEvent_recorded (s : State) (o : Origin) (idx sub old app : Nat) : s.recorded (s.logEvent o idx sub old app) :=
  s.log_recorded ..

theorem State.dueStatus_recorded (s : State) : s.recorded s.dueStatus := ⟨s.flash, _, s.host.pendingVec, s.out, rfl⟩

/-- A signature enters the ring, counts in NOHASH when it wants its operands, and raises vector 64. -/
theorem State.signature_eq (s : State) (i : SigInfo) : ∃ u, s.recorded u ∧
    s.signature i = (if i.needHash && i.ophash.isNone then u.addOb 0x2404 5 1 else u).msix 64 := by
  let seq := s.flash.sigSeq + 1
  let all := s.flash.sigs ++ [{ seq := seq, bytes := s.sigBytes i seq }]
  let f : Flash := { s.flash with sigs := all.drop (all.length - 16384), sigSeq := seq }
  exact ⟨{ s with flash := f, start := { s.start with sigSince := true } }, ⟨f, _, s.host.pendingVec, s.out, rfl⟩, rfl⟩

/-- A signature that needs no operand hash counts none. -/
theorem State.signature_recorded (s : State) {i : SigInfo} (hi : i.needHash = false) : s.recorded (s.signature i) := by
  obtain ⟨u, hu, he⟩ := s.signature_eq i
  rw [he, hi]
  exact hu.trans (u.msix_recorded 64)

theorem State.retireForStart_recorded (s : State) (o : Origin) (d : Defect) : s.recorded (s.retireForStart o d) := by
  unfold State.retireForStart
  refine .trans ?_ (State.log_recorded ..)
  exact ⟨_, _, s.host.pendingVec, s.out, rfl⟩

/-- A defect is kept in flash, or for this start, and logged. -/
theorem State.appendDefect_recorded (s : State) (o : Origin) (d : Defect) : s.recorded (s.appendDefect o d) := by
  have hput (l : List Defect) (n : Nat) :
      s.recorded (({ s with flash := { s.flash with defects := l } } : State).logEvent o 0x2301 2 n (n + 1)) :=
    .trans ⟨_, s.start, s.host.pendingVec, s.out, rfl⟩ (State.logEvent_recorded ..)
  unfold State.appendDefect
  simp only
  split
  · exact s.retireForStart_recorded ..
  · split
    · exact hput ..
    · exact (hput ..).trans (State.retireForStart_recorded ..)

theorem State.signDefect_recorded (s : State) (d : Defect) (cause action origin : Nat) :
    s.recorded (s.signDefect d cause action origin) := s.signature_recorded rfl

theorem State.logMapValue_recorded (s : State) (idx sub old new : Nat) : s.recorded (s.logMapValue idx sub old new) := by
  unfold State.logMapValue
  split
  · exact .refl s
  · exact s.logEvent_recorded ..

theorem State.logSlices_recorded (s : State) (m0 : MapSt) : s.recorded (s.logSlices m0) :=
  .foldl (fun u _ => ((u.logMapValue_recorded ..).trans (State.logMapValue_recorded ..)).trans (State.logMapValue_recorded ..)) _ s

theorem State.swatchFails_recorded (s : State) (d : Defect) (mech action : Nat) (no : Option Nat) :
    s.recorded (s.swatchFails d mech action no) := s.signature_recorded rfl

/-! ### Messages -/

/-- `t` is `s` but for its Naela ports and its output. -/
def State.messaged (s t : State) : Prop := ∃ n o, t = { s with naela := n, out := o }

namespace State.messaged

variable {s t u : State}

theorem refl (s : State) : s.messaged s := ⟨s.naela, s.out, rfl⟩

theorem trans : s.messaged t → t.messaged u → s.messaged u := by
  rintro ⟨_, _, rfl⟩ ⟨n, o, rfl⟩
  exact ⟨n, o, rfl⟩

theorem foldl {β : Type} {f : State → β → State} (hf : ∀ (u : State) e, u.messaged (f u e)) (l : List β) (s : State) :
    s.messaged (l.foldl f s) := foldl_rel refl trans hf l s

theorem row (h : s.messaged t) : t.row = s.row := by obtain ⟨_, _, rfl⟩ := h; rfl
theorem cells (h : s.messaged t) : t.cells = s.cells := by obtain ⟨_, _, rfl⟩ := h; rfl

end State.messaged

theorem State.sendFrame_messaged (s : State) (p vc : Nat) (b : Bytes) : s.messaged (s.sendFrame p vc b) := by
  unfold State.sendFrame
  simp only
  split
  · exact ⟨_, s.out, rfl⟩
  · exact ⟨_, _, rfl⟩

theorem State.newMessage_messaged (s : State) (mtype dst window addr : Nat) (body : Bytes) :
    s.messaged (s.newMessage mtype dst window addr body).2 := by
  unfold State.newMessage
  exact ⟨_, s.out, rfl⟩

theorem State.dispatchVc_messaged (s : State) (m : Bytes) (vc : Nat) : s.messaged (s.dispatchVc m vc) := by
  unfold State.dispatchVc
  split
  · exact .foldl (fun u _ => u.sendFrame_messaged ..) _ s
  · split
    · exact .refl s
    · exact ⟨_, s.out, rfl⟩

theorem State.sendControl_messaged (s : State) (mtype dst : Nat) (body : Bytes) : s.messaged (s.sendControl mtype dst body) := by
  unfold State.sendControl State.dispatchMessage
  exact (s.newMessage_messaged ..).trans (State.dispatchVc_messaged ..)

/-- An early FAIL goes to the neighbours on the group tree, and changes nothing else (R200). -/
theorem State.earlyFail_messaged (s : State) (cause origin : Nat) : s.messaged (s.earlyFail cause origin) := by
  unfold State.earlyFail
  split
  · refine .trans ?_ (State.messaged.foldl (fun u _ => u.sendControl_messaged ..) _ _)
    unfold State.verdictUp
    split
    · exact s.sendControl_messaged ..
    · exact .refl s
  · exact .refl s

/-! ### A failed check -/

/-- `t` is `s` but for what a failed check of the running row touches: the row, the cells and engines it stops, the Naela ports, the
dictionary's counters, and what is recorded. -/
def State.rowTouched (s t : State) : Prop :=
  ∃ ob f st p r c e n o, t = { s with
    obj := ob, flash := f, start := st, host := { s.host with pendingVec := p }, row := r, cells := c, engines := e, naela := n, out := o }

namespace State.rowTouched

variable {s t u : State}

theorem refl (s : State) : s.rowTouched s :=
  ⟨s.obj, s.flash, s.start, s.host.pendingVec, s.row, s.cells, s.engines, s.naela, s.out, rfl⟩

theorem trans : s.rowTouched t → t.rowTouched u → s.rowTouched u := by
  rintro ⟨_, _, _, _, _, _, _, _, _, rfl⟩ ⟨ob, f, st, p, r, c, e, n, o, rfl⟩
  exact ⟨ob, f, st, p, r, c, e, n, o, rfl⟩

theorem of_recorded (h : s.recorded t) : s.rowTouched t := by
  obtain ⟨f, st, p, o, rfl⟩ := h
  exact ⟨s.obj, f, st, p, s.row, s.cells, s.engines, s.naela, o, rfl⟩

theorem of_messaged (h : s.messaged t) : s.rowTouched t := by
  obtain ⟨n, o, rfl⟩ := h
  exact ⟨s.obj, s.flash, s.start, s.host.pendingVec, s.row, s.cells, s.engines, n, o, rfl⟩

/-- A change of the dictionary alone, or of the row alone. -/
theorem of_obj (s : State) (ob : Tab Int) : s.rowTouched { s with obj := ob } :=
  ⟨ob, s.flash, s.start, s.host.pendingVec, s.row, s.cells, s.engines, s.naela, s.out, rfl⟩

theorem of_row (s : State) (r : RowSt) : s.rowTouched { s with row := r } :=
  ⟨s.obj, s.flash, s.start, s.host.pendingVec, r, s.cells, s.engines, s.naela, s.out, rfl⟩

theorem fe (h : s.rowTouched t) : t.fe = s.fe := by obtain ⟨_, _, _, _, _, _, _, _, _, rfl⟩ := h; rfl
theorem dev (h : s.rowTouched t) : t.dev = s.dev := by obtain ⟨_, _, _, _, _, _, _, _, _, rfl⟩ := h; rfl
theorem map (h : s.rowTouched t) : t.map = s.map := by obtain ⟨_, _, _, _, _, _, _, _, _, rfl⟩ := h; rfl
theorem phys (h : s.rowTouched t) : t.phys = s.phys := by obtain ⟨_, _, _, _, _, _, _, _, _, rfl⟩ := h; rfl
theorem mem (h : s.rowTouched t) : t.mem = s.mem := by obtain ⟨_, _, _, _, _, _, _, _, _, rfl⟩ := h; rfl
theorem run (h : s.rowTouched t) : t.run = s.run := by obtain ⟨_, _, _, _, _, _, _, _, _, rfl⟩ := h; rfl
theorem sess (h : s.rowTouched t) : t.sess = s.sess := by obtain ⟨_, _, _, _, _, _, _, _, _, rfl⟩ := h; rfl
theorem links (h : s.rowTouched t) : t.links = s.links := by obtain ⟨_, _, _, _, _, _, _, _, _, rfl⟩ := h; rfl

end State.rowTouched

/-- Whatever a signature counts, it is of no row and no cell. -/
theorem State.signature_rowTouched (s : State) (i : SigInfo) :
    s.rowTouched (s.signature i) ∧ (s.signature i).row = s.row ∧ (s.signature i).cells = s.cells := by
  obtain ⟨u, hu, he⟩ := s.signature_eq i
  obtain ⟨v, hv, hrow, hcells, hm⟩ : ∃ v, u.rowTouched v ∧ v.row = u.row ∧ v.cells = u.cells ∧ s.signature i = v.msix 64 := by
    rw [he]
    split
    · exact ⟨u.addOb 0x2404 5 1, .of_obj u _, rfl, rfl, rfl⟩
    · exact ⟨u, .refl u, rfl, rfl, rfl⟩
  have h := v.msix_recorded 64
  rw [hm]
  exact ⟨((State.rowTouched.of_recorded hu).trans hv).trans (.of_recorded h), h.row.trans (hrow.trans hu.row), h.cells.trans (hcells.trans hu.cells)⟩

/-- A cell whose row is aborted: its sequencer stops, and its traffic is discarded (R198). -/
def CellSt.aborted (c : CellSt) : CellSt :=
  { c with
    phase := if c.phase = .ended then .ended else .idle
    mat := {}, vec := {}, mov := {}, syn := {}, chk := {}, loose := 0, rx := [], merge := [] }

theorem State.abortCells_cells (s : State) : s.abortCells.cells = s.cells.map (fun e => (e.1, e.2.aborted)) := rfl

/-- The cells of an aborted row run nothing and have no traffic. -/
theorem State.abortCells_quiet (s : State) {k : Nat} {c : CellSt} (h : Tab.get? s.abortCells.cells k = some c) :
    (c.phase = .idle ∨ c.phase = .ended) ∧ c.mat.q = [] ∧ c.vec.q = [] ∧ c.mov.q = [] ∧ c.syn.q = [] ∧ c.chk.q = [] ∧ c.rx = [] := by
  rw [s.abortCells_cells, Tab.get?_map_snd, Option.map_eq_some_iff] at h
  obtain ⟨b, -, rfl⟩ := h
  refine ⟨?_, rfl, rfl, rfl, rfl, rfl, rfl⟩
  by_cases hb : b.phase = .ended
  · exact .inr (if_pos hb)
  · exact .inl (if_neg hb)

/-- A failed check of the running row fails its attempt, and leaves the rest of the module alone (R181, R197, R198). -/
theorem State.failRow_rowTouched (s : State) (a : Alarm) : s.attemptFailed (s.failRow a) a ∧ s.rowTouched (s.failRow a) := by
  let r : RowSt := { s.row with phase := .aborted, failed := true, alarm := some a, suspects := allSuspects a }
  let u := ({ s with row := r } : State).abortCells
  have hu : s.rowTouched u := ⟨s.obj, s.flash, s.start, s.host.pendingVec, r, u.cells, u.engines, u.naela, s.out, rfl⟩
  let v := u.attemptSignature a (if u.row.attempt < 2 then 1 else 14)
  obtain ⟨hv, hrow, hcells⟩ : u.rowTouched v ∧ v.row = u.row ∧ v.cells = u.cells := u.signature_rowTouched _
  have hlast : s.failRow a = if a.cause = 0x44 then v else v.earlyFail a.cause v.moduleId := rfl
  have hm : v.messaged (s.failRow a) := by
    rw [hlast]
    split
    · exact .refl v
    · exact v.earlyFail_messaged ..
  have hst : s.rowTouched (s.failRow a) := (hu.trans hv).trans (.of_messaged hm)
  have hr : (s.failRow a).row = r := hm.row.trans hrow
  refine ⟨⟨?_, ?_, ?_, ?_, ?_, ?_, hst.mem, hst.run, hst.dev, ?_⟩, hst⟩
  iterate 6 rw [hr]
  intro k c hk
  exact ({ s with row := r } : State).abortCells_quiet ((congrArg (Tab.get? · k) (hm.cells.trans hcells)).symm.trans hk)

theorem State.raise_rowTouched (s : State) (a : Alarm) (lost : Bool) : s.rowTouched (s.raise a lost) := by
  unfold State.raise
  split
  · split
    · exact .refl s
    · exact (s.failRow_rowTouched a).2
  · exact .of_row ..
  · exact .refl s
  · split
    · unfold State.holdFail
      split
      · exact .of_row ..
      · exact .refl s
    · exact .refl s

end Sys2Proof.Machine

/-!
PROOFS. Links and scrubs: a flit that fails its CRC is retried until the link fails, and a scrub counts what it finds.
-/
namespace Sys2Proof.Machine

/-! ### The place of a logical cell -/

/-- Skipping the unused position and then counting without it gives the index back (R9). -/
theorem unskip_skipTo (unused j : Nat) : unskip unused (skipTo unused j) = some j := by
  unfold unskip skipTo
  by_cases h : j < unused
  · simp [h, Nat.ne_of_lt h]
  · have hne : j + 1 ≠ unused := by omega
    have hnl : ¬ j + 1 < unused := by omega
    simp [h, hne, hnl]

theorem skipTo_le (unused j : Nat) : skipTo unused j ≤ j + 1 := by
  unfold skipTo
  split <;> omega

/-- The physical region that carries a logical region carries it back, unless it is void. -/
theorem MapSt.logicalRegion_physRegion (m : MapSt) {k r : Nat} (hk : k < 6) (hv : m.voids.contains (6 * r + k) = false) :
    m.logicalRegion (m.physRegion k r) = some (6 * r + k) := by
  have hs : skipTo (m.vOf r) k < 7 := by have := skipTo_le (m.vOf r) k; omega
  have hdiv : m.physRegion k r / 7 = r := by unfold physRegion; omega
  have hmod : m.physRegion k r % 7 = skipTo (m.vOf r) k := by unfold physRegion; omega
  simp only [logicalRegion, hdiv, hmod, unskip_skipTo, hv, Bool.false_eq_true, if_false]

/-- The place of a logical cell carries that cell (R9). -/
theorem MapSt.logicalCell_of_place {m : MapSt} {x y : Nat} {p : Place} (hx : x < 48) (h : m.place x y = some p) :
    m.logicalCell p = some (x, y) := by
  unfold place at h
  split at h
  · cases h
  · rename_i hv
    obtain rfl := Option.some.inj h
    have hr := m.logicalRegion_physRegion (k := x / 8) (r := y / 6) (by omega) (by simpa using hv)
    simp only [logicalCell, hr, unskip_skipTo]
    congr 2 <;> omega

/-! ### A lost unit in an aborted row -/

/-- A unit that carries logical work, lost while the module runs and nothing is darned, joins the queue of the darnings (R342). -/
theorem State.queueLoss_carried {s : State} {u : Lost} (cause : Nat) (hdev : s.dev = .running) (hnow : s.map.now = none)
    (hc : s.map.carries u = true) : ∃ q, s.queueLoss u cause = { s with map := { s.map with queue := q } } := by
  have huses : s.map.uses u = false := by simp [MapSt.uses, hnow]
  unfold queueLoss
  by_cases hk : s.map.known u = true
  · exact ⟨s.map.queue, by simp [hk]⟩
  · exact ⟨s.map.queue ++ [(u, cause)], by simp [hk, hdev, hc, huses]⟩

theorem State.raise_aborted {s : State} (a : Alarm) (lost : Bool) (h : s.row.phase = .aborted) : s.raise a lost = s.moreSuspects a := by
  simp [raise, h]

theorem State.raise_running (s : State) (a : Alarm) (lost : Bool) (h : s.row.phase = .running) (hw : s.row.waste = false) :
    s.raise a lost = s.failRow a := by
  simp [raise, h, hw]

/-- In a row that is aborted already the loss adds suspects. -/
theorem State.loseUnit_aborted {s : State} {u : Lost} (a : Alarm) (hdev : s.dev = .running) (hnow : s.map.now = none)
    (hc : s.map.carries u = true) (hrow : s.row.phase = .aborted) :
    ∃ q us, s.loseUnit u a = { s with map := { s.map with queue := q }, row := { s.row with suspects := us } } := by
  obtain ⟨q, hq⟩ := State.queueLoss_carried a.cause hdev hnow hc
  unfold loseUnit
  simp only [hq]
  split
  · exact ⟨q, _, State.raise_aborted a true hrow⟩
  · exact ⟨q, s.row.suspects, rfl⟩

/-- The failed link of an aborted row, within a field: it is marked failed, and the cell that reports it is lost (R13, R341). -/
theorem State.loseLink_aborted {s : State} {x y d : Nat} (hx : x < 48) (hdev : s.dev = .running) (hnow : s.map.now = none)
    (hrow : s.row.phase = .aborted) (hseam : s.map.seamRegion x y d = none) :
    ∃ q us, s.loseLink (.mesh x y d) =
      { s.setLink (.mesh x y d) { s.link (.mesh x y d) with failed := true } with
        map := { s.map with queue := q }, row := { s.row with suspects := us } } := by
  let v := s.setLink (.mesh x y d) { s.link (.mesh x y d) with failed := true }
  have hu : v.linkUnit x y d = v.cellUnit x y := by
    unfold linkUnit
    rw [show v.map.seamRegion x y d = none from hseam]
  unfold loseLink
  simp only
  rw [show (s.setLink (.mesh x y d) { s.link (.mesh x y d) with failed := true }).linkUnit x y d = v.cellUnit x y from hu]
  cases hp : s.map.place x y with
  | none =>
    rw [show v.cellUnit x y = none by simp [cellUnit, v, hp]]
    exact ⟨s.map.queue, s.row.suspects, rfl⟩
  | some p =>
    rw [show v.cellUnit x y = some (.cell p.region p.row p.col) by simp [cellUnit, v, hp]]
    have hc : v.map.carries (.cell p.region p.row p.col) = true := by
      simp [MapSt.carries, v, MapSt.logicalCell_of_place hx hp]
    exact State.loseUnit_aborted (s := v) _ hdev hnow hc hrow

/-! ### Flits (R13, R194) -/

/-- A command to a link that exists, with the front end on. -/
theorem exec_flitReceive {s : State} {l : LinkId} (ok : Bool) (ws : List Nat) (hon : s.fe.fe = .on) (hl : l.wf = true) :
    exec (.flitReceive l ok ws) s = .next (s.flit l ok ws) := by
  have ho : s.on = true := by simp [State.on, hon]
  cases l with
  | mesh x y d => exact s.unit_on _ _ hl ho _
  | ring b i => exact s.unit_on _ _ hl ho _

/-- The link's record after a flit with a CRC error at the state's time. -/
def State.retried (s : State) (l : LinkId) : LinkSt :=
  { s.link l with
    sameFlit := (s.link l).sameFlit + 1
    retries := s.clock :: (s.link l).retries.filter (fun t => decide (s.clock < t + 1000000)) }

/-- The module once a flit with a CRC error is counted, in the row and on its link. -/
def State.flitRetried (s : State) (l : LinkId) : State :=
  { s.setLink l (s.retried l) with row := { s.row with retries := s.row.retries + 1 } }

/-- The logical cell that an alarm of a link names: the sending one; a ring link has none. -/
def linkSender : LinkId → Nat × Nat
  | .mesh x y _ => (x, y)
  | .ring _ _ => (0, 0)

/-- A flit with a CRC error on a link in service: counted, and at the eighth failure of one flit or the 65th retry in a millisecond the
attempt fails and the link's lanes are tested (R194). -/
theorem State.flit_bad {s : State} {l : LinkId} (ws : List Nat) (hf : (s.link l).failed = false) :
    s.flit l false ws =
      if 8 ≤ (s.retried l).sameFlit ∨ 64 < (s.retried l).retries.length then
        ((s.flitRetried l).raise { cause := 0x30, x := (linkSender l).1, y := (linkSender l).2, suspects := [.link l] }).testLater l ws
      else s.flitRetried l := by
  have hk : ¬ (s.link l).failed = true := by simp [hf]
  cases l with
  | mesh x y d => exact if_neg hk
  | ring b i => exact if_neg hk

/-- A good flit ends the count of its flit (R194). -/
theorem State.flit_good {s : State} {l : LinkId} (ws : List Nat) (hf : (s.link l).failed = false) :
    s.flit l true ws = if (s.link l).sameFlit = 0 then s else s.setLink l { s.link l with sameFlit := 0 } := by
  unfold flit
  simp only [hf, Bool.false_eq_true, if_false, if_true]

/-- A link within a field has no spare wires: its failure costs the link at once (R13). -/
theorem State.testLater_field {s : State} {x y d : Nat} (ws : List Nat) (hseam : s.map.seamRegion x y d = none) :
    s.testLater (.mesh x y d) ws = s.loseLink (.mesh x y d) := by
  simp [testLater, laneTest, hasSpares, hseam]

/-- A flit that brings a link within a field to a limit of R194 fails the attempt and the link. -/
theorem State.flit_fails_field {s : State} {x y d : Nat} (ws : List Nat) (hx : x < 48) (hf : (s.link (.mesh x y d)).failed = false)
    (hlimit : 7 ≤ (s.link (.mesh x y d)).sameFlit ∨ 64 < (s.retried (.mesh x y d)).retries.length)
    (hrun : s.row.phase = .running) (hwaste : s.row.waste = false) (hdev : s.dev = .running)
    (hseam : s.map.seamRegion x y d = none) (hnow : s.map.now = none) :
    let t := s.flit (.mesh x y d) false ws
    t.row.phase = .aborted ∧ t.row.failed = true ∧
      t.row.alarm = some { cause := 0x30, x := x, y := y, suspects := [.link (.mesh x y d)] } ∧
      (t.link (.mesh x y d)).failed = true ∧ t.mem = s.mem := by
  intro t
  let a : Alarm := { cause := 0x30, x := x, y := y, suspects := [.link (.mesh x y d)] }
  let v := (s.flitRetried (.mesh x y d)).failRow a
  obtain ⟨hfail, hst⟩ := (s.flitRetried (.mesh x y d)).failRow_rowTouched a
  obtain ⟨hphase, hfailed, halarm, -, -, -, hmem, -, -, -⟩ := hfail
  have hmap : v.map = s.map := hst.map
  obtain ⟨q, us, hlost⟩ := State.loseLink_aborted (s := v) hx (hst.dev.trans hdev) ((congrArg MapSt.now hmap).trans hnow) hphase
    (by rw [hmap]; exact hseam)
  have ht : t = v.loseLink (.mesh x y d) := by
    show s.flit (.mesh x y d) false ws = _
    have hyes : 8 ≤ (s.retried (.mesh x y d)).sameFlit ∨ 64 < (s.retried (.mesh x y d)).retries.length :=
      hlimit.imp_left Nat.succ_le_succ
    rw [State.flit_bad ws hf, if_pos hyes, linkSender, State.raise_running (s.flitRetried _) _ _ hrun hwaste, State.testLater_field ws (by rw [hmap]; exact hseam)]
  rw [ht, hlost]
  refine ⟨hphase, hfailed, halarm, ?_, hmem⟩
  exact congrArg LinkSt.failed (Tab.getD_set_same v.links (v.map.linkNo (.mesh x y d)) _ {})

/-- A good flit changes its link's record and no other. -/
theorem State.flit_good_frame {s : State} {l : LinkId} (ws : List Nat) (hf : (s.link l).failed = false) :
    let t := s.flit l true ws
    (t.link l).sameFlit = 0 ∧ t = { s with links := t.links } ∧
      ∀ k, k ≠ s.map.linkNo l → Tab.get? t.links k = Tab.get? s.links k := by
  rw [State.flit_good ws hf]
  split
  · next h => exact ⟨h, rfl, fun _ _ => rfl⟩
  · exact ⟨by simp, rfl, fun k hk => Tab.get?_set_ne _ _ hk⟩

/-- The retries of a link: counted below the limits of R194, at them the attempt fails; a good flit ends the count of its flit. -/
theorem flitReceive_retries (s : State) (l : LinkId) (ws : List Nat) (hon : s.fe.fe = .on) (hl : l.wf = true)
    (hf : (s.link l).failed = false) :
    ((s.link l).sameFlit < 7 → (s.retried l).retries.length ≤ 64 → exec (.flitReceive l false ws) s = .next (s.flitRetried l)) ∧
    (∀ x y d, l = .mesh x y d → (7 ≤ (s.link l).sameFlit ∨ 64 < (s.retried l).retries.length) → s.row.phase = .running →
      s.row.waste = false → s.dev = .running → (s.map.seamRegion x y d).isNone → s.map.now = none →
      ∃ t, exec (.flitReceive l false ws) s = .next t ∧ t.row.phase = .aborted ∧ t.row.failed = true ∧
        t.row.alarm = some { cause := 0x30, x := x, y := y, suspects := [.link l] } ∧ (t.link l).failed = true ∧ t.mem = s.mem) ∧
    (∃ t, exec (.flitReceive l true ws) s = .next t ∧ (t.link l).sameFlit = 0 ∧ t = { s with links := t.links } ∧
      ∀ k, k ≠ s.map.linkNo l → Tab.get? t.links k = Tab.get? s.links k) := by
  refine ⟨?retried, ?fails, ⟨_, exec_flitReceive true ws hon hl, State.flit_good_frame ws hf⟩⟩
  case retried =>
    intro hsame hrecent
    have hno : ¬ (8 ≤ (s.retried l).sameFlit ∨ 64 < (s.retried l).retries.length) :=
      not_or.mpr ⟨Nat.not_le.mpr (Nat.succ_lt_succ hsame), Nat.not_lt.mpr hrecent⟩
    rw [exec_flitReceive false ws hon hl, State.flit_bad ws hf, if_neg hno]
  case fails =>
    rintro x y d rfl hlimit hrun hwaste hdev hseam hnow
    have hx : x < 48 := by
      simp [LinkId.wf, Instr.okCell] at hl
      exact hl.1.1
    exact ⟨_, exec_flitReceive false ws hon hl,
      State.flit_fails_field ws hx hf hlimit hrun hwaste hdev (Option.isNone_iff_eq_none.mp hseam) hnow⟩

/-! ### Scrubs (R81, R82, R193) -/

/-- A repair that is due stays due; the line's own is due now. -/
theorem PhysCell.mem_repairLater (c : PhysCell) (l cause : Nat) : ∃ d, (l, d) ∈ c.repairLater l cause := by
  unfold PhysCell.repairLater
  split
  · next h =>
    obtain ⟨⟨k, d⟩, he, hk⟩ := List.any_eq_true.mp h
    obtain rfl : k = l := by simpa using hk
    exact ⟨d, he⟩
  · exact ⟨cause, by simp⟩

theorem second_of_recent {log : List (Nat × Nat)} {what t : Nat} (h : ∃ e ∈ log, e.1 = what ∧ t < e.2 + dayNs) :
    (second log what t).2 = true := by
  obtain ⟨e, he, hw, ht⟩ := h
  exact List.any_eq_true.mpr ⟨e, List.mem_filter.mpr ⟨he, by simpa using ht⟩, by simpa using hw⟩

@[simp] theorem State.physCell_set (s : State) (n : Nat) (c : PhysCell) (r : RowSt) :
    ({ s with phys := Tab.set s.phys n c, row := r } : State).physCell n = c := by simp [physCell]

/-- A corrected scratchpad line is counted; one that fails again, or a second time within 24 h, is due for repair (R81). -/
theorem State.scrubLine_corrected (s : State) (p : Place) (off : Nat) (again : Bool) :
    let t := s.scrubLine p off (.corrected again)
    let line := off / 64 * 64
    t.mem = s.mem ∧ t.hbm = s.hbm ∧ t.row = { s.row with spCorr := s.row.spCorr + 1 } ∧
      (again = true → ∃ c, (line, c) ∈ (t.physCell p.number).pendingLines) ∧
      ((∃ e ∈ (s.physCell p.number).corrected, e.1 = line ∧ s.clock < e.2 + dayNs) →
        ∃ c, (line, c) ∈ (t.physCell p.number).pendingLines) := by
  intro t line
  have hpend : (t.physCell p.number).pendingLines =
      if again || (second (s.physCell p.number).corrected line s.clock).2 then (s.physCell p.number).repairLater line 0
      else (s.physCell p.number).pendingLines := by
    simp [t, scrubLine, line]
  refine ⟨rfl, rfl, rfl, ?_, ?_⟩
  · rintro rfl
    rw [hpend, Bool.true_or, if_pos rfl]
    exact PhysCell.mem_repairLater ..
  · intro h
    rw [hpend, second_of_recent h, Bool.or_true, if_pos rfl]
    exact PhysCell.mem_repairLater ..

/-- An uncorrectable line is due for repair and has lost its content (R81, R182). -/
theorem State.loseLine_due (s : State) (p : Place) (line : Nat) :
    let t := s.loseLine p line
    line ∈ (t.physCell p.number).refill ∧ (∃ c, (line, c) ∈ (t.physCell p.number).pendingLines) ∧
      t.row = { s.row with uncorr := s.row.uncorr + 1 } := by
  refine ⟨?_, ?_, rfl⟩
  · rw [loseLine, physCell_set]
    simp only
    split
    · next h => exact List.contains_iff_mem.mp h
    · simp
  · rw [loseLine, physCell_set]
    exact PhysCell.mem_repairLater ..

/-- An uncorrectable scratchpad line: due for repair, its content lost; of a logical cell it fails the attempt of a run (R81, R486). -/
theorem State.scrubLine_uncorrectable (s : State) (p : Place) (off : Nat) :
    let t := s.scrubLine p off .uncorrectable
    let line := off / 64 * 64
    line ∈ (t.physCell p.number).refill ∧ (∃ c, (line, c) ∈ (t.physCell p.number).pendingLines) ∧
      (s.map.logicalCell p = none → t.row = { s.row with uncorr := s.row.uncorr + 1 }) ∧
      (∀ x y, s.map.logicalCell p = some (x, y) → s.row.phase = .running → s.row.waste = false →
        s.attemptFailed t { cause := 0x20, x := x, y := y, addr := cellBase x y + line }) := by
  intro t line
  obtain ⟨hrefill, hpend, hrow⟩ := s.loseLine_due p line
  cases hl : s.map.logicalCell p with
  | none =>
    have ht : t = s.loseLine p line := by
      simp only [t, scrubLine]
      rw [show (s.loseLine p (off / 64 * 64)).map.logicalCell p = none from hl]
    rw [ht]
    exact ⟨hrefill, hpend, fun _ => hrow, nofun⟩
  | some c =>
    obtain ⟨x, y⟩ := c
    let a : Alarm := { cause := 0x20, x := x, y := y, addr := cellBase x y + line }
    have ht : t = (s.loseLine p line).raise a := by
      simp only [t, scrubLine]
      rw [show (s.loseLine p (off / 64 * 64)).map.logicalCell p = some (x, y) from hl]
    have hphys : t.physCell p.number = (s.loseLine p line).physCell p.number := by
      rw [physCell, physCell, ht, ((s.loseLine p line).raise_rowTouched a false).phys]
    rw [hphys]
    refine ⟨hrefill, hpend, nofun, ?_⟩
    rintro _ _ ⟨⟩ hrun hwaste
    rw [ht, State.raise_running (s.loseLine p line) a false hrun hwaste]
    exact ((s.loseLine p line).failRow_rowTouched a).1

/-- The scrub of a line of a cell that is not clock-gated, or of none. -/
theorem exec_scratchpadScrub {s : State} {px py off : Nat} (o : EccOutcome) (hon : s.fe.fe = .on) (hx : px < 56) (hy : py < 42)
    (ho : off < 0x1000000) : exec (.scratchpadScrub px py off o) s =
      .next (if s.map.cellGated (placeAt px py) then s else s.scrubLine (placeAt px py) off o) :=
  s.unit_on _ _ (by simp [hx, hy, ho]) (by simp [State.on, hon]) _

theorem mem_addOnce {l : List Nat} {v w : Nat} : w ∈ addOnce l v ↔ w = v ∨ w ∈ l := by
  unfold addOnce
  split
  · next h =>
    have hv : v ∈ l := by simpa using h
    exact ⟨.inr, fun h => h.elim (fun e => e ▸ hv) id⟩
  · simp [or_comm]

theorem exec_hbmPatrolScrub {s : State} {a : Nat} (o : EccOutcome) (hon : s.fe.fe = .on) (ha : a < hbmEnd) :
    exec (.hbmPatrolScrub a o) s = .next (s.scrubHbm a o) :=
  s.unit_on _ _ (by simp [ha]) (by simp [State.on, hon]) _

/-- Settles O33: retries go through `flit`, scrubs through `scrubLine` and `scrubHbm`. -/
theorem flitRetriesAndScrubs : Obligations.FlitRetriesAndScrubs := by
  refine ⟨fun s l ws hon hl hf => flitReceive_retries s l ws hon hl hf, fun s hon => ⟨?gated, ?line, ?hbm⟩⟩
  case gated =>
    intro px py off o hx hy ho hg
    rw [exec_scratchpadScrub o hon hx hy ho, if_pos hg]
  case line =>
    intro px py off hx hy ho hg
    have hx (o : EccOutcome) : exec (.scratchpadScrub px py off o) s = .next (s.scrubLine (placeAt px py) off o) := by
      rw [exec_scratchpadScrub o hon hx hy ho, if_neg (by simp [hg])]
    exact ⟨hx .clean, fun again => ⟨_, hx _, s.scrubLine_corrected _ off again⟩, ⟨_, hx _, s.scrubLine_uncorrectable _ off⟩⟩
  case hbm =>
    intro a ha
    have hx (o : EccOutcome) := exec_hbmPatrolScrub o hon ha
    exact ⟨hx .clean, fun again => ⟨_, hx _, rfl, rfl, rfl⟩, ⟨_, hx _, rfl, rfl, fun l => mem_addOnce⟩⟩

end Sys2Proof.Machine

/-!
PROOFS. Darning: what a lost unit makes of the map, and what the module leaves alone while it puts the new map in force.
-/
namespace Sys2Proof.Machine

/-! ### A new map in force (R344, R349, R352) -/

/-- `t` is `s` but for region controllers and dictionary entries of blocks and regions, from 0x3000 on. -/
def State.ungated (s t : State) : Prop :=
  ∃ ob rg, t = { s with obj := ob, regs := rg } ∧ ∀ i j, i < 0x3000 → j < 256 → t.nat i j = s.nat i j

namespace State.ungated

variable {s t u : State}

theorem refl (s : State) : s.ungated s := ⟨s.obj, s.regs, rfl, fun _ _ _ _ => rfl⟩

theorem trans : s.ungated t → t.ungated u → s.ungated u := by
  rintro ⟨_, _, rfl, h⟩ ⟨ob, rg, rfl, h'⟩
  exact ⟨ob, rg, rfl, fun i j hi hj => (h' i j hi hj).trans (h i j hi hj)⟩

end State.ungated

theorem State.setReg_ungated (s : State) (r : Nat) (k : Reg) : s.ungated (s.setReg r k) :=
  ⟨s.obj, _, rfl, fun _ _ _ _ => rfl⟩

/-- An entry of a block or a region is none below 0x3000. -/
theorem State.setOb_ungated (s : State) {i j : Nat} (v : Int) (hi : 0x3000 ≤ i) (hj : j < 256) : s.ungated (s.setOb i j v) := by
  refine ⟨_, s.regs, rfl, fun k l hk hl => s.nat_setOb_ne v fun h => ?_⟩
  obtain ⟨rfl, -⟩ := okey_inj hl hj h
  omega

/-- Blocks and regions that come into use are ungated, and those that go out of use gated, and nothing else changes. -/
theorem State.ungate_ungated (s : State) (m0 : MapSt) : s.ungated (s.ungate m0) := by
  unfold ungate
  refine .trans (foldl_rel (R := State.ungated) .refl .trans (fun u b => ?_) _ s) (foldl_rel .refl .trans (fun u r => ?_) _ _)
  · split
    · exact u.setOb_ungated _ (by omega) (by decide)
    · exact .refl u
  · split
    · exact (u.setReg_ungated r _).trans (State.setOb_ungated _ _ (by omega) (by decide))
    · split
      · refine (u.setReg_ungated r { u.reg r with gated := true }).trans ?_
        show State.ungated _ (if _ then _ else _)
        split
        · exact .refl _
        · exact State.setOb_ungated _ _ (by omega) (by decide)
      · exact .refl u

/-- `t` has the work of `s`: its map, memory, patterns, run and row, and its dictionary below the regions' and blocks' entries. -/
structure State.sameWork (s t : State) : Prop where
  map : t.map = s.map
  mem : t.mem = s.mem
  pats : t.pats = s.pats
  run : t.run = s.run
  row : t.row = s.row
  clock : t.clock = s.clock
  nat : ∀ i j, i < 0x3000 → j < 256 → t.nat i j = s.nat i j

namespace State.sameWork

variable {s t u : State}

theorem refl (s : State) : s.sameWork s := ⟨rfl, rfl, rfl, rfl, rfl, rfl, fun _ _ _ _ => rfl⟩

theorem trans (h : s.sameWork t) (h' : t.sameWork u) : s.sameWork u :=
  ⟨h'.map.trans h.map, h'.mem.trans h.mem, h'.pats.trans h.pats, h'.run.trans h.run, h'.row.trans h.row, h'.clock.trans h.clock,
    fun i j hi hj => (h'.nat i j hi hj).trans (h.nat i j hi hj)⟩

theorem of_recorded (h : s.recorded t) : s.sameWork t :=
  ⟨h.map, h.mem, h.pats, h.run, h.row, h.clock, fun i j _ _ => h.nat i j⟩

theorem of_ungated (h : s.ungated t) : s.sameWork t := by
  obtain ⟨ob, rg, rfl, h⟩ := h
  exact ⟨rfl, rfl, rfl, rfl, rfl, rfl, h⟩

theorem of_cells (s : State) (c : Tab CellSt) : s.sameWork { s with cells := c } := ⟨rfl, rfl, rfl, rfl, rfl, rfl, fun _ _ _ _ => rfl⟩

end State.sameWork

/-- Does a loss lead to a darning, rather than a void region or nothing? -/
def Loss.darns : Loss → Bool
  | .cellDarn => true
  | .regionDarn _ => true
  | _ => false

/-- The map that a darning of the due units, the last of them `e`, puts in force from `ns` on (R343, R346). -/
def MapSt.darning (m : MapSt) (e : Lost × Nat) (ns durUs : Nat) : MapSt :=
  let us := m.dueUnits
  let r := m.loseAll us
  { r.1 with
    queue := m.queue.filter (fun q => !us.any (fun e => e.1 == q.1))
    redo := [], entered := [], now := if r.2.any Loss.darns then some e else none
    oldU := m.u, oldV := m.v, oldBadCells := m.badCells, oldBadRegions := m.badRegions, startNs := ns, durUs := durUs }

theorem State.listUnit_recorded (s : State) (e : Lost × Nat) : s.recorded (s.listUnit e) := by
  unfold listUnit
  split
  · exact .refl s
  · exact s.appendDefect_recorded ..

/-- Without a loaded pattern there is nothing to rebuild. -/
theorem State.rebuild_of_pats_nil {s : State} (h : s.pats = []) (cells : List (Nat × Nat)) : s.rebuild cells = s := by
  simp [rebuild, h]

/-- The steps of a darning between the new map and DARNSTATE leave the work of the module alone. -/
theorem State.putInForce_sameWork (s : State) (m0 : MapSt) : s.sameWork (((s.ungate m0).reloadMoved m0).logSlices m0) :=
  ((State.sameWork.of_ungated (s.ungate_ungated m0)).trans (.of_cells ..)).trans (.of_recorded (State.logSlices_recorded ..))

/-- The module once the map of its next darning is in force (R344). -/
def State.inForce (s : State) (e : Lost × Nat) (durUs : Nat) : State :=
  let t := (s.map.lostUnits s.map.dueUnits).foldl State.listUnit s
  ((({ t with map := s.map.darning e t.clock durUs } : State).ungate s.map).reloadMoved s.map).logSlices s.map

theorem State.inForce_sameWork (s : State) (e : Lost × Nat) (durUs : Nat) :
    ({ s with map := s.map.darning e s.clock durUs } : State).sameWork (s.inForce e durUs) := by
  let t := (s.map.lostUnits s.map.dueUnits).foldl State.listUnit s
  have hlist : s.recorded t := .foldl (fun t e => t.listUnit_recorded e) _ s
  have hmap : ({ s with map := s.map.darning e s.clock durUs } : State).sameWork { t with map := s.map.darning e t.clock durUs } :=
    ⟨by rw [hlist.clock], hlist.mem, hlist.pats, hlist.run, hlist.row, hlist.clock, fun i j _ _ => hlist.nat i j⟩
  exact hmap.trans (State.putInForce_sameWork _ s.map)

/-- The module once its next darning is applied, before regions without a spare become void: lost content is rebuilt, and DARNSTATE
tells of a darning that runs (R344, R345). -/
def State.darnedTo (s : State) (e : Lost × Nat) (durUs : Nat) : State :=
  let us := s.map.dueUnits
  let ls := (s.map.loseAll us).2
  let v := s.inForce e durUs
  let w := v.rebuild (((lostPlaces us ls).filterMap s.map.logicalCell).filter (fun c => (v.map.place c.1 c.2).isSome))
  if ls.any Loss.darns then w.setOb 0x2310 4 ((if ls.any Loss.takesRegion then 2 else 1 : Nat)) else w.newPorts

/-- A darning puts its map in force, and then reports the void regions (R345, R352). -/
theorem State.applyDarning_eq {s : State} {e : Lost × Nat} (durUs : Nat) (hlast : s.map.dueUnits.getLast? = some e) :
    let t := s.darnedTo e durUs
    s.applyDarning durUs = (t.map.voids.filter (fun k => !s.map.voids.contains k)).foldl
      (fun t k => t.becomeVoid k e.2 durUs (s.lostLoc e.1) (t.entryOf e)) t := by
  unfold applyDarning
  simp only [hlast]
  unfold darnedTo inForce MapSt.darning
  rfl

/-! What follows a new map: home and proxy ports, and ring capacity, and nothing else. -/

theorem State.newPorts_eq (s : State) :
    ∃ homes proxies rings, s.newPorts = { s with map := { s.map with homes := homes, proxies := proxies, rings := rings } } := by
  unfold newPorts allocateRings MapSt.withPorts
  exact ⟨_, _, _, rfl⟩

@[simp] theorem State.newPorts_voids (s : State) : s.newPorts.map.voids = s.map.voids := by
  obtain ⟨_, _, _, h⟩ := s.newPorts_eq; rw [h]

@[simp] theorem State.newPorts_now (s : State) : s.newPorts.map.now = s.map.now := by
  obtain ⟨_, _, _, h⟩ := s.newPorts_eq; rw [h]

@[simp] theorem State.newPorts_queue (s : State) : s.newPorts.map.queue = s.map.queue := by
  obtain ⟨_, _, _, h⟩ := s.newPorts_eq; rw [h]

@[simp] theorem State.newPorts_mem (s : State) : s.newPorts.mem = s.mem := by
  obtain ⟨_, _, _, h⟩ := s.newPorts_eq; rw [h]

@[simp] theorem State.newPorts_run (s : State) : s.newPorts.run = s.run := by
  obtain ⟨_, _, _, h⟩ := s.newPorts_eq; rw [h]

@[simp] theorem State.newPorts_row (s : State) : s.newPorts.row = s.row := by
  obtain ⟨_, _, _, h⟩ := s.newPorts_eq; rw [h]

@[simp] theorem State.newPorts_cells (s : State) : s.newPorts.cells = s.cells := by
  obtain ⟨_, _, _, h⟩ := s.newPorts_eq; rw [h]

@[simp] theorem State.newPorts_clock (s : State) : s.newPorts.clock = s.clock := by
  obtain ⟨_, _, _, h⟩ := s.newPorts_eq; rw [h]

@[simp] theorem State.newPorts_obj (s : State) : s.newPorts.obj = s.obj := by
  obtain ⟨_, _, _, h⟩ := s.newPorts_eq; rw [h]

/-! ### One unit waits -/

section
variable {s : State} {u : Lost} {cause : Nat} (h : s.darnReady u cause)
include h

theorem State.darnReady.dueUnits : s.map.dueUnits = [(u, cause)] := by simp [MapSt.dueUnits, MapSt.nextLost, h.queue, h.redo]

theorem State.darnReady.loseAll : s.map.loseAll s.map.dueUnits = ((s.map.lose u).1, [(s.map.lose u).2]) := by
  simp [h.dueUnits, MapSt.loseAll]

theorem State.darnReady.on : s.on = true := by simp [State.on, h.fe]

theorem State.darnReady.mayDarn : s.mayDarn = true := by
  simp [State.mayDarn, State.darningDue, h.dev, h.now_, h.queue, h.waste]

/-- The map of the unit's darning: what its loss makes of the map, with nothing left to darn. -/
theorem State.darnReady.darning (ns durUs : Nat) : s.map.darning (u, cause) ns durUs =
    { (s.map.lose u).1 with
      queue := [], redo := [], entered := [], now := if (s.map.lose u).2.darns then some (u, cause) else none
      oldU := s.map.u, oldV := s.map.v, oldBadCells := s.map.badCells, oldBadRegions := s.map.badRegions
      startNs := ns, durUs := durUs } := by
  have hq : s.map.queue.filter (fun q => !s.map.dueUnits.any (fun e => e.1 == q.1)) = [] := by simp [h.dueUnits, h.queue]
  unfold MapSt.darning
  simp only [hq, h.loseAll, List.any_cons, List.any_nil, Bool.or_false]

/-- With no pattern loaded nothing is rebuilt: a darning that runs shows in DARNSTATE, another leaves its ports only. -/
theorem State.darnReady.darnedTo (durUs : Nat) : s.darnedTo (u, cause) durUs =
    if (s.map.lose u).2.darns then
      (s.inForce (u, cause) durUs).setOb 0x2310 4 ((if (s.map.lose u).2.takesRegion then 2 else 1 : Nat))
    else (s.inForce (u, cause) durUs).newPorts := by
  have hpats := (s.inForce_sameWork (u, cause) durUs).pats.trans h.pats
  simp only [State.darnedTo, State.rebuild_of_pats_nil hpats, h.loseAll, List.any_cons, List.any_nil, Bool.or_false]

/-- A unit whose darning runs: its map is in force, DARNSTATE tells of it, and no region becomes void. -/
theorem State.darnReady.applyDarning_runs (durUs : Nat) (hd : (s.map.lose u).2.darns = true)
    (hv : (s.map.lose u).1.voids = s.map.voids) :
    s.applyDarning durUs = (s.inForce (u, cause) durUs).setOb 0x2310 4 ((if (s.map.lose u).2.takesRegion then 2 else 1 : Nat)) := by
  have hto := h.darnedTo durUs
  rw [if_pos hd] at hto
  have hvoids : (s.darnedTo (u, cause) durUs).map.voids = s.map.voids := by
    rw [hto, State.setOb_map, (s.inForce_sameWork ..).map, h.darning]
    exact hv
  have hnone : (s.darnedTo (u, cause) durUs).map.voids.filter (fun k => !s.map.voids.contains k) = [] := by simp [hvoids]
  rw [State.applyDarning_eq durUs (e := (u, cause)) (by simp [h.dueUnits]), hnone]
  exact hto

/-- A unit whose loss makes logical region `k` void. -/
theorem State.darnReady.applyDarning_void (durUs : Nat) {k : Nat} (hd : (s.map.lose u).2.darns = false)
    (hv : (s.map.lose u).1.voids = s.map.voids ++ [k]) (hk : k ∉ s.map.voids) :
    ∃ no, s.applyDarning durUs = (s.inForce (u, cause) durUs).newPorts.becomeVoid k cause durUs (s.lostLoc u) no := by
  have hto := h.darnedTo durUs
  rw [if_neg (by simp [hd])] at hto
  have hvoids : (s.darnedTo (u, cause) durUs).map.voids = s.map.voids ++ [k] := by
    rw [hto, State.newPorts_voids, (s.inForce_sameWork ..).map, h.darning]
    exact hv
  have hone : (s.darnedTo (u, cause) durUs).map.voids.filter (fun k => !s.map.voids.contains k) = [k] := by
    simp [hvoids, hk]
  rw [State.applyDarning_eq durUs (e := (u, cause)) (by simp [h.dueUnits]), hone, List.foldl_cons, List.foldl_nil, hto]
  exact ⟨_, rfl⟩

/-- The darning command of the right kind applies the unit's darning, whose spare region has passed its swatch. -/
theorem State.darnReady.startDarning {region : Bool} (durUs : Nat) (hr : (s.map.lose u).2.takesRegion = region) :
    s.startDarning region true durUs = (s.applyDarning durUs).darned := by
  unfold State.startDarning
  simp only [h.mayDarn, h.loseAll, List.any_cons, List.any_nil, Bool.or_false, hr, bne_self_eq_false, Bool.not_true,
    Bool.false_eq_true, if_false, if_true]
  split <;> rfl

end

/-- A darning outside the undo of a failed row has no row to replay. -/
theorem State.darned_of_phase {s : State} (h : s.row.phase ≠ .darning) : s.darned = s := by simp [darned, h]

/-- A void region with no run in progress: VOIDMASK shows it, and it is recorded. -/
theorem State.becomeVoid_of_run_none {s : State} (k cause durUs : Nat) (loc : List (Nat × Nat)) (no : Option Nat) (hrun : s.run = none) :
    (s.setOb 0x2310 1 (s.map.voidMask : Nat)).recorded (s.becomeVoid k cause durUs loc no) := by
  let u := s.setOb 0x2310 1 (s.map.voidMask : Nat)
  let v := (u.logEvent .darning 0x2310 1 (s.nat 0x2310 1) s.map.voidMask).msix 66
  let w := v.signature { loc := loc, mech := cause, action := 9, duration := some (durUs, v.heldMarks), defect := no }
  have hw : u.recorded w := ((u.logEvent_recorded ..).trans (State.msix_recorded ..)).trans (v.signature_recorded rfl)
  have hend : s.becomeVoid k cause durUs loc no = w := by
    show w.endUnrecoverable _ = w
    simp [endUnrecoverable, hw.run.trans hrun]
  rw [hend]
  exact hw

/-! ### What a loss makes of the map (R343) -/

/-- Case 1: the column has its spare. -/
theorem MapSt.lose_cell_spare {m : MapSt} {r row col : Nat} (hs : m.colSpare r col = true) (hu : m.unusable (.cell r row col) = false) :
    m.lose (.cell r row col) =
      ({ m with badCells := m.badCells ++ [(r * 8 + col, row)], u := Tab.set m.u (r * 8 + col) row }, .cellDarn) := by
  have hno : ((m.colBad r col).contains row || m.badRegions.contains r) = false := by
    rw [Bool.or_comm]
    exact hu
  simp only [lose, loseCell, hno, hs, Bool.false_eq_true, if_false, if_true]

/-- Case 3: the region row has its spare. -/
theorem MapSt.lose_region_spare {m : MapSt} {r : Nat} (hs : m.rowSpare (r / 7) = true) (hb : m.badRegions.contains r = false) :
    m.lose (.region r) = ({ m with badRegions := m.badRegions ++ [r], v := Tab.set m.v (r / 7) (r % 7) }, .regionDarn r) := by
  simp only [lose, loseRegion, hs, hb, Bool.false_eq_true, if_false, if_true]

/-- Case 4: no spare is left, and the logical region that stands there becomes void. -/
theorem MapSt.lose_region_void {m : MapSt} {r k : Nat} (hs : m.rowSpare (r / 7) = false) (hb : m.badRegions.contains r = false)
    (hk : m.logicalRegion r = some k) :
    m.lose (.region r) = ({ m with badRegions := m.badRegions ++ [r], voids := m.voids ++ [k] }, .void k) := by
  simp only [lose, loseRegion, hs, hb, hk, Bool.false_eq_true, if_false]

/-- A logical region that stands somewhere is not void. -/
theorem MapSt.not_mem_voids {m : MapSt} {r k : Nat} (hk : m.logicalRegion r = some k) : k ∉ m.voids := by
  unfold logicalRegion at hk
  split at hk
  · split at hk
    · cases hk
    · next hv =>
      obtain rfl := Option.some.inj hk
      simpa using hv
  · cases hk

/-! ### The darning commands (R343 to R345, R352) -/

/-- A darning of either kind that runs: the map of the unit's loss is in force, the darning is under way, and memory stands. -/
theorem State.darnReady.startDarning_runs {s : State} {u : Lost} {cause : Nat} (h : s.darnReady u cause) (durUs : Nat)
    (hd : (s.map.lose u).2.darns = true) (hv : (s.map.lose u).1.voids = s.map.voids) :
    ∃ t, s.startDarning (s.map.lose u).2.takesRegion true durUs = t ∧ t.map = s.map.darning (u, cause) s.clock durUs ∧
      t.nat 0x2310 4 = (if (s.map.lose u).2.takesRegion then 2 else 1) ∧ t.mem = s.mem := by
  have hw := s.inForce_sameWork (u, cause) durUs
  have hrow : ((s.inForce (u, cause) durUs).setOb 0x2310 4 ((if (s.map.lose u).2.takesRegion then 2 else 1 : Nat))).row.phase ≠ .darning := by
    rw [State.setOb_row, hw.row, h.phase]
    decide
  refine ⟨_, rfl, ?_⟩
  rw [h.startDarning durUs rfl, h.applyDarning_runs durUs hd hv, State.darned_of_phase hrow]
  exact ⟨hw.map, State.nat_setOb_same _ _ _ _, hw.mem⟩

theorem exec_cellDarning {s : State} {u : Lost} {cause : Nat} (h : s.darnReady u cause) (durUs : Nat) :
    exec (.cellDarning durUs) s = .next (s.startDarning false true durUs) :=
  State.whenOn_on h.on (fun s => s.startDarning false true durUs)

theorem exec_regionDarning {s : State} {u : Lost} {cause : Nat} (h : s.darnReady u cause) (durUs : Nat) :
    exec (.regionDarning true durUs) s = .next (s.startDarning true true durUs) :=
  State.whenOn_on h.on (fun s => s.startDarning true true durUs)

/-- A lost cell is replaced by the spare of its column. -/
theorem cellDarning_next {s : State} {r row col cause : Nat} (durUs : Nat) (h : s.darnReady (.cell r row col) cause)
    (hs : s.map.colSpare r col = true) (hu : s.map.unusable (.cell r row col) = false) :
    ∃ t, exec (.cellDarning durUs) s = .next t ∧ t.map.u = Tab.set s.map.u (r * 8 + col) row ∧ t.map.v = s.map.v ∧
      t.map.badCells = s.map.badCells ++ [(r * 8 + col, row)] ∧ t.map.badRegions = s.map.badRegions ∧ t.map.queue = [] ∧
      t.map.now = some (.cell r row col, cause) ∧ t.nat 0x2310 4 = 1 ∧ t.map.voids = s.map.voids ∧ t.mem = s.mem := by
  have hl := MapSt.lose_cell_spare hs hu
  obtain ⟨t, ht, hmap, hstate, hmem⟩ := h.startDarning_runs durUs (by rw [hl]; rfl) (by rw [hl])
  rw [h.darning] at hmap
  rw [hl] at ht hmap hstate
  refine ⟨t, (exec_cellDarning h durUs).trans (congrArg _ ht), ?_⟩
  rw [hmap]
  exact ⟨rfl, rfl, rfl, rfl, rfl, rfl, hstate, rfl, hmem⟩

/-- A lost region is replaced by the spare of its row. -/
theorem regionDarning_next {s : State} {r cause : Nat} (durUs : Nat) (h : s.darnReady (.region r) cause)
    (hs : s.map.rowSpare (r / 7) = true) (hb : s.map.badRegions.contains r = false) :
    ∃ t, exec (.regionDarning true durUs) s = .next t ∧ t.map.v = Tab.set s.map.v (r / 7) (r % 7) ∧ t.map.u = s.map.u ∧
      t.map.badRegions = s.map.badRegions ++ [r] ∧ t.map.queue = [] ∧ t.map.now = some (.region r, cause) ∧ t.nat 0x2310 4 = 2 ∧
      t.map.voids = s.map.voids ∧ t.mem = s.mem := by
  have hl := MapSt.lose_region_spare hs hb
  obtain ⟨t, ht, hmap, hstate, hmem⟩ := h.startDarning_runs durUs (by rw [hl]; rfl) (by rw [hl])
  rw [h.darning] at hmap
  rw [hl] at ht hmap hstate
  refine ⟨t, (exec_regionDarning h durUs).trans (congrArg _ ht), ?_⟩
  rw [hmap]
  exact ⟨rfl, rfl, rfl, rfl, rfl, hstate, rfl, hmem⟩

/-- A region without a spare becomes void at once. -/
theorem regionDarning_void {s : State} {r k cause : Nat} (durUs : Nat) (h : s.darnReady (.region r) cause)
    (hs : s.map.rowSpare (r / 7) = false) (hb : s.map.badRegions.contains r = false) (hk : s.map.logicalRegion r = some k) :
    ∃ t, exec (.regionDarning true durUs) s = .next t ∧ t.map.voids = s.map.voids ++ [k] ∧ t.map.now = none ∧ t.map.queue = [] ∧
      t.nat 0x2310 1 = t.map.voidMask ∧ t.mem = s.mem := by
  have hl := MapSt.lose_region_void hs hb hk
  have hw := s.inForce_sameWork (.region r, cause) durUs
  obtain ⟨no, hvoid⟩ := h.applyDarning_void durUs (by rw [hl]; rfl) (by rw [hl]) (MapSt.not_mem_voids hk)
  let v := (s.inForce (.region r, cause) durUs).newPorts
  have hrec : (v.setOb 0x2310 1 (v.map.voidMask : Nat)).recorded (v.becomeVoid k cause durUs (s.lostLoc (.region r)) no) :=
    State.becomeVoid_of_run_none k cause durUs _ no ((State.newPorts_run _).trans (hw.run.trans h.run))
  have hrow : (s.applyDarning durUs).row.phase ≠ .darning := by
    rw [hvoid, hrec.row, State.setOb_row, State.newPorts_row, hw.row, h.phase]
    decide
  have hx := (exec_regionDarning h durUs).trans (congrArg _ (h.startDarning durUs (by rw [hl]; rfl)))
  rw [State.darned_of_phase hrow, hvoid] at hx
  refine ⟨_, hx, ?_⟩
  rw [hrec.nat, State.nat_setOb_same, hrec.map, hrec.mem, State.setOb_map, State.setOb_mem, State.newPorts_voids,
    State.newPorts_now, State.newPorts_queue, State.newPorts_mem, hw.map, hw.mem, h.darning, hl]
  exact ⟨rfl, rfl, rfl, rfl, rfl⟩

/-- What is not a time for a darning, or with none due, changes nothing. -/
theorem darning_not_due {s : State} (durUs : Nat) (hn : s.map.now ≠ none ∨ s.darningDue = false) (hon : s.fe.fe = .on) (ok : Bool) :
    exec (.cellDarning durUs) s = .next s ∧ exec (.regionDarning ok durUs) s = .next s := by
  have hmay : s.mayDarn = false := by
    unfold State.mayDarn
    rcases hn with hn | hn
    · simp [Option.isNone_eq_false_iff.mpr (Option.isSome_iff_ne_none.mpr hn)]
    · simp [hn]
  have hno (region ok : Bool) : s.startDarning region ok durUs = s := by simp [State.startDarning, hmay]
  have ho : s.on = true := by simp [State.on, hon]
  exact ⟨(State.whenOn_on ho (fun s => s.startDarning false true durUs)).trans (congrArg _ (hno ..)),
    (State.whenOn_on ho (fun s => s.startDarning true ok durUs)).trans (congrArg _ (hno ..))⟩

/-! ### Time passes -/

/-- `t` is `s` but for the dictionary and what is recorded. -/
def State.noted (s t : State) : Prop := ∃ ob, ({ s with obj := ob } : State).recorded t

theorem State.recorded.noted {s t : State} (h : s.recorded t) : s.noted t := ⟨s.obj, h⟩

theorem State.setOb_noted (s : State) (i j : Nat) (v : Int) : s.noted (s.setOb i j v) := ⟨_, .refl _⟩

theorem State.noted.trans {s t u : State} : s.noted t → t.noted u → s.noted u := by
  rintro ⟨_, _, _, _, _, rfl⟩ ⟨ob, f, st, p, o, rfl⟩
  exact ⟨ob, f, st, p, o, rfl⟩

theorem State.noted.mem {s t : State} (h : s.noted t) : t.mem = s.mem := by obtain ⟨_, h⟩ := h; exact h.mem
theorem State.noted.cells {s t : State} (h : s.noted t) : t.cells = s.cells := by obtain ⟨_, h⟩ := h; exact h.cells
theorem State.noted.row {s t : State} (h : s.noted t) : t.row = s.row := by obtain ⟨_, h⟩ := h; exact h.row
theorem State.noted.map {s t : State} (h : s.noted t) : t.map = s.map := by obtain ⟨_, h⟩ := h; exact h.map
theorem State.noted.clock {s t : State} (h : s.noted t) : t.clock = s.clock := by obtain ⟨_, h⟩ := h; exact h.clock

/-- `t` is `s` after some time: clocks, regions and blocks differ, and of the dictionary nothing below 0x2D00. -/
def State.timePassed (s t : State) : Prop :=
  ∃ ob ti rg bl, t = { s with obj := ob, time := ti, regs := rg, blks := bl } ∧ ∀ i j, i < 0x2D00 → j < 256 → t.nat i j = s.nat i j

namespace State.timePassed

variable {s t u : State}

theorem refl (s : State) : s.timePassed s := ⟨s.obj, s.time, s.regs, s.blks, rfl, fun _ _ _ _ => rfl⟩

theorem trans : s.timePassed t → t.timePassed u → s.timePassed u := by
  rintro ⟨_, _, _, _, rfl, h⟩ ⟨ob, ti, rg, bl, rfl, h'⟩
  exact ⟨ob, ti, rg, bl, rfl, fun i j hi hj => (h' i j hi hj).trans (h i j hi hj)⟩

theorem mem (h : s.timePassed t) : t.mem = s.mem := by obtain ⟨_, _, _, _, rfl, -⟩ := h; rfl
theorem cells (h : s.timePassed t) : t.cells = s.cells := by obtain ⟨_, _, _, _, rfl, -⟩ := h; rfl
theorem row (h : s.timePassed t) : t.row = s.row := by obtain ⟨_, _, _, _, rfl, -⟩ := h; rfl
theorem clock (h : s.timePassed t) : t.clock = s.clock := by obtain ⟨_, _, _, _, rfl, -⟩ := h; rfl

theorem nat (h : s.timePassed t) {i j : Nat} (hi : i < 0x2D00) (hj : j < 256) : t.nat i j = s.nat i j := by
  obtain ⟨_, _, _, _, rfl, h⟩ := h
  exact h i j hi hj

theorem of_time (s : State) (ti : TimeSt) (rg : Tab Reg) (bl : Tab Blk) : s.timePassed { s with time := ti, regs := rg, blks := bl } :=
  ⟨s.obj, ti, rg, bl, rfl, fun _ _ _ _ => rfl⟩

theorem of_setOb (s : State) {i j : Nat} (v : Int) (hi : 0x2D00 ≤ i) (hj : j < 256) : s.timePassed (s.setOb i j v) := by
  refine ⟨_, s.time, s.regs, s.blks, rfl, fun k l hk hl => s.nat_setOb_ne v fun h => ?_⟩
  obtain ⟨rfl, -⟩ := okey_inj hl hj h
  omega

end State.timePassed

theorem State.addOb_timePassed (s : State) {i j : Nat} (n : Nat) (hi : 0x2D00 ≤ i) (hj : j < 256) : s.timePassed (s.addOb i j n) :=
  .of_setOb s _ hi hj

theorem State.stretchBlock_timePassed (s : State) (ns b : Nat) (v : Blk) : s.timePassed (s.stretchBlock ns b v) := by
  have hb : 0x2D00 ≤ 0x4000 + b := by omega
  let k := v.elapse ns
  let u : State := { s with blks := Tab.set s.blks b k.1 }
  have hu : s.timePassed u := .of_time s s.time s.regs _
  let w := (u.addOb (0x4000 + b) 0x11 k.2).addOb (0x4000 + b) 0x12 (k.2 * (k.1.period8 - 8))
  have hw : s.timePassed w := (hu.trans (u.addOb_timePassed _ hb (by decide))).trans (State.addOb_timePassed _ _ hb (by decide))
  unfold stretchBlock
  split
  · exact .refl s
  · show s.timePassed (if k.2 = 0 then u else if w.nat (0x4000 + b) 0x13 < k.1.run then w.setOb (0x4000 + b) 0x13 _ else w)
    split
    · exact hu
    · split
      · exact hw.trans (.of_setOb w _ hb (by decide))
      · exact hw

/-- Time that passes advances the clock, and touches the work of the module nowhere (R267, R271, R326). -/
theorem State.pass_timePassed (s : State) (ns : Nat) : ({ s with clock := s.clock + ns } : State).timePassed (s.pass ns) := by
  let a : State := { s with clock := s.clock + ns }
  let u : State := { a with
    time := s.time.elapse ns, regs := s.regs.map (fun (e : Nat × Reg) => (e.1, e.2.elapse ns (s.time.slewed ns))) }
  have hu : a.timePassed u := .of_time a _ _ s.blks
  have hstretch (v : State) : v.timePassed (v.stretch ns) :=
    foldl_rel (R := State.timePassed) .refl .trans (fun u e => u.stretchBlock_timePassed ..) _ v
  unfold pass
  split
  · refine (hu.trans ?_).trans (hstretch _)
    split
    · exact .refl u
    · exact u.addOb_timePassed _ (by decide) (by decide)
  · exact .refl a

/-! ### A darning completes (R350, R351) -/

/-- The module at the end of a darning's time: DARNINGS counts it, DARNSTATE is idle, its duration is noted and held against its
target. -/
def State.countDarning (s : State) (u : Lost) : State :=
  let us := (s.clock - s.map.startNs) / 1000
  let region := s.nat 0x2310 4 == 2
  let old := s.nat 0x2310 3
  let a := s.setOb 0x2310 3 ((old + darnCount u region : Nat))
  let b := a.logEvent .darning 0x2310 3 old (a.nat 0x2310 3)
  let c := (b.setOb 0x2310 4 0).setOb 0x2310 6 (us : Nat)
  if (if region then 20000 else 1500) < us then
    (c.addOb 0x2310 5 1).logEvent .darning 0x2310 5 (c.nat 0x2310 5) (c.nat 0x2310 5 + 1)
  else c

theorem State.countDarning_next (s : State) (u : Lost) :
    let t := s.countDarning u
    s.noted t ∧ t.nat 0x2310 4 = 0 ∧ t.nat 0x2310 3 = s.nat 0x2310 3 + darnCount u (s.nat 0x2310 4 == 2) := by
  let n := s.nat 0x2310 3 + darnCount u (s.nat 0x2310 4 == 2)
  let a := s.setOb 0x2310 3 (n : Nat)
  let b := a.logEvent .darning 0x2310 3 (s.nat 0x2310 3) (a.nat 0x2310 3)
  let c := (b.setOb 0x2310 4 0).setOb 0x2310 6 (((s.clock - s.map.startNs) / 1000 : Nat))
  have hb : a.recorded b := a.logEvent_recorded ..
  have hc : s.noted c :=
    (((s.setOb_noted ..).trans hb.noted).trans (b.setOb_noted ..)).trans (State.setOb_noted _ _ _ _)
  have hc4 : c.nat 0x2310 4 = 0 := by
    rw [State.nat_setOb_ne _ _ (by decide)]
    exact b.nat_setOb_same 0x2310 4 0
  have hc3 : c.nat 0x2310 3 = n := by
    rw [State.nat_setOb_ne _ _ (by decide), State.nat_setOb_ne _ _ (by decide), hb.nat, State.nat_setOb_same]
  let d := (c.addOb 0x2310 5 1).logEvent .darning 0x2310 5 (c.nat 0x2310 5) (c.nat 0x2310 5 + 1)
  have hd : (c.addOb 0x2310 5 1).recorded d := State.logEvent_recorded ..
  have hcd : s.countDarning u = d ∨ s.countDarning u = c := ite_eq_or_eq _ d c
  intro t
  rcases hcd with h | h
  · rw [show t = d from h]
    exact ⟨(hc.trans (c.setOb_noted ..)).trans hd.noted, (hd.nat ..).trans ((State.nat_setOb_ne c _ (by decide)).trans hc4),
      (hd.nat ..).trans ((State.nat_setOb_ne c _ (by decide)).trans hc3)⟩
  · rw [show t = c from h]
    exact ⟨hc, hc4, hc3⟩

/-- A darning that completes: at the end of its time it is counted and signed, the map is settled, and vector 65 is raised. -/
theorem State.completeDarning_eq {s : State} {e : Lost × Nat} (hnow : s.map.now = some e) :
    ∃ i : SigInfo, i.needHash = false ∧
      let u := ((s.pass (s.map.startNs + s.map.durUs * 1000 - s.clock)).endFast.countDarning e.1).signature i
      s.completeDarning = (({ u with map := { u.map with now := none, entered := [] } } : State).newPorts.msix 65).darned := by
  unfold completeDarning
  rw [hnow]
  refine ⟨_, ?_, rfl⟩
  rfl

theorem State.completeDarning_next {s : State} {u : Lost} {cause : Nat} (hnow : s.map.now = some (u, cause))
    (hrow : s.row.phase ≠ .darning) :
    let t := s.completeDarning
    t.map.now = none ∧ t.nat 0x2310 4 = 0 ∧ t.nat 0x2310 3 = s.nat 0x2310 3 + darnCount u (s.nat 0x2310 4 == 2) ∧
      t.clock = max s.clock (s.map.startNs + s.map.durUs * 1000) ∧ t.mem = s.mem ∧ t.cells = s.cells ∧ t.row = s.row := by
  intro t
  let a : State := { s with clock := s.clock + (s.map.startNs + s.map.durUs * 1000 - s.clock) }
  let b := (s.pass (s.map.startNs + s.map.durUs * 1000 - s.clock)).endFast
  have hb : a.timePassed b := (s.pass_timePassed _).trans (.of_time _ _ _ _)
  obtain ⟨hcount, hstate, hdarnings⟩ := b.countDarning_next u
  obtain ⟨i, hi, ht⟩ := State.completeDarning_eq hnow
  let c := (b.countDarning u).signature i
  have hc : (b.countDarning u).recorded c := State.signature_recorded _ hi
  let d := ({ c with map := { c.map with now := none, entered := [] } } : State).newPorts
  have hd : d.recorded (d.msix 65) := d.msix_recorded 65
  have hmem : d.mem = s.mem := (State.newPorts_mem _).trans ((hc.mem.trans hcount.mem).trans hb.mem)
  have hcells : d.cells = s.cells := (State.newPorts_cells _).trans ((hc.cells.trans hcount.cells).trans hb.cells)
  have hdrow : d.row = s.row := (State.newPorts_row _).trans ((hc.row.trans hcount.row).trans hb.row)
  have hclock : d.clock = a.clock := (State.newPorts_clock _).trans ((hc.clock.trans hcount.clock).trans hb.clock)
  have hnat (k : Nat) : d.nat 0x2310 k = (b.countDarning u).nat 0x2310 k :=
    (State.nat_of_obj_eq (State.newPorts_obj _) 0x2310 k).trans (hc.nat 0x2310 k)
  have hdone : t = d.msix 65 := ht.trans (State.darned_of_phase (by rw [hd.row, hdrow]; exact hrow))
  rw [hdone, hd.map, hd.nat, hd.nat, hd.clock, hd.mem, hd.cells, hd.row, hnat, hnat, hstate, hdarnings, hclock]
  rw [hb.nat (by decide) (by decide), hb.nat (by decide) (by decide)]
  refine ⟨State.newPorts_now _, rfl, rfl, ?_, hmem, hcells, hdrow⟩
  simp only [a]
  omega

/-! ### What the loss of a unit leaves of the map -/

/-- `n` is `m` but for which units are in use. -/
def MapSt.unitsOnly (m n : MapSt) : Prop :=
  ∃ u v bc br vo, n = { m with u := u, v := v, badCells := bc, badRegions := br, voids := vo }

namespace MapSt.unitsOnly

variable {m n o : MapSt}

theorem refl (m : MapSt) : m.unitsOnly m := ⟨m.u, m.v, m.badCells, m.badRegions, m.voids, rfl⟩

theorem trans : m.unitsOnly n → n.unitsOnly o → m.unitsOnly o := by
  rintro ⟨_, _, _, _, _, rfl⟩ ⟨u, v, bc, br, vo, rfl⟩
  exact ⟨u, v, bc, br, vo, rfl⟩

theorem now (h : m.unitsOnly n) : n.now = m.now := by obtain ⟨_, _, _, _, _, rfl⟩ := h; rfl
theorem redo (h : m.unitsOnly n) : n.redo = m.redo := by obtain ⟨_, _, _, _, _, rfl⟩ := h; rfl

end MapSt.unitsOnly

theorem MapSt.loseRegion_unitsOnly (m : MapSt) (r : Nat) : m.unitsOnly (m.loseRegion r).1 := by
  unfold loseRegion
  split
  · exact .refl m
  · simp only
    split
    · exact ⟨m.u, _, m.badCells, _, m.voids, rfl⟩
    · split
      · exact ⟨m.u, m.v, m.badCells, _, _, rfl⟩
      · exact ⟨m.u, m.v, m.badCells, _, m.voids, rfl⟩

theorem MapSt.loseCell_unitsOnly (m : MapSt) (r row col : Nat) : m.unitsOnly (m.loseCell r row col).1 := by
  unfold loseCell
  split
  · exact .refl m
  · simp only
    split
    · exact ⟨_, m.v, _, m.badRegions, m.voids, rfl⟩
    · exact .trans ⟨m.u, m.v, _, m.badRegions, m.voids, rfl⟩ (loseRegion_unitsOnly _ r)

theorem MapSt.lose_unitsOnly (m : MapSt) (u : Lost) : m.unitsOnly (m.lose u).1 := by
  cases u with
  | cell r row col => exact m.loseCell_unitsOnly r row col
  | region r => exact m.loseRegion_unitsOnly r
  | block b =>
    unfold lose loseBlock
    simp only
    split
    · exact .refl m
    · split
      · exact foldl_rel (R := MapSt.unitsOnly) .refl .trans (fun n p => n.loseCell_unitsOnly ..) _ m
      · exact m.loseRegion_unitsOnly _

/-! ### A stopped darning (R346, R355) -/

/-- A unit that makes no darning is recorded and enters the map. -/
theorem State.enterUnit_next (s : State) (u : Lost) (cause : Nat) :
    ({ s with map := { (s.map.lose u).1 with entered := if s.map.now.isSome then s.map.entered ++ [u] else [] } } : State).recorded
      (s.enterUnit u cause) := by
  unfold enterUnit
  have ha := s.appendDefect_recorded .darning (lostDefect cause u)
  generalize s.appendDefect .darning (lostDefect cause u) = t at ha
  obtain ⟨f, st, p, o, rfl⟩ := ha
  exact .trans ⟨f, st, p, o, rfl⟩ (State.logSlices_recorded _ _)

/-- With no darning running, the loss of a unit starts none, forgets none that waits, and leaves dictionary, memory and row. -/
theorem State.queueLoss_idle {s : State} (u : Lost) (cause : Nat) (hnow : s.map.now = none) :
    let t := s.queueLoss u cause
    t.map.now = none ∧ t.map.redo = s.map.redo ∧ (∀ i j, t.nat i j = s.nat i j) ∧ t.mem = s.mem ∧ t.row = s.row := by
  have hsame {t : State} (h : s.recorded t) : t.map.now = none ∧ t.map.redo = s.map.redo ∧ (∀ i j, t.nat i j = s.nat i j) ∧
      t.mem = s.mem ∧ t.row = s.row := by
    rw [h.map]
    exact ⟨hnow, rfl, h.nat, h.mem, h.row⟩
  have huses : s.map.uses u = false := by simp [MapSt.uses, hnow]
  unfold queueLoss
  simp only [huses, Bool.false_and, Bool.false_eq_true, if_false]
  split
  · exact hsame (.refl s)
  · split
    · exact hsame ⟨_, s.start, s.host.pendingVec, s.out, rfl⟩
    · split
      · exact hsame ((s.appendDefect_recorded ..).trans (State.signDefect_recorded ..))
      · split
        · have h := (s.enterUnit_next u cause).trans (State.signDefect_recorded (d := lostDefect cause u) (cause := cause)
            (action := defectAction (lostDefect cause u)) (origin := 0) _)
          have hlose := s.map.lose_unitsOnly u
          refine ⟨?_, ?_, h.nat, h.mem, h.row⟩
          · exact (congrArg MapSt.now h.map).trans (hlose.now.trans hnow)
          · exact (congrArg MapSt.redo h.map).trans hlose.redo
        · exact ⟨hnow, rfl, fun _ _ => rfl, rfl, rfl⟩

/-- A darning that is stopped waits to be applied again, whatever unit was lost (R346). -/
theorem State.restartDarning_next {s : State} {e : Lost × Nat} (hnow : s.map.now = some e) {d : Defect} {v : Lost}
    (hv : defectUnit d = some v) :
    let t := s.restartDarning d
    t.map.now = none ∧ e ∈ t.map.redo ∧ t.nat 0x2310 4 = 0 ∧ t.mem = s.mem ∧ t.row = s.row := by
  let a : State := { s with map := s.map.stopped }.setOb 0x2310 4 0
  let b := a.logSlices s.map
  have hb : a.recorded b := a.logSlices_recorded s.map
  have hstop : s.stopDarning = b := by simp [stopDarning, hnow, b, a]
  obtain ⟨hanow, haredo⟩ : a.map.now = none ∧ e ∈ a.map.redo := by simp [a, MapSt.stopped, hnow]
  have hres : s.restartDarning d = b.queueLoss v (if d.source < 0x80 then 0x40 else d.source - 0x80) := by
    simp [restartDarning, hnow, hv, hstop]
  obtain ⟨hn, hr, hnat, hmem, hrow⟩ := State.queueLoss_idle (s := b) v (if d.source < 0x80 then 0x40 else d.source - 0x80)
    (by rw [hb.map, hanow])
  intro t
  rw [show t = _ from hres, hn, hr, hnat, hmem, hrow, hb.map, hb.nat, hb.mem, hb.row]
  exact ⟨rfl, haredo, State.nat_setOb_same _ 0x2310 4 0, rfl, rfl⟩

/-- Settles O38: a darning puts the map of the unit's loss in force, and completes, or stops, under the map that stands. -/
theorem darningLostUnits : Obligations.DarningLostUnits := by
  refine ⟨fun s cause dur => ⟨?cell, ?region, ?void, ?idle⟩, fun s u cause hon hnow => ⟨?complete, ?restart⟩⟩
  case cell => exact fun r row col h _ _ _ hs hu => cellDarning_next dur h hs hu
  case region => exact fun r h _ hs hb => regionDarning_next dur h hs hb
  case void => exact fun r k h _ hs hb hk => regionDarning_void dur h hs hb hk
  case idle => exact fun hn hon ok => darning_not_due dur hn hon ok
  case complete =>
    intro hrow
    exact ⟨_, State.whenOn_on (by simp [State.on, hon]) State.completeDarning, State.completeDarning_next hnow hrow⟩
  case restart =>
    intro d v hw hv
    exact ⟨_, s.unit_on _ _ hw (by simp [State.on, hon]) (fun s => s.restartDarning d), State.restartDarning_next hnow hv⟩

end Sys2Proof.Machine

/-!
PROOFS. Stacks that fail in service, and swatches of units in waste yarn.
-/
namespace Sys2Proof.Machine

/-! ### Stacks (R358) -/

theorem exec_hbmStackFail {s : State} {i : Nat} (g : Nat) (hon : s.fe.fe = .on) (hi : i < 48) :
    exec (.hbmStackFail i g) s = .next (s.stackFails i g) :=
  s.unit_on _ _ (by simp [hi]) (by simp [State.on, hon]) (fun s => s.stackFails i g)

/-- The alarm of a row that names a failed stack. -/
def stackAlarm (i : Nat) : Alarm := { cause := 0x21, suspects := [.slice i], addr := i * 0x2000000000 }

/-- What a stack's failure puts in the defect list and the signatures. -/
def State.recordStack (s : State) (m0 : MapSt) (i kind action : Nat) : State :=
  let t := (s.logSlices m0).appendDefect .module { kind := kind, source := 0x80 + 0x21, detail := i }
  (t.signature { loc := [(12, i)], mech := 0x21, action := action, defect := t.newDefect }).msix 65

theorem State.recordStack_recorded (s : State) (m0 : MapSt) (i kind action : Nat) : s.recorded (s.recordStack m0 i kind action) :=
  (((s.logSlices_recorded m0).trans (State.appendDefect_recorded ..)).trans (State.signature_recorded _ rfl)).trans
    (State.msix_recorded ..)

/-- A stack that does not answer leaves service, and a row that names it fails. -/
theorem State.stackFails_lost {s : State} {i g : Nat} (ho : s.map.outStacks.contains i = false) (h64 : g ≠ 64) (h56 : g ≠ 56) :
    s.stackFails i g =
      (if s.rowNames i then (s.loseSlice i).raise (stackAlarm i) else s.loseSlice i).recordStack s.map i 9 12 := by
  unfold stackFails
  simp only [ho, h64, h56, or_self, decide_false, Bool.false_and, Bool.false_eq_true, if_false]
  rfl

/-- A stack back at 5.6 Gb/s, which no row names, is slow from now on. -/
theorem State.stackFails_slow {s : State} {i : Nat} (ho : s.map.outStacks.contains i = false) (hn : s.rowNames i = false) :
    s.stackFails i 56 =
      ({ s with map := { s.map with slowStacks := addOnce s.map.slowStacks i } } : State).recordStack s.map i 10 11 := by
  unfold stackFails
  simp only [ho, hn, Bool.and_false, Bool.false_eq_true, if_false]
  rfl

/-- A stack back at 6.4 Gb/s, which no row names, is as before. -/
theorem State.stackFails_back {s : State} {i : Nat} (ho : s.map.outStacks.contains i = false) (hn : s.rowNames i = false) :
    s.stackFails i 64 = s := by
  unfold stackFails
  simp only [ho, hn, Bool.and_false, Bool.false_eq_true, if_false]
  rfl

/-- A running row that names a slice is no waste-yarn row. -/
theorem State.waste_of_rowNames {s : State} {i : Nat} (hn : s.rowNames i = true) (hrun : s.row.phase = .running) : s.row.waste = false := by
  have h := (Bool.and_eq_true_iff.mp hn).2
  simpa [hrun] using h

/-- The slice of a lost stack is out of service, and the sessions with a page there are FAULTED; memory stands. -/
theorem State.loseSlice_frame {s t : State} {i : Nat} (h : (s.loseSlice i).rowTouched t) :
    i ∈ t.map.outStacks ∧ t.mem = s.mem ∧ ∀ k v, Tab.get? s.sess k = some v → Tab.get? t.sess k = some (v.losesSlice i) := by
  refine ⟨?_, h.mem, fun k v hv => ?_⟩
  · rw [h.map]
    exact mem_addOnce.mpr (.inl rfl)
  · rw [h.sess]
    exact (Tab.get?_map_snd s.sess (·.losesSlice i) k).trans (congrArg _ hv)

/-- A stack that fails and does not answer its retraining. -/
theorem hbmStackFail_lost {s : State} {i g : Nat} (hon : s.fe.fe = .on) (hi : i < 48) (ho : s.map.outStacks.contains i = false)
    (h64 : g ≠ 64) (h56 : g ≠ 56) :
    ∃ t, exec (.hbmStackFail i g) s = .next t ∧ i ∈ t.map.outStacks ∧ t.mem = s.mem ∧
      (∀ k v, Tab.get? s.sess k = some v → Tab.get? t.sess k = some (v.losesSlice i)) ∧
      (s.rowNames i = true → s.row.phase = .running → t.row.phase = .aborted ∧ t.row.alarm = some (stackAlarm i)) := by
  refine ⟨_, exec_hbmStackFail g hon hi, ?_⟩
  rw [State.stackFails_lost ho h64 h56]
  have hrec (u : State) := u.recordStack_recorded s.map i 9 12
  cases hn : s.rowNames i with
  | false =>
    obtain ⟨hout, hmem, hsess⟩ := State.loseSlice_frame (.of_recorded (hrec (s.loseSlice i)))
    exact ⟨hout, hmem, hsess, nofun⟩
  | true =>
    have hraise := (s.loseSlice i).raise_rowTouched (stackAlarm i) false
    obtain ⟨hout, hmem, hsess⟩ := State.loseSlice_frame (hraise.trans (.of_recorded (hrec _)))
    refine ⟨hout, hmem, hsess, fun _ hrun => ?_⟩
    obtain ⟨⟨hphase, -, halarm, -⟩, -⟩ := (s.loseSlice i).failRow_rowTouched (stackAlarm i)
    rw [if_pos rfl, (hrec _).row, State.raise_running (s.loseSlice i) _ _ hrun (State.waste_of_rowNames hn hrun)]
    exact ⟨hphase, halarm⟩

/-! ### Ungating for a swatch (R11) -/

/-- Cells and regions that are ungated for a swatch, and nothing else. -/
theorem State.wake_eq (s : State) (ps : List Place) :
    ∃ rg, s.wake ps = { s with
      map := { s.map with awake := s.map.awake ++ (ps.filter (fun p => s.map.cellGated p)).map Place.number }, regs := rg } := by
  have hfold (l : List Nat) (u : State) : ∃ rg, l.foldl (fun s n =>
      if (s.reg (n / 56)).gated then s.setReg (n / 56) { s.reg (n / 56) with gated := false } else s) u = { u with regs := rg } := by
    refine foldl_rel (R := fun u v : State => ∃ rg, v = { u with regs := rg }) (fun u => ⟨u.regs, rfl⟩) ?_ (fun u n => ?_) l u
    · rintro _ _ _ ⟨_, rfl⟩ ⟨rg, rfl⟩
      exact ⟨rg, rfl⟩
    · split
      · exact ⟨_, rfl⟩
      · exact ⟨u.regs, rfl⟩
  exact hfold _ _

theorem State.wake_frame (s : State) (ps : List Place) :
    s.wake ps = { s with map := { s.map with awake := (s.wake ps).map.awake }, regs := (s.wake ps).regs } := by
  obtain ⟨rg, h⟩ := s.wake_eq ps
  rw [h]

/-- Nothing that is woken is gated. -/
theorem State.wake_ungates (s : State) {ps : List Place} {p : Place} (hp : p ∈ ps) : (s.wake ps).map.cellGated p = false := by
  obtain ⟨rg, h⟩ := s.wake_eq ps
  rw [h]
  cases hg : s.map.cellGated p with
  | true =>
    have hmem : p.number ∈ s.map.awake ++ (ps.filter (fun p => s.map.cellGated p)).map Place.number :=
      List.mem_append_right _ (List.mem_map_of_mem (List.mem_filter.mpr ⟨hp, hg⟩))
    exact Bool.and_eq_false_iff.mpr (.inr (by rw [Bool.not_eq_false']; exact List.contains_iff_mem.mpr hmem))
  | false =>
    unfold MapSt.cellGated at hg ⊢
    rcases Bool.and_eq_false_iff.mp hg with hno | haw
    · exact Bool.and_eq_false_iff.mpr (.inl hno)
    · refine Bool.and_eq_false_iff.mpr (.inr ?_)
      simp only [Bool.not_eq_false', List.contains_iff_mem] at haw ⊢
      exact List.mem_append_left _ haw

/-- Waking touches no entry, memory or row. -/
theorem State.wake_nat (s : State) (ps : List Place) (i j : Nat) : (s.wake ps).nat i j = s.nat i j := by
  obtain ⟨rg, h⟩ := s.wake_eq ps
  rw [h]; rfl

theorem State.wake_mem (s : State) (ps : List Place) : (s.wake ps).mem = s.mem := by rw [s.wake_frame ps]

theorem State.wake_row (s : State) (ps : List Place) : (s.wake ps).row = s.row := by rw [s.wake_frame ps]

/-! ### Swatches in waste yarn (R11, R72, R74) -/

theorem exec_wasteYarnSwatch {s : State} {d : Defect} (passed : Bool) (hon : s.fe.fe = .on) (hd : d.wf = true) :
    exec (.wasteYarnSwatch d passed) s = .next (s.wasteSwatch d passed) :=
  s.unit_on _ _ hd (by simp [State.on, hon]) (fun s => s.wasteSwatch d passed)

/-- A swatch that passes has ungated what it ran on. -/
theorem State.wasteSwatch_passed {s : State} {d : Defect} (hy : s.inYarn (swatchPlaces d) = true) :
    s.wasteSwatch d true = s.wake (swatchPlaces d) := by
  simp [wasteSwatch, hy]

/-- A swatch does not run on cells that run a row program. -/
theorem State.wasteSwatch_busy {s : State} {d : Defect} (passed : Bool) (hy : s.inYarn (swatchPlaces d) = false) :
    s.wasteSwatch d passed = s := by
  simp [wasteSwatch, hy]

/-- The cells of a unit that carries no logical work carry none. -/
theorem MapSt.logicalCell_of_carries {m : MapSt} {u : Lost} (hc : m.carries u = false) {p : Place} (hp : p ∈ u.places) :
    m.logicalCell p = none := by
  cases u with
  | cell r row col =>
    obtain rfl := List.mem_singleton.mp hp
    exact Option.isSome_eq_false_iff.mp hc |> Option.isNone_iff_eq_none.mp
  | block b =>
    have h := List.any_eq_false.mp hc p hp
    simpa using h
  | region r =>
    obtain ⟨i, -, rfl⟩ := List.mem_map.mp hp
    have hr : m.logicalRegion r = none := by simpa [carries] using hc
    simp [logicalCell, hr]

/-- A unit that carries no logical work ticks waste yarn whenever the module ticks rows. -/
theorem State.inYarn_of_carries {s : State} {u : Lost} (ht : s.row.phase ≠ .idle) (hc : s.map.carries u = false) :
    s.inYarn u.places = true := by
  refine Bool.and_eq_true_iff.mpr ⟨by simp [ticks, ht], List.all_eq_true.mpr fun p hp => ?_⟩
  rw [MapSt.logicalCell_of_carries hc hp]

/-- A spare or unused unit that fails its swatch is entered as unusable (R11). -/
theorem State.wasteSwatch_failed {s : State} {d : Defect} {u : Lost} (ht : s.row.phase ≠ .idle) (hu : defectUnit d = some u)
    (hk : s.map.known u = false) (hc : s.map.carries u = false) (hnow : s.map.now = none) :
    let t := s.wasteSwatch d false
    t.map = { ((s.wake (swatchPlaces d)).map.lose u).1 with entered := [] } ∧ t.mem = s.mem ∧ t.row = s.row := by
  have hplaces : swatchPlaces d = u.places := by simp [swatchPlaces, hu]
  have hy : s.inYarn (swatchPlaces d) = true := by rw [hplaces]; exact State.inYarn_of_carries ht hc
  let a := s.wake (swatchPlaces d)
  have ha : a = { s with map := { s.map with awake := a.map.awake }, regs := a.regs } := s.wake_frame _
  have hak : a.map.known u = false := by rw [ha]; exact hk
  have hac : a.map.carries u = false := by rw [ha]; exact hc
  have hanow : a.map.now = none := by rw [ha]; exact hnow
  let b := a.enterUnit u 0
  have hb := a.enterUnit_next u 0
  let c := b.swatchFails d (0x100 + d.kind) (defectAction d) b.newDefect
  have hc : b.recorded c := b.swatchFails_recorded ..
  have ht : s.wasteSwatch d false = c := by
    simp only [wasteSwatch, hy, hu, Bool.not_true, Bool.false_eq_true, if_false]
    rw [show (s.wake (swatchPlaces d)).map.known u = false from hak, show (s.wake (swatchPlaces d)).map.carries u = false from hac]
    rfl
  intro t
  rw [show t = c from ht, hc.map, hc.mem, hc.row, hb.map, hb.mem, hb.row]
  simp only [hanow, Option.isSome_none, Bool.false_eq_true, if_false]
  exact ⟨rfl, s.wake_mem _, s.wake_row _⟩

/-! ### The suspect list (R363, R364) -/

theorem exec_suspectSwatch {s : State} {region : Nat} (passed : Bool) (hon : s.fe.fe = .on) (hr : region < 42 ∨ region = 0xFFFF)
    (ht : s.row.phase ≠ .idle) :
    exec (.suspectSwatch region passed) s = .next (s.runSelector region passed) :=
  (s.unit_on _ _ (by rcases hr with h | rfl <;> simp [*]) (by simp [State.on, hon])
    (fun s => if s.ticks then s.runSelector region passed else s)).trans
      (by rw [if_pos (show s.ticks = true by simp [State.ticks, ht])])

/-- What a selector's failed run leaves: its count, its signature, and, when it failed within the day, its retirement. -/
def State.selectorFailed (s : State) (l : Selector) : State :=
  let s := (s.addOb 0x2405 3 1).signature {
    loc := defectLoc l.unit
    mech := 0x100 + l.unit.kind, origin := 3, selector := some l.bytes }
  let kept := s.map.swatchFails.filter (fun e => decide (s.clock < e.2 + dayNs))
  let again := kept.any (fun e => e.1 == l.bytes)
  { s with map := { s.map with
    swatchFails := if again then kept.filter (fun e => e.1 != l.bytes) else kept ++ [(l.bytes, s.clock)]
    retireSel := if again then s.map.retireSel ++ [l.unit] else s.map.retireSel } }

/-- The entry of a region after one more run of the only selector of the list. -/
def Selector.turn (l : Selector) (here : Nat × Nat) : Nat × Nat :=
  let done := (if 0 = here.1 then here.2 else 0) + 1
  if l.runs ≤ done then (0, 0) else (0, done)

/-- A state in which the only selector of the list has begun one more run. -/
def State.selectorRan (s : State) (l : Selector) : State :=
  ((s.setSel l.unit.region (l.turn (Tab.getD s.map.nextSel l.unit.region (0, 0)))).wake (swatchPlaces l.unit)).addOb 0x2405 2 1

/-- The run of the only selector of a list. -/
theorem State.runSelector_one {s : State} {l : Selector} (hl : s.selectors = [l]) (passed : Bool) :
    s.runSelector l.unit.region passed =
      if !s.inYarn (swatchPlaces l.unit) then s
      else if s.skipsSelector l then (s.setSel l.unit.region (0, 0)).addOb 0x2405 4 1
      else if passed then s.selectorRan l else (s.selectorRan l).selectorFailed l := by
  unfold runSelector
  simp only [hl, List.length_singleton, List.range_one, List.findSome?_cons, Nat.mod_one, List.getElem?_cons_zero, if_true]
  rfl

/-- Equal entries stay equal under the same count. -/
theorem State.nat_addOb_congr {s t : State} {i j : Nat} (n : Nat) (h : t.nat i j = s.nat i j) :
    (t.addOb i j n).nat i j = (s.addOb i j n).nat i j := by
  simp only [addOb, nat_setOb_same, h]

theorem State.nat_addOb_ne (s : State) {i j i' j' : Nat} (n : Nat) (h : okey i' j' ≠ okey i j) :
    (s.addOb i j n).nat i' j' = s.nat i' j' :=
  nat_setOb_ne _ _ h

/-- A run of the only selector is counted and gives the turn on; memory and the row stand. -/
theorem State.selectorRan_frame (s : State) (l : Selector) :
    let t := s.selectorRan l
    t.nat 0x2405 2 = (s.addOb 0x2405 2 1).nat 0x2405 2 ∧ t.nat 0x2405 3 = s.nat 0x2405 3 ∧
      t.map.nextSel = Tab.set s.map.nextSel l.unit.region (l.turn (Tab.getD s.map.nextSel l.unit.region (0, 0))) ∧
      t.mem = s.mem ∧ t.row = s.row := by
  let a := s.setSel l.unit.region (l.turn (Tab.getD s.map.nextSel l.unit.region (0, 0)))
  have hnat (k : Nat) : (a.wake (swatchPlaces l.unit)).nat 0x2405 k = s.nat 0x2405 k := a.wake_nat _ _ _
  refine ⟨nat_addOb_congr 1 (hnat 2), (nat_addOb_ne _ 1 (by decide)).trans (hnat 3), ?_, a.wake_mem _, a.wake_row _⟩
  have hmap : (a.wake (swatchPlaces l.unit)).map.nextSel = a.map.nextSel := by rw [a.wake_frame]
  exact hmap

/-- A failed run is counted once more; the turn, memory and the row stand. -/
theorem State.selectorFailed_frame (s : State) (l : Selector) :
    let t := s.selectorFailed l
    t.nat 0x2405 2 = s.nat 0x2405 2 ∧ t.nat 0x2405 3 = (s.addOb 0x2405 3 1).nat 0x2405 3 ∧ t.map.nextSel = s.map.nextSel ∧
      t.mem = s.mem ∧ t.row = s.row := by
  have h := (s.addOb 0x2405 3 1).signature_recorded
    (i := { loc := defectLoc l.unit, mech := 0x100 + l.unit.kind, origin := 3, selector := some l.bytes }) rfl
  have hturn := congrArg MapSt.nextSel h.map
  exact ⟨(h.nat 0x2405 2).trans (nat_addOb_ne _ 1 (by decide)), h.nat 0x2405 3, hturn, h.mem, h.row⟩

/-- A selector that runs is counted, and its failure too. -/
theorem State.runSelector_counts {s : State} {l : Selector} (hl : s.selectors = [l]) (hy : s.inYarn (swatchPlaces l.unit) = true)
    (hskip : s.skipsSelector l = false) (passed : Bool) :
    let t := s.runSelector l.unit.region passed
    t.nat 0x2405 2 = (s.addOb 0x2405 2 1).nat 0x2405 2 ∧
      t.nat 0x2405 3 = (if passed then s.nat 0x2405 3 else (s.addOb 0x2405 3 1).nat 0x2405 3) ∧
      t.map.nextSel = Tab.set s.map.nextSel l.unit.region (l.turn (Tab.getD s.map.nextSel l.unit.region (0, 0))) ∧
      t.mem = s.mem ∧ t.row = s.row := by
  obtain ⟨hruns, hfails, hturn, hmem, hrow⟩ := s.selectorRan_frame l
  intro t
  have ht : t = _ := s.runSelector_one hl passed
  simp only [hy, hskip, Bool.not_true, Bool.false_eq_true, if_false] at ht
  rw [ht]
  cases passed with
  | true => exact ⟨hruns, hfails, hturn, hmem, hrow⟩
  | false =>
    obtain ⟨hruns', hfails', hturn', hmem', hrow'⟩ := (s.selectorRan l).selectorFailed_frame l
    exact ⟨hruns'.trans hruns, hfails'.trans (nat_addOb_congr 1 hfails), hturn'.trans hturn, hmem'.trans hmem, hrow'.trans hrow⟩

/-! ### The obligation -/

/-- Settles O39: what a failed stack or a run selector records is framed off, and waking leaves all but `awake` and the regions. -/
theorem stacksAndSwatches : Obligations.StacksAndSwatches := by
  refine ⟨fun s i g hon hi ho => ⟨fun h64 h56 => hbmStackFail_lost hon hi ho h64 h56, fun hn => ⟨?_, ?_⟩⟩,
    fun s hon ht _ => ⟨fun d hd => ⟨fun hy => ?_, fun hy passed => ?_⟩, fun ps => ⟨s.wake_frame ps, fun p hp => s.wake_ungates hp⟩,
      fun d u hd hu hk hc hnow => ⟨_, exec_wasteYarnSwatch false hon hd, State.wasteSwatch_failed ht hu hk hc hnow⟩,
      fun l hl hr passed => ?_⟩⟩
  · have h := State.recordStack_recorded { s with map := { s.map with slowStacks := addOnce s.map.slowStacks i } } s.map i 10 11
    refine ⟨_, (exec_hbmStackFail 56 hon hi).trans (congrArg _ (State.stackFails_slow ho hn)), ?_⟩
    rw [h.map, h.sess, h.mem, h.row]
    exact ⟨rfl, mem_addOnce.mpr (.inl rfl), rfl, rfl, rfl⟩
  · exact (exec_hbmStackFail 64 hon hi).trans (congrArg _ (State.stackFails_back ho hn))
  · exact (exec_wasteYarnSwatch true hon hd).trans (congrArg _ (State.wasteSwatch_passed hy))
  · exact (exec_wasteYarnSwatch passed hon hd).trans (congrArg _ (State.wasteSwatch_busy passed hy))
  · have hexec := exec_suspectSwatch passed hon hr ht
    have hone := State.runSelector_one hl passed
    refine ⟨fun hy => ?_, fun hy hskip => ?_, fun hy hskip => ⟨_, hexec, State.runSelector_counts hl hy hskip passed⟩⟩
    · rw [hexec, hone, hy]; rfl
    · rw [hexec, hone, hy, hskip]; rfl

end Sys2Proof.Machine

/-!
PROOFS. The host's memory accesses, back-invalidates, digests and page fills, and its link.
-/
namespace Sys2Proof.Machine

/-! ### Accesses inside one line (R203, R368, R369) -/

/-- Bytes that lie in one line are one piece. -/
theorem pieces_of_line (fuel : Nat) {a : Nat} {d : Bytes} (hd : d ≠ []) (hline : a % 64 + d.length ≤ 64) :
    pieces (fuel + 2) a d = [(a, d)] := by
  have hlen : d.length ≤ 64 - a % 64 := by omega
  have hempty : d.isEmpty = false := by simpa using hd
  simp [pieces, hempty, List.take_of_length_le hlen, List.drop_of_length_le hlen]

theorem exec_hostMemRead {s : State} (a n : Nat) (hon : s.fe.fe = .on) (hdec : s.decoded a n = true) (hn : 0 < n)
    (hline : a % 64 + n ≤ 64) : exec (.hostMemRead a n) s = .next (s.hostReadPiece a n) := by
  have hz : (zeros n).length = n := List.length_replicate
  have hne : zeros n ≠ [] := List.length_pos_iff.mp (by omega)
  refine (State.whenOn_on (by simp [State.on, hon]) _).trans (congrArg _ ?_)
  rw [if_pos hdec, pieces_of_line _ hne (by omega), List.foldl_cons, List.foldl_nil, hz]

theorem exec_hostMemWrite {s : State} (a : Nat) {d : Bytes} (hon : s.fe.fe = .on) (hdec : s.decoded a d.length = true) (hd : d ≠ [])
    (hline : a % 64 + d.length ≤ 64) : exec (.hostMemWrite a d) s = .next (s.hostWritePiece a d) := by
  refine (State.whenOn_on (by simp [State.on, hon]) _).trans (congrArg _ ?_)
  rw [if_pos hdec, State.hostWrite, pieces_of_line _ hd hline, List.foldl_cons, List.foldl_nil]

/-- The host reads a tracked line, or one whose set has room, at once. -/
theorem State.hostReadPiece_tracked {s : State} {a n : Nat} (hshare : s.inShare a n = false)
    (hroom : a / 64 * 64 ∈ s.hbm.snoop ∨ s.hbm.snoop.length < 16) :
    s.hostReadPiece a n = (s.track (a / 64 * 64)).emit (s.hostData a n) := by
  have hset : ((s.sameSet (a / 64 * 64)).contains (a / 64 * 64) || decide ((s.sameSet (a / 64 * 64)).length < 16)) = true := by
    rw [Bool.or_eq_true, List.contains_iff_mem, decide_eq_true_iff]
    refine hroom.imp (fun h => List.mem_filter.mpr ⟨h, by simp⟩) (fun h => ?_)
    exact Nat.lt_of_le_of_lt (List.length_filter_le ..) h
  unfold hostReadPiece
  simp only [hshare, Bool.false_eq_true, if_false]
  exact if_pos hset

/-- The host may hold a tracked line. -/
theorem State.mem_track (s : State) (line : Nat) : line ∈ (s.track line).hbm.snoop := List.mem_cons_self

/-- A write beside the reserved ranges is held or lands. -/
theorem State.hostWritePiece_open {s : State} {a : Nat} {d : Bytes} (hshare : s.inShare a d.length = false)
    (hsarea : s.inSarea a = false) (himage : s.inImage a = false) (hout : s.sliceOut a = false) :
    s.hostWritePiece a d =
      if s.heldTarget a then { s with hbm := { s.hbm with heldWrites := s.hbm.heldWrites ++ [(a, d)] } } else s.landHost a d := by
  unfold hostWritePiece
  simp only [hshare, hsarea, himage, hout, or_self, Bool.false_eq_true, if_false]

/-! ### Delivery of completions (R369, R374, R376) -/

/-- With nothing fetched no fence settles. -/
theorem State.settleFences_idle {s : State} (hf : s.host.fetched = []) : s.settleFences = s := by
  unfold settleFences
  rw [hf]; rfl

/-- With nothing held and nothing fetched there is nothing to deliver. -/
theorem State.deliver_idle {s : State} (hheld : s.host.held = []) (hf : s.host.fetched = []) : s.deliver = s := by
  have hhost : { s.host with held := [] } = s.host := by rw [← hheld]
  unfold deliver
  simp only [hheld, hhost, List.foldl_nil]
  exact settleFences_idle hf

/-- The answer to the back-invalidate that a read waits for: the read is answered. -/
theorem State.birsp_answers {s : State} {line b n : Nat} (hw : s.hbm.waitSnoop = [(line, some (b, n))]) (hheld : s.host.held = [])
    (hf : s.host.fetched = []) :
    s.birsp line = ((({ s with hbm := { s.hbm with snoop := s.hbm.snoop.filter (· != line), waitSnoop := [] } }) : State).track
      (b / 64 * 64)).emit (s.hostData b n) := by
  unfold birsp
  simp only [hw, List.filter_cons, List.filter_nil, beq_self_eq_true, bne_self_eq_false, if_true, Bool.false_eq_true, if_false,
    List.foldl_cons, List.foldl_nil]
  exact deliver_idle hheld hf

/-- The only completion that waits for its digests gets them. -/
theorem State.digestDone_one {s : State} {e : Ended} (hheld : s.host.held = []) (hend : s.host.ending = [e]) (hf : s.host.fetched = [])
    (hneed : e.needDigest = true) :
    s.digestDone = { s with
      host := { s.host with held := [], ending := [{ e with needDigest := false }] }
      hbm := { s.hbm with unhashed := s.hbm.unhashed.drop e.digests.length } } := by
  unfold digestDone
  simp only [hheld, hend, List.nil_append, List.find?_cons_of_pos hneed, List.map_nil, List.map_cons, if_true]
  exact deliver_idle rfl hf

/-! ### Page fills (R240) -/

/-- Does an address lie in one of these pages, in a slice in service? -/
def State.inFilled (s : State) (ps : List (Nat × Nat)) (a : Nat) : Bool :=
  ((ps.filter (fun p => !s.map.outStacks.contains (p.1 / 65536))).map (·.2)).any (fun b => decide (b ≤ a) && decide (a < b + pageBytes))

theorem State.inFilled_of_mem {s : State} {ps : List (Nat × Nat)} {p : Nat × Nat} (hp : p ∈ ps)
    (hin : s.map.outStacks.contains (p.1 / 65536) = false) {a : Nat} (hlo : p.2 ≤ a) (hhi : a < p.2 + pageBytes) :
    s.inFilled ps a = true :=
  List.any_eq_true.mpr ⟨p.2, List.mem_map_of_mem (List.mem_filter.mpr ⟨hp, by rw [hin]; rfl⟩), by simp [hlo, hhi]⟩

/-- A filled page of a slice in service reads zero. -/
theorem State.read_zeroPages {s : State} {ps : List (Nat × Nat)} {a : Nat} (ha : s.inFilled ps a = true) :
    (s.zeroPages ps).mem.read a = 0 := by
  have hnone : Tab.get? (s.zeroPages ps).mem a = none :=
    (Tab.get?_filter s.mem (fun i => !s.inFilled ps i) a).trans (by rw [ha]; rfl)
  rw [Mem.read, Tab.getD, hnone]; rfl

/-- The pages of a closed session are filled and back in the pool. -/
def State.refilled (s : State) (h : Nat) (ps : List (Nat × Nat)) : State :=
  let t := (s.zeroPages ps).returnPages (ps.map (·.1))
  { t with pool := { t.pool with zeroing := t.pool.zeroing.filter (fun z => z.1 != h) } }

theorem exec_pageZeroingDone {s : State} {h : Nat} {ps : List (Nat × Nat)} (hon : s.fe.fe = .on) (hz : s.pool.zeroing = [(h, ps)]) :
    exec (.pageZeroingDone h) s = .next (match s.closingOf h with
      | some f => (s.refilled h ps).finish f h
      | none => s.refilled h ps) := by
  have hfind : s.pool.zeroing.find? (fun e => e.1 == h) = some (h, ps) := by simp [hz]
  have hexec : exec (.pageZeroingDone h) s = execPageZeroingDone h s := rfl
  rw [hexec, execPageZeroingDone, State.whenOn_on (by simp [State.on, hon]), hfind]
  rfl

/-- The end of the only zero fill. -/
theorem pageZeroingDone_only {s : State} {h : Nat} {ps : List (Nat × Nat)} (hon : s.fe.fe = .on) (hz : s.pool.zeroing = [(h, ps)]) :
    ∃ t, exec (.pageZeroingDone h) s = .next t ∧ t.pool.zeroing = [] ∧
      (∀ p, p ∈ t.pool.used ↔ p ∈ s.pool.used ∧ p ∉ ps.map (·.1)) ∧
      ∀ p ∈ ps, s.map.outStacks.contains (p.1 / 65536) = false → ∀ a, p.2 ≤ a → a < p.2 + pageBytes → t.mem.read a = 0 := by
  obtain ⟨t, hexec, hpool, hmem⟩ : ∃ t, exec (.pageZeroingDone h) s = .next t ∧ t.pool = (s.refilled h ps).pool ∧
      t.mem = (s.zeroPages ps).mem := by
    refine ⟨_, exec_pageZeroingDone hon hz, ?_⟩
    cases s.closingOf h with
    | some f => exact ⟨rfl, rfl⟩
    | none => exact ⟨rfl, rfl⟩
  refine ⟨t, hexec, ?_, fun p => ?_, fun p hp hin a hlo hhi => ?_⟩
  · have hzeroing : t.pool.zeroing = s.pool.zeroing.filter (fun z => z.1 != h) := congrArg Pool.zeroing hpool
    rw [hzeroing, hz]
    simp
  · have hused : t.pool.used = s.pool.used.filter (fun p => !(ps.map (·.1)).contains p) := congrArg Pool.used hpool
    simp [hused]
  · rw [hmem]
    exact State.read_zeroPages (State.inFilled_of_mem hp hin hlo hhi)

/-! ### The link goes down (R374) -/

/-- A step of taking the link down: the host's side, the run and its sessions, the queues' states and what is recorded change; a
queue that is disabled stays so, and the link stays as it is. -/
def State.stopWork (s t : State) : Prop :=
  ∃ fl st h r se qs o, t = { s with flash := fl, start := st, host := h, run := r, sess := se, queues := qs, out := o } ∧
    h.up = s.host.up ∧ ((∀ q, (s.queue q).en = false) → ∀ q, (t.queue q).en = false)

namespace State.stopWork

variable {s t u : State}

theorem refl (s : State) : s.stopWork s := ⟨s.flash, s.start, s.host, s.run, s.sess, s.queues, s.out, rfl, rfl, id⟩

theorem trans : s.stopWork t → t.stopWork u → s.stopWork u := by
  rintro ⟨fl, st, h, r, se, qs, o, rfl, hup, hen⟩ ⟨fl', st', h', r', se', qs', o', rfl, hup', hen'⟩
  exact ⟨fl', st', h', r', se', qs', o', rfl, hup'.trans hup, fun hq => hen' (hen hq)⟩

theorem foldl {β : Type} {f : State → β → State} (hf : ∀ (u : State) e, u.stopWork (f u e)) (l : List β) (s : State) :
    s.stopWork (l.foldl f s) := foldl_rel refl trans hf l s

theorem of_recorded : s.recorded t → s.stopWork t := by
  rintro ⟨fl, st, p, o, rfl⟩
  exact ⟨fl, st, _, s.run, s.sess, s.queues, o, rfl, rfl, id⟩

/-- A change of the host's side alone that leaves the link. -/
theorem of_host {h : HostSt} (hup : h.up = s.host.up) : s.stopWork { s with host := h } :=
  ⟨s.flash, s.start, h, s.run, s.sess, s.queues, s.out, rfl, hup, id⟩

/-- A change of the run and the sessions alone. -/
theorem of_run (r : Option RunSt) (se : Tab Session) : s.stopWork { s with run := r, sess := se } :=
  ⟨s.flash, s.start, s.host, r, se, s.queues, s.out, rfl, rfl, id⟩

/-- A change of one queue that leaves EN. -/
theorem of_queue {q : Nat} {v : QueuePair} (hv : v.en = (s.queue q).en) : s.stopWork (s.setQueue q v) := by
  refine ⟨s.flash, s.start, s.host, s.run, s.sess, _, s.out, rfl, rfl, fun hq r => ?_⟩
  by_cases hr : r = q
  · rw [hr, queue_setQueue_same, hv, hq]
  · rw [queue_setQueue_ne _ _ hr, hq]

theorem dev (h : s.stopWork t) : t.dev = s.dev := by obtain ⟨_, _, _, _, _, _, _, rfl, -⟩ := h; rfl
theorem mem (h : s.stopWork t) : t.mem = s.mem := by obtain ⟨_, _, _, _, _, _, _, rfl, -⟩ := h; rfl
theorem hostMem (h : s.stopWork t) : t.hostMem = s.hostMem := by obtain ⟨_, _, _, _, _, _, _, rfl, -⟩ := h; rfl
theorem row (h : s.stopWork t) : t.row = s.row := by obtain ⟨_, _, _, _, _, _, _, rfl, -⟩ := h; rfl
theorem hbm (h : s.stopWork t) : t.hbm = s.hbm := by obtain ⟨_, _, _, _, _, _, _, rfl, -⟩ := h; rfl
theorem up (h : s.stopWork t) : t.host.up = s.host.up := by obtain ⟨_, _, _, _, _, _, _, rfl, hup, -⟩ := h; exact hup
theorem disabled (h : s.stopWork t) : (∀ q, (s.queue q).en = false) → ∀ q, (t.queue q).en = false := by
  obtain ⟨_, _, _, _, _, _, _, -, -, hen⟩ := h
  exact hen

end State.stopWork

theorem State.endCommand_stopWork (s : State) (f : Fetched) (c : Completion) (writes : List (Nat × Bytes)) (digests : List Bytes)
    (digAddr : Nat) (needDigest : Bool) : s.stopWork (s.endCommand f c writes digests digAddr needDigest) := .of_host rfl

theorem State.abortFetched_stopWork (s : State) (sel : Fetched → Bool) : s.stopWork (s.abortFetched sel) :=
  .foldl (fun u _ => u.endCommand_stopWork ..) _ _

theorem State.settleFences_stopWork (s : State) : s.stopWork s.settleFences := by
  refine .foldl (fun u f => ?_) _ _
  split
  · exact u.endCommand_stopWork ..
  · exact .refl u

theorem State.settleQueue_stopWork (s : State) (q : Nat) : s.stopWork (s.settleQueue q) := by
  unfold settleQueue
  exact iteInduction (fun _ => .of_queue rfl) (fun _ => .refl s)

theorem State.logAborts_recorded (s : State) : s.recorded s.logAborts := by
  refine .foldl (fun u f => ?_) _ _
  split
  · exact u.log_recorded ..
  · exact .refl u

theorem State.endRun_stopWork (s : State) (status detail : Nat) (digests : List Bytes) (needDigest : Bool) :
    s.stopWork (s.endRun status detail digests needDigest) := by
  unfold endRun
  cases s.run with
  | none => exact .refl s
  | some r =>
    have hfree : s.stopWork ({ s with run := none } : State).freeSessions :=
      .of_run none (s.sess.map (fun e => (e.1, { e.2 with inRun := false })))
    exact iteInduction (fun _ => hfree.trans (State.endCommand_stopWork ..)) (fun _ => hfree.trans (State.endCommand_stopWork ..))

theorem State.endAborted_stopWork (s : State) (r : RunSt) : s.stopWork (s.endAborted r) := by
  let t := s.endRun stAborted 0
  let u : State :=
    { t with host := { t.host with ending := t.host.ending.map (fun e => if e.no = r.no then { e with silent := true } else e) } }
  have hend : s.stopWork t := s.endRun_stopWork stAborted 0 [] false
  have hsilent : t.stopWork u := .of_host rfl
  have hlog : u.recorded (u.logAbort r.fetched) := u.log_recorded ..
  exact iteInduction (fun _ => (hend.trans hsilent).trans (.of_recorded hlog)) (fun _ => hend)

theorem State.stopRun_stopWork (s : State) (sel : RunSt → Bool) (silent : Bool) : s.stopWork (s.stopRun sel silent) := by
  unfold stopRun
  cases s.run with
  | none => exact .refl s
  | some r =>
    dsimp only
    split
    · exact .refl s
    split
    · exact .of_run _ s.sess
    · exact s.endAborted_stopWork _

/-- A completion that is not written leaves the list of those that wait. -/
theorem State.offer_silent (s : State) {e : Ended} (he : e.silent = true) : s.offer e = (s.setFull e.queue false).settleQueue e.queue :=
  if_pos he

theorem State.foldl_offer_silent (s : State) {l : List Ended} (hl : ∀ e ∈ l, e.silent = true) : s.stopWork (l.foldl State.offer s) := by
  induction l generalizing s with
  | nil => exact .refl s
  | cons e l ih =>
    obtain ⟨he, hl⟩ := List.forall_mem_cons.mp hl
    rw [List.foldl_cons]
    refine .trans ?_ (ih _ hl)
    rw [s.offer_silent he]
    have hfull : s.stopWork (s.setFull e.queue false) := .of_queue rfl
    exact hfull.trans ((s.setFull e.queue false).settleQueue_stopWork e.queue)

theorem State.deliver_silent {s : State} (hl : ∀ e ∈ s.host.held, e.silent = true) : s.stopWork s.deliver := by
  let a : State := { s with host := { s.host with held := [] } }
  have ha : s.stopWork a := .of_host rfl
  exact (ha.trans (a.foldl_offer_silent hl)).trans (State.settleFences_stopWork (s.host.held.foldl State.offer a))

/-- The state with every queue disabled and no line held by the host. -/
def State.hostGone (s : State) : State :=
  { s with
    queues := s.queues.map (fun (e : Nat × QueuePair) => (e.1, e.2.stopped))
    hbm := { s.hbm with snoop := [], waitSnoop := [] } }

theorem State.hostGone_en (s : State) (q : Nat) : (s.hostGone.queue q).en = false := by
  have h : Tab.get? s.hostGone.queues q = (Tab.get? s.queues q).map QueuePair.stopped := Tab.get?_map_snd s.queues _ q
  rw [State.queue, Tab.getD, h]
  cases Tab.get? s.queues q <;> rfl

/-- The host's side with the link down and every completion kept from it. -/
def HostSt.quieted (h : HostSt) : HostSt :=
  { h with up := false, ending := h.ending.map (fun e => { e with silent := true }), held := h.held.map (fun e => { e with silent := true }) }

theorem State.linkDown_eq (s : State) :
    let t := (s.logAborts.hostGone.abortFetched Fetched.unstarted).stopRun (fun _ => true) true
    s.linkDown = (List.range 64).foldl State.settleQueue ({ t with host := t.host.quieted } : State).deliver := rfl

/-- The link goes down: no queue is enabled, the host holds no line, and the device stands. -/
theorem State.linkDown_frame (s : State) :
    let t := s.linkDown
    t.host.up = false ∧ (∀ q, (t.queue q).en = false) ∧ t.hbm.snoop = [] ∧ t.dev = s.dev ∧ t.mem = s.mem ∧ t.hostMem = s.hostMem ∧
      t.row = s.row := by
  let a := s.logAborts.hostGone
  let b := (a.abortFetched Fetched.unstarted).stopRun (fun _ => true) true
  let c : State := { b with host := b.host.quieted }
  have hs := s.logAborts_recorded
  have hab : a.stopWork b := (a.abortFetched_stopWork _).trans (State.stopRun_stopWork ..)
  have hsilent : ∀ e ∈ c.host.held, e.silent = true := fun e he => by
    obtain ⟨_, -, rfl⟩ := List.mem_map.mp he
    rfl
  have hct : c.stopWork s.linkDown := by
    rw [s.linkDown_eq]
    exact .trans (State.deliver_silent hsilent) (.foldl State.settleQueue_stopWork _ _)
  have hen : ∀ q, (c.queue q).en = false := hab.disabled s.logAborts.hostGone_en
  exact ⟨hct.up, hct.disabled hen, congrArg HbmSt.snoop (hct.hbm.trans hab.hbm), hct.dev.trans (hab.dev.trans hs.dev),
    hct.mem.trans (hab.mem.trans hs.mem), hct.hostMem.trans (hab.hostMem.trans hs.hostMem), hct.row.trans (hab.row.trans hs.row)⟩

/-! ### The link trains (R19, R365, R366) -/

/-- What a training leaves of the host's side. -/
def HostSt.trained (h : HostSt) (connA connB : Bool) (rate : Nat) (flit256 ready : Bool) : HostSt :=
  let lanes := lanesOf connA connB
  let up := lanes != 0 && (rate == 32 || rate == 64)
  { h with
    up := up, width := if up then lanes else 0, rate := if up then rate else 0, ioOnly := up && !flit256
    onlyB := connB && !connA, memActive := up && flit256 && ready }

/-- Is the module in a state in which the host reaches its memory? -/
def State.memReady (s : State) : Bool := s.dev == .ready || s.dev == .running || s.dev == .hold || (s.dev == .bindOff && s.nat 0x2200 2 != 4)

/-- A training changes the host's side, and else only what is recorded. -/
theorem State.linkTrained_frame (s : State) (connA connB : Bool) (rate : Nat) (flit256 : Bool) :
    ∃ u, s.recorded u ∧
      ({ u with host := u.host.trained connA connB rate flit256 s.memReady } : State).recorded (s.linkTrained connA connB rate flit256) := by
  let u := if connB && !connA && !s.host.onlyB then (s.logEvent .cable 0x2A00 4 0 1).dueStatus else s
  let v : State := { u with host := u.host.trained connA connB rate flit256 s.memReady }
  have ht : s.linkTrained connA connB rate flit256 = if s.host.memActive = v.host.memActive then v else v.msix 66 := rfl
  refine ⟨u, ?_, ?_⟩
  · exact iteInduction (fun _ => (s.logEvent_recorded ..).trans (State.dueStatus_recorded _)) (fun _ => .refl s)
  · rw [ht]
    exact iteInduction (fun _ => .refl v) (fun _ => v.msix_recorded 66)

/-- The link after it has trained at a rate of the table. -/
theorem cxlLinkTrain_rated {s : State} (connA connB : Bool) {rate : Nat} (flit256 : Bool) (hon : s.fe.fe = .on)
    (hrate : rate = 32 ∨ rate = 64) :
    ∃ t, exec (.cxlLinkTrain connA connB rate flit256) s = .next t ∧
      t.host.up = connA ∧ t.host.width = (if connA then (if connB then 16 else 8) else 0) ∧ t.host.onlyB = (connB && !connA) ∧
      t.host.ioOnly = (connA && !flit256) ∧ (flit256 = false → t.host.memActive = false) ∧
      (connA = true → flit256 = true → s.dev = .ready ∨ s.dev = .running ∨ s.dev = .hold → t.host.memActive = true) ∧
      t.mem = s.mem ∧ t.dev = s.dev := by
  have hexec : exec (.cxlLinkTrain connA connB rate flit256) s = .next (s.linkTrained connA connB rate flit256) :=
    State.whenOn_on (by simp [State.on, hon]) (fun s => s.linkTrained connA connB rate flit256)
  obtain ⟨u, hu, ht⟩ := s.linkTrained_frame connA connB rate flit256
  have hr : (rate == 32 || rate == 64) = true := by simpa using hrate
  have hup : (lanesOf connA connB != 0 && (rate == 32 || rate == 64)) = connA := by
    rw [hr]; cases connA <;> cases connB <;> rfl
  obtain ⟨p, hhost⟩ : ∃ p, (s.linkTrained connA connB rate flit256).host =
      { u.host.trained connA connB rate flit256 s.memReady with pendingVec := p } := by
    obtain ⟨_, _, p, _, ht⟩ := ht
    exact ⟨p, congrArg State.host ht⟩
  refine ⟨_, hexec, ?_⟩
  rw [hhost, ht.mem, ht.dev]
  simp only [HostSt.trained, hup, true_and]
  refine ⟨by cases connA <;> rfl, fun hf => ?_, fun ha hf hdev => ?_, hu.mem, hu.dev⟩
  · simp [hf]
  · have hready : s.memReady = true := by rcases hdev with h | h | h <;> simp [State.memReady, h]
    simp [ha, hf, hready]

/-! ### The obligation -/

/-- Settles O51: accesses in one line are one piece, and the link goes down through steps that keep every disabled queue disabled. -/
theorem hostMemoryAndLink : Obligations.HostMemoryAndLink := by
  intro s hon
  have hson : s.on = true := by simp [State.on, hon]
  refine ⟨fun a n hdec => ?_, fun a d hdec => ?_, fun a n hdec hn hline hshare hout hroom => ?_,
    fun a d hdec hd hline hshare hsarea himage hout => ?_, fun a d hdec hd hline hshare => ?_, fun a b n hw hheld hf => ?_,
    ⟨s.linkDown, State.whenOn_on hson State.linkDown, s.linkDown_frame⟩,
    fun a b rate flit hrate => cxlLinkTrain_rated a b flit hon hrate, fun hnone => ?_, fun e hheld hend hf hneed => ?_,
    fun h ps _ hz => pageZeroingDone_only hon hz⟩
  case refine_1 => exact (State.whenOn_on hson _).trans (congrArg _ (if_neg (by simp [hdec])))
  case refine_2 => exact (State.whenOn_on hson _).trans (congrArg _ (if_neg (by simp [hdec])))
  case refine_3 =>
    have hdata : s.hostData a n = .hostData ((List.range n).map (fun i => s.hostByte (a + i)))
        (s.hbm.poisoned.contains (s.committedAt a / 64 * 64)) := if_neg (by simp [hout])
    refine ⟨_, s.hbm.poisoned.contains (s.committedAt a / 64 * 64), (exec_hostMemRead a n hon hdec hn hline).trans (congrArg _ (State.hostReadPiece_tracked hshare hroom)), ?_⟩
    exact ⟨congrArg (· :: s.out) hdata, s.mem_track _, rfl, rfl⟩
  case refine_4 =>
    have hexec := (exec_hostMemWrite a hon hdec hd hline).trans (congrArg _ (State.hostWritePiece_open hshare hsarea himage hout))
    refine ⟨fun hheld => ?_, fun hheld => hexec.trans (congrArg _ (if_pos hheld))⟩
    refine ⟨_, hexec.trans (congrArg _ (if_neg (by simp [hheld]))), ?_, fun b hb => ?_⟩
    · exact Mem.readBytes_writeBytes_same ..
    · exact Mem.read_writeBytes_outside _ _ _ _ hb
  case refine_5 => exact (exec_hostMemWrite a hon hdec hd hline).trans (congrArg _ (if_pos hshare))
  case refine_6 =>
    refine ⟨_, (State.whenOn_on hson (fun s => s.birsp (a / 64 * 64))).trans (congrArg _ (State.birsp_answers hw hheld hf)), ?_⟩
    exact ⟨rfl, rfl, State.mem_track _ _, rfl⟩
  case refine_7 =>
    have hfind : (s.host.held ++ s.host.ending).find? (·.needDigest) = none := List.find?_eq_none.mpr (by simpa using hnone)
    refine (State.whenOn_on hson State.digestDone).trans (congrArg _ ?_)
    rw [State.digestDone, hfind]
  case refine_8 =>
    refine ⟨_, (State.whenOn_on hson State.digestDone).trans (congrArg _ (State.digestDone_one hheld hend hf hneed)), ?_⟩
    exact ⟨rfl, rfl, rfl⟩

end Sys2Proof.Machine

/-!
PROOFS. What a descriptor's effect leaves behind in a live cell: operands that can be read, one write at an operand, and the row's
counts. Then the element-wise operations of the vector unit, whose commands differ in their lanes alone (R117).
-/
namespace Sys2Proof.Machine

/-! ### Effects of a live cell -/

/-- A command that runs an effect in a live cell leaves the state that the effect succeeds with. -/
theorem exec_of_effect {i : Instr} {s t : State} {x y : Nat} {d : Desc} {eff : Effect} (hx : exec i s = s.cellOp x y d eff)
    (hl : s.cellLive x y) (he : eff x y (s.cell x y).s d s = .ok t) : exec i s = .next t := by
  rw [hx, State.cellOp_live hl, he]; rfl

/-- The same where the effect ends in a write and what the row counts of it. -/
theorem exec_of_written {i : Instr} {s : State} {x y : Nat} {d : Desc} {eff : Effect} {p : State → Prop}
    (hx : exec i s = s.cellOp x y d eff) (hl : s.cellLive x y) (he : ∃ t, eff x y (s.cell x y).s d s = .ok t ∧ p t) :
    ∃ t, exec i s = .next t ∧ p t := by
  obtain ⟨t, ht, hp⟩ := he
  exact ⟨t, exec_of_effect hx hl ht, hp⟩

theorem State.writeSpa_ok {s : State} {x y f o : Nat} {bs : Bytes} (ho : s.operandAt x y f 0 o) (hw : s.canWrite x y o bs.length) :
    ∃ t, s.writeSpa x y (s.cell x y).s f bs = .ok t ∧ s.cellWrote t x y o bs ∧ t.row = s.row := by
  obtain ⟨t, ht, hwrote, hrow, -⟩ := State.writeCell_ok hw
  exact ⟨t, by simp only [State.writeSpa, ho.1, ht], hwrote, hrow⟩

@[simp] theorem State.countRow_counted (s : State) (i o c : Nat) : (s.countRow i o c).row = s.row.counted i o c 0 := rfl

/-- Counting is no part of what a cell writes. -/
theorem State.cellWrote.countRow {s t : State} {x y o : Nat} {bs : Bytes} (h : s.cellWrote t x y o bs) (i v c : Nat) :
    s.cellWrote (t.countRow i v c) x y o bs where
  data := h.data
  memory := h.memory
  cells := h.cells
  cell := h.cell
  rest := congrArg (fun u => u.countRow i v c) h.rest

theorem State.readElems_ok {s : State} {x y f c n o : Nat} (h : s.operandAt x y f (n * vBytes c) o) :
    s.readElems x y (s.cell x y).s f c n = .ok (s.elemsAt x y o c n) := by
  simp only [State.readElems, State.readSpa_ok h, State.elemsAt]; rfl

theorem State.readB_ok {s : State} {x y c n : Nat} {d : Desc} {bs : List Nat} (h : s.sourceB x y d c n bs) :
    s.readB x y (s.cell x y).s d c n = .ok bs := by
  unfold State.readB
  rcases h with ⟨hm, o, ho, rfl⟩ | ⟨hm, hz, rfl⟩ | ⟨hm, o, ho, rfl⟩
  · simp [hm, State.readElems_ok ho]
  · simp [hm, hz]
  · rw [← Nat.one_mul (vBytes c)] at ho
    simp only [hm, State.readElems_ok ho]; rfl

/-! ### Lanes -/

/-- The command writes these results as elements of `w` bits at the offset, where the cell may write them, and counts the saturated. -/
def State.writesLanes (s : State) (i : Instr) (x y od w : Nat) (rs : List (Nat × Bool)) : Prop :=
  s.canWrite x y od (pack w (rs.map (·.1))).length →
    ∃ t, exec i s = .next t ∧ s.cellWrote t x y od (pack w (rs.map (·.1))) ∧ t.row = s.row.counted 0 0 (rs.filter (·.2)).length 0

theorem lanesOut_unary (g : Nat → Nat × Bool) (as : List Nat) : lanesOut (fun a _ _ => g a) as as as = as.map g := by
  induction as with
  | nil => rfl
  | cons a as ih => exact congrArg (g a :: ·) ih

theorem lanesOut_binary (g : Nat → Nat → Nat × Bool) (as bs : List Nat) :
    lanesOut (fun a b _ => g a b) as bs as = List.zipWith g as bs := by
  induction as generalizing bs with
  | nil => rfl
  | cons a as ih =>
    cases bs with
    | nil => rfl
    | cons b bs => exact congrArg (g a b :: ·) (ih bs)

theorem lanesOut_ternary (g : Nat → Nat → Nat → Nat × Bool) (as bs cs : List Nat) :
    lanesOut g as bs cs = List.zipWith (fun ab c => g ab.1 ab.2 c) (as.zip bs) cs :=
  List.map_zip_eq_zipWith

section Lanes
variable {i : Instr} {l : Lanes} {f : Desc → Nat → Nat → Nat → Nat × Bool} {s : State} {x y oa od : Nat} {d : Desc}
  {as bs cs : List Nat}

/-- An element-wise command writes its lanes' results; a source that the lanes do not use stands for A. -/
theorem exec_lanes (hx : exec i s = s.cellOp x y d (lanesEffect l f)) (hl : s.cellLive x y) (hsrc : vSfmt d ∈ l.sfmts)
    (hdst : vDfmt d ∈ l.dfmts (vSfmt d)) (ha : s.operandAt x y (fld d 183 160) (vN d * vBytes (vSfmt d)) oa)
    (has : s.elemsAt x y oa (vSfmt d) (vN d) = as)
    (hb : (l.useB = true ∧ s.sourceB x y d (if l.inDst then vDfmt d else vSfmt d) (vN d) bs) ∨ (l.useB = false ∧ bs = as))
    (hc : (l.useC = true ∧ ∃ oc, s.operandAt x y (fld d 135 112) (vN d * vBytes (if l.inDst then vDfmt d else vSfmt d)) oc ∧
        s.elemsAt x y oc (if l.inDst then vDfmt d else vSfmt d) (vN d) = cs) ∨ (l.useC = false ∧ cs = as))
    (hd : s.operandAt x y (fld d 111 88) 0 od) :
    s.writesLanes i x y od (fmtWidth (vDfmt d)) (lanesOut (f d) as bs cs) := by
  intro hw
  obtain ⟨t, ht, hwrote, hrow⟩ := State.writeSpa_ok hd hw
  refine exec_of_written hx hl ⟨t.countRow (clamps := ((lanesOut (f d) as bs cs).filter (·.2)).length), ?_, hwrote.countRow .., ?_⟩
  · have hread := (State.readElems_ok ha).trans (congrArg _ has)
    rcases hb with ⟨hB, hb⟩ | ⟨hB, rfl⟩
    · have hb := State.readB_ok hb
      rcases hc with ⟨hC, oc, ho, rfl⟩ | ⟨hC, rfl⟩
      · have hc := State.readElems_ok ho
        simp [lanesEffect, *, bind, Except.bind]
      · simp [lanesEffect, *, bind, Except.bind]
    · rcases hc with ⟨hC, oc, ho, rfl⟩ | ⟨hC, rfl⟩
      · have hc := State.readElems_ok ho
        simp [lanesEffect, *, bind, Except.bind]
      · simp [lanesEffect, *, bind, Except.bind]
  · rw [State.countRow_counted, hrow]

/-- An operation of one source. -/
theorem exec_unary {g : Desc → Nat → Nat × Bool} (hx : exec i s = s.cellOp x y d (lanesEffect l (fun d a _ _ => g d a)))
    (hl : s.cellLive x y) (hB : l.useB = false) (hC : l.useC = false) (hsrc : vSfmt d ∈ l.sfmts)
    (hdst : vDfmt d ∈ l.dfmts (vSfmt d)) (ha : s.operandAt x y (fld d 183 160) (vN d * vBytes (vSfmt d)) oa)
    (hd : s.operandAt x y (fld d 111 88) 0 od) :
    s.writesLanes i x y od (fmtWidth (vDfmt d)) ((s.elemsAt x y oa (vSfmt d) (vN d)).map (g d)) := by
  have h := exec_lanes hx hl hsrc hdst ha rfl (.inr ⟨hB, rfl⟩) (.inr ⟨hC, rfl⟩) hd
  rw [lanesOut_unary] at h
  exact h

/-- An operation of two sources in the format of the first. -/
theorem exec_binary {g : Desc → Nat → Nat → Nat × Bool} (hx : exec i s = s.cellOp x y d (lanesEffect l (fun d a b _ => g d a b)))
    (hl : s.cellLive x y) (hB : l.useB = true) (hC : l.useC = false) (hI : l.inDst = false) (hsrc : vSfmt d ∈ l.sfmts)
    (hdst : vDfmt d ∈ l.dfmts (vSfmt d)) (ha : s.operandAt x y (fld d 183 160) (vN d * vBytes (vSfmt d)) oa)
    (hb : s.sourceB x y d (vSfmt d) (vN d) bs) (hd : s.operandAt x y (fld d 111 88) 0 od) :
    s.writesLanes i x y od (fmtWidth (vDfmt d)) (List.zipWith (g d) (s.elemsAt x y oa (vSfmt d) (vN d)) bs) := by
  have h := exec_lanes hx hl hsrc hdst ha rfl (.inl ⟨hB, by rwa [hI]⟩) (.inr ⟨hC, rfl⟩) hd
  rw [lanesOut_binary] at h
  exact h

/-- An operation of three sources, B and C in the format `bc`. -/
theorem exec_ternary {g : Nat → Nat → Nat → Nat × Bool} {bc oc : Nat} (hx : exec i s = s.cellOp x y d (lanesEffect l f))
    (hf : f d = g) (hl : s.cellLive x y) (hB : l.useB = true) (hC : l.useC = true) (hI : (if l.inDst then vDfmt d else vSfmt d) = bc)
    (hsrc : vSfmt d ∈ l.sfmts) (hdst : vDfmt d ∈ l.dfmts (vSfmt d))
    (ha : s.operandAt x y (fld d 183 160) (vN d * vBytes (vSfmt d)) oa) (hb : s.sourceB x y d bc (vN d) bs)
    (hc : s.operandAt x y (fld d 135 112) (vN d * vBytes bc) oc) (hd : s.operandAt x y (fld d 111 88) 0 od) :
    s.writesLanes i x y od (fmtWidth (vDfmt d))
      (List.zipWith (fun ab e => g ab.1 ab.2 e) ((s.elemsAt x y oa (vSfmt d) (vN d)).zip bs) (s.elemsAt x y oc bc (vN d))) := by
  subst hf hI
  rw [← lanesOut_ternary]
  exact exec_lanes hx hl hsrc hdst ha rfl (.inl ⟨hB, hb⟩) (.inl ⟨hC, oc, hc, rfl⟩) hd

end Lanes

/-- CMP runs its lanes unless its condition is the reserved one. -/
theorem exec_vecCmp (s : State) (x y : Nat) (d : Desc) (hcond : fld d 52 50 < 7) :
    exec (.vecCmp x y d) s = s.cellOp x y d (lanesEffect { sfmts := vAll, dfmts := fun _ => [8], useB := true }
      (fun d a b _ => vCmp (vSfmt d) (fld d 52 50) a b)) := by
  have he (u : State) : vecCmpEffect x y (u.cell x y).s d u = lanesEffect { sfmts := vAll, dfmts := fun _ => [8], useB := true }
      (fun d a b _ => vCmp (vSfmt d) (fld d 52 50) a b) x y (u.cell x y).s d u := if_neg (by omega)
  show s.cellOp x y d vecCmpEffect = _
  simp only [State.cellOp, he]

/-- Settles O10: each command is `lanesEffect` over its own lanes. -/
theorem vecElementOperations : Obligations.VecElementOperations := by
  refine ⟨?_, ?_⟩
  · intro x y d s oa od bs hl n c as ha hb hd does
    have binary_does {i : Instr} (fs : List Nat) (g : Desc → Nat → Nat → Nat × Bool) (hc : c ∈ fs) (ht : vDfmt d = c)
        (hx : exec i s = s.cellOp x y d (lanesEffect (binary fs) (fun d a b _ => g d a b))) :
        does i (fmtWidth c) (List.zipWith (g d) as bs) := by
      rw [← ht]
      exact exec_binary hx hl rfl rfl rfl hc (List.mem_singleton.mpr ht) ha hb hd
    refine ⟨fun hc ht => ⟨?_, ?_, ?_, ?_, ?_⟩, fun hc ht hcond => ?_, fun hc ht => ⟨?_, fun oc hoc => ?_⟩,
      fun hc ht => ⟨?_, ?_, ?_⟩⟩
    · exact binary_does vAll (fun d => vAdd (vSfmt d) (vSat d)) hc ht rfl
    · exact binary_does vAll (fun d => vSub (vSfmt d) (vSat d)) hc ht rfl
    · exact binary_does vAll (fun d => vMul (vSfmt d) (vSat d)) hc ht rfl
    · exact binary_does vAll (fun d => vMin (vSfmt d)) hc ht rfl
    · exact binary_does vAll (fun d => vMax (vSfmt d)) hc ht rfl
    · have h := exec_binary (exec_vecCmp s x y d hcond) hl rfl rfl rfl hc (List.mem_singleton.mpr ht) ha hb hd
      rwa [ht] at h
    · exact binary_does vFloats (fun d => vDiv (vSfmt d)) hc ht rfl
    · have h := exec_ternary (i := .vecFma x y d) (l := { binary vFloats with useC := true })
        (f := fun d a b c => vFma (vSfmt d) a b c) rfl rfl hl rfl rfl rfl hc (List.mem_singleton.mpr ht) ha hb hoc hd
      rwa [ht] at h
    · exact binary_does vInts (fun _ a b => (a &&& b, false)) hc ht rfl
    · exact binary_does vInts (fun _ a b => (a ||| b, false)) hc ht rfl
    · exact binary_does vInts (fun _ a b => (a ^^^ b, false)) hc ht rfl
  · intro x y d s oa od hl n c t' as ha hd does
    have fn_does {i : Instr} (f : Nat → Nat → Nat) (hc : c ∈ vFloats) (ht : t' = c)
        (hx : exec i s = s.cellOp x y d (fnEffect f)) : does i (as.map (fun a => (f c a, false))) :=
      exec_unary (g := fun d a => (f (vSfmt d) a, false)) hx hl rfl rfl hc (List.mem_singleton.mpr ht) ha hd
    refine ⟨fun hc ht => ⟨?_, ?_, ?_, ?_, ?_, ?_, ?_, ?_⟩, fun hc ht => ?_, fun hc ht oc bs hb hoc => ?_⟩
    · exact exec_unary (l := unary vFloats) (g := fun d => vSqrt (vSfmt d)) rfl hl rfl rfl hc (List.mem_singleton.mpr ht) ha hd
    · exact fn_does fnExp hc ht rfl
    · exact fn_does fnLog hc ht rfl
    · exact fn_does fnRecip hc ht rfl
    · exact fn_does fnRsqrt hc ht rfl
    · exact fn_does fnTanh hc ht rfl
    · exact fn_does fnSigmoid hc ht rfl
    · exact fn_does fnErf hc ht rfl
    · exact exec_unary (l := { sfmts := vAll, dfmts := fun _ => vAll }) (g := fun d => vConvert (vSfmt d) (vDfmt d) (fld d 48 48 == 1))
        rfl hl rfl rfl hc ht ha hd
    · exact exec_ternary (l := { sfmts := [8], dfmts := fun _ => vAll, useB := true, useC := true, inDst := true })
        (g := fun a b e => (if a ≠ 0 then b else e, false)) rfl rfl hl rfl rfl rfl (List.mem_singleton.mpr hc) ht ha hb hoc hd

/-! ### Reductions (R50) -/

/-- What a reduction to one element makes of its elements: the place of the extreme one, or that element. -/
def reduced (max? index : Bool) (c : Nat) (es : List Nat) : Nat :=
  if index then argOf max? c es else canon c (es.getD (argOf max? c es) 0)

/-- RMAX, RMIN, ARGMAX and ARGMIN write the one element they reduce to, of `w` bits, and count nothing. -/
theorem exec_reduce {i : Instr} {max? index : Bool} {s : State} {x y oa od w : Nat} {d : Desc}
    (hx : exec i s = s.cellOp x y d (reduceEffect max? index)) (hl : s.cellLive x y) (hsrc : vSfmt d ∈ vAll)
    (hdst : vDfmt d = if index then 11 else vSfmt d) (hwidth : fmtWidth (vDfmt d) = w) (hn : vN d ≤ 2 ^ 24)
    (ha : s.operandAt x y (fld d 183 160) (vN d * vBytes (vSfmt d)) oa) (hd : s.operandAt x y (fld d 111 88) 0 od)
    (hw : s.canWrite x y od (pack w [reduced max? index (vSfmt d) (s.elemsAt x y oa (vSfmt d) (vN d))]).length) :
    ∃ t, exec i s = .next t ∧ s.cellWrote t x y od (pack w [reduced max? index (vSfmt d) (s.elemsAt x y oa (vSfmt d) (vN d))]) ∧
      t.row = s.row := by
  subst hwidth
  obtain ⟨t, ht, hwrote, hrow⟩ := State.writeSpa_ok hd hw
  refine exec_of_written hx hl ⟨t, ?_, hwrote, hrow⟩
  have hfmt : ¬((!vAll.contains (vSfmt d)) = true ∨ vDfmt d ≠ (if index then 11 else vSfmt d) ∨ 2 ^ 24 < vN d) := by
    simp only [List.contains_iff_mem.mpr hsrc, hdst, ne_eq, not_true_eq_false, Bool.not_true, Bool.false_eq_true, false_or]; omega
  simp only [reduceEffect, if_neg hfmt, State.readElems_ok ha, bind, Except.bind]
  exact ht

/-- SUM's effect, its formats and count permitted, from the sum of the elements read. -/
theorem vecSumEffect_eq {s : State} {x y oa : Nat} {d : Desc} {e : ExactSum} (hsrc : vSfmt d ∈ vAll)
    (hdst : vDfmt d = vSfmt d ∨ vDfmt d = 12) (hn : vN d ≤ 2 ^ 24)
    (ha : s.operandAt x y (fld d 183 160) (vN d * vBytes (vSfmt d)) oa)
    (he : exactSum (vSfmt d) (s.elemsAt x y oa (vSfmt d) (vN d)) = e) :
    vecSumEffect x y (s.cell x y).s d s =
      if vDfmt d = 12 then (s.writeSpa x y (s.cell x y).s (fld d 111 88) (sumTile e (vN d))).map
        (fun t => t.countRow (inexact := if e.lost then 1 else 0))
      else (s.writeSpa x y (s.cell x y).s (fld d 111 88) (pack (fmtWidth (vDfmt d)) [(sumResult (vSfmt d) (vSat d) e).1])).map
        (fun t => t.countRow (inexact := if e.lost then 1 else 0)
          (overflow := if (sumResult (vSfmt d) (vSat d) e).2.1 then 1 else 0)
          (clamps := if (sumResult (vSfmt d) (vSat d) e).2.2 then 1 else 0)) := by
  subst he
  have hfmt : ¬((!vAll.contains (vSfmt d)) = true ∨ (vDfmt d ≠ vSfmt d ∧ vDfmt d ≠ 12) ∨ 2 ^ 24 < vN d) := by
    simp only [List.contains_iff_mem.mpr hsrc, Bool.not_true, Bool.false_eq_true, false_or]; omega
  simp only [vecSumEffect, if_neg hfmt, State.readElems_ok ha, bind, Except.bind]
  split
  · split <;> simp_all [Except.map]
  · split <;> simp_all [Except.map]

/-- Settles O12: SUM in its two destination forms, and the extremes by `exec_reduce`. -/
theorem vecReductions : Obligations.VecReductions := by
  intro x y d s oa od hl n c es e lost ha hd hc hn does
  have hx : exec (.vecSum x y d) s = s.cellOp x y d vecSumEffect := rfl
  refine ⟨fun ht hw => ?_, fun ht hw => ?_, fun ht => ⟨?_, ?_⟩, fun ht => ⟨?_, ?_⟩⟩
  · have h12 : vDfmt d ≠ 12 := by
      rw [ht]; intro h; rw [h] at hc; simp at hc
    obtain ⟨t, hwt, hwrote, hrow⟩ := State.writeSpa_ok hd hw
    refine exec_of_written hx hl ⟨_, ?_, hwrote.countRow .., by rw [State.countRow_counted, hrow]⟩
    rw [vecSumEffect_eq hc (.inl ht) hn ha rfl, if_neg h12, ht, hwt]; rfl
  · obtain ⟨t, hwt, hwrote, hrow⟩ := State.writeSpa_ok hd hw
    refine exec_of_written hx hl ⟨_, ?_, hwrote.countRow .., by rw [State.countRow_counted, hrow]⟩
    rw [vecSumEffect_eq hc (.inr ht) hn ha rfl, if_pos ht, hwt]; rfl
  · exact exec_reduce (i := .vecRmax x y d) (max? := true) (index := false) rfl hl hc ht (congrArg fmtWidth ht) hn ha hd
  · exact exec_reduce (i := .vecRmin x y d) (max? := false) (index := false) rfl hl hc ht (congrArg fmtWidth ht) hn ha hd
  · exact exec_reduce (i := .vecArgmax x y d) (max? := true) (index := true) rfl hl hc ht (congrArg fmtWidth ht) hn ha hd
  · exact exec_reduce (i := .vecArgmin x y d) (max? := false) (index := true) rfl hl hc ht (congrArg fmtWidth ht) hn ha hd

end Sys2Proof.Machine

/-!
PROOFS. Integers of a width: two's complement, wrapping and saturation (R51), and the random words of Philox (R55, R56).
-/
namespace Sys2Proof

/-! ### Two's complement -/

/-- A word of two's complement is the value modulo 2^n. -/
theorem ofSigned_cast (n : Nat) (v : Int) : (ofSigned n v : Int) = v % 2 ^ n :=
  Int.toNat_of_nonneg (Int.emod_nonneg v (by positivity))

theorem toSigned_of_lt {n v : Nat} (h : v < 2 ^ n) : toSigned n v = if v < 2 ^ (n - 1) then (v : Int) else (v : Int) - 2 ^ n := by
  simp [toSigned, Nat.mod_eq_of_lt h]

/-- Saturation is the nearest value of the range, with a note of whether the value was outside. -/
theorem satI_eq (n : Nat) (v : Int) : satI n v =
    (max (-(2 ^ (n - 1))) (min (2 ^ (n - 1) - 1) v), decide (v < -(2 ^ (n - 1)) ∨ 2 ^ (n - 1) - 1 < v)) := by
  have hpos : (0 : Int) < 2 ^ (n - 1) := by positivity
  simp only [satI]
  generalize (2 : Int) ^ (n - 1) = p at *
  split
  · simp only [Prod.mk.injEq, Bool.true_eq, decide_eq_true_eq]; omega
  · split
    · simp only [Prod.mk.injEq, Bool.true_eq, decide_eq_true_eq]; omega
    · simp only [Prod.mk.injEq, Bool.false_eq, decide_eq_false_iff_not]; omega

/-! ### Integer results -/

/-- INT32 without saturation wraps. -/
theorem putInt_int32_wraps (v : Int) : ((putInt 11 false v).1 : Int) = v % 2 ^ 32 ∧ (putInt 11 false v).2 = false :=
  ⟨ofSigned_cast 32 v, rfl⟩

/-- INT32 with saturation takes the nearest value of the range. -/
theorem putInt_int32_saturates (v : Int) :
    putInt 11 true v = (ofSigned 32 (max (-(2 ^ 31)) (min (2 ^ 31 - 1) v)), decide (v < -(2 ^ 31) ∨ 2 ^ 31 - 1 < v)) := by
  have h : putInt 11 true v = (ofSigned 32 (satI 32 v).1, (satI 32 v).2) := rfl
  rw [h, satI_eq]

/-- INT8 saturates whatever SAT says. -/
theorem putInt_int8_saturates (sat : Bool) (v : Int) :
    putInt 8 sat v = ((max (-128) (min 127 v) % 256).toNat, decide (v < -128 ∨ 127 < v)) := by
  have h : putInt 8 sat v = (ofSigned 8 (satI 8 v).1, (satI 8 v).2) := by simp [putInt, fmtWidth]
  rw [h, satI_eq]; rfl

/-- Settles O11: by the value alone, whatever operation gave it. -/
theorem integerArithmeticWrapsOrSaturates : Obligations.IntegerArithmeticWrapsOrSaturates := by
  intro a b sat ha hb sgn fits rule
  have int32 (v : Int) : rule (putInt 11 sat v) v := by
    refine ⟨fun h => h ▸ putInt_int32_wraps v, fun h => ?_⟩
    subst h
    rw [putInt_int32_saturates]
    refine ⟨fun hfit => ?_, fun hlow => ?_, fun hhigh => ?_⟩
    · obtain ⟨h1, h2⟩ := hfit
      simp only [ofSigned_cast, decide_eq_false_iff_not]; omega
    · have hm : max (-(2 ^ 31)) (min (2 ^ 31 - 1) v) = -(2 ^ 31) := by omega
      rw [hm, decide_eq_true (by omega)]; rfl
    · have hm : max (-(2 ^ 31)) (min (2 ^ 31 - 1) v) = 2 ^ 31 - 1 := by omega
      rw [hm, decide_eq_true (by omega)]; rfl
  have h32 {w : Nat} (hw : w < 2 ^ 32) : vint 11 w = sgn w := toSigned_of_lt hw
  refine ⟨?_, ?_, ?_, fun ha hb => ?_⟩
  · rw [← h32 ha, ← h32 hb]; exact int32 _
  · rw [← h32 ha, ← h32 hb]; exact int32 _
  · rw [← h32 ha, ← h32 hb]; exact int32 _
  · intro sg8
    have h8 {w : Nat} (hw : w < 256) : vint 8 w = sg8 w := toSigned_of_lt (n := 8) hw
    rw [← h8 ha, ← h8 hb]
    exact ⟨putInt_int8_saturates sat _, putInt_int8_saturates sat _, putInt_int8_saturates sat _⟩

end Sys2Proof

namespace Sys2Proof.Machine

/-! ### Philox -/

/-- The keys of round `r` of Philox: a Weyl sequence from each half of the key. -/
def philoxKeys (key r : Nat) : Nat × Nat :=
  ((key % 2 ^ 32 + r * 0x9E3779B9) % 2 ^ 32, (key / 2 ^ 32 % 2 ^ 32 + r * 0xBB67AE85) % 2 ^ 32)

theorem philoxKeys_zero (key : Nat) : philoxKeys key 0 = (bits key 31 0, bits key 63 32) := by
  simp [philoxKeys, bits, Nat.shiftRight_eq_div_pow]

theorem philoxKeys_succ (key r : Nat) : philoxKeys key (r + 1) =
    (((philoxKeys key r).1 + 0x9E3779B9) % 2 ^ 32, ((philoxKeys key r).2 + 0xBB67AE85) % 2 ^ 32) := by
  simp only [philoxKeys, Prod.mk.injEq]; omega

/-- The counter's words after `r` rounds, each with the keys of its number. -/
def philoxAfter (key : Nat) (c : Nat × Nat × Nat × Nat) : Nat → Nat × Nat × Nat × Nat
  | 0 => c
  | r + 1 => philoxRound (philoxAfter key c r) (philoxKeys key r).1 (philoxKeys key r).2

/-- The first of the rounds. (Stated of the keys' function: the kernel takes a sum with a constant this large apart unit by unit.) -/
theorem philoxRounds_succ (n : Nat) (c : Nat × Nat × Nat × Nat) : philoxRounds (n + 1) c = fun k0 k1 =>
    philoxRounds n (philoxRound c k0 k1) ((k0 + 0x9E3779B9) % 2 ^ 32) ((k1 + 0xBB67AE85) % 2 ^ 32) :=
  Eq.refl (philoxRounds (n + 1) c)

/-- Rounds that start at number `r` go on from the counter after `r` rounds. -/
theorem philoxRounds_after (key : Nat) (c : Nat × Nat × Nat × Nat) (n r : Nat) :
    philoxRounds n (philoxAfter key c r) (philoxKeys key r).1 (philoxKeys key r).2 = philoxAfter key c (r + n) := by
  induction n generalizing r with
  | zero => rfl
  | succ n ih =>
    have h := ih (r + 1)
    rw [philoxKeys_succ, Nat.add_right_comm, Nat.add_assoc] at h
    rw [philoxRounds_succ]
    exact h

/-- The words of a counter value, low word first. -/
def counterWords (ctr : Nat) : Nat × Nat × Nat × Nat := (bits ctr 31 0, bits ctr 63 32, bits ctr 95 64, bits ctr 127 96)

theorem philox_eq (key ctr : Nat) :
    let c := philoxAfter key (counterWords ctr) 10
    philox key ctr = [c.1, c.2.1, c.2.2.1, c.2.2.2] := by
  have h := philoxRounds_after key (counterWords ctr) 10 0
  rw [philoxKeys_zero] at h
  intro c
  have hc : c = philoxAfter key (counterWords ctr) (0 + 10) := rfl
  rw [hc, ← h]
  rfl

/-- Word `i` of four. -/
def wordOf (c : Nat × Nat × Nat × Nat) (i : Nat) : Nat := [c.1, c.2.1, c.2.2.1, c.2.2.2].getD i 0

theorem wordOf_counterWords (ctr : Nat) {i : Nat} (hi : i < 4) : wordOf (counterWords ctr) i = ctr / 2 ^ (32 * i) % 2 ^ 32 := by
  interval_cases i <;> simp [wordOf, counterWords, bits, Nat.shiftRight_eq_div_pow]

/-- A PHILOX command whose format fits its form writes its words, or their uniforms, and counts nothing. -/
theorem exec_vecPhilox {s : State} {x y od : Nat} {d : Desc} (hl : s.cellLive x y) (hsrc : vSfmt d = 0)
    (hform : (fld d 34 33 = 0 ∧ vDfmt d = 11) ∨ ((fld d 34 33 = 1 ∨ fld d 34 33 = 2) ∧ (vDfmt d = 9 ∨ vDfmt d = 10)))
    (hd : s.operandAt x y (fld d 111 88) 0 od) {ws : List Nat}
    (hws : (List.range (vN d)).map (fun e => uniformOf (fld d 34 33) (vDfmt d) (philoxWord
      (sreg (s.cell x y).s (fld d 183 160 / 524288))
      (sreg (s.cell x y).s (fld d 159 136 / 524288) + sreg (s.cell x y).s (fld d 135 112 / 524288) * 2 ^ 64) e)) = ws)
    (hw : s.canWrite x y od (pack (fmtWidth (vDfmt d)) ws).length) :
    ∃ t, exec (.vecPhilox x y d) s = .next t ∧ s.cellWrote t x y od (pack (fmtWidth (vDfmt d)) ws) ∧ t.row = s.row := by
  subst hws
  obtain ⟨t, ht, hwrote, hrow⟩ := State.writeSpa_ok hd hw
  have hx : exec (.vecPhilox x y d) s = s.cellOp x y d vecPhiloxEffect := rfl
  refine exec_of_written hx hl ⟨t, ?_, hwrote, hrow⟩
  have hfmt : ¬(vSfmt d ≠ 0 ∨ fld d 34 33 = 3 ∨ (fld d 34 33 = 0 ∧ vDfmt d ≠ 11) ∨
      (fld d 34 33 ≠ 0 ∧ vDfmt d ≠ 9 ∧ vDfmt d ≠ 10)) := by omega
  rw [vecPhiloxEffect]
  exact (if_neg hfmt).trans ht

/-- Settles O14: the rounds' recurrence by `philoxAfter`, the draw by the command's effect. -/
theorem philoxDraws : Obligations.PhiloxDraws := by
  refine ⟨by decide +kernel, fun key ctr => ⟨fun r i => wordOf (philoxAfter key (counterWords ctr) r) i,
    fun i hi => wordOf_counterWords ctr hi, fun r _ => ?_, philox_eq key ctr⟩, ?_⟩
  · simp only [philoxAfter, wordOf, philoxRound, philoxKeys, List.getD_cons_zero, List.getD_cons_succ, and_self]
  · intro x y d s od hl hsrc hform hd r key base words hw
    exact exec_vecPhilox hl hsrc hform hd rfl hw

end Sys2Proof.Machine

/-!
PROOFS. Accumulator tiles: the cut-off as a floor (R37), one packed value into an element, and an exact tile into a tile, entry by
entry (R46 to R48).
-/
namespace Sys2Proof

/-! ### The cut-off -/

/-- A magnitude with its sign. -/
def signedVal (neg : Bool) (m : Nat) : Int := if neg then -(m : Int) else m

/-- The cut-off is the floor of the value in units of 2^l. -/
theorem cutOff_fst (neg : Bool) (m : Nat) (e l : Int) : (cutOff neg m e l).1 =
    if e < l then signedVal neg m / 2 ^ (l - e).toNat else signedVal neg m * 2 ^ (e - l).toNat := by
  unfold cutOff signedVal
  by_cases h : l ≤ e
  · cases neg <;> simp [h, not_lt.mpr h]
  · have hlt : e < l := not_le.mp h
    cases neg
    · simp [h, hlt]
    · simp only [h, hlt, if_true, if_false, Int.neg_ediv]
      have hs : Int.sign (2 ^ (l - e).toNat) = 1 := Int.sign_eq_one_of_pos (by positivity)
      have hd : ((2 : Int) ^ (l - e).toNat ∣ (m : Int)) ↔ m % 2 ^ (l - e).toNat = 0 := by
        rw [← Nat.dvd_iff_mod_eq_zero]; exact_mod_cast Int.natCast_dvd_natCast
      by_cases hz : m % 2 ^ (l - e).toNat = 0
      · simp [hd, hz]
      · simp [hd, hz, hs]

/-- It loses bits when the value is no multiple of 2^l. -/
theorem cutOff_snd (neg : Bool) (m : Nat) (e l : Int) :
    (cutOff neg m e l).2 = decide (e < l ∧ signedVal neg m % 2 ^ (l - e).toNat ≠ 0) := by
  unfold cutOff signedVal
  by_cases h : l ≤ e
  · simp [h, not_lt.mpr h]
  · have hlt : e < l := not_le.mp h
    have hz : ((m : Int) % 2 ^ (l - e).toNat = 0) ↔ m % 2 ^ (l - e).toNat = 0 := by norm_cast
    have hneg : (-(m : Int)) % 2 ^ (l - e).toNat = 0 ↔ (m : Int) % 2 ^ (l - e).toNat = 0 := by
      rw [← Int.dvd_iff_emod_eq_zero, ← Int.dvd_iff_emod_eq_zero, dvd_neg]
    rw [if_neg h, Bool.eq_iff_iff]
    cases neg
    · simp [hlt, hz]
    · simp [hlt, hz, hneg]

end Sys2Proof

namespace Sys2Proof.Machine

/-! ### Entries -/

theorem AccTile.ent_eq (t : AccTile) (i j : Nat) : t.ent i j = Tab.getD t.ents (i * 32 + j) {} := rfl

/-- The place of an entry tells its row and column. -/
theorem entPlace_ne {i j i' j' : Nat} (hj : j < 32) (hj' : j' < 32) (h : (i', j') ≠ (i, j)) : i' * 32 + j' ≠ i * 32 + j := by
  intro he
  exact h (by rw [Prod.mk.injEq]; omega)

/-- A value of the range is its own 128-bit word. -/
theorem wrap128_of_range {v : Int} (hlo : -(2 ^ 127) ≤ v) (hhi : v ≤ 2 ^ 127 - 1) : wrap128 v = v := by
  unfold wrap128 toSigned
  have h : (ofSigned 128 v : Int) = v % 2 ^ 128 := ofSigned_cast 128 v
  have hm : ofSigned 128 v % 2 ^ 128 = ofSigned 128 v := by omega
  rw [hm]
  split <;> omega

theorem sat128_range (v : Int) : -(2 ^ 127) ≤ (sat128 v).1 ∧ (sat128 v).1 ≤ 2 ^ 127 - 1 := by
  rw [sat128, satI_eq]
  exact ⟨le_max_left _ _, max_le (by norm_num) (min_le_left _ _)⟩

/-! ### One packed value (R48) -/

theorem bit_eq_testBit (w k : Nat) : bit w k = w.testBit k := by
  rw [bit, Nat.testBit_eq_decide_div_mod_eq, Nat.shiftRight_eq_div_pow]; rfl

section AddValue
variable (t : AccTile) (i j m : Nat) (neg : Bool) (e : Int)

/-- The sum of an element and a finite packed value, the value cut at the element's window bottom. -/
def AccTile.sumWith : Int := (t.ent i j).a + (cutOff neg m e (t.l i j)).1

theorem AccTile.addValue_ent_same : ((t.addValue i j (.fin neg m e)).ent i j).a =
    max (-(2 ^ 127)) (min (2 ^ 127 - 1) (t.sumWith i j m neg e)) := by
  have hent : (t.addValue i j (.fin neg m e)).ent i j =
      accEnt (sat128 (t.sumWith i j m neg e)).1 (specJoin (t.ent i j).spec 0) := Tab.getD_set_same ..
  obtain ⟨hlo, hhi⟩ := sat128_range (t.sumWith i j m neg e)
  rw [hent, accEnt, wrap128_of_range hlo hhi, sat128, satI_eq]

theorem AccTile.addValue_ent_ne {i' j' : Nat} (h : i' * 32 + j' ≠ i * 32 + j) :
    (t.addValue i j (.fin neg m e)).ent i' j' = t.ent i' j' :=
  Tab.getD_set_ne _ _ _ h

theorem AccTile.addValue_overflow : (t.addValue i j (.fin neg m e)).overflow =
    (t.overflow || decide (t.sumWith i j m neg e < -(2 ^ 127) ∨ 2 ^ 127 - 1 < t.sumWith i j m neg e)) := by
  have h : (t.addValue i j (.fin neg m e)).overflow = (t.overflow || (sat128 (t.sumWith i j m neg e)).2) := rfl
  rw [h, sat128, satI_eq]

theorem AccTile.addValue_inexact (k : Nat) : bit (t.addValue i j (.fin neg m e)).inexact k =
    (bit t.inexact k || (k == i && (cutOff neg m e (t.l i j)).2)) := by
  have h : (t.addValue i j (.fin neg m e)).inexact =
      if (cutOff neg m e (t.l i j)).2 then t.inexact ||| 2 ^ i else t.inexact := rfl
  rw [h]
  cases (cutOff neg m e (t.l i j)).2
  · simp
  · simp only [if_true, bit_eq_testBit, Nat.testBit_or, Nat.testBit_two_pow, Bool.and_true]
    rw [Bool.beq_eq_decide_eq, decide_eq_decide.mpr eq_comm]

end AddValue

/-! ### An exact tile (R46, R47) -/

theorem Tab.get?_eq_none {α : Type} {t : Tab α} {k : Nat} (h : k ∉ t.map (·.1)) : Tab.get? t k = none := by
  induction t with
  | nil => rfl
  | cons e t ih =>
    rw [List.map_cons, List.mem_cons, not_or] at h
    rw [Tab.get?_cons, if_neg (Ne.symm h.1), ih h.2]

/-- Folding entries of distinct places into a table changes just those places. -/
theorem Tab.getD_foldl_set {α : Type} (g : α → α → α) (d : α) (es m : Tab α) (hn : (es.map (·.1)).Nodup) (k : Nat) :
    Tab.getD (es.foldl (fun m e => Tab.set m e.1 (g (Tab.getD m e.1 d) e.2)) m) k d =
      (Tab.get? es k).elim (Tab.getD m k d) (g (Tab.getD m k d)) := by
  induction es generalizing m with
  | nil => rfl
  | cons e es ih =>
    obtain ⟨hne, hn⟩ := List.nodup_cons.mp hn
    rw [List.foldl_cons, ih _ hn, Tab.get?_cons]
    by_cases hk : e.1 = k
    · subst hk
      rw [if_pos rfl, Tab.get?_eq_none hne, Tab.getD_set_same]; rfl
    · rw [if_neg hk, Tab.getD_set_ne _ _ _ (Ne.symm hk)]

/-- The entry that a tile's entry and one that is added make. -/
def AccEnt.plus (o v : AccEnt) : AccEnt := accEnt (o.a + v.a) (specJoin o.spec v.spec)

theorem AccTile.addExact_ent (t v : AccTile) (hn : (v.ents.map (·.1)).Nodup) (i j : Nat) : (t.addExact v).ent i j =
    if (Tab.get? v.ents (i * 32 + j)).isSome then (t.ent i j).plus (v.ent i j) else t.ent i j := by
  have hents : (if t.empty then t.takes v else t).ents = t.ents := by split <;> rfl
  have h := Tab.getD_foldl_set AccEnt.plus {} v.ents t.ents hn (i * 32 + j)
  have hent : (t.addExact v).ent i j = (Tab.get? v.ents (i * 32 + j)).elim (t.ent i j) (t.ent i j).plus := by
    rw [← AccTile.ent_eq] at h
    rw [← h, ← hents]; rfl
  rw [hent]
  cases hv : Tab.get? v.ents (i * 32 + j) with
  | none => rfl
  | some e => simp [AccTile.ent, Tab.getD, hv]

/-- What an added tile leaves of the target's flags and shape. -/
theorem AccTile.addExact_shape (t v : AccTile) : (t.addExact v).inexact = t.inexact ||| v.inexact ∧
    (t.empty = true → (t.addExact v).ktotal = v.ktotal ∧ (t.addExact v).mcount = v.mcount ∧ (t.addExact v).ncount = v.ncount ∧
      (t.addExact v).rowG = v.rowG ∧ (t.addExact v).colG = v.colG) := by
  unfold AccTile.addExact
  cases h : t.empty
  · exact ⟨rfl, fun h => absurd h (by simp)⟩
  · exact ⟨rfl, fun _ => ⟨rfl, rfl, rfl, rfl, rfl⟩⟩

theorem AccTile.recvExact_zero (t : AccTile) {v : AccTile} (hk : v.ktotal = 0) :
    t.recvExact v = some { t with ck := some (t.ck.getD t.fill) } := if_pos hk

theorem AccTile.recvExact_differs {t v : AccTile} (hk : v.ktotal ≠ 0) (he : t.empty = false) (ha : t.agrees v = false) :
    t.recvExact v = none := by
  simp [AccTile.recvExact, hk, he, ha]

/-- A tile that may be added is, but for what the checksum register takes of it. -/
theorem AccTile.recvExact_adds {t v : AccTile} (hk : v.ktotal ≠ 0) (h : t.empty = true ∨ t.agrees v = true) :
    ∃ k, t.recvExact v = some { t.addExact v with ck := some k } := by
  have hc : ¬((!t.empty && !t.agrees v) = true) := by
    rcases h with h | h <;> simp [h]
  exact ⟨_, (if_neg hk).trans (if_neg hc)⟩

/-- Settles O25: one packed value by `cutOff` and `sat128`, an exact tile by `addExact`. -/
theorem partialTilesAddAsIntegers : Obligations.PartialTilesAddAsIntegers := by
  refine ⟨fun t i j m neg e hi hj => ?_, fun t v hn => ⟨t.recvExact_zero, AccTile.recvExact_differs, fun hk h => ?_⟩⟩
  · intro v d q sum u
    have hq : (cutOff neg m e (t.l i j)).1 = q := cutOff_fst neg m e (t.l i j)
    have hsum : t.sumWith i j m neg e = sum := congrArg ((t.ent i j).a + ·) hq
    refine ⟨?_, fun k hk => ?_, ?_, fun i' j' hi' hj' h => t.addValue_ent_ne i j m neg e (entPlace_ne hj hj' h)⟩
    · rw [← hsum]; exact t.addValue_ent_same i j m neg e
    · rw [t.addValue_inexact i j m neg e k, cutOff_snd]; rfl
    · rw [← hsum]; exact t.addValue_overflow i j m neg e
  · obtain ⟨k, hu⟩ := AccTile.recvExact_adds hk h
    obtain ⟨hinexact, hshape⟩ := t.addExact_shape v
    exact ⟨_, hu, hinexact, hshape, fun i j hi hj => t.addExact_ent v hn i j⟩

end Sys2Proof.Machine

/-!
PROOFS. GAUGE and GCOMBINE: gauge vectors as they are read and written (R33, R67, R485).
-/
namespace Sys2Proof.Machine

theorem State.readGauges_ok {s : State} {x y f n o : Nat} (h : s.operandAt x y f (64 + 2 * n) o) :
    s.readGauges x y (s.cell x y).s f n = .ok (uAt (s.scratch x y o (64 + 2 * n)) 0 4,
      (List.range n).map (fun i => toSigned 16 (uAt (s.scratch x y o (64 + 2 * n)) (64 + 2 * i) 2))) := by
  simp only [State.readGauges, State.readSpa_ok h, bind, Except.bind]

/-- Where GAUGE finds the terms of each gauge, by the descriptor's fields (R485). -/
def gaugeIndex (d : Desc) : List (List Nat) :=
  (List.range (fld d 130 118 + 1)).map (gaugeTerms (fmtMx (fld d 135 132)) (fld d 131 131 == 1) (if fld d 92 92 = 1 then 64 else 32)
    (fld d 130 118 + 1) (fld d 117 93))

/-- The last term that GAUGE reads. -/
def gaugeTop (d : Desc) : Nat := ((gaugeIndex d).map (fun l => l.foldl max 0)).foldl max 0

/-- The bits of a term: a scale byte or an element. -/
def gaugeBits (d : Desc) : Nat := if fmtMx (fld d 135 132) then 8 else fmtWidth (fld d 135 132)

/-- The gauges that GAUGE makes of the bytes it reads. -/
def gaugesOf (d : Desc) (b : Bytes) : List Int :=
  (gaugeIndex d).map (fun l => gaugeMax (l.map (fun i => if fmtMx (fld d 135 132)
    then gaugeBlock (fld d 135 132) ((unpack (gaugeBits d) (gaugeTop d + 1) b).getD i 0)
    else gaugeElem (fld d 135 132) ((unpack (gaugeBits d) (gaugeTop d + 1) b).getD i 0))))

/-- A GAUGE whose fields are permitted writes the gauges of what it reads. -/
theorem exec_matGauge {s : State} {x y oa od : Nat} {d : Desc} (hl : s.cellLive x y) (hfmt : fld d 135 132 < 10)
    (hint : fld d 135 132 ≠ 8)
    (htk : fld d 92 92 = 1 → halfFmt (fld d 135 132) = true) (hlo : 1 ≤ fld d 117 93) (hhi : fld d 117 93 ≤ 2 ^ 24)
    (ha : s.operandAt x y (fld d 183 160) (cdiv ((gaugeTop d + 1) * gaugeBits d) 8) oa)
    (hd : s.operandAt x y (fld d 159 136) 0 od) {gs : List Int}
    (hgs : gaugesOf d (s.scratch x y oa (cdiv ((gaugeTop d + 1) * gaugeBits d) 8)) = gs)
    (hw : s.canWrite x y od (gaugeBytes (fld d 117 93) gs).length) :
    ∃ t, exec (.matGauge x y d) s = .next t ∧ s.cellWrote t x y od (gaugeBytes (fld d 117 93) gs) ∧ t.row = s.row := by
  subst hgs
  obtain ⟨t, ht, hwrote, hrow⟩ := State.writeSpa_ok hd hw
  have hx : exec (.matGauge x y d) s = s.cellOp x y d matGaugeEffect := rfl
  refine exec_of_written hx hl ⟨t, ?_, hwrote, hrow⟩
  have hok : ¬(10 ≤ fld d 135 132 ∨ fld d 135 132 = 8 ∨
      ((if fld d 92 92 = 1 then 64 else 32) = 64 ∧ (!halfFmt (fld d 135 132)) = true) ∨
      fld d 117 93 = 0 ∨ 2 ^ 24 < fld d 117 93) := by
    rintro (h | h | ⟨h64, h⟩ | h | h)
    · omega
    · exact hint h
    · by_cases h1 : fld d 92 92 = 1
      · simp [htk h1] at h
      · simp [h1] at h64
    · omega
    · omega
  rw [matGaugeEffect]
  refine (if_neg hok).trans ?_
  exact (congrArg (fun r => Except.bind r (fun b =>
    s.writeSpa x y (s.cell x y).s (fld d 159 136) (gaugeBytes (fld d 117 93) (gaugesOf d b)))) (State.readSpa_ok ha)).trans ht

/-- A GCOMBINE of two vectors whose KTOTALs have room for their sum writes the larger gauges. -/
theorem exec_matGcombine {s : State} {x y od ka kb : Nat} {d : Desc} {ga gb : List Int} (hl : s.cellLive x y)
    (ha : s.readGauges x y (s.cell x y).s (fld d 183 160) (fld d 111 99 + 1) = .ok (ka, ga))
    (hb : s.readGauges x y (s.cell x y).s (fld d 159 136) (fld d 111 99 + 1) = .ok (kb, gb))
    (hd : s.operandAt x y (fld d 135 112) 0 od) (hk : ka + kb ≤ 2 ^ 24)
    (hw : s.canWrite x y od (gaugeBytes (ka + kb) (List.zipWith max ga gb)).length) :
    ∃ t, exec (.matGcombine x y d) s = .next t ∧ s.cellWrote t x y od (gaugeBytes (ka + kb) (List.zipWith max ga gb)) ∧
      t.row = s.row := by
  obtain ⟨t, ht, hwrote, hrow⟩ := State.writeSpa_ok hd hw
  have hx : exec (.matGcombine x y d) s = s.cellOp x y d matGcombineEffect := rfl
  refine exec_of_written hx hl ⟨t, ?_, hwrote, hrow⟩
  simp only [matGcombineEffect, ha, hb, bind, Except.bind, if_neg (Nat.not_lt.mpr hk), List.map_zip_eq_zipWith]
  exact ht

/-- Settles O17: both commands write one gauge vector of what they read. -/
theorem matGaugeVectors : Obligations.MatGaugeVectors := by
  intro x y d s oa ob od hl
  refine ⟨?_, ?_⟩
  · intro fmt n kp tk w idx top code gs hfmt hint htk hlo hhi ha hd hw
    exact exec_matGauge hl hfmt hint (fun h => htk (if_pos h)) hlo hhi ha hd rfl hw
  · intro n g kt out ha hb hd hk hw
    have hzip : List.zipWith max ((List.range n).map (g oa)) ((List.range n).map (g ob)) =
        (List.range n).map (fun i => max (g oa i) (g ob i)) := by
      rw [List.zipWith_map, List.zipWith_self]
    have h := exec_matGcombine hl (State.readGauges_ok ha) (State.readGauges_ok hb) hd hk
    rw [hzip] at h
    exact h hw

end Sys2Proof.Machine

/-!
PROOFS. DRAIN in natural order: what each element becomes (R41, R43), which tiles a drain touches and what it leaves of them (R68, R190).
-/
namespace Sys2Proof.Machine

/-! ### Tiles of a cell -/

@[simp] theorem CellSt.tile_setTile_same (c : CellSt) (k : Nat) (t : AccTile) : (c.setTile k t).tile k = t := Tab.getD_set_same ..

theorem CellSt.tile_setTile_ne (c : CellSt) {k j : Nat} (t : AccTile) (h : j ≠ k) : (c.setTile k t).tile j = c.tile j :=
  Tab.getD_set_ne _ _ _ h

/-- A cell's tiles lie in its accumulator. -/
theorem CellSt.tile_of_acc_eq {c c' : CellSt} (h : c'.acc = c.acc) (k : Nat) : c'.tile k = c.tile k := by
  rw [CellSt.tile, h, CellSt.tile]

theorem CellSt.tile_erase_same (c : CellSt) (k : Nat) : ({ c with acc := Tab.erase c.acc k } : CellSt).tile k = {} := by
  simp [CellSt.tile, Tab.getD]

theorem CellSt.tile_erase_ne (c : CellSt) {k j : Nat} (h : j ≠ k) : ({ c with acc := Tab.erase c.acc k } : CellSt).tile j = c.tile j := by
  simp [CellSt.tile, Tab.getD, Tab.get?_erase_ne _ h]

/-- A write to scratchpad leaves the accumulator. -/
theorem State.cellWrote.acc {s t : State} {x y o : Nat} {bs : Bytes} (h : s.cellWrote t x y o bs) : (t.cell x y).acc = (s.cell x y).acc :=
  (congrArg CellSt.acc h.cell).trans rfl

/-! ### What a drain leaves of the tiles -/

theorem CellSt.noteOverflow_ents (c : CellSt) (k : Nat) (ovf : Bool) (j : Nat) :
    ((c.noteOverflow k ovf).tile j).ents = (c.tile j).ents := by
  unfold CellSt.noteOverflow
  split
  · by_cases h : j = k
    · rw [h, CellSt.tile_setTile_same]
    · rw [CellSt.tile_setTile_ne _ _ h]
  · rfl

theorem CellSt.noteOverflow_tile_ne (c : CellSt) {k j : Nat} (ovf : Bool) (h : j ≠ k) : (c.noteOverflow k ovf).tile j = c.tile j := by
  unfold CellSt.noteOverflow
  split
  · exact CellSt.tile_setTile_ne _ _ h
  · rfl

/-- The cell after the overflows of a drain's rows are noted in their tiles. -/
def CellSt.noteOverflows (c : CellSt) (rows : List (Nat × DrainedRow)) : CellSt :=
  rows.foldl (fun c e => c.noteOverflow e.1 e.2.overflow) c

theorem CellSt.noteOverflows_ents (c : CellSt) (rows : List (Nat × DrainedRow)) (j : Nat) :
    ((c.noteOverflows rows).tile j).ents = (c.tile j).ents := by
  induction rows generalizing c with
  | nil => rfl
  | cons e rows ih => exact (ih _).trans (c.noteOverflow_ents ..)

theorem CellSt.noteOverflows_tile (c : CellSt) {rows : List (Nat × DrainedRow)} {j : Nat} (h : ∀ e ∈ rows, j ≠ e.1) :
    (c.noteOverflows rows).tile j = c.tile j := by
  induction rows generalizing c with
  | nil => rfl
  | cons e rows ih =>
    exact (ih _ fun f hf => h f (List.mem_cons_of_mem _ hf)).trans (c.noteOverflow_tile_ne _ (h e List.mem_cons_self))

theorem CellSt.afterDrain_cons (c : CellSt) (k : Nat) (keys : List Nat) (keep : Bool) : c.afterDrain (k :: keys) keep =
    (if !keep then { c with acc := Tab.erase c.acc k } else if (c.tile k).empty then c
      else c.setTile k { c.tile k with changed := false }).afterDrain keys keep := rfl

theorem CellSt.afterDrain_tile_ne (c : CellSt) {keys : List Nat} (keep : Bool) {j : Nat} (h : j ∉ keys) :
    (c.afterDrain keys keep).tile j = c.tile j := by
  induction keys generalizing c with
  | nil => rfl
  | cons k keys ih =>
    obtain ⟨hk, hkeys⟩ := not_or.mp (List.mem_cons.not.mp h)
    rw [afterDrain_cons, ih _ hkeys]
    split
    · exact c.tile_erase_ne hk
    · split
      · rfl
      · exact c.tile_setTile_ne _ hk

/-- Without KEEP the drained tiles are empty. -/
theorem CellSt.afterDrain_empties (c : CellSt) {keys : List Nat} {j : Nat} (h : j ∈ keys) : (c.afterDrain keys false).tile j = {} := by
  induction keys generalizing c with
  | nil => cases h
  | cons k keys ih =>
    by_cases hj : j ∈ keys
    · exact ih _ hj
    · have hjk : j = k := (List.mem_cons.mp h).resolve_right hj
      exact (CellSt.afterDrain_tile_ne _ false hj).trans (hjk ▸ c.tile_erase_same k)

/-- With KEEP they keep their entries. -/
theorem CellSt.afterDrain_keeps (c : CellSt) (keys : List Nat) (j : Nat) : ((c.afterDrain keys true).tile j).ents = (c.tile j).ents := by
  induction keys generalizing c with
  | nil => rfl
  | cons k keys ih =>
    rw [afterDrain_cons, ih]
    simp only [Bool.not_true, Bool.false_eq_true, if_false]
    split
    · rfl
    · by_cases h : j = k
      · rw [h, CellSt.tile_setTile_same]
      · rw [CellSt.tile_setTile_ne _ _ h]

@[simp] theorem CellSt.noteCopies_acc (c : CellSt) (keep : Bool) (l : List (Nat × Nat)) : (c.noteCopies keep l).acc = c.acc := by
  unfold CellSt.noteCopies; split <;> rfl

/-- The tile of a drained row is one of those that the drain reads. -/
theorem tileKey_mem_drainKeys {base n : Nat} (hb : base + n ≤ 512) {e : Nat × Nat} (he : e ∈ drainRows base n) :
    tileKey e.1 e.2 ∈ drainKeys base n := by
  obtain ⟨p, hp, he⟩ := List.mem_flatMap.mp he
  obtain ⟨j, hj, rfl⟩ := List.mem_map.mp he
  have hp := List.mem_range.mp hp
  have hj := List.mem_range.mp hj
  refine List.mem_filter.mpr ⟨List.mem_range.mpr ?_, ?_⟩
  · simp only [tileKey]; omega
  · rw [Bool.and_eq_true, decide_eq_true_eq, decide_eq_true_eq, tileKey]; omega

/-! ### What a drain makes of the entries -/

theorem drainElems_codes (fmt : Nat) (sat packed : Bool) (es : List (Int × Nat × Int)) :
    (drainElems fmt sat packed es).codes = es.map (fun e => drainCode fmt sat e.1 e.2.1 e.2.2) := by
  simp only [drainElems, List.map_map]
  refine List.map_congr_left fun e _ => ?_
  simp only [Function.comp, drainCode]
  by_cases h11 : fmt = 11
  · by_cases hs : e.2.1 = 0
    · simp only [h11, hs, if_true, satI_eq]
    · simp only [h11, hs, if_true, if_false]; rfl
  · simp only [h11, if_false]

/-- Zero drains to the code 0. -/
theorem drainCode_zero (fmt : Nat) (sat : Bool) : drainCode fmt sat 0 0 0 = 0 := by
  by_cases h11 : fmt = 11
  · simp only [drainCode, h11, if_true]; rfl
  · simp only [drainCode, h11, if_false]; rfl

/-- The codes of one row of a drain to a format without block scales; a row of an empty tile is zeros. -/
theorem CellSt.drainOne_codes (c : CellSt) {fmt : Nat} (hmx : fmtMx fmt = false) (sat : Bool) (p a : Nat) :
    (c.drainOne fmt sat p a).codes = (List.range 32).map (fun k => if (c.tile (tileKey p a)).empty then 0 else
      drainCode fmt sat ((c.tile (tileKey p a)).ent (a % 32) k).a ((c.tile (tileKey p a)).ent (a % 32) k).spec
        ((c.tile (tileKey p a)).l (a % 32) k)) := by
  simp only [CellSt.drainOne, drainRow, hmx, Bool.false_eq_true, if_false, drainElems_codes, AccTile.rowElems, List.map_map,
    Bool.false_and, Bool.or_false]
  refine List.map_congr_left fun k _ => ?_
  simp only [Function.comp]
  split
  · exact drainCode_zero fmt sat
  · rfl

/-! ### The command -/

/-- The rows of a natural-order drain. -/
def CellSt.drainedRows (c : CellSt) (base n fmt : Nat) (sat : Bool) : List DrainedRow :=
  (drainRows base n).map (fun e => c.drainOne fmt sat e.1 e.2)

/-- The bytes of a natural-order drain to a format without block scales. -/
def CellSt.drainedBytes (c : CellSt) (base n fmt : Nat) (sat : Bool) : Bytes :=
  pack (fmtWidth fmt) ((c.drainedRows base n fmt sat).flatMap (·.codes))

/-- A cell after a drain that read these rows. -/
def CellSt.drained (c : CellSt) (base n : Nat) (rows : List DrainedRow) (keep : Bool) : CellSt :=
  (c.noteOverflows (((drainRows base n).map (fun e => tileKey e.1 e.2)).zip rows)).afterDrain (drainKeys base n) keep

theorem CellSt.drained_tile_ne (c : CellSt) {base n k : Nat} (rows : List DrainedRow) (keep : Bool) (hb : base + n ≤ 512)
    (hk : k ∉ drainKeys base n) : (c.drained base n rows keep).tile k = c.tile k := by
  refine (CellSt.afterDrain_tile_ne _ _ hk).trans (CellSt.noteOverflows_tile _ fun e he hke => hk ?_)
  obtain ⟨f, hf, hfe⟩ := List.mem_map.mp (List.of_mem_zip he).1
  rw [hke, ← hfe]
  exact tileKey_mem_drainKeys hb hf

theorem CellSt.drained_keeps (c : CellSt) (base n : Nat) (rows : List DrainedRow) (k : Nat) :
    ((c.drained base n rows true).tile k).ents = (c.tile k).ents :=
  (CellSt.afterDrain_keeps ..).trans (CellSt.noteOverflows_ents ..)

section Drain
variable {s : State} {x y od : Nat} {d : Desc} {base n fmt : Nat} {sat keep : Bool}

/-- A permitted natural-order drain to a format without block scales writes its rows' bytes and leaves the cell drained, but for the
places of copies. -/
theorem matDrainEffect_ok {u : State} (hform : fld d 135 128 = 0) (hbase : fld d 159 151 = base) (hn : fld d 150 142 + 1 = n)
    (hf : fld d 141 138 = fmt) (hsat : decide (fld d 137 137 = 1) = sat) (hkeep : decide (fld d 136 136 = 1) = keep)
    (hrows : base + n ≤ 512) (hfmt : fmt ≠ 12) (hmx : fmtMx fmt = false)
    (hok : (s.cell x y).drainFmtOk (drainKeys base n) fmt = true) (hck : (s.cell x y).drainCheck (drainKeys base n) = none)
    (hd : s.operandAt x y (fld d 183 160) 0 od)
    (hu : s.writeCell x y od (pack (fmtWidth fmt) (((s.cell x y).drainedRows base n fmt sat).flatMap (·.codes))) = .ok u) :
    ∃ cell i o, matDrainEffect x y (s.cell x y).s d s = .ok ((u.setCell x y cell).countRow i o) ∧
      cell.acc = ((u.cell x y).drained base n ((s.cell x y).drainedRows base n fmt sat) keep).acc := by
  have hno : ¬(512 < base + n ∨ (!(s.cell x y).drainFmtOk (drainKeys base n) fmt) = true) := by
    simp only [hok, Bool.not_true, Bool.false_eq_true, or_false]; omega
  have hpieces : s.writePieces x y od (drainBytes fmt od ((s.cell x y).drainedRows base n fmt sat)) = .ok u := by
    simp only [drainBytes, hmx, Bool.false_eq_true, if_false, State.writePieces, Nat.add_zero, hu]
  have he : matDrainEffect x y (s.cell x y).s d s = s.drainNatural x y (s.cell x y).s d := if_pos hform
  rw [he, State.drainNatural]
  rw [CellSt.drainedRows] at hpieces
  simp only [hbase, hn, hf, hsat, hkeep, if_neg hno, hck, hd.1, if_neg hfmt, hpieces, bind, Except.bind]
  exact ⟨_, _, _, rfl, CellSt.noteCopies_acc ..⟩

end Drain

/-- Settles O16: the bytes are the rows' codes, and the tiles are as `CellSt.drained` leaves them. -/
theorem matDrainWritesRows : Obligations.MatDrainWritesRows := by
  intro x y d s od hl hform c base n fmt sat keys codes hrows hfmt hmx hok hck hd hw
  have hcodes : (c.drainedRows base n fmt sat).flatMap (·.codes) = codes := by
    simp only [CellSt.drainedRows, drainRows, List.flatMap_map, List.flatMap_assoc, CellSt.drainOne_codes _ hmx]
    rfl
  obtain ⟨u, hu, hwrote, -⟩ := State.writeCell_ok hw
  rw [← hcodes] at hu
  obtain ⟨cell, i, o, he, hacc⟩ := matDrainEffect_ok (keep := decide (fld d 136 136 = 1)) hform rfl rfl rfl rfl rfl hrows
    (by omega) hmx hok hck hd hu
  have htile (k : Nat) : (((u.setCell x y cell).countRow i o).cell x y).tile k =
      ((u.cell x y).drained base n (c.drainedRows base n fmt sat) (decide (fld d 136 136 = 1))).tile k :=
    (congrArg (·.tile k) (u.cell_setCell_same x y cell)).trans (CellSt.tile_of_acc_eq hacc k)
  have hread (k : Nat) : (u.cell x y).tile k = c.tile k := CellSt.tile_of_acc_eq hwrote.acc k
  refine ⟨_, exec_of_effect (i := .matDrain x y d) rfl hl he, hwrote.data, hwrote.memory,
    fun k hk => ⟨fun h => ?_, fun h => ?_⟩, fun k hk => ?_⟩
  · rw [htile, h]
    exact CellSt.afterDrain_empties _ hk
  · rw [htile, h, ← hread]
    exact CellSt.drained_keeps ..
  · rw [htile, ← hread]
    exact CellSt.drained_tile_ne _ _ _ hrows hk

end Sys2Proof.Machine

/-!
PROOFS. WLOAD and STREAM: the operands they read, the sum of products cut at the window bottom (R37, R40), and a stream's rows in the
tiles of the plies, entry by entry (R62 to R66).
-/
namespace Sys2Proof

/-! ### Sums of products -/

theorem signedVal_cast (neg : Bool) (m : Nat) : (if neg then -(m : ℚ) else (m : ℚ)) = (signedVal neg m : ℚ) := by
  cases neg <;> simp [signedVal]

end Sys2Proof

namespace Sys2Proof.Machine

theorem addend_spec (l : Int) (p : Num) : (addend l p).1 = specOf p := by
  cases p <;> rfl

/-- What a product adds is its floor in units of 2^l; a special adds nothing. -/
theorem addend_floor (l : Int) (p : Num) : (addend l p).2.1 = floorAt l p := by
  cases p with
  | nan => rfl
  | inf neg => rfl
  | fin neg m e =>
    have ha : (addend l (.fin neg m e)).2.1 = (cutOff neg m e l).1 := rfl
    rw [ha, cutOff_fst, floorAt, signedVal_cast]
    split
    · next h =>
      have hz : ((2 : ℚ) ^ (e - l)) = (((2 ^ (l - e).toNat : Nat) : ℚ))⁻¹ := by
        rw [show e - l = -((l - e).toNat : Int) by omega, zpow_neg, zpow_natCast]; norm_cast
      rw [hz, ← div_eq_mul_inv, Rat.floor_intCast_div_natCast, Nat.cast_pow, Nat.cast_ofNat]
    · next h =>
      have hz : ((2 : ℚ) ^ (e - l)) = ((2 ^ (e - l).toNat : Int) : ℚ) := by
        rw [show e - l = ((e - l).toNat : Int) by omega, zpow_natCast]; norm_cast
      rw [hz, ← Int.cast_mul, Int.floor_intCast]

theorem dot_foldl (l : Int) (ps : List Num) (v : Nat) (a : Int) (b : Bool) :
    let r := ps.foldl (fun acc p => (specJoin acc.1 (addend l p).1, acc.2.1 + (addend l p).2.1, acc.2.2 || (addend l p).2.2)) (v, a, b)
    r.1 = ps.foldl (fun v p => specJoin v (specOf p)) v ∧ r.2.1 = a + (ps.map (floorAt l)).sum := by
  induction ps generalizing v a b with
  | nil => simp
  | cons p ps ih =>
    obtain ⟨h1, h2⟩ := ih (specJoin v (addend l p).1) (a + (addend l p).2.1) (b || (addend l p).2.2)
    refine ⟨h1.trans (by rw [addend_spec]; rfl), h2.trans ?_⟩
    rw [addend_floor, List.map_cons, List.sum_cons, Int.add_assoc]

/-- The special state and the sum of a list of products. -/
theorem dot_eq (l : Int) (ps : List Num) : (dot l ps).1 = ps.foldl (fun v p => specJoin v (specOf p)) 0 ∧
    (dot l ps).2.1 = (ps.map (floorAt l)).sum := by
  obtain ⟨h1, h2⟩ := dot_foldl l ps 0 0 false
  exact ⟨h1, h2.trans (Int.zero_add _)⟩

/-! ### A stream's entries -/

section Stream
variable (o : StreamOp) (fresh : Bool) (t : AccTile)

/-- The row of the tile that stream row `i` adds into. -/
def StreamOp.tileRow (i : Nat) : Nat := o.accRow i % 32

/-- What stream row `i` makes of the entry at column `n`. -/
def StreamOp.entry (i n : Nat) (e : AccEnt) : AccEnt :=
  let old : AccEnt := if fresh then {} else e
  accEnt (old.a + (o.element i n).2.2.1) (specJoin old.spec (o.element i n).2.1)

theorem StreamOp.addElement_ent (i : Nat) {n a b : Nat} (hn : n < 32) (hb : b < 32) : (o.addElement fresh i n t).ent a b =
    if a = o.tileRow i ∧ b = n then o.entry fresh i b (t.ent a b) else t.ent a b := by
  have hents : (o.addElement fresh i n t).ents =
      Tab.set t.ents (o.tileRow i * 32 + n) (o.entry fresh i n (t.ent (o.tileRow i) n)) := rfl
  rw [AccTile.ent_eq, hents]
  split
  · next h => rw [h.1, h.2, Tab.getD_set_same]
  · next h => exact Tab.getD_set_ne _ _ _ (entPlace_ne hn hb (by rwa [ne_eq, Prod.mk.injEq]))

/-- The first `k` columns of a row. -/
theorem StreamOp.addElements_ent (i : Nat) {k : Nat} (hk : k ≤ 32) {a b : Nat} (hb : b < 32) :
    ((List.range k).foldl (fun t n => o.addElement fresh i n t) t).ent a b =
      if a = o.tileRow i ∧ b < k then o.entry fresh i b (t.ent a b) else t.ent a b := by
  induction k with
  | zero => simp
  | succ k ih =>
    rw [List.range_succ, List.foldl_append, List.foldl_cons, List.foldl_nil, o.addElement_ent _ _ _ (by omega) hb, ih (by omega)]
    by_cases ha : a = o.tileRow i
    · by_cases hbk : b = k
      · simp [ha, hbk]
      · simp [ha, hbk, show b < k + 1 ↔ b < k by omega]
    · simp [ha]

/-- A row adds into its own entries at the effective columns, and nowhere else. -/
theorem StreamOp.addRow_ent (i : Nat) (hnn : o.nn ≤ 32) {a b : Nat} (hb : b < 32) : (o.addRow fresh t i).ent a b =
    if a = o.tileRow i ∧ b < o.nn then o.entry fresh i b (t.ent a b) else t.ent a b :=
  o.addElements_ent fresh _ i hnn hb

theorem StreamOp.addElements_shape (i k : Nat) : ((List.range k).foldl (fun t n => o.addElement fresh i n t) t).ktotal = t.ktotal ∧
    ((List.range k).foldl (fun t n => o.addElement fresh i n t) t).window = t.window := by
  induction k with
  | zero => exact ⟨rfl, rfl⟩
  | succ k ih =>
    rw [List.range_succ, List.foldl_append]
    exact ih

theorem StreamOp.addRow_shape (i : Nat) : (o.addRow fresh t i).ktotal = t.ktotal ∧ (o.addRow fresh t i).window = t.window :=
  o.addElements_shape fresh _ i o.nn

theorem StreamOp.addRows_shape (is : List Nat) : (is.foldl (o.addRow fresh) t).ktotal = t.ktotal ∧
    (is.foldl (o.addRow fresh) t).window = t.window := by
  induction is generalizing t with
  | nil => exact ⟨rfl, rfl⟩
  | cons i is ih =>
    obtain ⟨hk, hw⟩ := ih (o.addRow fresh t i)
    obtain ⟨hk', hw'⟩ := o.addRow_shape fresh t i
    exact ⟨hk.trans hk', hw.trans hw'⟩

/-- Rows that add into other rows of the tile leave an entry. -/
theorem StreamOp.addRows_ent_other {is : List Nat} (hnn : o.nn ≤ 32) {a b : Nat} (hb : b < 32) (h : ∀ i ∈ is, o.tileRow i ≠ a) :
    (is.foldl (o.addRow fresh) t).ent a b = t.ent a b := by
  induction is generalizing t with
  | nil => rfl
  | cons i is ih =>
    rw [List.foldl_cons, ih _ fun j hj => h j (List.mem_cons_of_mem _ hj), o.addRow_ent _ _ _ hnn hb,
      if_neg fun hc => h i List.mem_cons_self hc.1.symm]

/-- Of rows that add into different rows of the tile, each adds its own. -/
theorem StreamOp.addRows_ent {is : List Nat} (hnd : is.Nodup) (hinj : ∀ i ∈ is, ∀ j ∈ is, o.tileRow i = o.tileRow j → i = j)
    (hnn : o.nn ≤ 32) {i b : Nat} (hi : i ∈ is) (hb : b < 32) : (is.foldl (o.addRow fresh) t).ent (o.tileRow i) b =
      if b < o.nn then o.entry fresh i b (t.ent (o.tileRow i) b) else t.ent (o.tileRow i) b := by
  induction is generalizing t with
  | nil => cases hi
  | cons j is ih =>
    obtain ⟨hj, hnd⟩ := List.nodup_cons.mp hnd
    have hother (k : Nat) (hk : k ∈ is) : o.tileRow k ≠ o.tileRow j := fun he =>
      hj (hinj k (List.mem_cons_of_mem _ hk) j List.mem_cons_self he ▸ hk)
    rw [List.foldl_cons]
    by_cases hij : i = j
    · subst hij
      rw [o.addRows_ent_other fresh _ hnn hb hother, o.addRow_ent _ _ _ hnn hb]
      simp only [true_and]
    · have his : i ∈ is := (List.mem_cons.mp hi).resolve_left hij
      have hkeep : (o.addRow fresh t j).ent (o.tileRow i) b = t.ent (o.tileRow i) b :=
        (o.addRow_ent _ _ _ hnn hb).trans (if_neg fun hc => hother i his hc.1)
      rw [ih _ hnd (fun k hk l hl => hinj k (List.mem_cons_of_mem _ hk) l (List.mem_cons_of_mem _ hl)) his, hkeep]

end Stream

/-! ### A stream's rows in the tiles -/

section Rows
variable (o : StreamOp)

/-- The accumulator has room for the stream's rows. -/
theorem StreamOp.accRow_lt (hroom : o.base + cdiv o.m 4 ≤ 512) (hm : 1 ≤ o.m) (i : Nat) : o.accRow i < 512 := by
  have hr : 0 < o.r := by simp only [StreamOp.r, cdiv]; omega
  have := Nat.mod_lt i hr
  simp only [StreamOp.accRow, StreamOp.r] at *; omega

theorem StreamOp.key_lt (hroom : o.base + cdiv o.m 4 ≤ 512) (hm : 1 ≤ o.m) {i : Nat} (hi : i < o.m) : o.key i < 64 := by
  have hrow := o.accRow_lt hroom hm i
  have hply : o.ply i < 4 := Nat.div_lt_of_lt_mul (by simp only [StreamOp.r, cdiv]; omega)
  simp only [StreamOp.key, tileKey]; omega

/-- Two rows of a stream never share a row of a tile. -/
theorem StreamOp.row_inj (hroom : o.base + cdiv o.m 4 ≤ 512) (hm : 1 ≤ o.m) {i j : Nat} (hkey : o.key i = o.key j)
    (hrow : o.tileRow i = o.tileRow j) : i = j := by
  have hi := o.accRow_lt hroom hm i
  have hj := o.accRow_lt hroom hm j
  simp only [StreamOp.key, tileKey] at hkey
  simp only [StreamOp.tileRow] at hrow
  have hply : o.ply i = o.ply j := by omega
  have hacc : o.accRow i = o.accRow j := by omega
  simp only [StreamOp.accRow, Nat.add_left_cancel_iff] at hacc
  rw [← Nat.div_add_mod i o.r, ← Nat.div_add_mod j o.r, hacc]
  exact congrArg (fun p => o.r * p + j % o.r) hply

/-- A tile as a stream finds it. -/
def StreamOp.start (t : AccTile) : AccTile := if o.zero || t.empty then o.opened t else t

theorem StreamOp.start_ent (t : AccTile) (a b : Nat) : (o.start t).ent a b = t.ent a b := by
  unfold StreamOp.start; split <;> rfl

theorem StreamOp.apply_ent (hroom : o.base + cdiv o.m 4 ≤ 512) (hm : 1 ≤ o.m) (hnn : o.nn ≤ 32) (t : AccTile) {i b : Nat}
    (hi : i < o.m) (hb : b < 32) : (o.apply (o.key i) t).ent (o.tileRow i) b =
      if b < o.nn then o.entry (o.zero || t.empty) i b (t.ent (o.tileRow i) b) else t.ent (o.tileRow i) b := by
  have hmem (j : Nat) : j ∈ o.rowsOf (o.key i) → o.key j = o.key i := fun hj => eq_of_beq (List.mem_filter.mp hj).2
  have h := o.addRows_ent (o.zero || t.empty) (o.start t) (is := o.rowsOf (o.key i)) (List.nodup_range.filter _)
    (fun j hj k hk => o.row_inj hroom hm ((hmem j hj).trans (hmem k hk).symm)) hnn
    (List.mem_filter.mpr ⟨List.mem_range.mpr hi, beq_self_eq_true _⟩) hb
  rw [o.start_ent] at h
  exact h

theorem StreamOp.apply_shape (k : Nat) (t : AccTile) : (o.apply k t).ktotal = (o.start t).ktotal ∧
    (o.apply k t).window = (o.start t).window :=
  o.addRows_shape (o.zero || t.empty) (o.start t) (o.rowsOf k)

/-- The cell after the stream. -/
def StreamOp.run (c : CellSt) : CellSt := o.keys.foldl (fun c k => c.setTile k (o.apply k (c.tile k))) c

theorem foldl_setTile (f : Nat → AccTile → AccTile) (ks : List Nat) (c : CellSt) :
    (ks.foldl (fun c k => c.setTile k (f k (c.tile k))) c).weights = c.weights ∧
    (ks.foldl (fun c k => c.setTile k (f k (c.tile k))) c).shadow = c.shadow ∧
    ∀ j, j ∉ ks → (ks.foldl (fun c k => c.setTile k (f k (c.tile k))) c).tile j = c.tile j := by
  induction ks generalizing c with
  | nil => exact ⟨rfl, rfl, fun _ _ => rfl⟩
  | cons k ks ih =>
    obtain ⟨hw, hs, ht⟩ := ih (c.setTile k (f k (c.tile k)))
    refine ⟨hw, hs, fun j hj => ?_⟩
    obtain ⟨hjk, hj⟩ := not_or.mp (List.mem_cons.not.mp hj)
    exact (ht j hj).trans (c.tile_setTile_ne _ hjk)

theorem foldl_setTile_mem (f : Nat → AccTile → AccTile) {ks : List Nat} (hnd : ks.Nodup) (c : CellSt) {j : Nat} (hj : j ∈ ks) :
    (ks.foldl (fun c k => c.setTile k (f k (c.tile k))) c).tile j = f j (c.tile j) := by
  induction ks generalizing c with
  | nil => cases hj
  | cons k ks ih =>
    obtain ⟨hk, hnd⟩ := List.nodup_cons.mp hnd
    rw [List.foldl_cons]
    by_cases hjk : j = k
    · subst hjk
      rw [(foldl_setTile f ks _).2.2 j hk, CellSt.tile_setTile_same]
    · rw [ih hnd _ ((List.mem_cons.mp hj).resolve_left hjk), c.tile_setTile_ne _ hjk]

theorem StreamOp.run_tile (hroom : o.base + cdiv o.m 4 ≤ 512) (hm : 1 ≤ o.m) (c : CellSt) {i : Nat} (hi : i < o.m) :
    (o.run c).tile (o.key i) = o.apply (o.key i) (c.tile (o.key i)) := by
  refine foldl_setTile_mem o.apply (List.nodup_range.filter _) c (List.mem_filter.mpr ⟨List.mem_range.mpr (o.key_lt hroom hm hi), ?_⟩)
  exact List.any_eq_true.mpr ⟨i, List.mem_range.mpr hi, beq_self_eq_true _⟩

end Rows

/-! ### Reading the operands -/

theorem fld_lt (d : Desc) (hi lo : Nat) : fld d hi lo < 2 ^ (hi + 1 - lo) := Nat.mod_lt _ (Nat.two_pow_pos _)

section Operands
variable {s : State} {x y : Nat} {d : Desc}

theorem byteVals_ite (c : Bool) (b : Bytes) : byteVals (if c then b else []) = if c then b.map (·.toNat) else [] := by
  cases c <;> rfl

/-- The weight tile that a WLOAD's fields name, its elements at one offset and its scales at another (R485). -/
def State.weightsAt (s : State) (x y : Nat) (d : Desc) (ow os : Nat) : WTile :=
  let fmt := fld d 135 132
  let vk := fld d 131 126 + 1
  let vn := fld d 125 121 + 1
  let n := (vk - 1) * 32 + vn
  { fmt := fmt, vk := vk, vn := vn, codes := unpack (fmtWidth fmt) n (s.scratch x y ow (cdiv (n * fmtWidth fmt) 8))
    scales := if fmtMx fmt then (s.scratch x y os ((cdiv vk 32 - 1) * 32 + vn)).map (·.toNat) else []
    load := d, regs := (s.cell x y).s }

theorem State.loadWeights_ok {ow os : Nat} (hfmt : fld d 135 132 < 10)
    (hw : s.operandAt x y (fld d 183 160) (cdiv (((fld d 131 126 + 1 - 1) * 32 + (fld d 125 121 + 1)) * fmtWidth (fld d 135 132)) 8) ow)
    (hs : fmtMx (fld d 135 132) = true →
      s.operandAt x y (fld d 159 136) ((cdiv (fld d 131 126 + 1) 32 - 1) * 32 + (fld d 125 121 + 1)) os) :
    s.loadWeights x y (s.cell x y).s d = .ok (s.weightsAt x y d ow os) := by
  unfold State.loadWeights State.weightsAt
  simp only [if_neg (Nat.not_le.mpr hfmt), State.readSpa_ok hw, bind, Except.bind]
  split
  · next hmx => simp only [State.readSpa_ok (hs hmx)]; rfl
  · rfl

/-- The stream that a STREAM's fields name, its activations at one offset and their scales at another, with the gauges given. -/
def State.streamAt (s : State) (x y : Nat) (d : Desc) (w : WTile) (tk oa os : Nat) (rowG colG : List Int) : StreamOp :=
  let fmt := fld d 87 84
  let m := fld d 83 73 + 1
  let kk := min (fld d 37 32 + 1) w.vk
  streamOf d (s.cell x y).s w tk (s.scratch x y oa (cdiv (((m - 1) * tk + kk) * fmtWidth fmt) 8))
    (if fmtMx fmt then (s.scratch x y os ((m - 1) * (tk / 32) + cdiv kk 32)).map (·.toNat) else []) rowG colG

/-- The gauges of `n` rows or columns: those of the vector at the operand, none in INT8. -/
def State.gaugesFor (s : State) (x y : Nat) (d : Desc) (f n : Nat) : Except Stop (Nat × List Int) :=
  if fld d 87 84 = 8 then .ok (fld d 62 38, List.replicate n noGauge) else s.readGauges x y (s.cell x y).s f n

theorem State.gaugesFor_ok {f n g : Nat} (h : fld d 87 84 ≠ 8 → s.operandAt x y f (64 + 2 * n) g ∧
      uAt (s.scratch x y g (64 + 2 * n)) 0 4 = fld d 62 38) :
    s.gaugesFor x y d f n = .ok (fld d 62 38, if fld d 87 84 = 8 then List.replicate n noGauge else
      (List.range n).map (fun i => toSigned 16 (uAt (s.scratch x y g (64 + 2 * n)) (64 + 2 * i) 2))) := by
  unfold State.gaugesFor
  split
  · rfl
  · next h8 =>
    obtain ⟨hop, hkt⟩ := h h8
    rw [State.readGauges_ok hop, hkt]

theorem State.readStream_ok {w : WTile} {tk oa os : Nat} {rowG colG : List Int} (hpair : pairTileK (fld d 87 84) w.fmt = some tk)
    (hk : fld d 37 32 + 1 ≤ tk) (hwk : w.vk ≤ tk) (hkt : 1 ≤ fld d 62 38) (hkt' : fld d 62 38 ≤ 2 ^ 24)
    (hroom : fld d 72 64 + cdiv (fld d 83 73 + 1) 4 ≤ 512)
    (ha : s.operandAt x y (fld d 183 160)
      (cdiv (((fld d 83 73 + 1 - 1) * tk + min (fld d 37 32 + 1) w.vk) * fmtWidth (fld d 87 84)) 8) oa)
    (hs : fmtMx (fld d 87 84) = true →
      s.operandAt x y (fld d 159 136) ((fld d 83 73 + 1 - 1) * (tk / 32) + cdiv (min (fld d 37 32 + 1) w.vk) 32) os)
    (hint : fld d 87 84 = 8 → fld d 135 112 = 0 ∧ fld d 111 88 = 0)
    (hr : s.gaugesFor x y d (fld d 135 112) (fld d 83 73 + 1) = .ok (fld d 62 38, rowG))
    (hc : s.gaugesFor x y d (fld d 111 88) (min (fld d 31 27 + 1) w.vn) = .ok (fld d 62 38, colG)) :
    s.readStream x y (s.cell x y).s d w = .ok (s.streamAt x y d w tk oa os rowG colG) := by
  have hm : fld d 83 73 < 2 ^ 11 := fld_lt d 83 73
  have hno : ¬(tk < fld d 37 32 + 1 ∨ tk < w.vk ∨ fld d 62 38 = 0 ∨ 2 ^ 24 < fld d 62 38 ∨ 2048 < fld d 83 73 + 1 ∨
      512 < fld d 72 64 + cdiv (fld d 83 73 + 1) 4 ∨ (fld d 87 84 = 8 ∧ (fld d 135 112 ≠ 0 ∨ fld d 111 88 ≠ 0))) := by
    omega
  unfold State.readStream State.streamAt
  simp only [hpair, if_neg hno]
  by_cases h8 : fld d 87 84 = 8
  · have hmx : fmtMx (fld d 87 84) = false := by rw [h8]; rfl
    rw [State.gaugesFor, if_pos h8] at hr hc
    cases hr
    cases hc
    simp only [if_pos h8, hmx, State.readSpa_ok ha, bind, Except.bind, ne_eq, not_true_eq_false, or_self, if_false,
      Bool.false_eq_true]
    rfl
  · rw [State.gaugesFor, if_neg h8] at hr hc
    simp only [if_neg h8, hr, hc, State.readSpa_ok ha, bind, Except.bind, ne_eq, not_true_eq_false, or_self, if_false]
    split
    · next hmx => simp only [State.readSpa_ok (hs hmx)]; rfl
    · rfl

/-- A STREAM that its weights fit, whose rows find their own gauges and KTOTAL in the tiles they add to, leaves the cell as
`StreamOp.run` makes it. -/
theorem matStreamEffect_ok {w : WTile} {o : StreamOp} (hw : (s.cell x y).swap.weights = some w)
    (ho : s.readStream x y (s.cell x y).s d w = .ok o)
    (hagree : ∀ i < o.m, o.mismatch ((s.cell x y).swap.tile (o.key i)) i = false) :
    matStreamEffect x y (s.cell x y).s d s = .ok (s.setCell x y (o.run (s.cell x y).swap)) := by
  have hno : ¬((List.range o.m).any (fun i => o.mismatch ((s.cell x y).swap.tile (o.key i)) i) = true) := by
    simpa using hagree
  simp only [matStreamEffect, hw, ho, bind, Except.bind, if_neg hno]
  rfl

theorem CellSt.swap_shadow (c : CellSt) : c.swap.shadow = none := by
  unfold CellSt.swap
  split
  · rfl
  · next h => exact h

end Operands

/-- A tile that is not reopened has the stream's KTOTAL already (R65). -/
theorem StreamOp.start_ktotal (o : StreamOp) {t : AccTile} {i : Nat} (h : o.mismatch t i = false) : (o.start t).ktotal = o.ktotal := by
  unfold StreamOp.start
  split
  · rfl
  · next hf =>
    simp only [StreamOp.mismatch] at h
    simp_all

theorem StreamOp.start_window (o : StreamOp) (t : AccTile) :
    (o.start t).window = if o.zero || t.empty then (if o.afmt = 8 then 2 else 1) else t.window := by
  unfold StreamOp.start
  split <;> rfl

/-- What a stream row makes of an entry, by its products. -/
theorem StreamOp.entry_eq (o : StreamOp) (fresh : Bool) (i n : Nat) (e : AccEnt) : o.entry fresh i n e =
    let ps := List.zipWith Num.mul (o.acts.getD i []) (o.wcols.getD n [])
    let l := if o.afmt = 8 then 0 else windowL (o.rowG.getD i noGauge) (o.colG.getD n noGauge)
    let old : AccEnt := if fresh then {} else e
    accEnt (old.a + (ps.map (floorAt l)).sum) (specJoin old.spec (ps.foldl (fun v p => specJoin v (specOf p)) 0)) := by
  obtain ⟨hspec, hsum⟩ := dot_eq (if o.afmt = 8 then 0 else windowL (o.rowG.getD i noGauge) (o.colG.getD n noGauge))
    (List.zipWith Num.mul (o.acts.getD i []) (o.wcols.getD n []))
  simp only [StreamOp.entry, StreamOp.element, List.map_zip_eq_zipWith]
  rw [← hspec, ← hsum]
  rfl

/-- Settles O15: WLOAD by `loadWeights_ok`; STREAM by its rows' places in the tiles and the entries they make there. -/
theorem matWloadAndStream : Obligations.MatWloadAndStream := by
  refine ⟨?_, ?_⟩
  · intro x y d s ow os hl fmt vk vn n ns hfmt how hos w
    refine exec_of_effect (eff := matWloadEffect) rfl hl ?_
    have hload := State.loadWeights_ok hfmt how hos
    simp only [matWloadEffect, hload, bind, Except.bind]
    rfl
  · intro x y d s w tk oa os gr gc hl c fmt m ktotal kk nn na ns gauges o hw hpair hk hwk hkt hkt' hroom ha hs hint hg hagree
    have ho : s.readStream x y (s.cell x y).s d w = .ok o := by
      refine State.readStream_ok hpair hk hwk hkt hkt' hroom ha hs hint
        (State.gaugesFor_ok fun h8 => let ⟨hr, hkr, _, _⟩ := hg h8; ⟨hr, hkr⟩)
        (State.gaugesFor_ok fun h8 => let ⟨_, _, hc, hkc⟩ := hg h8; ⟨hc, hkc⟩)
    have hm : 1 ≤ o.m := Nat.succ_pos _
    have hnn : o.nn ≤ 32 := (Nat.min_le_left _ _).trans (fld_lt d 31 27)
    obtain ⟨hweights, hshadow, -⟩ := foldl_setTile o.apply o.keys c
    refine ⟨_, exec_of_effect (eff := matStreamEffect) rfl hl (matStreamEffect_ok hw ho hagree), ?_, ?_, ?_, fun i hi => ?_⟩
    · rw [State.cell_setCell_same]
    · rw [State.cell_setCell_same]; exact hweights.trans hw
    · rw [State.cell_setCell_same]; exact hshadow.trans (CellSt.swap_shadow _)
    · intro old new row
      have hnew : new = o.apply (o.key i) old := by
        simp only [new, State.cell_setCell_same]
        exact o.run_tile hroom hm c hi
      obtain ⟨hktotal, hwindow⟩ := o.apply_shape (o.key i) old
      refine ⟨fun n hn => ?_, fun n hn hn32 => ?_, ?_, ?_⟩
      · rw [hnew]
        exact (o.apply_ent hroom hm hnn old hi (by omega)).trans ((if_pos hn).trans (o.entry_eq ..))
      · rw [hnew]
        exact (o.apply_ent hroom hm hnn old hi hn32).trans (if_neg (by omega))
      · rw [hnew, hktotal]; exact o.start_ktotal (hagree i hi)
      · rw [hnew, hwindow, o.start_window]

end Sys2Proof.Machine

/-!
PROOFS. A RECV waits by the operation that its descriptor's OP field names (R94, R119), which the command does not fix.
-/
namespace Sys2Proof.Machine

/-- A RECV that does not wait though no data has arrived is malformed. -/
theorem synRecvEffect_nothing {s : State} {x y : Nat} {r : Regs} {d : Desc} {l : LinkRec} {e : StreamEnt}
    (he : s.synEntry x y d true = some (l, e)) (hlines : e.lines = synLines d) (hwaits : s.synWaits x y d = false) (hdir : synDir d ≠ 4)
    (hrx : Tab.getD (s.cell x y).rx (streamKey (synDir d) (synStream d)) [] = []) :
    synRecvEffect x y r d s = .error (.fault .descriptor) := by
  have htake : s.takeTransfer x y d e = malformed := by
    simp only [State.takeTransfer, if_neg hdir, hrx]
  simp [synRecvEffect, he, hlines, hwaits, htake, malformed, bind, Except.bind]

/-- A structural fault of a running row aborts it. -/
theorem State.raiseFault_aborts {s : State} (x y : Nat) (f : StructFault) (h : s.rowRuns = true) :
    (s.raiseFault x y f).row.phase = .aborted := by
  rw [State.raiseFault, if_pos h, (State.earlyFail_messaged ..).row]; rfl

/-- A stream of one line a use. -/
def oneLineStream : StreamEnt := { stream := 0, group := 0, read := false, lines := 1, haddr := 0, stride := 0, uses := 0 }

/-- The link by which cell (1, 0) sends that stream west. -/
def oneLineLink : LinkRec := { x := 1, y := 0, dir := 1, posmap := 0, streams := [oneLineStream] }

/-- A running row of a pattern whose slot tables hold that link alone; nothing has arrived on it. -/
def nothingArrived : State :=
  { fe := { fe := .on }, dev := .running, row := { phase := .running, waste := false }
    run := some { kind := .pattern, queue := 0, cmd := zeros 128, sqhead := 1, slot := 0, rows := 8 }
    pats := [(0, { addr := 0, len := 4096, digest := zeros 64, flevel := 1, phase := 0, cycles := 4096, rows := 8, voidmask := 0
                   cells := [], residents := [], regions := [], xfers := []
                   slotTab := le 2 1 ++ le 2 0 ++ le 2 1 ++ le 2 1 ++ zeros 8 ++ (zeros 4 ++ le 4 1 ++ zeros 24)
                   barrierTab := [], mapTab := [] })] }

theorem nothingArrived_live : nothingArrived.cellLive 0 0 := by unfold State.cellLive; decide +kernel

theorem nothingArrived_entry : nothingArrived.synEntry 0 0 0 true = some (oneLineLink, oneLineStream) := by decide +kernel

/-- A RECV of that stream whose OP field is 0 finds no data and no reason to wait: it is malformed, and the row aborts. -/
theorem recv_without_op_aborts : ∃ t, exec (.synRecv 0 0 0) nothingArrived = .next t ∧ t.row.phase = .aborted := by
  have he : synRecvEffect 0 0 (nothingArrived.cell 0 0).s 0 nothingArrived = .error (.fault .descriptor) :=
    synRecvEffect_nothing nothingArrived_entry (by decide +kernel) (by decide +kernel) (by decide +kernel) rfl
  have hx : exec (.synRecv 0 0 0) nothingArrived = nothingArrived.cellOp 0 0 0 synRecvEffect := rfl
  rw [State.cellOp_live nothingArrived_live, he] at hx
  exact ⟨_, hx, State.raiseFault_aborts 0 0 _ rfl⟩

/-- Refutes O24: the statement leaves the OP field of the descriptor free, by which RECV judges whether it waits; with OP 0 a RECV
whose data has not arrived does not wait, it aborts the row. -/
theorem not_synStreamsTransfer : ¬ Obligations.SynStreamsTransfer := by
  rintro ⟨-, hrecv, -⟩
  have hop : nothingArrived.operandAt 0 0 (fld 0 168 145) 0 0 := by unfold State.operandAt; decide +kernel
  obtain ⟨hwait, -⟩ := hrecv 0 0 0 nothingArrived oneLineLink oneLineStream 0
    nothingArrived_live nothingArrived_entry (by decide +kernel) (by decide +kernel) hop
  obtain ⟨hnext, -⟩ := hwait (.inl rfl)
  obtain ⟨t, ht, habort⟩ := recv_without_op_aborts
  cases ht.symm.trans hnext
  cases habort

end Sys2Proof.Machine

/-!
PROOFS. Structural faults (R126): a descriptor that ends in one aborts the running row, to be undone, and memory stands until then.
-/
namespace Sys2Proof.Machine

/-- A structural fault of a running row: what it leaves of the row, and that it leaves alone all that an abort does not touch. -/
theorem State.raiseFault_rowTouched {s : State} (x y : Nat) (f : StructFault) (h : s.rowRuns = true) :
    (s.raiseFault x y f).row = { s.row with phase := .aborted, failed := true, fault := some f, faultAt := (x, y) } ∧
      s.rowTouched (s.raiseFault x y f) := by
  let r : RowSt := { s.row with phase := .aborted, failed := true, fault := some f, faultAt := (x, y) }
  let u := ({ s with row := r } : State).abortCells
  have hlast : s.raiseFault x y f = u.earlyFail 0 u.moduleId := if_pos h
  have hm : u.messaged (s.raiseFault x y f) := hlast ▸ u.earlyFail_messaged ..
  have hu : s.rowTouched u := ⟨s.obj, s.flash, s.start, s.host.pendingVec, r, u.cells, u.engines, u.naela, s.out, rfl⟩
  exact ⟨hm.row, hu.trans (.of_messaged hm)⟩

/-- A command of a live cell whose effect is a structural fault aborts the row and names the cell; memory and the run stand. -/
theorem exec_of_fault {i : Instr} {s : State} {x y : Nat} {d : Desc} {eff : Effect} {f : StructFault}
    (hx : exec i s = s.cellOp x y d eff) (hl : s.cellLive x y) (he : eff x y (s.cell x y).s d s = .error (.fault f)) :
    ∃ t, exec i s = .next t ∧ t.row.phase = .aborted ∧ t.row.failed = true ∧ t.row.fault = some f ∧ t.row.faultAt = (x, y) ∧
      t.mem = s.mem ∧ t.run = s.run := by
  have hruns : s.rowRuns = true := (Bool.and_eq_true_iff.mp hl.2.2).1
  obtain ⟨hrow, htouched⟩ := State.raiseFault_rowTouched x y f hruns
  refine ⟨s.raiseFault x y f, ?_, ?_, ?_, ?_, ?_, htouched.mem, htouched.run⟩
  · rw [hx, State.cellOp_live hl, he]; rfl
  all_goals rw [hrow]

/-! ### Effects that end in a structural fault -/

section Faults
variable {s : State} {x y : Nat} (r : Regs) {d : Desc}

/-- A jump out of the program is an ADDRESS_FAULT (R125). -/
theorem State.jumpTo_outside (c : CellSt) {t : Int} (h : t < 0 ∨ (s.progLen x y : Int) ≤ t) :
    s.jumpTo x y c t = .error (.fault .address) := if_pos h

theorem ctlRetEffect_empty (h : (s.cell x y).stack = []) : ctlRetEffect x y r d s = .error (.fault .stack) := by
  simp only [ctlRetEffect, h]

/-- Without a loaded tile to swap in, a stream's weights are those in the positions (R62). -/
theorem CellSt.swap_of_no_shadow {c : CellSt} (h : c.shadow = none) : c.swap = c := by
  simp only [CellSt.swap, h]

theorem matStreamEffect_unloaded (hshadow : (s.cell x y).shadow = none) (hweights : (s.cell x y).weights = none) :
    matStreamEffect x y r d s = .error (.fault .pair) := by
  simp only [matStreamEffect, CellSt.swap_of_no_shadow hshadow, hweights]

/-- LD and ST name offsets that are multiples of 8. -/
theorem ctlOffset_misaligned {c : CellSt} (h : (c.sr (ctlRa d) + ctlImm d).toNat % 8 ≠ 0) :
    ctlOffset d c = .error (.fault .misalign) := if_pos h

theorem ctlLdEffect_misaligned (h : ((s.cell x y).sr (ctlRa d) + ctlImm d).toNat % 8 ≠ 0) :
    ctlLdEffect x y r d s = .error (.fault .misalign) := by
  simp only [ctlLdEffect, ctlOffset_misaligned h, bind, Except.bind]

theorem ctlStEffect_misaligned (h : ((s.cell x y).sr (ctlRa d) + ctlImm d).toNat % 8 ≠ 0) :
    ctlStEffect x y r d s = .error (.fault .misalign) := by
  simp only [ctlStEffect, ctlOffset_misaligned h, bind, Except.bind]

end Faults

/-- Settles O7: each effect ends in its structural fault, and a structural fault does this to any row (`exec_of_fault`). -/
theorem structuralFaultsAbortTheRow : Obligations.StructuralFaultsAbortTheRow := by
  intro x y d s hl c dest faults
  refine ⟨fun hdest => ?_, fun hfull => ?_, fun hempty => ?_, fun hshadow hweights => ?_, fun halign => ⟨?_, ?_⟩⟩
  · exact exec_of_fault (eff := ctlJmpEffect) rfl hl (State.jumpTo_outside c hdest)
  · exact exec_of_fault (eff := ctlCallEffect) rfl hl (if_pos hfull)
  · exact exec_of_fault (d := d) rfl hl (ctlRetEffect_empty _ hempty)
  · exact exec_of_fault (d := d) rfl hl (matStreamEffect_unloaded _ hshadow hweights)
  · exact exec_of_fault (d := d) rfl hl (ctlLdEffect_misaligned _ halign)
  · exact exec_of_fault (d := d) rfl hl (ctlStEffect_misaligned _ halign)

end Sys2Proof.Machine

/-!
PROOFS. SORT and TOPK (R76): the insertion of indices is a stable sort, and what is written in two pieces, the second from the next
line on, may be written where the whole span may.
-/
namespace Sys2Proof

/-! ### Elements as bytes -/

theorem length_unpack (w n : Nat) (bs : Bytes) : (unpack w n bs).length = n := by
  have hbits (v : Nat) : (unpackBits w n v).length = n := by
    induction n generalizing v with
    | zero => rfl
    | succ n ih => exact congrArg (· + 1) (ih _)
  exact hbits _

/-- Elements of whole bytes pack without a gap. -/
theorem length_pack {w b : Nat} (hw : w = b * 8) (vs : List Nat) : (pack w vs).length = vs.length * b := by
  rw [pack, length_le, cdiv, hw, ← Nat.mul_assoc]
  omega

end Sys2Proof

namespace Sys2Proof.Machine

/-! ### Stable insertion -/

theorem insertBy_perm (before : Nat → Nat → Bool) (i : Nat) (js : List Nat) : (insertBy before i js).Perm (i :: js) := by
  induction js with
  | nil => exact .refl _
  | cons j js ih =>
    rw [insertBy]
    split
    · exact .refl _
    · exact (ih.cons j).trans (.swap i j js)

/-- Into an ordered list, an index goes behind those it does not come before. -/
theorem insertBy_pairwise {before : Nat → Nat → Bool} {R : Nat → Nat → Prop} (htrans : ∀ a b c, R a b → R b c → R a c) {i : Nat}
    {js : List Nat} (hjs : js.Pairwise R) (hfirst : ∀ j ∈ js, before i j = true → R i j)
    (hlast : ∀ j ∈ js, before i j = false → R j i) : (insertBy before i js).Pairwise R := by
  induction js with
  | nil => exact List.pairwise_singleton R i
  | cons j js ih =>
    obtain ⟨hj, htail⟩ := List.pairwise_cons.mp hjs
    rw [insertBy]
    split
    · next h =>
      have hij : R i j := hfirst j (.head _) h
      exact .cons (List.forall_mem_cons.mpr ⟨hij, fun m hm => htrans i j m hij (hj m hm)⟩) hjs
    · next h =>
      have hji : R j i := hlast j (.head _) (by simpa using h)
      have hrest := ih htail (fun m hm => hfirst m (.tail _ hm)) (fun m hm => hlast m (.tail _ hm))
      refine .cons (fun m hm => ?_) hrest
      rcases List.mem_cons.mp ((insertBy_perm before i js).mem_iff.mp hm) with rfl | hm
      · exact hji
      · exact hj m hm

/-- Indices inserted in turn end in any order that the comparison decides for a later index against the earlier ones. -/
theorem foldl_insertBy_sorts {before : Nat → Nat → Bool} {R : Nat → Nat → Prop} (htrans : ∀ a b c, R a b → R b c → R a c)
    (hfirst : ∀ i j, j < i → before i j = true → R i j) (hlast : ∀ i j, j < i → before i j = false → R j i) (n : Nat) :
    ((List.range n).foldl (fun acc i => insertBy before i acc) []).Perm (List.range n) ∧
      ((List.range n).foldl (fun acc i => insertBy before i acc) []).Pairwise R := by
  induction n with
  | zero => exact ⟨.refl _, .nil⟩
  | succ n ih =>
    obtain ⟨hperm, hsorted⟩ := ih
    have hlt {j : Nat} (hj : j ∈ (List.range n).foldl (fun acc i => insertBy before i acc) []) : j < n :=
      List.mem_range.mp (hperm.mem_iff.mp hj)
    rw [List.range_succ, List.foldl_append]
    refine ⟨?_, insertBy_pairwise htrans hsorted (fun j hj => hfirst n j (hlt hj)) (fun j hj => hlast n j (hlt hj))⟩
    exact (insertBy_perm ..).trans ((hperm.cons n).trans (List.perm_append_singleton n _).symm)

/-- Index `i` comes before `j` in the order of R76: by its key, equal keys by their place. -/
def stableBefore (desc : Bool) (k : Nat → Int) (i j : Nat) : Prop :=
  (if desc then k j ≤ k i else k i ≤ k j) ∧ (k i = k j → i < j)

theorem stableBefore_trans (desc : Bool) (k : Nat → Int) (a b c : Nat) (hab : stableBefore desc k a b) (hbc : stableBefore desc k b c) :
    stableBefore desc k a c := by
  obtain ⟨hab, hab'⟩ := hab
  obtain ⟨hbc, hbc'⟩ := hbc
  cases desc <;> simp only [stableBefore, Bool.false_eq_true, if_true, if_false] at * <;> omega

/-- The indices of the keys, each once, in the order of R76. -/
theorem sortedIdx_sorts (c : Nat) (desc : Bool) (keys : List Nat) : (sortedIdx c desc keys).Perm (List.range keys.length) ∧
    (sortedIdx c desc keys).Pairwise (stableBefore desc (fun i => orderKey c (keys.getD i 0))) := by
  refine foldl_insertBy_sorts (stableBefore_trans desc _) (fun i j hji h => ?_) (fun i j hji h => ?_) _
  all_goals cases desc <;> simp [stableBefore] at h ⊢ <;> omega

theorem length_sortedIdx (c : Nat) (desc : Bool) (keys : List Nat) : (sortedIdx c desc keys).length = keys.length :=
  (sortedIdx_sorts c desc keys).1.length_eq.trans List.length_range

/-! ### Writes of a part of a span -/

theorem mem_linesOf {o n l : Nat} : l ∈ linesOf o n ↔ n ≠ 0 ∧ l % 64 = 0 ∧ o < l + 64 ∧ l < o + n := by
  unfold linesOf
  split
  · next h => simp [h]
  · next h =>
    simp only [List.mem_map, List.mem_range]
    constructor
    · rintro ⟨i, hi, rfl⟩; omega
    · intro hl; exact ⟨l / 64 - o / 64, by omega, by omega⟩

theorem linesOf_subset {o n o' n' : Nat} (ho : o ≤ o') (hn : o' + n' ≤ o + n) : linesOf o' n' ⊆ linesOf o n := by
  intro l hl
  rw [mem_linesOf] at hl ⊢
  omega

theorem CellSt.length_unlogged_le (c : CellSt) {ls ls' : List Nat} (hnodup : ls.Nodup) (hsub : ls ⊆ ls') :
    (c.unlogged ls).length ≤ (c.unlogged ls').length := by
  refine (List.Nodup.subperm (hnodup.filter _) fun l hl => ?_).length_le
  obtain ⟨hmem, hl⟩ := List.mem_filter.mp hl
  exact List.mem_filter.mpr ⟨hsub hmem, hl⟩

theorem State.canWrite.part {s : State} {x y o n o' n' : Nat} (h : s.canWrite x y o n) (ho : o ≤ o') (hn : o' + n' ≤ o + n) :
    s.canWrite x y o' n' := by
  obtain ⟨hreach, hwritable, hroom⟩ := h
  have hsub := linesOf_subset ho hn
  refine ⟨hn.trans hreach, fun l hl => hwritable l (hsub hl), ?_⟩
  have := (s.cell x y).length_unlogged_le (linesOf_nodup o' n') hsub
  omega

theorem State.cellWrote.writableLine {s t : State} {x y o : Nat} {bs : Bytes} (h : s.cellWrote t x y o bs) (l : Nat) :
    t.writableLine x y l = s.writableLine x y l := congrArg (fun u => u.writableLine x y l) h.rest

/-- What lies below a write of the cell stands. -/
theorem State.cellWrote.scratch_below {s t : State} {x y o o' n' : Nat} {bs : Bytes} (h : s.cellWrote t x y o bs) (hn : o' + n' ≤ o) :
    t.scratch x y o' n' = s.scratch x y o' n' := by
  refine List.map_congr_left fun i hi => h.memory _ (.inl ?_)
  have := List.mem_range.mp hi
  omega

/-- A write that logs nothing but its own lines leaves room for the rest of a span, from a later line on. -/
theorem State.cellWrote.canWrite_rest {s t : State} {x y o n o' n' : Nat} {bs : Bytes} (h : s.cellWrote t x y o bs)
    (hundo : (t.cell x y).undo = ((s.cell x y).unlogged (linesOf o bs.length)).reverse.map (fun l => (l, s.scratch x y l 64))
      ++ (s.cell x y).undo)
    (hspan : s.canWrite x y o n) (hline : o' % 64 = 0) (hpast : o + bs.length ≤ o') (hn : o' + n' ≤ o + n) :
    t.canWrite x y o' n' := by
  obtain ⟨hreach, hwritable, hroom⟩ := hspan
  have hsub : linesOf o' n' ⊆ linesOf o n := linesOf_subset (by omega) hn
  refine ⟨hn.trans hreach, fun l hl => (h.writableLine l).trans (hwritable l (hsub hl)), ?_⟩
  have hdisjoint : (linesOf o bs.length).Disjoint (linesOf o' n') := by
    intro l hl hl'
    rw [mem_linesOf] at hl hl'
    omega
  have hboth : ((s.cell x y).unlogged (linesOf o bs.length ++ linesOf o' n')).length ≤ ((s.cell x y).unlogged (linesOf o n)).length :=
    CellSt.length_unlogged_le _ (List.nodup_append'.mpr ⟨linesOf_nodup .., linesOf_nodup .., hdisjoint⟩)
      (List.append_subset.mpr ⟨linesOf_subset (le_refl o) (by omega), hsub⟩)
  have hlogged : ((t.cell x y).unlogged (linesOf o' n')).length ≤ ((s.cell x y).unlogged (linesOf o' n')).length := by
    refine (List.monotone_filter_right _ fun l hl => ?_).length_le
    have hbound : (t.cell x y).rbound = (s.cell x y).rbound := (congrArg CellSt.rbound h.cell).trans rfl
    simp only [hundo, hbound, List.any_append, Bool.and_eq_true, Bool.not_eq_true', Bool.or_eq_false_iff] at hl ⊢
    exact ⟨hl.1, hl.2.2⟩
  simp only [CellSt.unlogged, List.filter_append, List.length_append] at hboth
  simp only [hundo, List.length_append, List.length_map, List.length_reverse]
  simp only [CellSt.unlogged] at hroom hlogged ⊢
  omega

/-! ### Keys and words (R76) -/

theorem le_nextLine (o : Nat) : o ≤ cdiv o 64 * 64 := by
  unfold cdiv; omega

/-- Keys alone are one write at the destination. -/
theorem State.writeKeys_alone {s : State} {x y od : Nat} {d : Desc} {keys : List Nat} (hd : s.operandAt x y (fld d 111 88) 0 od)
    (hcan : s.canWrite x y od (pack (fmtWidth (vSfmt d)) keys).length) :
    ∃ t, s.writeKeys x y (s.cell x y).s d keys [] = .ok t ∧ s.cellWrote t x y od (pack (fmtWidth (vSfmt d)) keys) := by
  obtain ⟨t, ht, hwrote, -⟩ := State.writeCell_ok hcan
  refine ⟨t, ?_, hwrote⟩
  simp only [State.writeKeys, hd.1, ht, bind, Except.bind]
  rfl

/-- With words, the keys stand at the destination and the words from the next line on. -/
theorem State.writeKeys_words {s : State} {x y od kn wn : Nat} {d : Desc} {keys words : List Nat}
    (hd : s.operandAt x y (fld d 111 88) 0 od) (hkeys : (pack (fmtWidth (vSfmt d)) keys).length = kn)
    (hwords : words.length * 4 = wn) (hne : words ≠ [])
    (hcan : s.canWrite x y od (cdiv (od + kn) 64 * 64 + wn - od)) :
    ∃ t, s.writeKeys x y (s.cell x y).s d keys words = .ok t ∧ t.scratch x y od kn = pack (fmtWidth (vSfmt d)) keys ∧
      t.scratch x y (cdiv (od + kn) 64 * 64) wn = pack 32 words ∧ t.row = s.row := by
  subst hkeys
  have hlen : (pack 32 words).length = wn := (length_pack rfl words).trans hwords
  set b := pack (fmtWidth (vSfmt d)) keys with hb
  set next := cdiv (od + b.length) 64 * 64 with hnext
  have hpast : od + b.length ≤ next := le_nextLine _
  obtain ⟨u, hu, hwrote, hurow, hundo⟩ := State.writeCell_ok (hcan.part (le_refl od) (n' := b.length) (by omega))
  have hcan' : u.canWrite x y next (pack 32 words).length :=
    hwrote.canWrite_rest hundo hcan (Nat.mul_mod_left ..) hpast (by omega)
  obtain ⟨t, ht, hwrote', htrow, -⟩ := State.writeCell_ok hcan'
  refine ⟨t, ?_, ?_, ?_, htrow.trans hurow⟩
  · have hat : od + pastLine od b.length = next := by rw [pastLine, ← hnext]; omega
    have hfull : words.isEmpty = false := by simpa using hne
    simp only [State.writeKeys, hd.1, ← hb, hu, hat, hfull, ht, bind, Except.bind]
    rfl
  · exact (hwrote'.scratch_below hpast).trans hwrote.data
  · rw [← hlen]
    exact hwrote'.data

/-! ### The commands -/

theorem length_elemsAt (s : State) (x y o c n : Nat) : (s.elemsAt x y o c n).length = n := length_unpack ..

/-- Keys are of whole bytes. -/
theorem fmtWidth_of_key {c : Nat} (hc : c ∈ [9, 10, 11]) : fmtWidth c = vBytes c * 8 := by
  revert c; decide

section Keys
variable {s : State} {x y oa : Nat} {d : Desc} (hc : vSfmt d ∈ [9, 10, 11]) (ht : vDfmt d = vSfmt d)
  (ha : s.operandAt x y (fld d 183 160) (vN d * vBytes (vSfmt d)) oa)
include hc ht

theorem keyRules_met {m : Nat} (hn : vN d ≤ m) :
    ¬((!([9, 10, 11] : List Nat).contains (vSfmt d)) = true ∨ vDfmt d ≠ vSfmt d ∨ m < vN d) := by
  simp only [List.contains_iff_mem.mpr hc, ht, ne_eq, not_true_eq_false, Bool.not_true, Bool.false_eq_true, false_or]
  omega

include ha

theorem vecSortEffect_keys (hn : vN d ≤ 65536) (hv : fld d 46 46 = 0) :
    vecSortEffect x y (s.cell x y).s d s = s.writeKeys x y (s.cell x y).s d
      ((sortedIdx (vSfmt d) (fld d 47 47 == 1) (s.elemsAt x y oa (vSfmt d) (vN d))).map
        (fun i => (s.elemsAt x y oa (vSfmt d) (vN d)).getD i 0)) [] := by
  have hne : ¬(fld d 46 46 = 1) := by omega
  simp only [vecSortEffect, if_neg (keyRules_met hc ht hn), State.readElems_ok ha, if_neg hne, bind, Except.bind]

theorem vecSortEffect_values {ov : Nat} (hn : vN d ≤ 65536) (hv : fld d 46 46 = 1)
    (hov : s.operandAt x y (fld d 159 136) (vN d * vBytes 11) ov) :
    vecSortEffect x y (s.cell x y).s d s = s.writeKeys x y (s.cell x y).s d
      ((sortedIdx (vSfmt d) (fld d 47 47 == 1) (s.elemsAt x y oa (vSfmt d) (vN d))).map
        (fun i => (s.elemsAt x y oa (vSfmt d) (vN d)).getD i 0))
      ((sortedIdx (vSfmt d) (fld d 47 47 == 1) (s.elemsAt x y oa (vSfmt d) (vN d))).map
        (fun i => (s.elemsAt x y ov 11 (vN d)).getD i 0)) := by
  simp only [vecSortEffect, if_neg (keyRules_met hc ht hn), State.readElems_ok ha, State.readElems_ok hov, if_pos hv, bind, Except.bind]

theorem vecTopkEffect_eq {k k' : Nat} {o : List Nat} {t : State} (hn : vN d ≤ 2 ^ 24) (hk : fld d 45 35 + 1 = k)
    (hk' : min k (min 1024 (vN d)) = k')
    (ho : (sortedIdx (vSfmt d) (fld d 47 47 == 1) (s.elemsAt x y oa (vSfmt d) (vN d))).take k' = o)
    (hw : s.writeKeys x y (s.cell x y).s d (o.map (fun i => (s.elemsAt x y oa (vSfmt d) (vN d)).getD i 0)) o = .ok t) :
    vecTopkEffect x y (s.cell x y).s d s = .ok (t.countRow (clamps := if k' = k then 0 else 1)) := by
  subst hk hk' ho
  simp only [vecTopkEffect, if_neg (keyRules_met hc ht hn), State.readElems_ok ha, hw, bind, Except.bind]

end Keys

/-- Settles O13: the order by `sortedIdx_sorts`, the commands by what `writeKeys` leaves. -/
theorem vecSortAndTopkAreStable : Obligations.VecSortAndTopkAreStable := by
  refine ⟨sortedIdx_sorts, ?_⟩
  intro x y d s oa od hl n c ks o k k' after ha hd hc ht
  have hlen : o.length = n := (length_sortedIdx ..).trans (length_elemsAt ..)
  have hpos : 0 < n := Nat.succ_pos _
  have hpack (is : List Nat) : (pack (fmtWidth c) (is.map (fun i => ks.getD i 0))).length = is.length * vBytes c := by
    rw [length_pack (fmtWidth_of_key hc), List.length_map]
  refine ⟨fun hn hv hcan => ?_, fun hn hv ov hov hcan => ?_, fun hn hcan => ?_⟩
  · rw [← hlen, ← hpack o] at hcan
    refine exec_of_written (i := .vecSort x y d) (eff := vecSortEffect) rfl hl ?_
    rw [vecSortEffect_keys hc ht ha hn hv]
    exact State.writeKeys_alone hd hcan
  · refine exec_of_written (i := .vecSort x y d) (eff := vecSortEffect) rfl hl ?_
    rw [vecSortEffect_values hc ht ha hn hv hov]
    obtain ⟨t, hw, hkeys, hvals, -⟩ := State.writeKeys_words hd (by rw [hpack, hlen])
      (words := o.map (fun i => (s.elemsAt x y ov 11 n).getD i 0)) (by rw [List.length_map, hlen])
      (fun h => by rw [← hlen, List.map_eq_nil_iff.mp h] at hpos; cases hpos) hcan
    exact ⟨t, hw, hkeys, hvals⟩
  · have htake : (o.take k').length = k' := by rw [List.length_take, hlen]; omega
    obtain ⟨t, hw, hkeys, hidx, hrow⟩ := State.writeKeys_words hd (by rw [hpack, htake])
      (words := o.take k') (congrArg (· * 4) htake) (fun h => by rw [h, List.length_nil] at htake; omega) hcan
    refine ⟨_, exec_of_effect (i := .vecTopk x y d) rfl hl (vecTopkEffect_eq hc ht ha hn rfl rfl rfl hw), hkeys, hidx, ?_⟩
    rw [State.countRow_counted, hrow]

end Sys2Proof.Machine

/-!
PROOFS. The sequencer and its units (R59, R60, R113): a command of a live cell is the operation itself, and a unit's count rises to the
first of its descriptors that has not completed.
-/
namespace Sys2Proof.Machine

/-! ### The count of a unit (R113) -/

/-- The count never falls, and rises over finished descriptors only. -/
theorem raiseCount_spec (fuel c : Nat) (fin : List Nat) :
    c ≤ raiseCount fuel c fin ∧ ∀ k, c ≤ k → k < raiseCount fuel c fin → k ∈ fin := by
  induction fuel generalizing c with
  | zero => exact ⟨le_refl c, fun k hk hk' => absurd hk' (Nat.not_lt.mpr hk)⟩
  | succ fuel ih =>
    rw [raiseCount]
    split
    · next h =>
      obtain ⟨hle, hmem⟩ := ih (c + 1)
      refine ⟨by omega, fun k hk hk' => ?_⟩
      rcases Nat.eq_or_lt_of_le hk with rfl | hk
      · exact List.contains_iff_mem.mp h
      · exact hmem k hk hk'
    · exact ⟨le_refl c, fun k hk hk' => absurd hk' (Nat.not_lt.mpr hk)⟩

/-- The count stops at a descriptor that has not finished, unless every step found one that has. -/
theorem raiseCount_stops (fuel c : Nat) (fin : List Nat) : raiseCount fuel c fin ∉ fin ∨ raiseCount fuel c fin = c + fuel := by
  induction fuel generalizing c with
  | zero => exact .inr rfl
  | succ fuel ih =>
    rw [raiseCount]
    split
    · have := ih (c + 1)
      rwa [Nat.add_right_comm, Nat.add_assoc] at this
    · next h => exact .inl fun hmem => h (List.contains_iff_mem.mpr hmem)

/-- With one step more than there are finished descriptors, the count stops at one that has not finished. -/
theorem raiseCount_unfinished (c : Nat) (fin : List Nat) : raiseCount (fin.length + 1) c fin ∉ fin := by
  rcases raiseCount_stops (fin.length + 1) c fin with h | h
  · exact h
  · have hsub : List.range' c (fin.length + 1) ⊆ fin := fun k hk => by
      obtain ⟨hle, hlt⟩ := List.mem_range'_1.mp hk
      exact (raiseCount_spec _ c fin).2 k hle (h ▸ hlt)
    have := (List.Nodup.subperm List.nodup_range' hsub).length_le
    rw [List.length_range'] at this
    omega

/-! ### Commands of a live cell -/

section Live
variable {s : State} {x y : Nat} (hl : s.cellLive x y)
include hl

theorem exec_sequencerIssue (hp : (s.cell x y).phase = .running) : exec (.sequencerIssue x y) s = .next (s.issue x y) := by
  obtain ⟨hcell, hon, hruns⟩ := hl
  refine (State.unit_on _ _ hcell hon _).trans (congrArg _ (if_pos ⟨hruns, hp⟩))

/-- The unit's next descriptor starts when nothing holds it back. -/
theorem exec_descriptorStart {u : UnitId} {i : Issued} {rest : List Issued} (hq : ((s.cell x y).unitQ u).q = i :: rest) :
    exec (.descriptorStart x y u) s = .next
      (if (s.cell x y).ready i.d i.before = true ∧ s.unitHolds x y i.d = false ∧ s.looseHolds x y i = false
        then s.startDesc x y u i rest else s) := by
  obtain ⟨hcell, hon, hruns⟩ := hl
  refine (State.unit_on _ _ hcell hon _).trans (congrArg _ ?_)
  simp only [hq, hruns, true_and, Bool.not_eq_true']

end Live

/-- A cell whose sequencer has not fetched END does not end. -/
theorem State.tryEnd_of_running {s : State} {x y : Nat} (h : (s.cell x y).phase = .running) : s.tryEnd x y = s := by
  refine if_neg fun hend => ?_
  rw [h] at hend
  cases hend.1

@[simp] theorem CellSt.setUnitQ_phase (c : CellSt) (u : UnitId) (q : UnitQ) : (c.setUnitQ u q).phase = c.phase := by
  cases u <;> rfl

/-- A descriptor of a running cell that has reached its completion point completes. -/
theorem exec_descriptorComplete {s : State} {x y n : Nat} {u : UnitId} {e : Started} (hl : s.cellLive x y)
    (hp : (s.cell x y).phase = .running) (hfind : ((s.cell x y).unitQ u).running.find? (fun r => r.n == n) = some e)
    (hreached : s.reached x y e = true) : exec (.descriptorComplete x y u n) s =
      .next (s.setCell x y ((s.cell x y).setUnitQ u (((s.cell x y).unitQ u).finish n))) := by
  obtain ⟨hcell, hon, hruns⟩ := hl
  refine (State.unit_on _ _ hcell hon _).trans (congrArg _ ?_)
  simp only [hfind, hruns, hreached, and_self, if_true]
  exact State.tryEnd_of_running (by rw [State.cell_setCell_same, CellSt.setUnitQ_phase, hp])

/-! ### Issue -/

section Issue
variable {s : State} {x y : Nat} {e : CellEntry} {d : Desc} {eff : Effect} (he : s.cellEntry x y = some e)
  (hpc : (s.cell x y).pc < e.progLen) (hd : s.fetchDesc x y e = d) (hcrc : crcOk d = true) (heff : effectOf d = some eff)
  (hcommon : commonOk d = true)
include he hpc hd hcrc heff hcommon

theorem State.issue_queued {u : UnitId} (hu : unitOf d = some u) : s.issue x y = s.setCell x y ((s.cell x y).enqueue u d) := by
  simp only [State.issue, he, if_neg (Nat.not_le.mpr hpc), hd, hcrc, heff, hcommon, hu, Bool.not_true, Bool.false_eq_true, if_false]

theorem State.issue_own (hu : unitOf d = none) : s.issue x y = s.issueOwn x y d eff := by
  simp only [State.issue, he, if_neg (Nat.not_le.mpr hpc), hd, hcrc, heff, hcommon, hu, Bool.not_true, Bool.false_eq_true, if_false]

end Issue

/-! ### What becomes of a descriptor (R59, R60) -/

theorem CellSt.enqueue_room (c : CellSt) {u : UnitId} (d : Desc) (h : (c.unitQ u).q.length < queueDepth u) :
    c.enqueue u d = (c.setUnitQ u { c.unitQ u with
      q := (c.unitQ u).q ++ [{ d := d, regs := c.s, before := c.issuedAll }], issued := (c.unitQ u).issued + 1 }).next :=
  if_neg (Nat.not_le.mpr h)

theorem CellSt.enqueue_full (c : CellSt) {u : UnitId} (d : Desc) (h : queueDepth u ≤ (c.unitQ u).q.length) : c.enqueue u d = c := if_pos h

/-- A descriptor that the sequencer must hold back does nothing. -/
theorem State.issueOwn_held {s : State} {x y : Nat} {d : Desc} (eff : Effect) (h : s.holdsOwn (s.cell x y) d = true) :
    s.issueOwn x y d eff = s := if_pos h

/-- A CTL descriptor that nothing holds back leaves what its effect does; it moves the counter itself (R125). -/
theorem State.issueOwn_ctl {s : State} {x y : Nat} {d : Desc} (eff : Effect) (h : s.holdsOwn (s.cell x y) d = false)
    (hclass : descClass d = 0) : s.issueOwn x y d eff = s.settle x y (eff x y (s.cell x y).s d s) := by
  simp only [State.issueOwn, h, hclass, Bool.false_eq_true, if_false, if_true]
  cases eff x y (s.cell x y).s d s <;> rfl

/-- A descriptor whose effect succeeds runs in its unit, after those that run there already. -/
theorem State.startDesc_ok {s t : State} {x y : Nat} {u : UnitId} {i : Issued} {rest : List Issued} {eff : Effect}
    (heff : effectOf i.d = some eff)
    (ht : eff x y i.regs i.d (s.setCell x y ((s.cell x y).setUnitQ u
      { (s.cell x y).unitQ u with q := rest, started := ((s.cell x y).unitQ u).started + 1 })) = .ok t) :
    s.startDesc x y u i rest = t.setCell x y ((t.cell x y).setUnitQ u { (t.cell x y).unitQ u with
      running := ((t.cell x y).unitQ u).running ++
        [{ n := ((s.cell x y).unitQ u).started, d := i.d, aux := (t.cell x y).auxOf i.d }] }) := by
  simp only [State.startDesc, heff, ht]

/-! ### The obligation -/

/-- What the completion of descriptor `n` makes of a unit's count and of the descriptors that completed ahead of it (R113). -/
theorem UnitQ.finish_counts (q : UnitQ) (n : Nat) :
    q.count ≤ (q.finish n).count ∧ (∀ k, q.count ≤ k → k < (q.finish n).count → k = n ∨ k ∈ q.finished) ∧
      (q.finish n).count ∉ n :: q.finished ∧ ∀ k ∈ (q.finish n).finished, (q.finish n).count < k := by
  obtain ⟨hle, hmem⟩ := raiseCount_spec ((n :: q.finished).length + 1) q.count (n :: q.finished)
  have hstop := raiseCount_unfinished q.count (n :: q.finished)
  refine ⟨hle, fun k hk hk' => List.mem_cons.mp (hmem k hk hk'), hstop, fun k hk => ?_⟩
  obtain ⟨hk, hge⟩ := List.mem_filter.mp hk
  exact Nat.lt_of_le_of_ne (of_decide_eq_true hge) fun h => hstop (show (q.finish n).count ∈ _ from h ▸ hk)

/-- Settles O27: the sequencer by `issue_queued` and `issue_own`, a start by `startDesc_ok`, the count by `finish_counts`. -/
theorem sequencerAndUnitsRunInOrder : Obligations.SequencerAndUnitsRunInOrder := by
  refine ⟨?_, ?_, fun x y u n s e => exec_descriptorComplete, fun q n _ _ _ _ => q.finish_counts n⟩
  · intro x y s e eff hl hp he hpc c d hcrc heff hcommon
    have hx := exec_sequencerIssue hl hp
    have hd : s.fetchDesc x y e = d := rfl
    refine ⟨fun u hu => ?_, fun hu hheld => ?_, fun hu hfree hclass => ?_⟩
    · rw [State.issue_queued he hpc hd hcrc heff hcommon hu] at hx
      exact ⟨fun hroom => by rw [hx, CellSt.enqueue_room _ _ hroom], fun hfull => by rw [hx, CellSt.enqueue_full _ _ hfull]⟩
    · rw [hx, State.issue_own he hpc hd hcrc heff hcommon hu, State.issueOwn_held eff hheld]
    · rw [hx, State.issue_own he hpc hd hcrc heff hcommon hu, State.issueOwn_ctl eff hfree hclass]
  · intro x y u s i rest eff hl c hq heff s1
    have hx := exec_descriptorStart hl hq
    refine ⟨fun hheld => hx.trans (congrArg _ (if_neg ?_)), fun hready hunit hloose t ht => ⟨(t.cell x y).auxOf i.d, ?_⟩⟩
    · rintro ⟨hready, hunit, hloose⟩
      rcases hheld with h | h | h
      · exact Bool.false_ne_true (h.symm.trans hready)
      · exact Bool.false_ne_true (hunit.symm.trans h)
      · exact Bool.false_ne_true (hloose.symm.trans h)
    · rw [hx, if_pos ⟨hready, hunit, hloose⟩, State.startDesc_ok heff ht]

end Sys2Proof.Machine

/-!
PROOFS. CTL descriptors (R98, R124, R125): registers and predicates, the counter, loads and undo-logged stores, and END.
-/
namespace Sys2Proof.Machine

/-! ### Registers and predicates (R124) -/

@[simp] theorem CellSt.next_sr (c : CellSt) (i : Nat) : c.next.sr i = c.sr i := rfl
@[simp] theorem CellSt.next_pr (c : CellSt) (i : Nat) : c.next.pr i = c.pr i := rfl

/-- A write of a scalar register is a change of the registers alone. -/
theorem CellSt.setSr_eq (c : CellSt) (rd : Nat) (v : W64) : c.setSr rd v = { c with s := (c.setSr rd v).s } := by
  unfold CellSt.setSr; split <;> rfl

/-- A write of a predicate is a change of the predicates alone. -/
theorem CellSt.setPr_eq (c : CellSt) (pd : Nat) (b : Bool) : c.setPr pd b = { c with p := (c.setPr pd b).p } := by
  unfold CellSt.setPr; split <;> rfl

theorem CellSt.pr_setPr (c : CellSt) (h : c.p.length = 8) (pd : Nat) (b : Bool) {k : Nat} (hk : k < 8) :
    (c.setPr pd b).pr k = if k = pd ∧ k ≠ 0 then b else c.pr k := by
  unfold CellSt.setPr CellSt.pr
  by_cases h0 : k = 0
  · simp [h0]
  · by_cases hp : pd = 0
    · have hne : ¬k = pd := by omega
      simp [h0, hp]
    · by_cases e : k = pd
      · subst e; simp [h0, List.getD_eq_getElem?_getD, h, hk]
      · simp [h0, hp, e, List.getD_eq_getElem?_getD, Ne.symm e]

/-- A write of s[RD] and a step of the counter is what `wroteReg` says. -/
theorem State.wroteReg_setSr {s : State} {x y : Nat} (h : (s.cell x y).s.length = 32) (rd : Nat) (v : W64) :
    s.wroteReg (s.setCell x y ((s.cell x y).setSr rd v).next) x y rd v := by
  refine ⟨((s.cell x y).setSr rd v).s, ?_, fun i hi => ?_⟩
  · rw [CellSt.setSr_eq]; rfl
  · rw [State.cell_setCell_same, CellSt.next_sr, CellSt.sr_setSr _ h rd v i hi]

section Ctl
variable {s : State} {x y : Nat} {d : Desc} (hl : s.cellLive x y)
include hl

/-- A CTL command that goes on to the next descriptor leaves what its operation makes of the cell. -/
theorem exec_ctlEffect {i : Instr} {f : CtlOp} (hx : exec i s = s.cellOp x y d (ctlEffect f)) :
    exec i s = .next (s.setCell x y (f d (s.cell x y)).next) := exec_of_effect hx hl rfl

/-- A CTL command with a destination register writes its value there. -/
theorem exec_ctlWrite {i : Instr} {f : Desc → CellSt → W64} {v : W64} (hlen : (s.cell x y).s.length = 32)
    (hx : exec i s = s.cellOp x y d (ctlEffect (fun d c => c.setSr (ctlRd d) (f d c)))) (hv : f d (s.cell x y) = v) :
    ∃ t, exec i s = .next t ∧ s.wroteReg t x y (ctlRd d) v := by
  subst hv
  exact ⟨_, exec_ctlEffect hl hx, State.wroteReg_setSr hlen _ _⟩

end Ctl

/-! ### Values (R124) -/

theorem sub_eq_ofInt (a b : W64) : a - b = BitVec.ofInt 64 (a.toInt - b.toInt) := by
  apply BitVec.eq_of_toInt_eq
  rw [BitVec.toInt_sub, BitVec.toInt_ofInt]

theorem add_eq_ofNat (a b : W64) : a + b = BitVec.ofNat 64 (a.toNat + b.toNat) := by
  rw [BitVec.ofNat_add, BitVec.ofNat_toNat, BitVec.ofNat_toNat, BitVec.setWidth_eq, BitVec.setWidth_eq]

theorem mul_eq_ofNat (a b : W64) : a * b = BitVec.ofNat 64 (a.toNat * b.toNat) := by
  rw [BitVec.ofNat_mul, BitVec.ofNat_toNat, BitVec.ofNat_toNat, BitVec.setWidth_eq, BitVec.setWidth_eq]

theorem shiftLeft_eq_ofNat (a : W64) (n : Nat) : a <<< n = BitVec.ofNat 64 (a.toNat * 2 ^ n) := by
  apply BitVec.eq_of_toNat_eq
  rw [BitVec.toNat_shiftLeft, BitVec.toNat_ofNat, Nat.shiftLeft_eq]

theorem shiftRight_eq_ofNat (a : W64) (n : Nat) : a >>> n = BitVec.ofNat 64 (a.toNat / 2 ^ n) := by
  apply BitVec.eq_of_toNat_eq
  rw [BitVec.toNat_ushiftRight, BitVec.toNat_ofNat, Nat.shiftRight_eq_div_pow]
  exact (Nat.mod_eq_of_lt (lt_of_le_of_lt (Nat.div_le_self ..) a.isLt)).symm

/-- The arithmetic shift is the floor of the signed quotient. -/
theorem sshiftRight_eq_ofInt (a : W64) (n : Nat) : a.sshiftRight n = BitVec.ofInt 64 (a.toInt / 2 ^ n) := by
  rw [BitVec.sshiftRight, Int.shiftRight_eq_div_pow]; norm_cast

theorem ofInt_min (a b : W64) : (if b.slt a then b else a) = BitVec.ofInt 64 (min a.toInt b.toInt) := by
  simp only [BitVec.slt, decide_eq_true_eq]
  split
  · rw [min_eq_right (by omega), BitVec.ofInt_toInt]
  · rw [min_eq_left (by omega), BitVec.ofInt_toInt]

theorem ofInt_max (a b : W64) : (if a.slt b then b else a) = BitVec.ofInt 64 (max a.toInt b.toInt) := by
  simp only [BitVec.slt, decide_eq_true_eq]
  split
  · rw [max_eq_right (by omega), BitVec.ofInt_toInt]
  · rw [max_eq_left (by omega), BitVec.ofInt_toInt]

/-- Each condition code below 6 decides its relation. -/
theorem ctlHolds_relation {cond : Nat} (h : cond < 6) (a b : W64) :
    ∃ r, ctlHolds cond a b = some r ∧ (r = true ↔ ctlRelation cond a b) := by
  have hcond : cond = 0 ∨ cond = 1 ∨ cond = 2 ∨ cond = 3 ∨ cond = 4 ∨ cond = 5 := by omega
  rcases hcond with rfl | rfl | rfl | rfl | rfl | rfl
  · exact ⟨_, rfl, by simp [ctlRelation]⟩
  · exact ⟨_, rfl, by simp [ctlRelation]⟩
  · exact ⟨_, rfl, by simp [ctlRelation, BitVec.slt]⟩
  · exact ⟨_, rfl, by simp [ctlRelation, BitVec.slt]⟩
  · exact ⟨_, rfl, by simp [ctlRelation, BitVec.ult]⟩
  · exact ⟨_, rfl, by simp [ctlRelation, BitVec.ult]⟩

/-- A comparison writes its relation to p[PD]. -/
theorem exec_ctlCompare {s : State} {x y : Nat} {d : Desc} {i : Instr} {v : Desc → CellSt → W64} (hl : s.cellLive x y)
    (hlen : (s.cell x y).p.length = 8) (hcond : ctlCond d < 6) (hx : exec i s = s.cellOp x y d (ctlCompare v)) :
    ∃ t preds, exec i s = .next t ∧ t = s.setCell x y { s.cell x y with p := preds, pc := (s.cell x y).pc + 1 } ∧
      ∀ k < 8, ((t.cell x y).pr k = true ↔ if k = ctlPd d ∧ k ≠ 0 then
        ctlRelation (ctlCond d) ((s.cell x y).sr (ctlRa d)) (v d (s.cell x y)) else (s.cell x y).pr k = true) := by
  obtain ⟨r, hr, hrel⟩ := ctlHolds_relation hcond ((s.cell x y).sr (ctlRa d)) (v d (s.cell x y))
  refine ⟨_, ((s.cell x y).setPr (ctlPd d) r).p, exec_of_effect hx hl (by simp only [ctlCompare, hr]; rfl), ?_, fun k hk => ?_⟩
  · rw [CellSt.setPr_eq]; rfl
  · rw [State.cell_setCell_same, CellSt.next_pr, CellSt.pr_setPr _ hlen _ _ hk]
    split
    · exact hrel
    · exact Iff.rfl

/-- Settles O5: every form writes one register or one predicate, and its value is the one that the statement names. -/
theorem ctlScalarOperations : Obligations.CtlScalarOperations := by
  refine ⟨?_, ?_⟩
  · intro x y d s hl hlen c a b does
    have hdoes {i : Instr} {v : W64} (f : Desc → CellSt → W64)
        (hx : exec i s = s.cellOp x y d (ctlEffect (fun d c => c.setSr (ctlRd d) (f d c)))) (hv : f d c = v) : does i v :=
      exec_ctlWrite hl hlen hx hv
    have hbinary {i : Instr} {v : W64} (f : W64 → W64 → W64) (hx : exec i s = s.cellOp x y d (ctlBinary f)) (hv : f a b = v) :
        does i v := hdoes (fun d c => f (c.sr (ctlRa d)) (c.sr (ctlRb d))) hx hv
    refine ⟨⟨_, exec_ctlEffect (i := .ctlNop x y d) (f := fun _ c => c) hl rfl, State.wroteReg_setSr hlen 0 0⟩,
      hdoes (fun d _ => ctlImm d) rfl rfl, ?_, ?_, ?_, ?_, ?_, ?_, ?_, ?_, ?_, ?_, ?_, ?_⟩
    · exact hbinary (· + ·) rfl (add_eq_ofNat a b)
    · exact hbinary (· - ·) rfl (sub_eq_ofInt a b)
    · exact hbinary (· * ·) rfl (mul_eq_ofNat a b)
    · exact hbinary (· &&& ·) rfl rfl
    · exact hbinary (· ||| ·) rfl rfl
    · exact hbinary (· ^^^ ·) rfl rfl
    · exact hbinary (fun a b => a <<< (b.toNat % 64)) rfl (shiftLeft_eq_ofNat ..)
    · exact hbinary (fun a b => a >>> (b.toNat % 64)) rfl (shiftRight_eq_ofNat ..)
    · exact hbinary (fun a b => a.sshiftRight (b.toNat % 64)) rfl (sshiftRight_eq_ofInt ..)
    · exact hdoes (fun d c => c.sr (ctlRa d) + ctlImm d) rfl (add_eq_ofNat ..)
    · exact hbinary (fun a b => if b.slt a then b else a) rfl (ofInt_min a b)
    · exact hbinary (fun a b => if a.slt b then b else a) rfl (ofInt_max a b)
  · intro x y d s hl hlen hcond c a does
    exact ⟨exec_ctlCompare hl hlen hcond (i := .ctlCmp x y d) (v := fun d c => c.sr (ctlRb d)) rfl,
      exec_ctlCompare hl hlen hcond (i := .ctlCmpi x y d) (v := fun d _ => ctlImm d) rfl⟩

/-! ### The counter (R124, R125) -/

section Jumps
variable {s : State} {x y : Nat} {d : Desc}

/-- A jump inside the program lands. -/
theorem State.jumpTo_inside (c : CellSt) {t : Int} (h0 : 0 ≤ t) (hlt : t < s.progLen x y) :
    s.jumpTo x y c t = .ok (s.setCell x y { c with pc := t.toNat }) := by
  unfold State.jumpTo
  exact if_neg (by omega)

/-- A branch whose target is in the program jumps when its condition holds, else goes on. -/
theorem State.branch_inside (c : CellSt) (b : Bool) (h0 : 0 ≤ (c.pc : Int) + ctlTarget d)
    (hlt : (c.pc : Int) + ctlTarget d < s.progLen x y) :
    s.branch x y c d b = .ok (s.setCell x y { c with pc := if b then ((c.pc : Int) + ctlTarget d).toNat else c.pc + 1 }) := by
  cases b with
  | true => exact s.jumpTo_inside c h0 hlt
  | false => rfl

end Jumps

/-- Settles O6: every jump is `branch_inside`, and RET is `jumpTo_inside`. -/
theorem ctlJumpsMoveTheCounter : Obligations.CtlJumpsMoveTheCounter := by
  intro x y d s hl hlen c dest h0 hlt
  refine ⟨?_, ?_, ?_, fun hstack => ?_, fun k rest hstack hk => ?_⟩
  · exact exec_of_effect (eff := ctlJmpEffect) rfl hl (State.branch_inside c true h0 hlt)
  · exact exec_of_effect (eff := ctlBrEffect) rfl hl (State.branch_inside c _ h0 hlt)
  · set c' := c.setSr (ctlRa d) (c.sr (ctlRa d) - 1) with hc'
    have hpc : c'.pc = c.pc := by rw [hc', CellSt.setSr_eq]
    have heff := State.branch_inside (s := s) (x := x) (y := y) c' (c'.sr (ctlRa d) != 0) (by rwa [hpc]) (by rwa [hpc])
    refine ⟨_, c'.s, exec_of_effect (i := .ctlLoop x y d) (eff := ctlLoopEffect) rfl hl heff, ?_, fun i hi => ?_⟩
    · rw [State.cell_setCell_same, hpc]
      simp only [bne_iff_ne]
      exact congrArg (fun k : CellSt => s.setCell x y { k with pc := if c'.sr (ctlRa d) ≠ 0 then dest.toNat else c.pc + 1 })
        (CellSt.setSr_eq ..)
    · rw [State.cell_setCell_same]
      exact (CellSt.sr_setSr c hlen _ _ i hi).trans (by split <;> simp_all)
  · refine exec_of_effect (eff := ctlCallEffect) rfl hl ?_
    exact (if_neg (Nat.not_le.mpr hstack)).trans (State.branch_inside { c with stack := (c.pc + 1) :: c.stack } true h0 hlt)
  · refine exec_of_effect (eff := ctlRetEffect) rfl hl ?_
    have hret : ctlRetEffect x y (s.cell x y).s d s = s.jumpTo x y { c with stack := rest } k := by
      unfold ctlRetEffect; simp only [show (s.cell x y).stack = k :: rest from hstack]; rfl
    rw [hret, State.jumpTo_inside _ (Int.natCast_nonneg k) (Int.ofNat_lt.mpr hk), Int.toNat_natCast]

/-! ### Loads and stores (R80, R103, R124, R125) -/

theorem ctlOffset_aligned {d : Desc} {c : CellSt} (h : (c.sr (ctlRa d) + ctlImm d).toNat % 8 = 0) :
    ctlOffset d c = .ok (c.sr (ctlRa d) + ctlImm d).toNat := if_neg (not_not.mpr h)

section LoadStore
variable {s : State} {x y : Nat} {d : Desc} (hl : s.cellLive x y)
  (h8 : ((s.cell x y).sr (ctlRa d) + ctlImm d).toNat % 8 = 0)
include hl h8

theorem exec_ctlLd (hreach : ((s.cell x y).sr (ctlRa d) + ctlImm d).toNat + 8 ≤ reachEnd) :
    exec (.ctlLd x y d) s = .next (s.setCell x y ((s.cell x y).setSr (ctlRd d)
      (BitVec.ofNat 64 (ofLe (s.scratch x y ((s.cell x y).sr (ctlRa d) + ctlImm d).toNat 8)))).next) := by
  refine exec_of_effect (eff := ctlLdEffect) rfl hl ?_
  simp only [ctlLdEffect, ctlOffset_aligned h8, s.readCell_ok hreach, bind, Except.bind]

/-- A store that the cell may make writes its word, logs the resident lines it touches first, and moves the counter. -/
theorem exec_ctlSt (hw : s.canWrite x y ((s.cell x y).sr (ctlRa d) + ctlImm d).toNat 8) :
    ∃ u, exec (.ctlSt x y d) s = .next (u.setCell x y (u.cell x y).next) ∧
      s.cellWrote u x y ((s.cell x y).sr (ctlRa d) + ctlImm d).toNat (le 8 ((s.cell x y).sr (ctlRb d)).toNat) ∧
      (u.cell x y).undo = ((s.cell x y).unlogged (linesOf ((s.cell x y).sr (ctlRa d) + ctlImm d).toNat 8)).reverse.map
        (fun l => (l, s.scratch x y l 64)) ++ (s.cell x y).undo := by
  set b := le 8 ((s.cell x y).sr (ctlRb d)).toNat with hb
  have hlen : b.length = 8 := length_le ..
  obtain ⟨u, hu, hwrote, -, hundo⟩ := State.writeCell_ok (bs := b) (by rwa [hlen])
  rw [hlen] at hundo
  refine ⟨u, exec_of_effect (eff := ctlStEffect) rfl hl ?_, hwrote, hundo⟩
  simp only [ctlStEffect, ctlOffset_aligned h8, ← hb, hu, bind, Except.bind]

end LoadStore

/-- An aligned word lies in one line. -/
theorem linesOf_word {o : Nat} (h : o % 8 = 0) : linesOf o 8 = [o / 64 * 64] := by
  have h1 : (o + 8 - 1) / 64 - o / 64 + 1 = 1 := by omega
  rw [linesOf, if_neg (by omega), h1]
  rfl

/-- Writing back what a line held gives a memory that differs nowhere outside the line its old bytes. -/
theorem read_restored_line {m m' : Mem} {base : Nat} (h : ∀ a, a < base ∨ base + 64 ≤ a → m'.read a = m.read a) (a : Nat) :
    (m'.writeBytes base (m.readBytes base 64)).read a = m.read a := by
  by_cases hin : base ≤ a ∧ a < base + 64
  · obtain ⟨i, rfl⟩ := Nat.exists_eq_add_of_le hin.1
    have hi : i < 64 := by omega
    rw [Mem.read_writeBytes_inside _ _ _ _ (by rwa [Mem.length_readBytes])]
    simp [Mem.readBytes, List.getD_eq_getElem?_getD, hi]
  · rw [Mem.read_writeBytes_outside _ _ _ _ (by rw [Mem.length_readBytes]; omega)]
    exact h a (by omega)

/-- Settles O8: `exec_ctlLd` and `exec_ctlSt`; the one line that a store touches is logged whole before it is written. -/
theorem ctlLoadsAndLoggedStores : Obligations.CtlLoadsAndLoggedStores := by
  refine ⟨?_, ?_⟩
  · intro x y d s hl hlen c o h8 hreach
    refine ⟨⟨_, exec_ctlLd hl h8 hreach, State.wroteReg_setSr hlen _ _⟩, fun hw => ?_⟩
    obtain ⟨u, hx, hwrote, -⟩ := exec_ctlSt hl h8 hw
    have hpc : (u.cell x y).pc = c.pc := (congrArg CellSt.pc hwrote.cell).trans rfl
    refine ⟨_, u, hx, hwrote, ?_⟩
    rw [CellSt.next, hpc]
  · intro x y d s hl hundo c o h8 hres hw
    obtain ⟨u, hx, hwrote, hlog⟩ := exec_ctlSt hl h8 hw
    have hun : c.unlogged [o / 64 * 64] = [o / 64 * 64] := by
      have hlt : o / 64 * 64 < c.rbound := by omega
      simp [CellSt.unlogged, show c.undo = [] from hundo, hlt]
    have hlog' : (u.cell x y).undo = [(o / 64 * 64, s.scratch x y (o / 64 * 64) 64)] := by
      rw [hlog, linesOf_word h8, hun, hundo]; rfl
    refine ⟨_, hx, ?_, fun a => ?_⟩
    · rw [State.cell_setCell_same]; exact hlog'
    · rw [State.cell_setCell_same, State.setCell_mem, show (u.cell x y).next.undo = _ from hlog']
      refine read_restored_line (fun b hb => hwrote.memory b ?_) a
      show b < cellBase x y + o ∨ cellBase x y + o + (le 8 _).length ≤ b
      rw [length_le]
      omega

/-! ### END (R98, R99, R126, R197) -/

/-- A cell that has fetched END and is quiet, with every changed tile in order and nothing of a stream left over, ends. -/
theorem State.tryEnd_ends {s : State} {x y : Nat} (hp : (s.cell x y).phase = .endFetched) (hq : (s.cell x y).quiet = true)
    (hck : (s.cell x y).acc.any (fun e => e.2.changed && !e.2.ckOk) = false) (hpost : s.unposted x y = false) :
    s.tryEnd x y = (s.setCell x y { s.cell x y with phase := .ended }).reportVerdict := by
  simp only [State.tryEnd, hp, hq, hck, hpost, and_self, if_true, Bool.false_eq_true, if_false]

/-- A cell that is not quiet does not end. -/
theorem State.tryEnd_of_busy {s : State} {x y : Nat} (hq : (s.cell x y).quiet = false) : s.tryEnd x y = s :=
  if_neg fun h => Bool.false_ne_true (hq.symm.trans h.2)

/-- A module alone has no group to report its verdict to. -/
theorem State.reportVerdict_alone {s : State} (h : s.grouped = false) : s.reportVerdict = s := by
  unfold State.reportVerdict
  simp [h]

/-- What a cell still owes its streams does not depend on its phase. -/
theorem State.unposted_setPhase (s : State) (x y : Nat) (p : CellPhase) :
    (s.setCell x y { s.cell x y with phase := p }).unposted x y = s.unposted x y := by
  unfold State.unposted
  rw [State.cell_setCell_same]
  rfl

theorem ctlEndEffect_running {s : State} {x y : Nat} {r : Regs} {d : Desc} (hp : (s.cell x y).phase = .running) :
    ctlEndEffect x y r d s = .ok ((s.setCell x y { s.cell x y with phase := .endFetched }).tryEnd x y) :=
  if_neg (by simp [hp])

/-- Settles O9: END fetched is the phase alone, and `tryEnd` decides whether it completes. -/
theorem ctlEndWaitsForQuiet : Obligations.CtlEndWaitsForQuiet := by
  intro x y d s hl hp
  have hx := exec_of_effect (i := .ctlEnd x y d) rfl hl (ctlEndEffect_running (d := d) hp)
  set f := s.setCell x y { s.cell x y with phase := .endFetched } with hf
  have hcell : f.cell x y = { s.cell x y with phase := .endFetched } := State.cell_setCell_same ..
  refine ⟨fun hq => ?_, fun hq hck hpost halone => ?_⟩
  · rw [hx, State.tryEnd_of_busy (by rw [hcell]; exact hq)]
  · have hend : f.tryEnd x y = f.setCell x y { f.cell x y with phase := .ended } :=
      (State.tryEnd_ends (by rw [hcell]) (by rw [hcell]; exact hq) (by rw [hcell]; exact hck)
        ((s.unposted_setPhase x y .endFetched).trans hpost)).trans (State.reportVerdict_alone halone)
    refine ⟨_, hx.trans (congrArg _ hend), ?_, rfl, fun k hk => ?_⟩
    · rw [State.cell_setCell_same, hcell]
    · exact (Tab.get?_set_ne _ _ hk).trans (Tab.get?_set_ne _ _ hk)

end Sys2Proof.Machine


/-!
PROOFS. MOV descriptors (R118, R154 to R179): bytes written where no undo log holds them, tensors written whole, and the moves.
-/
namespace Sys2Proof.Machine

/-! ### Writes that need no undo log (R79, R80, R103) -/

/-- `u` is `s` after writes of working bytes: memory, merge tables and output apart, nothing differs, and every cell keeps its RBOUND. -/
def State.wroteFree (s u : State) : Prop :=
  u = { s with mem := u.mem, cells := u.cells, out := u.out } ∧ ∀ x y, (u.cell x y).rbound = (s.cell x y).rbound

namespace State.wroteFree

variable {s t u : State}

theorem refl (s : State) : s.wroteFree s := ⟨rfl, fun _ _ => rfl⟩

theorem trans (h : s.wroteFree t) (h' : t.wroteFree u) : s.wroteFree u := by
  refine ⟨?_, fun x y => (h'.2 x y).trans (h.2 x y)⟩
  have h1 := congrArg (fun v : State => { v with mem := u.mem, cells := u.cells, out := u.out }) h.1
  exact h'.1.trans h1

theorem hbm (h : s.wroteFree u) : u.hbm = s.hbm := (congrArg State.hbm h.1).trans rfl

/-- A byte that may be written stays one. -/
theorem freeByte (h : s.wroteFree u) {a : Nat} (ha : s.freeByte a) : u.freeByte a := by
  obtain ⟨k, hk, hplaced, hreach, hline, hres⟩ := ha
  refine ⟨k, hk, ?_, hreach, ?_, by rwa [h.2]⟩
  · rw [h.1]; exact hplaced
  · rw [h.1]; exact hline

end State.wroteFree

/-- Lines above RBOUND are not logged. -/
theorem State.logLines_working (s : State) (x y : Nat) (c : CellSt) {ls : List Nat} (h : ∀ l ∈ ls, c.rbound ≤ l) :
    s.logLines x y c ls = .ok c := by
  induction ls with
  | nil => rfl
  | cons l ls ih =>
    rw [State.logLines, if_pos (.inl (h l List.mem_cons_self))]
    exact ih fun m hm => h m (List.mem_cons_of_mem _ hm)

/-- Closing merge entries leaves memory and every RBOUND. -/
theorem State.closeMerge_wroteFree (s : State) (x y : Nat) (ls : List Nat) :
    s.wroteFree (s.closeMerge x y ls) ∧ (s.closeMerge x y ls).mem = s.mem := by
  rcases s.closeMerge_frame x y ls with h | ⟨m, o, h⟩
  · rw [h]; exact ⟨.refl s, rfl⟩
  · rw [h]
    refine ⟨⟨rfl, fun x' y' => ?_⟩, rfl⟩
    by_cases hk : cellNo x' y' = cellNo x y
    · have hs : s.cell x' y' = s.cell x y := by unfold State.cell; rw [hk]
      have hc : (s.setCell x y { s.cell x y with merge := m }).cell x' y' = { s.cell x y with merge := m } := by
        unfold State.cell State.setCell; simp only [hk, Tab.getD_set_same]
      exact (congrArg CellSt.rbound hc).trans (congrArg CellSt.rbound hs).symm
    · exact congrArg CellSt.rbound (s.cell_setCell_ne _ hk)

/-- A write of working lines that the cell may write lands, and logs nothing. -/
theorem State.writeCell_working {s : State} {x y o : Nat} {bs : Bytes} (hreach : o + bs.length ≤ reachEnd)
    (hline : ∀ l ∈ linesOf o bs.length, s.writableLine x y l = true ∧ (s.cell x y).rbound ≤ l) :
    ∃ u, s.writeCell x y o bs = .ok u ∧ s.wroteFree u ∧ u.mem = s.mem.writeBytes (cellBase x y + o) bs := by
  obtain ⟨hfree, hmem⟩ := s.closeMerge_wroteFree x y (linesOf o bs.length)
  set m := s.closeMerge x y (linesOf o bs.length) with hm
  have hno : ¬(reachEnd < o + bs.length ∨ (!(linesOf o bs.length).all (fun l => s.writableLine x y l)) = true) := by
    rintro (h | h)
    · omega
    · rw [List.all_eq_true.mpr fun l hl => (hline l hl).1] at h; cases h
  have hlog : m.logLines x y (m.cell x y) (linesOf o bs.length) = .ok (m.cell x y) :=
    State.logLines_working _ _ _ _ fun l hl => by rw [hfree.2]; exact (hline l hl).2
  refine ⟨{ m with mem := s.mem.writeBytes (cellBase x y + o) bs }, ?_, ?_, rfl⟩
  · simp only [State.writeCell, if_neg hno, ← hm, hlog, if_true, hmem]
  · exact hfree.trans ⟨rfl, fun _ _ => rfl⟩

/-! ### Windows of the address map (R152) -/

theorem cellAt_base {a k : Nat} (h : cellAt a = some k) : a = cellBase (k % 48) (k / 48) + a % 0x1000000 := by
  unfold cellAt at h
  split at h
  · next hin =>
    obtain rfl := Option.some.inj h
    simp only [cellBase, cellNo, scratchBase] at hin ⊢
    omega
  · cases h

/-- Consecutive bytes within reach lie in one window. -/
theorem cellAt_consecutive {a k n : Nat} (hk : cellAt a = some k)
    (h : ∀ i < n, ∃ k', cellAt (a + i) = some k' ∧ (a + i) % 0x1000000 < reachEnd) :
    ∀ i < n, cellAt (a + i) = some k ∧ (a + i) % 0x1000000 = a % 0x1000000 + i := by
  intro i
  induction i with
  | zero => exact fun _ => ⟨hk, rfl⟩
  | succ i ih =>
    intro hi
    obtain ⟨hki, hoff⟩ := ih (by omega)
    obtain ⟨_, _, hreach⟩ := h i (by omega)
    obtain ⟨k', hk', -⟩ := h (i + 1) hi
    have hstep : (a + (i + 1)) % 0x1000000 = a % 0x1000000 + (i + 1) := by
      simp only [reachEnd] at hreach; omega
    refine ⟨hk'.trans ?_, hstep⟩
    have h1 := cellAt_base hki
    have h2 := cellAt_base hk'
    simp only [cellBase, cellNo, Nat.div_add_mod'] at h1 h2
    congr 1
    omega

/-- A run of bytes that may be written lands in its cell's scratchpad, and nothing else of memory changes. -/
theorem State.writeDev_free {s : State} {a : Nat} {bs : Bytes} (hne : bs ≠ []) (h : ∀ i < bs.length, s.freeByte (a + i)) :
    ∃ u, s.writeDev a bs = .ok u ∧ s.wroteFree u ∧ u.mem = s.mem.writeBytes a bs := by
  have hpos : 0 < bs.length := List.length_pos_iff.mpr hne
  obtain ⟨k, hk, hplaced, -⟩ := h 0 hpos
  rw [Nat.add_zero] at hk
  have hin := cellAt_consecutive hk fun i hi => by
    obtain ⟨k', hk', -, hreach, -⟩ := h i hi
    exact ⟨k', hk', hreach⟩
  have hfree (i : Nat) (hi : i < bs.length) : a % 0x1000000 + i < reachEnd ∧
      s.writableLine (k % 48) (k / 48) ((a % 0x1000000 + i) / 64 * 64) = true ∧
      (s.cell (k % 48) (k / 48)).rbound ≤ (a % 0x1000000 + i) / 64 * 64 := by
    obtain ⟨hki, hoff⟩ := hin i hi
    obtain ⟨k', hk', -, hreach, hline, hres⟩ := h i hi
    obtain rfl := Option.some.inj (hk'.symm.trans hki)
    rw [hoff] at hreach hline hres
    exact ⟨hreach, hline, hres⟩
  obtain ⟨u, hu, hwf, hmem⟩ := State.writeCell_working (s := s) (x := k % 48) (y := k / 48) (o := a % 0x1000000) (bs := bs)
    (by have := (hfree (bs.length - 1) (by omega)).1; omega) fun l hl => by
      obtain ⟨-, hl64, hlo, hhi⟩ := mem_linesOf.mp hl
      have hi := hfree (max l (a % 0x1000000) - a % 0x1000000) (by omega)
      have he : (a % 0x1000000 + (max l (a % 0x1000000) - a % 0x1000000)) / 64 * 64 = l := by omega
      rw [he] at hi
      exact hi.2
  refine ⟨u, ?_, hwf, by rw [hmem, ← cellAt_base hk]⟩
  rw [State.writeDev, hk]
  exact (if_pos hplaced).trans hu

/-! ### Buffers and their runs -/

/-- The keys of a table rise. -/
def Tab.Rising {α : Type} (t : Tab α) : Prop := t.Pairwise (fun e f => e.1 < f.1)

theorem Tab.mem_set {α : Type} {t : Tab α} {k : Nat} {v : α} {e : Nat × α} (h : e ∈ Tab.set t k v) : e = (k, v) ∨ e ∈ t := by
  induction t with
  | nil => exact .inl (List.mem_singleton.mp h)
  | cons f t ih =>
    simp only [Tab.set] at h
    split at h
    · exact List.mem_cons.mp h
    · split at h
      · exact (List.mem_cons.mp h).imp_right (List.mem_cons_of_mem _)
      · rcases List.mem_cons.mp h with rfl | h
        · exact .inr List.mem_cons_self
        · exact (ih h).imp_right (List.mem_cons_of_mem _)

theorem Tab.Rising.set {α : Type} {t : Tab α} (h : Tab.Rising t) (k : Nat) (v : α) : Tab.Rising (Tab.set t k v) := by
  induction t with
  | nil => exact List.pairwise_singleton ..
  | cons f t ih =>
    obtain ⟨hf, ht⟩ := List.pairwise_cons.mp h
    simp only [Tab.set]
    split
    · next hlt => exact List.pairwise_cons.mpr ⟨fun e he => by
        rcases List.mem_cons.mp he with rfl | he
        · exact hlt
        · exact lt_trans hlt (hf e he), h⟩
    · split
      · next heq => exact List.pairwise_cons.mpr ⟨fun e he => heq ▸ hf e he, ht⟩
      · next hle hne => exact List.pairwise_cons.mpr ⟨fun e he => by
          rcases Tab.mem_set he with rfl | he
          · exact Nat.lt_of_le_of_ne (Nat.not_lt.mp hle) hne
          · exact hf e he, ih ht⟩

/-- A fold whose steps keep keys rising keeps them rising. -/
theorem Tab.Rising.foldl {α β : Type} {f : Tab α → β → Tab α} (hf : ∀ m e, Tab.Rising m → Tab.Rising (f m e)) (l : List β)
    {t : Tab α} (h : Tab.Rising t) : Tab.Rising (l.foldl f t) :=
  foldl_rel (R := fun m m' => Tab.Rising m → Tab.Rising m') (fun _ => id) (fun h h' => h' ∘ h) hf l t h

theorem State.putBits_rising (s : State) {m : Tab Byte} (h : Tab.Rising m) (b w v : Nat) : Tab.Rising (s.putBits m b w v) :=
  h.foldl (fun _ _ hm => hm.set ..) _

/-- A tensor's bytes stand one an address, addresses rising. -/
theorem State.tensorBuf_rising (s : State) (t : TDesc) (es : List (List Nat × Nat × Nat)) : Tab.Rising (s.tensorBuf t es) := by
  refine .foldl (fun m e hm => ?_) _ (.foldl (fun m i hm => ?_) _ (.foldl (fun m i hm => ?_) _ List.Pairwise.nil))
  · dsimp only
    split
    · exact (s.putBits_rising hm ..).set ..
    · exact s.putBits_rising hm ..
  · exact hm.foldl (fun _ _ h => h.set ..) _
  · exact s.putBits_rising hm ..

/-- The runs of a buffer hold its bytes in order, and none is empty. -/
theorem runsOf_cells (buf : Tab Byte) : (runsOf buf).flatMap (fun r => cellsAt r.1 r.2) = buf ∧ ∀ r ∈ runsOf buf, r.2 ≠ [] := by
  induction buf with
  | nil => exact ⟨rfl, nofun⟩
  | cons e buf ih =>
    obtain ⟨a, b⟩ := e
    obtain ⟨hflat, hne⟩ := ih
    rw [runsOf]
    cases hr : runsOf buf with
    | nil =>
      rw [hr] at hflat
      rw [← hflat]
      exact ⟨rfl, by simp⟩
    | cons r rest =>
      rw [hr] at hflat hne
      dsimp only
      split
      · next hnext =>
        refine ⟨?_, fun q hq => ?_⟩
        · rw [← hflat, List.flatMap_cons, List.flatMap_cons, hnext]; rfl
        · rcases List.mem_cons.mp hq with rfl | hq
          · exact List.cons_ne_nil _ _
          · exact hne q (List.mem_cons_of_mem _ hq)
      · refine ⟨?_, fun q hq => ?_⟩
        · rw [List.flatMap_cons, hflat]; rfl
        · rcases List.mem_cons.mp hq with rfl | hq
          · exact List.cons_ne_nil _ _
          · exact hne q hq

theorem mem_cellsAt {a : Nat} {bs : Bytes} {e : Nat × Byte} :
    e ∈ cellsAt a bs ↔ ∃ i, i < bs.length ∧ e = (a + i, bs.getD i 0) := by
  induction bs generalizing a with
  | nil => simp [cellsAt]
  | cons b bs ih =>
    rw [cellsAt, List.mem_cons, ih]
    constructor
    · rintro (rfl | ⟨i, hi, rfl⟩)
      · exact ⟨0, by simp, rfl⟩
      · exact ⟨i + 1, by simpa using hi, by rw [List.getD_cons_succ]; congr 1; omega⟩
    · rintro ⟨i, hi, rfl⟩
      cases i with
      | zero => exact .inl rfl
      | succ i => exact .inr ⟨i, by simpa using hi, by rw [List.getD_cons_succ]; congr 1; omega⟩

/-- A write of bytes puts its cells in memory. -/
theorem State.bufferIn_writeBytes {s u : State} {a : Nat} {bs : Bytes} (h : u.mem = s.mem.writeBytes a bs) :
    s.bufferIn u (cellsAt a bs) := by
  refine ⟨fun e he => ?_, fun b hb => ?_⟩
  · obtain ⟨i, hi, rfl⟩ := mem_cellsAt.mp he
    rw [h]
    exact Mem.read_writeBytes_inside _ _ _ _ hi
  · rw [h]
    refine Mem.read_writeBytes_outside _ _ _ _ ?_
    by_contra hin
    refine hb (b, bs.getD (b - a) 0) (mem_cellsAt.mpr ⟨b - a, by omega, ?_⟩) rfl
    rw [show a + (b - a) = b by omega]

/-- Buffers written one after the other stand together where they have no address in common. -/
theorem State.bufferIn.append {s t u : State} {b b' : Tab Byte} (h : s.bufferIn t b) (h' : t.bufferIn u b')
    (hne : ∀ e ∈ b, ∀ f ∈ b', e.1 ≠ f.1) : s.bufferIn u (b ++ b') := by
  refine ⟨fun e he => ?_, fun a ha => ?_⟩
  · rcases List.mem_append.mp he with he | he
    · rw [h'.2 e.1 fun f hf => (hne e he f hf).symm]; exact h.1 e he
    · exact h'.1 e he
  · rw [h'.2 a fun e he => ha e (List.mem_append_right _ he)]
    exact h.2 a fun e he => ha e (List.mem_append_left _ he)

/-- Runs of bytes that may all be written, no address twice, are written. -/
theorem State.writeRuns_free {s : State} {rs : List (Nat × Bytes)} (hne : ∀ r ∈ rs, r.2 ≠ [])
    (hrise : Tab.Rising (rs.flatMap fun r => cellsAt r.1 r.2)) (hfree : ∀ e ∈ rs.flatMap fun r => cellsAt r.1 r.2, s.freeByte e.1) :
    ∃ u, s.writeRuns rs = .ok u ∧ s.wroteFree u ∧ s.bufferIn u (rs.flatMap fun r => cellsAt r.1 r.2) := by
  induction rs generalizing s with
  | nil => exact ⟨s, rfl, .refl s, nofun, fun _ _ => rfl⟩
  | cons r rs ih =>
    obtain ⟨a, bs⟩ := r
    rw [List.flatMap_cons] at hrise hfree ⊢
    obtain ⟨-, hrest, hlt⟩ := List.pairwise_append.mp hrise
    obtain ⟨t, ht, hst, hmem⟩ := State.writeDev_free (hne (a, bs) List.mem_cons_self)
      fun i hi => hfree (a + i, bs.getD i 0) (List.mem_append_left _ (mem_cellsAt.mpr ⟨i, hi, rfl⟩))
    obtain ⟨u, hu, htu, hin⟩ := ih (s := t) (fun q hq => hne q (List.mem_cons_of_mem _ hq)) hrest
      fun e he => hst.freeByte (hfree e (List.mem_append_right _ he))
    refine ⟨u, ?_, hst.trans htu, (State.bufferIn_writeBytes hmem).append hin fun e he f hf => Nat.ne_of_lt (hlt e he f hf)⟩
    rw [State.writeRuns, ht]
    exact hu

/-- A tensor in working bytes that may be written is written whole. -/
theorem State.writeTensor_free {s : State} {dst : TDesc} {es : List (List Nat × Nat × Nat)}
    (h : ∀ e ∈ s.tensorBuf dst es, s.freeByte e.1) :
    ∃ u, s.writeTensor dst es = .ok u ∧ s.bufferIn u (s.tensorBuf dst es) ∧ u.hbm = s.hbm := by
  obtain ⟨hflat, hne⟩ := runsOf_cells (s.tensorBuf dst es)
  have hruns := State.writeRuns_free (s := s) hne (by rw [hflat]; exact s.tensorBuf_rising dst es) (by rwa [hflat])
  rw [hflat] at hruns
  obtain ⟨u, hu, hwf, hin⟩ := hruns
  exact ⟨u, hu, hin, hwf.hbm⟩

/-! ### The moves -/

section Moves
variable {i : Instr} {s : State} {x y : Nat} {d : Desc} {src dst idx : TDesc} {es : List (List Nat × Nat × Nat)}

/-- A command of a live cell that ends in the write of a tensor moves its elements there. -/
theorem movesTo_of_effect {eff : Effect} {after : State → State} (hx : exec i s = s.cellOp x y d eff) (hl : s.cellLive x y)
    (he : eff x y (s.cell x y).s d s = (s.writeTensor dst es).map after) (hmem : ∀ u, (after u).mem = u.mem)
    (hhbm : ∀ u, (after u).hbm = u.hbm) : s.movesTo i dst es after := by
  have hdone (u : State) (hu : s.writeTensor dst es = .ok u) : exec i s = .next (after u) :=
    exec_of_effect hx hl (by rw [he, hu]; rfl)
  refine ⟨hdone, fun hfree => ?_⟩
  obtain ⟨u, hu, ⟨hin, hout⟩, hh⟩ := State.writeTensor_free hfree
  refine ⟨u, hdone u hu, ⟨fun e he => ?_, fun a ha => ?_⟩, (hhbm u).trans hh⟩
  · rw [hmem]; exact hin e he
  · rw [hmem]; exact hout a ha

/-- What an effect makes at last of the state that a write leaves. -/
theorem Except.bind_ok_eq_map {ε α β : Type} (m : Except ε α) (f : α → β) : (m >>= fun u => .ok (f u)) = m.map f := by
  cases m <;> rfl

/-- What an effect does after a part that succeeds. -/
theorem Except.ok_bind {ε α β : Type} (a : α) (f : α → Except ε β) : ((.ok a : Except ε α) >>= f) = f a := rfl

variable (hsrc : s.readTDesc x y (s.cell x y).s (fld d 183 160) = .ok src)
  (hdst : s.readTDesc x y (s.cell x y).s (fld d 159 136) = .ok dst)
include hsrc hdst

theorem movCopyEffect_ok (hck : s.checkTensors [src, dst] [src] (copyRulesOk src dst permId) = .ok ()) :
    movCopyEffect x y (s.cell x y).s d s = (s.writeTensor dst (s.copyElems src dst permId)).map id := by
  simp only [movCopyEffect, hsrc, hdst, State.copyTensor, hck, Except.ok_bind, Except.map_id]
  rfl

theorem movPermuteEffect_ok (hck : s.checkTensors [src, dst] [src] (copyRulesOk src dst (permOf (fld d 106 95))) = .ok ()) :
    movPermuteEffect x y (s.cell x y).s d s = (s.writeTensor dst (s.copyElems src dst (permOf (fld d 106 95)))).map id := by
  simp only [movPermuteEffect, hsrc, hdst, State.copyTensor, hck, Except.ok_bind, Except.map_id]
  rfl

variable (hidx : s.readTDesc x y (s.cell x y).s (fld d 135 112) = .ok idx)
include hidx

theorem State.readIndexed_ok : s.readIndexed x y (s.cell x y).s d = .ok (src, dst, idx) := by
  simp only [State.readIndexed, hsrc, hdst, hidx, Except.ok_bind]

variable {axis mode : Nat} {vs : List Int} (haxis : fld d 111 109 = axis) (hmode : fld d 108 107 = mode) (hvs : s.readIndices idx = vs)
include haxis hmode hvs

theorem movGatherEffect_ok
    (hck : s.checkTensors [src, dst, idx] [src, idx] (indexedRulesOk src dst dst idx axis mode) = .ok ()) :
    movGatherEffect x y (s.cell x y).s d s = (s.writeTensor dst ((indices dst.dims).map (fun j =>
      match indexMode mode (vs.getD (j.getD axis 0) 0) (src.dim axis) with
        | some k => (j, s.peekElem src (j.set axis k))
        | none => (j, 0, 0)))).map (fun u => u.countIndices vs mode (src.dim axis)) := by
  subst haxis hmode hvs
  simp only [movGatherEffect, State.readIndexed_ok hsrc hdst hidx, hck, Except.ok_bind]
  exact Except.bind_ok_eq_map ..

theorem movScatterEffect_ok
    (hck : s.checkTensors [src, dst, idx] [src, idx] (indexedRulesOk src dst src idx axis mode) = .ok ()) :
    movScatterEffect x y (s.cell x y).s d s = (s.writeTensor dst (s.scatterElems src vs axis mode (dst.dim axis))).map
      (fun u => u.countIndices vs mode (dst.dim axis)) := by
  subst haxis hmode hvs
  simp only [movScatterEffect, State.readIndexed_ok hsrc hdst hidx, hck, Except.ok_bind]
  exact Except.bind_ok_eq_map ..

/-- SCATTER_ADD writes one sum to each index that a contribution reaches. -/
theorem movScatterAddEffect_ok {cs : List (List Nat × Nat × Nat)} {js : List (List Nat)} {sum : List Nat → Nat × Bool × Bool}
    (hcs : s.scatterElems src vs axis mode (dst.dim axis) = cs)
    (hjs : (indices dst.dims).filter (fun j => cs.any (fun e => e.1 == j)) = js)
    (hsum : (fun j => scatterSum src.fmt ((s.peekElem dst j).1 :: (cs.filter (fun e => e.1 == j)).map (fun e => e.2.1))) = sum)
    (hck : s.checkTensors [src, dst, idx] [src, dst, idx]
      (indexedRulesOk src dst src idx axis mode && [9, 10, 11].contains src.fmt) = .ok ()) :
    movScatterAddEffect x y (s.cell x y).s d s = (s.writeTensor dst (js.map (fun j => (j, (sum j).1, 0)))).map
      (fun u => (u.countIndices vs mode (dst.dim axis)).countRow (inexact := if js.any (fun j => (sum j).2.1) then 1 else 0)
        (clamps := (js.filter (fun j => (sum j).2.2)).length)) := by
  subst haxis hmode hvs hcs hjs hsum
  simp only [movScatterAddEffect, State.readIndexed_ok hsrc hdst hidx, hck, Except.ok_bind, List.map_map, List.any_map,
    List.filter_map, List.length_map]
  exact Except.bind_ok_eq_map ..

end Moves

/-! ### RESHARD (R176 to R179) -/

/-- The cell has run its part of the plan from table `a` to table `b`. -/
def State.ranReshard (u : State) (x y a b : Nat) : State :=
  u.setCell x y { u.cell x y with resharded := (a, b) :: (u.cell x y).resharded }

section Reshard
variable {s : State} {x y a b : Nat} {d : Desc} {r : Regs} {p : Pattern} {src dst : MapTable} (hp : s.runPattern = some p)
  (ha : fld d 94 83 = a) (hb : fld d 82 71 = b) (hsrc : findMap p.mapTab a = some src) (hdst : findMap p.mapTab b = some dst)
  (hplan : hasPlan p.mapTab a b = true)
include hp ha hb hsrc hdst hplan

theorem movReshardEffect_unwritable (h : dst.unwritable = true) : movReshardEffect x y r d s = .error (.fault .tensor) := by
  subst ha hb
  simp only [movReshardEffect, State.reshardCell, hp, hsrc, hdst, hplan, h, Bool.not_true, Bool.false_eq_true, if_false, if_true]

/-- A cell's part of a plan is what its place in the source rectangle gives it. -/
theorem movReshardEffect_ok (h : dst.unwritable = false) :
    movReshardEffect x y r d s = (match src.qOf x y with
      | some q => s.reshardFrom src dst q
      | none => .ok s).map (fun u : State => u.ranReshard x y a b) := by
  subst ha hb
  simp only [movReshardEffect, State.reshardCell, hp, hsrc, hdst, hplan, h, Bool.not_true, Bool.false_eq_true, if_false]
  cases src.qOf x y with
  | none => rfl
  | some q => dsimp only; cases s.reshardFrom src dst q <;> rfl

end Reshard

/-- Toward a rectangle of one cell a part is one write, when it has elements. -/
theorem State.reshardFrom_one {s : State} {src dst : MapTable} {q : Nat} {es : List (List Nat × Nat × Nat)} (h1 : dst.cells = 1)
    (hes : (dst.shardDesc 0).standing (s.shardElems src dst q 0) = es) (hne : es ≠ []) :
    s.reshardFrom src dst q = s.writeTensor (dst.shardDesc 0) es := by
  have hempty : es.isEmpty = false := by simpa using hne
  simp only [State.reshardFrom, h1, List.range_one, List.foldlM_cons, List.foldlM_nil, hes, hempty, Bool.false_eq_true, if_false]
  cases s.writeTensor (dst.shardDesc 0) es <;> rfl

/-! ### The obligation -/

/-- What an indexed move counts (R174). -/
theorem State.countIndices_counts (s : State) (vs : List Int) (mode n : Nat) : s.indexCounts (s.countIndices vs mode n) vs mode n := rfl

/-- Settles O18: each move is the write of its elements (`movesTo_of_effect`), and a tensor in free bytes is written whole. -/
theorem movMovesElements : Obligations.MovMovesElements := by
  refine ⟨⟨?_, ?_⟩, ?_, ?_⟩
  · intro x y d s src dst hl hsrc hdst
    exact ⟨fun hck => movesTo_of_effect (i := .movCopy x y d) rfl hl (movCopyEffect_ok hsrc hdst hck) (fun _ => rfl) fun _ => rfl,
      fun hck => movesTo_of_effect (i := .movPermute x y d) rfl hl (movPermuteEffect_ok hsrc hdst hck) (fun _ => rfl) fun _ => rfl⟩
  · intro x y d s p src dst hl hp hsrc hdst hplan done
    have hx : exec (.movReshard x y d) s = s.cellOp x y d movReshardEffect := rfl
    refine ⟨fun hun => ?_, fun hok hq => ?_, fun q hok hq => ⟨fun u hu => ?_, fun es hes h1 hne => ?_⟩⟩
    · obtain ⟨t, ht, hphase, -, hfault, -, hmem, -⟩ :=
        exec_of_fault hx hl (movReshardEffect_unwritable hp rfl rfl hsrc hdst hplan hun)
      exact ⟨t, ht, hphase, hfault, hmem⟩
    · exact exec_of_effect hx hl (by rw [movReshardEffect_ok hp rfl rfl hsrc hdst hplan hok, hq]; rfl)
    · exact exec_of_effect hx hl (by rw [movReshardEffect_ok hp rfl rfl hsrc hdst hplan hok, hq]; dsimp only; rw [hu]; rfl)
    · refine movesTo_of_effect hx hl ?_ (fun _ => rfl) fun _ => rfl
      rw [movReshardEffect_ok hp rfl rfl hsrc hdst hplan hok, hq]
      dsimp only
      rw [State.reshardFrom_one h1 hes.symm hne]
      rfl
  · intro x y d s src dst idx hl axis mode vs hsrc hdst hidx
    refine ⟨fun hck => ?_, fun hck => ?_, fun n => s.countIndices_counts vs mode n⟩
    · exact movesTo_of_effect (i := .movGather x y d) rfl hl (movGatherEffect_ok hsrc hdst hidx rfl rfl rfl hck)
        (fun _ => rfl) fun _ => rfl
    · exact movesTo_of_effect (i := .movScatter x y d) rfl hl (movScatterEffect_ok hsrc hdst hidx rfl rfl rfl hck)
        (fun _ => rfl) fun _ => rfl
  · intro x y d s src dst idx hl axis mode vs cs js sum hsrc hdst hidx hck
    exact movesTo_of_effect (i := .movScatterAdd x y d) rfl hl
      (movScatterAddEffect_ok hsrc hdst hidx rfl rfl rfl rfl rfl rfl hck) (fun _ => rfl) fun _ => rfl

end Sys2Proof.Machine


/-!
PROOFS. CHK and SMP descriptors (R120, R123, R187 to R191, R237, R238): the record of a tile, what a difference does to the row, and
the token of a session.
-/
namespace Sys2Proof.Machine

/-! ### Failed checks of a running row (R181, R197) -/

/-- A command of a live cell whose effect ends in a failed check fails the running row, but for a waste-yarn row, and names the cell;
memory stands. A storage error (0x21) is counted besides. -/
theorem exec_of_alarm {i : Instr} {s : State} {x y cause addr : Nat} {d : Desc} {eff : Effect} {us : List Suspect}
    (hx : exec i s = s.cellOp x y d eff) (hl : s.cellLive x y) (he : eff x y (s.cell x y).s d s = .error (.alarm cause us addr))
    (hcause : cause ≠ 0x21) (hw : s.row.waste = false) :
    ∃ t a, exec i s = .next t ∧ t.row.phase = .aborted ∧ t.row.alarm = some a ∧ a.cause = cause ∧ (a.x, a.y) = (x, y) ∧
      t.mem = s.mem := by
  have hruns : s.row.phase = .running := eq_of_beq (Bool.and_eq_true_iff.mp hl.2.2).1
  let a : Alarm := { cause := cause, x := x, y := y, suspects := us, addr := addr }
  have hstop : s.stop x y (.alarm cause us addr) = s.failRow a := by
    rw [← s.raise_running a false hruns hw]
    simp only [State.stop, hcause, false_and, if_false]
    rfl
  obtain ⟨⟨hphase, -, halarm, -, -, -, hmem, -⟩, -⟩ := s.failRow_rowTouched a
  refine ⟨s.failRow a, a, ?_, hphase, halarm, rfl, rfl, hmem⟩
  rw [hx, State.cellOp_live hl, he, ← hstop]
  rfl

/-! ### The record of a tile (R187, R189, R191) -/

section Record
variable {s : State} {x y ot : Nat} {d : Desc}

theorem State.chkRecord_operand (hk : chkKind d ≠ 2)
    (ho : s.operandAt x y (fld d 183 160) (cdiv (operandBytes d) 64 * 64 + scaleBytes d) ot) :
    s.chkRecord x y (s.cell x y).s d = .ok (operandRecord d x y (s.scratch x y ot (operandBytes d))
      (s.scratch x y (ot + cdiv (operandBytes d) 64 * 64) (scaleBytes d))) := by
  have hnext := le_nextLine (operandBytes d)
  obtain ⟨hspa, hreach⟩ := ho
  have hcodes := s.readCell_ok (x := x) (y := y) (o := ot) (n := operandBytes d) (by omega)
  have hscales := s.readCell_ok (x := x) (y := y) (o := ot + cdiv (operandBytes d) 64 * 64) (n := scaleBytes d) (by omega)
  simp only [State.chkRecord, if_neg hk, hspa, hcodes, hscales, Except.ok_bind]

theorem State.chkRecord_exact (hk : chkKind d = 2) (hp : chkPacked d = false) (ho : s.operandAt x y (fld d 183 160) 16576 ot) :
    s.chkRecord x y (s.cell x y).s d = .ok ((exactTile (s.scratch x y ot 16576)).exactRecord x y) := by
  simp only [State.chkRecord, hk, hp, exactLen, State.readSpa_ok ho, Except.ok_bind, if_true, Bool.false_eq_true, if_false]

theorem State.chkRecord_packed (hk : chkKind d = 2) (hp : chkPacked d = true)
    (ho : s.operandAt x y (fld d 183 160) (chkRows d * 128) ot) :
    s.chkRecord x y (s.cell x y).s d = .ok (packedRecord (unpack 32 (chkRows d * 32) (s.scratch x y ot (chkRows d * 128)))
      (chkRows d - 1) (chkCols d - 1) x y) := by
  simp only [State.chkRecord, State.packedTile, hk, hp, State.readSpa_ok ho, Except.ok_bind, if_true]

/-- INSERT writes the record that the tile has. -/
theorem exec_chkInsert {oc : Nat} {b : Bytes} (hl : s.cellLive x y) (hok : chkOk d = true)
    (hb : s.chkRecord x y (s.cell x y).s d = .ok b) (hd : s.operandAt x y (fld d 159 136) 0 oc) (hw : s.canWrite x y oc b.length) :
    ∃ t, exec (.chkInsert x y d) s = .next t ∧ s.cellWrote t x y oc b ∧ t.row = s.row := by
  refine exec_of_written (i := .chkInsert x y d) (eff := chkInsertEffect) rfl hl ?_
  simp only [chkInsertEffect, hok, Bool.not_true, Bool.false_eq_true, if_false, hb, Except.ok_bind]
  exact State.writeSpa_ok hd hw

end Record

/-! ### VERIFY (R188, R190) -/

section Verify
variable {s : State} {x y ot oc : Nat} {d : Desc} {same : Bool}

/-- A VERIFY looks at the checksum register of the tile whose drained copy it names, if it names one. -/
theorem State.copyFails_eq (ho : s.operandAt x y (fld d 183 160) 0 ot) :
    s.copyFails x y (s.cell x y).s d = .ok (decide (chkKind d = 2) &&
      (Tab.get? (s.cell x y).copies ot).any (fun k => !((s.cell x y).tile k).ckOk)) := by
  unfold State.copyFails
  by_cases hk : chkKind d = 2
  · simp only [hk, if_true, ho.1, decide_true, Bool.true_and]
    cases Tab.get? (s.cell x y).copies ot <;> rfl
  · simp only [hk, if_false, decide_false, Bool.false_and]

/-- What VERIFY comes to: the copy's failure first, then agreement, then a difference. -/
theorem chkVerifyEffect_eq (hok : chkOk d = true) (hot : s.operandAt x y (fld d 183 160) 0 ot)
    (hoc : s.operandAt x y (fld d 159 136) (chkRecordLen d) oc)
    (hsame : s.chkAgrees x y (s.cell x y).s d (s.scratch x y oc (chkRecordLen d)) = .ok same) :
    ∃ us, chkVerifyEffect x y (s.cell x y).s d s =
      if (decide (chkKind d = 2) && (Tab.get? (s.cell x y).copies ot).any (fun k => !((s.cell x y).tile k).ckOk)) = true then
        .error (.alarm 0x12 [] 0)
      else if same = true then .ok s else .error (.alarm (if chkKind d = 2 then 0x13 else 0x14) us 0) := by
  simp only [chkVerifyEffect, hok, Bool.not_true, Bool.false_eq_true, if_false, State.readSpa_ok hoc, hsame,
    State.copyFails_eq hot, Except.ok_bind]
  exact ⟨_, rfl⟩

end Verify

/-- Settles O19: INSERT writes `chkRecord`, VERIFY ends as `chkVerifyEffect_eq` says, and a difference fails the row. -/
theorem chkInsertAndVerify : Obligations.ChkInsertAndVerify := by
  refine ⟨?_, ?_⟩
  · intro x y d s ot oc hl hok hoc does
    refine ⟨fun hk hot => ?_, fun hk hp hot => ?_, fun hk hp hot => ?_⟩
    · exact exec_chkInsert hl hok (State.chkRecord_operand hk hot) hoc
    · exact exec_chkInsert hl hok (State.chkRecord_exact hk hp hot) hoc
    · exact exec_chkInsert hl hok (State.chkRecord_packed hk hp hot) hoc
  · intro x y d s ot oc same hl hok hot hoc hsame fails copyAt
    obtain ⟨us, heff⟩ := chkVerifyEffect_eq hok hot hoc hsame
    have hx : exec (.chkVerify x y d) s = s.cellOp x y d chkVerifyEffect := rfl
    refine ⟨fun k hk hcopy hck => ?_, fun hcopies => ?_⟩
    · have hstale : (decide (chkKind d = 2) && copyAt.any (fun k => !((s.cell x y).tile k).ckOk)) = true := by
        simp [hk, hcopy, hck]
      exact exec_of_alarm hx hl (heff.trans (if_pos hstale)) (by decide)
    · have hfresh : ¬(decide (chkKind d = 2) && copyAt.any (fun k => !((s.cell x y).tile k).ckOk)) = true := by
        rw [Bool.and_eq_true, decide_eq_true_eq, Option.any_eq_true]
        rintro ⟨hk, k, hcopy, hck⟩
        rw [hcopies k hk hcopy] at hck
        cases hck
      rw [if_neg hfresh] at heff
      refine ⟨fun h => ?_, fun h => ?_⟩
      · exact exec_of_effect hx hl (heff.trans (if_pos h))
      · exact exec_of_alarm hx hl (heff.trans (if_neg (by simp [h]))) (by split <;> decide)

/-! ### SAMPLE (R123, R237, R238) -/

section Sample
variable {s : State} {x y ol op ot c v : Nat}

/-- The first session's token is written, and its clamps counted. -/
theorem State.sampleOne_first {o : Nat × Nat} (hlogits : ol + v * vBytes c ≤ reachEnd) (hrecord : op + 32 ≤ reachEnd)
    (hw : s.canWrite x y ot 4)
    (ho : sampleToken c (unpack (fmtWidth c) v (s.scratch x y ol (v * vBytes c))) (s.scratch x y op 32) = o) :
    ∃ t, s.sampleOne x y ol op ot c v 0 = .ok t ∧ s.cellWrote t x y ot (le 4 o.1) ∧ t.row = s.row.counted 0 0 o.2 0 := by
  obtain ⟨t, ht, hwrote, hrow, -⟩ := State.writeCell_ok (bs := le 4 o.1) (by rwa [length_le])
  refine ⟨t.countRow (clamps := o.2), ?_, hwrote.countRow .., by rw [State.countRow_counted, hrow]⟩
  simp only [State.sampleOne, Nat.mul_zero, Nat.zero_mul, Nat.add_zero, s.readCell_ok hlogits, s.readCell_ok hrecord, ho, ht,
    Except.ok_bind]

/-- Sampling one session is sampling the first. -/
theorem State.sampleAll_one : State.sampleAll x y ol op ot c v 1 0 s = s.sampleOne x y ol op ot c v 0 := by
  rw [State.sampleAll]
  cases s.sampleOne x y ol op ot c v 0 <;> rfl

theorem smpSampleEffect_ok {d : Desc} (hc : fld d 78 75 ∈ [9, 10]) (hol : s.operandAt x y (fld d 183 160) 0 ol)
    (hop : s.operandAt x y (fld d 159 136) 0 op) (hot : s.operandAt x y (fld d 135 112) 0 ot) :
    smpSampleEffect x y (s.cell x y).s d s =
      State.sampleAll x y ol op ot (fld d 78 75) (fld d 111 92 + 1) (fld d 91 79 + 1) 0 s := by
  have hfmt : vFloats.contains (fld d 78 75) = true := List.contains_iff_mem.mpr hc
  simp only [smpSampleEffect, hfmt, Bool.not_true, Bool.false_eq_true, if_false, hol.1, hop.1, hot.1, Except.ok_bind]

end Sample

/-- Settles O20: `sampleAll` is the effect, and for one session it is `sampleOne_first`. -/
theorem smpSampleWritesTokens : Obligations.SmpSampleWritesTokens := by
  intro x y d s ol op ot hl c n v hc hol hop hot
  have hx : exec (.smpSample x y d) s = s.cellOp x y d smpSampleEffect := rfl
  have heff := smpSampleEffect_ok hc hol hop hot
  refine ⟨fun u hu => exec_of_effect hx hl (heff.trans hu), fun hn hlogits hrecord hw => ?_⟩
  intro o
  obtain ⟨t, ht, hdone⟩ := State.sampleOne_first hlogits hrecord hw rfl
  refine ⟨t, exec_of_effect hx hl (heff.trans ?_), hdone⟩
  rw [show fld d 91 79 + 1 = 1 from hn, State.sampleAll_one]
  exact ht

end Sys2Proof.Machine


/-!
PROOFS. Writes to HBM inside a row under the lifeline attribute of their region (R105, R193, R203 to R210), and the update engines'
jobs (R121, R244 to R251).
-/
namespace Sys2Proof.Machine

/-! ### One line (R204, R208) -/

/-- HBM's lifeline state once a row's bytes come to a line, before the line's attribute is looked at: the line is one the row wrote, and
a line that takes all its bytes anew is no longer poisoned. -/
def State.touchedLine (s : State) (r : Region) (line : Nat) (whole : Bool) : HbmSt :=
  { s.hbm.cleared (if r.attr = 2 then s.newCopyAt r line else line) (whole || (r.attr == 2 && !s.hbm.written.contains line)) with
    rowLines := if s.hbm.rowLines.contains line then s.hbm.rowLines else line :: s.hbm.rowLines }

/-- It is as before in the log, the lines written and the selectors. -/
theorem State.touchedLine_frame (s : State) (r : Region) (line : Nat) (whole : Bool) :
    (s.touchedLine r line whole).log = s.hbm.log ∧ (s.touchedLine r line whole).written = s.hbm.written ∧
      (s.touchedLine r line whole).inAlt = s.hbm.inAlt := by
  unfold State.touchedLine HbmSt.cleared
  split <;> exact ⟨rfl, rfl, rfl⟩

/-- What a piece of a write makes of the state in which its line is touched, by the attribute of its region. -/
def State.landLine (s : State) (r : Region) (a : Nat) (d : Bytes) : Except Stop State :=
  let line := a / 64 * 64
  if r.attr = 1 then
    if s.hbm.log.any (fun e => e.1 == line) then .ok { s with mem := s.mem.writeBytes a d }
    else if s.logCapacity (sliceOf line) ≤ s.logCount (sliceOf line) then .error (.fault .hbmLogFull)
    else .ok { s with hbm := { s.hbm with log := (line, s.mem.readBytes line 64) :: s.hbm.log }, mem := s.mem.writeBytes a d }
  else if r.attr = 2 then
    let u : State := if s.hbm.written.contains line then s else { s with
      mem := if d.length == 64 then s.mem else s.mem.writeBytes (s.newCopyAt r line) (s.mem.readBytes (s.committedAt line) 64)
      hbm := { s.hbm with written := line :: s.hbm.written } }
    .ok { u with mem := u.mem.writeBytes (u.newCopyAt r a) d }
  else .ok { s with mem := s.mem.writeBytes a d }

/-- With no line poisoned a piece touches its line, then lands. -/
theorem State.writeHbmLine_eq {s : State} (hpoison : s.hbm.poisoned = []) (r : Region) (a : Nat) (d : Bytes) :
    s.writeHbmLine r a d = ({ s with hbm := s.touchedLine r (a / 64 * 64) (d.length == 64) } : State).landLine r a d := by
  have h : s.writeHbmLine r a d =
      if s.hbm.poisoned.contains (s.rowAt (a / 64 * 64)) && !(d.length == 64) then
        .error (.alarm 0x21 [.slice (sliceOf (a / 64 * 64))] (a / 64 * 64))
      else ({ s with hbm := s.touchedLine r (a / 64 * 64) (d.length == 64) } : State).landLine r a d := rfl
  rw [h, hpoison]
  rfl

/-- Where a new copy stands follows from the selectors. -/
theorem State.newCopyAt_of_inAlt {s u : State} (h : u.hbm.inAlt = s.hbm.inAlt) (r : Region) (a : Nat) :
    u.newCopyAt r a = s.newCopyAt r a := by
  simp only [State.newCopyAt, h]

section Line
variable {s : State} {r : Region} {a : Nat} {d : Bytes} (hpoison : s.hbm.poisoned = [])
include hpoison

/-- The first write of a row to a line of a LOGGED region logs what the line held. -/
theorem State.writeHbmLine_logs (hattr : r.attr = 1) (hnew : s.hbm.log.any (fun e => e.1 == a / 64 * 64) = false)
    (hroom : s.logCount (sliceOf (a / 64 * 64)) < s.logCapacity (sliceOf (a / 64 * 64))) :
    ∃ h, h.log = (a / 64 * 64, s.mem.readBytes (a / 64 * 64) 64) :: s.hbm.log ∧
      s.writeHbmLine r a d = .ok { s with mem := s.mem.writeBytes a d, hbm := h } := by
  obtain ⟨hlog, -, -⟩ := s.touchedLine_frame r (a / 64 * 64) (d.length == 64)
  rw [State.writeHbmLine_eq hpoison, State.landLine]
  generalize s.touchedLine r (a / 64 * 64) (d.length == 64) = k at hlog
  have hcount : ({ s with hbm := k } : State).logCount (sliceOf (a / 64 * 64)) = s.logCount (sliceOf (a / 64 * 64)) := by
    simp only [State.logCount, hlog]
  refine ⟨{ k with log := (a / 64 * 64, s.mem.readBytes (a / 64 * 64) 64) :: k.log }, congrArg _ hlog, ?_⟩
  simp only [hattr, if_true, hlog, hnew, hcount, Bool.false_eq_true, if_false]
  exact if_neg (Nat.not_le.mpr hroom)

/-- A further write to it logs nothing. -/
theorem State.writeHbmLine_logged (hattr : r.attr = 1) (hold : s.hbm.log.any (fun e => e.1 == a / 64 * 64) = true) :
    ∃ h, h.log = s.hbm.log ∧ s.writeHbmLine r a d = .ok { s with mem := s.mem.writeBytes a d, hbm := h } := by
  obtain ⟨hlog, -, -⟩ := s.touchedLine_frame r (a / 64 * 64) (d.length == 64)
  refine ⟨s.touchedLine r (a / 64 * 64) (d.length == 64), hlog, ?_⟩
  rw [State.writeHbmLine_eq hpoison, State.landLine]
  simp only [hattr, if_true, hlog, hold]

/-- A write to a disposable region lands. -/
theorem State.writeHbmLine_disposable (h1 : r.attr ≠ 1) (h2 : r.attr ≠ 2) :
    ∃ h, h.log = s.hbm.log ∧ s.writeHbmLine r a d = .ok { s with mem := s.mem.writeBytes a d, hbm := h } := by
  obtain ⟨hlog, -, -⟩ := s.touchedLine_frame r (a / 64 * 64) (d.length == 64)
  exact ⟨_, hlog, (State.writeHbmLine_eq hpoison r a d).trans ((if_neg h1).trans (if_neg h2))⟩

/-- A write to a VERSIONED region lands in the new copy, which has the rest of the line from the committed copy. -/
theorem State.writeHbmLine_versioned (hattr : r.attr = 2) :
    ∃ h, (h.log = s.hbm.log ∧ a / 64 * 64 ∈ h.written) ∧ s.writeHbmLine r a d = .ok { s with
      mem := (if s.hbm.written.contains (a / 64 * 64) = true ∨ d.length = 64 then s.mem
        else s.mem.writeBytes (s.newCopyAt r (a / 64 * 64)) (s.mem.readBytes (s.committedAt (a / 64 * 64)) 64)).writeBytes
          (s.newCopyAt r a) d
      hbm := h } := by
  obtain ⟨hlog, hwritten, hsel⟩ := s.touchedLine_frame r (a / 64 * 64) (d.length == 64)
  rw [State.writeHbmLine_eq hpoison, State.landLine]
  generalize s.touchedLine r (a / 64 * 64) (d.length == 64) = k at hlog hwritten hsel
  have hcommitted : ({ s with hbm := k } : State).committedAt (a / 64 * 64) = s.committedAt (a / 64 * 64) := by
    simp only [State.committedAt, hsel]; rfl
  have hat (u : State) (b : Nat) (hu : u.hbm.inAlt = k.inAlt) : u.newCopyAt r b = s.newCopyAt r b :=
    State.newCopyAt_of_inAlt (hu.trans hsel) r b
  by_cases hw : s.hbm.written.contains (a / 64 * 64) = true
  · refine ⟨k, ⟨hlog, by rw [hwritten]; exact List.contains_iff_mem.mp hw⟩, ?_⟩
    simp only [hattr, if_neg (by decide : ¬2 = 1), if_true, hwritten, hw, true_or]
    rw [hat _ a rfl]
  · refine ⟨{ k with written := a / 64 * 64 :: k.written }, ⟨hlog, List.mem_cons_self⟩, ?_⟩
    simp only [hattr, if_neg (by decide : ¬2 = 1), if_true, hwritten, hw, Bool.false_eq_true, if_false, false_or, beq_iff_eq]
    rw [hat _ a rfl, hat _ (a / 64 * 64) rfl, hcommitted]

end Line

/-! ### The whole write -/

/-- A write inside one line is one piece. -/
theorem pieces_one {a : Nat} {d : Bytes} (hne : d ≠ []) (hfit : a % 64 + d.length ≤ 64) (n : Nat) : pieces (n + 2) a d = [(a, d)] := by
  have hempty : d.isEmpty = false := by simpa using hne
  have hlen : d.length ≤ 64 - a % 64 := by omega
  simp only [pieces, hempty, Bool.false_eq_true, if_false, List.take_of_length_le hlen, List.drop_of_length_le hlen, List.isEmpty_nil,
    if_true]

/-- With every window disabled a line written goes nowhere else. -/
theorem State.windowWrite_disabled {s : State} (line : Nat) (h : ∀ w < 64, (s.window w).1 = 0) : s.windowWrite line = s := by
  unfold State.windowWrite
  refine List.foldlRecOn (List.range 64) _ (motive := fun u => u = s) rfl fun u hu w hw => ?_
  subst hu
  exact if_neg fun hk => hk.1 (h w (List.mem_range.mp hw))

section Write
variable {s : State} {p : Pattern} {a : Nat} {d : Bytes} (hp : s.runPattern = some p) (hne : d ≠ []) (hfit : a % 64 + d.length ≤ 64)
include hp hne hfit

/-- A write inside one line of a lifeline region is that line's write. -/
theorem State.writeHbm_line {r : Region} {m : Mem} {h : HbmSt} (hok : s.hbmOk a d.length = true)
    (hwindows : ∀ w < 64, (s.window w).1 = 0) (hr : regionAt p.regions a = some r)
    (hw : s.writeHbmLine r a d = .ok { s with mem := m, hbm := h }) : s.writeHbm a d = .ok { s with mem := m, hbm := h } := by
  simp only [State.writeHbm, hp, pieces_one hne hfit, hok, hr, hw, State.writeHbmPieces, List.all_cons, List.all_nil, Option.isSome_some,
    Bool.and_self, Bool.not_true, Bool.false_eq_true, or_self, if_false]
  exact congrArg _ (State.windowWrite_disabled _ hwindows)

/-- A write outside every lifeline region is blocked whole. -/
theorem State.writeHbm_outside (hr : regionAt p.regions a = none) : s.writeHbm a d = .error (.fault .address) := by
  simp only [State.writeHbm, hp, pieces_one hne hfit, hr, List.all_cons, List.all_nil, Option.isSome_none, Bool.false_and,
    Bool.not_false, or_true, if_true]

end Write

/-! ### Who writes (R243, R248) -/

/-- Does the writer's unit exist (R6, R14)? -/
def writerExists : HbmWriter → Bool
  | .cell x y => isCell x y
  | .engine i => decide (i < 48)

/-- A command to an existing writer's unit of a module that is on: the write, when the writer acts. -/
theorem exec_hbmWrite_on {s : State} {w : HbmWriter} (a : Nat) (d : Bytes) (hunit : writerExists w = true) (hon : s.on = true) :
    exec (.hbmWrite w a d) s = .next (if s.writerActs w then
      s.settle (s.writerCell w).1 (s.writerCell w).2 (s.writerWrite w a d) else s) := by
  cases w <;> exact State.unit_on _ _ hunit hon _

/-- A writer of the running row, and the cell that a blocked write is laid to. -/
structure State.writesAs (s : State) (w : HbmWriter) (x y : Nat) : Prop where
  on : s.on = true
  unit : writerExists w = true
  row : s.rowRuns = true
  acts : s.writerActs w = true
  cell : s.writerCell w = (x, y)

theorem State.writesAs_cell {s : State} {x y : Nat} (hl : s.cellLive x y) : s.writesAs (.cell x y) x y :=
  ⟨hl.2.1, hl.1, (Bool.and_eq_true_iff.mp hl.2.2).1, hl.2.2, rfl⟩

theorem State.writesAs_engine {s : State} {i : Nat} {j : JobRun} (hi : i < 48) (hon : s.on = true) (hrow : s.row.phase = .running)
    (hj : (s.engine i).running = some j) : s.writesAs (.engine i) j.job.x j.job.y := by
  have hruns : s.rowRuns = true := by simp [State.rowRuns, hrow]
  exact ⟨hon, decide_eq_true hi, hruns, by simp [State.writerActs, hruns, hj], by simp [State.writerCell, hj]⟩

section Writer
variable {s : State} {w : HbmWriter} {x y a : Nat} {d : Bytes}

theorem exec_hbmWrite (h : s.writesAs w x y) : exec (.hbmWrite w a d) s = .next (s.settle x y (s.writerWrite w a d)) := by
  rw [exec_hbmWrite_on a d h.unit h.on, if_pos h.acts, h.cell]

/-- A blocked write aborts the row. -/
theorem exec_hbmWrite_blocked (h : s.writesAs w x y) (he : s.writerWrite w a d = .error (.fault .address)) :
    ∃ t, exec (.hbmWrite w a d) s = .next t ∧ t.mem = s.mem ∧ t.row.phase = .aborted ∧ t.row.fault = some .address ∧
      t.row.faultAt = (x, y) := by
  obtain ⟨hrow, htouched⟩ := State.raiseFault_rowTouched x y .address h.row
  refine ⟨s.raiseFault x y .address, ?_, htouched.mem, ?_⟩
  · rw [exec_hbmWrite h, he]; rfl
  · rw [hrow]; exact ⟨rfl, rfl, rfl⟩

/-- A write that lands in one line, and what it leaves of HBM's lifeline state. -/
theorem exec_hbmWrite_lands {p : Pattern} {r : Region} {m : Mem} {P : HbmSt → Prop} (h : s.writesAs w x y)
    (heq : s.writerWrite w a d = s.writeHbm a d) (hp : s.runPattern = some p) (hne : d ≠ []) (hfit : a % 64 + d.length ≤ 64)
    (hok : s.hbmOk a d.length = true) (hwindows : ∀ w < 64, (s.window w).1 = 0) (hr : regionAt p.regions a = some r)
    (hw : ∃ k, P k ∧ s.writeHbmLine r a d = .ok { s with mem := m, hbm := k }) :
    ∃ t, exec (.hbmWrite w a d) s = .next t ∧ t.mem = m ∧ P t.hbm ∧ t.row = s.row ∧ t.cells = s.cells := by
  obtain ⟨k, hk, hw⟩ := hw
  refine ⟨{ s with mem := m, hbm := k }, ?_, rfl, hk, rfl, rfl⟩
  rw [exec_hbmWrite h, heq, State.writeHbm_line hp hne hfit hok hwindows hr hw]
  rfl

end Writer

/-- Settles O22: a writer that acts writes as `writeHbm` does, line by line under the region's attribute. -/
theorem hbmWritesUnderTheLifeline : Obligations.HbmWritesUnderTheLifeline := by
  refine ⟨fun w a d s hon hcell hengine => ?_, fun i a d s j hi hon hrow hj hout => ?_, ?_⟩
  · have hidle : s.writerActs w = false := by
      cases w with
      | cell x y => exact (hcell x y rfl).2
      | engine i =>
        rcases (hengine i rfl).2 with h | h
        · simp [State.writerActs, State.rowRuns, h]
        · simp [State.writerActs, h]
    have hunit : writerExists w = true := by
      cases w with
      | cell x y => exact (hcell x y rfl).1
      | engine i => exact decide_eq_true (hengine i rfl).1
    rw [exec_hbmWrite_on a d hunit hon, if_neg (Bool.eq_false_iff.mp hidle)]
  · exact exec_hbmWrite_blocked (State.writesAs_engine hi hon hrow hj) (if_pos hout)
  · intro w x y a d s p hp hwriter hok hne hfit hpoison hwindows line
    obtain ⟨has, heq⟩ : s.writesAs w x y ∧ s.writerWrite w a d = s.writeHbm a d := by
      rcases hwriter with ⟨rfl, hl⟩ | ⟨i, j, rfl, hi, hon, hrow, hj, hxy, hlo, hhi⟩
      · exact ⟨State.writesAs_cell hl, rfl⟩
      · obtain ⟨rfl, rfl⟩ := Prod.mk.inj hxy
        exact ⟨State.writesAs_engine hi hon hrow hj, if_neg (by omega)⟩
    have lands {r : Region} {m : Mem} {P : HbmSt → Prop} (hr : regionAt p.regions a = some r)
        (hw : ∃ k, P k ∧ s.writeHbmLine r a d = .ok { s with mem := m, hbm := k }) :=
      exec_hbmWrite_lands has heq hp hne hfit hok hwindows hr hw
    refine ⟨fun r hr hattr hnew hroom => ?_, fun r hr hattr hold => ?_, fun r hr hattr => ?_, fun r hr h1 h2 => ?_, fun hr => ?_⟩
    · obtain ⟨t, ht, hmem, hlog, hrow, hcells⟩ := lands hr (State.writeHbmLine_logs hpoison hattr hnew hroom)
      exact ⟨t, ht, hmem, hlog, hrow, hcells⟩
    · obtain ⟨t, ht, hmem, hlog, -⟩ := lands hr (State.writeHbmLine_logged hpoison hattr hold)
      exact ⟨t, ht, hmem, hlog⟩
    · obtain ⟨t, ht, hmem, ⟨hlog, hwritten⟩, -⟩ := lands hr (State.writeHbmLine_versioned hpoison hattr)
      exact ⟨t, ht, hmem, hlog, hwritten⟩
    · obtain ⟨t, ht, hmem, hlog, -⟩ := lands hr (State.writeHbmLine_disposable hpoison h1 h2)
      exact ⟨t, ht, hmem, hlog⟩
    · exact exec_hbmWrite_blocked has (heq.trans (State.writeHbm_outside hp hne hfit hr))

/-! ### Update engines (R244 to R251) -/

@[simp] theorem CellSt.jobDone_phase (c : CellSt) (n : Nat) : (c.jobDone n).phase = c.phase := rfl

/-- A job with every rule met joins the queue of its slice. -/
theorem updJobEffect_ok {s : State} {x y i a : Nat} {r : Regs} {d : Desc} (hi : fld d 183 178 = i) (ha : fld d 177 126 = a)
    (hvariant : s.flash.variantG = false) (h64 : a % 64 = 0) (hslice : i < 48) (hlo : i * 0x2000000000 ≤ a)
    (hhi : a + 128 ≤ (i + 1) * 0x2000000000) (hroom : (s.engine i).queue.length < 64) :
    updJobEffect x y r d s = .ok { s.setCell x y { s.cell x y with updSent := (s.cell x y).updSent + 1 } with
      engines := Tab.set s.engines i { s.engine i with
        queue := (s.engine i).queue ++ [{ x := x, y := y, n := (s.cell x y).updSent, addr := a }] } } := by
  subst hi ha
  have hcount : ¬s.engineCount = 0 := by simp [State.engineCount, hvariant]
  have hroom : s.engineRoom (fld d 183 178) = true := decide_eq_true hroom
  simp only [updJobEffect, if_neg hcount, h64, ne_eq, not_true_eq_false, if_false, hroom, Bool.not_true, Bool.false_eq_true]
  exact if_neg (by omega)

/-- The clamps of a job touch the row's counts, what the run remembers of them, and the log. -/
theorem State.countJobClamps_frame (s : State) (i : Nat) (j : JobRun) (r : Rule) :
    (s.countJobClamps i j r).engines = s.engines ∧ (s.countJobClamps i j r).mem = s.mem := by
  have hlog (u : State) : (u.log .updEngine 1 0x2C00 1 0 0 1).engines = u.engines ∧ (u.log .updEngine 1 0x2C00 1 0 0 1).mem = u.mem := by
    obtain ⟨_, _, _, _, h⟩ := u.log_recorded .updEngine 1 0x2C00 1 0 0 1 0
    rw [h]; exact ⟨rfl, rfl⟩
  unfold State.countJobClamps
  dsimp only
  split
  · split
    · split
      · exact ⟨rfl, rfl⟩
      · exact hlog _
    · exact ⟨rfl, rfl⟩
  · exact ⟨rfl, rfl⟩

section Engine
variable {s : State} {i : Nat} (hi : i < 48) (hon : s.on = true) (hrow : s.row.phase = .running)
include hi hon hrow

/-- An idle engine starts its oldest job. -/
theorem exec_updJobStart {j : Job} {rest : List Job} (hq : (s.engine i).queue = j :: rest) (hidle : (s.engine i).running = none) :
    exec (.updJobStart i) s = .next (s.startJob i j rest) := by
  refine (State.unit_on _ _ (decide_eq_true hi) hon _).trans (congrArg _ ?_)
  simp only [hq, hidle, State.rowRuns, hrow, beq_self_eq_true, if_true]

theorem exec_updJobDone {j : JobRun} (hj : (s.engine i).running = some j) : exec (.updJobDone i) s = .next (s.finishJob i j) := by
  refine (State.unit_on _ _ (decide_eq_true hi) hon _).trans (congrArg _ ?_)
  simp only [hj, State.rowRuns, hrow, beq_self_eq_true, if_true]

end Engine

/-- A job whose record is read and breaks no rule runs, with the defaults in force. -/
theorem State.startJob_ok {s : State} {i : Nat} {j : Job} {rest : List Job} {b : Bytes} {r : Rule}
    (hread : s.readHbm j.addr 128 = .ok b) (hfault : jobFault b i = none) (hrule : ruleOf b = some r) :
    (s.startJob i j rest).engine i = { queue := rest, running := some (s.jobRun j b) } ∧ (s.startJob i j rest).mem = s.mem := by
  simp only [State.startJob, hread, hfault, hrule]
  refine ⟨?_, (State.countJobClamps_frame ..).2⟩
  unfold State.engine
  rw [(State.countJobClamps_frame ..).1]
  exact Tab.getD_set_same ..

/-- A job whose elements are written is done: the row counts it, the engine is free, and its cell hears of it. -/
theorem State.finishJob_ok {s u : State} {i : Nat} {j : JobRun} {r : Rule} (hrule : ruleOf j.record = some r)
    (hu : State.updElements j.record r j.asked.clamped (jobCount j.record) 0 s = .ok u)
    (hphase : (u.cell j.job.x j.job.y).phase = .running) :
    s.finishJob i j = ({ u with
      engines := Tab.set u.engines i { u.engine i with running := none }
      row := { u.row with jobs := u.row.jobs + 1 } } : State).setCell j.job.x j.job.y
        ((u.cell j.job.x j.job.y).jobDone j.job.n) := by
  simp only [State.finishJob, hrule, hu]
  refine State.tryEnd_of_running ?_
  rw [State.cell_setCell_same, CellSt.jobDone_phase]
  exact hphase

/-- Settles O23: `updJobEffect_ok`, `startJob_ok` and `finishJob_ok`. -/
theorem updJobsRunInOrder : Obligations.UpdJobsRunInOrder := by
  refine ⟨?_, fun i s j rest b r hi hon hrow hq hidle hread hfault hrule => ?_,
    fun i s u j r hi hon hrow hj hrule hphase hu hcells => ?_⟩
  · intro x y d s hl i a hvariant h64 hslice hlo hhi hroom c
    refine ⟨_, exec_of_effect (i := .updJob x y d) rfl hl (updJobEffect_ok rfl rfl hvariant h64 hslice hlo hhi hroom), ?_, ?_, rfl, rfl⟩
    · exact State.cell_setCell_same ..
    · exact Tab.getD_set_same ..
  · obtain ⟨hengine, hmem⟩ := State.startJob_ok (rest := rest) hread hfault hrule
    exact ⟨_, exec_updJobStart hi hon hrow hq hidle, hengine, hmem⟩
  · have hcell : u.cell j.job.x j.job.y = s.cell j.job.x j.job.y := by simp only [State.cell, hcells]
    refine ⟨_, (exec_updJobDone hi hon hrow hj).trans (congrArg _ (State.finishJob_ok hrule hu (by rw [hcell]; exact hphase))),
      rfl, rfl, ?_, ?_⟩
    · exact congrArg Engine.running (Tab.getD_set_same ..)
    · rw [State.cell_setCell_same, hcell]

end Sys2Proof.Machine


/-!
PROOFS. Barriers inside the module (R119, R144): arrival, and the release of a generation in every member.
-/
namespace Sys2Proof.Machine

@[simp] theorem CellSt.release_phase (c : CellSt) (chan gen : Nat) : (c.release chan gen).phase = c.phase := by
  unfold CellSt.release
  dsimp only
  split <;> rfl

/-- A logical cell by its number. -/
theorem State.cell_number (s : State) (k : Nat) : s.cell (k % 48) (k / 48) = Tab.getD s.cells k {} := by
  rw [State.cell, cellNo, Nat.div_add_mod']

/-- What a release does in one cell. -/
def State.releaseCell (s : State) (chan gen k : Nat) : State :=
  (s.setCell (k % 48) (k / 48) ((s.cell (k % 48) (k / 48)).release chan gen)).tryEnd (k % 48) (k / 48)

/-- In a running cell a release is the cell's own, and the cell does not end. -/
theorem State.releaseCell_running {s : State} {k : Nat} (chan gen : Nat) (h : (Tab.getD s.cells k {}).phase = .running) :
    s.releaseCell chan gen k = { s with cells := Tab.set s.cells k ((Tab.getD s.cells k {}).release chan gen) } := by
  have hno : cellNo (k % 48) (k / 48) = k := Nat.div_add_mod' k 48
  have hend := State.tryEnd_of_running (s := s.setCell (k % 48) (k / 48) ((s.cell (k % 48) (k / 48)).release chan gen))
    (x := k % 48) (y := k / 48) (by rw [State.cell_setCell_same, CellSt.release_phase, State.cell_number, h])
  rw [State.releaseCell, hend, State.setCell, State.cell_number, hno]

/-- A release in each of some running cells leaves every other cell, and the rest of the module. -/
theorem State.releaseCells_running (chan gen : Nat) {ks : List Nat} (hnodup : ks.Nodup) (s : State)
    (h : ∀ k ∈ ks, (Tab.getD s.cells k {}).phase = .running) :
    (ks.foldl (fun s k => s.releaseCell chan gen k) s).mem = s.mem ∧
      ∀ j, Tab.getD (ks.foldl (fun s k => s.releaseCell chan gen k) s).cells j {} =
        if j ∈ ks then (Tab.getD s.cells j {}).release chan gen else Tab.getD s.cells j {} := by
  induction ks generalizing s with
  | nil => exact ⟨rfl, fun _ => rfl⟩
  | cons k ks ih =>
    obtain ⟨hk, hks⟩ := List.nodup_cons.mp hnodup
    have hne {j : Nat} (hj : j ∈ ks) : j ≠ k := fun e => hk (e ▸ hj)
    rw [List.foldl_cons, State.releaseCell_running chan gen (h k List.mem_cons_self)]
    obtain ⟨hmem, hcells⟩ := ih hks { s with cells := Tab.set s.cells k ((Tab.getD s.cells k {}).release chan gen) } fun j hj => by
      rw [Tab.getD_set_ne _ _ _ (hne hj)]
      exact h j (List.mem_cons_of_mem _ hj)
    refine ⟨hmem, fun j => (hcells j).trans ?_⟩
    by_cases hj : j = k
    · subst hj
      rw [if_neg hk, if_pos List.mem_cons_self, Tab.getD_set_same]
    · rw [Tab.getD_set_ne _ _ _ hj]
      simp only [List.mem_cons, hj, false_or]

theorem State.mem_channelCells {s : State} {chan k : Nat} : k ∈ s.channelCells chan ↔ k < 1728 ∧ bit (s.barrierMembers chan) k = true := by
  rw [State.channelCells, List.mem_filter, List.mem_range]

/-- In a running row of a module alone, a generation that every member has reached, with the one before released, is released. -/
theorem exec_barrierRelease {s : State} {chan gen : Nat} (hchan : chan < 32) (hon : s.on = true) (hrow : s.row.phase = .running)
    (halone : s.grouped = false) (hsome : ∃ k, k ∈ s.channelCells chan)
    (hready : ∀ k ∈ s.channelCells chan, gen ≤ Tab.getD (Tab.getD s.cells k {}).arrived chan 0 ∧
      Tab.getD (Tab.getD s.cells k {}).released chan 0 + 1 = gen) :
    exec (.barrierRelease chan gen) s = .next ((s.channelCells chan).foldl (fun s k => s.releaseCell chan gen k) s) := by
  refine (State.unit_on _ _ (decide_eq_true hchan) hon _).trans (congrArg _ ?_)
  have hne : (!(s.channelCells chan).isEmpty) = true := by
    obtain ⟨k, hk⟩ := hsome
    rw [Bool.not_eq_true', List.isEmpty_eq_false_iff]
    exact List.ne_nil_of_mem hk
  have hbefore : (s.channelCells chan).all (fun k => Tab.getD (Tab.getD s.cells k {}).released chan 0 + 1 == gen) = true :=
    List.all_eq_true.mpr fun k hk => beq_iff_eq.mpr (hready k hk).2
  have harrived : s.allArrived chan gen = true := List.all_eq_true.mpr fun k hk => by
    cases hbit : bit (s.barrierMembers chan) k with
    | false => rfl
    | true => exact decide_eq_true (hready k (State.mem_channelCells.mpr ⟨List.mem_range.mp hk, hbit⟩)).1
  have hsystem : s.systemChannel chan = false := by simp [State.systemChannel, halone]
  have hruns : s.rowRuns = true := by simp [State.rowRuns, hrow]
  dsimp only
  rw [if_pos ⟨hruns, hne, hbefore, harrived⟩, hsystem]
  rfl

/-- Settles O26: an arrival is the cell's count, and a release is `releaseCell` in every member. -/
theorem barrierArrivesAndReleases : Obligations.BarrierArrivesAndReleases := by
  refine ⟨fun x y d s hl => ⟨?_, fun hmember => ?_⟩, fun chan gen s hchan hon hrow halone hsome hready => ?_⟩
  · exact exec_of_effect (i := .synWaitmark x y d) (eff := synWaitmarkEffect) rfl hl rfl
  · exact exec_of_effect (i := .synBarrier x y d) (eff := synBarrierEffect) rfl hl (if_neg (by simp [hmember]))
  · have hmem {k : Nat} (hk : k ∈ s.channelCells chan) := State.mem_channelCells.mp hk
    obtain ⟨k, hk, hbit⟩ := hsome
    obtain ⟨hmemory, hcells⟩ := State.releaseCells_running chan gen (List.nodup_range.filter _) s
      fun k (hk : k ∈ s.channelCells chan) => (hready k (hmem hk).1 (hmem hk).2).2.2
    refine ⟨_, exec_barrierRelease hchan hon hrow halone ⟨k, State.mem_channelCells.mpr ⟨hk, hbit⟩⟩ fun k hk => ?_, hmemory,
      fun j hj => (hcells j).trans ?_⟩
    · obtain ⟨harrived, hreleased, -⟩ := hready k (hmem hk).1 (hmem hk).2
      exact ⟨harrived, hreleased⟩
    · rw [← State.channelCells]
      simp only [State.mem_channelCells, hj, true_and]

end Sys2Proof.Machine

/-!
PROOFS. A mark of the grid, where it is not one more on the count: a new row period that takes effect at the mark anchors the grid
there (R86).
-/
namespace Sys2Proof.Machine

/-- A module with a row in progress and a row period of 2,000 µs pending. -/
def pendingPeriod : State :=
  { fe := { fe := .on }, row := { phase := .running }, latched := [{ key := okey 0x2210 1, val := 2000 }] }

/-- The period takes effect at the next mark, and the count of marks begins anew with it (R86, R88). -/
theorem pendingPeriod_mark : pendingPeriod.markFalls.row.mark = 0 := by decide

/-- Refutes O35: an open row passes the mark at which a pending row period takes effect, and MARKNOW is 0 there, not one more. -/
theorem not_marksStartOrSkipRows : ¬ Obligations.MarksStartOrSkipRows := by
  intro h
  obtain ⟨-, hopen, -⟩ := h pendingPeriod rfl
  obtain ⟨t, ht, -, -, -, hmark, -⟩ := hopen (.inl rfl)
  have hx : exec .rowMark pendingPeriod = .next pendingPeriod.markFalls := State.whenOn_on rfl State.markFalls
  obtain rfl : pendingPeriod.markFalls = t := Host.Outcome.next.inj (hx.symm.trans ht)
  exact absurd (pendingPeriod_mark.symm.trans hmark) (by decide)

end Sys2Proof.Machine

/-!
PROOFS. The state commands (R109, R338, R339, R430, R431, R483): a write of COMMAND is refused with one record, or taken; what a taken
command leaves alone is what the device state, SUBSTATE and the waiting RUN and HOLD are not.
-/
namespace Sys2Proof.Machine

/-! ### What only tells of a change -/

/-- `t` is `s` but for the change log, the flags and the status frame that tell of it, MSI-X pending bits, and the answers sent. -/
def State.told (s t : State) : Prop :=
  ∃ l ls sd p o b, t = { s with
    flash := { s.flash with log := l }, start := { s.start with logSince := ls, statusDue := sd }
    host := { s.host with pendingVec := p }, out := o, bar2 := b }

namespace State.told

variable {s t u : State}

theorem refl (s : State) : s.told s := ⟨s.flash.log, s.start.logSince, s.start.statusDue, s.host.pendingVec, s.out, s.bar2, rfl⟩

theorem trans : s.told t → t.told u → s.told u := by
  rintro ⟨_, _, _, _, _, _, rfl⟩ ⟨l, ls, sd, p, o, b, rfl⟩
  exact ⟨l, ls, sd, p, o, b, rfl⟩

end State.told

/-- An interrupt is a message or a pending bit (R389). -/
theorem State.msix_raises (s : State) (v : Nat) :
    ∃ p out, s.msix v = { s with host := { s.host with pendingVec := p }, out := out } := by
  unfold State.msix
  split
  · exact ⟨_, s.out, rfl⟩
  · exact ⟨s.host.pendingVec, _, rfl⟩

theorem State.msix_told (s : State) (v : Nat) : s.told (s.msix v) := by
  obtain ⟨p, out, h⟩ := s.msix_raises v
  exact ⟨s.flash.log, s.start.logSince, s.start.statusDue, p, out, s.bar2, h⟩

/-- A change-log record: the log is one record longer, and vector 64 is raised (R389, R440). -/
theorem State.log_pushes (s : State) (o : Origin) (result idx sub old req app flags : Nat) :
    ∃ r : LogRec, r.origin = originCode o ∧ r.result = result ∧ r.idx = idx ∧ r.sub = sub ∧ ∃ p out,
      s.log o result idx sub old req app flags = { s with
        flash := { s.flash with log := s.flash.log.push r }, start := { s.start with logSince := true }
        host := { s.host with pendingVec := p }, out := out } := by
  refine ⟨{ seq := 0, devtime := s.now, row := s.logRow, origin := originCode o, result := result, idx := idx, sub := sub,
            flags := flags, old := old, req := req, app := app }, rfl, rfl, rfl, rfl, ?_⟩
  exact State.msix_raises _ 64

theorem State.log_told (s : State) (o : Origin) (result idx sub old req app flags : Nat) :
    s.told (s.log o result idx sub old req app flags) := by
  obtain ⟨r, -, -, -, -, p, out, h⟩ := s.log_pushes o result idx sub old req app flags
  exact ⟨s.flash.log.push r, true, s.start.statusDue, p, out, s.bar2, h⟩

theorem State.dueStatus_told (s : State) : s.told s.dueStatus :=
  ⟨s.flash.log, s.start.logSince, _, s.host.pendingVec, s.out, s.bar2, rfl⟩

/-- The answer to a write goes out and changes nothing else (R414). -/
theorem State.answerWrite_sends (a : Answer) (s : State) (w : Write) :
    ∃ out b, State.answerWrite (a, s) w = { s with out := out, bar2 := b } := by
  unfold State.answerWrite
  split
  · exact ⟨s.out, s.bar2, rfl⟩
  · split
    · exact ⟨_, s.bar2, rfl⟩
    · exact ⟨s.out, _, rfl⟩
    · exact ⟨_, s.bar2, rfl⟩
    · exact ⟨s.out, s.bar2, rfl⟩

theorem State.answerWrite_told (a : Answer) (s : State) (w : Write) : s.told (State.answerWrite (a, s) w) := by
  obtain ⟨out, b, h⟩ := State.answerWrite_sends a s w
  exact ⟨s.flash.log, s.start.logSince, s.start.statusDue, s.host.pendingVec, out, b, h⟩

/-! ### Refused -/

/-- The answer to a refused write is its abort code. -/
theorem State.answerWrite_aborts (s : State) (w : Write) {abort : Nat} (ha : abort ≠ 0) :
    (State.answerWrite ({ abort := abort }, s) w).answered w.o abort := by
  obtain ⟨o, idx, sub, off, data⟩ := w
  cases o with
  | can => exact ⟨fun _ => ⟨_, rfl⟩, nofun, nofun⟩
  | cxl => exact ⟨nofun, fun _ => ⟨rfl, rfl, if_neg ha⟩, nofun⟩
  | usb => exact ⟨nofun, nofun, fun _ => ⟨s.out, by simp [State.answerWrite, consoleWritten, ha, State.emit]⟩⟩
  | _ => exact ⟨nofun, nofun, nofun⟩

/-- A refused write: one record, and the abort code to the origin (R428, R440). -/
theorem State.refuseWrite_answered (s : State) (w : Write) {abort : Nat} (ha : abort ≠ 0) :
    s.oneRecord (State.answerWrite (s.refuseWrite w abort) w) w.o (refusalResult abort) w.idx w.sub ∧
      (State.answerWrite (s.refuseWrite w abort) w).answered w.o abort := by
  refine ⟨?_, State.answerWrite_aborts _ w ha⟩
  obtain ⟨r, ho, hr, hi, hj, p, out, hlog⟩ := s.log_pushes w.o (refusalResult abort) w.idx w.sub (s.loggedOld w).1 w.logged.1
    (s.loggedOld w).1 ((s.loggedOld w).2 ||| w.logged.2)
  obtain ⟨out', b, hsent⟩ := State.answerWrite_sends { abort := abort } (s.refuseWrite w abort).2 w
  have h : State.answerWrite (s.refuseWrite w abort) w =
      { s with
        flash := { s.flash with log := s.flash.log.push r }, start := { s.start with logSince := true }
        host := { s.host with pendingVec := p }, out := out', bar2 := b } := by
    refine hsent.trans ?_
    rw [show (s.refuseWrite w abort).2 = _ from hlog]
  rw [h]
  exact ⟨r, ho, hr, hi, hj, rfl, rfl⟩

/-! ### A write of COMMAND -/

/-- COMMAND is an entry that can be written (R430). -/
theorem command_writable : (Objects.find 0x2201 1).any (fun e => e.acc != .ro) = true := by decide +kernel

/-- Every origin that makes accesses may write COMMAND; which command it may give, `mayCommand` says (R435). -/
theorem State.mayWrite_command (s : State) {o : Origin} (ho : accessOrigin o = true) : s.mayWrite o 0x2201 1 = true := by
  unfold State.mayWrite
  split
  · decide
  · cases o with
    | can => contradiction
    | cxl => decide
    | usb => decide
    | panel => decide
    | _ => contradiction

/-- A command code that is tried meets the rules of COMMAND alone. -/
theorem State.write_command {s : State} {o : Origin} (code : Nat) (h : s.mayTry o 0x2201 1) :
    s.write (commandWrite o code) = s.command (commandWrite o code) := by
  obtain ⟨hans, hlog, hrec, habs, hkeys⟩ := h
  obtain ⟨e, he, hacc⟩ := Option.any_eq_true _ _ |>.mp command_writable
  have hoff : s.keyOff (commandWrite o code) = false := by
    rcases hkeys with rfl | rfl | ⟨rfl, hk⟩ | ⟨rfl, hk⟩
    · rfl
    · rfl
    · simp [State.keyOff, commandWrite, hk]
    · simp [State.keyOff, commandWrite, hk]
  have horigin : accessOrigin o = true := by
    rcases hkeys with rfl | rfl | ⟨rfl, -⟩ | ⟨rfl, -⟩ <;> rfl
  have hro : e.acc ≠ .ro := by simpa using hacc
  rw [State.write, if_neg (by simp [commandWrite, hans]), if_neg (by omega)]
  simp only [commandWrite] at hoff ⊢
  rw [he]
  simp [State.writeAt, hoff, State.recoveryRefuses, hrec, habs, hro, s.mayWrite_command horigin]

/-- The module with a command accepted and logged. -/
def State.commandNoted (s : State) (o : Origin) (code : Nat) : State :=
  (s.setOb 0x2201 2 (code : Nat)).logWrite (commandWrite o code) 0 (0, 0) (code, 0)

/-- The module as a tried command leaves it. -/
def State.commandDone (s : State) (o : Origin) (code : Nat) : State :=
  State.answerWrite (s.command (commandWrite o code)) (commandWrite o code)

section
variable {s : State} {o : Origin} {code : Nat}

theorem ofLe_command (hc : code ≤ 5) : ofLe (commandWrite o code).data = code := by
  rw [commandWrite, ofLe_le, Nat.mod_eq_of_lt (by omega)]

theorem State.writes_command (h : s.mayTry o 0x2201 1) :
    s.writes (commandWrite o code) = .next (s.commandDone o code) := by
  have hon : s.on = true := by
    have hans : s.answersAt o 0x2201 1 = true := h.1
    simp only [State.answersAt, State.answers, Bool.and_eq_true] at hans
    exact hans.1.1.2
  rw [State.writes, State.whenOn_on hon, State.writeFrom, State.write_command code h, State.commandDone]

/-- A command that the origin may not give. -/
theorem State.command_origin (hc : code ≤ 5) (h : s.mayCommand o code = false) :
    s.command (commandWrite o code) = s.refuseWrite (commandWrite o code) abOrigin := by
  simp only [State.command, ofLe_command hc]
  exact if_pos (by simp [commandWrite, h])

/-- A command that the present state does not accept. -/
theorem State.command_state (h1 : 1 ≤ code) (h5 : code ≤ 5) (hmay : s.mayCommand o code = true) (h : s.commandOk code = false) :
    s.command (commandWrite o code) = s.refuseWrite (commandWrite o code) abState := by
  simp only [State.command, ofLe_command h5]
  rw [if_neg (by simp [commandWrite, hmay]), if_neg (by simp [commandWrite]), if_neg (by omega), if_pos (by simp [h])]

/-- A command that is accepted. -/
theorem State.command_taken (h1 : 1 ≤ code) (h5 : code ≤ 5) (hmay : s.mayCommand o code = true) (h : s.commandOk code = true) :
    ((s.commandNoted o code).takeCommand code).told (s.commandDone o code) := by
  simp only [State.commandDone, State.command, ofLe_command h5]
  rw [if_neg (by simp [commandWrite, hmay]), if_neg (by simp [commandWrite]), if_neg (by omega), if_neg (by simp [h])]
  exact State.answerWrite_told ..

theorem State.commandNoted_told : (s.setOb 0x2201 2 (code : Nat)).told (s.commandNoted o code) := State.log_told ..

end

/-- The refusals of one command. -/
theorem State.command_refused {s : State} {o : Origin} {i : Instr} {code : Nat} (htry : s.mayTry o 0x2201 1) (h1 : 1 ≤ code)
    (h5 : code ≤ 5) (hx : exec i s = s.writes (commandWrite o code)) :
    (s.mayCommand o code = false → s.refuses i o 0x2201 1 abOrigin) ∧
      (s.mayCommand o code = true → s.commandOk code = false → s.refuses i o 0x2201 1 abState) := by
  rw [State.writes_command htry] at hx
  refine ⟨fun hmay => ⟨_, hx, ?_⟩, fun hmay hok => ⟨_, hx, ?_⟩⟩
  · rw [State.commandDone, State.command_origin h5 hmay]
    exact s.refuseWrite_answered (commandWrite o code) (by decide)
  · rw [State.commandDone, State.command_state h1 h5 hmay hok]
    exact s.refuseWrite_answered (commandWrite o code) (by decide)

/-! ### Taken -/

/-- `t` is `s` in another device state or SUBSTATE, with a pulse set dropped (R275), and what tells of it. -/
def State.stateMoved (s t : State) : Prop :=
  ∃ d tm ob, State.told { s with dev := d, time := tm, obj := ob } t ∧
    ∀ k, k ≠ okey 0x2200 2 → k ≠ okey 0x2100 7 → Tab.get? ob k = Tab.get? s.obj k

namespace State.stateMoved

variable {s t u : State}

theorem refl (s : State) : s.stateMoved s := ⟨s.dev, s.time, s.obj, .refl s, fun _ _ _ => rfl⟩

theorem trans : s.stateMoved t → t.stateMoved u → s.stateMoved u := by
  rintro ⟨_, _, _, ⟨_, _, _, _, _, _, rfl⟩, h⟩ ⟨d, tm, ob, ⟨l, ls, sd, p, o, b, rfl⟩, h'⟩
  exact ⟨d, tm, ob, ⟨l, ls, sd, p, o, b, rfl⟩, fun k hk hk' => (h' k hk hk').trans (h k hk hk')⟩

theorem of_told (h : s.told t) : s.stateMoved t := ⟨s.dev, s.time, s.obj, h, fun _ _ _ => rfl⟩

theorem mem (h : s.stateMoved t) : t.mem = s.mem := by obtain ⟨_, _, _, ⟨_, _, _, _, _, _, rfl⟩, -⟩ := h; rfl
theorem cells (h : s.stateMoved t) : t.cells = s.cells := by obtain ⟨_, _, _, ⟨_, _, _, _, _, _, rfl⟩, -⟩ := h; rfl
theorem pats (h : s.stateMoved t) : t.pats = s.pats := by obtain ⟨_, _, _, ⟨_, _, _, _, _, _, rfl⟩, -⟩ := h; rfl
theorem row (h : s.stateMoved t) : t.row = s.row := by obtain ⟨_, _, _, ⟨_, _, _, _, _, _, rfl⟩, -⟩ := h; rfl
theorem power (h : s.stateMoved t) : t.power = s.power := by obtain ⟨_, _, _, ⟨_, _, _, _, _, _, rfl⟩, -⟩ := h; rfl
theorem runPend (h : s.stateMoved t) : t.start.runPend = s.start.runPend := by obtain ⟨_, _, _, ⟨_, _, _, _, _, _, rfl⟩, -⟩ := h; rfl
theorem holdPend (h : s.stateMoved t) : t.start.holdPend = s.start.holdPend := by obtain ⟨_, _, _, ⟨_, _, _, _, _, _, rfl⟩, -⟩ := h; rfl

/-- The other entries read as before. -/
theorem nat (h : s.stateMoved t) {i j : Nat} (hi : okey i j ≠ okey 0x2200 2) (hj : okey i j ≠ okey 0x2100 7) :
    t.nat i j = s.nat i j := by
  obtain ⟨_, _, _, ⟨_, _, _, _, _, _, rfl⟩, h⟩ := h
  simp [State.nat, State.ob, h _ hi hj]

end State.stateMoved

theorem State.told.dev {s t : State} (h : s.told t) : t.dev = s.dev := by obtain ⟨_, _, _, _, _, _, rfl⟩ := h; rfl

theorem State.told.obj {s t : State} (h : s.told t) : t.obj = s.obj := by obtain ⟨_, _, _, _, _, _, rfl⟩ := h; rfl

theorem State.told.nat {s t : State} (h : s.told t) (i j : Nat) : t.nat i j = s.nat i j := State.nat_of_obj_eq h.obj i j

/-- What tells of a change is neither the front end, memory, the run, nor the rest of flash. -/
theorem State.told.kept {s t : State} (h : s.told t) :
    t.fe = s.fe ∧ t.mem = s.mem ∧ t.run = s.run ∧ t.hostMem = s.hostMem ∧ t.flash.active = s.flash.active ∧
      t.flash.defects = s.flash.defects := by
  obtain ⟨_, _, _, _, _, _, rfl⟩ := h
  exact ⟨rfl, rfl, rfl, rfl, rfl, rfl⟩

theorem State.dropPps_moved (s : State) : s.stateMoved s.dropPps ∧ s.dropPps.dev = s.dev ∧
    s.dropPps.nat 0x2200 2 = s.nat 0x2200 2 := by
  unfold State.dropPps
  split
  · let v := s.nat 0x2100 7
    have h := State.log_told { s with time := { s.time with ppsPending := false } } .module 11 0x2100 7 v v 0 0
    have hmoved := h
    obtain ⟨l, ls, sd, p, o, b, he⟩ := h
    refine ⟨⟨s.dev, { s.time with ppsPending := false }, Tab.set s.obj (okey 0x2100 7) 0, ⟨l, ls, sd, p, o, b, ?_⟩,
      fun k _ hk => Tab.get?_set_ne _ _ hk⟩, hmoved.dev, ?_⟩
    · simp only [he, State.setOb, v]
    · exact (State.nat_setOb_ne _ 0 (by decide)).trans (hmoved.nat ..)
  · exact ⟨.refl s, rfl, rfl⟩

/-- Entering a device state (R431). -/
theorem State.enter_moved (s : State) (d : DevState) :
    s.stateMoved (s.enter d) ∧ (s.enter d).dev = d ∧ (s.enter d).nat 0x2200 2 = s.nat 0x2200 2 := by
  unfold State.enter
  split
  · next h => exact ⟨.refl s, h, rfl⟩
  · obtain ⟨hdrop, -, hsub⟩ := s.dropPps_moved
    let u := s.dropPps
    have ht : State.told { u with dev := d }
        (((({ u with dev := d } : State).dueStatus).log .module 10 0x2200 1 (stateCode u.dev) (stateCode d) (stateCode d)).msix 66) :=
      ((State.dueStatus_told _).trans (State.log_told ..)).trans (State.msix_told _ 66)
    exact ⟨hdrop.trans ⟨d, u.time, u.obj, ht, fun _ _ _ => rfl⟩, ht.dev, (ht.nat ..).trans hsub⟩

/-- Changing SUBSTATE. -/
theorem State.setSubstate_moved (s : State) (v : Nat) :
    s.stateMoved (s.setSubstate v) ∧ (s.setSubstate v).dev = s.dev ∧ (s.setSubstate v).nat 0x2200 2 = v := by
  unfold State.setSubstate
  split
  · next h => exact ⟨.refl s, rfl, h⟩
  · refine ⟨?_, rfl, State.nat_setOb_same ..⟩
    exact ⟨s.dev, s.time, _, ⟨s.flash.log, s.start.logSince, _, s.host.pendingVec, s.out, s.bar2, rfl⟩,
      fun k hk _ => Tab.get?_set_ne _ _ hk⟩

/-- What no state command but RESTART touches: memory, the cells, the patterns, LASTCMD. -/
structure State.keepsWork (s t : State) : Prop where
  mem : t.mem = s.mem
  cells : t.cells = s.cells
  pats : t.pats = s.pats
  lastCmd : t.nat 0x2201 2 = s.nat 0x2201 2

namespace State.keepsWork

variable {s t u : State}

theorem refl (s : State) : s.keepsWork s := ⟨rfl, rfl, rfl, rfl⟩

theorem trans (h : s.keepsWork t) (h' : t.keepsWork u) : s.keepsWork u :=
  ⟨h'.mem.trans h.mem, h'.cells.trans h.cells, h'.pats.trans h.pats, h'.lastCmd.trans h.lastCmd⟩

theorem of_moved (h : s.stateMoved t) : s.keepsWork t := ⟨h.mem, h.cells, h.pats, h.nat (by decide) (by decide)⟩

theorem of_told (h : s.told t) : s.keepsWork t := of_moved (.of_told h)

end State.keepsWork

/-- RUN waits for the next row boundary (R430). -/
theorem State.takeRun_waits (s : State) : s.keepsWork s.takeRun ∧ s.takeRun.dev = s.dev ∧
    s.takeRun.start.runPend = if s.dev = .running ∧ s.start.holdPend = false then s.start.runPend else true := by
  unfold State.takeRun
  by_cases h : s.dev = .running ∧ s.start.holdPend = false
  · rw [if_pos (by simp [h]), if_pos h]
    exact ⟨.refl s, rfl, rfl⟩
  · rw [if_neg (by simpa using h), if_neg h]
    exact ⟨⟨rfl, rfl, rfl, rfl⟩, rfl, rfl⟩

/-- HOLD waits for the close of an open row, and is at once when none is open (R430). -/
theorem State.takeHold_waits (s : State) : s.keepsWork s.takeHold ∧ s.takeHold.start.runPend = false ∧
    s.takeHold.dev = (if s.dev = .running ∧ s.rowOpen = false then .hold else s.dev) ∧
    s.takeHold.start.holdPend = (if s.dev = .running ∧ s.rowOpen = true then true else s.start.holdPend) := by
  let u : State := { s with start := { s.start with runPend := false } }
  have ht : s.takeHold = if s.dev != .running then u
      else if s.rowOpen then { u with start := { u.start with holdPend := true } }
      else { u.enter .hold with run := (u.enter .hold).run.map RunSt.held } := rfl
  rw [ht]
  by_cases hdev : s.dev = .running
  · rw [if_neg (by simp [hdev])]
    cases hopen : s.rowOpen with
    | true => exact ⟨⟨rfl, rfl, rfl, rfl⟩, rfl, by simp [u], by simp [hdev]⟩
    | false =>
      obtain ⟨h, hd, -⟩ := u.enter_moved .hold
      obtain ⟨hmem, hcells, hpats, hlast⟩ := State.keepsWork.of_moved h
      exact ⟨⟨hmem, hcells, hpats, hlast⟩, h.runPend, by simp [hd, hdev], by simp [h.holdPend, u]⟩
  · rw [if_pos (by simp [hdev])]
    exact ⟨⟨rfl, rfl, rfl, rfl⟩, rfl, by simp [hdev, u], by simp [hdev, u]⟩

/-- The bind-off begins (R338). -/
theorem State.beginBindOff_moves (s : State) (sub : Nat) :
    s.keepsWork (s.beginBindOff sub) ∧ (s.beginBindOff sub).dev = .bindOff ∧ (s.beginBindOff sub).nat 0x2200 2 = sub ∧
      (s.beginBindOff sub).start.runPend = false ∧ (s.beginBindOff sub).start.holdPend = false := by
  let u : State := { s with start := { s.start with runPend := false, holdPend := false, bindOffMember := s.grouped } }
  obtain ⟨h, hdev, -⟩ := u.enter_moved .bindOff
  obtain ⟨h', hdev', hsub⟩ := (u.enter .bindOff).setSubstate_moved sub
  have hall := h.trans h'
  obtain ⟨hmem, hcells, hpats, hlast⟩ := State.keepsWork.of_moved hall
  exact ⟨⟨hmem, hcells, hpats, hlast⟩, hdev'.trans hdev, hsub, hall.runPend, hall.holdPend⟩

theorem State.takeBindReady_moves (s : State) :
    s.keepsWork s.takeBindReady ∧ s.takeBindReady.dev = .bindOff ∧ s.takeBindReady.nat 0x2200 2 = 1 ∧
      s.takeBindReady.start.runPend = false ∧ s.takeBindReady.start.holdPend = false := by
  obtain ⟨⟨hmem, hcells, hpats, hlast⟩, hdev, hsub, hrun, hhold⟩ := s.beginBindOff_moves 1
  exact ⟨⟨hmem, hcells, hpats, hlast⟩, hdev, hsub, hrun, hhold⟩

theorem State.abortActivation_told (s : State) :
    State.told { s with sec := { s.sec with fwState := 6, phase := 0, unit := 0 } } s.abortActivation := State.log_told ..

/-- The end of a removal leaves the device state and switches the groups off (R338). -/
theorem State.safeToRemove_moves (s : State) :
    s.keepsWork s.safeToRemove ∧ s.safeToRemove.dev = s.dev ∧ s.safeToRemove.nat 0x2200 2 = 4 ∧
      s.safeToRemove.power.groupsOff = true := by
  let a := if s.activating then s.abortActivation else s
  have ha : s.keepsWork a ∧ a.dev = s.dev := by
    simp only [a]
    split
    · have h := s.abortActivation_told
      obtain ⟨hmem, hcells, hpats, hlast⟩ := State.keepsWork.of_told h
      exact ⟨⟨hmem, hcells, hpats, hlast⟩, h.dev⟩
    · exact ⟨.refl s, rfl⟩
  let b : State := { a.flushLog.groupsOff with
    power := { a.flushLog.groupsOff.power with hbmOff := true }, row := { a.row with phase := .idle }, sess := [], pool := {} }
  have hb : a.keepsWork b := ⟨rfl, rfl, rfl, rfl⟩
  let c := if b.host.memActive then ({ b with host := { b.host with memActive := false } }).msix 66 else b
  have hc : b.keepsWork c ∧ c.dev = b.dev ∧ c.power = b.power := by
    simp only [c]
    split
    · have h := State.msix_told { b with host := { b.host with memActive := false } } 66
      obtain ⟨hmem, hcells, hpats, hlast⟩ := State.keepsWork.of_told h
      exact ⟨⟨hmem, hcells, hpats, hlast⟩, h.dev, (State.stateMoved.of_told h).power⟩
    · exact ⟨.refl b, rfl, rfl⟩
  obtain ⟨hd, hdev, hsub⟩ := c.setSubstate_moved 4
  refine ⟨((ha.1.trans hb).trans hc.1).trans (.of_moved hd), (hdev.trans hc.2.1).trans ha.2, hsub, ?_⟩
  exact (congrArg Power.groupsOff hd.power).trans (congrArg Power.groupsOff hc.2.2)

theorem State.keepsWork.of_modFe (s : State) (f : FrontEnd → FrontEnd) : s.keepsWork (s.modFe f) := ⟨rfl, rfl, rfl, rfl⟩

theorem State.keepsWork.of_modFlash (s : State) (f : Flash → Flash) : s.keepsWork (s.modFlash f) := ⟨rfl, rfl, rfl, rfl⟩

theorem State.journal_keeps (s : State) (r : JRec) : s.keepsWork (s.journal r) := by
  unfold State.journal
  split
  · exact .of_modFe ..
  · exact .of_modFlash ..

/-- A removal in CAST-ON goes to its end at once (R338). -/
theorem State.castOnRemoval_moves (s : State) :
    s.keepsWork s.castOnRemoval ∧ s.castOnRemoval.dev = .bindOff ∧ s.castOnRemoval.nat 0x2200 2 = 4 ∧
      s.castOnRemoval.power.groupsOff = true := by
  let u := (s.journal (s.endRecord 6 none 0)).addOb 0x2D00 4 1
  have hu : s.keepsWork u :=
    (s.journal_keeps _).trans ⟨rfl, rfl, rfl, State.nat_addOb_ne _ 1 (by decide)⟩
  obtain ⟨h, hdev, -⟩ := u.enter_moved .bindOff
  obtain ⟨h', hdev', -⟩ := (u.enter .bindOff).setSubstate_moved 2
  obtain ⟨hkeep, hdev'', hsub, hoff⟩ := ((u.enter .bindOff).setSubstate 2).safeToRemove_moves
  exact ⟨(hu.trans (.of_moved (h.trans h'))).trans hkeep, (hdev''.trans hdev').trans hdev, hsub, hoff⟩

/-- What BIND_REMOVE comes to, by the device state (R338, R339, R483). -/
theorem State.takeBindRemove_moves (s : State) (hoff : s.dev ≠ .off) :
    let t := s.takeBindRemove
    s.keepsWork t ∧
      (s.dev = .ready ∨ s.dev = .running ∨ s.dev = .hold ∨ (s.dev = .bindOff ∧ s.nat 0x2200 2 < 2) →
        t.dev = .bindOff ∧ t.nat 0x2200 2 = if s.grouped then 3 else 2) ∧
      (s.dev = .bindOff → 2 ≤ s.nat 0x2200 2 → t.dev = .bindOff ∧ t.nat 0x2200 2 = s.nat 0x2200 2) ∧
      (s.dev = .castOn → t.dev = .bindOff ∧ t.nat 0x2200 2 = 4 ∧ t.power.groupsOff = true) ∧
      (s.dev = .safe → t.dev = .safe ∧ t.nat 0x2200 2 = 4 ∧ (s.nat 0x2200 2 ≠ 4 → t.power.groupsOff = true)) := by
  intro t
  have hbegin : s.keepsWork (s.beginBindOff (if s.grouped then 3 else 2)) ∧
      (s.beginBindOff (if s.grouped then 3 else 2)).dev = .bindOff ∧
      (s.beginBindOff (if s.grouped then 3 else 2)).nat 0x2200 2 = if s.grouped then 3 else 2 := by
    obtain ⟨hkeep, hdev, hsub, -⟩ := s.beginBindOff_moves (if s.grouped then 3 else 2)
    exact ⟨hkeep, hdev, hsub⟩
  have ht : t = s.takeBindRemove := rfl
  cases hd : s.dev with
  | off => exact absurd hd hoff
  | castOn =>
    simp only [State.takeBindRemove, hd] at ht
    obtain ⟨hkeep, hcast⟩ := s.castOnRemoval_moves
    rw [ht]
    exact ⟨hkeep, by simp, nofun, fun _ => hcast, nofun⟩
  | safe =>
    simp only [State.takeBindRemove, hd] at ht
    by_cases h4 : s.nat 0x2200 2 = 4
    · rw [ht, if_pos h4]
      exact ⟨.refl s, by simp, nofun, nofun, fun _ => ⟨hd, h4, fun hne => absurd h4 hne⟩⟩
    · rw [ht, if_neg h4]
      obtain ⟨hkeep, hdev, hsub, hgroups⟩ := s.safeToRemove_moves
      exact ⟨hkeep, by simp, nofun, nofun, fun _ => ⟨hdev.trans hd, hsub, fun _ => hgroups⟩⟩
  | bindOff =>
    simp only [State.takeBindRemove, hd] at ht
    by_cases h2 : 2 ≤ s.nat 0x2200 2
    · rw [ht, if_pos h2]
      exact ⟨.refl s, by simp; omega, fun _ _ => ⟨hd, rfl⟩, nofun, nofun⟩
    · rw [ht, if_neg h2]
      exact ⟨hbegin.1, fun _ => hbegin.2, fun _ h => absurd h h2, nofun, nofun⟩
  | _ =>
    simp only [State.takeBindRemove, hd] at ht
    rw [ht]
    exact ⟨hbegin.1, fun _ => hbegin.2, nofun, nofun, nofun⟩

/-! ### Taken, as the host sees it -/

section
variable {s : State} {o : Origin} {code : Nat}

/-- A command that is noted has moved nothing but LASTCMD. -/
theorem State.commandNoted_start : (s.commandNoted o code).start.runPend = s.start.runPend ∧
    (s.commandNoted o code).start.holdPend = s.start.holdPend := by
  have h := State.stateMoved.of_told (s.commandNoted_told (o := o) (code := code))
  exact ⟨h.runPend, h.holdPend⟩

theorem State.commandNoted_dev : (s.commandNoted o code).dev = s.dev := State.commandNoted_told.dev

theorem State.commandNoted_rowOpen : (s.commandNoted o code).rowOpen = s.rowOpen := by
  rw [State.rowOpen, State.rowOpen, (State.stateMoved.of_told State.commandNoted_told).row]
  rfl

theorem State.commandNoted_nat {i j : Nat} (h : okey i j ≠ okey 0x2201 2) : (s.commandNoted o code).nat i j = s.nat i j :=
  (State.commandNoted_told.nat i j).trans (s.nat_setOb_ne _ h)

/-- A state command that is taken: LASTCMD holds it, memory, cells and patterns stand, and the rest is the command's own effect. -/
theorem State.command_accepted {i : Instr} {p : State → Prop} {u : State} (htry : s.mayTry o 0x2201 1) (h1 : 1 ≤ code) (h5 : code ≤ 5)
    (hx : exec i s = s.writes (commandWrite o code)) (hmay : s.mayCommand o code = true) (hok : s.commandOk code = true)
    (hu : (s.commandNoted o code).takeCommand code = u) (hkeep : (s.commandNoted o code).keepsWork u)
    (hp : ∀ t, u.told t → p t) :
    ∃ t, exec i s = .next t ∧ t.nat 0x2201 2 = code ∧ t.mem = s.mem ∧ t.cells = s.cells ∧ t.pats = s.pats ∧ p t := by
  have htold := State.command_taken h1 h5 hmay hok
  rw [hu] at htold
  obtain ⟨hmem, hcells, hpats, hlast⟩ := hkeep.trans (.of_told htold)
  have hn := State.stateMoved.of_told (s.commandNoted_told (o := o) (code := code))
  refine ⟨_, hx.trans (State.writes_command htry), ?_, hmem.trans hn.mem, hcells.trans hn.cells, hpats.trans hn.pats, hp _ htold⟩
  exact (hlast.trans (State.commandNoted_told.nat ..)).trans (State.nat_setOb_same ..)

end

/-- A command that some state accepts is none of OFF. -/
theorem State.dev_of_commandOk {s : State} {code : Nat} (hrec : s.start.recovery = false) (h : s.commandOk code = true) : s.dev ≠ .off := by
  intro hd
  simp [State.commandOk, hrec, hd] at h

section
variable {s : State} {o : Origin}

theorem exec_run_taken (htry : s.mayTry o 0x2201 1) (hmay : s.mayCommand o 1 = true) (hok : s.commandOk 1 = true) :
    ∃ t, exec (.run o) s = .next t ∧ t.nat 0x2201 2 = 1 ∧ t.mem = s.mem ∧ t.cells = s.cells ∧ t.pats = s.pats ∧
      t.dev = s.dev ∧ t.start.runPend = (if s.dev = .running ∧ s.start.holdPend = false then s.start.runPend else true) := by
  obtain ⟨hkeep, hdev, hrun⟩ := (s.commandNoted o 1).takeRun_waits
  rw [State.commandNoted_dev] at hdev hrun
  rw [State.commandNoted_start.1, State.commandNoted_start.2] at hrun
  exact State.command_accepted htry (by decide) (by decide) rfl hmay hok (if_pos rfl) hkeep
    fun t ht => ⟨ht.dev.trans hdev, (State.stateMoved.of_told ht).runPend.trans hrun⟩

theorem exec_hold_taken (htry : s.mayTry o 0x2201 1) (hmay : s.mayCommand o 2 = true) (hok : s.commandOk 2 = true) :
    ∃ t, exec (.hold o) s = .next t ∧ t.nat 0x2201 2 = 2 ∧ t.mem = s.mem ∧ t.cells = s.cells ∧ t.pats = s.pats ∧
      t.start.runPend = false ∧ t.dev = (if s.dev = .running ∧ s.rowOpen = false then .hold else s.dev) ∧
      t.start.holdPend = (if s.dev = .running ∧ s.rowOpen = true then true else s.start.holdPend) := by
  obtain ⟨hkeep, hrun, hdev, hhold⟩ := (s.commandNoted o 2).takeHold_waits
  rw [State.commandNoted_dev, State.commandNoted_rowOpen] at hdev hhold
  rw [State.commandNoted_start.2] at hhold
  exact State.command_accepted htry (by decide) (by decide) rfl hmay hok rfl hkeep
    fun t ht => ⟨(State.stateMoved.of_told ht).runPend.trans hrun, ht.dev.trans hdev, (State.stateMoved.of_told ht).holdPend.trans hhold⟩

theorem exec_bindReady_taken (htry : s.mayTry o 0x2201 1) (hmay : s.mayCommand o 3 = true) (hok : s.commandOk 3 = true) :
    ∃ t, exec (.bindReady o) s = .next t ∧ t.nat 0x2201 2 = 3 ∧ t.mem = s.mem ∧ t.cells = s.cells ∧ t.pats = s.pats ∧
      t.dev = .bindOff ∧ t.nat 0x2200 2 = 1 ∧ t.start.runPend = false ∧ t.start.holdPend = false := by
  obtain ⟨hkeep, hdev, hsub, hrun, hhold⟩ := (s.commandNoted o 3).takeBindReady_moves
  exact State.command_accepted htry (by decide) (by decide) rfl hmay hok rfl hkeep
    fun t ht => ⟨ht.dev.trans hdev, (ht.nat ..).trans hsub, (State.stateMoved.of_told ht).runPend.trans hrun,
      (State.stateMoved.of_told ht).holdPend.trans hhold⟩

theorem exec_bindRemove_taken (htry : s.mayTry o 0x2201 1) (hmay : s.mayCommand o 4 = true) (hok : s.commandOk 4 = true) :
    ∃ t, exec (.bindRemove o) s = .next t ∧ t.nat 0x2201 2 = 4 ∧ t.mem = s.mem ∧ t.cells = s.cells ∧ t.pats = s.pats ∧
      (s.dev = .ready ∨ s.dev = .running ∨ s.dev = .hold ∨ (s.dev = .bindOff ∧ s.nat 0x2200 2 < 2) →
        t.dev = .bindOff ∧ t.nat 0x2200 2 = if s.grouped then 3 else 2) ∧
      (s.dev = .bindOff → 2 ≤ s.nat 0x2200 2 → t.dev = .bindOff ∧ t.nat 0x2200 2 = s.nat 0x2200 2) ∧
      (s.dev = .castOn → t.dev = .bindOff ∧ t.nat 0x2200 2 = 4 ∧ t.power.groupsOff = true) ∧
      (s.dev = .safe → t.dev = .safe ∧ t.nat 0x2200 2 = 4 ∧ (s.nat 0x2200 2 ≠ 4 → t.power.groupsOff = true)) := by
  have hdev : (s.commandNoted o 4).dev = s.dev := State.commandNoted_dev
  have hsub : (s.commandNoted o 4).nat 0x2200 2 = s.nat 0x2200 2 := State.commandNoted_nat (by decide)
  have hgroup : (s.commandNoted o 4).grouped = s.grouped := by rw [State.grouped, State.grouped, State.commandNoted_nat (by decide)]
  obtain ⟨hkeep, heffect⟩ := (s.commandNoted o 4).takeBindRemove_moves (hdev.trans_ne (State.dev_of_commandOk htry.2.2.1 hok))
  rw [hdev, hsub, hgroup] at heffect
  refine State.command_accepted htry (by decide) (by decide) rfl hmay hok rfl hkeep fun t ht => ?_
  rw [ht.dev, ht.nat, (State.stateMoved.of_told ht).power]
  exact heffect

theorem exec_restart_taken (htry : s.mayTry o 0x2201 1) (hmay : s.mayCommand o 5 = true) (hok : s.commandOk 5 = true) :
    ∃ t, exec (.restart o) s = .next t ∧ t.fe.fe = .off ∧ t.fe.offUs = 2000000 ∧ t.dev = .off ∧ t.mem = [] ∧ t.run = none ∧
      t.flash.active = s.flash.active ∧ t.flash.defects = s.flash.defects ∧ t.hostMem = s.hostMem := by
  obtain ⟨hfe, hdev, hflash, hmem, -, -, hrun, -, -, -, -, -, -, -, -, -, -, hhost⟩ := (s.commandNoted o 5).offFor2s_lostPower
  have htold : (s.commandNoted o 5).offFor2s.told (s.commandDone o 5) := State.command_taken (by decide) (by decide) hmay hok
  obtain ⟨tfe, tmem, trun, thost, tactive, tdefects⟩ := htold.kept
  obtain ⟨-, -, -, nhost, nactive, ndefects⟩ := (s.commandNoted_told (o := o) (code := 5)).kept
  refine ⟨_, State.writes_command htry, (congrArg FrontEnd.fe tfe).trans hfe, congrArg FrontEnd.offUs tfe, htold.dev.trans hdev,
    tmem.trans hmem, trun.trans hrun, ?_, ?_, (thost.trans hhost).trans nhost⟩
  · exact (tactive.trans (congrArg Flash.active hflash)).trans nactive
  · exact (tdefects.trans (congrArg Flash.defects hflash)).trans ndefects

end

/-- Settles O54: a command is refused by `command` with one record, or goes through `takeCommand`. -/
theorem stateCommandsMoveTheState : Obligations.StateCommandsMoveTheState := by
  intro s o _ htry
  exact ⟨State.command_refused (code := 1) htry (by decide) (by decide) rfl,
    State.command_refused (code := 2) htry (by decide) (by decide) rfl,
    State.command_refused (code := 3) htry (by decide) (by decide) rfl,
    State.command_refused (code := 4) htry (by decide) (by decide) rfl,
    State.command_refused (code := 5) htry (by decide) (by decide) rfl,
    exec_run_taken htry, exec_hold_taken htry, exec_bindReady_taken htry, exec_bindRemove_taken htry, exec_restart_taken htry⟩

end Sys2Proof.Machine

/-!
PROOFS. The immediate commands (R109, R226, R240, R379, R382 to R387): a command that comes to its turn is entered as fetched, has its
fields checked, takes effect, and ends with its completion among those that wait for the next commit.
-/
namespace Sys2Proof.Machine

/-! ### The turn and the end of a command (R375, R376, R388) -/

/-- A command at its turn is entered and carried out. -/
theorem State.hostCmd_turn {s : State} {q : Nat} (h : s.turnOf q) (c : Bytes) (run : Fetched → State → State) :
    s.hostCmd q c run = .next (run (s.enterFetched q c).1 (s.enterFetched q c).2) := by
  obtain ⟨hon, hq, htakes, hbusy, hhead, hrefuses⟩ := h
  rw [State.hostCmd, s.unit_on _ _ (by simp [hq]) (by simp [State.on, hon])]
  simp only [htakes, hbusy, hrefuses, hhead]
  rfl

/-- A completion record begins with its CID, STATUS, OPCODE and RESULT (R388). -/
theorem Completion.bytes_head (c : Completion) : ∃ rest, c.bytes =
    le 2 c.cid ++ (le 2 0 ++ (le 1 c.status ++ (le 1 0 ++ (le 1 c.opcode ++ (le 1 0 ++ (le 8 c.result ++ rest)))))) := by
  refine ⟨cnt32 c.rows ++ (cnt32 c.replays ++ (cnt32 c.lateMax ++ (cnt32 c.slipMax ++ (cnt32 c.inexact ++ (cnt32 c.clamps ++
    (cnt32 c.outrange ++ (cnt32 c.idxClamp ++ (cnt32 c.duplicate ++ (cnt32 c.overflow ++ le 8 c.detail))))))))), ?_⟩
  simp only [Completion.bytes, List.append_assoc]

theorem Completion.bytes_fields (c : Completion) : uAt c.bytes 0 2 = c.cid % 2 ^ 16 ∧ uAt c.bytes 4 1 = c.status % 2 ^ 8 ∧
    uAt c.bytes 6 1 = c.opcode % 2 ^ 8 ∧ uAt c.bytes 8 8 = c.result % 2 ^ 64 := by
  obtain ⟨rest, h⟩ := c.bytes_head
  rw [h]
  refine ⟨uAt_le 2 c.cid _, ?_, ?_, ?_⟩
  · exact (uAt_append (le 2 c.cid) _ 2 1).trans ((uAt_append (le 2 0) _ 0 1).trans (uAt_le 1 ..))
  · exact (uAt_append (le 2 c.cid) _ 4 1).trans ((uAt_append (le 2 0) _ 2 1).trans
      ((uAt_append (le 1 c.status) _ 1 1).trans ((uAt_append (le 1 0) _ 0 1).trans (uAt_le 1 ..))))
  · exact (uAt_append (le 2 c.cid) _ 6 8).trans ((uAt_append (le 2 0) _ 4 8).trans ((uAt_append (le 1 c.status) _ 3 8).trans
      ((uAt_append (le 1 0) _ 2 8).trans ((uAt_append (le 1 c.opcode) _ 1 8).trans ((uAt_append (le 1 0) _ 0 8).trans (uAt_le 8 ..))))))

/-- A field of `n` bytes is below 256^n. -/
theorem uAt_lt (b : Bytes) (o n : Nat) : uAt b o n < 256 ^ n :=
  (ofLe_lt _).trans_le (Nat.pow_le_pow_right (by decide) (List.length_take_le ..))

/-- `t` is `s` but for the host's side and what is recorded: a command has ended, or waits. -/
def State.hostMoved (s t : State) : Prop := ∃ fl st h o, t = { s with flash := fl, start := st, host := h, out := o }

namespace State.hostMoved

variable {s t : State}

theorem mem (h : s.hostMoved t) : t.mem = s.mem := by obtain ⟨_, _, _, _, rfl⟩ := h; rfl
theorem pats (h : s.hostMoved t) : t.pats = s.pats := by obtain ⟨_, _, _, _, rfl⟩ := h; rfl
theorem run (h : s.hostMoved t) : t.run = s.run := by obtain ⟨_, _, _, _, rfl⟩ := h; rfl
theorem sess (h : s.hostMoved t) : t.sess = s.sess := by obtain ⟨_, _, _, _, rfl⟩ := h; rfl
theorem pool (h : s.hostMoved t) : t.pool = s.pool := by obtain ⟨_, _, _, _, rfl⟩ := h; rfl
theorem power (h : s.hostMoved t) : t.power = s.power := by obtain ⟨_, _, _, _, rfl⟩ := h; rfl

end State.hostMoved

theorem State.recorded.ending {s t : State} (h : s.recorded t) : t.host.ending = s.host.ending := by
  obtain ⟨_, _, _, _, rfl⟩ := h; rfl

section
variable {s v : State} {q : Nat} {c : Bytes}

/-- A command that ends has its completion behind those that wait. -/
theorem State.endCommand_ends (hv : v.host.ending = s.host.ending) (k : Completion) (hk : k.status < 256)
    (writes : List (Nat × Bytes)) :
    s.endedCmd (v.endCommand (s.enterFetched q c).1 k writes) q c k.status k.result := by
  obtain ⟨hcid, hst, hop, hres⟩ := Completion.bytes_fields { k with cid := cmdCid c, opcode := cmdOpcode c }
  refine ⟨_, congrArg (· ++ _) hv, rfl, ?_, ?_, ?_, hres⟩
  · exact hcid.trans (Nat.mod_eq_of_lt (uAt_lt c 2 2))
  · exact hst.trans (Nat.mod_eq_of_lt hk)
  · exact hop.trans (Nat.mod_eq_of_lt (uAt_lt c 0 1))

/-- A command that takes effect ends with DONE, or DONE_CLAMPED with its clamped fields logged; the device is as it left it. -/
theorem State.finish_ends (hv : v.host.ending = s.host.ending) (result : Nat) (clamped : List (Nat × Nat × Nat))
    (writes : List (Nat × Bytes)) :
    let t := v.finish (s.enterFetched q c).1 result clamped writes
    s.endedCmd t q c (if clamped.isEmpty then 0 else 1) result ∧ v.hostMoved t := by
  intro t
  let u := clamped.foldl (fun u e => u.logField (s.enterFetched q c).1 e.1 e.2.1 e.2.2) v
  have hu : v.recorded u := .foldl (fun u e => u.log_recorded ..) clamped v
  refine ⟨State.endCommand_ends (hu.ending.trans hv) _ ?_ writes, ?_⟩
  · show (if clamped.isEmpty then stDone else stClamped) < 256
    split <;> decide
  · obtain ⟨fl, st, p, o, hu⟩ := hu
    obtain ⟨h, hh⟩ : ∃ h, t = { u with host := h } := ⟨_, rfl⟩
    exact ⟨fl, st, h, o, by rw [hh, hu]⟩

/-- STATUS is DONE or DONE_CLAMPED, whatever was clamped. -/
theorem State.finish_done (hv : v.host.ending = s.host.ending) (result : Nat) (clamped : List (Nat × Nat × Nat))
    (writes : List (Nat × Bytes)) :
    let t := v.finish (s.enterFetched q c).1 result clamped writes
    ∃ st, st ≤ 1 ∧ s.endedCmd t q c st result ∧ v.hostMoved t := by
  obtain ⟨hend, hmoved⟩ := State.finish_ends (q := q) (c := c) hv result clamped writes
  exact ⟨_, by split <;> omega, hend, hmoved⟩

/-- A command that waits stays fetched, and no completion follows. -/
theorem State.setFetched_waits (s : State) (q : Nat) (c : Bytes) :
    let f := (s.enterFetched q c).1
    { f with wait := true } ∈ ((s.enterFetched q c).2.setFetched { f with wait := true }).host.fetched := by
  refine List.mem_map.mpr ⟨(s.enterFetched q c).1, List.mem_append_right _ (List.mem_singleton_self _), if_pos rfl⟩

end

/-! ### HINT, FENCE (R385, R386) -/

theorem clampField_fst (off lo hi v : Nat) : (clampField off lo hi v).1 = min hi (max lo v) := rfl

theorem State.addHint_frame (s : State) (h : HintRec) : (s.addHint h).mem = s.mem ∧ (s.addHint h).pats = s.pats ∧
    (s.addHint h).run = s.run ∧ (s.addHint h).host = s.host := by
  unfold State.addHint
  split
  · exact ⟨rfl, rfl, rfl, rfl⟩
  · split <;> exact ⟨rfl, rfl, rfl, rfl⟩

section
variable {s : State} {q : Nat} {c : Bytes} (ht : s.turnOf q)
include ht

theorem exec_hint_ends (hok : headerOk 0x20 [(16, 2), (20, 4)] c = true) :
    ∃ t st, exec (.hint q c) s = .next t ∧ st ≤ 1 ∧ s.endedCmd t q c st 0 ∧ (t.mem = s.mem ∧ t.pats = s.pats ∧ t.run = s.run) ∧
      t.power.hints = ((s.enterFetched q c).2.addHint
        { row := s.row.num + max 1 (min 32 (uAt c 16 1)), cell := none, level := min 64 (uAt c 17 1)
          dur := min 0x1FFFFFF (uAt c 20 4) }).power.hints := by
  let lead := clampField 16 1 32 (uAt c 16 1)
  let level := clampField 17 0 64 (uAt c 17 1)
  let dur := clampField 20 0 0x1FFFFFF (uAt c 20 4)
  let v := (s.enterFetched q c).2.addHint { row := s.row.num + lead.1, cell := none, level := level.1, dur := dur.1 }
  have hx : exec (.hint q c) s = .next (v.finish (s.enterFetched q c).1 0 (lead.2 ++ level.2 ++ dur.2)) := by
    refine (State.hostCmd_turn ht c _).trans ?_
    rw [State.hintCommand, show (s.enterFetched q c).1.cmd = c from rfl, hok]
    rfl
  obtain ⟨hmem, hpats, hrun, hhost⟩ := (s.enterFetched q c).2.addHint_frame
    { row := s.row.num + lead.1, cell := none, level := level.1, dur := dur.1 }
  obtain ⟨st, hst, hend, hmoved⟩ := State.finish_done (s := s) (q := q) (c := c) (v := v) (congrArg HostSt.ending hhost :) 0
    (lead.2 ++ level.2 ++ dur.2) []
  refine ⟨_, st, hx, hst, hend, ⟨hmoved.mem.trans hmem, hmoved.pats.trans hpats, hmoved.run.trans hrun⟩, ?_⟩
  have hlead : lead.1 = max 1 (min 32 (uAt c 16 1)) := by simp only [lead, clampField_fst]; omega
  have hlevel : level.1 = min 64 (uAt c 17 1) := by simp only [level, clampField_fst]; omega
  have hdur : dur.1 = min 0x1FFFFFF (uAt c 20 4) := by simp only [dur, clampField_fst]; omega
  rw [hmoved.power, ← hlead, ← hlevel, ← hdur]

theorem exec_fence_ends (hok : headerOk 0x21 [(16, 8)] c = true) :
    let f := (s.enterFetched q c).1
    let u := (s.enterFetched q c).2
    (u.fenceClear f = true → ∃ t, exec (.fence q c) s = .next t ∧ s.endedCmd t q c 0 0 ∧
      (t.mem = s.mem ∧ t.pats = s.pats ∧ t.run = s.run)) ∧
    (u.fenceClear f = false → ∃ t, exec (.fence q c) s = .next t ∧ (t.mem = s.mem ∧ t.pats = s.pats ∧ t.run = s.run) ∧
      t.host.ending = s.host.ending ∧ { f with wait := true } ∈ t.host.fetched) := by
  intro f u
  have hx : exec (.fence q c) s = .next (if u.fenceClear f then u.finish f 0 else u.setFetched { f with wait := true }) := by
    refine (State.hostCmd_turn ht c _).trans ?_
    rw [State.fenceCommand, show (s.enterFetched q c).1.cmd = c from rfl, hok]
    rfl
  refine ⟨fun hclear => ?_, fun hwait => ?_⟩
  · obtain ⟨hend, hmoved⟩ := State.finish_ends (s := s) (q := q) (c := c) (v := u) rfl 0 [] []
    rw [if_pos hclear] at hx
    exact ⟨_, hx, hend, hmoved.mem, hmoved.pats, hmoved.run⟩
  · rw [if_neg (by simp [hwait])] at hx
    exact ⟨_, hx, ⟨rfl, rfl, rfl⟩, rfl, s.setFetched_waits q c⟩

end

/-! ### READ_RECEIPT, READ_SIGNATURES (R362, R387) -/

/-- What is read from the list of bundles is no more than it holds. -/
theorem Flash.bundlesFrom_le (f : Flash) (seq count : Nat) : (f.bundlesFrom seq count).length ≤ f.bundles.flatten.length := by
  have h : ((f.bundles.drop (seq - f.oldestBundle)).take count).Sublist f.bundles :=
    (List.take_sublist ..).trans (List.drop_sublist ..)
  exact h.flatten.length_le

section
variable {s : State} {q : Nat} {c : Bytes} (ht : s.turnOf q)
include ht

theorem exec_readReceipt_ends (hok : headerOk 0x30 [(16, 13), (32, 8)] c = true) (haddr : addrsOk c [32] = true)
    (hline : addrOf (uAt c 32 8) % 64 = 0) (hdest : destOk (uAt c 32 8) (1024 * max 1 (min 1024 (uAt c 24 4))) = true) :
    (uAt c 28 1 = 0 → ∃ t st n, exec (.readReceipt q c) s = .next t ∧ st ≤ 1 ∧ s.endedCmd t q c st n ∧
      (t.mem = s.mem ∧ t.pats = s.pats ∧ t.run = s.run) ∧ n ≤ s.flash.bundles.flatten.length / 1024) ∧
    (uAt c 28 1 = 1 → ∃ t, exec (.readReceipt q c) s = .next t ∧ (t.mem = s.mem ∧ t.pats = s.pats ∧ t.run = s.run) ∧
      t.row.forceNew = true ∧ t.host.ending = s.host.ending ∧ { (s.enterFetched q c).1 with wait := true } ∈ t.host.fetched) := by
  have hcount : clampN 1 1024 (uAt c 24 4) = max 1 (min 1024 (uAt c 24 4)) := by unfold clampN; omega
  have hx (hnew : uAt c 28 1 < 2) : exec (.readReceipt q c) s = .next (
      if wantsNew c then
        { (s.enterFetched q c).2.setFetched { (s.enterFetched q c).1 with wait := true } with
          row := { s.row with forceNew := true } }
      else (s.enterFetched q c).2.giveReceipts (s.enterFetched q c).1) := by
    refine (State.hostCmd_turn ht c _).trans ?_
    simp only [State.readReceiptCommand, show (s.enterFetched q c).1.cmd = c from rfl, hok, haddr, hline, hcount, hdest, hnew]
    rfl
  refine ⟨fun h0 => ?_, fun h1 => ?_⟩
  · let u := (s.enterFetched q c).2
    let seq := u.flash.firstBundle (uAt c 16 8)
    let count := clampField 24 1 1024 (uAt c 24 4)
    let data := u.flash.bundlesFrom seq.1 count.1
    obtain ⟨st, hst, hend, hmoved⟩ := State.finish_done (s := s) (q := q) (c := c) (v := u) rfl (data.length / 1024)
      (seq.2 ++ count.2) [(uAt c 32 8, data)]
    have hx := hx (by omega)
    rw [if_neg (by simp [wantsNew, h0, bit])] at hx
    exact ⟨_, st, _, hx, hst, hend, ⟨hmoved.mem, hmoved.pats, hmoved.run⟩, Nat.div_le_div_right (s.flash.bundlesFrom_le ..)⟩
  · have hx := hx (by omega)
    rw [if_pos (by simp [wantsNew, h1, bit])] at hx
    exact ⟨_, hx, ⟨rfl, rfl, rfl⟩, rfl, rfl, s.setFetched_waits q c⟩

theorem exec_readSignatures_ends (hok : headerOk 0x31 [(16, 12), (32, 8)] c = true) (haddr : addrsOk c [32] = true)
    (hline : addrOf (uAt c 32 8) % 64 = 0) (hdest : destOk (uAt c 32 8) (max 512 (uAt c 24 4)) = true) :
    ∃ t st n, exec (.readSignatures q c) s = .next t ∧ st ≤ 1 ∧ s.endedCmd t q c st n ∧
      (t.mem = s.mem ∧ t.pats = s.pats ∧ t.run = s.run) := by
  let u := (s.enterFetched q c).2
  let seq := clampField 16 u.flash.oldestSig (u.flash.sigSeq + 1) (uAt c 16 8)
  let n := clampField 24 512 0xFFFFFFFF (uAt c 24 4)
  let es := u.flash.sigsFrom seq.1 n.1
  let data := es.flatMap (·.bytes)
  have hx : exec (.readSignatures q c) s = .next (u.finish (s.enterFetched q c).1
      (data.length + (seq.1 + es.length) % 2 ^ 32 * 2 ^ 32) (seq.2 ++ n.2) [(uAt c 32 8, data)]) := by
    refine (State.hostCmd_turn ht c _).trans ?_
    simp only [State.readSignaturesCommand, show (s.enterFetched q c).1.cmd = c from rfl, hok, haddr, hline, hdest]
    rfl
  obtain ⟨st, hst, hend, hmoved⟩ := State.finish_done (s := s) (q := q) (c := c) (v := u) rfl
    (data.length + (seq.1 + es.length) % 2 ^ 32 * 2 ^ 32) (seq.2 ++ n.2) [(uAt c 32 8, data)]
  exact ⟨_, st, _, hx, hst, hend, hmoved.mem, hmoved.pats, hmoved.run⟩

end

/-! ### LOAD_PATTERN (R101 to R110, R380) -/

/-- A computation that succeeds has a first part that succeeds. -/
theorem Except.bind_ok {ε α β : Type} {m : Except ε α} {g : α → Except ε β} {b : β} (h : (m >>= g) = .ok b) :
    ∃ a, m = .ok a ∧ g a = .ok b := by
  cases m with
  | error e => cases h
  | ok a => exact ⟨a, rfl, h⟩

theorem need_bind_ok {b : Bool} {st : Nat} {β : Type} {g : Unit → Except Nat β} {r : β} (h : (need b st >>= g) = .ok r) :
    b = true ∧ g () = .ok r := by
  cases b with
  | false => cases h
  | true => exact ⟨rfl, h⟩

/-- An image that opens is at an address of lines, and meets no poisoned line (R193). -/
theorem State.openImage_ok {s : State} {a : Nat} {b : Bytes} (h : s.openImage a = .ok b) :
    a % 64 = 0 ∧ s.imagePoison a = none := by
  obtain ⟨hline, h⟩ := need_bind_ok h
  obtain ⟨hhead, h⟩ := need_bind_ok h
  obtain ⟨hfields, h⟩ := need_bind_ok h
  obtain ⟨hall, h⟩ := need_bind_ok h
  obtain ⟨hbody, -⟩ := need_bind_ok h
  have hline : a % 64 = 0 := by simpa using hline
  obtain ⟨hfields, hclean⟩ := Bool.and_eq_true_iff.mp hfields
  obtain ⟨hbody, -⟩ := Bool.and_eq_true_iff.mp hbody
  refine ⟨hline, ?_⟩
  simp [State.imagePoison, hline, hhead, Option.isNone_iff_eq_none.mp hclean, hfields, hall, Option.isNone_iff_eq_none.mp hbody]

theorem State.checkImage_opens {s : State} {a : Nat} {m : Image} (h : s.checkImage a = .ok m) : ∃ b, s.openImage a = .ok b := by
  obtain ⟨b, hb, -⟩ := Except.bind_ok h
  exact ⟨b, hb⟩

/-- The patterns and the completions that wait are as before. -/
def State.sameHost (s t : State) : Prop := t.pats = s.pats ∧ t.host.ending = s.host.ending

namespace State.sameHost

variable {s t u : State}

theorem refl (s : State) : s.sameHost s := ⟨rfl, rfl⟩

theorem trans (h : s.sameHost t) (h' : t.sameHost u) : s.sameHost u := ⟨h'.1.trans h.1, h'.2.trans h.2⟩

theorem of_rowTouched (h : s.rowTouched t) : s.sameHost t := by obtain ⟨_, _, _, _, _, _, _, _, _, rfl⟩ := h; exact ⟨rfl, rfl⟩

theorem of_mem (s : State) (m : Mem) : s.sameHost { s with mem := m } := ⟨rfl, rfl⟩

theorem foldl {β : Type} {f : State → β → State} (hf : ∀ (u : State) e, u.sameHost (f u e)) (l : List β) (s : State) :
    s.sameHost (l.foldl f s) := foldl_rel refl trans hf l s

end State.sameHost

theorem State.readPoison_sameHost (s : State) (l : Option Nat) : s.sameHost (s.readPoison l) := by
  cases l with
  | none => exact .refl s
  | some l =>
    refine .of_rowTouched ?_
    show s.rowTouched (State.raise _ _)
    refine .trans ?_ (State.raise_rowTouched _ _ false)
    split
    · exact .of_row ..
    · exact .refl s

theorem State.closeMerge_sameHost (s : State) (x y : Nat) (ls : List Nat) : s.sameHost (s.closeMerge x y ls) := by
  unfold State.closeMerge
  dsimp only
  split
  · exact .refl s
  · exact ⟨rfl, rfl⟩

/-- The fill of a resident range touches no pattern and no command. -/
theorem State.fillRange_sameHost (s : State) (r : Resident) : s.sameHost (s.fillRange r) := by
  unfold State.fillRange
  split
  · exact .refl s
  · let u := s.closeMerge r.x r.y (linesOf r.off r.len)
    refine (s.closeMerge_sameHost r.x r.y (linesOf r.off r.len)).trans (u := State.fillHome s r) (t := u) ?_
    unfold State.fillHome
    dsimp only
    split
    · exact .of_mem u _
    · refine (State.sameHost.of_mem u (u.mem.writeBytes (cellBase r.x r.y + r.off) (u.readImage r.home r.len))).trans ?_
      refine .foldl (fun v l => ?_) _ _
      refine .trans ?_ (State.readPoison_sameHost _ (some l))
      exact ⟨rfl, rfl⟩

/-- An image is installed: the slot holds its pattern (R101). -/
theorem State.install_pats (s : State) (slot : Nat) (m : Image) :
    (s.install slot m).pats = Tab.set s.pats slot m.pattern ∧ (s.install slot m).host.ending = s.host.ending := by
  obtain ⟨hpats, hending⟩ := State.sameHost.foldl State.fillRange_sameHost m.pattern.residents s
  exact ⟨congrArg (Tab.set · slot m.pattern) hpats, hending⟩

section
variable {s : State} {q : Nat} {c : Bytes} (ht : s.turnOf q)
include ht

theorem exec_loadPattern_ends {m : Image} {i : Nat} (hok : loadFieldsOk c = true) (hmode : uAt c 24 1 = 0)
    (hslot : uAt c 26 2 < 64 ∨ uAt c 26 2 = 0xFFFF) (hhost : isHost (uAt c 16 8) = false)
    (hm : (s.enterFetched q c).2.checkImage (addrOf (uAt c 16 8)) = .ok m)
    (hi : (s.enterFetched q c).2.loadSlot (uAt c 26 2) = .ok i) :
    ∃ t, exec (.loadPattern q c) s = .next t ∧ t.pats = Tab.set s.pats i m.pattern ∧
      s.endedCmd t q c (if uAt m.bytes 7 1 ≤ 15 then 0 else 1) i := by
  let f := (s.enterFetched q c).1
  let u := (s.enterFetched q c).2
  obtain ⟨b, hb⟩ := State.checkImage_opens hm
  obtain ⟨hline, hclean⟩ := State.openImage_ok hb
  have hslots : (decide (uAt c 26 2 < 64) || uAt c 26 2 == 0xFFFF) = true := by simpa using hslot
  let v := u.install i m
  obtain ⟨hpats, hending⟩ := u.install_pats i m
  have hx : exec (.loadPattern q c) s = .next (
      if uAt m.bytes 7 1 ≤ 15 then v.finish f i
      else (v.log .hostCmd 1 0x2240 2 0 (uAt m.bytes 7 1) 15).endCommand f
        { status := stClamped, result := i, clamps := 1, detail := (v.flash.log.seq + 1) % 2 ^ 32 }) := by
    refine (State.hostCmd_turn ht c _).trans ?_
    simp only [State.loadPattern, show (s.enterFetched q c).1.cmd = c from rfl, hclean, State.readPoison, ite_self]
    simp only [hok, hmode, hline, hhost, hslots, hm, hi]
    rfl
  refine ⟨_, hx, ?_⟩
  split
  · obtain ⟨hend, hmoved⟩ := State.finish_ends (s := s) (q := q) (c := c) (v := v) hending i [] []
    exact ⟨hmoved.pats.trans hpats, hend⟩
  · have hlog := v.log_recorded .hostCmd 1 0x2240 2 0 (uAt m.bytes 7 1) 15 0
    have hend := hlog.ending.trans hending
    exact ⟨hlog.pats.trans hpats, State.endCommand_ends (s := s) (q := q) (c := c) hend
      { status := stClamped, result := i, clamps := 1, detail := (v.flash.log.seq + 1) % 2 ^ 32 } (by decide : stClamped < 256) []⟩

theorem exec_patternUnload_ends {p : Pattern} (hok : loadFieldsOk c = true) (hmode : uAt c 24 1 = 1) (hzero : uAt c 16 8 = 0)
    (hslot : uAt c 26 2 < 64) (hfree : (s.enterFetched q c).2.slotInUse (uAt c 26 2) = false)
    (hp : Tab.get? s.pats (uAt c 26 2) = some p) :
    ∃ t, exec (.patternUnload q c) s = .next t ∧ t.pats = Tab.erase s.pats (uAt c 26 2) ∧ s.endedCmd t q c 0 (uAt c 26 2) := by
  let u := (s.enterFetched q c).2
  have hx : exec (.patternUnload q c) s = .next ((u.unload (uAt c 26 2) p).finish (s.enterFetched q c).1 (uAt c 26 2)) := by
    refine (State.hostCmd_turn ht c _).trans ?_
    simp only [State.unloadPattern, show (s.enterFetched q c).1.cmd = c from rfl, hok, hmode, hzero, hslot, hfree,
      show Tab.get? (s.enterFetched q c).2.pats (uAt c 26 2) = some p from hp]
    rfl
  have hending : (u.unload (uAt c 26 2) p).host.ending = s.host.ending :=
    (State.sameHost.foldl (f := State.copyBack) (fun v r => ⟨rfl, rfl⟩) _ u).2
  obtain ⟨hend, hmoved⟩ := State.finish_ends (s := s) (q := q) (c := c) hending (uAt c 26 2) [] []
  exact ⟨_, hx, hmoved.pats, hend⟩

/-! ### OPEN_SESSION, CLOSE_SESSION (R226, R240) -/

theorem exec_openSession_ends {i : Nat} (hi : (s.enterFetched q c).2.checkOpen c = .ok i) :
    ∃ t st, exec (.openSession q c) s = .next t ∧ st ≤ 1 ∧ s.endedCmd t q c st ((s.session i).tag * 65536 + i) ∧
      (t.session i).status = 1 ∧ (t.session i).tag = (s.session i).tag ∧ (t.session i).set = uAt c 18 1 ∧
      (t.session i).plen = uAt c 20 4 ∧ (t.session i).prompt = uAt c 24 8 ∧ (t.session i).seed = uAt c 32 8 ∧
      (t.session i).pages = [] ∧ (∀ k, k ≠ i → Tab.get? t.sess k = Tab.get? s.sess k) ∧ t.pats = s.pats := by
  let u := (s.enterFetched q c).2
  let l := u.openFields c
  let new : Session := {
    status := 1, set := uAt c 18 1, tag := (s.session i).tag, plen := uAt c 20 4, prompt := uAt c 24 8, seed := uAt c 32 8
    temp := appliedAt l 40, topk := appliedAt l 44, topp := appliedAt l 48, stop := appliedAt l 52, maxpos := appliedAt l 56 }
  let v := (u.clearList i).setSession i new
  have hnew : v.session i = new := Tab.getD_set_same ..
  have hx : exec (.openSession q c) s = .next (v.finish (s.enterFetched q c).1 (v.handle i) (l.filter (fun e => e.2.1 != e.2.2))) := by
    refine (State.hostCmd_turn ht c _).trans ?_
    rw [show (s.enterFetched q c).1.cmd = c from rfl, hi]
    rfl
  obtain ⟨st, hst, hend, hmoved⟩ := State.finish_done (s := s) (q := q) (c := c) (v := v) rfl (v.handle i)
    (l.filter (fun e => e.2.1 != e.2.2)) []
  have hhandle : v.handle i = (s.session i).tag * 65536 + i := by rw [State.handle, hnew]
  have hsess := hmoved.sess
  refine ⟨_, st, hx, hst, hhandle ▸ hend, ?_⟩
  rw [State.session, hsess, show Tab.getD v.sess i {} = new from hnew]
  exact ⟨rfl, rfl, rfl, rfl, rfl, rfl, rfl, fun k hk => Tab.get?_set_ne _ _ hk, hmoved.pats⟩

theorem exec_closeSession_ends {i : Nat} (hi : (s.enterFetched q c).2.checkClose c = .ok i) :
    let next := if (s.session i).tag = 65535 then 1 else (s.session i).tag + 1
    ((bit (uAt c 20 1) 0 = false ∨ (s.session i).pages = []) →
      ∃ t, exec (.closeSession q c) s = .next t ∧ s.endedCmd t q c 0 (uAt c 16 4) ∧ t.session i = { tag := next } ∧
        ∀ p, p ∈ t.pool.used ↔ p ∈ s.pool.used ∧ p ∉ (s.session i).pages) ∧
    (bit (uAt c 20 1) 0 = true → (s.session i).pages ≠ [] →
      ∃ t, exec (.closeSession q c) s = .next t ∧ t.session i = { tag := next } ∧ t.pool.used = s.pool.used ∧
        (uAt c 16 4, (s.session i).pages.map (fun p => (p, s.pageAddr p))) ∈ t.pool.zeroing ∧ t.host.ending = s.host.ending) := by
  intro next
  let u := (s.enterFetched q c).2
  let ps := (s.session i).pages
  have hfreed : (u.freeSlot i).session i = { tag := next } := Tab.getD_set_same ..
  have hx : exec (.closeSession q c) s = .next (u.closeSession (s.enterFetched q c).1 i) := by
    refine (State.hostCmd_turn ht c _).trans ?_
    rw [show (s.enterFetched q c).1.cmd = c from rfl, hi]
    rfl
  have hclose : u.closeSession (s.enterFetched q c).1 i = if bit (uAt c 20 1) 0 ∧ ps ≠ [] then _
      else ((u.freeSlot i).returnPages ps).finish (s.enterFetched q c).1 (uAt c 16 4) := rfl
  rw [hclose] at hx
  refine ⟨fun hend => ?_, fun hzero hpages => ?_⟩
  · have hneg : ¬ (bit (uAt c 20 1) 0 = true ∧ ps ≠ []) := by
      rintro ⟨hbit, hpages⟩
      rcases hend with h | h
      · rw [h] at hbit
        exact Bool.false_ne_true hbit
      · exact hpages h
    rw [if_neg hneg] at hx
    obtain ⟨hend, hmoved⟩ := State.finish_ends (s := s) (q := q) (c := c) (v := (u.freeSlot i).returnPages ps) rfl (uAt c 16 4) [] []
    refine ⟨_, hx, hend, ?_, fun p => ?_⟩
    · rw [State.session, hmoved.sess]
      exact hfreed
    · rw [hmoved.pool]
      exact (List.mem_filter (as := s.pool.used)).trans (and_congr_right fun _ => by simp [ps])
  · rw [if_pos ⟨hzero, hpages⟩] at hx
    exact ⟨_, hx, hfreed, rfl, List.mem_append_right _ (List.mem_singleton_self _), rfl⟩

end

/-- Settles O50: each command's fields are checked at its turn, and its effect is one function of the model. -/
theorem immediateCommandsTakeEffect : Obligations.ImmediateCommandsTakeEffect := by
  intro s q c ht _
  refine ⟨fun m i hok hmode hslot hhost hm hi => exec_loadPattern_ends ht hok hmode hslot hhost hm hi,
    fun p hok hmode hzero hslot hfree hp => exec_patternUnload_ends ht hok hmode hzero hslot hfree hp,
    fun i hi => exec_openSession_ends ht hi, fun i hi => exec_closeSession_ends ht hi, fun hok => exec_hint_ends ht hok,
    fun hok => exec_fence_ends ht hok, fun hok haddr hline hdest => exec_readReceipt_ends ht hok haddr hline hdest,
    fun hok haddr hline hdest => exec_readSignatures_ends ht hok haddr hline hdest⟩

end Sys2Proof.Machine

/-!
PROOFS. How a row closes (R97, R198 to R216): what the close of a failed attempt keeps of it, what the undo gives back, and what the
commit of a waste-yarn row does in a module for which nothing waits.
-/
namespace Sys2Proof.Machine

/-! ### The close of a failed attempt (R198, R211 to R214) -/

/-- `t` is in the attempt of `s`: memory and the run stand, the row is where it was, and no unit is newly suspected. -/
structure State.sameAttempt (s t : State) : Prop where
  mem : t.mem = s.mem
  run : t.run = s.run
  phase : t.row.phase = s.row.phase
  num : t.row.num = s.row.num
  attempt : t.row.attempt = s.row.attempt
  suspects : ∀ u ∈ t.row.suspects, u ∈ s.row.suspects

namespace State.sameAttempt

variable {s t u : State}

theorem refl (s : State) : s.sameAttempt s := ⟨rfl, rfl, rfl, rfl, rfl, fun _ h => h⟩

theorem trans (h : s.sameAttempt t) (h' : t.sameAttempt u) : s.sameAttempt u :=
  ⟨h'.mem.trans h.mem, h'.run.trans h.run, h'.phase.trans h.phase, h'.num.trans h.num, h'.attempt.trans h.attempt,
    fun u hu => h.suspects u (h'.suspects u hu)⟩

/-- What leaves memory, the run and the row alone leaves the attempt alone. -/
theorem of_row (hmem : t.mem = s.mem) (hrun : t.run = s.run) (hrow : t.row = s.row) : s.sameAttempt t :=
  ⟨hmem, hrun, by rw [hrow], by rw [hrow], by rw [hrow], by rw [hrow]; exact fun _ h => h⟩

theorem of_recorded (h : s.recorded t) : s.sameAttempt t := of_row h.mem h.run h.row

theorem of_messaged (h : s.messaged t) : s.sameAttempt t := by
  obtain ⟨_, _, rfl⟩ := h
  exact of_row rfl rfl rfl

theorem foldl {β : Type} {f : State → β → State} (hf : ∀ (u : State) e, u.sameAttempt (f u e)) (l : List β) (s : State) :
    s.sameAttempt (l.foldl f s) := foldl_rel refl trans hf l s

end State.sameAttempt

theorem State.signature_sameAttempt (s : State) (i : SigInfo) : s.sameAttempt (s.signature i) := by
  obtain ⟨htouched, hrow, -⟩ := s.signature_rowTouched i
  exact .of_row htouched.mem htouched.run hrow

/-- A unit that enters the map touches the map, the defect list and what is recorded. -/
theorem State.enterLoss_sameAttempt (s : State) (u : Lost) (cause : Nat) : s.sameAttempt (s.enterLoss u cause) := by
  let a := s.appendDefect .darning (lostDefect cause u)
  let m : MapSt := { (a.map.lose u).1 with entered := if a.map.now.isSome then a.map.entered ++ [u] else [] }
  have ha : s.sameAttempt a := .of_recorded (s.appendDefect_recorded ..)
  have hm : a.sameAttempt { a with map := m } := .of_row rfl rfl rfl
  exact ((ha.trans hm).trans (.of_recorded (State.logSlices_recorded _ a.map))).trans (.of_recorded (State.signDefect_recorded ..))

theorem State.stopDarning_sameAttempt (s : State) : s.sameAttempt s.stopDarning := by
  unfold State.stopDarning
  split
  · refine .trans ?_ (.of_recorded (State.logSlices_recorded _ s.map))
    exact .of_row rfl rfl rfl
  · exact .refl s

/-- A lost unit waits for its darning, or enters the map at once (R346, R355). -/
theorem State.queueLoss_sameAttempt (s : State) (u : Lost) (cause : Nat) : s.sameAttempt (s.queueLoss u cause) := by
  unfold State.queueLoss
  split
  · exact .refl s
  split
  · exact .of_row rfl rfl rfl
  split
  · exact (State.sameAttempt.of_recorded (s.appendDefect_recorded ..)).trans (.of_recorded (State.signDefect_recorded ..))
  split
  · exact s.enterLoss_sameAttempt u cause
  split
  · exact s.enterLoss_sameAttempt u cause
  · refine State.sameAttempt.trans (t := if s.map.uses u then s.stopDarning else s) ?_ (.of_row rfl rfl rfl)
    split
    · exact s.stopDarning_sameAttempt
    · exact .refl s

theorem State.queueUnit_sameAttempt (s : State) (u : Option Lost) (cause : Nat) : s.sameAttempt (s.queueUnit u cause) := by
  cases u with
  | none => exact .refl s
  | some u => exact s.queueLoss_sameAttempt u cause

theorem State.retireEngine_sameAttempt (s : State) (i : Nat) : s.sameAttempt (s.retireEngine i) := by
  unfold State.retireEngine
  split
  · exact .refl s
  · refine .trans ?_ (State.signature_sameAttempt _ _)
    exact (State.sameAttempt.of_recorded (s.logEvent_recorded .module 0x2C02 (i + 1) 1 2)).trans (.of_row rfl rfl rfl)

/-- The retirement of a unit that is neither a ring link, whose loss can end in SAFE, nor a slice. -/
theorem State.retire_sameAttempt (s : State) {u : Suspect} (cause : Nat) (hring : ∀ b i, u ≠ .link (.ring b i))
    (hslice : ∀ i, u ≠ .slice i) : s.sameAttempt (s.retire u cause) := by
  cases u with
  | cell x y => exact s.queueUnit_sameAttempt _ _
  | region r => exact s.queueLoss_sameAttempt _ _
  | block b => exact s.queueLoss_sameAttempt _ _
  | engine i => exact s.retireEngine_sameAttempt i
  | slice i => exact absurd rfl (hslice i)
  | port p => exact .refl s
  | module n => exact .refl s
  | link l =>
    cases l with
    | mesh x y d => exact s.queueUnit_sameAttempt _ _
    | ring b i => exact absurd rfl (hring b i)

theorem State.retire_cell_sameAttempt (s : State) (x y cause : Nat) : s.sameAttempt (s.retire (.cell x y) cause) :=
  s.retire_sameAttempt cause nofun nofun

theorem State.plyRepair_sameAttempt (s : State) (x y : Nat) (p : Place) (cause kind ply i new code : Nat) :
    s.sameAttempt (s.plyRepair x y p cause kind ply i new code) := by
  refine .trans ?_ (State.signature_sameAttempt _ _)
  refine .trans ?_ (.of_recorded (State.appendDefect_recorded ..))
  exact .of_row rfl rfl rfl

theorem State.steer_sameAttempt (s : State) (x y : Nat) (p : Place) (cause : Nat) (l : LocOutcome) :
    s.sameAttempt (s.steer x y p cause l).1 := by
  unfold State.steer
  cases l with
  | column ply col =>
    dsimp only
    split
    · exact s.plyRepair_sameAttempt ..
    · exact s.retire_cell_sameAttempt ..
  | row ply k found =>
    dsimp only
    split
    · exact .refl s
    split
    · exact s.plyRepair_sameAttempt ..
    · exact s.retire_cell_sameAttempt ..
  | _ => exact .refl s

/-- The localisation of a cell: it may leave the suspects, and none joins them (R214). -/
theorem State.localise_sameAttempt (s : State) (cause : Nat) (locs : List Localisation) (x y : Nat) :
    s.sameAttempt (s.localise cause locs x y).1 := by
  unfold State.localise
  cases s.map.place x y with
  | none => exact .refl s
  | some p =>
    dsimp only
    let a := s.setCell x y { s.cell x y with latches := s.lastLatches x y }
    let b : State := { a with row := { a.row with localised := a.row.localised + 1 } }
    have hb : s.sameAttempt b := ⟨rfl, rfl, rfl, rfl, rfl, fun _ h => h⟩
    have hfold := foldl_rel (R := fun (u v : State × Bool) => u.1.sameAttempt v.1) (fun u => .refl u.1) .trans
      (f := fun a l => ((a.1.steer x y p cause l).1, a.2 && (a.1.steer x y p cause l).2))
      (fun u l => u.1.steer_sameAttempt x y p cause l) (s.locOutcomes x y locs) (b, true)
    refine hb.trans (State.sameAttempt.trans hfold ?_)
    split
    · exact ⟨rfl, rfl, rfl, rfl, rfl, fun u hu => (List.mem_filter.mp hu).1⟩
    · exact .refl _

theorem State.localiseAll_sameAttempt (s : State) (cause : Nat) (locs : List Localisation) :
    s.sameAttempt (s.localiseAll cause locs).1 := by
  unfold State.localiseAll
  refine foldl_rel (R := fun (u v : State × List (Nat × Nat × Nat)) => u.1.sameAttempt v.1) (fun u => .refl u.1) .trans
    (fun u e => ?_) s.row.suspects (s, [])
  cases e with
  | cell x y => exact u.1.localise_sameAttempt cause locs x y
  | _ => exact .refl u.1

theorem State.recordFailure_sameAttempt (s : State) (l : List (Nat × Nat × Nat)) : s.sameAttempt (s.recordFailure l) := by
  unfold State.recordFailure
  split
  · exact .refl s
  · exact ⟨rfl, rfl, rfl, rfl, rfl, fun _ h => h⟩

theorem State.recordHistory_sameAttempt (s : State) (outcome : Nat) : s.sameAttempt (s.recordHistory outcome) :=
  ⟨rfl, rfl, rfl, rfl, rfl, fun _ h => h⟩

theorem State.noteSuspects_sameAttempt (s : State) (cause : Nat) : s.sameAttempt (s.noteSuspects cause) := by
  refine .foldl (fun u e => ?_) _ s
  exact ⟨rfl, rfl, rfl, rfl, rfl, fun _ h => h⟩

/-- Units named twice are retired (R211). -/
theorem State.retireRepeated_sameAttempt {s : State} (cause : Nat) (hring : ∀ b i, Suspect.link (.ring b i) ∉ s.row.suspects) :
    s.sameAttempt (s.retireRepeated cause) := by
  have hall : ∀ u ∈ s.row.suspects.filter (fun u => s.row.prevSuspects.contains u && retiresTwice u),
      (∀ b i, u ≠ .link (.ring b i)) ∧ ∀ i, u ≠ .slice i := by
    intro u hu
    obtain ⟨hmem, htwice⟩ := List.mem_filter.mp hu
    refine ⟨fun b i h => hring b i (h ▸ hmem), ?_⟩
    rintro i rfl
    simp [retiresTwice] at htwice
  unfold State.retireRepeated
  generalize s.row.suspects.filter (fun u => s.row.prevSuspects.contains u && retiresTwice u) = l at hall
  induction l generalizing s with
  | nil => exact .refl s
  | cons u l ih =>
    obtain ⟨⟨hr, hs⟩, hl⟩ := List.forall_mem_cons.mp hall
    have hu := s.retire_sameAttempt cause hr hs
    exact hu.trans (ih (fun b i h => hring b i (hu.suspects _ h)) hl)

theorem State.escalate_sameAttempt {s : State} (hring : ∀ b i, Suspect.link (.ring b i) ∉ s.row.suspects) :
    s.sameAttempt s.escalate := by
  let cause := (s.row.alarm.map (·.cause)).getD 0x44
  let a := s.noteSuspects cause
  have ha : s.sameAttempt a := s.noteSuspects_sameAttempt cause
  let b : State := if a.hbmLoss then { a with row := { a.row with
    unrecoverable := true, unrecDetail := (a.row.alarm.map (·.addr)).orElse (fun _ => a.row.unrecDetail) } } else a
  have hb : a.sameAttempt b := by
    simp only [b]
    split
    · exact ⟨rfl, rfl, rfl, rfl, rfl, fun _ h => h⟩
    · exact .refl a
  have hab := ha.trans hb
  refine hab.trans ?_
  show b.sameAttempt (if b.row.unrecoverable ∨ 2 ≤ b.row.attempt then
    (({ b with row := { b.row with unrecoverable := true } } : State).addOb 0x2401 3 1).recordHistory 2 else _)
  split
  · exact ⟨rfl, rfl, rfl, rfl, rfl, fun _ h => h⟩
  · refine (State.retireRepeated_sameAttempt cause fun b i h => hring b i (hab.suspects _ h)).trans ?_
    exact ⟨rfl, rfl, rfl, rfl, rfl, fun _ h => h⟩

theorem State.knowGroup_sameAttempt (s : State) (clean : Bool) : s.sameAttempt (s.knowGroup clean) :=
  ⟨rfl, rfl, rfl, rfl, rfl, fun _ h => h⟩

theorem State.verdictDown_sameAttempt (s : State) (kind : Nat) (v : VerdictMsg) : s.sameAttempt (s.verdictDown kind v) :=
  .foldl (fun u _ => .of_messaged (u.sendControl_messaged ..)) _ s

/-- The aborted row closes: its undo begins (R198). -/
theorem State.closeFailed_undoes {s : State} (locs : List Localisation) (habort : s.row.phase = .aborted)
    (hring : ∀ b i, Suspect.link (.ring b i) ∉ s.row.suspects) :
    let t := s.closeFailed locs
    t.row.phase = .undoing ∧ t.row.num = s.row.num ∧ t.row.attempt = s.row.attempt ∧ t.mem = s.mem ∧ t.run = s.run := by
  let a := s.noteClose
  have ha : s.sameAttempt a := ⟨rfl, rfl, rfl, rfl, rfl, fun _ h => h⟩
  let cause := (a.row.alarm.map (·.cause)).getD 0
  let l := if localisable cause then a.localiseAll cause locs else (a, [])
  have hl : a.sameAttempt l.1 := by
    simp only [l]
    split
    · exact a.localiseAll_sameAttempt cause locs
    · exact .refl a
  let b := l.1.recordFailure l.2
  have hb : s.sameAttempt b := (ha.trans hl).trans (l.1.recordFailure_sameAttempt l.2)
  let c := if b.row.fault.isSome then b.recordHistory 3 else b.escalate
  have hc : b.sameAttempt c := by
    simp only [c]
    split
    · exact b.recordHistory_sameAttempt 3
    · exact State.escalate_sameAttempt fun i j h => hring i j (hb.suspects _ h)
  let d := if c.grouped && c.isRoot && c.row.groupKnown.isNone then
      (c.knowGroup false).verdictDown 4 (c.verdictMsg cause c.moduleId (c.nat 0x2220 2))
    else c
  have hd : c.sameAttempt d := by
    simp only [d]
    split
    · exact (c.knowGroup_sameAttempt false).trans (State.verdictDown_sameAttempt ..)
    · exact .refl c
  obtain ⟨hmem, hrun, hphase, hnum, hattempt, -⟩ := (hb.trans hc).trans hd
  have ht : s.closeFailed locs = if d.row.phase = .idle then d else { d with row := { d.row with phase := .undoing } } := rfl
  intro t
  have ht : t = { d with row := { d.row with phase := .undoing } } := ht.trans (if_neg (by rw [hphase, habort]; decide))
  rw [ht]
  exact ⟨rfl, hnum, hattempt, hmem, hrun⟩

theorem exec_rowClose {s : State} (locs : List Localisation) (hon : s.fe.fe = .on) :
    exec (.rowClose locs) s = .next (s.closeRow locs) :=
  State.whenOn_on (by simp [State.on, hon]) (fun s => s.closeRow locs)

/-! ### The undo (R97, R126, R211, R212) -/

/-- `t` has the outlook of `s`: its device state, run, row, map, cells and entries. -/
structure State.sameOutlook (s t : State) : Prop where
  dev : t.dev = s.dev
  run : t.run = s.run
  row : t.row = s.row
  map : t.map = s.map
  cells : t.cells = s.cells
  obj : t.obj = s.obj

namespace State.sameOutlook

variable {s t u : State}

theorem refl (s : State) : s.sameOutlook s := ⟨rfl, rfl, rfl, rfl, rfl, rfl⟩

theorem trans (h : s.sameOutlook t) (h' : t.sameOutlook u) : s.sameOutlook u :=
  ⟨h'.dev.trans h.dev, h'.run.trans h.run, h'.row.trans h.row, h'.map.trans h.map, h'.cells.trans h.cells, h'.obj.trans h.obj⟩

theorem of_recorded (h : s.recorded t) : s.sameOutlook t := ⟨h.dev, h.run, h.row, h.map, h.cells, h.obj⟩

theorem of_messaged (h : s.messaged t) : s.sameOutlook t := by
  obtain ⟨_, _, rfl⟩ := h
  exact ⟨rfl, rfl, rfl, rfl, rfl, rfl⟩

theorem foldl {β : Type} {f : State → β → State} (hf : ∀ (u : State) e, u.sameOutlook (f u e)) (l : List β) (s : State) :
    s.sameOutlook (l.foldl f s) := foldl_rel refl trans hf l s

theorem grouped (h : s.sameOutlook t) : t.grouped = s.grouped := by rw [State.grouped, State.grouped, State.nat_of_obj_eq h.obj]

theorem darningDue (h : s.sameOutlook t) : t.darningDue = s.darningDue := by rw [State.darningDue, State.darningDue, h.map]

end State.sameOutlook

/-- What is sent of the power plan touches power, the ports and the output (R308, R310). -/
theorem State.fixPlan_sends (s : State) : ∃ p n o, s.fixPlan = { s with power := p, naela := n, out := o } := by
  have hsend (u : State) (row : Nat) : u.messaged (u.sendPlans row) := .foldl (fun v _ => v.sendControl_messaged ..) _ u
  unfold State.fixPlan
  split
  · exact ⟨s.power, s.naela, s.out, rfl⟩
  · dsimp only
    split
    · obtain ⟨n, o, h⟩ := hsend s (s.row.num + 2)
      exact ⟨s.power, n, o, h⟩
    · obtain ⟨n, o, h⟩ := hsend { s with power := { s.power with
        plan := Tab.set (s.power.plan.filter (fun e => decide (s.row.num ≤ e.1))) (s.row.num + 2) (s.planRow (s.row.num + 2))
        planFixed := s.row.num + 2 } } (s.row.num + 2)
      exact ⟨_, n, o, h⟩

theorem State.landHost_sameOutlook (s : State) (a : Nat) (d : Bytes) : s.sameOutlook (s.landHost a d) :=
  ⟨rfl, rfl, rfl, rfl, rfl, rfl⟩

theorem State.landHeld_sameOutlook (s : State) : s.sameOutlook s.landHeld := by
  refine State.sameOutlook.trans (t := { s with hbm := { s.hbm with heldWrites := [] } }) ⟨rfl, rfl, rfl, rfl, rfl, rfl⟩ ?_
  refine .foldl (fun u e => ?_) _ _
  exact u.landHost_sameOutlook e.1 e.2

/-- With no host write held, none lands. -/
theorem State.landHeld_idle {s : State} (h : s.hbm.heldWrites = []) : s.landHeld = s := by
  have hhbm : { s.hbm with heldWrites := [] } = s.hbm := by rw [← h]
  unfold State.landHeld
  simp only [h, hhbm, List.foldl_nil]

theorem State.rewriteHome_sameOutlook (s : State) : s.sameOutlook s.rewriteHome := by
  unfold State.rewriteHome
  split
  · split
    · split
      · exact ⟨rfl, rfl, rfl, rfl, rfl, rfl⟩
      · exact .refl s
    · exact .refl s
  · exact .refl s

theorem State.laneTests_idle {s : State} (h : s.row.lanesDue = []) : s.laneTests = s := by
  have hrow : { s.row with lanesDue := [] } = s.row := by rw [← h]
  unfold State.laneTests
  simp only [h, hrow, List.foldl_nil]

/-- What the plan and the hints do after an undo leaves the outlook, memory and HBM. -/
theorem State.planAfterUndo (s : State) : s.sameOutlook s.fixPlan.dropHints ∧ s.fixPlan.dropHints.mem = s.mem ∧
    s.fixPlan.dropHints.hbm = s.hbm := by
  obtain ⟨p, n, o, h⟩ := s.fixPlan_sends
  rw [h]
  exact ⟨⟨rfl, rfl, rfl, rfl, rfl, rfl⟩, rfl, rfl⟩

/-- What follows the undo, with no lane test due. -/
theorem State.afterUndo_eq {s : State} (hlanes : s.row.lanesDue = []) :
    let a : State := { s with map := { s.map with heldReplay := none } }
    s.afterUndo =
      if !a.comesAgain then { a with row := { a.row with phase := .waiting, prevSuspects := [] } }
      else if a.darningDue then { a with row := { a.row with phase := .darning } }
      else if a.grouped then ({ a with row := { a.row with phase := .waitReplay } } : State).reportUndone
      else { a with row := { a.row with phase := .replayDue, replayAt := a.now } } := by
  intro a
  have ha : a.laneTests = a := State.laneTests_idle hlanes
  have h : ∀ b, a.laneTests = b → s.afterUndo =
      if !b.comesAgain then { b with row := { b.row with phase := .waiting, prevSuspects := [] } }
      else if b.darningDue then { b with row := { b.row with phase := .darning } }
      else if b.grouped then ({ b with row := { b.row with phase := .waitReplay } } : State).reportUndone
      else { b with row := { b.row with phase := .replayDue, replayAt := b.now } } := by
    rintro _ rfl
    rfl
  exact h a ha

section
variable {s : State} (hfault : s.row.fault = none) (halone : s.grouped = false) (hlanes : s.row.lanesDue = [])
include hfault halone hlanes

/-- The undone row is due again (R97). -/
theorem State.afterUndo_replays (hunrec : s.row.unrecoverable = false) (hdarn : s.darningDue = false) :
    s.afterUndo = { s with map := { s.map with heldReplay := none }, row := { s.row with phase := .replayDue, replayAt := s.now } } := by
  let a : State := { s with map := { s.map with heldReplay := none } }
  have hagain : a.comesAgain = true := by simp [State.comesAgain, a, hfault, hunrec]
  have hd : a.darningDue = false := hdarn
  have hg : a.grouped = false := halone
  rw [State.afterUndo_eq hlanes, if_neg (by rw [hagain]; decide), if_neg (by rw [hd]; decide), if_neg (by rw [hg]; decide)]
  rfl

end

/-- A row that cannot be replayed does not come again (R211). -/
theorem State.afterUndo_waits {s : State} (halone : s.grouped = false) (hlanes : s.row.lanesDue = [])
    (hunrec : s.row.unrecoverable = true) :
    s.afterUndo = { s with map := { s.map with heldReplay := none }, row := { s.row with phase := .waiting, prevSuspects := [] } } := by
  let a : State := { s with map := { s.map with heldReplay := none } }
  have hg : a.grouped = false := halone
  have hagain : a.comesAgain = false := by
    rw [State.comesAgain, if_pos (by simp [a, hunrec]), hg]
    rfl
  rw [State.afterUndo_eq hlanes, if_pos (by rw [hagain]; decide)]

theorem exec_rowUndoDone {s : State} (hon : s.fe.fe = .on) (hphase : s.row.phase = .undoing) :
    exec .rowUndoDone s = .next
      ((s.undoImpossible.undoRow.msix 65).landHeld.rewriteHome.endFailedRun.fixPlan.dropHints).afterUndo := by
  refine (State.whenOn_on (by simp [State.on, hon]) State.undoDone).trans ?_
  rw [State.undoDone, if_pos hphase]

/-- The undo of an attempt that is to be repeated (R97, R204). -/
theorem exec_rowUndoDone_replays {s : State} (hon : s.fe.fe = .on) (hphase : s.row.phase = .undoing) (hheld : s.hbm.heldWrites = [])
    (halarm : ∀ a, s.row.alarm = some a → a.cause ≠ 0x21) (hfault : s.row.fault = none) (hunrec : s.row.unrecoverable = false)
    (hdarn : s.darningDue = false) (halone : s.grouped = false) (hlanes : s.row.lanesDue = []) (hcells : s.badCellLogs = [])
    (hrecords : s.badHbmRecords = []) :
    ∃ t, exec .rowUndoDone s = .next t ∧ t.row.phase = .replayDue ∧ t.row.num = s.row.num ∧ t.run = s.run ∧
      t.mem = restoreLines 0 (s.cells.foldl (fun m e => restoreLines (scratchBase + e.1 * 0x1000000) m e.2.undo) s.mem) s.hbm.log ∧
      t.hbm.log = [] ∧ t.hbm.written = [] ∧ t.hbm.rowLines = [] ∧
      ∀ k c, Tab.get? s.cells k = some c → Tab.get? t.cells k = some { c with undo := [], s := c.savedS, p := c.savedP } := by
  let a := s.undoRow.msix 65
  have ha : s.undoRow.recorded a := State.msix_recorded _ 65
  have hahbm : a.hbm = s.undoRow.hbm := by obtain ⟨_, _, _, _, h⟩ := ha; rw [h]
  have hrow : a.row = s.row := ha.row
  have hland : a.landHeld = a := State.landHeld_idle ((congrArg HbmSt.heldWrites hahbm).trans hheld)
  have hhome : a.rewriteHome = a := by
    unfold State.rewriteHome
    rw [hrow]
    split
    · next al h => exact if_neg fun hc => halarm al h hc.1
    · rfl
  have hend : a.endFailedRun = a := by simp only [State.endFailedRun, hrow, hfault, hunrec]; rfl
  have himp : s.undoImpossible = s := by simp [State.undoImpossible, hcells, hrecords]
  obtain ⟨hplan, hmem, hhbm⟩ := a.planAfterUndo
  let b := a.fixPlan.dropHints
  have hbrow : b.row = s.row := hplan.row.trans hrow
  have hback : b.afterUndo = _ := State.afterUndo_replays (s := b) (by rw [hbrow]; exact hfault)
    (hplan.grouped.trans ((State.sameOutlook.of_recorded ha).grouped.trans halone)) (by rw [hbrow]; exact hlanes)
    (by rw [hbrow]; exact hunrec) (hplan.darningDue.trans ((State.sameOutlook.of_recorded ha).darningDue.trans hdarn))
  have hx := exec_rowUndoDone hon hphase
  rw [himp, hland, hhome, hend, hback] at hx
  have hbhbm : b.hbm = s.undoRow.hbm := hhbm.trans hahbm
  refine ⟨_, hx, rfl, (congrArg RowSt.num hbrow :), hplan.run.trans ha.run, hmem.trans ha.mem, (congrArg HbmSt.log hbhbm :),
    (congrArg HbmSt.written hbhbm :), (congrArg HbmSt.rowLines hbhbm :), fun k c hk => ?_⟩
  have hbcells : b.cells = s.cells.map (fun e => (e.1, e.2.undone)) := hplan.cells.trans ha.cells
  show Tab.get? b.cells k = _
  rw [hbcells, Tab.get?_map_snd, hk]
  rfl

/-- A signature counts in NOHASH, and in no other entry. -/
theorem State.signature_nat (s : State) (i : SigInfo) {j k : Nat} (h : okey j k ≠ okey 0x2404 5) :
    (s.signature i).nat j k = s.nat j k := by
  obtain ⟨u, hu, he⟩ := s.signature_eq i
  rw [he, (State.msix_recorded _ 64).nat]
  split
  · exact (State.nat_addOb_ne u 1 h).trans (hu.nat j k)
  · exact hu.nat j k

/-- An error in an undo record makes the row unrecoverable, and leaves its run and the device state (R212). -/
theorem State.undoImpossible_unrecoverable {s : State} (hbad : s.badCellLogs ≠ [] ∨ s.badHbmRecords ≠ []) :
    let t := s.undoImpossible
    t.row.unrecoverable = true ∧ t.dev = s.dev ∧ t.row.waste = s.row.waste ∧ t.row.fault = s.row.fault ∧
      t.row.lanesDue = s.row.lanesDue ∧ t.grouped = s.grouped := by
  intro t
  let cs := s.badCellLogs
  let ls := s.badHbmRecords
  let lost := (s.pats.flatMap (fun e => e.2.residents)).filter (fun r => cs.contains (r.x, r.y))
  let ks := (lost.map (fun r => (r.x, r.y, r.off, r.len))).filter (fun k => !s.map.lostRanges.contains k)
  let a := if s.row.unrecoverable then s else (s.addOb 0x2401 3 1).lastUnrecoverable
  have ha : a.dev = s.dev ∧ a.row.waste = s.row.waste ∧ a.row.fault = s.row.fault ∧ a.row.lanesDue = s.row.lanesDue ∧
      a.nat 0x2220 2 = s.nat 0x2220 2 := by
    simp only [a]
    split
    · exact ⟨rfl, rfl, rfl, rfl, rfl⟩
    · exact ⟨rfl, rfl, rfl, rfl, State.nat_addOb_ne s 1 (by decide)⟩
  obtain ⟨hdev, hwaste, hfault, hlanes, hnat⟩ := ha
  let b : State := { a with
      map := { a.map with lostRanges := a.map.lostRanges ++ ks }
      hbm := { a.hbm with lostRegions := a.hbm.lostRegions ++ (a.regionsOf ls).filter (fun r => !a.hbm.lostRegions.contains r) }
      row := { a.row with unrecoverable := true, unrecDetail := ls.head?.orElse (fun _ => a.row.unrecDetail) } }
  obtain ⟨i, hi⟩ : ∃ i, t = b.signature i := ⟨_, if_neg (by simpa [cs, ls, or_iff_not_imp_left] using hbad)⟩
  obtain ⟨htouched, hrow, -⟩ := b.signature_rowTouched i
  rw [hi, hrow, htouched.dev]
  refine ⟨rfl, hdev, hwaste, hfault, hlanes, ?_⟩
  rw [State.grouped, State.grouped, State.signature_nat _ _ (by decide)]
  exact congrArg (fun n => decide (1 < n)) hnat

theorem State.endRun_ends (s : State) (status detail : Nat) :
    let t := s.endRun status detail
    t.run = none ∧ t.dev = s.dev ∧ t.row = s.row ∧ t.obj = s.obj := by
  have h := s.endRun_stopWork status detail [] false
  refine ⟨?_, h.dev, h.row, ?_⟩
  · unfold State.endRun
    cases hr : s.run with
    | none => exact hr
    | some r => dsimp only; split <;> rfl
  · obtain ⟨_, _, _, _, _, _, _, h, -⟩ := h
    rw [h]

/-- A run's row that cannot be replayed ends the run, and the module is in HOLD (R211, R431). -/
theorem State.endFailedRun_holds {s : State} (hdev : s.dev = .running) (hwaste : s.row.waste = false) (hfault : s.row.fault = none)
    (hunrec : s.row.unrecoverable = true) :
    let t := s.endFailedRun
    t.dev = .hold ∧ t.run = none ∧ t.row.fault = none ∧ t.row.unrecoverable = true ∧ t.row.lanesDue = s.row.lanesDue ∧
      t.grouped = s.grouped := by
  intro t
  let a := s.endRun stUnrecoverable (s.row.unrecDetail.getD 0)
  obtain ⟨hrun, hd, hrow, hobj⟩ : a.run = none ∧ a.dev = s.dev ∧ a.row = s.row ∧ a.obj = s.obj := s.endRun_ends _ _
  let b : State := { a.clearCounts with start := { a.clearCounts.start with holdPend := false } }
  have ht : t = b.enter .hold := by
    have hadev : a.clearCounts.dev = .running := hd.trans hdev
    simp only [t, State.endFailedRun, hfault, hunrec, hwaste, if_true, Bool.false_eq_true, if_false]
    exact if_pos hadev
  obtain ⟨hmoved, hhold, -⟩ := b.enter_moved .hold
  have hbrow : b.row = a.clearCounts.row := rfl
  rw [ht, hmoved.row]
  refine ⟨hhold, ?_, (congrArg RowSt.fault hrow).trans hfault, (congrArg RowSt.unrecoverable hrow).trans hunrec,
    (congrArg RowSt.lanesDue hrow :), ?_⟩
  · obtain ⟨_, _, _, ⟨_, _, _, _, _, _, h⟩, -⟩ := hmoved
    rw [h]
    exact hrun
  · have hnat : (b.enter .hold).nat 0x2220 2 = s.nat 0x2220 2 :=
      (hmoved.nat (by decide) (by decide)).trans (State.nat_of_obj_eq hobj 0x2220 2)
    rw [State.grouped, State.grouped, hnat]

/-- The rest of an undo that has found its row unrecoverable. -/
theorem State.undone_holds {a : State} (hdev : a.dev = .running) (hwaste : a.row.waste = false) (hfault : a.row.fault = none)
    (hunrec : a.row.unrecoverable = true) (hlanes : a.row.lanesDue = []) (halone : a.grouped = false) :
    let t := ((a.undoRow.msix 65).landHeld.rewriteHome.endFailedRun.fixPlan.dropHints).afterUndo
    t.row.phase = .waiting ∧ t.dev = .hold ∧ t.run = none := by
  have hb : a.undoRow.sameOutlook (a.undoRow.msix 65).landHeld.rewriteHome :=
    ((State.sameOutlook.of_recorded (State.msix_recorded _ 65)).trans (State.landHeld_sameOutlook _)).trans
      (State.rewriteHome_sameOutlook _)
  have hrow : (a.undoRow.msix 65).landHeld.rewriteHome.row = a.row := hb.row
  have hgroup : (a.undoRow.msix 65).landHeld.rewriteHome.grouped = false := hb.grouped.trans halone
  have hdev := hb.dev.trans hdev
  generalize (a.undoRow.msix 65).landHeld.rewriteHome = b at hrow hgroup hdev
  rw [← hrow] at hwaste hfault hunrec hlanes
  obtain ⟨hhold, hrun, -, hunrec', hlanes', hgroup'⟩ := State.endFailedRun_holds hdev hwaste hfault hunrec
  obtain ⟨hplan, -, -⟩ := b.endFailedRun.planAfterUndo
  have hback := State.afterUndo_waits (s := b.endFailedRun.fixPlan.dropHints) (hplan.grouped.trans (hgroup'.trans hgroup))
    (by rw [hplan.row]; exact hlanes'.trans hlanes) (by rw [hplan.row]; exact hunrec')
  intro t
  rw [show t = _ from hback]
  exact ⟨rfl, hplan.dev.trans hhold, hplan.run.trans hrun⟩

/-- The undo of an attempt with an error in an undo record (R212, R431). -/
theorem exec_rowUndoDone_holds {s : State} (hon : s.fe.fe = .on) (hphase : s.row.phase = .undoing) (hdev : s.dev = .running)
    (hwaste : s.row.waste = false) (hfault : s.row.fault = none) (halone : s.grouped = false) (hlanes : s.row.lanesDue = [])
    (hbad : s.badCellLogs ≠ [] ∨ s.badHbmRecords ≠ []) :
    ∃ t, exec .rowUndoDone s = .next t ∧ t.row.phase = .waiting ∧ t.dev = .hold ∧ t.run = none := by
  obtain ⟨hunrec, hdev', hwaste', hfault', hlanes', halone'⟩ := State.undoImpossible_unrecoverable hbad
  exact ⟨_, exec_rowUndoDone hon hphase, State.undone_holds (hdev'.trans hdev) (hwaste'.trans hwaste) (hfault'.trans hfault) hunrec
    (hlanes'.trans hlanes) (halone'.trans halone)⟩

/-! ### The hang (R96) -/

theorem exec_rowHang {s : State} (hon : s.fe.fe = .on) (hphase : s.row.phase = .running) :
    (s.row.startNs + s.nat 0x2212 1 * s.periodNs ≤ s.now →
      ∃ t a, exec .rowHang s = .next t ∧ s.attemptFailed t a ∧ a.cause = 0x42 ∧
        a.suspects = s.unended.map (fun c => Suspect.cell c.1 c.2)) ∧
    (s.now < s.row.startNs + s.nat 0x2212 1 * s.periodNs → exec .rowHang s = .next s) := by
  have hson : s.on = true := by simp [State.on, hon]
  refine ⟨fun hlate => ?_, fun hearly => ?_⟩
  · let a : Alarm := { cause := 0x42, x := (s.unended.headD (0, 0)).1, y := (s.unended.headD (0, 0)).2
                       suspects := s.unended.map (fun c => Suspect.cell c.1 c.2) }
    exact ⟨s.failRow a, a, (State.whenOn_on hson _).trans (congrArg _ (if_pos ⟨hphase, hlate⟩)), (s.failRow_rowTouched a).1, rfl, rfl⟩
  · exact (State.whenOn_on hson _).trans (congrArg _ (if_neg fun h => Nat.not_le.mpr hearly h.2))

end Sys2Proof.Machine

/-!
PROOFS. The commit of a waste-yarn row in a quiet module (R91, R215, R216): step by step, what a commit leaves alone, and what it makes
of the row.
-/
namespace Sys2Proof.Machine

/-! ### What a commit leaves alone -/

/-- `t` is `s` but for what the steps of a commit touch where nothing waits: the row, counters, the cells' undo logs, power, flash and
what is sent. -/
structure State.commitKeeps (s t : State) : Prop where
  mem : t.mem = s.mem
  dev : t.dev = s.dev
  run : t.run = s.run
  hbm : t.hbm = s.hbm
  time : t.time = s.time
  held : t.host.held = s.host.held
  ending : t.host.ending = s.host.ending
  fetched : t.host.fetched = s.host.fetched
  holdPend : t.start.holdPend = s.start.holdPend
  afterCommit : t.naela.afterCommit = s.naela.afterCommit
  group : t.nat 0x2220 1 = s.nat 0x2220 1

namespace State.commitKeeps

variable {s t u : State}

theorem refl (s : State) : s.commitKeeps s := ⟨rfl, rfl, rfl, rfl, rfl, rfl, rfl, rfl, rfl, rfl, rfl⟩

theorem trans (h : s.commitKeeps t) (h' : t.commitKeeps u) : s.commitKeeps u :=
  ⟨h'.mem.trans h.mem, h'.dev.trans h.dev, h'.run.trans h.run, h'.hbm.trans h.hbm, h'.time.trans h.time, h'.held.trans h.held,
    h'.ending.trans h.ending, h'.fetched.trans h.fetched, h'.holdPend.trans h.holdPend, h'.afterCommit.trans h.afterCommit,
    h'.group.trans h.group⟩

/-- A change of the row and the cells alone. -/
theorem of_row (s : State) (r : RowSt) (c : Tab CellSt) : s.commitKeeps { s with row := r, cells := c } :=
  ⟨rfl, rfl, rfl, rfl, rfl, rfl, rfl, rfl, rfl, rfl, rfl⟩

/-- A change of flash, the row, MSI-X pending bits and output alone. -/
theorem of_flash (s : State) (f : Flash) (r : RowSt) (p : List Nat) (o : List Output) :
    s.commitKeeps { s with flash := f, row := r, host := { s.host with pendingVec := p }, out := o } :=
  ⟨rfl, rfl, rfl, rfl, rfl, rfl, rfl, rfl, rfl, rfl, rfl⟩

/-- A counter that is not GROUPID. -/
theorem of_addOb (s : State) {i j : Nat} (n : Nat) (h : okey 0x2220 1 ≠ okey i j) : s.commitKeeps (s.addOb i j n) :=
  ⟨rfl, rfl, rfl, rfl, rfl, rfl, rfl, rfl, rfl, rfl, s.nat_addOb_ne n h⟩

end State.commitKeeps

/-- The counters of a committed row (R220). -/
theorem State.addCounters_keeps (s : State) : s.commitKeeps s.addCounters ∧ s.addCounters.row = s.row := by
  unfold State.addCounters
  refine foldl_rel (R := fun (u v : State) => u.commitKeeps v ∧ v.row = u.row) (fun u => ⟨.refl u, rfl⟩)
    (fun h h' => ⟨h.1.trans h'.1, h'.2.trans h.2⟩) (fun u e => ?_) _ s
  split
  · exact ⟨.refl u, rfl⟩
  · exact ⟨.of_addOb u e.2 (by simp only [okey]; omega), rfl⟩

/-- The counters of the update jobs; with no run there are no totals to add to (R215, R254). -/
theorem State.addRunTotals_keeps {s : State} (hrun : s.run = none) : s.commitKeeps s.addRunTotals ∧ s.addRunTotals.row = s.row := by
  let a := if s.row.tclamps = 0 then s else s.addOb 0x2C00 1 s.row.tclamps
  have ha : s.commitKeeps a ∧ a.row = s.row := by
    simp only [a]
    split
    · exact ⟨.refl s, rfl⟩
    · exact ⟨.of_addOb s _ (by decide), rfl⟩
  let b := if s.row.jobs = 0 then a else a.addOb 0x2C03 1 s.row.jobs
  have hb : a.commitKeeps b ∧ b.row = a.row := by
    simp only [b]
    split
    · exact ⟨.refl a, rfl⟩
    · exact ⟨.of_addOb a _ (by decide), rfl⟩
  have hab : s.commitKeeps b ∧ b.row = s.row := ⟨ha.1.trans hb.1, hb.2.trans ha.2⟩
  have ht : s.addRunTotals = b := by
    have hbrun : b.run = none := hab.1.run.trans hrun
    unfold State.addRunTotals
    extract_lets r s₁ s₂
    rw [show s₂.run = none from hbrun]
  rw [ht]
  exact hab

/-- Nothing waits for a commit: no run, no command, no HBM write, message or HOLD, in READY. -/
structure State.commitsAlone (s : State) : Prop where
  dev : s.dev = .ready
  run : s.run = none
  hbm : s.hbm = {}
  held : s.host.held = []
  ending : s.host.ending = []
  fetched : s.host.fetched = []
  holdPend : s.start.holdPend = false
  afterCommit : s.naela.afterCommit = []

theorem State.commitKeeps.alone {s t : State} (h : s.commitKeeps t) (hs : s.commitsAlone) : t.commitsAlone :=
  ⟨h.dev.trans hs.dev, h.run.trans hs.run, h.hbm.trans hs.hbm, h.held.trans hs.held, h.ending.trans hs.ending,
    h.fetched.trans hs.fetched, h.holdPend.trans hs.holdPend, h.afterCommit.trans hs.afterCommit⟩

section
variable {s : State} (hs : s.commitsAlone)
include hs

/-- With no HBM log there is none to drop. -/
theorem State.dropLogs_keeps : s.commitKeeps s.dropLogs ∧ s.dropLogs.row = s.row := by
  refine ⟨⟨rfl, rfl, rfl, ?_, rfl, rfl, rfl, rfl, rfl, rfl, rfl⟩, rfl⟩
  rw [State.dropLogs, hs.hbm]
  rfl

theorem State.runRowDone_alone : s.runRowDone = s := by
  unfold State.runRowDone
  rw [hs.run]

theorem State.endForRemoval_alone : s.endForRemoval = s := if_neg fun h => by simp [hs.dev] at h

theorem State.landHeld_alone : s.landHeld = s := State.landHeld_idle (by rw [hs.hbm])

/-- With no line written no back-invalidate leaves. -/
theorem State.snoopRow_alone : s.snoopRow = s := by
  have hhbm : { s.hbm with rowLines := [] } = s.hbm := by rw [hs.hbm]
  unfold State.snoopRow
  simp only [hs.hbm, List.filter_nil, List.foldl_nil]
  simp only [← hs.hbm]

theorem State.releaseEnding_alone : s.releaseEnding = s := by
  have hhost : { s.host with held := s.host.held ++ s.host.ending, ending := [] } = s.host := by
    rw [hs.ending, List.append_nil, ← hs.ending]
  have h : ∀ h, h = s.host → ({ s with host := h } : State).deliver = s := by
    rintro _ rfl
    exact State.deliver_idle hs.held hs.fetched
  exact h _ hhost

theorem State.giveNewReceipts_alone : s.giveNewReceipts = s := by
  unfold State.giveNewReceipts
  rw [hs.fetched]
  exact ite_self _

theorem State.sendAfterCommit_alone : s.sendAfterCommit = s := by
  have hnaela : { s.naela with afterCommit := [] } = s.naela := by rw [← hs.afterCommit]
  unfold State.sendAfterCommit
  simp only [hs.afterCommit, hnaela, List.foldl_nil]

end

/-- In READY a commit is no end of a bind-off. -/
theorem State.readyNow_ready {s : State} (hdev : s.dev = .ready) : s.readyNow = false := by simp [State.readyNow, hdev]

/-- In READY, with no HOLD waiting, a commit leaves the device state (R337, R430). -/
theorem State.afterCommitState_ready {s : State} (hdev : s.dev = .ready) (hhold : s.start.holdPend = false) :
    s.afterCommitState = s := by
  unfold State.afterCommitState
  rw [if_neg (by rw [State.readyNow_ready hdev]; decide), if_neg (by simp [hdev]), if_neg (by simp [hhold])]

/-! ### What a commit makes of the row -/

/-- The row's number, chain, lateness and history, and the times of its close, are as before. -/
def RowSt.sameClose (r r' : RowSt) : Prop :=
  r'.num = r.num ∧ r'.head = r.head ∧ r'.late = r.late ∧ r'.history = r.history ∧ r'.deadline = r.deadline ∧
    r'.closeNs = r.closeNs ∧ r'.markNs = r.markNs

theorem RowSt.sameClose.refl (r : RowSt) : r.sameClose r := ⟨rfl, rfl, rfl, rfl, rfl, rfl, rfl⟩

/-- The bundle that falls due is signed over the chain, and leaves it (R218). -/
theorem State.dueBundle_keeps (s : State) : s.commitKeeps s.dueBundle ∧ s.row.sameClose s.dueBundle.row := by
  unfold State.dueBundle
  split
  · obtain ⟨f, r, h, hr⟩ : ∃ f r, s.signBundle s.row.forceNew s.row.bindBundle =
        ({ s with flash := f, row := r } : State).msix 67 ∧ s.row.sameClose r :=
      ⟨_, _, rfl, rfl, rfl, rfl, rfl, rfl, rfl, rfl⟩
    obtain ⟨p, out, hm⟩ := State.msix_raises { s with flash := f, row := r } 67
    rw [h, hm]
    exact ⟨.of_flash s f r p out, hr⟩
  · exact ⟨.refl s, .refl _⟩

/-- The history with the entry of a row that commits. -/
def State.committedHistory (s : State) : List Nat :=
  let all := s.row.history ++
    [historyEntry s.row.num s.row.attempt 0 s.row.skippedNow s.row.late s.maxSlips s.stretchShare]
  all.drop (all.length - 4096)

/-- The row as the first part of a commit leaves it. -/
def State.countedRow (s : State) : RowSt := { s.row with history := s.committedHistory, skippedNow := 0 }

/-- The record of a row with no program tells of the row, its time, its group and the commands that end with it (R216). -/
theorem State.rowRecord_keeps {s t : State} (h : s.commitKeeps t) (hr : t.row = s.countedRow) :
    t.rowRecord none = s.rowRecord none := by
  unfold State.rowRecord
  rw [hr, h.group, State.now, h.time, h.ending]
  rfl

theorem State.appendChain_keeps (s : State) (record : Bytes) : s.commitKeeps (s.dropJobs.appendChain record) :=
  ⟨rfl, rfl, rfl, rfl, rfl, rfl, rfl, rfl, rfl, rfl, rfl⟩

/-- The steps of a commit in order (R215): the counts, what the row leads to, the chain, and what the commit releases. -/
theorem State.commitRow_eq (s : State) {p : Option Pattern} {a c d e g : State}
    (hp : (if s.row.waste then none else s.runPattern) = p)
    (ha : ((s.recordHistory 0).dropLogs).addCounters.addRunTotals = a)
    (hc : a.runRowDone.endForRemoval.landHeld.snoopRow.dropJobs = c)
    (hd : c.appendChain (c.rowRecord p) = d)
    (he : (if d.readyNow then { d with row := { d.row with bindBundle := true } } else d) = e)
    (hg : e.dueBundle.releaseEnding.giveNewReceipts.sendAfterCommit.rowAverages.fixPlan.clearCounts = g) :
    s.commitRow = ({ g with row := { g.row with phase := .waiting, prevSuspects := [] } } : State).afterCommitState := by
  unfold State.commitRow
  extract_lets q s₁ s₂ s₃ s₄ r s₅ s₆ s₇
  obtain rfl : p = q := hp.symm
  obtain rfl : a = s₂ := ha.symm
  obtain rfl : c = s₃ := hc.symm
  obtain rfl : d = s₄ := hd.symm
  obtain rfl : e = s₅ := he.symm
  obtain rfl : g = s₇ := hg.symm
  rfl

section
variable {s : State} (hs : s.commitsAlone)
include hs

/-- The first part of a commit: the logs are dropped, the counters counted (R215, R220). -/
theorem State.commit_counts :
    let t := ((s.recordHistory 0).dropLogs).addCounters.addRunTotals
    s.commitKeeps t ∧ t.row = s.countedRow := by
  have ha : s.commitKeeps (s.recordHistory 0) := .of_row s s.countedRow s.cells
  obtain ⟨hb, hbrow⟩ := State.dropLogs_keeps (ha.alone hs)
  have hab := ha.trans hb
  obtain ⟨hc, hcrow⟩ := ((s.recordHistory 0).dropLogs).addCounters_keeps
  have habc := hab.trans hc
  obtain ⟨hd, hdrow⟩ := State.addRunTotals_keeps (habc.run.trans hs.run)
  exact ⟨habc.trans hd, hdrow.trans (hcrow.trans hbrow)⟩

/-- Where nothing waits, a commit has no run, no removal, no write and no back-invalidate to see to. -/
theorem State.commit_rest : s.runRowDone.endForRemoval.landHeld.snoopRow.dropJobs = s.dropJobs := by
  rw [State.runRowDone_alone hs, State.endForRemoval_alone hs, State.landHeld_alone hs, State.snoopRow_alone hs]

/-- What a commit releases, where nothing waits, leaves the chain and the device state (R218, R306). -/
theorem State.commit_releases :
    let g := s.dueBundle.releaseEnding.giveNewReceipts.sendAfterCommit.rowAverages.fixPlan.clearCounts
    g.mem = s.mem ∧ g.dev = s.dev ∧ g.start.holdPend = s.start.holdPend ∧ s.row.sameClose g.row := by
  obtain ⟨hb, hrow⟩ := s.dueBundle_keeps
  have hbs := hb.alone hs
  rw [State.releaseEnding_alone hbs, State.giveNewReceipts_alone hbs, State.sendAfterCommit_alone hbs]
  obtain ⟨p, n, o, hplan⟩ := s.dueBundle.rowAverages.fixPlan_sends
  rw [hplan]
  exact ⟨hb.mem, hb.dev, hb.holdPend, hrow⟩

/-- A waste-yarn row commits: it joins the chain and the history, and the module waits for the next mark (R215, R216). -/
theorem State.commitRow_waits (hwaste : s.row.waste = true) :
    let t := s.commitRow
    t.mem = s.mem ∧ t.dev = .ready ∧ t.row.phase = .waiting ∧ t.row.num = s.row.num ∧
      t.row.head = sha512 (s.row.head ++ leafOf (s.rowRecord none) []) ∧ t.row.late = s.row.late ∧
      t.row.history = s.committedHistory ∧ t.row.deadline = s.row.deadline ∧ t.row.closeNs = s.row.closeNs ∧
      t.row.markNs = s.row.markNs := by
  obtain ⟨ha, hrow⟩ := State.commit_counts hs
  have heq := s.commitRow_eq (if_pos hwaste) rfl (State.commit_rest (ha.alone hs)) rfl
    (if_neg (by rw [State.readyNow_ready ((State.appendChain_keeps _ _).dev.trans (ha.dev.trans hs.dev))]; decide)) rfl
  generalize ((s.recordHistory 0).dropLogs).addCounters.addRunTotals = a at ha hrow heq
  have has := ha.alone hs
  have hd := ha.trans (a.appendChain_keeps (a.dropJobs.rowRecord none))
  have hhead : (a.dropJobs.appendChain (a.dropJobs.rowRecord none)).row.head =
      sha512 (s.row.head ++ leafOf (s.rowRecord none) []) := by
    show sha512 (a.row.head ++ leafOf (a.rowRecord none) a.host.ending) = _
    rw [State.rowRecord_keeps ha hrow, has.ending, hrow]
    rfl
  obtain ⟨hmem, hdev, hhold, hnum, hheads, hlate, hhist, hdead, hclose, hmark⟩ := State.commit_releases (hd.alone hs)
  generalize ((a.dropJobs.appendChain (a.dropJobs.rowRecord none)).dueBundle.releaseEnding.giveNewReceipts.sendAfterCommit.rowAverages
    ).fixPlan.clearCounts = g at heq hmem hdev hhold hnum hheads hlate hhist hdead hclose hmark
  have hready : g.dev = .ready := hdev.trans (hd.dev.trans hs.dev)
  have hhistory : a.row.history = s.committedHistory := by rw [hrow, State.countedRow]
  rw [State.afterCommitState_ready (s := { g with row := { g.row with phase := .waiting, prevSuspects := [] } }) hready
    (hhold.trans (hd.holdPend.trans hs.holdPend))] at heq
  rw [heq]
  exact ⟨hmem.trans hd.mem, hready, rfl, hnum.trans (congrArg RowSt.num hrow :), hheads.trans hhead,
    hlate.trans (congrArg RowSt.late hrow :), hhist.trans hhistory, hdead.trans (congrArg RowSt.deadline hrow :),
    hclose.trans (congrArg RowSt.closeNs hrow :), hmark.trans (congrArg RowSt.markNs hrow :)⟩

end

/-! ### The obligation -/

/-- A clean waste-yarn row of a quiet module closes in time, and commits (R91, R92, R216). -/
theorem exec_rowClose_commits {s : State} (locs : List Localisation) (hrun : s.row.phase = .running) (hwaste : s.row.waste = true)
    (hq : s.quietModule) (htime : s.now ≤ s.row.deadline) (hmark : s.now = s.row.deadline → s.row.markNs < s.row.deadline) :
    ∃ t, exec (.rowClose locs) s = .next t ∧ t.row.phase = .waiting ∧ t.row.num = s.row.num ∧ t.dev = .ready ∧
      t.row.head = sha512 (s.row.head ++ leafOf (s.rowRecord none) []) ∧ t.row.late = 0 ∧ t.mem = s.mem ∧
      t.row.history = (s.row.history ++ [historyEntry s.row.num s.row.attempt 0 s.row.skippedNow 0 s.maxSlips
        s.stretchShare]).drop (s.row.history.length + 1 - 4096) := by
  have hreport : s.reportVerdict = s := if_neg (by simp [hq.one])
  have hends : s.cellsEnded = true := by simp [State.cellsEnded, State.noProgram, hwaste]
  have hacked : s.messagesAcked = true := by simp [State.messagesAcked, hq.naela]
  have hclean : s.verdictClean = true := by simp [State.verdictClean, hq.one]
  let a := s.noteClose
  have ha : a.commitsAlone := ⟨hq.dev, hq.run, hq.hbm, hq.held, hq.ending, hq.fetched, hq.holdPend, congrArg NaelaSt.afterCommit hq.naela⟩
  obtain ⟨hmem, hdev, hphase, hnum, hhead, hlate, hhist, hdead, hclosed, hmarks⟩ := State.commitRow_waits ha hwaste
  have hafter : a.commitRow.afterLateClose = a.commitRow := by
    refine if_neg ?_
    rw [hdead, hclosed, hmarks]
    show ¬ (_ ∧ s.row.deadline ≤ s.now ∧ (s.row.deadline < s.now ∨ s.row.deadline ≤ s.row.markNs))
    omega
  have hclose : s.closeRow locs = a.commitRow := by
    unfold State.closeRow
    rw [if_neg (by rw [hrun]; decide), hreport]
    exact (if_pos ⟨hrun, hends, hacked, hclean⟩).trans hafter
  have hlate0 : a.row.late = 0 := Nat.sub_eq_zero_of_le htime
  have hentry : a.committedHistory = (s.row.history ++ [historyEntry s.row.num s.row.attempt 0 s.row.skippedNow 0 s.maxSlips
      s.stretchShare]).drop (s.row.history.length + 1 - 4096) := by
    rw [State.committedHistory, hlate0, List.length_append, List.length_singleton]
    rfl
  exact ⟨_, (exec_rowClose locs hq.fe).trans (congrArg _ hclose), hphase, hnum, hdev, hhead, hlate.trans hlate0, hmem,
    hhist.trans hentry⟩

/-- Settles O36: the commit of a waste-yarn row, the close of a failed attempt, its undo, and the hang, each by what its steps leave. -/
theorem rowsCommitOrAreUndone : Obligations.RowsCommitOrAreUndone := by
  refine ⟨fun s hon => ⟨?commits, ?fails⟩, fun s hon => ⟨?replays, ?holds, ?hangs, ?goes⟩⟩
  case commits => exact fun locs hrun hwaste hq htime hmark => exec_rowClose_commits locs hrun hwaste hq htime hmark
  case fails =>
    intro locs habort hring
    refine ⟨_, exec_rowClose locs hon, ?_⟩
    rw [State.closeRow, if_pos habort]
    exact State.closeFailed_undoes locs habort hring
  case replays =>
    exact fun hphase hheld halarm hfault hunrec hdarn halone hlanes hcells hrecords =>
      exec_rowUndoDone_replays hon hphase hheld halarm hfault hunrec hdarn halone hlanes hcells hrecords
  case holds =>
    exact fun hphase hdev hwaste hfault halone hlanes hbad => exec_rowUndoDone_holds hon hphase hdev hwaste hfault halone hlanes hbad
  case hangs => exact fun hphase => (exec_rowHang hon hphase).1
  case goes => exact fun hphase => (exec_rowHang hon hphase).2

end Sys2Proof.Machine

/-!
PROOFS. A lost unit is queued for darning and fails the attempt; a latched fault leaves no run, no command and no darning, and the
release of the completions brings none back.
-/
namespace Sys2Proof.Machine

/-! ### The release of completions (R369, R370, R376) -/

/-- `t` is `s` but for what the delivery of completions touches: the host's side, the queues, memory, the run; a run that has ended
and commands that are gone do not come back. -/
def State.delivered (s t : State) : Prop :=
  ∃ fl st h r qs m hm hb o, t = { s with
    flash := fl, start := st, host := h, run := r, queues := qs, mem := m, hostMem := hm, hbm := hb, out := o } ∧
    (s.host.fetched = [] → h.fetched = []) ∧ (s.run = none → r = none)

namespace State.delivered

variable {s t u : State}

theorem refl (s : State) : s.delivered s := ⟨_, _, _, _, _, _, _, _, _, rfl, id, id⟩

theorem trans : s.delivered t → t.delivered u → s.delivered u := by
  rintro ⟨_, _, _, _, _, _, _, _, _, rfl, hf, hr⟩ ⟨_, _, _, _, _, _, _, _, _, rfl, hf', hr'⟩
  exact ⟨_, _, _, _, _, _, _, _, _, rfl, hf' ∘ hf, hr' ∘ hr⟩

theorem foldl {β : Type} {f : State → β → State} (hf : ∀ (u : State) e, u.delivered (f u e)) (l : List β) (s : State) :
    s.delivered (l.foldl f s) := foldl_rel refl trans hf l s

theorem of_recorded : s.recorded t → s.delivered t := by
  rintro ⟨_, _, _, _, rfl⟩
  exact ⟨_, _, _, _, _, _, _, _, _, rfl, id, id⟩

/-- A change of the host's side that fetches nothing. -/
theorem of_host {h : HostSt} (hf : s.host.fetched = [] → h.fetched = []) : s.delivered { s with host := h } :=
  ⟨_, _, _, _, _, _, _, _, _, rfl, hf, id⟩

/-- A change of the run that ended stays none. -/
theorem of_run {r : Option RunSt} (hr : s.run = none → r = none) : s.delivered { s with run := r } :=
  ⟨_, _, _, _, _, _, _, _, _, rfl, id, hr⟩

theorem of_setQueue (s : State) (q : Nat) (v : QueuePair) : s.delivered (s.setQueue q v) :=
  ⟨_, _, _, _, _, _, _, _, _, rfl, id, id⟩

theorem run (h : s.delivered t) : s.run = none → t.run = none := by
  obtain ⟨_, _, _, _, _, _, _, _, _, rfl, -, hr⟩ := h
  exact hr

/-- A module in SAFE is in SAFE still. -/
theorem latchedSafe (h : s.delivered t) : s.latchedSafe → t.latchedSafe := by
  obtain ⟨_, _, _, _, _, _, _, _, _, rfl, hf, hr⟩ := h
  rintro ⟨hdev, hphase, hrun, hfetched, hqueue, hnow, hpower⟩
  exact ⟨hdev, hphase, hr hrun, hf hfetched, hqueue, hnow, hpower⟩

end State.delivered

theorem State.endCommand_delivered (s : State) (f : Fetched) (c : Completion) (writes : List (Nat × Bytes)) (digests : List Bytes)
    (digAddr : Nat) (needDigest : Bool) : s.delivered (s.endCommand f c writes digests digAddr needDigest) :=
  .of_host fun h => by rw [h]; rfl

theorem State.abortFetched_delivered (s : State) (sel : Fetched → Bool) : s.delivered (s.abortFetched sel) :=
  .foldl (fun u _ => u.endCommand_delivered ..) _ _

theorem State.settleFences_delivered (s : State) : s.delivered s.settleFences := by
  refine .foldl (fun u f => ?_) _ _
  exact iteInduction (fun _ => u.endCommand_delivered ..) (fun _ => .refl u)

theorem State.settleQueue_delivered (s : State) (q : Nat) : s.delivered (s.settleQueue q) := by
  unfold settleQueue
  exact iteInduction (fun _ => .of_setQueue ..) (fun _ => .refl s)

theorem State.breakQueue_delivered (s : State) (q : Nat) : s.delivered (s.breakQueue q) := by
  unfold breakQueue
  refine .trans (.trans (.trans (.of_setQueue s q _) (State.abortFetched_delivered _ _)) (.of_run ?_))
    (State.settleQueue_delivered _ q)
  intro h
  simp [h]

theorem State.writeField_delivered (s : State) (a : Nat) (bs : Bytes) : s.delivered (s.writeField a bs) := by
  unfold writeField
  refine iteInduction (fun _ => ?_) (fun _ => .foldl (fun u p => ?_) _ s)
  · exact ⟨_, _, _, _, _, _, _, _, _, rfl, id, id⟩
  · exact ⟨_, _, _, _, _, _, _, _, _, rfl, id, id⟩

theorem State.coalesce_delivered (s : State) (q : Nat) : s.delivered (s.coalesce q) := by
  unfold coalesce
  refine iteInduction (fun _ => ?_) (fun _ => .of_setQueue ..)
  exact iteInduction (fun _ => .trans (.of_setQueue ..) (.of_recorded (State.msix_recorded ..))) (fun _ => .of_setQueue ..)

theorem State.writeCompletion_delivered (s : State) (e : Ended) : s.delivered (s.writeCompletion e) := by
  have hite {b : Prop} [Decidable b] {t u : State} (ht : s.delivered t) (hu : t.delivered u) : s.delivered (if b then u else t) :=
    iteInduction (fun _ => ht.trans hu) (fun _ => ht)
  unfold writeCompletion
  dsimp only
  refine hite (.trans (.trans (hite (.foldl (fun u w => ?_) _ s) (.of_recorded (State.log_recorded ..)))
    (State.writeField_delivered ..)) (.of_setQueue ..)) (State.coalesce_delivered ..)
  exact iteInduction (fun _ => u.writeField_delivered ..) (fun _ => .refl u)

theorem State.offer_delivered (s : State) (e : Ended) : s.delivered (s.offer e) := by
  have hfull (v : Bool) : s.delivered (s.setFull e.queue v) := .of_setQueue ..
  unfold offer
  dsimp only
  refine iteInduction (fun _ => (hfull false).trans (State.settleQueue_delivered ..)) fun _ => ?_
  refine iteInduction (fun _ => .of_host id) fun _ => ?_
  refine iteInduction (fun _ => (hfull true).trans (.of_host id)) fun _ => ?_
  refine iteInduction (fun _ => (hfull false).trans (State.breakQueue_delivered ..)) fun _ => ?_
  refine .trans (iteInduction (fun _ => (hfull false).trans ?_) (fun _ => hfull false))
    (.trans (State.writeCompletion_delivered _ e) (State.settleQueue_delivered ..))
  exact ⟨_, _, _, _, _, _, _, _, _, rfl, id, id⟩

theorem State.deliver_delivered (s : State) : s.delivered s.deliver := by
  let u : State := { s with host := { s.host with held := [] } }
  have hu : s.delivered u := .of_host id
  exact (hu.trans (.foldl State.offer_delivered s.host.held u)).trans (State.settleFences_delivered _)

theorem State.releaseEnding_delivered (s : State) : s.delivered s.releaseEnding := by
  let u : State := { s with host := { s.host with held := s.host.held ++ s.host.ending, ending := [] } }
  have hu : s.delivered u := .of_host id
  exact hu.trans u.deliver_delivered

/-! ### A latched fault (R317, R377, R431) -/

/-- Aborting commands one by one leaves the commands that none of them is. -/
theorem State.foldl_endCommand_fetched (c : Completion) (l : List Fetched) (s : State) :
    (l.foldl (fun s f => s.endCommand f c) s).host.fetched = s.host.fetched.filter (fun g => l.all (fun f => g.no != f.no)) := by
  induction l generalizing s with
  | nil => simp
  | cons f l ih =>
    rw [List.foldl_cons, ih]
    simp [endCommand, List.filter_filter, Bool.and_comm]

/-- Aborting every command leaves none. -/
theorem State.abortFetched_all (s : State) : (s.abortFetched (fun _ => true)).host.fetched = [] := by
  unfold abortFetched
  rw [State.foldl_endCommand_fetched, List.filter_eq_nil_iff]
  intro g hg hall
  rw [List.all_eq_true] at hall
  simpa using hall g (by simpa using hg)

/-- Signing off the run and every command leaves neither, and of SAFE everything else. -/
theorem State.abortAll_latchedSafe {s : State} (hdev : s.dev = .safe) (hphase : s.row.phase = .idle) (hqueue : s.map.queue = [])
    (hnow : s.map.now = none) (hpower : s.power.groupsOff = true) : s.abortAll.latchedSafe := by
  let u := s.endRun stAborted 0
  have hrun : u.run = none := (s.endRun_ends stAborted 0).1
  have hfetched : s.abortAll.host.fetched = [] := u.abortFetched_all
  have hended : s.abortAll.run = none := (u.abortFetched_delivered _).run hrun
  obtain ⟨_, _, _, _, _, _, _, h, -⟩ := (s.endRun_stopWork stAborted 0 [] false).trans (u.abortFetched_stopWork fun _ => true)
  have h : s.abortAll = _ := h
  rw [h] at hfetched hended ⊢
  exact ⟨hdev, hphase, hended, hfetched, hqueue, hnow, hpower⟩

/-- A latched fault of an operating module leaves it in SAFE. -/
theorem State.latchSafe_latchedSafe {s : State} (cause : Option Nat) (hsafe : s.dev ≠ .safe) (hoff : s.dev ≠ .off) :
    (s.latchSafe cause).latchedSafe := by
  let d : Nat × State := match cause with
    | some c => (c, s)
    | none => s.draw
  let u := ((d.2.enter .safe).setSubstate 0).setOb 0x2200 3 (d.1 % 65536 : Nat)
  have hu : u.dev = .safe := ((d.2.enter .safe).setSubstate_moved 0).2.1.trans (d.2.enter_moved .safe).2.1
  let v : State := { u.groupsOff with
    row := { u.row with phase := .idle }
    flash := { u.flash with owed := u.flash.owed ++ u.map.queue.map (fun q : Lost × Nat => lostDefect q.2 q.1) }
    map := { u.map with queue := [], redo := [], now := none } }
  let i : SigInfo := { mech := d.1 % 65536, action := 15 }
  have hlast : s.latchSafe cause = ((v.signature i).msix 65).abortAll.releaseEnding :=
    if_neg (by simp [hsafe, hoff])
  have hw : v.recorded ((v.signature i).msix 65) := (v.signature_recorded rfl).trans (State.msix_recorded ..)
  rw [hlast]
  refine (State.releaseEnding_delivered _).latchedSafe ?_
  obtain ⟨_, _, _, _, hw⟩ := hw
  rw [hw]
  exact State.abortAll_latchedSafe hu rfl rfl rfl rfl

/-! ### Lost units (R143, R341, R342) -/

/-- A unit that carries logical work, lost in a run's row, joins the queue of the darnings and fails the attempt (R342). -/
theorem State.loseUnit_running {s : State} {u : Lost} (a : Alarm) (hdev : s.dev = .running) (hrow : s.row.phase = .running)
    (hwaste : s.row.waste = false) (hnow : s.map.now = none) (hk : s.map.known u = false) (hc : s.map.carries u = true) :
    s.attemptFailed (s.loseUnit u a) a ∧
      (s.loseUnit u a).map = { s.map with queue := s.map.queue ++ [(u, a.cause)] } := by
  have huses : s.map.uses u = false := by simp [MapSt.uses, hnow]
  let q : State := { s with map := { s.map with queue := s.map.queue ++ [(u, a.cause)] } }
  have hq : s.queueLoss u a.cause = q := by
    unfold queueLoss
    simp [hk, hdev, hc, huses, q]
  have hlose : s.loseUnit u a = q.failRow a := by
    unfold loseUnit
    simp only [hq, hk, hrow, Bool.not_false, beq_self_eq_true, Bool.true_or, Bool.true_and, if_true]
    exact State.raise_running q a true hrow hwaste
  obtain ⟨hfailed, htouched⟩ := q.failRow_rowTouched a
  rw [hlose]
  exact ⟨hfailed, htouched.map⟩

/-- Settles O32: each loss is that of a unit of the running row, the chip tree's disagreement a latched fault. -/
theorem lostUnitsAreQueuedForDarning : Obligations.LostUnitsAreQueuedForDarning := by
  intro s hfe hdev hrow hwaste hnow
  have hon : s.on = true := by simp [State.on, hfe]
  refine ⟨fun x y hcell => s.unit_on _ _ hcell hon _, fun x y u hcell hunit hk hc => ?_, fun r hr hk hc => ⟨?_, ?_⟩, ?_⟩
  case refine_1 =>
    let t := s.setCell x y { s.cell x y with hbAge := max 4096 (s.cell x y).hbAge }
    have hlose : t.loseCell x y 0x40 = t.loseUnit u { cause := 0x40, x := x, y := y, suspects := [.cell x y] } := by
      unfold State.loseCell
      rw [show t.cellUnit x y = some u from hunit]
    refine ⟨t.loseCell x y 0x40, s.unit_on _ _ hcell hon _, ?_⟩
    rw [hlose]
    exact State.loseUnit_running (s := t) _ hdev hrow hwaste hnow hk hc
  case refine_2 =>
    let t := s.setReg r { s.reg r with heart := false }
    have hx : exec (.regionHeartbeatLost r) s = .next (t.loseRegion r) := s.unit_on _ _ (decide_eq_true hr) hon _
    exact ⟨_, hx, State.loseUnit_running (s := t) _ hdev hrow hwaste hnow hk hc⟩
  case refine_3 =>
    exact ⟨s.loseRegion r, s.unit_on _ _ (decide_eq_true hr) hon _, State.loseUnit_running _ hdev hrow hwaste hnow hk hc⟩
  case refine_4 =>
    exact ⟨s.latchSafe none, State.whenOn_on hon (State.latchSafe · none), State.latchSafe_latchedSafe none (by simp [hdev]) (by simp [hdev])⟩

end Sys2Proof.Machine

/-!
PROOFS. Loose traffic: a request leaves and is outstanding, its line is looked up in the merge table, and the responses held there
leave in packets of up to 8 destinations.
-/
namespace Sys2Proof.Machine

section Requests

variable {s : State} {rx ry : Nat}

/-! ### Requests (R134, R135) -/

/-- A READ of a live cell with room for one more request. -/
theorem exec_looseRead {n : Nat} (a : Nat) (hlive : s.cellLive rx ry) (hroom : (s.cell rx ry).loose < 16) (hn : 1 ≤ n) (hn' : n ≤ 16) :
    exec (.looseRead rx ry a n) s = .next (s.looseRead rx ry (a / 64 * 64) n) := by
  obtain ⟨hcell, hon, hruns⟩ := hlive
  have hask : s.canAsk rx ry = true := by simp [State.canAsk, hruns, hroom]
  exact (s.unit_on _ _ hcell hon _).trans (congrArg Host.Outcome.next (if_pos ⟨hask, hn, hn'⟩))

/-- A WRITE of a live cell with room for one more request. -/
theorem exec_looseWrite {bs : Bytes} (a : Nat) (hlive : s.cellLive rx ry) (hroom : (s.cell rx ry).loose < 16)
    (hlines : bs.length % 64 = 0) (hlo : 64 ≤ bs.length) (hhi : bs.length ≤ 1024) :
    exec (.looseWrite rx ry a bs) s = .next (s.looseWrite rx ry (a / 64 * 64) bs) := by
  obtain ⟨hcell, hon, hruns⟩ := hlive
  have hask : s.canAsk rx ry = true := by simp [State.canAsk, hruns, hroom]
  exact (s.unit_on _ _ hcell hon _).trans (congrArg Host.Outcome.next (if_pos ⟨hask, hlines, hlo, hhi⟩))

/-- A response to a cell that has not fetched its END. -/
theorem exec_looseResponse (hlive : s.cellLive rx ry) (hout : 0 < (s.cell rx ry).loose) (hphase : (s.cell rx ry).phase ≠ .endFetched) :
    exec (.looseResponse rx ry) s = .next (s.setCell rx ry { s.cell rx ry with loose := (s.cell rx ry).loose - 1 }) := by
  obtain ⟨hcell, hon, hruns⟩ := hlive
  have hrow : s.rowRuns = true := (Bool.and_eq_true_iff.mp hruns).1
  let t := s.setCell rx ry { s.cell rx ry with loose := (s.cell rx ry).loose - 1 }
  have hend : t.tryEnd rx ry = t := if_neg (by simp [t, hphase])
  exact (s.unit_on _ _ hcell hon _).trans (congrArg Host.Outcome.next ((if_pos ⟨hrow, hout⟩).trans hend))

/-- A request leaves every other cell as it was. -/
theorem State.asked_cell_ne (p : Packet) {x y : Nat} (h : cellNo x y ≠ cellNo rx ry) : (s.asked rx ry p).cell x y = s.cell x y :=
  s.cell_setCell_ne _ h

theorem State.asked_loose (p : Packet) : ((s.asked rx ry p).cell rx ry).loose = (s.cell rx ry).loose + 1 :=
  congrArg CellSt.loose (s.cell_setCell_same rx ry _)

/-! ### Reads (R137, R138, R140, R153) -/

/-- A READ of one line of a cell, within reach and outside the program and constant areas, is looked up there. -/
theorem State.looseRead_line {a k : Nat} (hk : cellAt a = some k) (hplaced : s.cellPlaced k = true)
    (hreach : a % 0x1000000 + 64 ≤ reachEnd) (hareas : s.meetsAreas (k % 48) (k / 48) (a % 0x1000000) 64 = false) :
    s.looseRead rx ry a 1 =
      (s.asked rx ry (meshPacket 0 (rx, ry) [(k % 48, k / 48)] [])).lookup (k % 48) (k / 48) (a % 0x1000000) (rx, ry) := by
  have hin : ¬ reachEnd < a % 0x1000000 + 64 := by omega
  simp [State.looseRead, hk, hplaced, hin, hareas]

/-- A READ of HBM is answered with the bytes there. -/
theorem State.looseRead_hbm {a n : Nat} {b : Bytes} (hk : cellAt a = none) (hb : s.readHbm a (64 * n) = .ok b) :
    s.looseRead rx ry a n = (s.asked rx ry (s.hbmPacket 0 rx ry a [])).sendPackets [s.hbmPacket 1 rx ry a b] := by
  simp only [State.looseRead, hk, hb]

/-- The first READ of a line opens an entry. -/
theorem State.lookup_opens {x y line : Nat} (r : Nat × Nat) (hno : (s.cell x y).merge.any (fun e => e.line == line) = false)
    (hroom : (s.cell x y).merge.length < 32) :
    s.lookup x y line r =
      s.setCell x y { s.cell x y with merge := (s.cell x y).merge ++ [{ line := line, held := [r], opening := true }] } := by
  simp only [State.lookup, hno, hroom, Bool.false_eq_true, if_false, if_true]

/-- A READ of a line with an open entry joins its response, or is held once that has left. -/
theorem State.lookup_joins {x y line : Nat} (r : Nat × Nat) (hopen : (s.cell x y).merge.any (fun e => e.line == line) = true) :
    s.lookup x y line r = s.setCell x y { s.cell x y with merge := (s.cell x y).merge.map (fun e =>
      if e.line = line then { e with held := e.held ++ [r], holding := !e.opening } else e) } := by
  simp only [State.lookup, hopen, if_true]

/-- A requester other than the cell looked up. -/
theorem cellNo_ne_of_ne {k : Nat} (hr : isCell rx ry = true) (hne : (rx, ry) ≠ (k % 48, k / 48)) :
    cellNo (k % 48) (k / 48) ≠ cellNo rx ry := by
  obtain ⟨hx, -⟩ : rx < 48 ∧ ry < 36 := by simpa [isCell] using hr
  intro he
  simp only [cellNo] at he
  exact hne (Prod.ext (by simp only; omega) (by simp only; omega))

/-- The READ of a line that no entry holds. -/
theorem State.looseRead_opens {a k : Nat} (hr : isCell rx ry = true) (hk : cellAt a = some k) (hplaced : s.cellPlaced k = true)
    (hreach : a % 0x1000000 + 64 ≤ reachEnd) (hareas : s.meetsAreas (k % 48) (k / 48) (a % 0x1000000) 64 = false)
    (hne : (rx, ry) ≠ (k % 48, k / 48)) (hno : (s.cell (k % 48) (k / 48)).merge.any (fun e => e.line == a % 0x1000000) = false)
    (hroom : (s.cell (k % 48) (k / 48)).merge.length < 32) :
    let t := s.looseRead rx ry a 1
    t.out = .packet (meshPacket 0 (rx, ry) [(k % 48, k / 48)] []) :: s.out ∧
      (t.cell (k % 48) (k / 48)).merge =
        (s.cell (k % 48) (k / 48)).merge ++ [{ line := a % 0x1000000, held := [(rx, ry)], opening := true }] ∧
      (t.cell rx ry).loose = (s.cell rx ry).loose + 1 ∧ t.mem = s.mem := by
  have hcells := cellNo_ne_of_ne hr hne
  let u := s.asked rx ry (meshPacket 0 (rx, ry) [(k % 48, k / 48)] [])
  have hu : u.cell (k % 48) (k / 48) = s.cell (k % 48) (k / 48) := State.asked_cell_ne _ hcells
  rw [State.looseRead_line hk hplaced hreach hareas, State.lookup_opens (s := u) _ (by rw [hu]; exact hno) (by rw [hu]; exact hroom), hu]
  refine ⟨rfl, by rw [State.cell_setCell_same], ?_, rfl⟩
  rw [State.cell_setCell_ne _ _ hcells.symm]
  exact State.asked_loose _

/-- The READ of a line whose entry is open. -/
theorem State.looseRead_joins {a k : Nat} (hr : isCell rx ry = true) (hk : cellAt a = some k) (hplaced : s.cellPlaced k = true)
    (hreach : a % 0x1000000 + 64 ≤ reachEnd) (hareas : s.meetsAreas (k % 48) (k / 48) (a % 0x1000000) 64 = false)
    (hne : (rx, ry) ≠ (k % 48, k / 48)) (hopen : (s.cell (k % 48) (k / 48)).merge.any (fun e => e.line == a % 0x1000000) = true) :
    let t := s.looseRead rx ry a 1
    t.out = .packet (meshPacket 0 (rx, ry) [(k % 48, k / 48)] []) :: s.out ∧
      (∀ e ∈ (t.cell (k % 48) (k / 48)).merge, e.line = a % 0x1000000 → (rx, ry) ∈ e.held ∧ e.holding = !e.opening) ∧
      (t.cell rx ry).loose = (s.cell rx ry).loose + 1 ∧ t.mem = s.mem := by
  have hcells := cellNo_ne_of_ne hr hne
  let u := s.asked rx ry (meshPacket 0 (rx, ry) [(k % 48, k / 48)] [])
  have hu : u.cell (k % 48) (k / 48) = s.cell (k % 48) (k / 48) := State.asked_cell_ne _ hcells
  rw [State.looseRead_line hk hplaced hreach hareas, State.lookup_joins (s := u) _ (by rw [hu]; exact hopen), hu]
  refine ⟨rfl, ?_, ?_, rfl⟩
  · rw [State.cell_setCell_same]
    intro e he hline
    obtain ⟨f, -, rfl⟩ := List.mem_map.mp he
    by_cases hf : f.line = a % 0x1000000
    · simp [hf]
    · rw [if_neg hf] at hline
      exact absurd hline hf
  · rw [State.cell_setCell_ne _ _ hcells.symm]
    exact State.asked_loose _

/-! ### Writes (R139) -/

/-- A WRITE that its cell may make lands, and is acknowledged. -/
theorem State.looseWrite_cell {a k : Nat} {bs : Bytes} (hk : cellAt a = some k) (hplaced : s.cellPlaced k = true)
    (hcan : s.canWrite (k % 48) (k / 48) (a % 0x1000000) bs.length) :
    ∃ u, s.looseWrite rx ry a bs = (u.asked rx ry (meshPacket 0 (rx, ry) [(k % 48, k / 48)] bs)).sendPackets
        [meshPacket 1 (k % 48, k / 48) [(rx, ry)] []] ∧ s.cellWrote u (k % 48) (k / 48) (a % 0x1000000) bs := by
  obtain ⟨u, hu, hwrote, -⟩ := State.writeCell_ok hcan
  exact ⟨u, by simp [State.looseWrite, hk, hplaced, hu], hwrote⟩

end Requests

/-! ### Merged responses (R139, R140) -/

/-- Packet `n` of responses that leave together has the destinations from `8 * n` on, up to 8, and their data. -/
theorem multicast_getElem? (src : Nat × Nat) (dests : List (Nat × Nat)) (data : Bytes) {n : Nat}
    (hn : n < (multicast src dests data).length) :
    (multicast src dests data)[n]? = some (meshPacket 1 src ((dests.drop (8 * n)).take 8) data) := by
  have hn' : n < cdiv dests.length 8 := by simpa [multicast] using hn
  simp [multicast, hn']

section Merge

variable {s : State} {x y : Nat} {e : MergeEnt} (hmerge : (s.cell x y).merge = [e])
include hmerge

/-- What a lone entry holds leaves, and the entry stays. -/
theorem State.release_lone : s.release x y e.line =
    { s.setCell x y { s.cell x y with merge := [{ e with held := [], holding := false, opening := false }] } with
      out := ((multicast (x, y) e.held (s.scratch x y e.line 64)).map Output.packet).reverse ++ s.out } := by
  simp only [State.release, State.sendPackets, hmerge, List.filter_cons, beq_self_eq_true, if_true, List.filter_nil,
    List.flatMap_cons, List.flatMap_nil, List.append_nil, List.map_cons, List.map_nil]
  rfl

/-- A lone entry closes, and what it holds leaves. -/
theorem State.closeMerge_lone : s.closeMerge x y [e.line] =
    { s.setCell x y { s.cell x y with merge := [] } with
      out := ((multicast (x, y) e.held (s.scratch x y e.line 64)).map Output.packet).reverse ++ s.out } := by
  simp [State.closeMerge, State.sendPackets, hmerge, State.setCell]

/-- With one cell in the table, whose lone entry's opening response is ready, that response leaves. -/
theorem State.openingsLeave_lone (hcell : isCell x y = true) (hopening : e.opening = true)
    (hcells : s.cells = [(cellNo x y, s.cell x y)]) : s.openingsLeave = s.release x y e.line := by
  obtain ⟨hx, -⟩ : x < 48 ∧ y < 36 := by simpa [isCell] using hcell
  have hmod : cellNo x y % 48 = x := by simp only [cellNo]; omega
  have hdiv : cellNo x y / 48 = y := by simp only [cellNo]; omega
  unfold State.openingsLeave
  rw [hcells]
  simp [hmerge, hopening, hmod, hdiv]

end Merge

/-- Settles O34: requests by what `looseRead` and `looseWrite` come to, responses by the release and the close of a lone entry. -/
theorem looseRequestsAndMerging : Obligations.LooseRequestsAndMerging := by
  refine ⟨fun s rx ry hlive hroom => ⟨?reads, ?hbm, ?writes, fun hout hphase => exec_looseResponse hlive hout hphase⟩, ?merge⟩
  case reads =>
    intro a k hk ha hplaced hreach hareas hne
    have hx : exec (.looseRead rx ry a 1) s = .next (s.looseRead rx ry a 1) := by
      rw [exec_looseRead a hlive hroom (by decide) (by decide), show a / 64 * 64 = a by omega]
    exact ⟨fun hno hfree => ⟨_, hx, State.looseRead_opens hlive.1 hk hplaced hreach hareas hne hno hfree⟩,
      fun hopen => ⟨_, hx, State.looseRead_joins hlive.1 hk hplaced hreach hareas hne hopen⟩⟩
  case hbm =>
    intro a n b hk hn hn' hb
    rw [exec_looseRead a hlive hroom hn hn', State.looseRead_hbm hk hb]
  case writes =>
    intro a k bs hk ha hplaced hlines hlo hhi hcan
    obtain ⟨u, hu, hwrote⟩ := State.looseWrite_cell (rx := rx) (ry := ry) hk hplaced hcan
    refine ⟨u, ?_, hwrote⟩
    rw [exec_looseWrite a hlive hroom hlines hlo hhi, show a / 64 * 64 = a by omega, hu]
  case merge =>
    intro s x y e hfe hcell hmerge
    have hon : s.on = true := by simp [State.on, hfe]
    have hrelease := State.release_lone hmerge
    refine ⟨fun n hn => ?_, fun hopening hcells => ?_, ?_, ?_⟩
    · have hget := multicast_getElem? (x, y) e.held (s.scratch x y e.line 64) (by simpa using hn)
      exact ⟨_, (List.getElem?_map ..).trans (congrArg (Option.map Output.packet) hget), rfl, rfl⟩
    · exact (State.openingsLeave_lone hmerge hcell hopening hcells).trans hrelease
    · exact (s.unit_on _ _ hcell hon _).trans (congrArg Host.Outcome.next hrelease)
    · have hx : exec (.mergeEntryExpire x y e.line) s = .next (s.closeMerge x y [e.line]) := s.unit_on _ _ hcell hon _
      have hclose := State.closeMerge_lone hmerge
      refine ⟨_, hx, ?_, ?_⟩
      · rw [hclose]
      · rw [hclose]

end Sys2Proof.Machine

/-!
PROOFS. The memories keep their canonical form: what the model does to its memories is write bytes, drop entries and forget everything
(R152, R378), each function of the model does no more than the functions it is made of, and a step is one of them.

In `State.memOk` each lemma bears the name of the function of which it says that it keeps the form, and its proof follows the
function's text: `upd` for an update of fields beside the memories, `ite` and `split` for the branches, `foldl` for a fold.
-/
namespace Sys2Proof

/-! ### Writes one after another -/

theorem Mem.wf_foldl {α : Type} {f : Mem → α → Mem} (hf : ∀ {m e}, Mem.wf m = true → Mem.wf (f m e) = true) {m : Mem} (l : List α)
    (h : Mem.wf m = true) : Mem.wf (l.foldl f m) = true := by
  induction l generalizing m with
  | nil => exact h
  | cons e l ih => exact ih (hf h)

end Sys2Proof

namespace Sys2Proof.Machine

theorem restoreLines_wf (base : Nat) {m : Mem} (l : List (Nat × Bytes)) (h : Mem.wf m = true) :
    Mem.wf (restoreLines base m l) = true := by
  induction l generalizing m with
  | nil => exact h
  | cons e l ih => exact ih (Mem.wf_writeBytes _ _ _ h)

/-! ### What may succeed, and what a command may end in -/

/-- Whatever the computation succeeds with has the property. -/
def okOnly {ε α : Type} (P : α → Prop) (r : Except ε α) : Prop := ∀ a, r = .ok a → P a

namespace okOnly

variable {ε α β : Type} {P : α → Prop} {Q : β → Prop}

theorem ok {a : α} (h : P a) : okOnly P (.ok a : Except ε α) := by rintro _ ⟨⟩; exact h

theorem error {e : ε} : okOnly P (.error e) := by rintro _ ⟨⟩

theorem ite {c : Prop} [Decidable c] {r r' : Except ε α} (h : okOnly P r) (h' : okOnly P r') : okOnly P (if c then r else r') :=
  iteInduction (fun _ => h) (fun _ => h')

/-- A first part whose result has a property that the rest may use. -/
theorem bindOk {m : Except ε β} {k : β → Except ε α} (hm : okOnly Q m) (hk : ∀ {b}, Q b → okOnly P (k b)) : okOnly P (m >>= k) := by
  cases m with
  | error e => exact error
  | ok b => exact hk (hm b rfl)

/-- A first part that only reads. -/
theorem bind {m : Except ε β} {k : β → Except ε α} (hk : ∀ b, okOnly P (k b)) : okOnly P (m >>= k) :=
  bindOk (Q := fun _ => True) (fun _ _ => trivial) fun _ => hk _

theorem foldlM {f : α → β → Except ε α} {l : List β} {a : α} (hf : ∀ {b e}, P b → okOnly P (f b e)) (h : P a) :
    okOnly P (l.foldlM f a) := by
  induction l generalizing a with
  | nil => exact ok h
  | cons e l ih => exact bindOk (hf h) ih

end okOnly

/-- A state that the command goes on in has the property. -/
def nextOnly (P : State → Prop) (r : Result) : Prop := ∀ t, r = .next t → P t

/-- An effect that keeps the memories canonical. -/
def keepsMem (e : Effect) : Prop := ∀ x y r d s, s.memOk → okOnly State.memOk (e x y r d s)

namespace State.memOk

variable {s t : State}

/-! ### The shapes of the model's functions -/

/-- A state with other values beside its memories. -/
theorem upd {fe flash dev obj latched start sec bar2 time regs blks power panel map cells phys pats run row hbm links engines sess pool
    queues host naela out free clock pending} (h : s.memOk) :
    State.memOk ⟨fe, flash, dev, obj, latched, start, sec, bar2, time, regs, blks, power, panel, map, cells, phys, s.mem, s.hostMem, pats,
      run, row, hbm, links, engines, sess, pool, queues, host, naela, out, free, clock, pending⟩ := h

/-- A state with another device memory besides. -/
theorem setMem {fe flash dev obj latched start sec bar2 time regs blks power panel map cells phys m pats run row hbm links engines sess
    pool queues host naela out free clock pending} (h : s.memOk) (hm : Mem.wf m = true) :
    State.memOk ⟨fe, flash, dev, obj, latched, start, sec, bar2, time, regs, blks, power, panel, map, cells, phys, m, s.hostMem, pats,
      run, row, hbm, links, engines, sess, pool, queues, host, naela, out, free, clock, pending⟩ := ⟨hm, h.2⟩

theorem writeMem {a bs fe flash dev obj latched start sec bar2 time regs blks power panel map cells phys pats run row hbm links engines sess
    pool queues host naela out free clock pending} (h : s.memOk) :
    State.memOk ⟨fe, flash, dev, obj, latched, start, sec, bar2, time, regs, blks, power, panel, map, cells, phys, s.mem.writeBytes a bs,
      s.hostMem, pats, run, row, hbm, links, engines, sess, pool, queues, host, naela, out, free, clock, pending⟩ :=
  setMem h (Mem.wf_writeBytes _ _ _ h.1)

theorem ite {c : Prop} [Decidable c] (h : s.memOk) (h' : t.memOk) : (if c then s else t).memOk :=
  iteInduction (fun _ => h) (fun _ => h')

theorem iteSnd {α : Type} {c : Prop} [Decidable c] {p q : α × State} (h : p.2.memOk) (h' : q.2.memOk) : (if c then p else q).2.memOk :=
  iteInduction (motive := fun r : α × State => r.2.memOk) (fun _ => h) (fun _ => h')

theorem foldl {α : Type} {f : State → α → State} {l : List α} (hf : ∀ {u e}, u.memOk → (f u e).memOk) (h : s.memOk) :
    (l.foldl f s).memOk := by
  induction l generalizing s with
  | nil => exact h
  | cons e l ih => exact ih (hf h)

theorem iteFst {α : Type} {c : Prop} [Decidable c] {p q : State × α} (h : p.1.memOk) (h' : q.1.memOk) : (if c then p else q).1.memOk :=
  iteInduction (motive := fun r : State × α => r.1.memOk) (fun _ => h) (fun _ => h')

/-- A fold that carries something besides the state. -/
theorem foldlFst {α β : Type} {f : State × β → α → State × β} {l : List α} {p : State × β} (hf : ∀ {q e}, q.1.memOk → (f q e).1.memOk)
    (h : p.1.memOk) : (l.foldl f p).1.memOk := by
  induction l generalizing p with
  | nil => exact h
  | cons e l ih => exact ih (hf h)

/-! ### What earlier frames say of the memories -/

theorem recorded (hr : s.recorded t) (h : s.memOk) : t.memOk := by
  obtain ⟨_, _, _, _, rfl⟩ := hr
  exact h

theorem messaged (hr : s.messaged t) (h : s.memOk) : t.memOk := by
  obtain ⟨_, _, rfl⟩ := hr
  exact h

theorem rowTouched (hr : s.rowTouched t) (h : s.memOk) : t.memOk := by
  obtain ⟨_, _, _, _, _, _, _, _, _, rfl⟩ := hr
  exact h

theorem timePassed (hr : s.timePassed t) (h : s.memOk) : t.memOk := by
  obtain ⟨_, _, _, _, rfl, -⟩ := hr
  exact h

theorem stopWork (hr : s.stopWork t) (h : s.memOk) : t.memOk := by
  obtain ⟨_, _, _, _, _, _, _, rfl, -⟩ := hr
  exact h

/-! ### Named operations over the state -/

theorem modFe {f} (h : s.memOk) : (s.modFe f).memOk := by unfold State.modFe; exact upd h
theorem modFlash {f} (h : s.memOk) : (s.modFlash f).memOk := by unfold State.modFlash; exact upd h
theorem draw (h : s.memOk) : s.draw.2.memOk := by unfold State.draw; exact upd h
theorem showPort {kind p} (h : s.memOk) : (s.showPort kind p).memOk := by unfold State.showPort; exact upd h
theorem showInUse {p} (h : s.memOk) : (s.showInUse p).memOk := by unfold State.showInUse; exact upd h
theorem setOb {idx sub v} (h : s.memOk) : (s.setOb idx sub v).memOk := by unfold State.setOb; exact upd h
theorem addOb {idx sub n} (h : s.memOk) : (s.addOb idx sub n).memOk := by unfold State.addOb; exact setOb h
theorem emit {o} (h : s.memOk) : (s.emit o).memOk := recorded (s.emit_recorded _) h
theorem msix {v} (h : s.memOk) : (s.msix v).memOk := recorded (s.msix_recorded _) h
theorem log {o result idx sub old req app flags} (h : s.memOk) : (s.log o result idx sub old req app flags).memOk :=
  recorded (s.log_recorded ..) h
theorem logEvent {o idx sub old app} (h : s.memOk) : (s.logEvent o idx sub old app).memOk := recorded (s.logEvent_recorded ..) h
theorem dropPps (h : s.memOk) : s.dropPps.memOk := by unfold State.dropPps; exact ite (setOb (log (upd h))) h
theorem dueStatus (h : s.memOk) : s.dueStatus.memOk := recorded s.dueStatus_recorded h
theorem enter {d} (h : s.memOk) : (s.enter d).memOk := by unfold State.enter; exact ite h (msix (log (dueStatus (upd (dropPps h)))))
theorem setSubstate {v} (h : s.memOk) : (s.setSubstate v).memOk := by unfold State.setSubstate; exact ite h (setOb (dueStatus h))
theorem appendDefect {o d} (h : s.memOk) : (s.appendDefect o d).memOk := recorded (s.appendDefect_recorded ..) h
theorem whenOn {f : State → State} (h : s.memOk) (hf : ∀ {u}, u.memOk → (f u).memOk) : nextOnly State.memOk (s.whenOn f) := by
  rintro _ ⟨⟩
  exact ite (hf h) h
theorem timeBit {i v} (h : s.memOk) : (s.timeBit i v).memOk := by unfold State.timeBit; exact setOb h
theorem stretchBlock {ns b v} (h : s.memOk) : (s.stretchBlock ns b v).memOk := timePassed (s.stretchBlock_timePassed ..) h
theorem stretch {ns} (h : s.memOk) : (s.stretch ns).memOk := by unfold State.stretch; exact foldl (fun h => stretchBlock h) h
theorem pass {ns} (h : s.memOk) : (s.pass ns).memOk := by unfold State.pass; exact ite (stretch (ite (upd h) (addOb (upd h)))) (upd h)
theorem unit {w i ok} {f : State → State} (h : s.memOk) (hf : ∀ {u}, u.memOk → (f u).memOk) :
    nextOnly State.memOk (s.unit w i ok f) := by
  unfold State.unit
  split
  · exact whenOn h hf
  · rintro _ ⟨⟩
theorem setReg {r v} (h : s.memOk) : (s.setReg r v).memOk := by unfold State.setReg; exact upd h
theorem endFast (h : s.memOk) : s.endFast.memOk := by unfold State.endFast; exact upd h
theorem setBlk {b v} (h : s.memOk) : (s.setBlk b v).memOk := by unfold State.setBlk; exact upd h
theorem setCell {x y c} (h : s.memOk) : (s.setCell x y c).memOk := by unfold State.setCell; exact upd h
theorem setQueue {q v} (h : s.memOk) : (s.setQueue q v).memOk := by unfold State.setQueue; exact upd h
theorem setPort {p v} (h : s.memOk) : (s.setPort p v).memOk := by unfold State.setPort; exact upd h

/-! ### Fault signatures (R359 to R362) -/

theorem signature {i} (h : s.memOk) : (s.signature i).memOk := rowTouched (s.signature_rowTouched _).1 h

/-! ### Completions and their release (R376, R388) -/

theorem writeCommitted {a d} (h : s.memOk) : (s.writeCommitted a d).memOk := by unfold State.writeCommitted; exact writeMem h
theorem writeField {a bs} (h : s.memOk) : (s.writeField a bs).memOk := by
  unfold State.writeField
  exact ite ⟨h.1, Mem.wf_writeBytes _ _ _ h.2⟩ (foldl (fun h => writeCommitted h) h)
theorem coalesce {q} (h : s.memOk) : (s.coalesce q).memOk := by
  unfold State.coalesce
  exact ite (ite (msix (setQueue h)) (setQueue h)) (setQueue h)
theorem writeCompletion {e} (h : s.memOk) : (s.writeCompletion e).memOk := by
  unfold State.writeCompletion
  extract_lets _ _ _ a _ _ _ _ _ _ d
  have ha : a.memOk := foldl (fun h => ite (writeField h) h) h
  have hd : d.memOk := setQueue (writeField (ite (log ha) ha))
  exact ite (coalesce hd) hd
theorem flushLog (h : s.memOk) : s.flushLog.memOk := by unfold State.flushLog; exact upd h
theorem settleQueue {q} (h : s.memOk) : (s.settleQueue q).memOk := stopWork (s.settleQueue_stopWork _) h
theorem endCommand {f c writes digests digAddr needDigest} (h : s.memOk) : (s.endCommand f c writes digests digAddr needDigest).memOk :=
  stopWork (s.endCommand_stopWork ..) h
theorem settleFences (h : s.memOk) : s.settleFences.memOk := stopWork s.settleFences_stopWork h
theorem abortFetched {sel} (h : s.memOk) : (s.abortFetched sel).memOk := stopWork (s.abortFetched_stopWork _) h
theorem breakQueue {q} (h : s.memOk) : (s.breakQueue q).memOk := by
  unfold State.breakQueue
  exact settleQueue (upd (abortFetched (setQueue h)))
theorem setFull {q v} (h : s.memOk) : (s.setFull q v).memOk := by unfold State.setFull; exact setQueue h
theorem offer {e} (h : s.memOk) : (s.offer e).memOk := by
  unfold State.offer
  exact ite (settleQueue (setFull h)) (ite (upd h) (ite (upd (setFull h)) (ite (breakQueue (setFull h)) (settleQueue (writeCompletion
    (ite (flushLog (setFull h)) (setFull h)))))))
theorem deliver (h : s.memOk) : s.deliver.memOk := by unfold State.deliver; exact settleFences (foldl (fun h => offer h) (upd h))
theorem releaseEnding (h : s.memOk) : s.releaseEnding.memOk := by unfold State.releaseEnding; exact deliver (upd h)
theorem refuse {f status} (h : s.memOk) : (s.refuse f status).memOk := by unfold State.refuse; exact endCommand (log h)
theorem logField {f off req app} (h : s.memOk) : (s.logField f off req app).memOk := by unfold State.logField; exact log h

/-! ### The cap in force (R305) -/

theorem applyCap (h : s.memOk) : s.applyCap.memOk := by unfold State.applyCap; exact ite (setOb h) (log (setOb h))

/-! ### How a run ends, and SAFE (R217, R317, R377) -/

theorem endRun {status detail digests needDigest} (h : s.memOk) : (s.endRun status detail digests needDigest).memOk :=
  stopWork (s.endRun_stopWork ..) h
theorem endAborted {r} (h : s.memOk) : (s.endAborted r).memOk := stopWork (s.endAborted_stopWork _) h
theorem endStopped (h : s.memOk) : s.endStopped.memOk := by unfold State.endStopped; split; exacts [ite (endAborted h) h, h]
theorem abortAll (h : s.memOk) : s.abortAll.memOk := by unfold State.abortAll; exact abortFetched (endRun h)
theorem groupsOff (h : s.memOk) : s.groupsOff.memOk := by unfold State.groupsOff; exact upd h
theorem latchSafe {cause} (h : s.memOk) : (s.latchSafe cause).memOk := by
  unfold State.latchSafe
  refine ite h (releaseEnding (abortAll (msix (signature (upd (groupsOff (setOb (setSubstate (enter ?_)))))))))
  split; exacts [h, draw h]
theorem logActivation {old} (h : s.memOk) : (s.logActivation old).memOk := by unfold State.logActivation; exact logEvent h
theorem abortActivation (h : s.memOk) : s.abortActivation.memOk := by unfold State.abortActivation; exact logActivation (upd h)
theorem safeToRemove (h : s.memOk) : s.safeToRemove.memOk := by
  unfold State.safeToRemove
  exact setSubstate (ite (msix (upd (upd (groupsOff (flushLog (ite (abortActivation h) h)))))) (upd (groupsOff (flushLog (ite
    (abortActivation h) h)))))

/-! ### Packets (R134, R140) -/

theorem setLink {l v} (h : s.memOk) : (s.setLink l v).memOk := by unfold State.setLink; exact upd h
theorem sendPackets {ps} (h : s.memOk) : (s.sendPackets ps).memOk := by unfold State.sendPackets; exact upd h

/-! ### Naela frames and messages (R392 to R399) -/

theorem takeIdentity (h : s.memOk) : s.takeIdentity.memOk := by unfold State.takeIdentity; exact upd h
theorem sendFrame {p vc payload} (h : s.memOk) : (s.sendFrame p vc payload).memOk := messaged (s.sendFrame_messaged ..) h
theorem pumpPort {p} (h : s.memOk) : (s.pumpPort p).memOk := by unfold State.pumpPort; exact foldl (fun h => sendFrame h) (setPort h)
theorem sendBytes {p vc b} (h : s.memOk) : (s.sendBytes p vc b).memOk := by unfold State.sendBytes; exact foldl (fun h => sendFrame h) h
theorem dispatchVc {m vc} (h : s.memOk) : (s.dispatchVc m vc).memOk := messaged (s.dispatchVc_messaged ..) h
theorem dispatchMessage {m} (h : s.memOk) : (s.dispatchMessage m).memOk := by unfold State.dispatchMessage; exact dispatchVc h
theorem newMessage {mtype dst window addr body} (h : s.memOk) : (s.newMessage mtype dst window addr body).2.memOk :=
  messaged (s.newMessage_messaged ..) h
theorem sendControl {mtype dst body} (h : s.memOk) : (s.sendControl mtype dst body).memOk := messaged (s.sendControl_messaged ..) h
theorem sendKept {m} (h : s.memOk) : (s.sendKept m).memOk := by unfold State.sendKept; exact dispatchMessage (upd h)
theorem countSent {w} (h : s.memOk) : (s.countSent w).memOk := by unfold State.countSent; exact addOb h
theorem sendWindow {mtype dst w addr body} (h : s.memOk) : (s.sendWindow mtype dst w addr body).memOk := by
  unfold State.sendWindow
  exact ite (sendKept (countSent (newMessage h))) (upd (countSent (newMessage h)))
theorem sendVerdict {dst kind v} (h : s.memOk) : (s.sendVerdict dst kind v).memOk := by unfold State.sendVerdict; exact sendControl h
theorem verdictUp {kind v} (h : s.memOk) : (s.verdictUp kind v).memOk := by unfold State.verdictUp; split; exacts [sendVerdict h, h]
theorem verdictDown {kind v} (h : s.memOk) : (s.verdictDown kind v).memOk := by
  unfold State.verdictDown
  exact foldl (fun h => sendVerdict h) h
theorem earlyFail {cause origin} (h : s.memOk) : (s.earlyFail cause origin).memOk := messaged (s.earlyFail_messaged ..) h

/-! ### Scratchpads and HBM under a row (R77 to R80, R103, R205 to R210) -/

theorem closeMerge {x y ls} (h : s.memOk) : (s.closeMerge x y ls).memOk := by
  unfold State.closeMerge
  exact ite h (sendPackets (setCell h))
theorem writeCell {x y off data} (h : s.memOk) : okOnly State.memOk (s.writeCell x y off data) := by
  have hu := closeMerge (x := x) (y := y) (ls := linesOf off data.length) h
  unfold State.writeCell
  refine .ite .error ?_
  dsimp only
  split
  · exact .error
  · exact .ok (setMem (ite hu (setCell hu)) (Mem.wf_writeBytes _ _ _ hu.1))
theorem flushWindow {w} (h : s.memOk) : (s.flushWindow w).memOk := by
  unfold State.flushWindow
  split
  split; exacts [h, ite (sendWindow (upd h)) h]
theorem windowLine {w line} (h : s.memOk) : (s.windowLine w line).memOk := by
  unfold State.windowLine
  exact ite (upd (ite h (flushWindow h))) (ite (sendWindow (upd h)) (upd h))
theorem windowWrite {line} (h : s.memOk) : (s.windowWrite line).memOk := by
  unfold State.windowWrite
  exact foldl (fun h => ite (windowLine h) h) h
theorem writeHbmLine {r a d} (h : s.memOk) : okOnly State.memOk (s.writeHbmLine r a d) := by
  unfold State.writeHbmLine
  refine .ite .error (.ite (.ite (.ok (writeMem (upd h))) (.ite .error (.ok (writeMem (upd h))))) (.ite ?copy (.ok (writeMem (upd h)))))
  have hold {c : Prop} [Decidable c] {b : Nat} {old : Bytes} : Mem.wf (if c then s.mem else s.mem.writeBytes b old) = true :=
    by split; exacts [h.1, Mem.wf_writeBytes _ _ _ h.1]
  exact .ok (writeMem (ite (upd h) (setMem (upd h) hold)))
theorem writeHbmPieces {rs ps} (h : s.memOk) : okOnly State.memOk (s.writeHbmPieces rs ps) := by
  induction ps generalizing s with
  | nil => exact .ok h
  | cons p ps ih =>
    unfold State.writeHbmPieces
    split
    · exact .error
    · split
      · exact .error
      · exact ih (windowWrite (writeHbmLine h _ ‹_›))
theorem writeHbm {a data} (h : s.memOk) : okOnly State.memOk (s.writeHbm a data) := by
  unfold State.writeHbm
  exact .ite .error (writeHbmPieces h)
theorem writeDev {a data} (h : s.memOk) : okOnly State.memOk (s.writeDev a data) := by
  unfold State.writeDev
  split; exacts [.ite (writeCell h) .error, writeHbm h]

/-! ### How a row fails and is undone (R97, R181, R198) -/

theorem abortCells (h : s.memOk) : s.abortCells.memOk := by unfold State.abortCells; exact upd h
theorem failRow {a} (h : s.memOk) : (s.failRow a).memOk := rowTouched (s.failRow_rowTouched _).2 h
theorem raise {a lost} (h : s.memOk) : (s.raise a lost).memOk := rowTouched (s.raise_rowTouched ..) h
theorem raiseFault {x y f} (h : s.memOk) : (s.raiseFault x y f).memOk := by
  unfold State.raiseFault
  exact ite (earlyFail (abortCells (upd h))) h
theorem stop {x y x3} (h : s.memOk) : (s.stop x y x3).memOk := by unfold State.stop; split; exacts [raiseFault h, raise (ite (upd h) h)]
theorem undoRow (h : s.memOk) : s.undoRow.memOk := by
  unfold State.undoRow
  exact setMem h (restoreLines_wf _ _ (Mem.wf_foldl (fun h => restoreLines_wf _ _ h) _ h.1))
theorem lastUnrecoverable (h : s.memOk) : s.lastUnrecoverable.memOk := by unfold State.lastUnrecoverable; exact upd h
theorem undoImpossible (h : s.memOk) : s.undoImpossible.memOk := by
  unfold State.undoImpossible
  exact ite h (signature (upd (ite h (lastUnrecoverable (addOb h)))))
theorem recordHistory {outcome} (h : s.memOk) : (s.recordHistory outcome).memOk := by unfold State.recordHistory; exact upd h
theorem skipMark (h : s.memOk) : s.skipMark.memOk := by unfold State.skipMark; exact upd h
theorem recordFailure {localise} (h : s.memOk) : (s.recordFailure localise).memOk := by
  unfold State.recordFailure
  split; exacts [h, upd h]

/-! ### What the defect list sets at cast-on -/

theorem seedUnit {d} (h : s.memOk) : (s.seedUnit d).memOk := by
  unfold State.seedUnit
  exact ite (upd h) (ite (upd h) (ite (upd h) (ite (setOb h) (ite (setBlk h) h))))
theorem seedUnits (h : s.memOk) : s.seedUnits.memOk := by unfold State.seedUnits; exact foldl (fun h => seedUnit h) (upd h)
theorem signDefect {d cause action origin} (h : s.memOk) : (s.signDefect d cause action origin).memOk :=
  recorded (s.signDefect_recorded ..) h
theorem appendFound {n d} (h : s.memOk) : (s.appendFound n d).memOk := by
  unfold State.appendFound
  exact ite (signDefect (appendDefect (signDefect (appendDefect h)))) (signDefect (appendDefect h))
theorem gateUnused (h : s.memOk) : s.gateUnused.memOk := by
  unfold State.gateUnused
  exact foldl (fun h => ite h (ite (setReg h) (setOb (setReg h)))) (upd h)
theorem wake {ps} (h : s.memOk) : (s.wake ps).memOk := by unfold State.wake; exact foldl (fun h => ite (setReg h) h) (upd h)
theorem sleep (h : s.memOk) : s.sleep.memOk := by unfold State.sleep; exact foldl (fun h => ite (setReg h) h) (upd h)

/-! ### Units lost or retired (R342, R355) -/

theorem logSlices {m0} (h : s.memOk) : (s.logSlices m0).memOk := recorded (s.logSlices_recorded _) h
theorem loseSlice {i} (h : s.memOk) : (s.loseSlice i).memOk := by unfold State.loseSlice; exact upd h
theorem stopDarning (h : s.memOk) : s.stopDarning.memOk := by unfold State.stopDarning; exact ite (logSlices (setOb (upd h))) h
theorem enterUnit {u cause} (h : s.memOk) : (s.enterUnit u cause).memOk := by
  unfold State.enterUnit
  exact logSlices (upd (appendDefect h))
theorem enterLoss {u cause} (h : s.memOk) : (s.enterLoss u cause).memOk := by unfold State.enterLoss; exact signDefect (enterUnit h)
theorem queueLoss {u cause} (h : s.memOk) : (s.queueLoss u cause).memOk := by
  unfold State.queueLoss
  exact ite h (ite (upd h) (ite (signDefect (appendDefect h)) (ite (enterLoss h) (ite (enterLoss h) (upd (ite (stopDarning h) h))))))
theorem loseUnit {u a} (h : s.memOk) : (s.loseUnit u a).memOk := by unfold State.loseUnit; exact ite (raise (queueLoss h)) (queueLoss h)
theorem loseCell {x y cause} (h : s.memOk) : (s.loseCell x y cause).memOk := by unfold State.loseCell; split; exacts [loseUnit h, h]
theorem loseRegion {r} (h : s.memOk) : (s.loseRegion r).memOk := by unfold State.loseRegion; exact loseUnit h
theorem loseBlock {b} (h : s.memOk) : (s.loseBlock b).memOk := by unfold State.loseBlock; exact loseUnit h
theorem latchOff {r cstate} (h : s.memOk) : (s.latchOff r cstate).memOk := by
  unfold State.latchOff
  exact ite h (signature (setOb (logEvent h)))
theorem loseRingLink {b i} (h : s.memOk) : (s.loseRingLink b i).memOk := by
  unfold State.loseRingLink
  exact ite h (ite (latchSafe (signDefect (appendDefect (setLink h)))) (signDefect (appendDefect (setLink h))))
theorem loseLink {l} (h : s.memOk) : (s.loseLink l).memOk := by
  unfold State.loseLink
  split
  · exact loseRingLink h
  · dsimp only
    split
    · exact loseUnit (setLink h)
    · exact setLink h
theorem retireEngine {i} (h : s.memOk) : (s.retireEngine i).memOk := by
  unfold State.retireEngine
  exact ite h (signature (setOb (logEvent h)))
theorem dropSlice {i cause} (h : s.memOk) : (s.dropSlice i cause).memOk := by
  unfold State.dropSlice
  exact ite h (msix (signature (appendDefect (logSlices (loseSlice h)))))
theorem queueUnit {u cause} (h : s.memOk) : (s.queueUnit u cause).memOk := by unfold State.queueUnit; split; exacts [queueLoss h, h]
theorem retire {u cause} (h : s.memOk) : (s.retire u cause).memOk := by
  unfold State.retire
  split
  · exact queueUnit h
  · exact queueLoss h
  · exact queueLoss h
  · exact queueUnit h
  · exact loseRingLink h
  · exact retireEngine h
  · exact dropSlice h
  · exact h
  · exact h

/-! ### Blocks (R263 to R265, R313 to R315) -/

theorem onBlock {b} {f : State → State} (h : s.memOk) (hf : ∀ {u}, u.memOk → (f u).memOk) : nextOnly State.memOk (s.onBlock b f) :=
  unit h hf
theorem slowUp {b} (h : s.memOk) : (s.slowUp b).memOk := by
  unfold State.slowUp
  exact ite (ite h (logEvent (addOb (setBlk h)))) (logEvent (setBlk h))
theorem thermalTrip {r} (h : s.memOk) : (s.thermalTrip r).memOk := by
  unfold State.thermalTrip
  exact ite h (ite (latchSafe (loseRegion (latchOff (upd h)))) (loseRegion (latchOff (upd h))))

/-! ### What the units of a cell share (R90, R114) -/

theorem writeSpa {x y r f data} (h : s.memOk) : okOnly State.memOk (s.writeSpa x y r f data) := by
  unfold State.writeSpa
  split; exacts [.error, writeCell h]
theorem settle {x y r} (h : s.memOk) (hr : okOnly State.memOk r) : (s.settle x y r).memOk := by
  cases r with
  | ok t => exact hr t rfl
  | error e => exact stop h
theorem cellOp {x y d eff} (h : s.memOk) (he : keepsMem eff) : nextOnly State.memOk (s.cellOp x y d eff) :=
  unit h fun h => ite (settle h (he _ _ _ _ _ h)) h
theorem countRow {inexact overflow clamps outrange idxClamp duplicate} (h : s.memOk) : (s.countRow inexact overflow clamps outrange
    idxClamp duplicate).memOk := by
  unfold State.countRow
  exact upd h

/-! ### SYN descriptors (R119, R129 to R133) -/

theorem postUse {x y k} (h : s.memOk) : (s.postUse x y k).memOk := by unfold State.postUse; exact setCell h
theorem deliverTransfer {nx ny key t} (h : s.memOk) : (s.deliverTransfer nx ny key t).memOk := by
  unfold State.deliverTransfer
  exact ite (raiseFault h) (setCell h)
theorem synSendEffect_keeps : keepsMem synSendEffect := by
  intro x y r d s h
  unfold synSendEffect
  split
  · exact .error
  · refine .ite .error (.ite (.ok h) (.bind (fun _ => .bind (fun _ => .ite ?_ ?_))))
    · split; exacts [.error, .bindOk (writeHbm h) (fun h => .ok (postUse h))]
    · split; exacts [.error, .ite .error (.ok (deliverTransfer (postUse h)))]
theorem takeTransfer {x y d e} (h : s.memOk) : okOnly (fun q => q.2.memOk) (s.takeTransfer x y d e) := by
  unfold State.takeTransfer
  refine .ite ?_ ?_
  · split
    · exact .error
    · split; exacts [.error, .ok (postUse h)]
  · dsimp only
    split
    · exact .error
    · exact .ok (setCell h)
theorem synRecvEffect_keeps : keepsMem synRecvEffect := by
  intro x y r d s h
  unfold synRecvEffect
  split
  · exact .error
  · exact .ite .error (.ite (.ok h) (.bindOk (takeTransfer h) (fun h => .bind (fun _ => writeSpa h))))
theorem synRecvaddEffect_keeps : keepsMem synRecvaddEffect := by
  intro x y r d s h
  unfold synRecvaddEffect
  split
  · exact .error
  · refine .ite .error (.ite (.ok h) (.bindOk (takeTransfer h) (fun h => .bind (fun _ => ?_))))
    split
    · exact .error
    · exact .ite .error (by split; exacts [.error, .ok (setCell h)])
theorem synBarrierEffect_keeps : keepsMem synBarrierEffect := by
  intro x y r d s h
  unfold synBarrierEffect
  exact .ite .error (.ok (setCell h))
theorem synWaitmarkEffect_keeps : keepsMem synWaitmarkEffect := by
  intro x y r d s h
  unfold synWaitmarkEffect
  exact .ok h

/-! ### The verdict exchange (R197 to R201) -/

theorem knowGroup {clean} (h : s.memOk) : (s.knowGroup clean).memOk := by unfold State.knowGroup; exact setOb (upd h)
theorem reportVerdict (h : s.memOk) : s.reportVerdict.memOk := by
  unfold State.reportVerdict
  exact ite (ite (verdictDown (knowGroup (upd h))) (verdictUp (upd h))) h
theorem reportUndone (h : s.memOk) : s.reportUndone.memOk := by
  unfold State.reportUndone
  exact ite (ite (upd (verdictDown (upd h))) (verdictUp (upd h))) h
theorem groupFail {kind v} (h : s.memOk) : (s.groupFail kind v).memOk := by
  unfold State.groupFail
  exact ite (verdictDown (knowGroup (ite (raise h) h))) (ite (verdictDown (verdictUp (ite (raise h) h))) (ite (raise h) h))
theorem actVerdict {kind v} (h : s.memOk) : (s.actVerdict kind v).memOk := by
  unfold State.actVerdict
  split
  · exact groupFail h
  · exact reportVerdict (upd h)
  · exact groupFail h
  · exact verdictDown (knowGroup h)
  · exact groupFail h
  · exact ite h (reportUndone (upd h))
  · exact ite (upd (verdictDown h)) h
  · exact h
theorem takeVerdict {kind v} (h : s.memOk) : (s.takeVerdict kind v).memOk := by
  unfold State.takeVerdict
  exact ite h (ite (upd h) (ite (actVerdict h) h))
theorem releaseVerdicts (h : s.memOk) : s.releaseVerdicts.memOk := by
  unfold State.releaseVerdicts
  exact foldl (fun h => takeVerdict h) (upd h)

/-! ### The end of a cell's row program (R98, R144) -/

theorem tryEnd {x y} (h : s.memOk) : (s.tryEnd x y).memOk := by
  unfold State.tryEnd
  exact ite (ite (raise h) (ite (raiseFault h) (reportVerdict (setCell h)))) h
theorem releaseLocal {chan gen} (h : s.memOk) : (s.releaseLocal chan gen).memOk := by
  unfold State.releaseLocal
  exact foldl (fun h => tryEnd (setCell h)) h
theorem releaseSystem {chan gen} (h : s.memOk) : (s.releaseSystem chan gen).memOk := by
  unfold State.releaseSystem
  exact releaseLocal (upd (foldl (fun h => sendControl h) h))
theorem arriveSystem {chan gen} (h : s.memOk) : (s.arriveSystem chan gen).memOk := by
  unfold State.arriveSystem
  exact ite (by dsimp only; split; exacts [sendControl (upd h), releaseSystem (upd h)]) h

/-! ### Clocks and device time (R271 to R281) -/

theorem discipline (h : s.memOk) : s.discipline.memOk := by unfold State.discipline; exact ite (setOb (draw h)) h
theorem setSource {v} (h : s.memOk) : (s.setSource v).memOk := by
  unfold State.setSource
  exact ite h (discipline (setOb (timeBit (ite (logEvent h) h))))
theorem chooseSource (h : s.memOk) : s.chooseSource.memOk := by unfold State.chooseSource; exact setSource h
theorem announceTime (h : s.memOk) : s.announceTime.memOk := by unfold State.announceTime; exact foldl (fun h => sendControl h) h
theorem setConflict {v} (h : s.memOk) : (s.setConflict v).memOk := by unfold State.setConflict; exact ite h (logEvent (timeBit (upd h)))
theorem becomeMaster (h : s.memOk) : s.becomeMaster.memOk := by
  unfold State.becomeMaster
  exact announceTime (setSource (setOb (setOb (upd h))))
theorem followMaster {p q pr h' m} (h : s.memOk) : (s.followMaster p q pr h' m).memOk := by
  unfold State.followMaster
  exact announceTime (chooseSource (setOb (setOb (upd h))))
theorem elect (h : s.memOk) : s.elect.memOk := by
  unfold State.elect
  extract_lets a
  have ha : a.memOk := ite h (setConflict h)
  split
  · exact ite (becomeMaster ha) (chooseSource ha)
  · exact ite (chooseSource ha) (ite (chooseSource (setOb ha)) (announceTime (chooseSource ha)))
theorem hearAnnounce {p q pr h' m} (h : s.memOk) : (s.hearAnnounce p q pr h' m).memOk := by
  unfold State.hearAnnounce
  refine ite h ?_
  extract_lets a
  have ha : a.memOk := ite (setConflict h) h
  split
  · exact ite (followMaster ha) (becomeMaster ha)
  · exact ite (ite ha (elect (followMaster ha))) (ite (followMaster ha) ha)
theorem exchange {o} (h : s.memOk) : (s.exchange o).memOk := by unfold State.exchange; exact timeBit (timeBit (setOb (setOb (upd h))))
theorem noteSkew (h : s.memOk) : s.noteSkew.memOk := by unfold State.noteSkew; exact setOb (upd h)

/-! ### Naela ports (R391 to R395, R408 to R412) -/

theorem resendMessage {m} (h : s.memOk) : (s.resendMessage m).memOk := by unfold State.resendMessage; exact dispatchMessage (upd (addOb h))
theorem signatureRow {row i} (h : s.memOk) : (s.signatureRow row i).memOk := by unfold State.signatureRow; exact upd (signature (upd h))
theorem deliveryFail {m} (h : s.memOk) : (s.deliveryFail m).memOk := by
  unfold State.deliveryFail
  exact ite (raise (addOb (upd h))) (msix (signatureRow (addOb (addOb (upd h)))))
theorem retryMessage {m} (h : s.memOk) : (s.retryMessage m).memOk := by
  unfold State.retryMessage
  exact ite (deliveryFail h) (resendMessage h)
theorem floodRoute {body except_} (h : s.memOk) : (s.floodRoute body except_).memOk := by
  unfold State.floodRoute
  exact foldl (fun h => sendControl h) h
theorem linkChange (h : s.memOk) : s.linkChange.memOk := by unfold State.linkChange; exact floodRoute (upd h)
theorem portTo {p v} (h : s.memOk) : (s.portTo p v).memOk := by unfold State.portTo; exact setOb h
theorem portEvent {p old new} (h : s.memOk) : (s.portEvent p old new).memOk := by unfold State.portEvent; exact logEvent h
theorem portDown {p v} (h : s.memOk) : (s.portDown p v).memOk := by
  unfold State.portDown
  exact ite (foldl (fun h => retryMessage h) (foldl (fun h => dispatchVc h) (linkChange (setOb (setPort (portTo h)))))) (setOb (setPort
    (portTo h)))
theorem failPort {p} (h : s.memOk) : (s.failPort p).memOk := by unfold State.failPort; exact portDown (portEvent h)
theorem linkFail {p} (h : s.memOk) : (s.linkFail p).memOk := by
  unfold State.linkFail
  exact ite (failPort (setPort h)) (portDown (setPort h))
theorem resendFrom {p n} (h : s.memOk) : (s.resendFrom p n).memOk := by
  unfold State.resendFrom
  exact ite (linkFail (ite (addOb (foldl (fun h => emit (setPort h)) h)) (upd (addOb (foldl (fun h => emit (setPort h)) h))))) (ite
    (addOb (foldl (fun h => emit (setPort h)) h)) (upd (addOb (foldl (fun h => emit (setPort h)) h))))
theorem askRetry {p} (h : s.memOk) : (s.askRetry p).memOk := by unfold State.askRetry; exact ite h (emit (setPort h))
theorem gathered {p vc m} (h : s.memOk) : (s.gathered p vc m).memOk := by unfold State.gathered; exact ite (dispatchVc h) (upd h)
theorem gatherFrame {p f} (h : s.memOk) : (s.gatherFrame p f).memOk := by
  unfold State.gatherFrame
  exact foldl (fun h => gathered h) (emit (setPort h))
theorem judgePort {p} (h : s.memOk) : (s.judgePort p).memOk := by
  unfold State.judgePort
  dsimp only
  split
  · exact ite h (ite (portEvent (portTo (setPort (setOb (setOb (setOb h)))))) (setPort (setOb (setOb (setOb h)))))
  · exact h
theorem admitPort {p} (h : s.memOk) : (s.admitPort p).memOk := by
  unfold State.admitPort
  exact announceTime (linkChange (portEvent (setPort (portTo (takeIdentity h)))))
theorem dropLanes {p} (h : s.memOk) : (s.dropLanes p).memOk := by
  unfold State.dropLanes
  exact ite (setPort h) (ite (failPort (setPort h)) (setOb (setPort h)))
theorem naelaBoundary (h : s.memOk) : s.naelaBoundary.memOk := by
  unfold State.naelaBoundary
  extract_lets a _ b
  have ha : a.memOk := foldl (fun h => dropLanes h) h
  have hb : b.memOk := by unfold b; split; exacts [upd ha, ha]
  exact foldl (fun h => dispatchVc h) (upd (setOb (ite hb (foldl (fun h => admitPort h) hb))))
theorem listLane {p lane} (h : s.memOk) : (s.listLane p lane).memOk := by unfold State.listLane; exact signDefect (appendDefect h)
theorem trainedTwelve {p} (h : s.memOk) : (s.trainedTwelve p).memOk := by
  unfold State.trainedTwelve
  dsimp only
  split
  · exact setPort h
  · exact setPort (listLane (draw h))
theorem failLane {p lane} (h : s.memOk) : (s.failLane p lane).memOk := by unfold State.failLane; exact ite h (setPort (listLane h))
theorem quiescePort {p v force} (h : s.memOk) : (s.quiescePort p v force).memOk := by
  unfold State.quiescePort
  exact ite (ite (ite (linkChange (portTo (setOb h))) (showInUse h)) (ite (portTo (setPort (setOb h))) (setOb h))) (ite (linkChange
    (portTo (setOb h))) (ite (portTo (setOb h)) (setOb h)))

/-! ### A running firmware activation (R462 to R466) -/

theorem fwPhase {n} (h : s.memOk) : (s.fwPhase n).memOk := by unfold State.fwPhase; exact upd h
theorem takeOver (h : s.memOk) : s.takeOver.memOk := by unfold State.takeOver; split; exacts [fwPhase (upd h), abortActivation h]
theorem renegotiate {p} (h : s.memOk) : (s.renegotiate p).memOk := by unfold State.renegotiate; exact sendBytes (newMessage h)
theorem finishActivation (h : s.memOk) : s.finishActivation.memOk := by unfold State.finishActivation; exact logActivation (upd h)
theorem fwUnit {n next} (h : s.memOk) (hnext : ∀ {u : State}, u.memOk → (next u).memOk) : (s.fwUnit n next).memOk := by
  unfold State.fwUnit
  exact ite (hnext (upd h)) (upd h)
theorem loadEnded (h : s.memOk) : s.loadEnded.2.2.memOk := draw h
theorem loadSlice (h : s.memOk) : s.loadSlice.memOk := by
  unfold State.loadSlice
  dsimp only
  split
  · exact ite (failPort (ite (retireEngine (draw h)) (draw h))) (renegotiate (ite (retireEngine (draw h)) (draw h)))
  · exact ite (retireEngine (draw h)) (draw h)
theorem loadRegion (h : s.memOk) : s.loadRegion.memOk := by unfold State.loadRegion; exact ite (queueLoss (draw h)) (draw h)
theorem loadCells (h : s.memOk) : s.loadCells.memOk := by unfold State.loadCells; exact foldl (fun h => ite (queueLoss h) h) (draw h)
theorem changeOver (h : s.memOk) : s.changeOver.memOk := by
  unfold State.changeOver
  refine ite h ?_
  split
  · exact ite (loadEnded h) (ite (takeOver (fwPhase (loadEnded h))) (abortActivation (loadEnded h)))
  · exact ite (fwPhase (loadEnded h)) (loadEnded h)
  · exact fwUnit (loadSlice h) (fun h => fwPhase h)
  · exact fwUnit (loadRegion h) (fun h => fwPhase h)
  · exact fwUnit (loadCells h) (fun h => finishActivation h)
  · exact h
theorem mismatchInActivation (h : s.memOk) : s.mismatchInActivation.2.memOk := by
  unfold State.mismatchInActivation
  exact iteSnd h (iteSnd (abortActivation h) (iteSnd (upd h) h))

/-! ### Check alarms, link retries, scrubs (R81, R181, R193, R194) -/

theorem switchPair (h : s.memOk) : s.switchPair.memOk := by
  unfold State.switchPair
  exact ite (mismatchInActivation h) (ite (latchSafe (mismatchInActivation h)) (raise (upd (mismatchInActivation h))))
theorem loseLine {p line} (h : s.memOk) : (s.loseLine p line).memOk := by unfold State.loseLine; exact upd h
theorem storageLoss {a} (h : s.memOk) : (s.storageLoss a).memOk := by unfold State.storageLoss; split; exacts [loseLine h, upd h, upd h, h]
theorem alarm {a} (h : s.memOk) : (s.alarm a).memOk := by
  unfold State.alarm
  refine ite (loseCell h) (ite (foldl (fun h => ?_) h) (ite (switchPair h) (ite (raise (storageLoss h)) h)))
  split; exacts [loseRegion h, h]
theorem laneTest {l ws} (h : s.memOk) : (s.laneTest l ws).memOk := by
  unfold State.laneTest
  refine ite (loseLink h) ?_
  split; exacts [loseLink h, foldl (fun h => signature (appendDefect h)) (setLink h)]
theorem laneTests (h : s.memOk) : s.laneTests.memOk := by unfold State.laneTests; exact foldl (fun h => laneTest h) (upd h)
theorem testLater {l ws} (h : s.memOk) : (s.testLater l ws).memOk := by unfold State.testLater; exact ite (laneTest h) (ite h (upd h))
theorem flit {l ok ws} (h : s.memOk) : (s.flit l ok ws).memOk := by
  unfold State.flit
  exact ite h (ite (ite h (setLink h)) (ite (testLater (raise (upd (setLink h)))) (upd (setLink h))))
theorem scrubLine {p off o} (h : s.memOk) : (s.scrubLine p off o).memOk := by
  unfold State.scrubLine
  dsimp only
  split
  · exact h
  · exact upd h
  · split; exacts [raise (loseLine h), loseLine h]
theorem scrubHbm {a o} (h : s.memOk) : (s.scrubHbm a o).memOk := by
  unfold State.scrubHbm
  dsimp only
  split
  · exact h
  · exact upd h
  · exact upd h

/-! ### CHK descriptors (R106, R120) -/

theorem chkInsertEffect_keeps : keepsMem chkInsertEffect := by
  intro x y r d s h
  unfold chkInsertEffect
  exact .ite .error (.bind (fun _ => writeSpa h))
theorem chkVerifyEffect_keeps : keepsMem chkVerifyEffect := by
  intro x y r d s h
  unfold chkVerifyEffect
  exact .ite .error (.bind (fun _ => .bind (fun _ => .bind (fun _ => .ite .error (.ite (.ok h) .error)))))

/-! ### CTL descriptors (R124, R125) -/

theorem ctlEffect_keeps {f} : keepsMem (ctlEffect f) := by
  intro x y r d s h
  unfold ctlEffect
  exact .ok (setCell h)
theorem ctlBinary_keeps {f} : keepsMem (ctlBinary f) := ctlEffect_keeps
theorem jumpTo {x y c t} (h : s.memOk) : okOnly State.memOk (s.jumpTo x y c t) := by
  unfold State.jumpTo
  exact .ite .error (.ok (setCell h))
theorem branch {x y c d b} (h : s.memOk) : okOnly State.memOk (s.branch x y c d b) := by
  unfold State.branch
  exact .ite (jumpTo h) (.ok (setCell h))
theorem ctlNopEffect_keeps : keepsMem ctlNopEffect := ctlEffect_keeps
theorem ctlLiEffect_keeps : keepsMem ctlLiEffect := ctlEffect_keeps
theorem ctlAddEffect_keeps : keepsMem ctlAddEffect := ctlBinary_keeps
theorem ctlSubEffect_keeps : keepsMem ctlSubEffect := ctlBinary_keeps
theorem ctlMulEffect_keeps : keepsMem ctlMulEffect := ctlBinary_keeps
theorem ctlAndEffect_keeps : keepsMem ctlAndEffect := ctlBinary_keeps
theorem ctlOrEffect_keeps : keepsMem ctlOrEffect := ctlBinary_keeps
theorem ctlXorEffect_keeps : keepsMem ctlXorEffect := ctlBinary_keeps
theorem ctlShlEffect_keeps : keepsMem ctlShlEffect := ctlBinary_keeps
theorem ctlShrEffect_keeps : keepsMem ctlShrEffect := ctlBinary_keeps
theorem ctlSraEffect_keeps : keepsMem ctlSraEffect := ctlBinary_keeps
theorem ctlAddiEffect_keeps : keepsMem ctlAddiEffect := ctlEffect_keeps
theorem ctlMinEffect_keeps : keepsMem ctlMinEffect := ctlBinary_keeps
theorem ctlMaxEffect_keeps : keepsMem ctlMaxEffect := ctlBinary_keeps
theorem ctlCompare_keeps {v} : keepsMem (ctlCompare v) := by
  intro x y r d s h
  unfold ctlCompare
  dsimp only
  split
  · exact .error
  · exact .ok (setCell h)
theorem ctlCmpEffect_keeps : keepsMem ctlCmpEffect := ctlCompare_keeps
theorem ctlCmpiEffect_keeps : keepsMem ctlCmpiEffect := ctlCompare_keeps
theorem ctlBrEffect_keeps : keepsMem ctlBrEffect := by
  intro x y r d s h
  unfold ctlBrEffect
  exact branch h
theorem ctlJmpEffect_keeps : keepsMem ctlJmpEffect := by
  intro x y r d s h
  unfold ctlJmpEffect
  exact branch h
theorem ctlLoopEffect_keeps : keepsMem ctlLoopEffect := by
  intro x y r d s h
  unfold ctlLoopEffect
  exact branch h
theorem ctlCallEffect_keeps : keepsMem ctlCallEffect := by
  intro x y r d s h
  unfold ctlCallEffect
  exact .ite .error (branch h)
theorem ctlRetEffect_keeps : keepsMem ctlRetEffect := by
  intro x y r d s h
  unfold ctlRetEffect
  dsimp only
  split
  · exact .error
  · exact jumpTo h
theorem ctlLdEffect_keeps : keepsMem ctlLdEffect := by
  intro x y r d s h
  unfold ctlLdEffect
  exact .bind (fun _ => .bind (fun _ => .ok (setCell h)))
theorem ctlStEffect_keeps : keepsMem ctlStEffect := by
  intro x y r d s h
  unfold ctlStEffect
  exact .bind (fun _ => .bindOk (writeCell h) (fun h => .ok (setCell h)))
theorem ctlEndEffect_keeps : keepsMem ctlEndEffect := by
  intro x y r d s h
  unfold ctlEndEffect
  exact .ite (.ok h) (.ok (tryEnd (setCell h)))

/-! ### Host accesses to HBM (R203, R368, R369) -/

theorem landHost {a d} (h : s.memOk) : (s.landHost a d).memOk := by unfold State.landHost; exact writeMem h
theorem hostWritePiece {a d} (h : s.memOk) : (s.hostWritePiece a d).memOk := by
  unfold State.hostWritePiece
  exact ite (addOb h) (ite (addOb h) (ite (addOb h) (ite (upd h) (landHost h))))
theorem hostWrite {a data} (h : s.memOk) : (s.hostWrite a data).memOk := by
  unfold State.hostWrite
  exact foldl (fun h => hostWritePiece h) h
theorem landHeld (h : s.memOk) : s.landHeld.memOk := by unfold State.landHeld; exact foldl (fun h => landHost h) (upd h)
theorem track {line} (h : s.memOk) : (s.track line).memOk := by unfold State.track; exact upd h
theorem snoopOut {line waits} (h : s.memOk) : (s.snoopOut line waits).memOk := by unfold State.snoopOut; exact emit (upd h)

/-! ### Generation sessions as data (R221 to R234) -/

theorem setSession {i v} (h : s.memOk) : (s.setSession i v).memOk := by unfold State.setSession; exact upd h
theorem addPage {i} (h : s.memOk) : (s.addPage i).memOk := by
  unfold State.addPage
  dsimp only
  split
  · exact h
  · exact setSession (writeMem (upd h))
theorem addPages {i n} (h : s.memOk) : (s.addPages i n).memOk := by
  induction n generalizing s with
  | zero => exact h
  | succ n ih => exact ih (addPage h)
theorem clearList {i} (h : s.memOk) : (s.clearList i).memOk := by unfold State.clearList; exact writeMem h
theorem writeBatch {phase set slots} (h : s.memOk) : (s.writeBatch phase set slots).2.memOk := by
  unfold State.writeBatch
  exact setMem h (Mem.wf_writeBytes _ _ _ (Mem.wf_writeBytes _ _ _ (Mem.wf_writeBytes _ _ _ (Mem.wf_writeBytes _ _ _ h.1))))
theorem updateSession {buf phase e i} (h : s.memOk) : (s.updateSession buf phase e i).memOk := by
  unfold State.updateSession
  refine ite ?_ ?_
  · dsimp only
    split
    · exact upd (setSession h)
    · exact setSession h
  · dsimp only
    split
    · exact upd (setSession h)
    · exact setSession h
theorem updateSessions {buf phase handles} (h : s.memOk) : (s.updateSessions buf phase handles).memOk := by
  unfold State.updateSessions
  exact foldl (fun h => updateSession h) h
theorem freeSlot {i} (h : s.memOk) : (s.freeSlot i).memOk := by unfold State.freeSlot; exact setSession (clearList h)
theorem returnPages {ps} (h : s.memOk) : (s.returnPages ps).memOk := by unfold State.returnPages; exact upd h

/-! ### How a host command runs (R375 to R379) -/

theorem enterFetched {q c} (h : s.memOk) : (s.enterFetched q c).2.memOk := by unfold State.enterFetched; exact upd h
theorem setFetched {f} (h : s.memOk) : (s.setFetched f).memOk := by unfold State.setFetched; exact upd h
theorem refuseRemoving {f} (h : s.memOk) : (s.refuseRemoving f).memOk := by
  unfold State.refuseRemoving
  exact ite (releaseEnding (refuse h)) (refuse h)
theorem refuseTurn {q c} (h : s.memOk) : (s.refuseTurn q c).memOk := by
  unfold State.refuseTurn
  split; exacts [ite (refuseRemoving h) h, refuseRemoving (enterFetched h)]
theorem hostCmd {q c} {run : Fetched → State → State} (h : s.memOk) (hrun : ∀ {f u}, u.memOk → (run f u).memOk) :
    nextOnly State.memOk (s.hostCmd q c run) := by
  refine unit h fun h => ite h (ite (refuseTurn h) ?_)
  split
  · exact ite (hrun h) h
  · exact hrun (enterFetched h)
theorem finish {f result clamped writes} (h : s.memOk) : (s.finish f result clamped writes).memOk := by
  unfold State.finish
  exact endCommand (foldl (fun h => logField h) h)
theorem judged {α : Type} {f} {e : Except Nat α} {go : α → State} (h : s.memOk) (hgo : ∀ {a}, (go a).memOk) :
    (s.judged f e go).memOk := by
  unfold State.judged
  split; exacts [refuse h, hgo]

/-! ### VEC descriptors (R117) -/

theorem lanesEffect_keeps {l f} : keepsMem (lanesEffect l f) := by
  intro x y r d s h
  unfold lanesEffect
  exact .ite .error (.bind (fun _ => .ite (.bind (fun _ => .ite (.bind (fun _ => .bindOk (writeSpa h) (fun h => .ok (countRow h))))
    (.bind (fun _ => .bindOk (writeSpa h) (fun h => .ok (countRow h)))))) (.bind (fun _ => .ite (.bind (fun _ => .bindOk (writeSpa h)
    (fun h => .ok (countRow h)))) (.bind (fun _ => .bindOk (writeSpa h) (fun h => .ok (countRow h))))))))
theorem vecAddEffect_keeps : keepsMem vecAddEffect := lanesEffect_keeps
theorem vecSubEffect_keeps : keepsMem vecSubEffect := lanesEffect_keeps
theorem vecMulEffect_keeps : keepsMem vecMulEffect := lanesEffect_keeps
theorem vecFmaEffect_keeps : keepsMem vecFmaEffect := lanesEffect_keeps
theorem vecDivEffect_keeps : keepsMem vecDivEffect := lanesEffect_keeps
theorem vecSqrtEffect_keeps : keepsMem vecSqrtEffect := lanesEffect_keeps
theorem vecMinEffect_keeps : keepsMem vecMinEffect := lanesEffect_keeps
theorem vecMaxEffect_keeps : keepsMem vecMaxEffect := lanesEffect_keeps
theorem vecCmpEffect_keeps : keepsMem vecCmpEffect := by
  intro x y r d s h
  unfold vecCmpEffect
  exact .ite .error (lanesEffect_keeps _ _ _ _ _ h)
theorem vecSelectEffect_keeps : keepsMem vecSelectEffect := lanesEffect_keeps
theorem vecAndEffect_keeps : keepsMem vecAndEffect := lanesEffect_keeps
theorem vecOrEffect_keeps : keepsMem vecOrEffect := lanesEffect_keeps
theorem vecXorEffect_keeps : keepsMem vecXorEffect := lanesEffect_keeps
theorem vecConvertEffect_keeps : keepsMem vecConvertEffect := lanesEffect_keeps
theorem fnEffect_keeps {f} : keepsMem (fnEffect f) := lanesEffect_keeps
theorem vecExpEffect_keeps : keepsMem vecExpEffect := fnEffect_keeps
theorem vecLogEffect_keeps : keepsMem vecLogEffect := fnEffect_keeps
theorem vecRecipEffect_keeps : keepsMem vecRecipEffect := fnEffect_keeps
theorem vecRsqrtEffect_keeps : keepsMem vecRsqrtEffect := fnEffect_keeps
theorem vecTanhEffect_keeps : keepsMem vecTanhEffect := fnEffect_keeps
theorem vecSigmoidEffect_keeps : keepsMem vecSigmoidEffect := fnEffect_keeps
theorem vecErfEffect_keeps : keepsMem vecErfEffect := fnEffect_keeps
theorem vecSumEffect_keeps : keepsMem vecSumEffect := by
  intro x y r d s h
  unfold vecSumEffect
  exact .ite .error (.bind (fun _ => .ite (.bindOk (writeSpa h) (fun h => .ok (countRow h))) (.bindOk (writeSpa h) (fun h => .ok
    (countRow h)))))
theorem reduceEffect_keeps {max? index} : keepsMem (reduceEffect max? index) := by
  intro x y r d s h
  unfold reduceEffect
  exact .ite .error (.bind (fun _ => writeSpa h))
theorem vecRmaxEffect_keeps : keepsMem vecRmaxEffect := reduceEffect_keeps
theorem vecRminEffect_keeps : keepsMem vecRminEffect := reduceEffect_keeps
theorem vecArgmaxEffect_keeps : keepsMem vecArgmaxEffect := reduceEffect_keeps
theorem vecArgminEffect_keeps : keepsMem vecArgminEffect := reduceEffect_keeps
theorem vecPhiloxEffect_keeps : keepsMem vecPhiloxEffect := by
  intro x y r d s h
  unfold vecPhiloxEffect
  exact .ite .error (writeSpa h)
theorem writeKeys {x y r d keys words} (h : s.memOk) : okOnly State.memOk (s.writeKeys x y r d keys words) := by
  unfold State.writeKeys
  exact .bind (fun _ => .bindOk (writeCell h) (fun h => .ite (.ok h) (writeCell h)))
theorem vecSortEffect_keeps : keepsMem vecSortEffect := by
  intro x y r d s h
  unfold vecSortEffect
  exact .ite .error (.bind (fun _ => .ite (.bind (fun _ => writeKeys h)) (.bind (fun _ => writeKeys h))))
theorem vecTopkEffect_keeps : keepsMem vecTopkEffect := by
  intro x y r d s h
  unfold vecTopkEffect
  exact .ite .error (.bind (fun _ => .bindOk (writeKeys h) (fun h => .ok (countRow h))))

/-! ### Sampling and HEAVY (R122, R237) -/

theorem sampleOne {x y l p t c v i} (h : s.memOk) : okOnly State.memOk (s.sampleOne x y l p t c v i) := by
  unfold State.sampleOne
  exact .bind (fun _ => .bind (fun _ => .bindOk (writeCell h) (fun h => .ok (countRow h))))
theorem sampleAll {x y l p t c v n i} (h : s.memOk) : okOnly State.memOk (State.sampleAll x y l p t c v n i s) := by
  induction n generalizing i s with
  | zero => exact .ok h
  | succ n ih =>
    unfold State.sampleAll
    split
    · exact .error
    · exact ih (sampleOne h _ ‹_›)
theorem smpSampleEffect_keeps : keepsMem smpSampleEffect := by
  intro x y r d s h
  unfold smpSampleEffect
  exact .ite .error (.bind (fun _ => .bind (fun _ => .bind (fun _ => sampleAll h))))
theorem addHint {h'} (h : s.memOk) : (s.addHint h').memOk := by unfold State.addHint; exact ite h (ite (addOb h) (upd h))
theorem hntHeavyEffect_keeps : keepsMem hntHeavyEffect := by
  intro x y r d s h
  unfold hntHeavyEffect
  exact .ok (addHint (countRow h))

/-! ### Immediate commands (R385 to R387, R390) -/

theorem hintCommand {f} (h : s.memOk) : (s.hintCommand f).memOk := by unfold State.hintCommand; exact judged h (finish (addHint h))
theorem fenceCommand {f} (h : s.memOk) : (s.fenceCommand f).memOk := by
  unfold State.fenceCommand
  exact judged h (ite (finish h) (setFetched h))
theorem giveReceipts {f} (h : s.memOk) : (s.giveReceipts f).memOk := by unfold State.giveReceipts; exact finish h
theorem readReceiptCommand {f} (h : s.memOk) : (s.readReceiptCommand f).memOk := by
  unfold State.readReceiptCommand
  exact judged h (ite (upd (setFetched h)) (giveReceipts h))
theorem giveNewReceipts (h : s.memOk) : s.giveNewReceipts.memOk := by
  unfold State.giveNewReceipts
  exact ite h (foldl (fun h => giveReceipts h) h)
theorem readSignaturesCommand {f} (h : s.memOk) : (s.readSignaturesCommand f).memOk := by
  unfold State.readSignaturesCommand
  exact judged h (finish h)

/-! ### MAT descriptors (R116) -/

theorem matWloadEffect_keeps : keepsMem matWloadEffect := by
  intro x y r d s h
  unfold matWloadEffect
  exact .bind (fun _ => .ok (setCell h))
theorem matStreamEffect_keeps : keepsMem matStreamEffect := by
  intro x y r d s h
  unfold matStreamEffect
  dsimp only
  split
  · exact .error
  · exact .bind (fun _ => .ite .error (.ok (setCell h)))
theorem writePieces {x y off ps} (h : s.memOk) : okOnly State.memOk (s.writePieces x y off ps) := by
  induction ps generalizing s with
  | nil => exact .ok h
  | cons p ps ih =>
    unfold State.writePieces
    split
    · exact .error
    · exact ih (writeCell h _ ‹_›)
theorem drainNatural {x y r d} (h : s.memOk) : okOnly State.memOk (s.drainNatural x y r d) := by
  unfold State.drainNatural
  refine .ite .error ?_
  split
  · exact .error
  · exact .bind (fun _ => .ite (.bindOk (writeCell h) (fun h => .ok (countRow (setCell h)))) (.bindOk (writePieces h) (fun h => .ok
      (countRow (setCell h)))))
theorem matGaugeEffect_keeps : keepsMem matGaugeEffect := by
  intro x y r d s h
  unfold matGaugeEffect
  exact .ite .error (.bind (fun _ => writeSpa h))
theorem matGcombineEffect_keeps : keepsMem matGcombineEffect := by
  intro x y r d s h
  unfold matGcombineEffect
  exact .bind (fun _ => .bind (fun _ => .ite .error (writeSpa h)))

/-! ### Tensor descriptors (R154 to R161) -/

theorem writeRuns {rs} (h : s.memOk) : okOnly State.memOk (s.writeRuns rs) := by
  induction rs generalizing s with
  | nil => exact .ok h
  | cons r rs ih =>
    unfold State.writeRuns
    split
    · exact .error
    · exact ih (writeDev h _ ‹_›)
theorem writeTensor {t es} (h : s.memOk) : okOnly State.memOk (s.writeTensor t es) := by unfold State.writeTensor; exact writeRuns h

/-! ### Transform drains and the matrix engine (R162 to R164) -/

theorem drainXForm {x y r d} (h : s.memOk) : okOnly State.memOk (s.drainXForm x y r d) := by
  unfold State.drainXForm
  refine .bind (fun _ => .bind (fun _ => .ite .error (.bind (fun _ => ?_))))
  split; exacts [.error, .bindOk (writeTensor h) (fun h => .ok (countRow (setCell h)))]
theorem matDrainEffect_keeps : keepsMem matDrainEffect := by
  intro x y r d s h
  unfold matDrainEffect
  exact .ite (drainNatural h) (.ite (drainXForm h) .error)

/-! ### MOV descriptors (R118, R165 to R179) -/

theorem copyTensor {src dst perm} (h : s.memOk) : okOnly State.memOk (s.copyTensor src dst perm) := by
  unfold State.copyTensor
  exact .bind (fun _ => writeTensor h)
theorem movCopyEffect_keeps : keepsMem movCopyEffect := by
  intro x y r d s h
  unfold movCopyEffect
  exact .bind (fun _ => .bind (fun _ => copyTensor h))
theorem movPermuteEffect_keeps : keepsMem movPermuteEffect := by
  intro x y r d s h
  unfold movPermuteEffect
  exact .bind (fun _ => .bind (fun _ => copyTensor h))
theorem countIndices {vs mode n} (h : s.memOk) : (s.countIndices vs mode n).memOk := by unfold State.countIndices; exact countRow h
theorem movGatherEffect_keeps : keepsMem movGatherEffect := by
  intro x y r d s h
  unfold movGatherEffect
  refine .bind (fun _ => ?_)
  split
  exact .bind (fun _ => .bindOk (writeTensor h) (fun h => .ok (countIndices h)))
theorem movScatterEffect_keeps : keepsMem movScatterEffect := by
  intro x y r d s h
  unfold movScatterEffect
  refine .bind (fun _ => ?_)
  split
  exact .bind (fun _ => .bindOk (writeTensor h) (fun h => .ok (countIndices h)))
theorem movScatterAddEffect_keeps : keepsMem movScatterAddEffect := by
  intro x y r d s h
  unfold movScatterAddEffect
  refine .bind (fun _ => ?_)
  split
  exact .bind (fun _ => .bindOk (writeTensor h) (fun h => .ok (countRow (countIndices h))))
theorem reshardFrom {src dst q} (h : s.memOk) : okOnly State.memOk (s.reshardFrom src dst q) := by
  unfold State.reshardFrom
  exact .foldlM (fun h => .ite (.ok h) (writeTensor h)) h
theorem reshardCell {sec a b x y} (h : s.memOk) : okOnly State.memOk (s.reshardCell sec a b x y) := by
  unfold State.reshardCell
  split
  · exact .ite .error (.ite .error (by split; exacts [reshardFrom h, .ok h]))
  · exact .error
theorem movReshardEffect_keeps : keepsMem movReshardEffect := by
  intro x y r d s h
  unfold movReshardEffect
  split
  · exact .ok h
  · dsimp only
    split
    · exact .error
    · exact .ok (setCell ((reshardCell h) _ ‹_›))

/-! ### The parameter update engines (R121, R243 to R254) -/

theorem writeAll {ws} (h : s.memOk) : okOnly State.memOk (s.writeAll ws) := by
  induction ws generalizing s with
  | nil => exact .ok h
  | cons w ws ih =>
    unfold State.writeAll
    split
    · exact .error
    · exact ih (writeHbm h _ ‹_›)
theorem updElements {b r k n e} (h : s.memOk) : okOnly State.memOk (State.updElements b r k n e s) := by
  induction n generalizing e s with
  | zero => exact .ok h
  | succ n ih =>
    unfold State.updElements
    split
    · exact .error
    · split
      · exact .error
      · exact ih (writeAll h _ ‹_›)
theorem updJobEffect_keeps : keepsMem updJobEffect := by
  intro x y r d s h
  unfold updJobEffect
  exact .ite .error (.ite .error (.ite .error (.ite (.ok h) (.ok (upd (setCell h))))))
theorem countJobClamps {i j r} (h : s.memOk) : (s.countJobClamps i j r).memOk := by
  unfold State.countJobClamps
  refine ite ?_ (countRow h)
  dsimp only
  split
  · exact ite (upd (countRow h)) (log (upd (countRow h)))
  · exact upd (countRow h)
theorem startJob {i j rest} (h : s.memOk) : (s.startJob i j rest).memOk := by
  unfold State.startJob
  split
  · exact stop h
  · split; exacts [countJobClamps (upd (upd h)), raiseFault h, raiseFault h]
theorem finishJob {i j} (h : s.memOk) : (s.finishJob i j).memOk := by
  unfold State.finishJob
  split
  · exact h
  · split; exacts [stop h, tryEnd (setCell (upd ((updElements h) _ ‹_›)))]
theorem writerWrite {w addr data} (h : s.memOk) : okOnly State.memOk (s.writerWrite w addr data) := by
  unfold State.writerWrite
  split; exacts [writeHbm h, .ite .error (writeHbm h)]

/-! ### The sequencer of a cell (R59, R60, R111) -/

/-- Every effect of a table keeps the memories canonical. -/
theorem tableEffect {c : Prop} [Decidable c] {e : Effect} {o : Option Effect} (he : keepsMem e) (ho : ∀ f, o = some f → keepsMem f) :
    ∀ f, (if c then some e else o) = some f → keepsMem f := by
  split
  · rintro _ ⟨⟩
    exact he
  · exact ho

theorem noEffect : ∀ f, (none : Option Effect) = some f → keepsMem f := nofun

theorem matEffect_keeps {op} : ∀ f, matEffect op = some f → keepsMem f := by
  unfold matEffect
  exact tableEffect matWloadEffect_keeps (tableEffect matStreamEffect_keeps (tableEffect matDrainEffect_keeps (tableEffect
    matGaugeEffect_keeps (tableEffect matGcombineEffect_keeps noEffect))))
theorem vecEffect_keeps {op} : ∀ f, vecEffect op = some f → keepsMem f := by
  unfold vecEffect
  exact tableEffect vecAddEffect_keeps (tableEffect vecSubEffect_keeps (tableEffect vecMulEffect_keeps (tableEffect vecFmaEffect_keeps
    (tableEffect vecDivEffect_keeps (tableEffect vecSqrtEffect_keeps (tableEffect vecMinEffect_keeps (tableEffect vecMaxEffect_keeps
    (tableEffect vecCmpEffect_keeps (tableEffect vecSelectEffect_keeps (tableEffect vecAndEffect_keeps (tableEffect vecOrEffect_keeps
    (tableEffect vecXorEffect_keeps (tableEffect vecConvertEffect_keeps (tableEffect vecSumEffect_keeps (tableEffect
    vecRmaxEffect_keeps (tableEffect vecRminEffect_keeps (tableEffect vecArgmaxEffect_keeps (tableEffect vecArgminEffect_keeps
    (tableEffect vecExpEffect_keeps (tableEffect vecLogEffect_keeps (tableEffect vecRecipEffect_keeps (tableEffect
    vecRsqrtEffect_keeps (tableEffect vecTanhEffect_keeps (tableEffect vecSigmoidEffect_keeps (tableEffect vecErfEffect_keeps
    (tableEffect vecPhiloxEffect_keeps (tableEffect vecSortEffect_keeps (tableEffect vecTopkEffect_keeps
    noEffect))))))))))))))))))))))))))))
theorem movEffect_keeps {op} : ∀ f, movEffect op = some f → keepsMem f := by
  unfold movEffect
  exact tableEffect movCopyEffect_keeps (tableEffect movPermuteEffect_keeps (tableEffect movGatherEffect_keeps (tableEffect
    movScatterEffect_keeps (tableEffect movScatterAddEffect_keeps (tableEffect movReshardEffect_keeps noEffect)))))
theorem synEffect_keeps {op} : ∀ f, synEffect op = some f → keepsMem f := by
  unfold synEffect
  exact tableEffect synSendEffect_keeps (tableEffect synRecvEffect_keeps (tableEffect synRecvaddEffect_keeps (tableEffect
    synBarrierEffect_keeps (tableEffect synWaitmarkEffect_keeps noEffect))))
theorem chkEffect_keeps {op} : ∀ f, chkEffect op = some f → keepsMem f := by
  unfold chkEffect
  exact tableEffect chkInsertEffect_keeps (tableEffect chkVerifyEffect_keeps noEffect)
theorem ctlEffectOf_keeps {op} : ∀ f, ctlEffectOf op = some f → keepsMem f := by
  unfold ctlEffectOf
  exact tableEffect ctlNopEffect_keeps (tableEffect ctlEndEffect_keeps (tableEffect ctlLiEffect_keeps (tableEffect ctlAddEffect_keeps
    (tableEffect ctlSubEffect_keeps (tableEffect ctlMulEffect_keeps (tableEffect ctlAndEffect_keeps (tableEffect ctlOrEffect_keeps
    (tableEffect ctlXorEffect_keeps (tableEffect ctlShlEffect_keeps (tableEffect ctlShrEffect_keeps (tableEffect ctlSraEffect_keeps
    (tableEffect ctlAddiEffect_keeps (tableEffect ctlMinEffect_keeps (tableEffect ctlMaxEffect_keeps (tableEffect ctlCmpEffect_keeps
    (tableEffect ctlCmpiEffect_keeps (tableEffect ctlBrEffect_keeps (tableEffect ctlJmpEffect_keeps (tableEffect ctlLoopEffect_keeps
    (tableEffect ctlCallEffect_keeps (tableEffect ctlRetEffect_keeps (tableEffect ctlLdEffect_keeps (tableEffect ctlStEffect_keeps
    noEffect)))))))))))))))))))))))
theorem effectOf_keeps {d} : ∀ f, effectOf d = some f → keepsMem f := by
  unfold effectOf
  dsimp only
  split
  · exact ctlEffectOf_keeps
  split
  · exact matEffect_keeps
  split
  · exact vecEffect_keeps
  split
  · exact movEffect_keeps
  split
  · exact synEffect_keeps
  split
  · exact chkEffect_keeps
  split
  · exact tableEffect updJobEffect_keeps noEffect
  split
  · exact tableEffect hntHeavyEffect_keeps noEffect
  split
  · exact tableEffect smpSampleEffect_keeps noEffect
  · exact noEffect
theorem issueOwn {x y d eff} (h : s.memOk) (h1 : keepsMem eff) : (s.issueOwn x y d eff).memOk := by
  unfold State.issueOwn
  exact ite h (by split; exacts [stop h, ite ((h1 _ _ _ _ _ h) _ ‹_›) (setCell ((h1 _ _ _ _ _ h) _ ‹_›))])
theorem issue {x y} (h : s.memOk) : (s.issue x y).memOk := by
  unfold State.issue
  split
  · exact h
  · refine ite (raiseFault h) (ite (raise (setCell h)) ?_)
    split
    · exact raiseFault h
    · refine ite (raiseFault h) ?_
      split
      · exact issueOwn h (effectOf_keeps _ ‹_›)
      · exact setCell h
theorem startDesc {x y u i rest} (h : s.memOk) : (s.startDesc x y u i rest).memOk := by
  unfold State.startDesc
  dsimp only
  split
  · exact raiseFault (setCell h)
  · split
    · exact stop (setCell h)
    · exact setCell (effectOf_keeps _ ‹_› _ _ _ _ _ (setCell h) _ ‹_›)

/-! ### The rules of a pattern image -/

theorem allocateRings (h : s.memOk) : s.allocateRings.memOk := by unfold State.allocateRings; exact upd h

/-! ### LOAD_PATTERN (R101 to R110) -/

theorem readPoison {x} (h : s.memOk) : (s.readPoison x).memOk := by unfold State.readPoison; split; exacts [stop h, h]
theorem fillHome {r} (h : s.memOk) : (s.fillHome r).memOk := by
  unfold State.fillHome
  exact ite (writeMem (closeMerge h)) (foldl (fun h => readPoison (writeMem (draw h))) (writeMem (closeMerge h)))
theorem fillRange {r} (h : s.memOk) : (s.fillRange r).memOk := by unfold State.fillRange; exact ite h (fillHome h)
theorem install {slot m} (h : s.memOk) : (s.install slot m).memOk := by
  unfold State.install
  exact allocateRings (upd (upd (foldl (fun h => fillRange h) h)))
theorem loadPattern {f} (h : s.memOk) : (s.loadPattern f).memOk := by
  unfold State.loadPattern
  exact judged (ite (readPoison h) h) (ite (finish (install (ite (readPoison h) h))) (endCommand (log (install (ite (readPoison h) h)))))
theorem copyBack {r} (h : s.memOk) : (s.copyBack r).memOk := by
  unfold State.copyBack
  exact setMem h (Mem.wf_foldl (fun h => Mem.wf_writeBytes _ _ _ h) _ h.1)
theorem unload {i p} (h : s.memOk) : (s.unload i p).memOk := by
  unfold State.unload
  exact allocateRings (upd (foldl (fun h => copyBack h) h))
theorem unloadPattern {f} (h : s.memOk) : (s.unloadPattern f).memOk := by unfold State.unloadPattern; exact judged h (finish (unload h))

/-! ### Receipts and counters (R215 to R220) -/

theorem appendChain {record} (h : s.memOk) : (s.appendChain record).memOk := by unfold State.appendChain; exact upd h
theorem signBundle {forced bindOff} (h : s.memOk) : (s.signBundle forced bindOff).memOk := by unfold State.signBundle; exact msix (upd h)
theorem dueBundle (h : s.memOk) : s.dueBundle.memOk := by unfold State.dueBundle; exact ite (signBundle h) h
theorem addCounters (h : s.memOk) : s.addCounters.memOk := by unfold State.addCounters; exact foldl (fun h => ite h (addOb h)) h
theorem addRunTotals (h : s.memOk) : s.addRunTotals.memOk := by
  unfold State.addRunTotals
  dsimp only
  split
  · exact ite (ite (ite h (addOb h)) (addOb (ite h (addOb h)))) (upd (ite (ite h (addOb h)) (addOb (ite h (addOb h)))))
  · exact ite (ite h (addOb h)) (addOb (ite h (addOb h)))

/-! ### Regions and the module's power (R286 to R317) -/

theorem onRegion {r} {f : State → State} (h : s.memOk) (hf : ∀ {u}, u.memOk → (f u).memOk) : nextOnly State.memOk (s.onRegion r f) :=
  unit h hf
theorem trip {r cstate} (h : s.memOk) : (s.trip r cstate).memOk := by unfold State.trip; exact loseRegion (setReg (latchOff h))

/-! ### OPEN_SESSION and CLOSE_SESSION (R221 to R228) -/

theorem openSession {f i} (h : s.memOk) : (s.openSession f i).memOk := by unfold State.openSession; exact finish (setSession (clearList h))
theorem zeroPages {ps} (h : s.memOk) : (s.zeroPages ps).memOk := by unfold State.zeroPages; exact setMem h (Mem.wf_filter _ _ h.1)
theorem closeSession {f i} (h : s.memOk) : (s.closeSession f i).memOk := by
  unfold State.closeSession
  exact ite (setFetched (upd (freeSlot h))) (finish (returnPages (freeSlot h)))

/-! ### Run commands (R232, R375) -/

theorem queueRun {α : Type} {f} {e : Except Nat α} (h : s.memOk) : (s.queueRun f e).memOk := judged h (setFetched h)
theorem admitSession {h'} (h : s.memOk) : (s.admitSession h').memOk := by unfold State.admitSession; exact setSession (addPages h)
theorem activate {r} (h : s.memOk) : (s.activate r).memOk := by unfold State.activate; exact upd h
theorem startCommand {f} (h : s.memOk) : (s.startCommand f).memOk := by
  unfold State.startCommand
  exact ite (judged h (activate h)) (ite (judged h (activate h)) (ite (judged h (activate (draw h))) (judged h (activate (foldl (fun h =>
    admitSession h) h)))))
theorem startNext (h : s.memOk) : s.startNext.memOk := by unfold State.startNext; split; exacts [startCommand (upd h), h]
theorem startRuns {n} (h : s.memOk) : (State.startRuns n s).memOk := by
  induction n generalizing s with
  | zero => exact h
  | succ n ih => exact ite (ih (startNext h)) h

/-! ### Dictionary values that wait for a row boundary (R88) -/

theorem hold {idx sub v quiet} (h : s.memOk) : (s.hold idx sub v quiet).memOk := by unfold State.hold; exact upd h
theorem modeNow (h : s.memOk) : s.modeNow.memOk := by unfold State.modeNow; exact setOb h
theorem capWritten (h : s.memOk) : s.capWritten.memOk := by unfold State.capWritten; exact ite (setOb h) (applyCap h)
theorem switchActuator (h : s.memOk) : s.switchActuator.memOk := by unfold State.switchActuator; exact ite (upd h) (upd h)
theorem holdTrip {idx} (h : s.memOk) : (s.holdTrip idx).memOk := by unfold State.holdTrip; exact ite h (log (setOb h))
theorem afterEffect {key old new} (h : s.memOk) : (s.afterEffect key old new).memOk := by
  unfold State.afterEffect
  exact ite (capWritten h) (ite (ite h (switchActuator h)) (ite (modeNow h) (ite (holdTrip h) (ite (upd h) h))))
theorem takeEffect {l} (h : s.memOk) : (s.takeEffect l).memOk := by
  unfold State.takeEffect
  exact afterEffect (ite (setOb (foldl (fun h => log h) (upd h))) (log (setOb (foldl (fun h => log h) (upd h)))))
theorem applyLatched {row} (h : s.memOk) : (s.applyLatched row).memOk := by
  unfold State.applyLatched
  exact ite (foldl (fun h => takeEffect h) (foldl (fun h => takeEffect h) h)) (foldl (fun h => takeEffect h) h)
theorem freeLatched (h : s.memOk) : s.freeLatched.memOk := by unfold State.freeLatched; exact upd h
theorem logWait {l} (h : s.memOk) : (s.logWait l).memOk := by unfold State.logWait; exact ite h (upd (logEvent h))
theorem applyGrid {row} (h : s.memOk) : (s.applyGrid row).memOk := by
  unfold State.applyGrid
  have ht {l : List Latched} : (l.foldl State.takeEffect s).memOk := foldl (fun h => takeEffect h) h
  refine ite ?waits (upd ht)
  generalize List.head? _ = o
  cases o with
  | none => exact ht
  | some l => exact logWait ht

/-! ### Naela messages at their destination (R396 to R407) -/

theorem takeGathered {p m} (h : s.memOk) : (s.takeGathered p m).memOk := by unfold State.takeGathered; split; exacts [upd h, h]
theorem noteId {src id} (h : s.memOk) : (s.noteId src id).memOk := by unfold State.noteId; exact upd h
theorem ackMessage {m} (h : s.memOk) : (s.ackMessage m).memOk := by unfold State.ackMessage; exact sendControl h
theorem landPieces {rs ps} (h : s.memOk) : okOnly State.memOk (s.landPieces rs ps) := by
  induction ps generalizing s with
  | nil => exact .ok h
  | cons p ps ih =>
    unfold State.landPieces
    split
    · exact .error
    · split
      · exact .error
      · exact ih (writeHbmLine h _ ‹_›)
theorem landBody {a body} (h : s.memOk) : okOnly State.memOk (s.landBody a body) := by
  unfold State.landBody
  exact .ite .error (landPieces h)
theorem landMessage {p m} (h : s.memOk) : (s.landMessage p m).memOk := by
  unfold State.landMessage
  refine ite (ite (raise h) (ackMessage (hostWrite h))) ?_
  split
  · exact ite (raise h) (by split; exacts [ackMessage ((landBody h) _ ‹_›), raiseFault h, stop h])
  · exact upd h
  · exact h
theorem drainEarly {src all n} (h : s.memOk) : (s.drainEarly src all n).memOk := by
  induction n generalizing s with
  | zero => exact h
  | succ n ih =>
    unfold State.drainEarly
    dsimp only
    split
    · exact h
    · exact ite (ih (landMessage (noteId (upd h)))) h
theorem badCrc {m p} (h : s.memOk) : (s.badCrc m p).memOk := by
  unfold State.badCrc
  exact ite (upd h) (ite (raise (addOb (upd h))) (upd h))
theorem arriveKept {p m} (h : s.memOk) : (s.arriveKept p m).memOk := by
  unfold State.arriveKept
  exact ite (dispatchVc (takeGathered h)) (ite (badCrc (takeGathered h)) (ite (ite (takeGathered h) (ackMessage (takeGathered h))) (ite
    (takeGathered h) (drainEarly (upd (takeGathered h))))))
theorem pokeBarriers (h : s.memOk) : s.pokeBarriers.memOk := by unfold State.pokeBarriers; exact foldl (fun h => ite (arriveSystem h) h) h
theorem takeControl {p m} (h : s.memOk) : (s.takeControl p m).memOk := by
  unfold State.takeControl
  exact ite (noteId (takeGathered h)) (takeGathered h)
theorem control {p m f} (h : s.memOk) (hf : ∀ {u : State}, u.memOk → (f u).memOk) : (s.control p m f).memOk := by
  unfold State.control
  exact ite (dispatchVc (takeGathered h)) (ite (takeGathered h) (drainEarly (hf (takeControl h))))
theorem actBarrier {m} (h : s.memOk) : (s.actBarrier m).memOk := by
  unfold State.actBarrier
  dsimp only
  split
  · exact ite (arriveSystem (upd h)) (upd h)
  · exact releaseSystem h
  · exact h
theorem takeBarrier {p m} (h : s.memOk) : (s.takeBarrier p m).memOk := by
  unfold State.takeBarrier
  exact ite h (by split; exacts [actBarrier h, upd h, h])
theorem releaseHeld (h : s.memOk) : s.releaseHeld.memOk := by
  unfold State.releaseHeld
  exact foldl (fun h => ite (takeBarrier h) (landMessage h)) (upd h)
theorem takeTime {p m} (h : s.memOk) : (s.takeTime p m).memOk := by
  unfold State.takeTime
  dsimp only
  split
  · exact sendControl h
  · split; exacts [ite (exchange h) h, h]
  · exact hearAnnounce h
  · exact h
theorem takePower {m} (h : s.memOk) : (s.takePower m).memOk := by
  unfold State.takePower
  exact ite h (ite (foldl (fun h => sendControl h) (upd h)) (upd h))
theorem sendPlans {row} (h : s.memOk) : (s.sendPlans row).memOk := by unfold State.sendPlans; exact foldl (fun h => sendControl h) h
theorem takeRoute {p b} (h : s.memOk) : (s.takeRoute p b).memOk := by unfold State.takeRoute; exact ite h (ite h (floodRoute (upd h)))

/-! ### The start of a row or of a replay (R86 to R93) -/

theorem passTo {t} (h : s.memOk) : (s.passTo t).memOk := by unfold State.passTo; exact ite h (upd (pass h))
theorem refillLine {n line} (h : s.memOk) : (s.refillLine n line).memOk := by
  unfold State.refillLine
  split
  · exact h
  · exact setMem (draw h) (Mem.wf_writeBytes _ _ _ h.1)
theorem repairLine {n e} (h : s.memOk) : (s.repairLine n e).memOk := by
  unfold State.repairLine
  exact ite (queueLoss h) (signDefect (appendDefect (upd (ite (refillLine h) h))))
theorem repairLines (h : s.memOk) : s.repairLines.memOk := by
  unfold State.repairLines
  exact foldl (fun h => foldl (fun h => repairLine h) (ite h (upd h))) h
theorem repairRows (h : s.memOk) : s.repairRows.memOk := by
  unfold State.repairRows
  exact foldl (fun h => signDefect (appendDefect h)) (upd h)
theorem stepRegions (h : s.memOk) : s.stepRegions.memOk := by
  unfold State.stepRegions
  exact foldl (fun h => ite (setOb (setReg (logEvent h))) h) h
theorem retireUnit {u cause} (h : s.memOk) : (s.retireUnit u cause).memOk := by
  unfold State.retireUnit
  split; exacts [ite h (failPort h), retire h]
theorem retireSuspects (h : s.memOk) : s.retireSuspects.memOk := by
  unfold State.retireSuspects
  exact foldl (fun h => retireUnit h) (upd h)
theorem replaceWire {n w} (h : s.memOk) : (s.replaceWire n w).memOk := by
  unfold State.replaceWire
  split; exacts [laneTest h, signDefect (appendDefect (upd h))]
theorem repairPlace {d cause} (h : s.memOk) : (s.repairPlace d cause).memOk := by
  unfold State.repairPlace
  exact ite (upd h) (ite (appendDefect (upd h)) (queueLoss h))
theorem retireSelected {d} (h : s.memOk) : (s.retireSelected d).memOk := by
  unfold State.retireSelected
  split
  · exact queueLoss h
  · exact ite (ite (repairPlace h) (signDefect (repairPlace h))) (ite (repairPlace h) (ite (replaceWire h) (ite (upd h) (ite (failLane h)
      h))))
theorem retireSelectors (h : s.memOk) : s.retireSelectors.memOk := by
  unfold State.retireSelectors
  exact foldl (fun h => retireSelected h) (upd h)
theorem newRoutes (h : s.memOk) : s.newRoutes.memOk := by unfold State.newRoutes; split; exacts [upd h, h]
theorem bindOffAlone (h : s.memOk) : s.bindOffAlone.memOk := by unfold State.bindOffAlone; exact ite (ite (setSubstate (upd h)) (upd h)) h
theorem runNow (h : s.memOk) : s.runNow.memOk := by unfold State.runNow; exact ite (freeLatched (enter (upd h))) (upd h)
theorem boundary {row} (h : s.memOk) : (s.boundary row).memOk := by
  unfold State.boundary
  exact changeOver (retireSuspects (stepRegions (repairRows (repairLines (bindOffAlone (modeNow (naelaBoundary (retireSelectors (sleep
    (laneTests (newRoutes (applyLatched (runNow h)))))))))))))
theorem prologue {r p k} (h : s.memOk) : (s.prologue r p k).memOk := by
  unfold State.prologue
  dsimp only
  split
  · exact h
  · have hm {l : List (Nat × Nat × Nat)} {b d : Nat} : Mem.wf (l.foldl (fun (m : Mem) a =>
        if a.2.1 = 0 then m else m.writeBytes (b + a.1) (s.readImage (d + a.2.2) a.2.1)) s.mem) = true :=
      Mem.wf_foldl (fun h => by split; exacts [h, Mem.wf_writeBytes _ _ _ h]) l h.1
    refine ite h ?_
    split
    · exact stop (setMem h hm)
    · exact setMem h hm
theorem startCells {r p} (h : s.memOk) : (s.startCells r p).memOk := by unfold State.startCells; exact upd h
theorem restCells (h : s.memOk) : s.restCells.memOk := by unfold State.restCells; exact upd h
theorem copyPiece {a d} (h : s.memOk) : okOnly State.memOk (s.copyPiece a d) := by
  unfold State.copyPiece
  split; exacts [writeCell h, .ok (writeMem h)]
theorem copyPieces {ps} (h : s.memOk) : okOnly State.memOk (s.copyPieces ps) := by
  induction ps generalizing s with
  | nil => exact .ok h
  | cons p ps ih =>
    unfold State.copyPieces
    split
    · exact ih (copyPiece h _ ‹_›)
    · exact .error
theorem copyRow {r} (h : s.memOk) : (s.copyRow r).memOk := by unfold State.copyRow; split; exacts [stop h, settle h (copyPieces h)]
theorem reshardRow {r} (h : s.memOk) : (s.reshardRow r).memOk := by
  unfold State.reshardRow
  split; exacts [h, foldl (fun h => ite (settle h (reshardCell h)) h) h]
theorem startBatch (h : s.memOk) : s.startBatch.memOk := by unfold State.startBatch; split; exacts [ite (upd (writeBatch h)) h, h]
theorem startWork (h : s.memOk) : s.startWork.memOk := by
  unfold State.startWork
  split
  · exact restCells h
  · refine ite (restCells h) ?_
    split
    · exact reshardRow (restCells h)
    · exact copyRow (restCells h)
    · split
      · exact restCells h
      · exact ite (startCells (foldl (fun h => prologue h) (startBatch h))) (foldl (fun h => prologue h) (startBatch h))
theorem failAtStart (h : s.memOk) : s.failAtStart.memOk := by unfold State.failAtStart; split; exacts [ite h (raise (upd h)), h]
theorem followPhase (h : s.memOk) : s.followPhase.memOk := by unfold State.followPhase; exact upd h
theorem openAttempt {startMark deadline} (h : s.memOk) : (s.openAttempt startMark deadline).memOk := by
  unfold State.openAttempt
  exact releaseHeld (releaseVerdicts (failAtStart (startWork (followPhase (upd h)))))
theorem openRow {startMark deadline} (h : s.memOk) : (s.openRow startMark deadline).memOk := by
  unfold State.openRow
  exact openAttempt (upd h)
theorem startRow {startMark base atMark} (h : s.memOk) : (s.startRow startMark base atMark).memOk := by
  unfold State.startRow
  extract_lets _ _ c
  have hc : c.memOk := startRuns (endStopped (ite (applyGrid (boundary h)) (boundary h)))
  exact ite hc (ite (ite (skipMark hc) hc) (openRow hc))
theorem startReplay {mark} (h : s.memOk) : (s.startReplay mark).memOk := by
  unfold State.startReplay
  exact ite (applyGrid (boundary h)) (ite (upd (skipMark (applyGrid (boundary h)))) (ite (skipMark (applyGrid (boundary h))) (openAttempt
    (upd (applyGrid (boundary h))))))

/-! ### Localisation (R71 to R74, R214) -/

theorem plyRepair {x y p cause kind ply i new code} (h : s.memOk) : (s.plyRepair x y p cause kind ply i new code).memOk := by
  unfold State.plyRepair
  exact signature (appendDefect (upd h))
theorem steer {x y p cause l} (h : s.memOk) : (s.steer x y p cause l).1.memOk := by
  unfold State.steer
  dsimp only
  split
  · exact iteFst (plyRepair h) (retire h)
  · exact iteFst h (iteFst (plyRepair h) (retire h))
  · exact h
theorem localise {cause locs x y} (h : s.memOk) : (s.localise cause locs x y).1.memOk := by
  unfold State.localise
  split
  · exact h
  · refine ite (upd ?_) ?_ <;> exact foldlFst (fun h => steer h) (upd (setCell h))
theorem localiseAll {cause locs} (h : s.memOk) : (s.localiseAll cause locs).1.memOk := by
  unfold State.localiseAll
  refine foldlFst (fun h => ?_) h
  split
  · exact localise h
  · exact h

/-! ### The close of a row (R198, R204, R215) -/

theorem noteClose (h : s.memOk) : s.noteClose.memOk := by unfold State.noteClose; exact upd h
theorem dropLogs (h : s.memOk) : s.dropLogs.memOk := by unfold State.dropLogs; exact upd h
theorem snoopRow (h : s.memOk) : s.snoopRow.memOk := by unfold State.snoopRow; exact foldl (fun h => snoopOut h) (upd h)
theorem completeRun {r} (h : s.memOk) : (s.completeRun r).memOk := by unfold State.completeRun; exact endRun (upd h)
theorem runRowDone (h : s.memOk) : s.runRowDone.memOk := by
  unfold State.runRowDone
  split
  · exact h
  · refine ite h (ite (endAborted h) (ite h ?_))
    split
    · exact ite (completeRun (updateSessions h)) (upd (updateSessions h))
    · exact completeRun (updateSessions h)
    · exact completeRun h
theorem endForRemoval (h : s.memOk) : s.endForRemoval.memOk := by unfold State.endForRemoval; exact ite (upd (abortFetched (endRun h))) h
theorem clearCounts (h : s.memOk) : s.clearCounts.memOk := by unfold State.clearCounts; exact upd h
theorem sendAfterCommit (h : s.memOk) : s.sendAfterCommit.memOk := by
  unfold State.sendAfterCommit
  exact foldl (fun h => sendKept h) (upd h)
theorem rowAverages (h : s.memOk) : s.rowAverages.memOk := by unfold State.rowAverages; exact upd h
theorem fixPlan (h : s.memOk) : s.fixPlan.memOk := by unfold State.fixPlan; exact ite h (sendPlans (ite h (upd h)))
theorem afterCommitState (h : s.memOk) : s.afterCommitState.memOk := by
  unfold State.afterCommitState
  exact ite (upd (setSubstate (enter h))) (ite (safeToRemove (foldl (fun h => quiescePort h) (releaseEnding h))) (ite (ite (upd (enter
    (upd h))) (upd h)) h))
theorem dropJobs (h : s.memOk) : s.dropJobs.memOk := by unfold State.dropJobs; exact upd h
theorem commitRow (h : s.memOk) : s.commitRow.memOk := by
  unfold State.commitRow
  extract_lets _ _ b _ d
  have hb : b.memOk := addRunTotals (addCounters (dropLogs (recordHistory h)))
  have hd : d.memOk := appendChain (dropJobs (snoopRow (landHeld (endForRemoval (runRowDone hb)))))
  exact afterCommitState (upd (clearCounts (fixPlan (rowAverages (sendAfterCommit (giveNewReceipts (releaseEnding (dueBundle
    (ite (upd hd) hd)))))))))
theorem afterLateClose (h : s.memOk) : s.afterLateClose.memOk := by unfold State.afterLateClose; exact ite (startRow h) h
theorem noteSuspects {cause} (h : s.memOk) : (s.noteSuspects cause).memOk := by unfold State.noteSuspects; exact foldl (fun h => upd h) h
theorem retireRepeated {cause} (h : s.memOk) : (s.retireRepeated cause).memOk := by
  unfold State.retireRepeated
  exact foldl (fun h => retire h) h
theorem escalate (h : s.memOk) : s.escalate.memOk := by
  unfold State.escalate
  exact ite (recordHistory (addOb (upd (ite (upd (noteSuspects h)) (noteSuspects h))))) (upd (recordHistory (retireRepeated (ite (upd
    (noteSuspects h)) (noteSuspects h)))))
theorem closeFailed {locs} (h : s.memOk) : (s.closeFailed locs).memOk := by
  unfold State.closeFailed
  extract_lets _ _ l _ c d
  have hl : l.1.memOk := iteFst (localiseAll (noteClose h)) (noteClose h)
  have hc : c.memOk := ite (recordHistory (recordFailure hl)) (escalate (recordFailure hl))
  have hd : d.memOk := ite (verdictDown (knowGroup hc)) hc
  exact ite hd (upd hd)
theorem closeRow {locs} (h : s.memOk) : (s.closeRow locs).memOk := by
  unfold State.closeRow
  exact ite (closeFailed h) (ite (afterLateClose (commitRow (noteClose (reportVerdict h)))) (reportVerdict h))
theorem rewriteHome (h : s.memOk) : s.rewriteHome.memOk := by
  unfold State.rewriteHome
  split
  · exact ite (by split; exacts [writeMem h, h]) h
  · exact h
theorem endFailedRun (h : s.memOk) : s.endFailedRun.memOk := by
  unfold State.endFailedRun
  split
  · exact clearCounts (endRun h)
  · exact ite (ite (enter (upd (clearCounts (ite h (endRun h))))) (clearCounts (ite h (endRun h)))) h
theorem afterUndo (h : s.memOk) : s.afterUndo.memOk := by
  unfold State.afterUndo
  exact ite (upd (laneTests (upd h))) (ite (upd (laneTests (upd h))) (ite (reportUndone (upd (laneTests (upd h)))) (upd (laneTests (upd
    h)))))
theorem dropHints (h : s.memOk) : s.dropHints.memOk := by unfold State.dropHints; exact upd h
theorem undoDone (h : s.memOk) : s.undoDone.memOk := by
  unfold State.undoDone
  exact ite (afterUndo (dropHints (fixPlan (endFailedRun (rewriteHome (landHeld (msix (undoRow (undoImpossible h))))))))) h

/-! ### Darnings (R342 to R355) -/

theorem endUnrecoverable {detail} (h : s.memOk) : (s.endUnrecoverable detail).memOk := by
  unfold State.endUnrecoverable
  exact ite h (ite (endFailedRun (upd (lastUnrecoverable (addOb h)))) (ite (enter (msix (endRun (addOb h)))) (msix (endRun (addOb h)))))
theorem rebuildRange {r} (h : s.memOk) : (s.rebuildRange r).memOk := by
  unfold State.rebuildRange
  exact ite (fillHome h) (ite (endUnrecoverable (upd h)) (fillHome h))
theorem rebuild {cells} (h : s.memOk) : (s.rebuild cells).memOk := by unfold State.rebuild; exact foldl (fun h => rebuildRange h) h
theorem reloadMoved {m0} (h : s.memOk) : (s.reloadMoved m0).memOk := by unfold State.reloadMoved; exact upd h
theorem ungate {m0} (h : s.memOk) : (s.ungate m0).memOk := by
  unfold State.ungate
  exact foldl (fun h => ite (setOb (setReg h)) (ite (ite (setReg h) (setOb (setReg h))) h)) (foldl (fun h => ite (setOb h) h) h)
theorem becomeVoid {k cause durUs loc no} (h : s.memOk) : (s.becomeVoid k cause durUs loc no).memOk := by
  unfold State.becomeVoid
  exact endUnrecoverable (signature (msix (logEvent (setOb h))))
theorem listUnit {e} (h : s.memOk) : (s.listUnit e).memOk := recorded (s.listUnit_recorded _) h
theorem swatchFails {d mech action no} (h : s.memOk) : (s.swatchFails d mech action no).memOk := recorded (s.swatchFails_recorded ..) h
theorem spareFails {r cause} (h : s.memOk) : (s.spareFails r cause).memOk := by
  unfold State.spareFails
  exact swatchFails (upd (appendDefect h))
theorem newPorts (h : s.memOk) : s.newPorts.memOk := by unfold State.newPorts; exact allocateRings (upd h)
theorem applyDarning {durUs} (h : s.memOk) : (s.applyDarning durUs).memOk := by
  unfold State.applyDarning
  extract_lets _ _ a
  have ha : a.memOk := foldl (fun h => listUnit h) h
  split
  · exact h
  · extract_lets _ _ _ d
    have hd : d.memOk := rebuild (logSlices (reloadMoved (ungate (upd ha))))
    exact foldl (fun h => becomeVoid h) (ite (setOb hd) (newPorts hd))
theorem darned (h : s.memOk) : s.darned.memOk := by unfold State.darned; exact ite (afterUndo h) h
theorem startDarning {region swatchOk durUs} (h : s.memOk) : (s.startDarning region swatchOk durUs).memOk := by
  unfold State.startDarning
  exact ite h (ite h (darned (applyDarning (by split; exacts [ite h (spareFails h), h]))))
theorem completeDarning (h : s.memOk) : s.completeDarning.memOk := by
  unfold State.completeDarning
  split
  · exact h
  · exact darned (msix (newPorts (upd (signature (ite (logEvent (addOb (setOb (setOb (logEvent (setOb (endFast (pass h)))))))) (setOb
      (setOb (logEvent (setOb (endFast (pass h)))))))))))
theorem restartDarning {lost} (h : s.memOk) : (s.restartDarning lost).memOk := by
  unfold State.restartDarning
  exact ite h (by dsimp only; split; exacts [queueLoss (stopDarning h), stopDarning h])
theorem stackFails {i deciGb} (h : s.memOk) : (s.stackFails i deciGb).memOk := by
  unfold State.stackFails
  refine ite h ?_
  extract_lets _ _ _ a _ b c
  have ha : a.memOk := ite h (loseSlice h)
  have hb : b.memOk := ite (upd ha) ha
  have hc : c.memOk := ite (raise hb) hb
  exact ite hc (msix (signature (appendDefect (logSlices (ite (upd hc) hc)))))
theorem wasteSwatch {d passed} (h : s.memOk) : (s.wasteSwatch d passed).memOk := by
  unfold State.wasteSwatch
  refine ite h (ite (wake h) ?_)
  split
  · exact ite (wake h) (ite (swatchFails (wake h)) (swatchFails (enterUnit (wake h))))
  · exact ite (swatchFails (wake h)) (swatchFails (repairPlace (wake h)))
theorem setSel {region at_} (h : s.memOk) : (s.setSel region at_).memOk := by unfold State.setSel; exact upd h
theorem runSelector {region passed} (h : s.memOk) : (s.runSelector region passed).memOk := by
  unfold State.runSelector
  dsimp only
  split
  · exact h
  · exact ite h (ite (addOb (setSel h)) (ite (addOb (wake (setSel h))) (upd (signature (addOb (addOb (wake (setSel h))))))))

/-! ### Service tokens and rights (R435, R460) -/

theorem setToken {o t} (h : s.memOk) : (s.setToken o t).memOk := by unfold State.setToken; split; exacts [upd h, upd h, upd h, h]
theorem logDebug {was} (h : s.memOk) : (s.logDebug was).memOk := by unfold State.logDebug; exact ite h (logEvent h)
theorem dropToken {o} (h : s.memOk) : (s.dropToken o).memOk := by unfold State.dropToken; exact ite (logEvent (setToken h)) (setToken h)
theorem dropTokens (h : s.memOk) : s.dropTokens.memOk := by unfold State.dropTokens; exact dropToken (dropToken (dropToken h))

/-! ### The front end and cast-on (R321 to R335) -/

theorem journal {r} (h : s.memOk) : (s.journal r).memOk := by unfold State.journal; exact ite (modFe h) (modFlash h)
theorem powerOff {latched} (h : s.memOk) : (s.powerOff latched).memOk := by
  unfold State.powerOff
  exact setMem (ite (addOb h) h) Mem.wf_nil
theorem offFor2s (h : s.memOk) : s.offFor2s.memOk := by unfold State.offFor2s; exact modFe (powerOff h)
theorem passStep {us} (h : s.memOk) : (s.passStep us).memOk := by unfold State.passStep; exact pass h
theorem groupsStart (h : s.memOk) : s.groupsStart.memOk := by unfold State.groupsStart; exact upd h
theorem ungateAll (h : s.memOk) : s.ungateAll.memOk := by unfold State.ungateAll; exact foldl (fun h => setOb (setReg h)) (upd h)
theorem rampsEnd (h : s.memOk) : s.rampsEnd.memOk := by unfold State.rampsEnd; exact foldl (fun h => ite (setOb (setReg h)) (setReg h)) h
theorem beginStep {n} (h : s.memOk) : (s.beginStep n).memOk := by
  unfold State.beginStep
  extract_lets _ a _ _ _ c _ _ _ _ _ f
  have ha : a.memOk := ite (upd h) h
  have hc : c.memOk := ite (setOb ha) (setOb (setOb ha))
  have hf : f.memOk := journal (ite (groupsStart (upd hc)) (upd hc))
  exact ite (setOb (upd hf)) (ite (latchSafe hf) hf)
theorem beginStart (h : s.memOk) : s.beginStart.memOk := by unfold State.beginStart; exact beginStep (setOb (addOb (upd h)))
theorem precharge (h : s.memOk) : s.precharge.memOk := by unfold State.precharge; exact ite h (ite (modFe (addOb (addOb h))) (modFe h))
theorem restartFrom2 (h : s.memOk) : s.restartFrom2.memOk := by
  unfold State.restartFrom2
  exact beginStep (setOb (addOb (upd (groupsOff h))))
theorem failStart (h : s.memOk) : s.failStart.memOk := by
  unfold State.failStart
  exact ite (ite (latchSafe (groupsOff (addOb h))) (restartFrom2 (addOb h))) (offFor2s h)
theorem hangStep {blamed} (h : s.memOk) : (s.hangStep blamed).memOk := by
  unfold State.hangStep
  exact ite (passStep h) (failStart (journal (passStep h)))
theorem step3Logs {newest lost} (h : s.memOk) : (s.step3Logs newest lost).memOk := by
  unfold State.step3Logs
  extract_lets _ b c _ e
  have hb : b.memOk := logEvent (ite (log h) h)
  have hc : c.memOk := ite (modFe (logEvent hb)) hb
  have he : e.memOk := foldl (fun h => log h) (ite (logEvent hc) hc)
  exact modFe (ite he (log he))
theorem step3 {straps} (h : s.memOk) : (s.step3 straps).memOk := by unfold State.step3; exact upd (dropTokens (step3Logs (upd h)))
theorem stepEffect {n r} (h : s.memOk) : (s.stepEffect n r).memOk := by
  unfold State.stepEffect
  refine ite (step3 h) (ite ?clock (ite (setMem h (Mem.wf_filter _ _ h.1)) (ite (ungateAll h) (ite (ite (rampsEnd h) h) (ite ?march
    (ite (setOb (gateUnused (seedUnits (upd h)))) (ite ?time (ite ?synced h))))))))
  case clock => exact ite (setOb (timeBit h)) (timeBit h)
  case march => exact ite (modFlash (setOb (setOb h))) h
  case time => exact foldl (fun h => setReg h) (ite (setOb (upd h)) (upd h))
  case synced => exact ite (upd (timeBit (endFast h))) (timeBit (endFast h))
theorem enterReady (h : s.memOk) : s.enterReady.memOk := by unfold State.enterReady; exact enter (upd (modFlash (setOb (setOb (setOb h)))))
theorem castOnRemoval (h : s.memOk) : s.castOnRemoval.memOk := by
  unfold State.castOnRemoval
  exact safeToRemove (setSubstate (enter (addOb (journal h))))
theorem nextStep {n} (h : s.memOk) : (s.nextStep n).memOk := by
  unfold State.nextStep
  exact ite (enterReady h) (ite (castOnRemoval (log (setOb (modFe (beginStep h))))) (beginStep h))
theorem endStep {r} (h : s.memOk) : (s.endStep r).memOk := by
  unfold State.endStep
  exact ite (failStart (journal (foldl (fun h => appendFound h) (ite (modFlash (passStep h)) (passStep h))))) (nextStep (stepEffect
    (journal (foldl (fun h => appendFound h) (ite (modFlash (passStep h)) (passStep h))))))

/-! ### Dictionary accesses (R417 to R420, R428) -/

theorem refuseWrite {w abort} (h : s.memOk) : (s.refuseWrite w abort).2.memOk := by unfold State.refuseWrite; exact log h
theorem logWrite {w result old app flags} (h : s.memOk) : (s.logWrite w result old app flags).memOk := by
  unfold State.logWrite
  exact log h
theorem readLog {o n} (h : s.memOk) : (s.readLog o n).2.memOk := by unfold State.readLog; exact upd h
theorem readSigs {n} (h : s.memOk) : (s.readSigs n).2.memOk := by unfold State.readSigs; exact upd h
theorem afterRead {idx sub} (h : s.memOk) : (s.afterRead idx sub).memOk := by unfold State.afterRead; exact ite (setOb h) h
theorem read {o idx sub off len} (h : s.memOk) : (s.read o idx sub off len).2.memOk := by
  unfold State.read
  refine iteSnd h (iteSnd h ?_)
  split; exacts [h, iteSnd h (iteSnd (readLog h) (iteSnd (readSigs h) (iteSnd h (afterRead h))))]

/-! ### State commands (R337 to R340, R430) -/

theorem takeRun (h : s.memOk) : s.takeRun.memOk := by unfold State.takeRun; exact ite h (upd h)
theorem takeHold (h : s.memOk) : s.takeHold.memOk := by unfold State.takeHold; exact ite (upd h) (ite (upd (upd h)) (upd (enter (upd h))))
theorem beginBindOff {sub} (h : s.memOk) : (s.beginBindOff sub).memOk := by unfold State.beginBindOff; exact setSubstate (enter (upd h))
theorem takeBindReady (h : s.memOk) : s.takeBindReady.memOk := by unfold State.takeBindReady; exact upd (beginBindOff h)
theorem takeBindRemove (h : s.memOk) : s.takeBindRemove.memOk := by
  unfold State.takeBindRemove
  split; exacts [castOnRemoval h, ite h (safeToRemove h), ite h (beginBindOff h), beginBindOff h]
theorem takeCommand {code} (h : s.memOk) : (s.takeCommand code).memOk := by
  unfold State.takeCommand
  exact ite (takeRun h) (ite (takeHold h) (ite (takeBindReady h) (ite (takeBindRemove h) (offFor2s h))))
theorem command {w} (h : s.memOk) : (s.command w).2.memOk := by
  unfold State.command
  exact iteSnd (refuseWrite h) (iteSnd (refuseWrite h) (iteSnd (refuseWrite h) (iteSnd (refuseWrite h) (takeCommand (logWrite (setOb
    h))))))

/-! ### Signed records (R448, R458 to R460) -/

theorem newChallenge (h : s.memOk) : s.newChallenge.memOk := by unfold State.newChallenge; exact upd h
theorem presentToken {w} (h : s.memOk) : (s.presentToken w).2.memOk := by
  unfold State.presentToken
  exact iteSnd (refuseWrite h) (logDebug (ite (logWrite (newChallenge (setToken h))) (log (logWrite (newChallenge (setToken h))))))
theorem closeToken {w} (h : s.memOk) : (s.closeToken w).2.memOk := by
  unfold State.closeToken
  exact iteSnd (refuseWrite h) (dropToken (logWrite h))
theorem lapseToken {o} (h : s.memOk) : (s.lapseToken o).memOk := by unfold State.lapseToken; exact dropToken h
theorem keyRecord {w} (h : s.memOk) : (s.keyRecord w).2.memOk := by
  unfold State.keyRecord
  exact iteSnd (refuseWrite h) (iteSnd (refuseWrite h) (logWrite (newChallenge (upd h))))
theorem removeDefect {w} (h : s.memOk) : (s.removeDefect w).2.memOk := by
  unfold State.removeDefect
  refine iteSnd (refuseWrite h) (iteSnd (refuseWrite h) ?_)
  split; exacts [refuseWrite h, log (upd (logWrite h))]

/-! ### Firmware images (R448 to R453, R461 to R470) -/

theorem setStaged {b} (h : s.memOk) : (s.setStaged b).memOk := by unfold State.setStaged; exact upd h
theorem fwStateTo {v} (h : s.memOk) : (s.fwStateTo v).memOk := by unfold State.fwStateTo; exact upd h
theorem writeImage {w} (h : s.memOk) : (s.writeImage w).2.memOk := by
  unfold State.writeImage
  exact iteSnd (refuseWrite h) (iteSnd (refuseWrite h) (logWrite (fwStateTo (setStaged h))))
theorem logFwCmd {w} (h : s.memOk) : (s.logFwCmd w).memOk := by unfold State.logFwCmd; exact logWrite h
theorem takeVerify {w} (h : s.memOk) : (s.takeVerify w).2.memOk := by
  unfold State.takeVerify
  exact iteSnd (refuseWrite h) (logFwCmd (fwStateTo (setStaged h)))
theorem beginActivation {w} (h : s.memOk) : (s.beginActivation w).2.memOk := by
  unfold State.beginActivation
  exact logFwCmd (fwPhase (upd h))
theorem markActive {w} (h : s.memOk) : (s.markActive w).2.memOk := by unfold State.markActive; exact logFwCmd (fwStateTo (upd h))
theorem takeActivate {w} (h : s.memOk) : (s.takeActivate w).2.memOk := by
  unfold State.takeActivate
  refine iteSnd (refuseWrite h) (iteSnd (markActive h) ?_)
  split; exacts [iteSnd (beginActivation h) (refuseWrite h), refuseWrite h]
theorem takeRollback {w} (h : s.memOk) : (s.takeRollback w).2.memOk := by
  unfold State.takeRollback
  refine iteSnd (refuseWrite h) ?_
  split; exacts [iteSnd (beginActivation (setStaged h)) (refuseWrite h), refuseWrite h]
theorem raiseFloor (h : s.memOk) : s.raiseFloor.memOk := by
  unfold State.raiseFloor
  refine ite h ?_
  dsimp only
  split
  · exact ite (fwStateTo (logEvent (upd h))) (logEvent (upd h))
  · exact logEvent (upd h)
theorem takeCommit {w} (h : s.memOk) : (s.takeCommit w).2.memOk := by
  unfold State.takeCommit
  exact iteSnd (raiseFloor (logFwCmd h)) (refuseWrite h)
theorem fwCommand {w} (h : s.memOk) : (s.fwCommand w).2.memOk := by
  unfold State.fwCommand
  exact iteSnd (refuseWrite h) (iteSnd (takeVerify h) (iteSnd (takeActivate h) (iteSnd (takeRollback h) (iteSnd (iteSnd (takeCommit h)
    (refuseWrite h)) (refuseWrite h)))))
theorem writeSysfl {w} (h : s.memOk) : (s.writeSysfl w).2.memOk := by
  unfold State.writeSysfl
  exact iteSnd (refuseWrite h) (iteSnd (refuseWrite h) (logWrite (hold h)))

/-! ### The host's queues and memory (R372 to R374) -/

theorem logBar0 {result off req app} (h : s.memOk) : (s.logBar0 result off req app).memOk := by unfold State.logBar0; exact log h
theorem stopRun {sel silent} (h : s.memOk) : (s.stopRun sel silent).memOk := stopWork (s.stopRun_stopWork ..) h
theorem disableQueue {q} (h : s.memOk) : (s.disableQueue q).memOk := by
  unfold State.disableQueue
  exact settleQueue (settleFences (stopRun (abortFetched (setQueue h))))
theorem enableQueue {q} (h : s.memOk) : (s.enableQueue q).memOk := by unfold State.enableQueue; exact ite (setQueue h) (setQueue h)
theorem writeCtl {q v} (h : s.memOk) : (s.writeCtl q v).memOk := by
  unfold State.writeCtl
  exact ite (ite (logBar0 (setQueue h)) (enableQueue (setQueue h))) (ite (disableQueue (setQueue h)) (setQueue h))
theorem writeSize {q v} (h : s.memOk) : (s.writeSize q v).memOk := by unfold State.writeSize; exact ite (setQueue h) (logBar0 (setQueue h))
theorem writeMsix {off v} (h : s.memOk) : (s.writeMsix off v).memOk := by
  unfold State.writeMsix
  exact ite (upd h) (ite (upd (upd h)) (ite (msix (upd (upd h))) (upd (upd h))))
theorem writeQueueReg {q off v} (h : s.memOk) : (s.writeQueueReg q off v).memOk := by
  unfold State.writeQueueReg
  exact ite (ite (writeMsix h) (logBar0 h)) (ite (ite (logBar0 h) (setQueue h)) (ite (ite (logBar0 h) (writeSize h)) (ite (writeCtl h)
    (ite (setQueue h) (ite (logBar0 h) (logBar0 h))))))
theorem onQueue {q} {f : State → State} (h : s.memOk) (hf : ∀ {u}, u.memOk → (f u).memOk) : nextOnly State.memOk (s.onQueue q f) :=
  unit h fun h => ite (hf h) h
theorem doorbell {q off v size ok} (h : s.memOk) (hok : ∀ {u : State}, u.memOk → (ok u).memOk) : (s.doorbell q off v size ok).memOk := by
  unfold State.doorbell
  exact ite (logBar0 (setQueue h)) (hok h)
theorem fetchError {q} (h : s.memOk) : (s.fetchError q).memOk := by unfold State.fetchError; exact disableQueue (setQueue h)
theorem fetchFrom {q} (h : s.memOk) : (s.fetchFrom q).memOk := by
  unfold State.fetchFrom
  exact ite (fetchError (upd h)) (ite (refuseRemoving (enterFetched (setQueue (upd h)))) (ite (enterFetched (setQueue (upd h))) (refuse
    (enterFetched (setQueue (upd h))))))
theorem digestDone (h : s.memOk) : s.digestDone.memOk := by unfold State.digestDone; split; exacts [h, deliver (upd h)]
theorem hostReadPiece {a n} (h : s.memOk) : (s.hostReadPiece a n).memOk := by
  unfold State.hostReadPiece
  refine ite (emit (track (ite (addOb h) h))) ?_
  split; exacts [snoopOut (ite (addOb h) h), emit (track (ite (addOb h) h))]
theorem birsp {line} (h : s.memOk) : (s.birsp line).memOk := by
  unfold State.birsp
  exact deliver (foldl (fun h => (by split; exacts [emit (track h), h])) (upd h))
theorem logAborts (h : s.memOk) : s.logAborts.memOk := recorded s.logAborts_recorded h
theorem linkDown (h : s.memOk) : s.linkDown.memOk := by
  unfold State.linkDown
  exact foldl (fun h => settleQueue h) (deliver (upd (stopRun (abortFetched (upd (logAborts h))))))
theorem linkTrained {connA connB rate flit256} (h : s.memOk) : (s.linkTrained connA connB rate flit256).memOk := by
  unfold State.linkTrained
  exact ite (upd (ite (dueStatus (logEvent h)) h)) (msix (upd (ite (dueStatus (logEvent h)) h)))

/-! ### Writes to the dictionary (R428, R432) -/

theorem depend {idx sub a} (h : s.memOk) : (s.depend idx sub a).memOk := by unfold State.depend; exact ite h (log (setOb h))
theorem dependents {idx sub} (h : s.memOk) : (s.dependents idx sub).memOk := by
  unfold State.dependents
  exact ite (depend h) (ite (depend (depend h)) h)
theorem limitQueues {n} (h : s.memOk) : (s.limitQueues n).memOk := by
  unfold State.limitQueues
  exact foldl (fun h => disableQueue (log h)) h
theorem enablePort {p v} (h : s.memOk) : (s.enablePort p v).memOk := by unfold State.enablePort; exact ite (portEvent (portTo h)) h
theorem applyWrite {o idx sub v} (h : s.memOk) : (s.applyWrite o idx sub v).memOk := by
  unfold State.applyWrite
  exact ite (upd h) (ite (upd h) (ite (quiescePort h) (ite (upd (setOb h)) (ite (upd (setOb h)) (ite (enablePort (setOb h)) (ite
    (limitQueues (setOb h)) (ite (upd (setOb h)) (dependents (setOb h)))))))))
theorem storeWrite {w e v a flags} (h : s.memOk) : (s.storeWrite w e v a flags).2.memOk := by
  unfold State.storeWrite
  exact iteSnd (logWrite (hold h)) (iteSnd (logWrite (hold h)) (iteSnd (ite (showInUse (refuseWrite h)) (refuseWrite h)) (applyWrite
    (logWrite h))))
theorem writeNumber {w e} (h : s.memOk) : (s.writeNumber w e).2.memOk := by
  unfold State.writeNumber
  exact iteSnd (refuseWrite h) (by dsimp only; split; exacts [refuseWrite h, storeWrite h])
theorem writeList {w} (h : s.memOk) : (s.writeList w).2.memOk := by
  unfold State.writeList
  exact iteSnd (refuseWrite h) (iteSnd (refuseWrite h) (ite (logWrite (upd h)) (log (logWrite (upd h)))))
theorem writeRoutes {w} (h : s.memOk) : (s.writeRoutes w).2.memOk := by
  unfold State.writeRoutes
  exact iteSnd (refuseWrite h) (logWrite (upd h))
theorem writeEntry {w e} (h : s.memOk) : (s.writeEntry w e).2.memOk := by
  unfold State.writeEntry
  exact iteSnd (presentToken h) (iteSnd (closeToken h) (iteSnd (removeDefect h) (iteSnd (writeList h) (iteSnd (writeRoutes h) (iteSnd
    (fwCommand h) (iteSnd (writeSysfl h) (iteSnd (writeImage h) (iteSnd (keyRecord h) (writeNumber h)))))))))
theorem writeAt {w e} (h : s.memOk) : (s.writeAt w e).2.memOk := by
  unfold State.writeAt
  exact iteSnd (refuseWrite h) (iteSnd (refuseWrite h) (iteSnd (refuseWrite h) (iteSnd (refuseWrite h) (iteSnd (refuseWrite h) (iteSnd
    (command h) (iteSnd (refuseWrite h) (iteSnd (refuseWrite h) (writeEntry h))))))))
theorem write {w} (h : s.memOk) : (s.write w).2.memOk := by
  unfold State.write
  exact iteSnd h (iteSnd (addOb h) (by split; exacts [writeAt h, refuseWrite h]))

/-! ### The dictionary's commands -/

theorem answerWrite {r w} (h : r.2.memOk) : (State.answerWrite r w).memOk := by
  unfold State.answerWrite
  exact ite h (by split; exacts [emit h, upd h, emit h, h])
theorem answerRead {r o idx sub off len} (h : r.2.memOk) : (State.answerRead r o idx sub off len).memOk := by
  unfold State.answerRead
  exact ite h (by split; exacts [emit h, upd h, emit h, h])
theorem writeFrom {w} (h : s.memOk) : (s.writeFrom w).memOk := by unfold State.writeFrom; exact answerWrite (write h)
theorem readFrom {o idx sub off len} (h : s.memOk) : (s.readFrom o idx sub off len).memOk := by
  unfold State.readFrom
  exact answerRead (read h)
theorem writes {w} (h : s.memOk) : nextOnly State.memOk (s.writes w) := whenOn h fun h => writeFrom h
theorem refuseLength {w} (h : s.memOk) : (s.refuseLength w).2.memOk := by unfold State.refuseLength; exact iteSnd (write h) (refuseWrite h)
theorem bar2Submit {idx sub off len data} (h : s.memOk) : (s.bar2Submit idx sub off len data).memOk := by
  unfold State.bar2Submit
  exact ite h (ite (upd (refuseLength (upd h))) (writeFrom (upd h)))
theorem logNmt {code} (h : s.memOk) : (s.logNmt code).memOk := by unfold State.logNmt; exact log h
theorem sendStatus (h : s.memOk) : s.sendStatus.memOk := by unfold State.sendStatus; exact upd (emit h)
theorem console {f : State → State} (h : s.memOk) (hf : ∀ {u}, u.memOk → (f u).memOk) : nextOnly State.memOk (s.console f) :=
  whenOn h fun h => ite (hf h) h
theorem say {line} (h : s.memOk) : (s.say line).memOk := by unfold State.say; exact emit h

/-! ### The commands of the front end (R21, R286, R321) -/

theorem prechargeAt {vinMv} (h : s.memOk) : (s.prechargeAt vinMv).memOk := by unfold State.prechargeAt; exact setOb (precharge h)
theorem inputFault (h : s.memOk) : s.inputFault.memOk := by unfold State.inputFault; exact modFe (powerOff h)
theorem vinWarning {vinMv} (h : s.memOk) : (s.vinWarning vinMv).memOk := by unfold State.vinWarning; exact ite (logEvent h) h
theorem measureOn {vinMv iA iB} (h : s.memOk) : (s.measureOn vinMv iA iB).memOk := by
  unfold State.measureOn
  exact ite (inputFault (modFe h)) (applyCap (ite (vinWarning (setOb (setOb (setOb (setOb (setOb (upd (modFe h)))))))) (setOb (setOb
    (setOb (setOb (setOb (upd (modFe h)))))))))
theorem measureOff {vinMv} (h : s.memOk) : (s.measureOff vinMv).memOk := by
  unfold State.measureOff
  exact ite (prechargeAt (modFe h)) (modFe h)

/-! ### Loose traffic (R134 to R141) -/

theorem addressFault {x y} (h : s.memOk) : (s.addressFault x y).memOk := by unfold State.addressFault; exact raiseFault h
theorem asked {x y p} (h : s.memOk) : (s.asked x y p).memOk := by unfold State.asked; exact sendPackets (setCell h)
theorem lookup {x y line r} (h : s.memOk) : (s.lookup x y line r).memOk := by
  unfold State.lookup
  exact ite (setCell h) (ite (setCell h) (sendPackets (setCell h)))
theorem looseRead {rx ry a n} (h : s.memOk) : (s.looseRead rx ry a n).memOk := by
  unfold State.looseRead
  split
  · exact ite (addressFault h) (ite (addressFault h) (foldl (fun h => lookup h) (asked h)))
  · split; exacts [stop h, sendPackets (asked h)]
theorem looseWrite {rx ry a data} (h : s.memOk) : (s.looseWrite rx ry a data).memOk := by
  unfold State.looseWrite
  split
  · exact ite (addressFault h) (by split; exacts [stop h, sendPackets (asked ((writeCell h) _ ‹_›))])
  · split; exacts [stop h, sendPackets (asked ((writeHbm h) _ ‹_›))]
theorem release {x y line} (h : s.memOk) : (s.release x y line).memOk := by unfold State.release; exact sendPackets (setCell h)
theorem openingsLeave (h : s.memOk) : s.openingsLeave.memOk := by
  unfold State.openingsLeave
  exact foldl (fun h => foldl (fun h => release h) h) h

/-! ### The front panel (R472 to R483) -/

theorem earlyTouch {idx sub} (h : s.memOk) : (s.earlyTouch idx sub).memOk := by unfold State.earlyTouch; exact modFe h
theorem keyMessage {n} (h : s.memOk) : (s.keyMessage n).memOk := by unfold State.keyMessage; exact upd h
theorem keyDisabled {idx sub v} (h : s.memOk) : (s.keyDisabled idx sub v).memOk := by unfold State.keyDisabled; exact keyMessage (log h)
theorem touchEvent {idx sub v} (h : s.memOk) : (s.touchEvent idx sub v).memOk := by unfold State.touchEvent; exact logEvent h
theorem touch {key idx sub v f} (h : s.memOk) (hf : ∀ {u : State}, u.memOk → (f u).memOk) : (s.touch key idx sub v f).memOk := by
  unfold State.touch
  exact ite (earlyTouch h) (ite (keyDisabled h) (hf h))
theorem removeByPress (h : s.memOk) : s.removeByPress.memOk := by unfold State.removeByPress; exact ite (write h) (keyMessage (write h))
theorem padWrites {p v} (h : s.memOk) : (s.padWrites p v).memOk := by unfold State.padWrites; exact write h
theorem padTouched {p heldMs} (h : s.memOk) : (s.padTouched p heldMs).memOk := by
  unfold State.padTouched
  exact ite (padWrites h) (ite (padWrites h) (touchEvent h))
theorem nextPage (h : s.memOk) : s.nextPage.memOk := by unfold State.nextPage; exact logEvent (upd h)
theorem expireMessage (h : s.memOk) : s.expireMessage.memOk := by unfold State.expireMessage; exact ite (upd h) (keyMessage h)

/-! ### Row marks and the pulse input (R86, R274) -/

theorem markFalls (h : s.memOk) : s.markFalls.memOk := by
  unfold State.markFalls
  refine ite h ?_
  dsimp only
  split
  · exact startRow (upd (passTo h))
  · exact ite (startReplay (upd (passTo h))) (applyGrid (ite (skipMark (upd (passTo h))) (upd (passTo h))))
  · exact applyGrid (ite (skipMark (upd (passTo h))) (upd (passTo h)))
theorem setTime {v} (h : s.memOk) : (s.setTime v).memOk := by
  unfold State.setTime
  exact msix (logEvent (upd (ite (commitRow (noteClose h)) h)))
theorem applyPulse (h : s.memOk) : s.applyPulse.memOk := by
  unfold State.applyPulse
  exact ite (ite (setTime (upd h)) (ite (upd (upd h)) (upd h))) (setOb (upd h))

/-! ### The SPDM responder and the test access port (R454 to R457) -/

theorem respond {b} (h : s.memOk) : (s.respond b).memOk := by unfold State.respond; exact emit h
theorem spdm {version ready} {f : State → State} (h : s.memOk) (hf : ∀ {u}, u.memOk → (f u).memOk) :
    nextOnly State.memOk (s.spdm version ready f) :=
  whenOn h fun h => ite h (ite (respond h) (ite (respond h) (hf h)))
theorem respondSigned {body} (h : s.memOk) : (s.respondSigned body).memOk := by unfold State.respondSigned; exact respond (upd h)
theorem measureWith {p1 blocks signed nonce} (h : s.memOk) : (s.measureWith p1 blocks signed nonce).memOk := by
  unfold State.measureWith
  exact ite (respondSigned h) (respond (upd h))

/-! ### Verdict messages (R197 to R201) -/

theorem hearVerdict {kind v} (h : s.memOk) : (s.hearVerdict kind v).memOk := by
  unfold State.hearVerdict
  split; exacts [control h (fun h => takeVerdict h), takeVerdict h]

/-! ### A tick of device time (R271) -/

theorem cellTick (h : s.memOk) : s.cellTick.memOk := by unfold State.cellTick; exact upd h
theorem tick (h : s.memOk) : s.tick.memOk := by unfold State.tick; exact ite (pass (cellTick (openingsLeave h))) (pass h)

/-! ### Commands -/

theorem next (h : t.memOk) : nextOnly State.memOk (.next t : Result) := by rintro _ ⟨⟩; exact h

theorem execHsEnAssert {vinMv} (h : s.memOk) : nextOnly State.memOk (execHsEnAssert vinMv s) := by
  unfold Machine.execHsEnAssert
  exact next (ite (prechargeAt (modFe h)) (modFe h))
theorem execFrontEndOn (h : s.memOk) : nextOnly State.memOk (execFrontEndOn s) := by
  unfold Machine.execFrontEndOn
  exact next (ite (beginStart h) h)
theorem execHsEnDeassert (h : s.memOk) : nextOnly State.memOk (execHsEnDeassert s) := by
  unfold Machine.execHsEnDeassert
  exact next (modFe (powerOff h))
theorem execSeatSenseOpen (h : s.memOk) : nextOnly State.memOk (execSeatSenseOpen s) := by
  unfold Machine.execSeatSenseOpen
  exact next (modFe (ite (modFe (powerOff h)) (modFe h)))
theorem execInputMeasurement {vinMv iA iB} (h : s.memOk) : nextOnly State.memOk (execInputMeasurement vinMv iA iB s) := by
  unfold Machine.execInputMeasurement
  exact next (by split; exacts [measureOn h, ite (setOb h) (modFe h), measureOff h])
theorem execBladePairFault {pairB otherDeciA} (h : s.memOk) : nextOnly State.memOk (execBladePairFault pairB otherDeciA s) :=
  whenOn h fun h => ite (applyCap (upd h)) h
theorem execBusSag (h : s.memOk) : nextOnly State.memOk (execBusSag s) := whenOn h fun h => ite h (addOb (upd h))
theorem execBusSagRecover (h : s.memOk) : nextOnly State.memOk (execBusSagRecover s) := whenOn h fun h => upd h
theorem execCastOnStep {r} (h : s.memOk) : nextOnly State.memOk (execCastOnStep r s) :=
  whenOn h fun h => ite (ite (hangStep h) (endStep h)) h
theorem execCastOnStepHang {blamed} (h : s.memOk) : nextOnly State.memOk (execCastOnStepHang blamed s) :=
  whenOn h fun h => ite (hangStep h) h
theorem execJournalWatchdog (h : s.memOk) : nextOnly State.memOk (execJournalWatchdog s) := whenOn h fun h => ite (offFor2s h) h
theorem execRowMark (h : s.memOk) : nextOnly State.memOk (execRowMark s) := whenOn h fun h => markFalls h
theorem execRunStart (h : s.memOk) : nextOnly State.memOk (execRunStart s) := whenOn h fun h => startRuns h
theorem execRowClose {locs} (h : s.memOk) : nextOnly State.memOk (execRowClose locs s) := whenOn h fun h => closeRow h
theorem execRowUndoDone (h : s.memOk) : nextOnly State.memOk (execRowUndoDone s) := whenOn h fun h => undoDone h
theorem execRowHang (h : s.memOk) : nextOnly State.memOk (execRowHang s) := whenOn h fun h => ite (failRow h) h
theorem execCheckAlarm {a} (h : s.memOk) : nextOnly State.memOk (execCheckAlarm a s) := unit h fun h => alarm h
theorem execCellHeartbeat {x y} (h : s.memOk) : nextOnly State.memOk (execCellHeartbeat x y s) := unit h fun h => setCell h
theorem execCellLost {x y} (h : s.memOk) : nextOnly State.memOk (execCellLost x y s) := unit h fun h => loseCell (setCell h)
theorem execRegionHeartbeatLost {r} (h : s.memOk) : nextOnly State.memOk (execRegionHeartbeatLost r s) :=
  unit h fun h => loseRegion (setReg h)
theorem execSyncNetDisagree {region} (h : s.memOk) : nextOnly State.memOk (execSyncNetDisagree region s) := by
  unfold Machine.execSyncNetDisagree
  split; exacts [unit h (fun h => loseRegion h), whenOn h (fun h => latchSafe h)]
theorem execControllerSwitch (h : s.memOk) : nextOnly State.memOk (execControllerSwitch s) := whenOn h fun h => switchPair h
theorem execSequencerIssue {x y} (h : s.memOk) : nextOnly State.memOk (execSequencerIssue x y s) := unit h fun h => ite (issue h) h
theorem execDescriptorStart {x y u} (h : s.memOk) : nextOnly State.memOk (execDescriptorStart x y u s) :=
  unit h fun h => (by split; exacts [h, ite (startDesc h) h])
theorem execDescriptorComplete {x y u n} (h : s.memOk) : nextOnly State.memOk (execDescriptorComplete x y u n s) :=
  unit h fun h => (by dsimp only; split; exacts [h, ite (tryEnd (setCell h)) h])
theorem execBarrierRelease {chan gen} (h : s.memOk) : nextOnly State.memOk (execBarrierRelease chan gen s) :=
  unit h fun h => ite (ite (arriveSystem h) (releaseLocal h)) h
theorem execHbmWrite {w addr data} (h : s.memOk) : nextOnly State.memOk (execHbmWrite w addr data s) :=
  unit h fun h => ite (settle h (writerWrite h)) h
theorem execUpdJobStart {slice} (h : s.memOk) : nextOnly State.memOk (execUpdJobStart slice s) :=
  unit h fun h => (by split; exacts [ite (startJob h) h, h])
theorem execUpdJobDone {slice} (h : s.memOk) : nextOnly State.memOk (execUpdJobDone slice s) :=
  unit h fun h => (by split; exacts [ite (finishJob h) h, h])
theorem execLooseRead {rx ry addr lines} (h : s.memOk) : nextOnly State.memOk (execLooseRead rx ry addr lines s) :=
  unit h fun h => ite (looseRead h) h
theorem execLooseWrite {rx ry addr data} (h : s.memOk) : nextOnly State.memOk (execLooseWrite rx ry addr data s) :=
  unit h fun h => ite (looseWrite h) h
theorem execLooseResponse {rx ry} (h : s.memOk) : nextOnly State.memOk (execLooseResponse rx ry s) :=
  unit h fun h => ite (tryEnd (setCell h)) h
theorem execMergeEntryExpire {x y line} (h : s.memOk) : nextOnly State.memOk (execMergeEntryExpire x y line s) :=
  unit h fun h => closeMerge h
theorem execMergeHoldExpire {x y line} (h : s.memOk) : nextOnly State.memOk (execMergeHoldExpire x y line s) := unit h fun h => release h
theorem execFlitReceive {link crcOk failedWires} (h : s.memOk) : nextOnly State.memOk (execFlitReceive link crcOk failedWires s) :=
  unit h fun h => flit h
theorem execScratchpadScrub {px py offset o} (h : s.memOk) : nextOnly State.memOk (execScratchpadScrub px py offset o s) :=
  unit h fun h => ite h (scrubLine h)
theorem execHbmPatrolScrub {addr o} (h : s.memOk) : nextOnly State.memOk (execHbmPatrolScrub addr o s) := unit h fun h => scrubHbm h
theorem execCellDarning {durUs} (h : s.memOk) : nextOnly State.memOk (execCellDarning durUs s) := whenOn h fun h => startDarning h
theorem execRegionDarning {swatchOk durUs} (h : s.memOk) : nextOnly State.memOk (execRegionDarning swatchOk durUs s) :=
  whenOn h fun h => startDarning h
theorem execDarningComplete (h : s.memOk) : nextOnly State.memOk (execDarningComplete s) := whenOn h fun h => completeDarning h
theorem execDarningRestart {lost} (h : s.memOk) : nextOnly State.memOk (execDarningRestart lost s) := unit h fun h => restartDarning h
theorem execHbmStackFail {stack retrainedDeciGb} (h : s.memOk) : nextOnly State.memOk (execHbmStackFail stack retrainedDeciGb s) :=
  unit h fun h => stackFails h
theorem execWasteYarnSwatch {u passed} (h : s.memOk) : nextOnly State.memOk (execWasteYarnSwatch u passed s) :=
  unit h fun h => wasteSwatch h
theorem execSuspectSwatch {region passed} (h : s.memOk) : nextOnly State.memOk (execSuspectSwatch region passed s) :=
  unit h fun h => ite (runSelector h) h
theorem execVerdictEarlyFail {m} (h : s.memOk) : nextOnly State.memOk (execVerdictEarlyFail m s) := whenOn h fun h => hearVerdict h
theorem execVerdictSubtree {m clean} (h : s.memOk) : nextOnly State.memOk (execVerdictSubtree m clean s) :=
  whenOn h fun h => hearVerdict h
theorem execVerdictGroup {m clean} (h : s.memOk) : nextOnly State.memOk (execVerdictGroup m clean s) := whenOn h fun h => hearVerdict h
theorem execVerdictUndone {m} (h : s.memOk) : nextOnly State.memOk (execVerdictUndone m s) := whenOn h fun h => hearVerdict h
theorem execVerdictReplay {m} (h : s.memOk) : nextOnly State.memOk (execVerdictReplay m s) := whenOn h fun h => hearVerdict h
theorem execDroopDetect {b mv} (h : s.memOk) : nextOnly State.memOk (execDroopDetect b mv s) :=
  onBlock h fun h => setBlk (ite (addOb h) h)
theorem execDroopEnd {b} (h : s.memOk) : nextOnly State.memOk (execDroopEnd b s) := onBlock h fun h => setBlk h
theorem execShuntClamp {b mv} (h : s.memOk) : nextOnly State.memOk (execShuntClamp b mv s) := onBlock h fun h => ite (addOb h) h
theorem execReplicaPathWarning {b path} (h : s.memOk) : nextOnly State.memOk (execReplicaPathWarning b path s) :=
  unit h fun h => ite (slowUp (addOb (setBlk h))) (addOb (setBlk h))
theorem execSlowLoopStep {b warning} (h : s.memOk) : nextOnly State.memOk (execSlowLoopStep b warning s) :=
  onBlock h fun h => ite (slowUp (setBlk h)) (setBlk h)
theorem execGuardBandExpire {b} (h : s.memOk) : nextOnly State.memOk (execGuardBandExpire b s) := onBlock h fun h => setOb h
theorem execRegulatorPhaseLoss {b phase} (h : s.memOk) : nextOnly State.memOk (execRegulatorPhaseLoss b phase s) :=
  unit h fun h => ite h (ite (loseBlock (signature (appendDefect (logEvent (setOb h))))) (signature (appendDefect (logEvent (setOb h)))))
theorem execConverterPhaseFail {conv phase} (h : s.memOk) : nextOnly State.memOk (execConverterPhaseFail conv phase s) :=
  unit h fun h => ite h (ite (latchSafe (logEvent (upd h))) (logEvent (upd h)))
theorem execRegionRailSample {r deciA mv} (h : s.memOk) : nextOnly State.memOk (execRegionRailSample r deciA mv s) := by
  refine onRegion h fun h => ?_
  extract_lets _ _ _ _ _ c
  have hc : c.memOk := setReg (ite (addOb (setOb (setOb h))) (setOb (setOb h)))
  exact ite (trip (setReg hc)) hc
theorem execRegionShort {r} (h : s.memOk) : nextOnly State.memOk (execRegionShort r s) := onRegion h fun h => trip h
theorem execEfuseOpen {r} (h : s.memOk) : nextOnly State.memOk (execEfuseOpen r s) := onRegion h fun h => trip h
theorem execCapShareUpdate {pin pavg regions} (h : s.memOk) : nextOnly State.memOk (execCapShareUpdate pin pavg regions s) :=
  whenOn h fun h => foldl (fun h => setOb h) (upd (ite (upd h) h))
theorem execCapLoopUpdate {r watts} (h : s.memOk) : nextOnly State.memOk (execCapLoopUpdate r watts s) := onRegion h fun h => setReg h
theorem execBubbleLoopUpdate {r watts} (h : s.memOk) : nextOnly State.memOk (execBubbleLoopUpdate r watts s) :=
  onRegion h fun h => setReg h
theorem execCapUnattainable (h : s.memOk) : nextOnly State.memOk (execCapUnattainable s) := whenOn h fun h => ite (logEvent (addOb h)) h
theorem execSlopeCeilingUpdate {r riseDeciA used64} (h : s.memOk) : nextOnly State.memOk (execSlopeCeilingUpdate r riseDeciA used64 s) :=
  onRegion h fun h => setReg h
theorem execLookaheadRaise {b planned64} (h : s.memOk) : nextOnly State.memOk (execLookaheadRaise b planned64 s) :=
  onBlock h fun h => (by split; exacts [ite (setBlk h) h, h])
theorem execPreRamp (h : s.memOk) : nextOnly State.memOk (execPreRamp s) := whenOn h fun h => ite h (upd (ite h (addOb h)))
theorem execJunctionSensorRead {b t0 t1 t2 t3} (h : s.memOk) : nextOnly State.memOk (execJunctionSensorRead b t0 t1 t2 t3 s) := by
  refine onBlock h fun h => ?_
  extract_lets _ _ _ _ _ c _ _ _ _ f
  have hc : c.memOk := setOb (foldl (fun h => setOb h) h)
  have hf : f.memOk := setOb (setBlk (ite (addOb hc) hc))
  exact ite (thermalTrip hf) hf
theorem execSensorFailed {b k} (h : s.memOk) : nextOnly State.memOk (execSensorFailed b k s) :=
  unit h fun h => ite h (ite (loseBlock (setOb (logEvent (setBlk h)))) (setOb (logEvent (setBlk h))))
theorem execHbmTempRead {hottestDeciC} (h : s.memOk) : nextOnly State.memOk (execHbmTempRead hottestDeciC s) :=
  whenOn h fun h => ite (latchSafe (setOb h)) (applyCap (upd (setOb h)))
theorem execCoolantReading {flowDeciL inletDeciC outletDeciC sensorOk} (h : s.memOk) :
    nextOnly State.memOk (execCoolantReading flowDeciL inletDeciC outletDeciC sensorOk s) := by
  refine whenOn h fun h => ?_
  extract_lets _ _ a b _ _ e
  have ha : a.memOk := ite (logEvent (setOb (setOb (setOb h)))) (setOb (setOb (setOb h)))
  have hb : b.memOk := ite (logEvent ha) ha
  have he : e.memOk := applyCap (upd hb)
  exact ite (upd (latchSafe he)) (ite (latchSafe he) he)
theorem execSafeEntry {cause} (h : s.memOk) : nextOnly State.memOk (execSafeEntry cause s) := whenOn h fun h => latchSafe h
theorem execReferenceLoss (h : s.memOk) : nextOnly State.memOk (execReferenceLoss s) := whenOn h fun h => latchSafe (timeBit h)
theorem execBlockPllLoss {b} (h : s.memOk) : nextOnly State.memOk (execBlockPllLoss b s) := onBlock h fun h => loseBlock (setOb h)
theorem execReferenceInputSwitch {r newInput} (h : s.memOk) : nextOnly State.memOk (execReferenceInputSwitch r newInput s) :=
  unit h fun h => ite (setOb (logEvent (setReg h))) h
theorem execTimeBeacon {r errPs} (h : s.memOk) : nextOnly State.memOk (execTimeBeacon r errPs s) := by
  refine unit h fun h => ?_
  extract_lets _ _ _ c
  have hc : c.memOk := timeBit (noteSkew (setOb (setReg (ite (timeBit h) h))))
  exact ite (elect (upd hc)) (ite (chooseSource hc) hc)
theorem execPpsEdge (h : s.memOk) : nextOnly State.memOk (execPpsEdge s) :=
  whenOn h fun h => ite (applyPulse (elect (timeBit (upd h)))) (elect (timeBit (upd h)))
theorem execRef10mValid (h : s.memOk) : nextOnly State.memOk (execRef10mValid s) := whenOn h fun h => discipline (elect (timeBit h))
theorem execTimeSourceInvalid (h : s.memOk) : nextOnly State.memOk (execTimeSourceInvalid s) := by
  unfold Machine.execTimeSourceInvalid
  refine whenOn h fun h => ?_
  split; exacts [upd (setSource (timeBit (timeBit h))), upd (setSource (timeBit h)), h]
theorem execTimeExchange {port t1 t2 t3 t4} (h : s.memOk) : nextOnly State.memOk (execTimeExchange port t1 t2 t3 t4 s) :=
  unit h fun h => ite (exchange (sendControl h)) h
theorem execTimeMasterLoss (h : s.memOk) : nextOnly State.memOk (execTimeMasterLoss s) := by
  refine whenOn h fun h => ite h ?_
  extract_lets _ a b
  have ha : a.memOk := setConflict (upd h)
  have hb : b.memOk := ite (setSource (timeBit ha)) ha
  exact ite hb (becomeMaster hb)
theorem execNaelaFrame {p frame} (h : s.memOk) : nextOnly State.memOk (execNaelaFrame p frame s) :=
  unit h fun h => ite h (ite (askRetry h) (ite (pumpPort (setPort h)) (ite (ite (gatherFrame (pumpPort (setPort (setPort h))))
    (resendFrom (pumpPort (setPort (setPort h))))) (ite (askRetry h) h))))
theorem execRetryRequest {p fseq} (h : s.memOk) : nextOnly State.memOk (execRetryRequest p fseq s) := unit h fun h => ite (resendFrom h) h
theorem execFrameRetryTimeout {p} (h : s.memOk) : nextOnly State.memOk (execFrameRetryTimeout p s) := unit h fun h => ite (resendFrom h) h
theorem execData {p msg} (h : s.memOk) : nextOnly State.memOk (execData p msg s) := unit h fun h => arriveKept h
theorem execCollective {p msg} (h : s.memOk) : nextOnly State.memOk (execCollective p msg s) := unit h fun h => arriveKept h
theorem execAck {p msg} (h : s.memOk) : nextOnly State.memOk (execAck p msg s) :=
  unit h fun h => control h (fun h => reportVerdict (pokeBarriers (upd h)))
theorem execMessageResendTimeout {dst msgId} (h : s.memOk) : nextOnly State.memOk (execMessageResendTimeout dst msgId s) :=
  whenOn h fun h => (by split; exacts [retryMessage h, h])
theorem execBarrier {p msg} (h : s.memOk) : nextOnly State.memOk (execBarrier p msg s) :=
  unit h fun h => control h (fun h => takeBarrier h)
theorem execTime {p msg} (h : s.memOk) : nextOnly State.memOk (execTime p msg s) := unit h fun h => control h (fun h => takeTime h)
theorem execPower {p msg} (h : s.memOk) : nextOnly State.memOk (execPower p msg s) := unit h fun h => control h (fun h => takePower h)
theorem execNegotiate {p msg} (h : s.memOk) : nextOnly State.memOk (execNegotiate p msg s) :=
  unit h fun h => control h (fun h => ite (judgePort (setPort h)) h)
theorem execRoute {p msg} (h : s.memOk) : nextOnly State.memOk (execRoute p msg s) := unit h fun h => control h (fun h => takeRoute h)
theorem execPortPresence {p supported} (h : s.memOk) : nextOnly State.memOk (execPortPresence p supported s) :=
  unit h fun h => ite h (ite (setPort h) (ite (portEvent (showPort (setPort h))) (portEvent (portTo (setPort h)))))
theorem execPortTrained {p ok lanes} (h : s.memOk) : nextOnly State.memOk (execPortTrained p ok lanes s) :=
  unit h fun h => ite h (ite (portTo (setOb (ite (setPort h) (trainedTwelve h)))) (failPort h))
theorem execLinkTestDone {p passed} (h : s.memOk) : nextOnly State.memOk (execLinkTestDone p passed s) :=
  unit h fun h => ite h (ite (judgePort (sendBytes (newMessage (setPort h)))) (failPort h))
theorem execLaneFailure {p lane} (h : s.memOk) : nextOnly State.memOk (execLaneFailure p lane s) := unit h fun h => failLane h
theorem execLossOfSignal {p groups} (h : s.memOk) : nextOnly State.memOk (execLossOfSignal p groups s) :=
  unit h fun h => ite (ite (failPort (ite (showPort h) h)) (setOb (setPort (ite (showPort h) h)))) (ite (showPort h) h)
theorem execPresenceDeassert {p} (h : s.memOk) : nextOnly State.memOk (execPresenceDeassert p s) :=
  unit h fun h => setOb (setOb (setOb (setOb (setPort (ite (ite (showPort h) h) (portEvent (portDown (ite (showPort h) h))))))))
theorem execQuiesceDrained {p} (h : s.memOk) : nextOnly State.memOk (execQuiesceDrained p s) := unit h fun h => ite (portTo h) h
theorem execSqtailDoorbell {q val} (h : s.memOk) : nextOnly State.memOk (execSqtailDoorbell q val s) :=
  onQueue h fun h => doorbell h (fun h => setQueue h)
theorem execCqheadDoorbell {q val} (h : s.memOk) : nextOnly State.memOk (execCqheadDoorbell q val s) :=
  onQueue h fun h => doorbell h (fun h => deliver (setQueue h))
theorem execQueueEnable {q} (h : s.memOk) : nextOnly State.memOk (execQueueEnable q s) := onQueue h fun h => writeCtl h
theorem execQueueDisable {q} (h : s.memOk) : nextOnly State.memOk (execQueueDisable q s) := onQueue h fun h => writeCtl h
theorem execCommandFetch (h : s.memOk) : nextOnly State.memOk (execCommandFetch s) :=
  whenOn h fun h => ite h (by split; exacts [fetchFrom h, h])
theorem execMsixCoalesceTimeout {q} (h : s.memOk) : nextOnly State.memOk (execMsixCoalesceTimeout q s) :=
  onQueue h fun h => ite h (ite (msix (setQueue h)) (setQueue h))
theorem execLoadPattern {q cmd} (h : s.memOk) : nextOnly State.memOk (execLoadPattern q cmd s) := hostCmd h fun h => loadPattern h
theorem execPatternUnload {q cmd} (h : s.memOk) : nextOnly State.memOk (execPatternUnload q cmd s) := hostCmd h fun h => unloadPattern h
theorem execRunPattern {q cmd} (h : s.memOk) : nextOnly State.memOk (execRunPattern q cmd s) := hostCmd h fun h => queueRun h
theorem execReshard {q cmd} (h : s.memOk) : nextOnly State.memOk (execReshard q cmd s) := hostCmd h fun h => queueRun h
theorem execCopy {q cmd} (h : s.memOk) : nextOnly State.memOk (execCopy q cmd s) := hostCmd h fun h => queueRun h
theorem execOpenSession {q cmd} (h : s.memOk) : nextOnly State.memOk (execOpenSession q cmd s) :=
  hostCmd h fun h => judged h (openSession h)
theorem execAdvance {q cmd} (h : s.memOk) : nextOnly State.memOk (execAdvance q cmd s) := hostCmd h fun h => queueRun h
theorem execAdvanceAdmission {q} (h : s.memOk) : nextOnly State.memOk (execAdvanceAdmission q s) :=
  unit h fun h => (by split; exacts [ite (startNext h) h, h])
theorem execCloseSession {q cmd} (h : s.memOk) : nextOnly State.memOk (execCloseSession q cmd s) :=
  hostCmd h fun h => judged h (closeSession h)
theorem execHint {q cmd} (h : s.memOk) : nextOnly State.memOk (execHint q cmd s) := hostCmd h fun h => hintCommand h
theorem execFence {q cmd} (h : s.memOk) : nextOnly State.memOk (execFence q cmd s) := hostCmd h fun h => fenceCommand h
theorem execReadReceipt {q cmd} (h : s.memOk) : nextOnly State.memOk (execReadReceipt q cmd s) := hostCmd h fun h => readReceiptCommand h
theorem execReadSignatures {q cmd} (h : s.memOk) : nextOnly State.memOk (execReadSignatures q cmd s) :=
  hostCmd h fun h => readSignaturesCommand h
theorem execHostMemRead {addr len} (h : s.memOk) : nextOnly State.memOk (execHostMemRead addr len s) :=
  whenOn h fun h => ite (foldl (fun h => hostReadPiece h) h) h
theorem execHostMemWrite {addr data} (h : s.memOk) : nextOnly State.memOk (execHostMemWrite addr data s) :=
  whenOn h fun h => ite (hostWrite h) h
theorem execBirsp {addr} (h : s.memOk) : nextOnly State.memOk (execBirsp addr s) := whenOn h fun h => birsp h
theorem execPerstAssert (h : s.memOk) : nextOnly State.memOk (execPerstAssert s) := whenOn h fun h => linkDown h
theorem execCxlLinkTrain {connA connB rate flit256} (h : s.memOk) : nextOnly State.memOk (execCxlLinkTrain connA connB rate flit256 s) :=
  whenOn h fun h => linkTrained h
theorem execBar2Read {idx sub off len} (h : s.memOk) : nextOnly State.memOk (execBar2Read idx sub off len s) :=
  whenOn h fun h => readFrom h
theorem execBar2Write {idx sub off len data} (h : s.memOk) : nextOnly State.memOk (execBar2Write idx sub off len data s) :=
  whenOn h fun h => bar2Submit h
theorem execUsdoTransfer {isWrite idx sub data} (h : s.memOk) : nextOnly State.memOk (execUsdoTransfer isWrite idx sub data s) :=
  whenOn h fun h => ite (writeFrom h) (readFrom h)
theorem execObjectWrite {o idx sub data} (h : s.memOk) : nextOnly State.memOk (execObjectWrite o idx sub data s) := writes h
theorem execNmtStop {preOperational} (h : s.memOk) : nextOnly State.memOk (execNmtStop preOperational s) :=
  whenOn h fun h => ite (logNmt h) h
theorem execNmtReset {node} (h : s.memOk) : nextOnly State.memOk (execNmtReset node s) := whenOn h fun h => ite (logNmt h) h
theorem execCanHeartbeat (h : s.memOk) : nextOnly State.memOk (execCanHeartbeat s) :=
  whenOn h fun h => ite (ite (sendStatus (emit h)) (emit h)) h
theorem execStatusFrame (h : s.memOk) : nextOnly State.memOk (execStatusFrame s) := whenOn h fun h => ite (sendStatus h) h
theorem execRun {o} (h : s.memOk) : nextOnly State.memOk (execRun o s) := writes h
theorem execHold {o} (h : s.memOk) : nextOnly State.memOk (execHold o s) := writes h
theorem execBindReady {o} (h : s.memOk) : nextOnly State.memOk (execBindReady o s) := writes h
theorem execBindRemove {o} (h : s.memOk) : nextOnly State.memOk (execBindRemove o s) := writes h
theorem execRestart {o} (h : s.memOk) : nextOnly State.memOk (execRestart o s) := writes h
theorem execServiceToken {o record} (h : s.memOk) : nextOnly State.memOk (execServiceToken o record s) := writes h
theorem execTokenLapse {o} (h : s.memOk) : nextOnly State.memOk (execTokenLapse o s) := whenOn h fun h => lapseToken h
theorem execClose {o} (h : s.memOk) : nextOnly State.memOk (execClose o s) := writes h
theorem execRemove {o entry} (h : s.memOk) : nextOnly State.memOk (execRemove o entry s) := writes h
theorem execSuspectListWrite {o data} (h : s.memOk) : nextOnly State.memOk (execSuspectListWrite o data s) := writes h
theorem execPpssetWrite {o val} (h : s.memOk) : nextOnly State.memOk (execPpssetWrite o val s) := writes h
theorem execQuiesce {o p val} (h : s.memOk) : nextOnly State.memOk (execQuiesce o p val s) := unit h fun h => writeFrom h
theorem execLogStreamRead {o maxBytes} (h : s.memOk) : nextOnly State.memOk (execLogStreamRead o maxBytes s) :=
  whenOn h fun h => readFrom h
theorem execSignatureStreamRead {o maxBytes} (h : s.memOk) : nextOnly State.memOk (execSignatureStreamRead o maxBytes s) :=
  whenOn h fun h => readFrom h
theorem execChangeLogFlush (h : s.memOk) : nextOnly State.memOk (execChangeLogFlush s) := whenOn h fun h => flushLog h
theorem execVerify {o} (h : s.memOk) : nextOnly State.memOk (execVerify o s) := writes h
theorem execActivate {o} (h : s.memOk) : nextOnly State.memOk (execActivate o s) := writes h
theorem execRollback {o} (h : s.memOk) : nextOnly State.memOk (execRollback o s) := writes h
theorem execCommit {o} (h : s.memOk) : nextOnly State.memOk (execCommit o s) := writes h
theorem execImageWrite {o off data} (h : s.memOk) : nextOnly State.memOk (execImageWrite o off data s) := writes h
theorem execKeySlotProgram {o record} (h : s.memOk) : nextOnly State.memOk (execKeySlotProgram o record s) := writes h
theorem execKeySlotRevoke {o record} (h : s.memOk) : nextOnly State.memOk (execKeySlotRevoke o record s) := writes h
theorem execSysflWrite {o val} (h : s.memOk) : nextOnly State.memOk (execSysflWrite o val s) := writes h
theorem execGetVersion {version} (h : s.memOk) : nextOnly State.memOk (execGetVersion version s) :=
  whenOn h fun h => ite h (ite (respond h) (respond (upd h)))
theorem execGetCapabilities {version} (h : s.memOk) : nextOnly State.memOk (execGetCapabilities version s) :=
  spdm h fun h => respond (upd h)
theorem execNegotiateAlgorithms {version asymOffered hashOffered} (h : s.memOk) : nextOnly State.memOk (execNegotiateAlgorithms version
    asymOffered hashOffered s) :=
  spdm h fun h => ite (respond h) (respond (upd h))
theorem execGetDigests {version} (h : s.memOk) : nextOnly State.memOk (execGetDigests version s) := spdm h fun h => respond h
theorem execGetCertificate {version slot offset length} (h : s.memOk) : nextOnly State.memOk (execGetCertificate version slot offset
    length s) :=
  spdm h fun h => ite (respond h) (respond h)
theorem execChallenge {version slot nonce} (h : s.memOk) : nextOnly State.memOk (execChallenge version slot nonce s) :=
  spdm h fun h => ite (respond h) (respondSigned h)
theorem execGetMeasurements {version slot op signed nonce} (h : s.memOk) : nextOnly State.memOk (execGetMeasurements version slot op
    signed nonce s) := by
  unfold Machine.execGetMeasurements
  refine spdm h fun h => ite (respond h) (ite (measureWith h) (ite (measureWith h) ?_))
  split; exacts [measureWith h, respond h]
theorem execTapInstruction {code} (h : s.memOk) : nextOnly State.memOk (execTapInstruction code s) :=
  whenOn h fun h => ite h (ite (emit h) (ite h (ite (emit (upd h)) (latchSafe h))))
theorem execReleasePress {heldMs} (h : s.memOk) : nextOnly State.memOk (execReleasePress heldMs s) :=
  whenOn h fun h => ite (modFe (upd h)) (touch (upd h) (fun h => ite (removeByPress h) (touchEvent h)))
theorem execCagePadTouch {p heldMs} (h : s.memOk) : nextOnly State.memOk (execCagePadTouch p heldMs s) :=
  unit h fun h => touch h (fun h => padTouched h)
theorem execAttentionTouch (h : s.memOk) : nextOnly State.memOk (execAttentionTouch s) := whenOn h fun h => touch h (fun h => nextPage h)
theorem execDisplayPageTimeout (h : s.memOk) : nextOnly State.memOk (execDisplayPageTimeout s) := whenOn h fun h => upd h
theorem execDisplayMessageTimeout (h : s.memOk) : nextOnly State.memOk (execDisplayMessageTimeout s) := whenOn h fun h => expireMessage h
theorem execConsoleRead {idx sub} (h : s.memOk) : nextOnly State.memOk (execConsoleRead idx sub s) :=
  console h fun h => ite (say h) (readFrom h)
theorem execConsoleReadDomain {idx sub off len} (h : s.memOk) : nextOnly State.memOk (execConsoleReadDomain idx sub off len s) :=
  console h fun h => ite (say h) (readFrom h)
theorem execConsoleWrite {idx sub val} (h : s.memOk) : nextOnly State.memOk (execConsoleWrite idx sub val s) :=
  console h fun h => ite (answerWrite (refuseLength h)) (writeFrom h)
theorem execConsoleWriteDomain {idx sub off data} (h : s.memOk) : nextOnly State.memOk (execConsoleWriteDomain idx sub off data s) :=
  console h fun h => ite (say h) (ite (answerWrite (refuseLength h)) (writeFrom h))
theorem execConsoleRemove (h : s.memOk) : nextOnly State.memOk (execConsoleRemove s) := console h fun h => writeFrom h
theorem execConsoleLog (h : s.memOk) : nextOnly State.memOk (execConsoleLog s) := console h fun h => readFrom h
theorem execConsoleHelp (h : s.memOk) : nextOnly State.memOk (execConsoleHelp s) := console h fun h => foldl (fun h => say h) h
theorem execOutputDigestComplete (h : s.memOk) : nextOnly State.memOk (execOutputDigestComplete s) := whenOn h fun h => digestDone h
theorem execPageZeroingDone {handle} (h : s.memOk) : nextOnly State.memOk (execPageZeroingDone handle s) := by
  unfold Machine.execPageZeroingDone
  refine whenOn h fun h => ?_
  split
  · exact h
  · dsimp only
    split
    · exact finish (upd (returnPages (zeroPages h)))
    · exact upd (returnPages (zeroPages h))
theorem execQueueRegisterWrite {q off val} (h : s.memOk) : nextOnly State.memOk (execQueueRegisterWrite q off val s) :=
  onQueue h fun h => writeQueueReg h

/-- Whatever command the module takes, it goes on with canonical memories. -/
theorem exec {i : Instr} (h : s.memOk) : nextOnly State.memOk (exec i s) := by
  cases i with
  | hsEnAssert => exact execHsEnAssert h
  | frontEndOn => exact execFrontEndOn h
  | hsEnDeassert => exact execHsEnDeassert h
  | seatSenseOpen => exact execSeatSenseOpen h
  | inputMeasurement => exact execInputMeasurement h
  | bladePairFault => exact execBladePairFault h
  | busSag => exact execBusSag h
  | busSagRecover => exact execBusSagRecover h
  | castOnStep => exact execCastOnStep h
  | castOnStepHang => exact execCastOnStepHang h
  | journalWatchdog => exact execJournalWatchdog h
  | rowMark => exact execRowMark h
  | runStart => exact execRunStart h
  | rowClose => exact execRowClose h
  | rowUndoDone => exact execRowUndoDone h
  | rowHang => exact execRowHang h
  | checkAlarm => exact execCheckAlarm h
  | cellHeartbeat => exact execCellHeartbeat h
  | cellLost => exact execCellLost h
  | regionHeartbeatLost => exact execRegionHeartbeatLost h
  | syncNetDisagree => exact execSyncNetDisagree h
  | controllerSwitch => exact execControllerSwitch h
  | sequencerIssue => exact execSequencerIssue h
  | descriptorStart => exact execDescriptorStart h
  | descriptorComplete => exact execDescriptorComplete h
  | matWload => exact cellOp h matWloadEffect_keeps
  | matStream => exact cellOp h matStreamEffect_keeps
  | matDrain => exact cellOp h matDrainEffect_keeps
  | matGauge => exact cellOp h matGaugeEffect_keeps
  | matGcombine => exact cellOp h matGcombineEffect_keeps
  | vecAdd => exact cellOp h vecAddEffect_keeps
  | vecSub => exact cellOp h vecSubEffect_keeps
  | vecMul => exact cellOp h vecMulEffect_keeps
  | vecFma => exact cellOp h vecFmaEffect_keeps
  | vecDiv => exact cellOp h vecDivEffect_keeps
  | vecSqrt => exact cellOp h vecSqrtEffect_keeps
  | vecMin => exact cellOp h vecMinEffect_keeps
  | vecMax => exact cellOp h vecMaxEffect_keeps
  | vecCmp => exact cellOp h vecCmpEffect_keeps
  | vecSelect => exact cellOp h vecSelectEffect_keeps
  | vecAnd => exact cellOp h vecAndEffect_keeps
  | vecOr => exact cellOp h vecOrEffect_keeps
  | vecXor => exact cellOp h vecXorEffect_keeps
  | vecConvert => exact cellOp h vecConvertEffect_keeps
  | vecSum => exact cellOp h vecSumEffect_keeps
  | vecRmax => exact cellOp h vecRmaxEffect_keeps
  | vecRmin => exact cellOp h vecRminEffect_keeps
  | vecArgmax => exact cellOp h vecArgmaxEffect_keeps
  | vecArgmin => exact cellOp h vecArgminEffect_keeps
  | vecExp => exact cellOp h vecExpEffect_keeps
  | vecLog => exact cellOp h vecLogEffect_keeps
  | vecRecip => exact cellOp h vecRecipEffect_keeps
  | vecRsqrt => exact cellOp h vecRsqrtEffect_keeps
  | vecTanh => exact cellOp h vecTanhEffect_keeps
  | vecSigmoid => exact cellOp h vecSigmoidEffect_keeps
  | vecErf => exact cellOp h vecErfEffect_keeps
  | vecPhilox => exact cellOp h vecPhiloxEffect_keeps
  | vecSort => exact cellOp h vecSortEffect_keeps
  | vecTopk => exact cellOp h vecTopkEffect_keeps
  | movCopy => exact cellOp h movCopyEffect_keeps
  | movPermute => exact cellOp h movPermuteEffect_keeps
  | movGather => exact cellOp h movGatherEffect_keeps
  | movScatter => exact cellOp h movScatterEffect_keeps
  | movScatterAdd => exact cellOp h movScatterAddEffect_keeps
  | movReshard => exact cellOp h movReshardEffect_keeps
  | synSend => exact cellOp h synSendEffect_keeps
  | synRecv => exact cellOp h synRecvEffect_keeps
  | synRecvadd => exact cellOp h synRecvaddEffect_keeps
  | synBarrier => exact cellOp h synBarrierEffect_keeps
  | barrierRelease => exact execBarrierRelease h
  | synWaitmark => exact cellOp h synWaitmarkEffect_keeps
  | chkInsert => exact cellOp h chkInsertEffect_keeps
  | chkVerify => exact cellOp h chkVerifyEffect_keeps
  | updJob => exact cellOp h updJobEffect_keeps
  | hntHeavy => exact cellOp h hntHeavyEffect_keeps
  | smpSample => exact cellOp h smpSampleEffect_keeps
  | ctlNop => exact cellOp h ctlNopEffect_keeps
  | ctlEnd => exact cellOp h ctlEndEffect_keeps
  | ctlLi => exact cellOp h ctlLiEffect_keeps
  | ctlAdd => exact cellOp h ctlAddEffect_keeps
  | ctlSub => exact cellOp h ctlSubEffect_keeps
  | ctlMul => exact cellOp h ctlMulEffect_keeps
  | ctlAnd => exact cellOp h ctlAndEffect_keeps
  | ctlOr => exact cellOp h ctlOrEffect_keeps
  | ctlXor => exact cellOp h ctlXorEffect_keeps
  | ctlShl => exact cellOp h ctlShlEffect_keeps
  | ctlShr => exact cellOp h ctlShrEffect_keeps
  | ctlSra => exact cellOp h ctlSraEffect_keeps
  | ctlAddi => exact cellOp h ctlAddiEffect_keeps
  | ctlMin => exact cellOp h ctlMinEffect_keeps
  | ctlMax => exact cellOp h ctlMaxEffect_keeps
  | ctlCmp => exact cellOp h ctlCmpEffect_keeps
  | ctlCmpi => exact cellOp h ctlCmpiEffect_keeps
  | ctlBr => exact cellOp h ctlBrEffect_keeps
  | ctlJmp => exact cellOp h ctlJmpEffect_keeps
  | ctlLoop => exact cellOp h ctlLoopEffect_keeps
  | ctlCall => exact cellOp h ctlCallEffect_keeps
  | ctlRet => exact cellOp h ctlRetEffect_keeps
  | ctlLd => exact cellOp h ctlLdEffect_keeps
  | ctlSt => exact cellOp h ctlStEffect_keeps
  | hbmWrite => exact execHbmWrite h
  | updJobStart => exact execUpdJobStart h
  | updJobDone => exact execUpdJobDone h
  | looseRead => exact execLooseRead h
  | looseWrite => exact execLooseWrite h
  | looseResponse => exact execLooseResponse h
  | mergeEntryExpire => exact execMergeEntryExpire h
  | mergeHoldExpire => exact execMergeHoldExpire h
  | flitReceive => exact execFlitReceive h
  | scratchpadScrub => exact execScratchpadScrub h
  | hbmPatrolScrub => exact execHbmPatrolScrub h
  | cellDarning => exact execCellDarning h
  | regionDarning => exact execRegionDarning h
  | darningComplete => exact execDarningComplete h
  | darningRestart => exact execDarningRestart h
  | hbmStackFail => exact execHbmStackFail h
  | wasteYarnSwatch => exact execWasteYarnSwatch h
  | suspectSwatch => exact execSuspectSwatch h
  | verdictEarlyFail => exact execVerdictEarlyFail h
  | verdictSubtree => exact execVerdictSubtree h
  | verdictGroup => exact execVerdictGroup h
  | verdictUndone => exact execVerdictUndone h
  | verdictReplay => exact execVerdictReplay h
  | droopDetect => exact execDroopDetect h
  | droopEnd => exact execDroopEnd h
  | shuntClamp => exact execShuntClamp h
  | replicaPathWarning => exact execReplicaPathWarning h
  | slowLoopStep => exact execSlowLoopStep h
  | guardBandExpire => exact execGuardBandExpire h
  | regulatorPhaseLoss => exact execRegulatorPhaseLoss h
  | converterPhaseFail => exact execConverterPhaseFail h
  | regionRailSample => exact execRegionRailSample h
  | regionShort => exact execRegionShort h
  | efuseOpen => exact execEfuseOpen h
  | capShareUpdate => exact execCapShareUpdate h
  | capLoopUpdate => exact execCapLoopUpdate h
  | bubbleLoopUpdate => exact execBubbleLoopUpdate h
  | capUnattainable => exact execCapUnattainable h
  | slopeCeilingUpdate => exact execSlopeCeilingUpdate h
  | floorTargetUpdate => exact onRegion h fun h => setOb h
  | rampGovernorStep => exact onRegion h fun h => ite h (ite (setReg h) (ite (setOb (setReg h)) (setReg h)))
  | lookaheadRaise b planned => exact execLookaheadRaise (planned64 := planned) h
  | preRamp => exact execPreRamp h
  | junctionSensorRead => exact execJunctionSensorRead h
  | sensorFailed => exact execSensorFailed h
  | hbmTempRead => exact execHbmTempRead h
  | coolantReading => exact execCoolantReading h
  | safeEntry => exact execSafeEntry h
  | referenceLoss => exact execReferenceLoss h
  | blockPllLoss => exact execBlockPllLoss h
  | referenceInputSwitch => exact execReferenceInputSwitch h
  | timeBeacon => exact execTimeBeacon h
  | ppsEdge => exact execPpsEdge h
  | ref10mValid => exact execRef10mValid h
  | timeSourceInvalid => exact execTimeSourceInvalid h
  | timeExchange => exact execTimeExchange h
  | timeMasterLoss => exact execTimeMasterLoss h
  | naelaFrame => exact execNaelaFrame h
  | retryRequest => exact execRetryRequest h
  | frameRetryTimeout => exact execFrameRetryTimeout h
  | data => exact execData h
  | collective => exact execCollective h
  | ack => exact execAck h
  | messageResendTimeout => exact execMessageResendTimeout h
  | barrier => exact execBarrier h
  | time => exact execTime h
  | power => exact execPower h
  | negotiate => exact execNegotiate h
  | route => exact execRoute h
  | portPresence => exact execPortPresence h
  | portTrained => exact execPortTrained h
  | linkTestDone => exact execLinkTestDone h
  | laneFailure => exact execLaneFailure h
  | lossOfSignal => exact execLossOfSignal h
  | presenceDeassert => exact execPresenceDeassert h
  | quiesceDrained => exact execQuiesceDrained h
  | sqtailDoorbell => exact execSqtailDoorbell h
  | cqheadDoorbell => exact execCqheadDoorbell h
  | queueEnable => exact execQueueEnable h
  | queueDisable => exact execQueueDisable h
  | commandFetch => exact execCommandFetch h
  | msixCoalesceTimeout => exact execMsixCoalesceTimeout h
  | loadPattern => exact execLoadPattern h
  | patternUnload => exact execPatternUnload h
  | runPattern => exact execRunPattern h
  | reshard => exact execReshard h
  | copy => exact execCopy h
  | openSession => exact execOpenSession h
  | advance => exact execAdvance h
  | advanceAdmission => exact execAdvanceAdmission h
  | closeSession => exact execCloseSession h
  | hint => exact execHint h
  | fence => exact execFence h
  | readReceipt => exact execReadReceipt h
  | readSignatures => exact execReadSignatures h
  | hostMemRead => exact execHostMemRead h
  | hostMemWrite => exact execHostMemWrite h
  | birsp => exact execBirsp h
  | perstAssert => exact execPerstAssert h
  | cxlLinkTrain => exact execCxlLinkTrain h
  | bar2Read => exact execBar2Read h
  | bar2Write => exact execBar2Write h
  | usdoTransfer => exact execUsdoTransfer h
  | objectWrite => exact execObjectWrite h
  | nmtStop => exact execNmtStop h
  | nmtReset => exact execNmtReset h
  | canHeartbeat => exact execCanHeartbeat h
  | statusFrame => exact execStatusFrame h
  | run => exact execRun h
  | hold => exact execHold h
  | bindReady => exact execBindReady h
  | bindRemove => exact execBindRemove h
  | restart => exact execRestart h
  | serviceToken => exact execServiceToken h
  | tokenLapse => exact execTokenLapse h
  | close => exact execClose h
  | remove => exact execRemove h
  | suspectListWrite => exact execSuspectListWrite h
  | ppssetWrite => exact execPpssetWrite h
  | quiesce => exact execQuiesce h
  | logStreamRead => exact execLogStreamRead h
  | signatureStreamRead => exact execSignatureStreamRead h
  | changeLogFlush => exact execChangeLogFlush h
  | verify => exact execVerify h
  | activate => exact execActivate h
  | rollback => exact execRollback h
  | commit => exact execCommit h
  | imageWrite => exact execImageWrite h
  | keySlotProgram => exact execKeySlotProgram h
  | keySlotRevoke => exact execKeySlotRevoke h
  | sysflWrite => exact execSysflWrite h
  | getVersion => exact execGetVersion h
  | getCapabilities => exact execGetCapabilities h
  | negotiateAlgorithms => exact execNegotiateAlgorithms h
  | getDigests => exact execGetDigests h
  | getCertificate => exact execGetCertificate h
  | challenge => exact execChallenge h
  | getMeasurements => exact execGetMeasurements h
  | tapInstruction => exact execTapInstruction h
  | releasePress => exact execReleasePress h
  | cagePadTouch => exact execCagePadTouch h
  | attentionTouch => exact execAttentionTouch h
  | displayPageTimeout => exact execDisplayPageTimeout h
  | displayMessageTimeout => exact execDisplayMessageTimeout h
  | consoleRead => exact execConsoleRead h
  | consoleReadDomain => exact execConsoleReadDomain h
  | consoleWrite => exact execConsoleWrite h
  | consoleWriteDomain => exact execConsoleWriteDomain h
  | consoleRemove => exact execConsoleRemove h
  | consoleLog => exact execConsoleLog h
  | consoleHelp => exact execConsoleHelp h
  | outputDigestComplete => exact execOutputDigestComplete h
  | pageZeroingDone => exact execPageZeroingDone h
  | queueRegisterWrite => exact execQueueRegisterWrite h

theorem step (h : s.memOk) : nextOnly State.memOk (step s) := by
  unfold Machine.step
  split
  · exact next (tick h)
  · exact exec (upd h)

end State.memOk

/-- Settles O60: a step is a tick or a command, and both are made of functions that keep the memories canonical. -/
theorem everyStepKeepsMemoryCanonical : Obligations.EveryStepKeepsMemoryCanonical :=
  fun _ t h hstep => h.step t hstep

end Sys2Proof.Machine

/-!
PROOFS. Verdict messages (R197 to R201): one of the present attempt takes effect, by its kind; the exchange itself touches the ports,
the dictionary and what the row keeps of the exchange.
-/
namespace Sys2Proof.Machine

/-! ### The exchange (R199, R200) -/

/-- `t` is `s` but for the Naela ports, the dictionary, the output, and in the row the verdict's time, the group verdict and the
latencies. -/
def State.exchanged (s t : State) : Prop :=
  ∃ n ob o due gk vl, t = { s with
    naela := n, obj := ob, out := o, row := { s.row with ownDue := due, groupKnown := gk, vlat := vl } }

namespace State.exchanged

variable {s t u : State}

theorem trans : s.exchanged t → t.exchanged u → s.exchanged u := by
  rintro ⟨_, _, _, _, _, _, rfl⟩ ⟨n, ob, o, due, gk, vl, rfl⟩
  exact ⟨n, ob, o, due, gk, vl, rfl⟩

theorem of_messaged (h : s.messaged t) : s.exchanged t := by
  obtain ⟨n, o, rfl⟩ := h
  exact ⟨n, s.obj, o, s.row.ownDue, s.row.groupKnown, s.row.vlat, rfl⟩

theorem refl (s : State) : s.exchanged s := of_messaged (.refl s)

theorem mem (h : s.exchanged t) : t.mem = s.mem := by obtain ⟨_, _, _, _, _, _, rfl⟩ := h; rfl
theorem phase (h : s.exchanged t) : t.row.phase = s.row.phase := by obtain ⟨_, _, _, _, _, _, rfl⟩ := h; rfl
theorem children (h : s.exchanged t) : t.row.children = s.row.children := by obtain ⟨_, _, _, _, _, _, rfl⟩ := h; rfl

/-- A change of the row besides is none of memory. -/
theorem mem_withRow (h : s.exchanged t) (r : RowSt) : ({ t with row := r } : State).mem = s.mem := h.mem

/-- An attempt that has failed has failed still. -/
theorem attemptFailed {a : Alarm} (h : t.exchanged u) : s.attemptFailed t a → s.attemptFailed u a := by
  obtain ⟨_, _, _, _, _, _, rfl⟩ := h
  exact id

end State.exchanged

theorem State.verdictUp_messaged (s : State) (kind : Nat) (v : VerdictMsg) : s.messaged (s.verdictUp kind v) := by
  unfold State.verdictUp
  split
  · exact s.sendControl_messaged ..
  · exact .refl s

theorem State.verdictDown_messaged (s : State) (kind : Nat) (v : VerdictMsg) : s.messaged (s.verdictDown kind v) :=
  .foldl (fun u _ => u.sendControl_messaged ..) _ s

theorem State.knowGroup_exchanged (s : State) (clean : Bool) : s.exchanged (s.knowGroup clean) :=
  ⟨s.naela, _, s.out, s.row.ownDue, some clean, _, rfl⟩

theorem State.reportVerdict_exchanged (s : State) : s.exchanged s.reportVerdict := by
  unfold State.reportVerdict
  split
  · let u : State := { s with row := { s.row with ownDue := some s.now } }
    have hu : s.exchanged u := ⟨s.naela, s.obj, s.out, some s.now, s.row.groupKnown, s.row.vlat, rfl⟩
    have hroot : u.exchanged ((u.knowGroup true).verdictDown 3 (u.verdictMsg 0 u.moduleId (u.nat 0x2220 2))) :=
      (u.knowGroup_exchanged true).trans (.of_messaged (State.verdictDown_messaged ..))
    exact iteInduction (fun _ => hu.trans hroot) (fun _ => hu.trans (.of_messaged (u.verdictUp_messaged ..)))
  · exact .refl s

/-- A group verdict is known, and passed down the tree. -/
theorem State.knowGroup_verdictDown (s : State) (clean : Bool) (kind : Nat) (v : VerdictMsg) :
    s.exchanged ((s.knowGroup clean).verdictDown kind v) ∧ ((s.knowGroup clean).verdictDown kind v).row.groupKnown = some clean := by
  have hdown := (s.knowGroup clean).verdictDown_messaged kind v
  exact ⟨(s.knowGroup_exchanged clean).trans (.of_messaged hdown), congrArg RowSt.groupKnown hdown.row⟩

/-! ### What each kind does (R198 to R201) -/

/-- A FAIL of the group fails the running attempt with GROUP_FAIL, in a waste-yarn row too; the root's is the group's verdict. -/
theorem State.groupFail_running {s : State} (kind : Nat) (v : VerdictMsg) (h : s.row.phase = .running) :
    s.attemptFailed (s.groupFail kind v) { cause := 0x44 } ∧ (kind = 4 → (s.groupFail kind v).row.groupKnown = some false) := by
  let u := s.failRow { cause := 0x44 }
  have hfailed : s.attemptFailed u { cause := 0x44 } := (s.failRow_rowTouched _).1
  have hu : s.groupFail kind v =
      if kind = 4 then (u.knowGroup false).verdictDown 4 v else (u.verdictUp 0 v).verdictDown 0 v := by
    simp [groupFail, raise, h, u]
  obtain ⟨hknow, hfalse⟩ := u.knowGroup_verdictDown false 4 v
  rw [hu]
  split
  · exact ⟨hknow.attemptFailed hfailed, fun _ => hfalse⟩
  · next hkind =>
    have hsent := (u.verdictUp_messaged 0 v).trans (State.verdictDown_messaged _ 0 v)
    exact ⟨(State.exchanged.of_messaged hsent).attemptFailed hfailed, fun hk => absurd hk hkind⟩

/-- `t` has the memory and the row number of `s`, and every sender of UNDONE that `s` has. -/
structure State.keepsUndone (s t : State) : Prop where
  mem : t.mem = s.mem
  num : t.row.num = s.row.num
  undoneFrom : ∀ m ∈ s.row.undoneFrom, m ∈ t.row.undoneFrom

theorem State.keepsUndone.of_row {s t : State} (hmem : t.mem = s.mem) (hrow : t.row = s.row) : s.keepsUndone t :=
  ⟨hmem, by rw [hrow], by rw [hrow]; exact fun _ h => h⟩

theorem State.keepsUndone.trans {s t u : State} (h : s.keepsUndone t) (h' : t.keepsUndone u) : s.keepsUndone u :=
  ⟨h'.mem.trans h.mem, h'.num.trans h.num, fun m hm => h'.undoneFrom m (h.undoneFrom m hm)⟩

/-- A sender of UNDONE is noted. -/
theorem State.keepsUndone.of_sender (s : State) (m : Nat) :
    s.keepsUndone { s with row := { s.row with undoneFrom := s.row.undoneFrom ++ [m] } } :=
  ⟨rfl, rfl, fun _ h => List.mem_append_left _ h⟩

/-- The report of UNDONE drops no sender. -/
theorem State.reportUndone_keepsUndone (s : State) : s.keepsUndone s.reportUndone := by
  let u : State := { s with row := { s.row with undoneFrom := s.row.undoneFrom ++ [s.moduleId] } }
  have hu : s.keepsUndone u := .of_sender s s.moduleId
  have hup := u.verdictUp_messaged 5 (u.verdictMsg 0 u.moduleId u.subtreeSize)
  refine iteInduction (fun _ => iteInduction (fun _ => ?_) (fun _ => ?_)) (fun _ => .of_row rfl rfl)
  · have hdown := u.verdictDown_messaged 6 (u.verdictMsg 0 u.moduleId (u.nat 0x2220 2))
    exact hu.trans ⟨(State.exchanged.of_messaged hdown).mem_withRow _, rfl, fun _ h => h⟩
  · exact hu.trans (.of_row (State.exchanged.of_messaged hup).mem hup.row)

/-- A child's UNDONE is counted once. -/
theorem State.actVerdict_undone (s : State) (v : VerdictMsg) :
    v.origin ∈ (s.actVerdict 5 v).row.undoneFrom ∧ (s.actVerdict 5 v).row.num = s.row.num ∧ (s.actVerdict 5 v).mem = s.mem := by
  by_cases hin : s.row.undoneFrom.contains v.origin = true
  · rw [show s.actVerdict 5 v = s from if_pos hin]
    exact ⟨List.contains_iff_mem.mp hin, rfl, rfl⟩
  · let u : State := { s with row := { s.row with undoneFrom := s.row.undoneFrom ++ [v.origin] } }
    rw [show s.actVerdict 5 v = u.reportUndone from if_neg hin]
    have h := u.reportUndone_keepsUndone
    exact ⟨h.undoneFrom _ (List.mem_append_right _ (List.mem_singleton_self _)), h.num, h.mem⟩

/-! ### A message arrives (R199, R200) -/

/-- A message of another group is nothing. -/
theorem State.takeVerdict_otherGroup {s : State} {v : VerdictMsg} (kind : Nat) (h : v.groupId ≠ s.nat 0x2220 1) :
    s.takeVerdict kind v = s :=
  if_pos (by simp [h])

/-- A message of the group for an attempt that runs or waits for its replay takes effect. -/
theorem State.takeVerdict_present {s : State} {v : VerdictMsg} (kind : Nat) (hg : v.groupId = s.nat 0x2220 1)
    (hgrouped : s.grouped = true) (hrow : v.row = s.row.num) (hattempt : v.attempt = s.row.attempt)
    (hidle : s.row.phase ≠ .idle) (hwaiting : s.row.phase ≠ .waiting) :
    s.takeVerdict kind v = s.actVerdict kind v := by
  simp [takeVerdict, beforeAttempt, hg, hgrouped, hrow, hattempt, hidle, hwaiting]

/-- A verdict message that no port has gathered takes effect as it arrives. -/
theorem exec_verdict {s : State} (v : VerdictMsg) (hon : s.on = true) (hrx : s.naela.rxDone = []) :
    exec (.verdictEarlyFail v) s = .next (s.takeVerdict 0 v) ∧
    (exec (.verdictSubtree v true) s = .next (s.takeVerdict 1 v) ∧ exec (.verdictSubtree v false) s = .next (s.takeVerdict 2 v)) ∧
    (exec (.verdictGroup v true) s = .next (s.takeVerdict 3 v) ∧ exec (.verdictGroup v false) s = .next (s.takeVerdict 4 v)) ∧
    exec (.verdictUndone v) s = .next (s.takeVerdict 5 v) ∧ exec (.verdictReplay v) s = .next (s.takeVerdict 6 v) := by
  have hear (kind : Nat) : s.whenOn (fun s => s.hearVerdict kind v) = .next (s.takeVerdict kind v) := by
    rw [State.whenOn_on hon]
    simp [State.hearVerdict, hrx]
  exact ⟨hear 0, ⟨hear 1, hear 2⟩, ⟨hear 3, hear 4⟩, hear 5, hear 6⟩

/-- What the verdicts do to the running attempt, kind by kind (0 to 4): the FAILs fail it, the CLEANs are noted. -/
theorem State.actVerdict_running {s : State} (v : VerdictMsg) (hphase : s.row.phase = .running) :
    (∀ kind ∈ [0, 2, 4], s.attemptFailed (s.actVerdict kind v) { cause := 0x44 }) ∧
    (s.actVerdict 4 v).row.groupKnown = some false ∧
    ((v.origin, true) ∈ (s.actVerdict 1 v).row.children ∧ (s.actVerdict 1 v).row.phase = .running ∧
      (s.actVerdict 1 v).mem = s.mem) ∧
    (s.actVerdict 3 v).row.groupKnown = some true ∧ (s.actVerdict 3 v).row.phase = .running ∧ (s.actVerdict 3 v).mem = s.mem := by
  have hfail (kind : Nat) := State.groupFail_running kind v hphase
  have hroot : s.actVerdict 4 v = s.groupFail 4 v := rfl
  have hgroup : s.actVerdict 3 v = (s.knowGroup true).verdictDown 3 v := rfl
  let u : State := { s with row := { s.row with children := s.row.children ++ [(v.origin, true)] } }
  have hchild : u.exchanged (s.actVerdict 1 v) := u.reportVerdict_exchanged
  obtain ⟨hknow, htrue⟩ := s.knowGroup_verdictDown true 3 v
  rw [hgroup, hroot]
  refine ⟨?fails, (hfail 4).2 rfl, ⟨?child, hchild.phase.trans hphase, hchild.mem⟩, htrue, hknow.phase.trans hphase, hknow.mem⟩
  case fails =>
    simp only [List.forall_mem_cons, List.not_mem_nil, false_imp_iff, implies_true, and_true]
    exact ⟨(hfail 0).1, (hfail 2).1, (hfail 4).1⟩
  case child =>
    rw [hchild.children]
    exact List.mem_append_right _ (List.mem_singleton_self _)

/-- Settles O37: each message is taken by `takeVerdict`, and acts by its kind. -/
theorem verdictMessagesTakeEffect : Obligations.VerdictMessagesTakeEffect := by
  intro s v hfe hrx
  have hon : s.on = true := by simp [State.on, hfe]
  obtain ⟨hearly, ⟨hsubClean, hsubFail⟩, ⟨hgroupClean, hgroupFail⟩, hundone, hreplay⟩ := exec_verdict v hon hrx
  refine ⟨fun hother clean => ?_, fun hg hgrouped hrow hattempt => ⟨fun hphase => ?_, fun hphase => ?_⟩⟩
  · have hnothing (kind : Nat) := State.takeVerdict_otherGroup kind hother
    cases clean <;>
      simp only [hearly, hsubClean, hsubFail, hgroupClean, hgroupFail, hundone, hreplay, hnothing, and_self]
  · have hact (kind : Nat) : s.takeVerdict kind v = s.actVerdict kind v :=
      State.takeVerdict_present kind hg hgrouped hrow hattempt (by simp [hphase]) (by simp [hphase])
    obtain ⟨hfail, hfalse, hchild, hgroup⟩ := s.actVerdict_running v hphase
    simp only [hearly, hsubClean, hsubFail, hgroupClean, hgroupFail, hact]
    exact ⟨⟨_, rfl, hfail 0 (by simp)⟩, ⟨_, rfl, hfail 2 (by simp)⟩, ⟨_, rfl, hfail 4 (by simp), hfalse⟩,
      ⟨_, rfl, hchild⟩, ⟨_, rfl, hgroup⟩⟩
  · have hact (kind : Nat) : s.takeVerdict kind v = s.actVerdict kind v :=
      State.takeVerdict_present kind hg hgrouped hrow hattempt (by simp [hphase]) (by simp [hphase])
    let t : State := { s.verdictDown 6 v with row := { s.row with phase := .replayDue, replayAt := v.time + 10000 } }
    have ht : s.actVerdict 6 v = t := if_pos (by simp [hphase])
    have hdown : s.exchanged (s.verdictDown 6 v) := .of_messaged (s.verdictDown_messaged 6 v)
    rw [hundone, hreplay, hact, hact, ht]
    exact ⟨⟨_, rfl, s.actVerdict_undone v⟩, ⟨t, rfl, rfl, rfl, hdown.mem_withRow _⟩⟩

end Sys2Proof.Machine

/-!
PROOFS. Check failures (R181, R182, R195, R197, R471, R486): what an alarm does by its cause and by the phase of the row it comes in,
and how control passes to the standby pair.
-/
namespace Sys2Proof.Machine

/-! ### A storage failure is counted (R81, R182) -/

/-- A storage failure touches the physical cell it names and the row's count of uncorrectable words. -/
theorem State.storageLoss_frame (s : State) (a : Alarm) :
    ∃ ph n, s.storageLoss a = { s with phys := ph, row := { s.row with uncorr := n } } := by
  unfold State.storageLoss
  split
  · exact ⟨_, _, rfl⟩
  · exact ⟨s.phys, _, rfl⟩
  · exact ⟨s.phys, _, rfl⟩
  · exact ⟨s.phys, s.row.uncorr, rfl⟩

/-- Of the causes only the storage ones leave a trace outside the attempt; an uncorrectable line has lost its content, and is counted. -/
theorem State.storageLoss_notes (s : State) (a : Alarm) :
    (a.cause ∉ [0x20, 0x21, 0x22] → s.storageLoss a = s) ∧
    (a.cause = 0x20 → ∀ p, s.map.place a.x a.y = some p →
      a.addr % 0x1000000 / 64 * 64 ∈ ((s.storageLoss a).physCell p.number).refill ∧
        (s.storageLoss a).row.uncorr = s.row.uncorr + 1) := by
  constructor
  · intro h
    unfold State.storageLoss
    split
    · next hc _ => exact absurd (by simp [hc]) h
    · next hc => exact absurd (by simp [hc]) h
    · next hc => exact absurd (by simp [hc]) h
    · rfl
  · intro h p hp
    have hlose : s.storageLoss a = s.loseLine p (a.addr % 0x1000000 / 64 * 64) := by simp only [State.storageLoss, h, hp]
    obtain ⟨hrefill, -, hrow⟩ := s.loseLine_due p (a.addr % 0x1000000 / 64 * 64)
    rw [hlose]
    exact ⟨hrefill, congrArg RowSt.uncorr hrow⟩

/-! ### A failed check, by the row's phase (R181, R197, R199, R486) -/

/-- In the running row it fails the attempt, but for a waste-yarn row, which only its group fails. -/
theorem State.raise_fails {s : State} {a : Alarm} (h : s.row.phase = .running) (hw : s.row.waste = false ∨ a.cause = 0x44) :
    s.raise a = s.failRow a := by
  rcases hw with hw | hc
  · exact s.raise_running a false h hw
  · simp [raise, h, hc]

/-- A waste-yarn row takes no notice of it. -/
theorem State.raise_waste {s : State} {a : Alarm} (h : s.row.phase = .running) (hw : s.row.waste = true) (hc : a.cause ≠ 0x44) :
    s.raise a = s := by
  simp [raise, h, hw, hc]

/-- Outside an attempt it changes the failure held for the next attempt alone, and that only when a unit's data is lost. -/
theorem State.raise_outside {s : State} (a : Alarm) (hr : s.row.phase ≠ .running) (ha : s.row.phase ≠ .aborted) :
    (∃ hf, s.raise a = { s with row := { s.row with heldFail := hf } }) ∧ (losesUnit a.cause = false → s.raise a = s) := by
  have hhold : ∃ hf, s.holdFail a = { s with row := { s.row with heldFail := hf } } := by
    unfold State.holdFail
    split
    · exact ⟨_, rfl⟩
    · exact ⟨s.row.heldFail, rfl⟩
  unfold State.raise
  split
  · next h => exact absurd h hr
  · next h => exact absurd h ha
  · exact ⟨⟨s.row.heldFail, rfl⟩, fun _ => rfl⟩
  · constructor
    · split
      · exact hhold
      · exact ⟨s.row.heldFail, rfl⟩
    · intro hl
      simp [hl]

/-- The loss of a slice's data between the rows of a run is held for the next attempt. -/
theorem State.raise_held {s : State} {a : Alarm} (hc : a.cause = 0x21) (hp : s.row.phase = .waiting) (hrun : s.run.isSome = true)
    (hheld : s.row.heldFail = none) : (s.raise a).row.heldFail = some a := by
  simp [raise, holdFail, losesUnit, hc, hp, hrun, hheld]

theorem mem_foldl_addSuspect (l acc : List Suspect) (u : Suspect) :
    u ∈ l.foldl (fun acc u => if acc.contains u then acc else acc ++ [u]) acc ↔ u ∈ acc ∨ u ∈ l := by
  induction l generalizing acc with
  | nil => simp
  | cons v l ih =>
    rw [List.foldl_cons, ih, List.mem_cons]
    split
    · next h =>
      have hv : v ∈ acc := List.contains_iff_mem.mp h
      constructor
      · rintro (h | h)
        exacts [.inl h, .inr (.inr h)]
      · rintro (h | rfl | h)
        exacts [.inl h, .inl hv, .inr h]
    · simp [or_assoc]

/-! ### An alarm, by its cause (R181, R195, R341) -/

/-- Every cause but the loss of a cell, of a region, and a controller mismatch is a failed check. -/
theorem State.alarm_check {s : State} {a : Alarm} (hc : a.cause ∈ causes) (hno : a.cause ∉ [0x40, 0x41, 0x43]) :
    s.alarm a = (s.storageLoss a).raise a := by
  simp only [List.mem_cons, List.not_mem_nil, or_false, not_or] at hno
  simp [alarm, hno, hc]

/-- A cause that the table does not list is none. -/
theorem State.alarm_unlisted {s : State} {a : Alarm} (hc : a.cause ∉ causes) : s.alarm a = s := by
  have hne (c : Nat) (h : c ∈ causes) : a.cause ≠ c := fun he => hc (he ▸ h)
  simp [alarm, hc, hne 0x40 (by decide), hne 0x41 (by decide), hne 0x43 (by decide)]

theorem State.alarm_cellLost {s : State} {a : Alarm} (hc : a.cause = 0x40) : s.alarm a = s.loseCell a.x a.y 0x40 :=
  if_pos hc

theorem State.alarm_regionLost {s : State} {a : Alarm} {r : Nat} (hc : a.cause = 0x41) (hr : a.suspects = [.region r]) :
    s.alarm a = s.loseRegion r := by
  simp [alarm, hc, hr]

theorem State.alarm_mismatch {s : State} {a : Alarm} (hc : a.cause = 0x43) : s.alarm a = s.switchPair := by
  simp [alarm, hc]

theorem exec_checkAlarm {s : State} (a : Alarm) (hon : s.on = true) (hcell : isCell a.x a.y = true) :
    exec (.checkAlarm a) s = .next (s.alarm a) :=
  s.unit_on _ _ hcell hon _

/-- A failed check of the running row, a storage failure counted before. -/
theorem State.alarm_running {s : State} {a : Alarm} (hc : a.cause ∈ causes) (hno : a.cause ∉ [0x40, 0x41, 0x43])
    (hp : s.row.phase = .running) (hw : s.row.waste = false ∨ a.cause = 0x44) : s.attemptFailed (s.alarm a) a := by
  obtain ⟨ph, n, hloss⟩ := s.storageLoss_frame a
  let u : State := { s with phys := ph, row := { s.row with uncorr := n } }
  rw [State.alarm_check hc hno, hloss, State.raise_fails (s := u) hp hw]
  exact (u.failRow_rowTouched a).1

/-- In an aborted attempt its suspects are added. -/
theorem State.alarm_aborted {s : State} {a : Alarm} (hc : a.cause ∈ causes) (hno : a.cause ∉ [0x40, 0x41, 0x43])
    (hp : s.row.phase = .aborted) :
    (s.alarm a).row.phase = .aborted ∧ (s.alarm a).row.alarm = s.row.alarm ∧ (s.alarm a).mem = s.mem ∧
      ∀ u, u ∈ (s.alarm a).row.suspects ↔ u ∈ s.row.suspects ∨ u ∈ allSuspects a := by
  obtain ⟨ph, n, hloss⟩ := s.storageLoss_frame a
  let u : State := { s with phys := ph, row := { s.row with uncorr := n } }
  rw [State.alarm_check hc hno, hloss, State.raise_aborted (s := u) a false hp]
  exact ⟨hp, rfl, rfl, fun v => mem_foldl_addSuspect _ _ v⟩

/-- Outside an attempt nothing fails: a storage failure is noted, and the loss of a slice's data is held for the next attempt. -/
theorem State.alarm_outside {s : State} {a : Alarm} (hc : a.cause ∈ causes) (hno : a.cause ∉ [0x40, 0x41, 0x43])
    (hr : s.row.phase ≠ .running) (ha : s.row.phase ≠ .aborted) :
    (s.alarm a).row.phase = s.row.phase ∧ (s.alarm a).row.suspects = s.row.suspects ∧ (s.alarm a).mem = s.mem ∧
      (a.cause ≠ 0x21 → s.alarm a = s.storageLoss a) ∧
      (a.cause = 0x21 → s.row.phase = .waiting → s.run.isSome = true → s.row.heldFail = none →
        (s.alarm a).row.heldFail = some a) := by
  obtain ⟨ph, n, hloss⟩ := s.storageLoss_frame a
  let u : State := { s with phys := ph, row := { s.row with uncorr := n } }
  obtain ⟨⟨hf, hframe⟩, hnone⟩ := State.raise_outside (s := u) a hr ha
  have hu : s.alarm a = u.raise a := by rw [State.alarm_check hc hno, hloss]
  have h40 : a.cause ≠ 0x40 := fun h => hno (by simp [h])
  have h41 : a.cause ≠ 0x41 := fun h => hno (by simp [h])
  rw [hloss, hu]
  refine ⟨by rw [hframe], by rw [hframe], by rw [hframe], fun h21 => hnone ?_, fun h21 hp hrun hheld => ?_⟩
  · simp [losesUnit, h40, h41, h21]
  · exact State.raise_held h21 hp hrun hheld

/-- A waste-yarn row notes a storage failure, and nothing else. -/
theorem State.alarm_waste {s : State} {a : Alarm} (hc : a.cause ∈ causes) (hno : a.cause ∉ [0x40, 0x41, 0x43])
    (hp : s.row.phase = .running) (hw : s.row.waste = true) (h44 : a.cause ≠ 0x44) : s.alarm a = s.storageLoss a := by
  obtain ⟨ph, n, hloss⟩ := s.storageLoss_frame a
  rw [State.alarm_check hc hno, hloss]
  exact State.raise_waste hp hw h44

/-- The loss of a cell that carries logical work fails the attempt and queues the cell. -/
theorem State.alarm_losesCell {s : State} {a : Alarm} {u : Lost} (hc : a.cause = 0x40) (hu : s.cellUnit a.x a.y = some u)
    (hk : s.map.known u = false) (hcarries : s.map.carries u = true) (hdev : s.dev = .running) (hp : s.row.phase = .running)
    (hw : s.row.waste = false) (hnow : s.map.now = none) :
    s.attemptFailed (s.alarm a) { cause := 0x40, x := a.x, y := a.y, suspects := [.cell a.x a.y] } ∧
      (s.alarm a).map = { s.map with queue := s.map.queue ++ [(u, 0x40)] } := by
  rw [State.alarm_cellLost hc, State.loseCell, hu]
  exact State.loseUnit_running _ hdev hp hw hnow hk hcarries

/-! ### Control passes to the standby pair (R195, R471) -/

theorem State.msix_start (s : State) (v : Nat) : (s.msix v).start = s.start := by
  obtain ⟨_, _, h⟩ := s.msix_raises v
  rw [h]

theorem State.signature_standby (s : State) (i : SigInfo) : (s.signature i).start.standby = s.start.standby := by
  have hcount (u : State) (b : Bool) : (if b then u.addOb 0x2404 5 1 else u).start = u.start := by cases b <;> rfl
  unfold State.signature
  rw [State.msix_start, hcount]

/-- A failed attempt leaves the pairs in control as they are. -/
theorem State.failRow_standby (s : State) (a : Alarm) : (s.failRow a).start.standby = s.start.standby := by
  let r : RowSt := { s.row with phase := .aborted, failed := true, alarm := some a, suspects := allSuspects a }
  let u := ({ s with row := r } : State).abortCells
  let v := u.attemptSignature a (if u.row.attempt < 2 then 1 else 14)
  have hv : v.start.standby = s.start.standby := u.signature_standby _
  have hlast : s.failRow a = if a.cause = 0x44 then v else v.earlyFail a.cause v.moduleId := rfl
  obtain ⟨_, _, hm⟩ := v.earlyFail_messaged a.cause v.moduleId
  rw [hlast]
  split
  · exact hv
  · rw [hm]
    exact hv

theorem State.raise_standby (s : State) (a : Alarm) : (s.raise a).start.standby = s.start.standby := by
  by_cases hr : s.row.phase = .running
  · by_cases hw : s.row.waste = false ∨ a.cause = 0x44
    · rw [State.raise_fails hr hw, s.failRow_standby a]
    · obtain ⟨hw, hc⟩ := not_or.mp hw
      rw [State.raise_waste hr (by simpa using hw) hc]
  · by_cases ha : s.row.phase = .aborted
    · rw [State.raise_aborted a false ha]
      rfl
    · obtain ⟨⟨_, h⟩, -⟩ := State.raise_outside a hr ha
      rw [h]

theorem State.recorded.sec {s t : State} (h : s.recorded t) : t.sec = s.sec := by
  obtain ⟨_, _, _, _, rfl⟩ := h
  rfl

theorem State.rowTouched.sec {s t : State} (h : s.rowTouched t) : t.sec = s.sec := by
  obtain ⟨_, _, _, _, _, _, _, _, _, rfl⟩ := h
  rfl

theorem State.stopWork.obj {s t : State} (h : s.stopWork t) : t.obj = s.obj := by
  obtain ⟨_, _, _, _, _, _, _, rfl, -⟩ := h
  rfl

theorem State.delivered.obj {s t : State} (h : s.delivered t) : t.obj = s.obj := by
  obtain ⟨_, _, _, _, _, _, _, _, _, rfl, -⟩ := h
  rfl

/-- A latched fault whose cause is given leaves it in SAFECAUSE. -/
theorem State.latchSafe_safeCause {s : State} (c : Nat) (hsafe : s.dev ≠ .safe) (hoff : s.dev ≠ .off) :
    (s.latchSafe (some c)).nat 0x2200 3 = c % 65536 := by
  let u := ((s.enter .safe).setSubstate 0).setOb 0x2200 3 (c % 65536 : Nat)
  let v : State := { u.groupsOff with
    row := { u.row with phase := .idle }
    flash := { u.flash with owed := u.flash.owed ++ u.map.queue.map (fun q : Lost × Nat => lostDefect q.2 q.1) }
    map := { u.map with queue := [], redo := [], now := none } }
  have hlast : s.latchSafe (some c) = ((v.signature { mech := c % 65536, action := 15 }).msix 65).abortAll.releaseEnding :=
    if_neg (by simp [hsafe, hoff])
  let w := (v.signature { mech := c % 65536, action := 15 }).msix 65
  have hw : w.obj = v.obj := ((v.signature_recorded rfl).trans (State.msix_recorded ..)).obj
  have hall : w.abortAll.obj = w.obj :=
    ((w.endRun_stopWork stAborted 0 [] false).trans (State.abortFetched_stopWork _ fun _ => true)).obj
  have hreleased : w.abortAll.releaseEnding.obj = w.abortAll.obj := (State.releaseEnding_delivered _).obj
  rw [hlast, State.nat_of_obj_eq (hreleased.trans (hall.trans hw))]
  exact State.nat_setOb_same (State.setSubstate _ 0) 0x2200 3 _

/-- With the standby pair free and no activation running, control passes to it, and the mismatch is a failed check. -/
theorem State.switchPair_takes {s : State} (hfw : s.sec.fwState ≠ 4) (hsb : s.start.standby = false) :
    s.switchPair = ({ s with start := { s.start with standby := true } } : State).raise { cause := 0x43 } := by
  simp [switchPair, mismatchInActivation, activating, hfw, hsb]

/-- Of a running row of a run it fails the attempt. -/
theorem State.switchPair_fails {s : State} (hfw : s.sec.fwState ≠ 4) (hsb : s.start.standby = false) (hp : s.row.phase = .running)
    (hw : s.row.waste = false) : s.attemptFailed s.switchPair { cause := 0x43 } ∧ s.switchPair.start.standby = true := by
  let u : State := { s with start := { s.start with standby := true } }
  rw [State.switchPair_takes hfw hsb, State.raise_fails (s := u) hp (.inl hw)]
  exact ⟨(u.failRow_rowTouched _).1, u.failRow_standby _⟩

/-- In waste yarn, and between rows, control passes and nothing else happens. -/
theorem State.switchPair_quiet {s : State} (hfw : s.sec.fwState ≠ 4) (hsb : s.start.standby = false)
    (hp : s.row.phase = .running ∧ s.row.waste = true ∨ s.row.phase = .idle ∨ s.row.phase = .waiting) :
    s.switchPair = { s with start := { s.start with standby := true } } := by
  let u : State := { s with start := { s.start with standby := true } }
  rw [State.switchPair_takes hfw hsb]
  rcases hp with ⟨hp, hw⟩ | hp
  · exact State.raise_waste (s := u) hp hw (by decide)
  · have hne : s.row.phase ≠ .running ∧ s.row.phase ≠ .aborted := by rcases hp with hp | hp <;> simp [hp]
    exact (State.raise_outside (s := u) _ hne.1 hne.2).2 rfl

/-- With the standby pair in control already, or loading an activation's image a second time, the fault is latched. -/
theorem State.switchPair_latches {s : State}
    (h : s.sec.fwState ≠ 4 ∧ s.start.standby = true ∨ s.sec.fwState = 4 ∧ s.sec.phase = 3 ∧ s.sec.retried = true) :
    s.switchPair = s.latchSafe (some 0x43) := by
  rcases h with ⟨hfw, hsb⟩ | ⟨hfw, hp, hr⟩
  · simp [switchPair, mismatchInActivation, activating, hfw, hsb]
  · simp [switchPair, mismatchInActivation, activating, hfw, hp, hr]

/-- A standby that still loads an activation's image loads it once more. -/
theorem State.switchPair_retries {s : State} (hfw : s.sec.fwState = 4) (hp : s.sec.phase = 3) (hr : s.sec.retried = false) :
    s.switchPair = { s with sec := { s.sec with retried := true, since := s.clock } } := by
  simp [switchPair, mismatchInActivation, activating, hfw, hp, hr]

/-- Before the standby is ready the activation ends, and control passes. -/
theorem State.switchPair_endsActivation {s : State} (hfw : s.sec.fwState = 4) (hp : s.sec.phase = 1) (hsb : s.start.standby = false) :
    s.switchPair.sec.fwState = 6 ∧ s.switchPair.start.standby = true ∧ s.switchPair.mem = s.mem := by
  let u := s.abortActivation
  have hended : State.recorded { s with sec := { s.sec with fwState := 6, phase := 0, unit := 0 } } u := State.logEvent_recorded ..
  let w : State := { u with start := { u.start with standby := true } }
  have hw : s.switchPair = w.raise { cause := 0x43 } := by
    simp [switchPair, mismatchInActivation, activating, hfw, hp, hsb, w, u]
  have htouched := w.raise_rowTouched { cause := 0x43 } false
  rw [hw]
  exact ⟨congrArg Security.fwState (htouched.sec.trans hended.sec), w.raise_standby _, htouched.mem.trans hended.mem⟩

/-! ### The obligation -/

theorem exec_controllerSwitch {s : State} (hon : s.on = true) : exec .controllerSwitch s = .next s.switchPair :=
  State.whenOn_on hon _

/-- Settles O31: an alarm acts by its cause, a failed check by the phase of the row, a mismatch by the pair in control. -/
theorem checkFailuresFailTheRow : Obligations.CheckFailuresFailTheRow := by
  refine ⟨fun s a hfe hcell => ?alarm, fun s hfe => ?switch⟩
  case alarm =>
    have hon : s.on = true := by simp [State.on, hfe]
    have hx := exec_checkAlarm a hon hcell
    have hpair := exec_controllerSwitch hon
    obtain ⟨hsame, hline⟩ := s.storageLoss_notes a
    obtain ⟨ph, n, hloss⟩ := s.storageLoss_frame a
    refine ⟨?fails, ?waste, ?aborted, ?outside, ?cell, ?region, ?mismatch, ?unlisted, ⟨_, hx⟩⟩
    case fails => exact fun ⟨hc, hno⟩ hp hw => ⟨_, hx, State.alarm_running hc hno hp hw⟩
    case waste =>
      rintro ⟨hc, hno⟩ hp hw h44
      refine ⟨_, hx, ?_⟩
      rw [State.alarm_waste hc hno hp hw h44]
      exact ⟨by rw [hloss]; exact hp, by rw [hloss], by rw [hloss], hsame, hline⟩
    case aborted => exact fun ⟨hc, hno⟩ hp => ⟨_, hx, State.alarm_aborted hc hno hp⟩
    case outside =>
      rintro ⟨hc, hno⟩ hr ha
      obtain ⟨hphase, hsuspects, hmem, hnotes, hheld⟩ := State.alarm_outside hc hno hr ha
      refine ⟨_, hx, hphase, hsuspects, hmem, ⟨fun hn => ?_, fun h20 => ?_⟩, hheld⟩
      · rw [hnotes fun h => hn (by simp [h]), hsame hn]
      · rw [hnotes (by simp [h20])]
        exact hline h20
    case cell =>
      exact fun u hc hu hk hcarries hdev hp hw hnow => ⟨_, hx, State.alarm_losesCell hc hu hk hcarries hdev hp hw hnow⟩
    case region =>
      intro r hc hr
      by_cases h : 42 ≤ r
      · exact .inr h
      · have hsync : exec (.syncNetDisagree (some r)) s = .next (s.loseRegion r) :=
          s.unit_on _ _ (decide_eq_true (Nat.lt_of_not_le h)) hon _
        exact .inl (by rw [hx, hsync, State.alarm_regionLost hc hr])
    case mismatch => exact fun hc => by rw [hx, hpair, State.alarm_mismatch hc]
    case unlisted => exact fun hc => by rw [hx, State.alarm_unlisted hc]
  case switch =>
    have hon : s.on = true := by simp [State.on, hfe]
    have hx := exec_controllerSwitch hon
    have hlatch (h : s.switchPair = s.latchSafe (some 0x43)) (hsafe : s.dev ≠ .safe) (hoff : s.dev ≠ .off) :
        ∃ t, exec .controllerSwitch s = .next t ∧ t.latchedSafe ∧ t.nat 0x2200 3 = 0x43 :=
      ⟨_, hx.trans (congrArg _ h), State.latchSafe_latchedSafe _ hsafe hoff, State.latchSafe_safeCause 0x43 hsafe hoff⟩
    refine ⟨?takes, ?inControl, ?retries, ?endsActivation, ?loadsAgain, ⟨_, hx⟩⟩
    case takes =>
      exact fun hfw hsb => ⟨fun hp hw => ⟨_, hx, State.switchPair_fails hfw hsb hp hw⟩,
        fun hp => hx.trans (congrArg _ (State.switchPair_quiet hfw hsb hp))⟩
    case inControl => exact fun hfw hsb => hlatch (State.switchPair_latches (.inl ⟨hfw, hsb⟩))
    case retries => exact fun hfw hp hr => hx.trans (congrArg _ (State.switchPair_retries hfw hp hr))
    case endsActivation => exact fun hfw hp hsb => ⟨_, hx, State.switchPair_endsActivation hfw hp hsb⟩
    case loadsAgain => exact fun hfw hp hr => hlatch (State.switchPair_latches (.inr ⟨hfw, hp, hr⟩))

end Sys2Proof.Machine

/-!
PROOFS. The run commands (R226, R375, R377, R378, R380, R381, R384): one whose checks pass waits at the head of its queue, one that
fails is refused, and the one whose turn it is becomes the active run. That a command enters as fetched at its turn is log entry 39,
and that whether a run may run is judged when it would start is log entry 106.
-/
namespace Sys2Proof.Machine

/-! ### The turn of a run command (R375, R378) -/

theorem State.hostMoved.row {s t : State} (h : s.hostMoved t) : t.row = s.row := by obtain ⟨_, _, _, _, rfl⟩ := h; rfl

section
variable {s : State} {q : Nat} {c : Bytes} (hno : ∀ g ∈ s.host.fetched, g.no ≤ s.host.fetchNo)
include hno

/-- The number of a command that enters is new: as it waits, the commands fetched before it stand. -/
theorem State.setFetched_entered (w : Bool) :
    let f := (s.enterFetched q c).1
    ((s.enterFetched q c).2.setFetched { f with wait := w }).host.fetched = s.host.fetched ++ [{ f with wait := w }] := by
  intro f
  have hold : s.host.fetched.map (fun g => if g.no = s.host.fetchNo + 1 then { f with wait := w } else g) = s.host.fetched := by
    refine (List.map_congr_left fun g hg => if_neg ?_).trans (List.map_id _)
    have := hno g hg
    omega
  exact List.map_append.trans (congrArg₂ (· ++ ·) hold (congrArg (fun g => [g]) (if_pos rfl)))

/-- As a command that entered leaves the fetched list, those fetched before it stay. -/
theorem State.filter_entered :
    (s.enterFetched q c).2.host.fetched.filter (fun g => g.no != (s.enterFetched q c).1.no) = s.host.fetched := by
  have hold : s.host.fetched.filter (fun g => g.no != s.host.fetchNo + 1) = s.host.fetched := by
    refine List.filter_eq_self.mpr fun g hg => ?_
    have := hno g hg
    simp only [bne_iff_ne]
    omega
  refine (List.filter_append ..).trans ?_
  rw [show (s.enterFetched q c).1.no = s.host.fetchNo + 1 from rfl, hold]
  simp

/-- A refusal ends the command with its status and its record, and changes nothing else. -/
theorem State.refuse_entered {st : Nat} (hst : st < 256) :
    let t := (s.enterFetched q c).2.refuse (s.enterFetched q c).1 st
    s.endedCmd t q c st 0 ∧ t.host.fetched = s.host.fetched ∧ s.hostMoved t := by
  intro t
  obtain ⟨u, hu, ht⟩ : ∃ u, (s.enterFetched q c).2.recorded u ∧ t = u.endCommand (s.enterFetched q c).1 { status := st } :=
    ⟨_, State.log_recorded .., rfl⟩
  rw [ht]
  refine ⟨State.endCommand_ends (s := s) hu.ending { status := st } hst [], ?_, ?_⟩
  · obtain ⟨_, _, _, _, rfl⟩ := hu
    exact State.filter_entered hno
  · obtain ⟨_, _, _, _, rfl⟩ := hu
    exact ⟨_, _, _, _, rfl⟩

variable (ht : s.turnOf q) {α : Type} {check : State → Bytes → Except Nat α}
include ht

/-- A run command whose checks pass waits for its run. -/
theorem State.hostCmd_waits {a : α} (hok : check (s.enterFetched q c).2 c = .ok a) :
    ∃ t, s.hostCmd q c (fun f u => u.queueRun f (check u f.cmd)) = .next t ∧
      t.host.fetched = s.host.fetched ++ [{ (s.enterFetched q c).1 with wait := true }] ∧ t = { s with host := t.host } := by
  refine ⟨(s.enterFetched q c).2.setFetched { (s.enterFetched q c).1 with wait := true }, ?_, State.setFetched_entered hno true, rfl⟩
  rw [State.hostCmd_turn ht, State.queueRun, show (s.enterFetched q c).1.cmd = c from rfl, hok]
  rfl

/-- A run command that fails a check is refused with the check's status. -/
theorem State.hostCmd_refused {st : Nat} (hst : st < 256) (herr : check (s.enterFetched q c).2 c = .error st) :
    ∃ t, s.hostCmd q c (fun f u => u.queueRun f (check u f.cmd)) = .next t ∧ s.endedCmd t q c st 0 ∧
      t.host.fetched = s.host.fetched ∧ t.mem = s.mem ∧ t.pats = s.pats ∧ t.sess = s.sess ∧ t.run = s.run ∧ t.row = s.row := by
  obtain ⟨hend, hfetched, hmoved⟩ := State.refuse_entered (q := q) (c := c) hno hst
  refine ⟨_, ?_, hend, hfetched, hmoved.mem, hmoved.pats, hmoved.sess, hmoved.run, hmoved.row⟩
  rw [State.hostCmd_turn ht, State.queueRun, show (s.enterFetched q c).1.cmd = c from rfl, herr]
  rfl

end

/-! ### The next run (R109, R375) -/

theorem State.startNext_eq {s : State} {f : Fetched} (hf : s.nextRun = some f) :
    s.startNext = ({ s with host := { s.host with rrRun := f.queue } } : State).startCommand f := by
  rw [State.startNext, hf]

theorem State.canStart_of_run {s : State} {r : RunSt} (h : s.run = some r) : s.canStart = false := by
  simp [State.canStart, h]

theorem State.startRuns_idle {s : State} (n : Nat) (h : s.canStart = false) : State.startRuns n s = s := by
  cases n with
  | zero => rfl
  | succ n => simp [State.startRuns, h]

/-- Once a run has started no further command is taken. -/
theorem State.startRuns_starts {s : State} {f : Fetched} {r : RunSt} (n : Nat) (hcan : s.canStart = true) (hf : s.nextRun = some f)
    (hrun : s.startNext.run = some r) : State.startRuns (n + 1) s = s.startNext := by
  rw [State.startRuns, hcan, hf]
  exact State.startRuns_idle n (State.canStart_of_run hrun)

theorem State.startCommand_pattern {s : State} {f : Fetched} {p : Pattern} (hop : cmdOpcode f.cmd = 0x02)
    (hp : s.checkRun f.cmd = .ok p) :
    s.startCommand f = s.activate { f.run .pattern (uAt f.cmd 16 2) p.rows with
      arg := uAt f.cmd 24 8, ranges := outRanges f.cmd, digAddr := uAt f.cmd 32 8 } := by
  simp only [State.startCommand, hop, if_true, hp, State.judged]

theorem State.startCommand_advance {s : State} {f : Fetched} {a : Admission} (hop : cmdOpcode f.cmd = 0x11)
    (ha : s.checkAdvance f.cmd = .ok a) :
    let t := a.handles.foldl State.admitSession s
    s.startCommand f = t.activate (t.advanceRun { f.run .decode 0 0 with
      handles := a.handles, prefills := a.prefills, decodes := a.decodes, result := a.handles.length, digAddr := uAt f.cmd 40 8 }
      a.set (!a.prefills.isEmpty)) := by
  simp [State.startCommand, hop, ha, State.judged]

/-! ### Admission (R232, R384) -/

theorem State.session_setSession_same (s : State) (i : Nat) (v : Session) : (s.setSession i v).session i = v :=
  Tab.getD_set_same ..

theorem State.session_setSession_ne (s : State) {i j : Nat} (v : Session) (h : j ≠ i) :
    (s.setSession i v).session j = s.session j := Tab.getD_set_ne _ _ _ h

/-- The row is as before, and every session that was BUSY still is. -/
def State.keepsBusy (s t : State) : Prop :=
  t.row = s.row ∧ ∀ i, (s.session i).inRun = true → (t.session i).inRun = true

namespace State.keepsBusy

variable {s t u : State}

theorem refl (s : State) : s.keepsBusy s := ⟨rfl, fun _ h => h⟩

theorem trans : s.keepsBusy t → t.keepsBusy u → s.keepsBusy u := by
  rintro ⟨hrow, hbusy⟩ ⟨hrow', hbusy'⟩
  exact ⟨hrow'.trans hrow, fun i hi => hbusy' i (hbusy i hi)⟩

theorem of_setSession {i : Nat} {v : Session} (hv : (s.session i).inRun = true → v.inRun = true) : s.keepsBusy (s.setSession i v) := by
  refine ⟨rfl, fun j hj => ?_⟩
  by_cases h : j = i
  · subst h
    rw [s.session_setSession_same]
    exact hv hj
  · rwa [s.session_setSession_ne _ h]

end State.keepsBusy

theorem State.addPage_keepsBusy (s : State) (i : Nat) : s.keepsBusy (s.addPage i) := by
  unfold State.addPage
  simp only
  split
  · exact .refl s
  · exact .trans (t := { s with mem := _, pool := _ }) ⟨rfl, fun _ h => h⟩ (.of_setSession id)

theorem State.addPages_keepsBusy (s : State) (i n : Nat) : s.keepsBusy (s.addPages i n) := by
  induction n generalizing s with
  | zero => exact .refl s
  | succ n ih => exact (s.addPage_keepsBusy i).trans (ih _)

theorem State.admitSession_keepsBusy (s : State) (h : Nat) : s.keepsBusy (s.admitSession h) :=
  (s.addPages_keepsBusy _ _).trans (.of_setSession fun _ => rfl)

theorem State.admitSession_busy (s : State) (h : Nat) : ((s.admitSession h).session (h % 8192)).inRun = true :=
  congrArg Session.inRun (State.session_setSession_same ..)

theorem State.admitSessions_keepsBusy (s : State) (hs : List Nat) : s.keepsBusy (hs.foldl State.admitSession s) :=
  foldl_rel .refl .trans State.admitSession_keepsBusy hs s

/-- Every session that is admitted is BUSY. -/
theorem State.admitSessions_busy (hs : List Nat) (s : State) :
    ∀ h ∈ hs, ((hs.foldl State.admitSession s).session (h % 8192)).inRun = true := by
  induction hs generalizing s with
  | nil => simp
  | cons k hs ih =>
    intro h hh
    rcases List.mem_cons.mp hh with rfl | hmem
    · exact ((s.admitSession h).admitSessions_keepsBusy hs).2 _ (s.admitSession_busy h)
    · exact ih _ h hmem

/-! ### The starts -/

section
variable {s : State} {f : Fetched} (hon : s.on = true)
include hon

theorem exec_runStart : exec .runStart s = .next (State.startRuns 64 s) := State.whenOn_on hon _

theorem exec_runStart_pattern {p : Pattern} (hcan : s.canStart = true) (hf : s.nextRun = some f) (hop : cmdOpcode f.cmd = 0x02)
    (hp : ({ s with host := { s.host with rrRun := f.queue } } : State).checkRun f.cmd = .ok p) :
    ∃ t r, exec .runStart s = .next t ∧ t.run = some r ∧ r.kind = .pattern ∧ r.queue = f.queue ∧ r.cmd = f.cmd ∧
      r.slot = uAt f.cmd 16 2 ∧ r.rows = p.rows ∧ r.done = 0 ∧ r.arg = uAt f.cmd 24 8 ∧
      t.host.fetched = s.host.fetched.filter (fun g => g.no != f.no) ∧ t.mem = s.mem ∧ t.row = s.row := by
  have hstart := (State.startNext_eq hf).trans (State.startCommand_pattern hop hp)
  have hx := (exec_runStart hon).trans
    (congrArg Host.Outcome.next ((State.startRuns_starts 63 hcan hf (congrArg State.run hstart)).trans hstart))
  exact ⟨_, _, hx, rfl, rfl, rfl, rfl, rfl, rfl, rfl, rfl, rfl, rfl, rfl⟩

/-- Where the run whose turn it is is an ADVANCE of the queue, it starts. -/
theorem exec_advanceAdmission_starts (hcan : s.canStart = true) (hf : s.nextRun = some f) (hop : cmdOpcode f.cmd = 0x11)
    (hq : f.queue < 64) : exec (.advanceAdmission f.queue) s = .next s.startNext := by
  refine (State.unit_on _ _ (decide_eq_true hq) hon _).trans (congrArg Host.Outcome.next ?_)
  simp [hf, hcan, hop]

theorem exec_advanceAdmission_admits {a : Admission} (hcan : s.canStart = true) (hf : s.nextRun = some f)
    (hop : cmdOpcode f.cmd = 0x11) (hq : f.queue < 64)
    (ha : ({ s with host := { s.host with rrRun := f.queue } } : State).checkAdvance f.cmd = .ok a) :
    ∃ t r, exec (.advanceAdmission f.queue) s = .next t ∧ t.run = some r ∧ r.cmd = f.cmd ∧ r.handles = a.handles ∧
      r.kind = (if a.prefills.isEmpty then .decode else .prefill) ∧ t.row = s.row ∧
      ∀ h ∈ a.handles, (t.session (h % 8192)).inRun = true := by
  let u : State := { s with host := { s.host with rrRun := f.queue } }
  have hstart := (State.startNext_eq hf).trans (State.startCommand_advance hop ha)
  have hx := (exec_advanceAdmission_starts hon hcan hf hop hq).trans (congrArg Host.Outcome.next hstart)
  refine ⟨_, _, hx, rfl, rfl, rfl, ?_, (u.admitSessions_keepsBusy a.handles).1,
    State.admitSessions_busy a.handles u⟩
  show (if !a.prefills.isEmpty then RunKind.prefill else RunKind.decode) = _
  cases a.prefills.isEmpty <;> rfl

/-- Where the run whose turn it is is no ADVANCE of the queue, its admission does nothing. -/
theorem exec_advanceAdmission_skips {q : Nat} (hq : q < 64)
    (hnext : ∀ g, s.nextRun = some g → g.queue ≠ q ∨ cmdOpcode g.cmd ≠ 0x11) : exec (.advanceAdmission q) s = .next s := by
  refine (State.unit_on _ _ (decide_eq_true hq) hon _).trans (congrArg Host.Outcome.next ?_)
  split
  · next g hg => exact if_neg fun ⟨_, hqueue, hop⟩ => (hnext g hg).elim (· hqueue) (· hop)
  · rfl

end

/-! ### The obligation -/

/-- Settles O49: each run command is `hostCmd` with its own checks, and a start makes the next waiting command the active run. -/
theorem runCommandsWaitAndStart : Obligations.RunCommandsWaitAndStart := by
  refine ⟨fun s q c ht _ => ?waits, fun s f hfe => ?starts⟩
  case waits =>
    intro f u waits refused hno
    let checkFields (_ : State) (c : Bytes) : Except Nat Unit :=
      need (headerOk 0x11 [(16, 4), (24, 24)] c && addrsOk c [24, 32, 40]) stMalformed
    refine ⟨fun p => State.hostCmd_waits hno ht (check := State.checkRunTurn),
      fun st => State.hostCmd_refused hno ht (check := State.checkRunTurn),
      fun p => State.hostCmd_waits hno ht (check := State.checkReshard),
      fun st => State.hostCmd_refused hno ht (check := State.checkReshard),
      fun p => State.hostCmd_waits hno ht (check := State.checkCopy),
      fun st => State.hostCmd_refused hno ht (check := State.checkCopy), fun hheader haddrs => ?_, fun hbad => ?_⟩
    · exact State.hostCmd_waits hno ht (check := checkFields) (by simp only [checkFields, hheader, haddrs]; rfl)
    · exact State.hostCmd_refused hno ht (check := checkFields) (by decide) (by simp only [checkFields, hbad]; rfl)
  case starts =>
    have hon : s.on = true := by simp [State.on, hfe]
    exact ⟨fun hcan => by rw [exec_runStart hon, State.startRuns_idle 64 hcan],
      fun p hcan hf hop hp => exec_runStart_pattern hon hcan hf hop hp,
      fun a hcan hf hop hq ha => exec_advanceAdmission_admits hon hcan hf hop hq ha,
      fun hnext hq => exec_advanceAdmission_skips hon hq hnext⟩

end Sys2Proof.Machine

/-!
PROOFS. An empty queue (R271, R273; log entry 3): the responses of opening reads leave, the cells count the tick, and 5 ns pass.
-/
namespace Sys2Proof.Machine

/-- The responses that leave are of the cells and the output alone (R140). -/
theorem State.openingsLeave_frame (s : State) : ∃ c o, s.openingsLeave = { s with cells := c, out := o } := by
  let R (u v : State) : Prop := ∃ c o, v = { u with cells := c, out := o }
  have hrefl (u : State) : R u u := ⟨u.cells, u.out, rfl⟩
  have htrans {u v w : State} : R u v → R v w → R u w := by
    rintro ⟨_, _, rfl⟩ ⟨c, o, rfl⟩
    exact ⟨c, o, rfl⟩
  exact foldl_rel (R := R) hrefl htrans (fun u e => foldl_rel (R := R) hrefl htrans (fun _ _ => ⟨_, _, rfl⟩) _ u) _ s

/-- Blocks that stretch leave device time as it is. -/
theorem State.stretch_time (s : State) (ns : Nat) : (s.stretch ns).time = s.time := by
  refine foldl_rel (R := fun u v : State => v.time = u.time) (fun _ => rfl) (fun h h' => h'.trans h) (fun u e => ?_) _ s
  unfold stretchBlock
  split
  · rfl
  · dsimp only
    split
    · rfl
    · split <;> rfl

/-- While the module is on, device time advances with the time that passes. -/
theorem State.pass_time {s : State} (hon : s.on = true) (ns : Nat) : (s.pass ns).time = s.time.elapse ns := by
  rw [pass, if_pos hon]
  dsimp only
  rw [stretch_time]
  split <;> rfl

/-- With no correction pending, 5 ns of device time are 5 ns (R271). -/
theorem TimeSt.elapse_five {t : TimeSt} (h : t.slew = 0) : (t.elapse 5).dev = (t.dev + 5 * 65536) % 2 ^ 80 := by
  have hslew : t.slewed 5 = 0 := by
    rw [slewed, h]
    decide
  have hdev : (t.elapse 5).dev = ((t.dev + 5 * timeStep / 5 : Nat) + t.slewed 5 : Int).toNat % timeWrap := rfl
  rw [hdev, hslew, Int.add_zero, Int.toNat_natCast]
  rfl

/-- What a tick of a module that is on comes to: 5 ns pass once responses are sent and the cells' cycles counted. -/
theorem State.tick_on {s : State} (hon : s.on = true) : ∃ c o, s.tick = ({ s with cells := c, out := o } : State).pass 5 := by
  obtain ⟨c, o, h⟩ := s.openingsLeave_frame
  exact ⟨_, o, (if_pos hon).trans (congrArg (fun u : State => u.cellTick.pass 5) h)⟩

theorem State.tick_off {s : State} (hon : s.on = false) : s.tick = { s with clock := s.clock + 5 } := by
  simp [tick, pass, hon]

/-- Settles O2: with the module on by what passing time leaves, with it off the clock alone. -/
theorem emptyQueueTicks : Obligations.EmptyQueueTicks := by
  intro s hq
  have hx : step s = .next s.tick := by simp [step, hq]
  refine ⟨s.tick, hx, ?_⟩
  cases hon : s.on with
  | false =>
    have hfe : s.fe.fe ≠ .on := by simpa [State.on] using hon
    rw [State.tick_off hon]
    exact ⟨hq, rfl, rfl, rfl, rfl, fun h => absurd h hfe, fun _ => rfl⟩
  | true =>
    have hfe : s.fe.fe = .on := by simpa [State.on] using hon
    obtain ⟨c, o, ht⟩ := State.tick_on hon
    let u : State := { s with cells := c, out := o }
    have htime : (u.pass 5).time = s.time.elapse 5 := State.pass_time (s := u) hon 5
    obtain ⟨_, _, _, _, hp, -⟩ := u.pass_timePassed 5
    rw [ht]
    refine ⟨?_, ?_, ?_, ?_, ?_, fun _ hs => by rw [htime, TimeSt.elapse_five hs], fun h => absurd hfe h⟩
    all_goals rw [hp]
    exact hq

end Sys2Proof.Machine

/-!
PROOFS. Blocks (R263 to R265, R294, R295, R309, R313 to R315): what a block's own events make of it, and of the dictionary's entries and
the log besides.
-/
namespace Sys2Proof.Machine

/-! ### Entries and the log -/

theorem okey_ne_of_sub {j l : Nat} (i k : Nat) (hj : j < 256) (hl : l < 256) (h : j ≠ l) : okey i j ≠ okey k l :=
  fun e => h (okey_inj hj hl e).2

/-- `t` is `s` but for dictionary entries, the change log, and what tells of the log. -/
def State.entriesLogged (s t : State) : Prop :=
  ∃ ob l ls p o, t = { s with
    obj := ob, flash := { s.flash with log := l }, start := { s.start with logSince := ls }
    host := { s.host with pendingVec := p }, out := o }

namespace State.entriesLogged

variable {s t u : State}

theorem refl (s : State) : s.entriesLogged s := ⟨s.obj, s.flash.log, s.start.logSince, s.host.pendingVec, s.out, rfl⟩

theorem trans : s.entriesLogged t → t.entriesLogged u → s.entriesLogged u := by
  rintro ⟨_, _, _, _, _, rfl⟩ ⟨ob, l, ls, p, o, rfl⟩
  exact ⟨ob, l, ls, p, o, rfl⟩

end State.entriesLogged

theorem State.setOb_logged (s : State) (i j : Nat) (v : Int) : s.entriesLogged (s.setOb i j v) :=
  ⟨_, s.flash.log, s.start.logSince, s.host.pendingVec, s.out, rfl⟩

theorem State.addOb_logged (s : State) (i j n : Nat) : s.entriesLogged (s.addOb i j n) := s.setOb_logged ..

theorem State.log_logged (s : State) (o : Origin) (result idx sub old req app flags : Nat) :
    s.entriesLogged (s.log o result idx sub old req app flags) := by
  obtain ⟨r, -, -, -, -, p, out, h⟩ := s.log_pushes o result idx sub old req app flags
  exact ⟨s.obj, _, _, p, out, h⟩

theorem State.logEvent_logged (s : State) (o : Origin) (idx sub old app : Nat) : s.entriesLogged (s.logEvent o idx sub old app) :=
  s.log_logged ..

/-! ### One block -/

/-- A block that is stored has become what is stored, whatever is entered and logged of it. -/
theorem State.entriesLogged.blockBecame {s t : State} {b : Nat} {k : Blk} (h : (s.setBlk b k).entriesLogged t) :
    s.blockBecame t b k := by
  obtain ⟨ob, l, ls, p, o, rfl⟩ := h
  exact ⟨s.blk_setBlk_same b k, fun c hc => Tab.get?_set_ne _ _ hc, rfl, rfl⟩

/-- Entries and the log may change before the block does. -/
theorem State.entriesLogged.blockBecame_setBlk {s u : State} (h : s.entriesLogged u) (b : Nat) (k : Blk) :
    s.blockBecame (u.setBlk b k) b k := by
  obtain ⟨ob, l, ls, p, o, rfl⟩ := h
  exact ⟨State.blk_setBlk_same .., fun c hc => Tab.get?_set_ne _ _ hc, rfl, rfl⟩

theorem State.blockBecame.trans {s t u : State} {b : Nat} {k k' : Blk} (h : s.blockBecame t b k) (h' : t.blockBecame u b k') :
    s.blockBecame u b k' := by
  obtain ⟨-, hother, ht, hf⟩ := h
  obtain ⟨hb, hother', hu, hf'⟩ := h'
  refine ⟨hb, fun c hc => (hother' c hc).trans (hother c hc), ?_, ?_⟩
  · refine hu.trans ?_
    rw [ht]
  · refine hf'.trans ?_
    rw [hf]

theorem State.onBlock_on {s : State} {b : Nat} (hon : s.on = true) (hb : b < 588) (f : State → State) :
    s.onBlock b f = .next (f s) :=
  s.unit_on _ _ (decide_eq_true hb) hon f

/-! ### Droop and overshoot (R264, R294) -/

/-- The response has three counts of quanta. -/
theorem stretchQuanta_eq (d old mv : Nat) : stretchQuanta d old mv =
    if d + 15 ≤ mv then 4 else if d ≤ mv ∨ (d ≤ mv + 5 ∧ old ≠ 0) then 2 else 0 := by
  unfold stretchQuanta
  by_cases h4 : d + 15 ≤ mv
  · rw [if_pos h4, if_pos h4]
  · rw [if_neg h4, if_neg h4]
    by_cases h2 : d ≤ mv
    · rw [if_pos h2, if_pos (.inl h2)]
    · simp only [h2, if_false, false_or]

/-- A field of the phase point in force is as the entries of the phase points have it (R307). -/
theorem State.phaseField_congr {s u : State} {sub : Nat} (hpoint : u.phasePoint = s.phasePoint) (h : ∀ i, u.nat i sub = s.nat i sub)
    (d : Nat) : u.phaseField sub d = s.phaseField sub d := by
  unfold phaseField
  rw [hpoint]
  cases s.phasePoint with
  | some n => exact h _
  | none => rfl

/-- The count of reservoir charges is none of the entries that the droop threshold comes from. -/
theorem State.droopTh_addOb (s : State) (b n : Nat) : (s.addOb (0x4000 + b) 0x0D n).droopTh b = s.droopTh b := by
  have hentry (i j : Nat) (hj : j < 256) (h : j ≠ 0x0D) : (s.addOb (0x4000 + b) 0x0D n).nat i j = s.nat i j :=
    s.nat_addOb_ne n (okey_ne_of_sub _ _ hj (by decide) h)
  rw [droopTh, droopTh, State.phaseField_congr (s := s) (u := s.addOb (0x4000 + b) 0x0D n) rfl fun i => hentry i 2 (by decide) (by decide),
    hentry _ 0x10 (by decide) (by decide)]

theorem exec_droopDetect {s : State} {b : Nat} (mv : Nat) (hon : s.on = true) (hb : b < 588) :
    ∃ t, exec (.droopDetect b mv) s = .next t ∧
      s.blockBecame t b { s.blk b with droop := stretchQuanta (s.droopTh b) (s.blk b).droop mv } ∧
      t.ob (0x4000 + b) 0x0D = if 25 < mv then (s.addOb (0x4000 + b) 0x0D 1).ob (0x4000 + b) 0x0D else s.ob (0x4000 + b) 0x0D := by
  refine ⟨_, State.onBlock_on hon hb _, ?_⟩
  by_cases h : 25 < mv
  · rw [if_pos h, if_pos h]
    dsimp only
    rw [State.droopTh_addOb]
    exact ⟨(s.addOb_logged ..).blockBecame_setBlk b _, rfl⟩
  · rw [if_neg h, if_neg h]
    exact ⟨(State.entriesLogged.refl s).blockBecame_setBlk b _, rfl⟩

theorem exec_shuntClamp {s : State} {b : Nat} (mv : Nat) (hon : s.on = true) (hb : b < 588) :
    ∃ t, exec (.shuntClamp b mv) s = .next t ∧ t = { s with obj := t.obj } ∧
      t.ob (0x4000 + b) 0x0E = if 30 < mv then (s.addOb (0x4000 + b) 0x0E 1).ob (0x4000 + b) 0x0E else s.ob (0x4000 + b) 0x0E := by
  refine ⟨_, State.onBlock_on hon hb _, ?_⟩
  by_cases h : 30 < mv
  · rw [if_pos h, if_pos h]
    exact ⟨rfl, rfl⟩
  · rw [if_neg h, if_neg h]
    exact ⟨rfl, rfl⟩

/-! ### The slow loop (R265) -/

section
variable {s : State} {b : Nat}

/-- Warnings, and the entries that count them, leave the voltage in force as it is. -/
theorem State.atVmax_warned (m n : Nat) :
    (s.setBlk b { s.blk b with warnMask := m, warnFreeUs := n }).atVmax b = s.atVmax b := by
  simp [atVmax, vmax, vtrim, raises, nat, ob]

theorem State.atVmax_addOb (i j n : Nat) (hj : j < 256) (h : 2 ≠ j) : (s.addOb i j n).atVmax b = s.atVmax b := by
  have hsub : (s.addOb i j n).nat (0x4000 + b) 2 = s.nat (0x4000 + b) 2 :=
    s.nat_addOb_ne n (okey_ne_of_sub _ _ (by decide) hj h)
  simp only [atVmax, vmax, vtrim, hsub]
  rfl

/-- Below the maximum a step raises the voltage by two units. -/
theorem State.slowUp_raises (h : s.atVmax b = false) :
    s.blockBecame (s.slowUp b) b { s.blk b with slowRaise := (s.blk b).slowRaise + 2 } := by
  rw [slowUp]
  dsimp only
  rw [if_neg (by simp [h])]
  exact (State.logEvent_logged _ _ _ _ _ _).blockBecame

/-- At the maximum it stretches every period. -/
theorem State.slowUp_sustains (h : s.atVmax b = true) (hs : (s.blk b).sustained = false) :
    s.blockBecame (s.slowUp b) b { s.blk b with sustained := true } := by
  rw [slowUp]
  dsimp only
  rw [if_pos h, if_neg (by simp [hs])]
  exact ((State.addOb_logged _ _ _ _).trans (State.logEvent_logged _ _ _ _ _ _)).blockBecame

theorem exec_slowLoopStep_warning (hon : s.on = true) (hb : b < 588) : exec (.slowLoopStep b true) s =
    .next ((s.setBlk b { s.blk b with warnFreeUs := 0 }).slowUp b) :=
  State.onBlock_on hon hb _

/-- A step while a path warns goes on from the block with its time without warnings at 0. -/
theorem State.warned_then {m : Nat} {t : State} {k : Blk}
    (h : (s.setBlk b { s.blk b with warnMask := m, warnFreeUs := 0 }).blockBecame t b k) : s.blockBecame t b k :=
  (State.entriesLogged.refl _).blockBecame.trans h

theorem exec_slowLoopStep_raises (hon : s.on = true) (hb : b < 588) (hv : s.atVmax b = false) :
    ∃ t, exec (.slowLoopStep b true) s = .next t ∧
      s.blockBecame t b { s.blk b with warnFreeUs := 0, slowRaise := (s.blk b).slowRaise + 2 } := by
  have hstep := State.slowUp_raises ((State.atVmax_warned (s.blk b).warnMask 0).trans hv)
  rw [State.blk_setBlk_same] at hstep
  exact ⟨_, exec_slowLoopStep_warning hon hb, State.warned_then hstep⟩

theorem exec_slowLoopStep_sustains (hon : s.on = true) (hb : b < 588) (hv : s.atVmax b = true) (hs : (s.blk b).sustained = false) :
    ∃ t, exec (.slowLoopStep b true) s = .next t ∧ s.blockBecame t b { s.blk b with warnFreeUs := 0, sustained := true } := by
  have hstep := State.slowUp_sustains ((State.atVmax_warned (s.blk b).warnMask 0).trans hv) (by rw [State.blk_setBlk_same]; exact hs)
  rw [State.blk_setBlk_same] at hstep
  exact ⟨_, exec_slowLoopStep_warning hon hb, State.warned_then hstep⟩

/-- The state with a path's warning noted and counted, before the loop's step. -/
def State.pathWarned (s : State) (b p : Nat) : State :=
  (s.setBlk b { s.blk b with warnMask := (s.blk b).warnMask ||| 2 ^ p, warnFreeUs := 0 }).addOb (0x4000 + b) 0x14 1

theorem exec_replicaPathWarning {p : Nat} (hon : s.on = true) (hb : b < 588) (hp : p < 6) : exec (.replicaPathWarning b p) s =
    .next (if (s.blk b).warnMask == 0 then (s.pathWarned b p).slowUp b else s.pathWarned b p) :=
  s.unit_on _ _ (by simp [hb, hp]) hon _

theorem State.pathWarned_blk (p : Nat) :
    (s.pathWarned b p).blk b = { s.blk b with warnMask := (s.blk b).warnMask ||| 2 ^ p, warnFreeUs := 0 } :=
  s.blk_setBlk_same b _

theorem exec_replicaPathWarning_first {p : Nat} (hon : s.on = true) (hb : b < 588) (hp : p < 6) (hv : s.atVmax b = false)
    (hm : (s.blk b).warnMask = 0) : ∃ t, exec (.replicaPathWarning b p) s = .next t ∧
      s.blockBecame t b { s.blk b with warnMask := 2 ^ p, warnFreeUs := 0, slowRaise := (s.blk b).slowRaise + 2 } := by
  have hx := exec_replicaPathWarning hon hb hp
  rw [hm, beq_self_eq_true, if_pos rfl] at hx
  have hstep := State.slowUp_raises (s := s.pathWarned b p) (((State.atVmax_addOb _ _ _ (by decide) (by decide)).trans
    (State.atVmax_warned _ _)).trans hv)
  rw [State.pathWarned_blk, hm, Nat.zero_or] at hstep
  exact ⟨_, hx, (State.addOb_logged _ _ _ _).blockBecame.trans hstep⟩

theorem exec_replicaPathWarning_further {p : Nat} (hon : s.on = true) (hb : b < 588) (hp : p < 6) (hm : (s.blk b).warnMask ≠ 0) :
    ∃ t, exec (.replicaPathWarning b p) s = .next t ∧
      s.blockBecame t b { s.blk b with warnMask := (s.blk b).warnMask ||| 2 ^ p, warnFreeUs := 0 } ∧
      t.ob (0x4000 + b) 0x14 = (s.addOb (0x4000 + b) 0x14 1).ob (0x4000 + b) 0x14 := by
  have hx := exec_replicaPathWarning hon hb hp
  rw [if_neg (by simpa using hm)] at hx
  exact ⟨_, hx, (State.addOb_logged _ _ _ _).blockBecame, rfl⟩

/-- Less than 10 ms without a warning end the sustained stretch alone. -/
theorem Blk.slowDown_early {k : Blk} (h : k.warnFreeUs < 9000) :
    k.slowDown = { k with warnMask := 0, warnFreeUs := k.warnFreeUs + 1000, sustained := false } := by
  have hmin : min (k.warnFreeUs + 1000) 10000 = k.warnFreeUs + 1000 := by omega
  have hlt : ¬ 10000 ≤ k.warnFreeUs + 1000 := by omega
  simp only [slowDown, hmin, hlt, if_false]

/-- 10 ms without a warning lower the raise too. -/
theorem Blk.slowDown_late {k : Blk} (h : 9000 ≤ k.warnFreeUs) :
    k.slowDown = { k with warnMask := 0, warnFreeUs := 10000, sustained := false, slowRaise := k.slowRaise - 1 } := by
  have hmin : min (k.warnFreeUs + 1000) 10000 = 10000 := by omega
  simp only [slowDown, hmin, Nat.le_refl, if_true]

theorem exec_slowLoopStep_quiet (hon : s.on = true) (hb : b < 588) :
    exec (.slowLoopStep b false) s = .next (s.setBlk b (s.blk b).slowDown) :=
  State.onBlock_on hon hb _

/-! ### Lookahead (R309) -/

theorem exec_lookaheadRaise_raises {r : Nat} (n : Nat) (hon : s.on = true) (hb : b < 588) (hmode : s.nat 0x2500 0x0F = 2)
    (hr : (s.raiseRows b).getLast? = some r) : exec (.lookaheadRaise b n) s =
      .next (s.setBlk b { s.blk b with look := (s.blk b).look.toward s.clock (s.nat 0x2500 0x0B), lookFor := r }) := by
  refine (State.onBlock_on hon hb _).trans ?_
  simp only [hr, hmode, if_true]

theorem exec_lookaheadRaise_skips (n : Nat) (hon : s.on = true) (hb : b < 588) (h : s.nat 0x2500 0x0F ≠ 2 ∨ s.raiseRows b = []) :
    exec (.lookaheadRaise b n) s = .next s := by
  refine (State.onBlock_on hon hb _).trans (congrArg Host.Outcome.next ?_)
  split
  · next r hr =>
    refine if_neg fun hmode => h.elim (· hmode) fun hnone => ?_
    simp [hnone] at hr
  · rfl

end

/-- Settles O40: each event goes through what it makes of its own block. -/
theorem blocksFollowTheirSupply : Obligations.BlocksFollowTheirSupply := by
  refine ⟨fun s b mv hfe hb => ?supply, fun s b hfe hb => ?loop⟩
  case supply =>
    have hon : s.on = true := by simp [State.on, hfe]
    intro q
    have hq : q = stretchQuanta (s.droopTh b) (s.blk b).droop mv := (stretchQuanta_eq ..).symm
    rw [hq]
    exact ⟨exec_droopDetect mv hon hb, State.onBlock_on hon hb _, exec_shuntClamp mv hon hb⟩
  case loop =>
    have hon : s.on = true := by simp [State.on, hfe]
    intro k
    refine ⟨fun hv => ⟨exec_slowLoopStep_raises hon hb hv, fun p hp hm => exec_replicaPathWarning_first hon hb hp hv hm⟩,
      fun p hp hm => exec_replicaPathWarning_further hon hb hp hm, fun hv hs => exec_slowLoopStep_sustains hon hb hv hs,
      fun h => ?early, fun h => ?late, State.onBlock_on hon hb _, fun n r hmode hr => exec_lookaheadRaise_raises n hon hb hmode hr,
      fun n h => exec_lookaheadRaise_skips n hon hb h⟩
    case early => rw [exec_slowLoopStep_quiet hon hb, Blk.slowDown_early h]
    case late => rw [exec_slowLoopStep_quiet hon hb, Blk.slowDown_late h]

end Sys2Proof.Machine

/-!
PROOFS. Losses in a block (R263, R295, R314, R315): a regulator phase, a sensor, the PLL; and what a reading of its sensors leaves.
-/
namespace Sys2Proof.Machine

/-! ### Bits -/

/-- Adding a clear bit sets it and no other. -/
theorem bit_add_two_pow {w i : Nat} (h : bit w i = false) (j : Nat) : bit (w + 2 ^ i) j = (decide (i = j) || bit w j) := by
  simp only [bit_eq_testBit] at h ⊢
  have hlow : w % 2 ^ (i + 1) < 2 ^ i := by
    have hbit : w / 2 ^ i % 2 = 0 := by
      rw [Nat.testBit_eq_decide_div_mod_eq] at h
      have := Nat.mod_lt (w / 2 ^ i) (Nat.two_pos)
      have hne : ¬ w / 2 ^ i % 2 = 1 := by simpa using h
      omega
    rw [Nat.mod_pow_succ, hbit, Nat.mul_zero, Nat.add_zero]
    exact Nat.mod_lt _ (Nat.two_pow_pos i)
  have hsum : w + 2 ^ i = 2 ^ (i + 1) * (w / 2 ^ (i + 1)) + (w % 2 ^ (i + 1) ||| 2 ^ i) := by
    rw [Nat.or_two_pow_eq_add_of_lt hlow]
    have := Nat.div_add_mod w (2 ^ (i + 1))
    omega
  have hlt : (w % 2 ^ (i + 1) ||| 2 ^ i) < 2 ^ (i + 1) := by
    have hpow : 2 ^ (i + 1) = 2 ^ i * 2 := Nat.pow_succ ..
    rw [Nat.or_two_pow_eq_add_of_lt hlow]
    omega
  rw [hsum, Nat.testBit_two_pow_mul_add _ hlt]
  by_cases hj : j < i + 1
  · rw [if_pos hj, Nat.testBit_or, Nat.testBit_two_pow, Nat.testBit_mod_two_pow, decide_eq_true hj, Bool.true_and, Bool.or_comm]
  · have hij : i ≠ j := by omega
    rw [if_neg hj, Nat.testBit_div_two_pow, Nat.sub_add_cancel (by omega), decide_eq_false hij, Bool.false_or]

/-- Subtracting a set bit clears it and no other. -/
theorem bit_sub_two_pow {w i : Nat} (h : bit w i = true) (j : Nat) : bit (w - 2 ^ i) j = (decide (i ≠ j) && bit w j) := by
  have hxor (k : Nat) : bit (w ^^^ 2 ^ i) k = (decide (i ≠ k) && bit w k) := by
    rw [bit_eq_testBit, Nat.testBit_xor, Nat.testBit_two_pow, ← bit_eq_testBit]
    by_cases hk : i = k
    · subst hk
      simp [h]
    · simp [hk]
  have hback : (w ^^^ 2 ^ i) + 2 ^ i = w := by
    refine Nat.eq_of_testBit_eq fun k => ?_
    rw [← bit_eq_testBit, ← bit_eq_testBit, bit_add_two_pow (by simp [hxor]), hxor]
    by_cases hk : i = k
    · subst hk
      simp [h]
    · simp [hk]
  have hw : w - 2 ^ i = w ^^^ 2 ^ i := by omega
  rw [hw, hxor]

/-- Of two words that agree but in one bit, the lowest bits count one apart at most. -/
theorem popcount_le_of_eq_off {v w p : Nat} (h : ∀ j, j ≠ p → bit v j = bit w j) (n : Nat) :
    popcount n w ≤ popcount n v + (if p < n then 1 else 0) := by
  induction n with
  | zero => simp [popcount]
  | succ n ih =>
    simp only [popcount]
    by_cases hn : n = p
    · subst hn
      rw [if_neg (Nat.lt_irrefl n)] at ih
      rw [if_pos (Nat.lt_succ_self n)]
      split <;> split <;> omega
    · have hiff : p < n + 1 ↔ p < n := by omega
      simp only [h n hn, hiff]
      omega

/-! ### Defects -/

theorem State.msix_flash (s : State) (v : Nat) : (s.msix v).flash = s.flash := by
  obtain ⟨_, _, h⟩ := s.msix_raises v
  rw [h]

/-- A signature enters the ring of signatures, and leaves the rest of flash (R359). -/
theorem State.signature_flash (s : State) (i : SigInfo) : ∃ l n, (s.signature i).flash = { s.flash with sigs := l, sigSeq := n } := by
  let all := s.flash.sigs ++ [{ seq := s.flash.sigSeq + 1, bytes := s.sigBytes i (s.flash.sigSeq + 1) }]
  let u : State := { s with
    flash := { s.flash with sigs := all.drop (all.length - 16384), sigSeq := s.flash.sigSeq + 1 }
    start := { s.start with sigSince := true } }
  have hcount (b : Bool) : (if b then u.addOb 0x2404 5 1 else u).flash = u.flash := by cases b <;> rfl
  exact ⟨_, _, (State.msix_flash _ 64).trans (hcount (i.needHash && i.ophash.isNone))⟩

theorem State.signature_defects (s : State) (i : SigInfo) : (s.signature i).flash.defects = s.flash.defects := by
  obtain ⟨_, _, h⟩ := s.signature_flash i
  rw [h]

/-- A list with room takes a defect with the number of this start (R327). -/
theorem State.appendDefect_defects {s : State} (o : Origin) (d : Defect) (hfull : s.flash.full = false)
    (hroom : s.flash.defects.length < 16383) :
    (s.appendDefect o d).flash.defects = s.flash.defects ++ [{ d with start := s.nat 0x2D00 3 }] := by
  rw [appendDefect]
  dsimp only
  rw [if_neg (by simp [hfull]), if_pos hroom]
  exact (State.log_told ..).kept.2.2.2.2.2

/-! ### A regulator phase (R295) -/

section
variable {s : State} {b : Nat}

/-- A phase that leaves the mask is one more lost. -/
theorem phasesLost_of_left {w p : Nat} (h : bit w p = true) : 8 - popcount 8 (w - 2 ^ p) ≤ 8 - popcount 8 w + 1 := by
  have hoff (j : Nat) (hj : j ≠ p) : bit (w - 2 ^ p) j = bit w j := by
    rw [bit_sub_two_pow h, decide_eq_true (Ne.symm hj), Bool.true_and]
  have := popcount_le_of_eq_off hoff 8
  split at this <;> omega

theorem exec_regulatorPhaseLoss_out {p : Nat} (hon : s.on = true) (hb : b < 588) (hp : p < 8)
    (h : bit (s.nat (0x4000 + b) 7) p = false) : exec (.regulatorPhaseLoss b p) s = .next s := by
  refine (s.unit_on _ _ (by simp [hb, hp]) hon _).trans (congrArg Host.Outcome.next ?_)
  exact if_pos (by simp [h])

theorem exec_regulatorPhaseLoss_lost {p : Nat} (hon : s.on = true) (hb : b < 588) (hp : p < 8)
    (h : bit (s.nat (0x4000 + b) 7) p = true) (hlost : s.phasesLost b < 3) (hfull : s.flash.full = false)
    (hroom : s.flash.defects.length < 16383) :
    ∃ t, exec (.regulatorPhaseLoss b p) s = .next t ∧ t.nat (0x4000 + b) 7 = s.nat (0x4000 + b) 7 - 2 ^ p ∧
      t.flash.defects = s.flash.defects ++ [{ kind := 11, source := 0x80, region := b / 14, detail := b % 14 * 256 + p,
                                              start := s.nat 0x2D00 3 }] ∧
      t.map = s.map ∧ t.mem = s.mem ∧ t.row = s.row := by
  let w := s.nat (0x4000 + b) 7
  let u := s.setOb (0x4000 + b) 7 ((w - 2 ^ p : Nat) : Int)
  let v := u.logEvent .module (0x4000 + b) 7 w (w - 2 ^ p)
  let d : Defect := { kind := 11, source := 0x80, region := b / 14, detail := b % 14 * 256 + p }
  let x := v.appendDefect .module d
  let y := x.signature { loc := x.suspectLoc (.block b) ++ [(18, p)], mech := 0x10B, defect := x.newDefect }
  have hv : u.told v := State.log_told ..
  have hvflash : v.flash.defects = s.flash.defects := hv.kept.2.2.2.2.2
  have hvfull : v.flash.full = false := by rw [Flash.full, hvflash]; exact hfull
  have hrec : u.recorded y :=
    ((State.logEvent_recorded ..).trans (v.appendDefect_recorded .module d)).trans (State.signature_recorded _ rfl)
  have hmask : y.nat (0x4000 + b) 7 = w - 2 ^ p := (hrec.nat _ _).trans (State.nat_setOb_same ..)
  have hfew : ¬ 4 ≤ y.phasesLost b := by
    have hone : 8 - popcount 8 (w - 2 ^ p) ≤ s.phasesLost b + 1 := phasesLost_of_left h
    rw [State.phasesLost, hmask]
    omega
  have hstart : v.nat 0x2D00 3 = s.nat 0x2D00 3 :=
    (hv.nat _ _).trans (s.nat_setOb_ne _ (okey_ne_of_sub _ _ (by decide) (by decide) (by decide)))
  have hdefects : y.flash.defects = s.flash.defects ++ [{ d with start := s.nat 0x2D00 3 }] := by
    rw [State.signature_defects, State.appendDefect_defects _ _ hvfull (by rw [hvflash]; exact hroom), hvflash, hstart]
  refine ⟨y, ?_, hmask, hdefects, hrec.map, hrec.mem, hrec.row⟩
  refine (s.unit_on _ _ (by simp [hb, hp]) hon _).trans (congrArg Host.Outcome.next ?_)
  exact (if_neg (by simp [h])).trans (if_neg hfew)

/-! ### A sensor (R315) -/

theorem exec_sensorFailed {k : Nat} (hon : s.on = true) (hb : b < 588) (hk : k < 4) (h : bit (s.blk b).failedSensors k = false)
    (hleft : { s.blk b with failedSensors := (s.blk b).failedSensors ||| 2 ^ k }.sensors ≠ 0) :
    ∃ t, exec (.sensorFailed b k) s = .next t ∧
      s.blockBecame t b { s.blk b with failedSensors := (s.blk b).failedSensors ||| 2 ^ k } ∧ t.ob (0x4000 + b) (9 + k) = 0x7FFF := by
  let c : Blk := { s.blk b with failedSensors := (s.blk b).failedSensors ||| 2 ^ k }
  let u := s.setBlk b c
  let v := u.logEvent .module (0x4000 + b) (9 + k) (u.nat (0x4000 + b) (9 + k)) 0x7FFF
  let t := v.setOb (0x4000 + b) (9 + k) 0x7FFF
  have hbecame : s.blockBecame t b c := ((u.logEvent_logged ..).trans (v.setOb_logged ..)).blockBecame
  have hblk : t.blk b = c := hbecame.1
  refine ⟨t, ?_, hbecame, State.ob_setOb_same ..⟩
  refine (s.unit_on _ _ (by simp [hb, hk]) hon _).trans (congrArg Host.Outcome.next ?_)
  exact (if_neg (by simp [h])).trans (if_neg (by rw [hblk]; exact hleft))

/-! ### The PLL (R263) -/

/-- A failed attempt counts in NOHASH, and in no other entry. -/
theorem State.failRow_nat (s : State) (a : Alarm) {i j : Nat} (h : okey i j ≠ okey 0x2404 5) : (s.failRow a).nat i j = s.nat i j := by
  let r : RowSt := { s.row with phase := .aborted, failed := true, alarm := some a, suspects := allSuspects a }
  let u := ({ s with row := r } : State).abortCells
  let v := u.attemptSignature a (if u.row.attempt < 2 then 1 else 14)
  have hv : v.nat i j = s.nat i j := u.signature_nat _ h
  have hlast : s.failRow a = if a.cause = 0x44 then v else v.earlyFail a.cause v.moduleId := rfl
  obtain ⟨_, _, hm⟩ := v.earlyFail_messaged a.cause v.moduleId
  rw [hlast]
  split
  · exact hv
  · rw [hm]
    exact hv

/-- The loss of a unit that carries logical work, in a run's row, enters nothing of the dictionary but NOHASH. -/
theorem State.loseUnit_nat {u : Lost} (a : Alarm) (hdev : s.dev = .running) (hrow : s.row.phase = .running)
    (hwaste : s.row.waste = false) (hnow : s.map.now = none) (hc : s.map.carries u = true) {i j : Nat}
    (h : okey i j ≠ okey 0x2404 5) : (s.loseUnit u a).nat i j = s.nat i j := by
  obtain ⟨q, hq⟩ := State.queueLoss_carried a.cause hdev hnow hc
  unfold loseUnit
  rw [hq]
  let v : State := { s with map := { s.map with queue := q } }
  have hfail : v.raise a true = v.failRow a := State.raise_running v a true hrow hwaste
  refine iteInduction (motive := fun t : State => t.nat i j = s.nat i j) (fun _ => ?_) (fun _ => rfl)
  exact (congrArg (fun t : State => t.nat i j) hfail).trans (v.failRow_nat a h)

theorem exec_blockPllLoss (hon : s.on = true) (hb : b < 588) (hdev : s.dev = .running) (hrow : s.row.phase = .running)
    (hwaste : s.row.waste = false) (hnow : s.map.now = none) (hk : s.map.known (.block b) = false)
    (hc : s.map.carries (.block b) = true) :
    ∃ t a, exec (.blockPllLoss b) s = .next t ∧ s.attemptFailed t a ∧ a.cause = 0x40 ∧ t.nat (0x4000 + b) 0x16 = 2 ∧
      t.map = { s.map with queue := s.map.queue ++ [(.block b, 0x40)] } := by
  let u := s.setOb (0x4000 + b) 0x16 2
  let cells := (blockCells b).filterMap (fun p => u.map.logicalCell p)
  let at0 := cells.headD (0, 0)
  let a : Alarm := { cause := 0x40, x := at0.1, y := at0.2, suspects := cells.map (fun c => Suspect.cell c.1 c.2) }
  obtain ⟨hfailed, hmap⟩ := State.loseUnit_running (s := u) a hdev hrow hwaste hnow hk hc
  refine ⟨u.loseUnit (.block b) a, a, State.onBlock_on hon hb _, hfailed, rfl, ?_, hmap⟩
  rw [State.loseUnit_nat (s := u) a hdev hrow hwaste hnow hc (okey_ne_of_sub _ _ (by decide) (by decide) (by decide))]
  exact State.nat_setOb_same s _ _ 2

end

/-! ### A reading (R313 to R315) -/

theorem Tab.mem_keys_set {α : Type} (t : Tab α) (k : Nat) (v : α) : k ∈ Tab.keys (Tab.set t k v) := by
  by_contra h
  have := (Tab.get?_eq_none h).symm.trans (Tab.get?_set_same t k v)
  cases this

/-- A running maximum is at least where it started, and at least each value it met. -/
theorem le_foldl_max (f : Nat → Nat) (l : List Nat) (m : Nat) :
    m ≤ l.foldl (fun m i => max m (f i)) m ∧ ∀ i ∈ l, f i ≤ l.foldl (fun m i => max m (f i)) m := by
  induction l generalizing m with
  | nil => simp
  | cons a l ih =>
    obtain ⟨hstart, hall⟩ := ih (max m (f a))
    rw [List.foldl_cons]
    refine ⟨(le_max_left _ _).trans hstart, fun i hi => ?_⟩
    rcases List.mem_cons.mp hi with rfl | hi
    · exact (le_max_right _ _).trans hstart
    · exact hall i hi

/-- No block that is kept is hotter than TJMAX. -/
theorem State.le_tjMax {s : State} {b : Nat} (h : b ∈ Tab.keys s.blks) : s.nat (0x4000 + b) 8 ≤ s.tjMax :=
  (le_foldl_max (fun b => s.nat (0x4000 + b) 8) _ 0).2 b h

section
variable {s : State} {b t0 t1 t2 t3 : Nat}

/-- The state with the readings of four working sensors of a block entered, and the hottest of them. -/
def State.sensorsRead (s : State) (b t0 t1 t2 t3 : Nat) : State :=
  ((((s.setOb (0x4000 + b) 9 t0).setOb (0x4000 + b) 10 t1).setOb (0x4000 + b) 11 t2).setOb (0x4000 + b) 12 t3).setOb (0x4000 + b) 8
    ((max (max t0 t1) (max t2 t3) : Nat) : Int)

/-- The five entries read back. -/
theorem State.sensorsRead_nat (s : State) (b t0 t1 t2 t3 : Nat) :
    let t := s.sensorsRead b t0 t1 t2 t3
    t.nat (0x4000 + b) 9 = t0 ∧ t.nat (0x4000 + b) 10 = t1 ∧ t.nat (0x4000 + b) 11 = t2 ∧ t.nat (0x4000 + b) 12 = t3 ∧
      t.nat (0x4000 + b) 8 = max (max t0 t1) (max t2 t3) := by
  have hne {u : State} {i j : Nat} (v : Int) (hi : i < 256) (hj : j < 256) (h : i ≠ j) :
      (u.setOb (0x4000 + b) j v).nat (0x4000 + b) i = u.nat (0x4000 + b) i := u.nat_setOb_ne v (okey_ne_of_sub _ _ hi hj h)
  refine ⟨?_, ?_, ?_, ?_, State.nat_setOb_same ..⟩
  · exact (hne _ (by decide) (by decide) (by decide)).trans ((hne _ (by decide) (by decide) (by decide)).trans
      ((hne _ (by decide) (by decide) (by decide)).trans ((hne _ (by decide) (by decide) (by decide)).trans (State.nat_setOb_same ..))))
  · exact (hne _ (by decide) (by decide) (by decide)).trans ((hne _ (by decide) (by decide) (by decide)).trans
      ((hne _ (by decide) (by decide) (by decide)).trans (State.nat_setOb_same ..)))
  · exact (hne _ (by decide) (by decide) (by decide)).trans ((hne _ (by decide) (by decide) (by decide)).trans (State.nat_setOb_same ..))
  · exact (hne _ (by decide) (by decide) (by decide)).trans (State.nat_setOb_same ..)

/-- Four working sensors below the trip: their entries, the count of throttle episodes, the block's thermal limit, and TJMAX. -/
theorem exec_junctionSensorRead (hon : s.on = true) (hb : b < 588) (hall : (s.blk b).failedSensors = 0) (h0 : t0 < 1150)
    (h1 : t1 < 1150) (h2 : t2 < 1150) (h3 : t3 < 1150) :
    ∃ u k, (u = (s.sensorsRead b t0 t1 t2 t3).addOb (0x4000 + b) 0x0F 1 ∨ u = s.sensorsRead b t0 t1 t2 t3) ∧
      exec (.junctionSensorRead b t0 t1 t2 t3) s = .next ((u.setBlk b k).setOb 0x2502 1 ((u.setBlk b k).tjMax : Nat)) := by
  let hot := max (max t0 t1) (max t2 t3)
  have hhot : ((List.range 4).filter (fun i => !bit 0 i)).foldl (fun m i => max m ([t0, t1, t2, t3].getD i 0)) 0 = hot := by
    have hok : (List.range 4).filter (fun i => !bit 0 i) = [0, 1, 2, 3] := by decide
    rw [hok]
    show max (max (max (max 0 t0) t1) t2) t3 = max (max t0 t1) (max t2 t3)
    omega
  have hcool : ¬ 1150 ≤ hot := by omega
  let r := s.sensorsRead b t0 t1 t2 t3
  let th := r.nat 0x2502 2 * 10
  let k := s.blk b
  let k' : Blk := { k.thermalRead r.bubbling th hot with tripUs := if 1150 ≤ hot then k.tripUs + 10 else 0 }
  refine ⟨_, k', ite_eq_or_eq (th ≤ hot ∧ !k.hot) _ _, (State.onBlock_on hon hb _).trans (congrArg Host.Outcome.next ?_)⟩
  dsimp only
  rw [hall, hhot]
  exact if_neg fun h => hcool h.1

theorem exec_junctionSensorRead_entries (hon : s.on = true) (hb : b < 588) (hall : (s.blk b).failedSensors = 0) (h0 : t0 < 1150)
    (h1 : t1 < 1150) (h2 : t2 < 1150) (h3 : t3 < 1150) :
    ∃ t, exec (.junctionSensorRead b t0 t1 t2 t3) s = .next t ∧ t.nat (0x4000 + b) 9 = t0 ∧ t.nat (0x4000 + b) 10 = t1 ∧
      t.nat (0x4000 + b) 11 = t2 ∧ t.nat (0x4000 + b) 12 = t3 ∧ t.nat (0x4000 + b) 8 = max (max t0 t1) (max t2 t3) ∧
      t.nat (0x4000 + b) 8 ≤ t.nat 0x2502 1 ∧ t.mem = s.mem ∧ t.row = s.row ∧ t.map = s.map := by
  obtain ⟨u, k, hu, hx⟩ := exec_junctionSensorRead hon hb hall h0 h1 h2 h3
  let v := u.setBlk b k
  let t := v.setOb 0x2502 1 (v.tjMax : Nat)
  have hread {j : Nat} (hj : j < 256) (h15 : j ≠ 0x0F) (hone : j ≠ 1) :
      t.nat (0x4000 + b) j = (s.sensorsRead b t0 t1 t2 t3).nat (0x4000 + b) j := by
    refine (v.nat_setOb_ne _ (okey_ne_of_sub _ _ hj (by decide) hone)).trans ?_
    rcases hu with rfl | rfl
    · exact State.nat_addOb_ne _ 1 (okey_ne_of_sub _ _ hj (by decide) h15)
    · rfl
  have hmax : t.nat (0x4000 + b) 8 ≤ t.nat 0x2502 1 := by
    have hle := State.le_tjMax (s := v) (Tab.mem_keys_set u.blks b k)
    rw [State.nat_setOb_same, v.nat_setOb_ne _ (okey_ne_of_sub _ _ (by decide) (by decide) (by decide))]
    exact hle
  obtain ⟨e9, e10, e11, e12, e8⟩ := s.sensorsRead_nat b t0 t1 t2 t3
  have hwork : u.mem = s.mem ∧ u.row = s.row ∧ u.map = s.map := by
    rcases hu with rfl | rfl <;> exact ⟨rfl, rfl, rfl⟩
  exact ⟨t, hx, (hread (by decide) (by decide) (by decide)).trans e9, (hread (by decide) (by decide) (by decide)).trans e10,
    (hread (by decide) (by decide) (by decide)).trans e11, (hread (by decide) (by decide) (by decide)).trans e12,
    (hread (by decide) (by decide) (by decide)).trans e8, hmax, hwork⟩

end

/-- Settles O41: a phase and a sensor are the block's own, a PLL is the loss of a unit, and a reading is its entries. -/
theorem blockLossesAreRecorded : Obligations.BlockLossesAreRecorded := by
  intro s b hfe hb
  have hon : s.on = true := by simp [State.on, hfe]
  exact ⟨fun p hp h => exec_regulatorPhaseLoss_out hon hb hp h,
    fun p hp h hlost hfull hroom => exec_regulatorPhaseLoss_lost hon hb hp h hlost hfull hroom,
    fun k hk h hleft => exec_sensorFailed hon hb hk h hleft,
    fun hdev hrow hwaste hnow hk hc => exec_blockPllLoss hon hb hdev hrow hwaste hnow hk hc,
    fun t0 t1 t2 t3 hall h0 h1 h2 h3 => exec_junctionSensorRead_entries hon hb hall h0 h1 h2 h3⟩

end Sys2Proof.Machine

/-!
PROOFS. Clocks and device time (R261 to R263, R271 to R281): what choosing a source and electing a master touch, and what each source's
own event makes of time.
-/
namespace Sys2Proof.Machine

/-! ### STATUS (`0x2100:03`) -/

/-- A STATUS bit that is set or cleared is that bit alone. -/
theorem State.bit_timeBit (s : State) (i : Nat) (v : Bool) (j : Nat) :
    bit ((s.timeBit i v).nat 0x2100 3) j = if i = j then v else bit (s.nat 0x2100 3) j := by
  rw [timeBit, State.nat_setOb_same]
  have hstands (w : Nat) (hw : bit w i = v) : bit w j = if i = j then v else bit w j := by
    split
    · next h => rw [← h, hw]
    · rfl
  cases hw : bit (s.nat 0x2100 3) i with
  | false =>
    cases v with
    | false => exact hstands _ hw
    | true =>
      refine (bit_add_two_pow hw j).trans ?_
      by_cases h : i = j <;> simp [h]
  | true =>
    cases v with
    | false =>
      refine (bit_sub_two_pow hw j).trans ?_
      by_cases h : i = j <;> simp [h]
    | true => exact hstands _ hw

theorem State.nat_timeBit_ne (s : State) (i : Nat) (v : Bool) {j : Nat} (hj : j < 256) (h : j ≠ 3) :
    (s.timeBit i v).nat 0x2100 j = s.nat 0x2100 j := s.nat_setOb_ne _ (okey_ne_of_sub _ _ hj (by decide) h)

/-! ### What events of time leave alone -/

/-- Memory, the row, the run, the cells, the device state and the map are as before. -/
def State.workStands (s t : State) : Prop :=
  t.mem = s.mem ∧ t.hostMem = s.hostMem ∧ t.row = s.row ∧ t.run = s.run ∧ t.cells = s.cells ∧ t.dev = s.dev ∧ t.map = s.map

theorem State.workStands.trans {s t u : State} : s.workStands t → t.workStands u → s.workStands u := by
  rintro ⟨m, h, r, n, c, d, p⟩ ⟨m', h', r', n', c', d', p'⟩
  exact ⟨m'.trans m, h'.trans h, r'.trans r, n'.trans n, c'.trans c, d'.trans d, p'.trans p⟩

/-- `t` is `s` with a source or a master chosen: the master that is followed, entries, a free value, messages and the log differ; of the
entries not the inputs' STATUS bits, SOURCE and ROLE. -/
structure State.sourced (s t : State) : Prop where
  frame : ∃ an cf ob fr n l ls p o, t = { s with
    time := { s.time with announce := an, conflict := cf }, obj := ob, free := fr, naela := n
    flash := { s.flash with log := l }, start := { s.start with logSince := ls }
    host := { s.host with pendingVec := p }, out := o }
  inputs : ∀ i < 3, bit (t.nat 0x2100 3) i = bit (s.nat 0x2100 3) i
  source : t.nat 0x2100 1 = s.nat 0x2100 1
  role : t.nat 0x2100 9 = s.nat 0x2100 9

namespace State.sourced

variable {s t u : State}

theorem of_logged (h : s.entriesLogged t) (h1 : t.nat 0x2100 1 = s.nat 0x2100 1) (h3 : t.nat 0x2100 3 = s.nat 0x2100 3)
    (h9 : t.nat 0x2100 9 = s.nat 0x2100 9) : s.sourced t := by
  refine ⟨?_, fun _ _ => by rw [h3], h1, h9⟩
  obtain ⟨ob, l, ls, p, o, rfl⟩ := h
  exact ⟨s.time.announce, s.time.conflict, ob, s.free, s.naela, l, ls, p, o, rfl⟩

theorem refl (s : State) : s.sourced s := of_logged (.refl s) rfl rfl rfl

theorem trans (h : s.sourced t) (h' : t.sourced u) : s.sourced u := by
  refine ⟨?_, fun i hi => (h'.inputs i hi).trans (h.inputs i hi), h'.source.trans h.source, h'.role.trans h.role⟩
  obtain ⟨_, _, _, _, _, _, _, _, _, rfl⟩ := h.frame
  obtain ⟨an, cf, ob, fr, n, l, ls, p, o, rfl⟩ := h'.frame
  exact ⟨an, cf, ob, fr, n, l, ls, p, o, rfl⟩

theorem ite {c : Prop} [Decidable c] (ht : s.sourced t) (hu : s.sourced u) : s.sourced (if c then t else u) :=
  iteInduction (fun _ => ht) (fun _ => hu)

/-- An entry other than SOURCE, STATUS and ROLE. -/
theorem of_setOb (s : State) {j : Nat} (v : Int) (hj : j < 256) (h1 : 1 ≠ j) (h3 : 3 ≠ j) (h9 : 9 ≠ j) :
    s.sourced (s.setOb 0x2100 j v) :=
  of_logged (s.setOb_logged ..) (s.nat_setOb_ne v (okey_ne_of_sub _ _ (by decide) hj h1))
    (s.nat_setOb_ne v (okey_ne_of_sub _ _ (by decide) hj h3)) (s.nat_setOb_ne v (okey_ne_of_sub _ _ (by decide) hj h9))

/-- A STATUS bit other than those of the inputs. -/
theorem of_timeBit (s : State) {i : Nat} (v : Bool) (hi : 3 ≤ i) : s.sourced (s.timeBit i v) := by
  refine ⟨?_, fun j hj => ?_, s.nat_timeBit_ne i v (by decide) (by decide), s.nat_timeBit_ne i v (by decide) (by decide)⟩
  · exact ⟨s.time.announce, s.time.conflict, _, s.free, s.naela, s.flash.log, s.start.logSince, s.host.pendingVec, s.out, rfl⟩
  · rw [s.bit_timeBit, if_neg (by omega)]

theorem of_logEvent (s : State) (o : Origin) (idx sub old app : Nat) : s.sourced (s.logEvent o idx sub old app) :=
  of_logged (s.logEvent_logged ..) ((s.logEvent_recorded ..).nat _ _) ((s.logEvent_recorded ..).nat _ _) ((s.logEvent_recorded ..).nat _ _)

theorem of_messaged (h : s.messaged t) : s.sourced t := by
  obtain ⟨n, o, rfl⟩ := h
  exact ⟨⟨_, _, _, _, n, _, _, _, o, rfl⟩, fun _ _ => rfl, rfl, rfl⟩

/-- Another master, or none; a conflict of masters begins or ends. -/
theorem of_master (s : State) (an : Option (Nat × Nat × Nat × Nat × Nat)) (cf : Bool) :
    s.sourced { s with time := { s.time with announce := an, conflict := cf } } :=
  ⟨⟨an, cf, _, _, _, _, _, _, _, rfl⟩, fun _ _ => rfl, rfl, rfl⟩

theorem of_draw (s : State) : s.sourced s.draw.2 := ⟨⟨_, _, _, _, _, _, _, _, _, rfl⟩, fun _ _ => rfl, rfl, rfl⟩

theorem workStands (h : s.sourced t) : s.workStands t := by
  obtain ⟨_, _, _, _, _, _, _, _, _, rfl⟩ := h.frame
  exact ⟨rfl, rfl, rfl, rfl, rfl, rfl, rfl⟩

theorem reg (h : s.sourced t) (r : Nat) : t.reg r = s.reg r := by obtain ⟨_, _, _, _, _, _, _, _, _, rfl⟩ := h.frame; rfl

/-- The pulses that were counted, and the correction that is pending, stand. -/
theorem pulses (h : s.sourced t) : t.time.ppsCount = s.time.ppsCount ∧ t.time.ppsLast = s.time.ppsLast ∧
    t.time.ppsPending = s.time.ppsPending := by
  obtain ⟨_, _, _, _, _, _, _, _, _, rfl⟩ := h.frame
  exact ⟨rfl, rfl, rfl⟩

/-- The best local source is that of the inputs (R276). -/
theorem localSource (h : s.sourced t) : t.localSource = s.localSource := by
  have href : t.refValid = s.refValid := h.inputs 1 (by decide)
  have hpps : t.ppsValid = s.ppsValid := h.inputs 2 (by decide)
  rw [State.localSource, State.localSource, href, hpps]

end State.sourced

/-! ### Sources and masters (R276, R279 to R281) -/

theorem State.discipline_sourced (s : State) : s.sourced s.discipline := by
  unfold State.discipline
  exact .ite ((State.sourced.of_draw s).trans (.of_setOb _ _ (by decide) (by decide) (by decide) (by decide))) (.refl s)

/-- Disciplining the reference is FREQTRIM alone. -/
theorem State.discipline_nat (s : State) {j : Nat} (hj : j < 256) (h : j ≠ 6) : s.discipline.nat 0x2100 j = s.nat 0x2100 j := by
  unfold State.discipline
  split
  · exact State.nat_setOb_ne s.draw.2 _ (okey_ne_of_sub _ _ hj (by decide) h)
  · rfl

/-- The state with its old source logged away from HOLDOVER or to it, before ACTIVE changes. -/
def State.sourceLogged (s : State) (v : Nat) : State :=
  if v = 4 ∨ s.nat 0x2100 2 = 4 then s.logEvent .module 0x2100 2 (s.nat 0x2100 2) v else s

theorem State.setSource_eq {s : State} {v : Nat} (h : s.nat 0x2100 2 ≠ v) :
    let u := s.sourceLogged v
    s.setSource v = ((u.timeBit 3 (decide (v = 3) && bit (u.nat 0x2100 3) 3)).setOb 0x2100 2 (v : Nat)).discipline := if_neg h

theorem State.setSource_sourced (s : State) (v : Nat) : s.sourced (s.setSource v) := by
  by_cases h : s.nat 0x2100 2 = v
  · rw [setSource, if_pos h]
    exact .refl s
  · rw [State.setSource_eq h]
    have hlog : s.sourced (s.sourceLogged v) := .ite (.of_logEvent ..) (.refl s)
    exact ((hlog.trans (.of_timeBit _ _ (by decide))).trans (.of_setOb _ _ (by decide) (by decide) (by decide) (by decide))).trans
      (State.discipline_sourced _)

theorem State.setSource_active (s : State) (v : Nat) : (s.setSource v).nat 0x2100 2 = v := by
  by_cases h : s.nat 0x2100 2 = v
  · rw [setSource, if_pos h, h]
  · rw [State.setSource_eq h, State.discipline_nat _ (by decide) (by decide), State.nat_setOb_same]

/-- Of the other entries, a source changes STATUS and FREQTRIM. -/
theorem State.setSource_nat (s : State) (v : Nat) {j : Nat} (hj : j < 256) (h2 : j ≠ 2) (h3 : j ≠ 3) (h6 : j ≠ 6) :
    (s.setSource v).nat 0x2100 j = s.nat 0x2100 j := by
  by_cases h : s.nat 0x2100 2 = v
  · rw [setSource, if_pos h]
  · rw [State.setSource_eq h, State.discipline_nat _ hj h6, State.nat_setOb_ne _ _ (okey_ne_of_sub _ _ hj (by decide) h2),
      State.nat_timeBit_ne _ _ _ hj h3]
    unfold State.sourceLogged
    split
    · exact (s.logEvent_recorded ..).nat _ _
    · rfl

theorem State.entriesLogged.time {s t : State} (h : s.entriesLogged t) : t.time = s.time := by obtain ⟨_, _, _, _, _, rfl⟩ := h; rfl

theorem State.setSource_time (s : State) (v : Nat) : (s.setSource v).time = s.time := by
  by_cases h : s.nat 0x2100 2 = v
  · rw [setSource, if_pos h]
  · have hdiscipline (u : State) : u.discipline.time = u.time := by
      unfold State.discipline
      split <;> rfl
    have hlog : (s.sourceLogged v).time = s.time := by
      unfold State.sourceLogged
      split
      · exact (s.logEvent_logged ..).time
      · rfl
    rw [State.setSource_eq h, hdiscipline]
    exact hlog

theorem State.chooseSource_sourced (s : State) : s.sourced s.chooseSource := s.setSource_sourced _

theorem State.announceTime_messaged (s : State) : s.messaged s.announceTime := by
  unfold State.announceTime
  exact .foldl (fun u _ => u.sendControl_messaged ..) _ s

theorem State.setConflict_sourced (s : State) (v : Bool) : s.sourced (s.setConflict v) := by
  unfold State.setConflict
  exact .ite (.refl s) (((State.sourced.of_master s s.time.announce v).trans (.of_timeBit _ _ (by decide))).trans (.of_logEvent ..))

/-- A conflict of masters shows in STATUS alone. -/
theorem State.setConflict_nat (s : State) (v : Bool) {j : Nat} (hj : j < 256) (h : j ≠ 3) :
    (s.setConflict v).nat 0x2100 j = s.nat 0x2100 j := by
  unfold State.setConflict
  split
  · rfl
  · exact ((State.logEvent_recorded ..).nat _ _).trans (State.nat_timeBit_ne _ _ _ hj h)

/-- The state of a module that takes the master's part, with its own source still to choose. -/
def State.ownMaster (s : State) : State :=
  (({ s with time := { s.time with announce := none } } : State).setOb 0x2100 0x0B (ownHash : Nat)).setOb 0x2100 0x0C 0

theorem State.ownMaster_sourced (s : State) : s.sourced s.ownMaster :=
  ((State.sourced.of_master s none s.time.conflict).trans (.of_setOb _ _ (by decide) (by decide) (by decide) (by decide))).trans
    (.of_setOb _ _ (by decide) (by decide) (by decide) (by decide))

theorem State.becomeMaster_eq (s : State) : s.becomeMaster =
    (s.ownMaster.setSource (if s.ownMaster.nat 0x2100 1 = 0 then s.ownMaster.localSource else s.ownMaster.pickSource)).announceTime := rfl

theorem State.becomeMaster_sourced (s : State) : s.sourced s.becomeMaster := by
  rw [State.becomeMaster_eq]
  exact (s.ownMaster_sourced.trans (State.setSource_sourced ..)).trans (.of_messaged (State.announceTime_messaged _))

/-- A master names itself, and with SOURCE AUTO takes its best local source (R276). -/
theorem State.becomeMaster_master (s : State) :
    let t := s.becomeMaster
    t.time.announce = none ∧ t.nat 0x2100 0x0B = ownHash ∧ t.nat 0x2100 0x0C = 0 ∧
      (s.nat 0x2100 1 = 0 → t.nat 0x2100 2 = s.localSource) := by
  let v := if s.ownMaster.nat 0x2100 1 = 0 then s.ownMaster.localSource else s.ownMaster.pickSource
  obtain ⟨n, o, hm⟩ := (s.ownMaster.setSource v).announceTime_messaged
  have ht : s.becomeMaster = { s.ownMaster.setSource v with naela := n, out := o } := hm
  have hnat (j : Nat) : s.becomeMaster.nat 0x2100 j = (s.ownMaster.setSource v).nat 0x2100 j := by rw [ht]; rfl
  have htime : s.becomeMaster.time = s.ownMaster.time := by
    rw [ht]
    exact s.ownMaster.setSource_time v
  refine ⟨congrArg TimeSt.announce htime, ?_, ?_, fun h => ?_⟩
  · rw [hnat, State.setSource_nat _ _ (by decide) (by decide) (by decide) (by decide)]
    exact (State.nat_setOb_ne _ 0 (by decide)).trans (State.nat_setOb_same _ _ _ ownHash)
  · rw [hnat, State.setSource_nat _ _ (by decide) (by decide) (by decide) (by decide)]
    exact State.nat_setOb_same _ _ _ 0
  · rw [hnat, State.setSource_active]
    exact (if_pos (s.ownMaster_sourced.source.trans h)).trans s.ownMaster_sourced.localSource

/-- Electing a master chooses among sources and masters (R276). -/
theorem State.elect_sourced (s : State) : s.sourced s.elect := by
  have hu : s.sourced (if s.nat 0x2100 9 = 1 then s else s.setConflict false) := .ite (.refl s) (s.setConflict_sourced _)
  unfold State.elect
  generalize (if s.nat 0x2100 9 = 1 then s else s.setConflict false) = u at hu ⊢
  refine hu.trans ?_
  dsimp only
  split
  · exact .ite u.becomeMaster_sourced u.chooseSource_sourced
  · refine .ite u.chooseSource_sourced (.ite ?_ ?_)
    · exact (State.sourced.of_setOb u 0 (by decide) (by decide) (by decide) (by decide)).trans (State.chooseSource_sourced _)
    · exact u.chooseSource_sourced.trans (.of_messaged (State.announceTime_messaged _))

/-! ### The reference (R261, R263) -/

theorem State.entriesLogged.workStands {s t : State} (h : s.entriesLogged t) : s.workStands t := by
  obtain ⟨_, _, _, _, _, rfl⟩ := h
  exact ⟨rfl, rfl, rfl, rfl, rfl, rfl, rfl⟩

theorem State.entriesLogged.reg {s t : State} (h : s.entriesLogged t) (r : Nat) : t.reg r = s.reg r := by
  obtain ⟨_, _, _, _, _, rfl⟩ := h
  rfl

/-- A latched fault enters the SUBSTATE, SAFECAUSE and a PPSSET that is dropped, and nothing else of the dictionary. -/
theorem State.latchSafe_nat (s : State) (cause : Option Nat) {i j : Nat} (hsub : okey i j ≠ okey 0x2200 2)
    (hpps : okey i j ≠ okey 0x2100 7) (hcause : okey i j ≠ okey 0x2200 3) : (s.latchSafe cause).nat i j = s.nat i j := by
  by_cases hdev : s.dev = .safe ∨ s.dev = .off
  · have hstands : s.latchSafe cause = s := if_pos hdev
    rw [hstands]
  · let d : Nat × State := match cause with
      | some c => (c, s)
      | none => s.draw
    have hd : d.2.nat i j = s.nat i j := by cases cause <;> rfl
    let u := ((d.2.enter .safe).setSubstate 0).setOb 0x2200 3 (d.1 % 65536 : Nat)
    have hmoved : d.2.stateMoved ((d.2.enter .safe).setSubstate 0) := (d.2.enter_moved .safe).1.trans ((d.2.enter .safe).setSubstate_moved 0).1
    have hu : u.nat i j = s.nat i j := (State.nat_setOb_ne _ _ hcause).trans ((hmoved.nat hsub hpps).trans hd)
    let v : State := { u.groupsOff with
      row := { u.row with phase := .idle }
      flash := { u.flash with owed := u.flash.owed ++ u.map.queue.map (fun q : Lost × Nat => lostDefect q.2 q.1) }
      map := { u.map with queue := [], redo := [], now := none } }
    let w := (v.signature { mech := d.1 % 65536, action := 15 }).msix 65
    have hlast : s.latchSafe cause = w.abortAll.releaseEnding := if_neg hdev
    have hw : w.obj = v.obj := ((v.signature_recorded rfl).trans (State.msix_recorded ..)).obj
    have hall : w.abortAll.obj = w.obj :=
      ((w.endRun_stopWork stAborted 0 [] false).trans (State.abortFetched_stopWork _ fun _ => true)).obj
    have hreleased : w.abortAll.releaseEnding.obj = w.abortAll.obj := (State.releaseEnding_delivered _).obj
    rw [hlast, State.nat_of_obj_eq (hreleased.trans (hall.trans hw))]
    exact hu

section
variable {s : State}

theorem exec_referenceLoss (hon : s.on = true) (hsafe : s.dev ≠ .safe) (hoff : s.dev ≠ .off) :
    ∃ t, exec .referenceLoss s = .next t ∧ t.latchedSafe ∧ bit (t.nat 0x2100 3) 0 = false := by
  let u := s.timeBit 0 false
  have hx : exec .referenceLoss s = .next (u.latchSafe none) := State.whenOn_on hon (fun s => (s.timeBit 0 false).latchSafe none)
  refine ⟨u.latchSafe none, hx, State.latchSafe_latchedSafe (s := u) none hsafe hoff, ?_⟩
  rw [State.latchSafe_nat _ _ (by decide) (by decide) (by decide), s.bit_timeBit, if_pos rfl]

theorem exec_referenceInputSwitch {r i : Nat} (hon : s.on = true) (hr : r < 42) (hi : i < 5) : exec (.referenceInputSwitch r i) s =
    .next (if s.refIn r ≠ i ∧ refBest r (s.refLostBy r i) = some i then
      ((s.setReg r { s.reg r with refLost := s.refLostBy r i }).logEvent .module (0x3000 + r) 3 (s.refIn r) i).setOb (0x3000 + r) 3 (i : Nat)
    else s) :=
  s.unit_on _ _ (by simp [hr, hi]) hon _

theorem exec_referenceInputSwitch_taken {r i : Nat} (hon : s.on = true) (hr : r < 42) (hi : i < 5) (hold : s.refIn r ≠ i)
    (hbest : refBest r (s.refLostBy r i) = some i) : ∃ t, exec (.referenceInputSwitch r i) s = .next t ∧ s.workStands t ∧
      t.refIn r = i ∧ (t.reg r).refLost = s.refLostBy r i := by
  let u := s.setReg r { s.reg r with refLost := s.refLostBy r i }
  let v := u.logEvent .module (0x3000 + r) 3 (s.refIn r) i
  have hlog : u.entriesLogged (v.setOb (0x3000 + r) 3 (i : Nat)) := (u.logEvent_logged ..).trans (v.setOb_logged ..)
  refine ⟨v.setOb (0x3000 + r) 3 (i : Nat), ?_, hlog.workStands, ?_, ?_⟩
  · rw [exec_referenceInputSwitch hon hr hi, if_pos ⟨hold, hbest⟩]
  · simp [State.refIn, State.setOb]
  · rw [hlog.reg, State.reg_setReg_same]

theorem exec_referenceInputSwitch_kept {r i : Nat} (hon : s.on = true) (hr : r < 42) (hi : i < 5)
    (h : s.refIn r = i ∨ refBest r (s.refLostBy r i) ≠ some i) : exec (.referenceInputSwitch r i) s = .next s := by
  rw [exec_referenceInputSwitch hon hr hi, if_neg fun ⟨hold, hbest⟩ => h.elim hold (· hbest)]

/-! ### Beacons (R272) -/

theorem clampI_eq {lo hi : Int} (h : lo ≤ hi) (v : Int) : clampI lo hi v = max lo (min hi v) := by
  unfold clampI
  omega

/-- The state that a beacon leaves before a time setting that waits takes effect. -/
def State.beaconed (s : State) (r : Nat) (e : Int) : State :=
  let s' := if (s.reg r).beyond e then s.timeBit 6 true else s
  let u := (s'.setReg r ((s.reg r).beacon e)).setOb (0x3000 + r) 5 (clampI (-2147483648) 2147483647 e)
  u.noteSkew.timeBit 4 (u.regs.any (fun e => decide (0 < e.2.fast)))

theorem State.noteSkew_frame (s : State) (r : Nat) : s.workStands s.noteSkew ∧ s.noteSkew.reg r = s.reg r :=
  ⟨⟨rfl, rfl, rfl, rfl, rfl, rfl, rfl⟩, rfl⟩

theorem State.timeBit_frame (s : State) (i : Nat) (v : Bool) (r : Nat) : s.workStands (s.timeBit i v) ∧ (s.timeBit i v).reg r = s.reg r :=
  ⟨⟨rfl, rfl, rfl, rfl, rfl, rfl, rfl⟩, rfl⟩

theorem State.beaconed_frame (s : State) (r : Nat) (e : Int) :
    s.workStands (s.beaconed r e) ∧ (s.beaconed r e).reg r = (s.reg r).beacon e := by
  let s' := if (s.reg r).beyond e then s.timeBit 6 true else s
  have hs' : s.workStands s' :=
    iteInduction (fun _ => (s.timeBit_frame 6 true r).1) (fun _ => (State.entriesLogged.refl s).workStands)
  let v := s'.setReg r ((s.reg r).beacon e)
  let u := v.setOb (0x3000 + r) 5 (clampI (-2147483648) 2147483647 e)
  have hv : s'.workStands v := ⟨rfl, rfl, rfl, rfl, rfl, rfl, rfl⟩
  have hu : v.entriesLogged u := v.setOb_logged ..
  obtain ⟨hskew, hskewReg⟩ := u.noteSkew_frame r
  obtain ⟨hbit, hbitReg⟩ := u.noteSkew.timeBit_frame 4 (u.regs.any (fun e => decide (0 < e.2.fast))) r
  exact ⟨(((hs'.trans hv).trans hu.workStands).trans hskew).trans hbit,
    ((hbitReg.trans hskewReg).trans (hu.reg r)).trans (s'.reg_setReg_same r _)⟩

/-- A time setting that waits takes effect, and a source that has come back ends a holdover (R281). -/
def State.timeSettled (s : State) : State :=
  if s.time.srcDue then ({ s with time := { s.time with srcDue := false } } : State).elect
  else if s.nat 0x2100 2 = 4 then s.chooseSource else s

theorem State.timeSettled_frame (s : State) (r : Nat) : s.workStands s.timeSettled ∧ s.timeSettled.reg r = s.reg r := by
  let v : State := { s with time := { s.time with srcDue := false } }
  have hv : s.workStands v ∧ v.reg r = s.reg r := ⟨⟨rfl, rfl, rfl, rfl, rfl, rfl, rfl⟩, rfl⟩
  unfold State.timeSettled
  refine iteInduction (motive := fun t => s.workStands t ∧ t.reg r = s.reg r) (fun _ => ?_) fun _ => ?_
  · exact ⟨hv.1.trans v.elect_sourced.workStands, (v.elect_sourced.reg r).trans hv.2⟩
  · have h : s.sourced (if s.nat 0x2100 2 = 4 then s.chooseSource else s) := .ite s.chooseSource_sourced (.refl s)
    exact ⟨h.workStands, h.reg r⟩

theorem exec_timeBeacon {r : Nat} (e : Int) (hon : s.on = true) (hr : r < 42) :
    ∃ t, exec (.timeBeacon r e) s = .next t ∧ s.workStands t ∧ t.reg r = (s.reg r).beacon e := by
  have hx : exec (.timeBeacon r e) s = .next (s.beaconed r e).timeSettled := s.unit_on _ _ (decide_eq_true hr) hon _
  obtain ⟨hwork, hreg⟩ := s.beaconed_frame r e
  obtain ⟨hwork', hreg'⟩ := (s.beaconed r e).timeSettled_frame r
  exact ⟨_, hx, hwork.trans hwork', hreg'.trans hreg⟩

/-- In its fast period a counter slews by 16 ns at most. -/
theorem Reg.beacon_fast {k : Reg} (e : Int) (h : 0 < k.fast) :
    (k.beacon e).slew = -((max (-16000) (min 16000 e)) * 65536 / 1000) ∧ (k.beacon e).alarm = k.alarm := by
  have hfast : (k.fast == 0) = false := by simp; omega
  refine ⟨?_, by simp [beacon, beyond, hfast]⟩
  rw [← clampI_eq (by decide)]
  simp only [beacon, if_pos h]
  rfl

/-- After it, by 1 ns, and an error above 64 ns raises the alarm. -/
theorem Reg.beacon_slow {k : Reg} (e : Int) (h : k.fast = 0) :
    (k.beacon e).slew = -((max (-1000) (min 1000 e)) * 65536 / 1000) ∧ ((64000 < e ∨ e < -64000) → (k.beacon e).alarm = true) := by
  refine ⟨?_, fun he => by simp [beacon, beyond, h, he]⟩
  rw [← clampI_eq (by decide)]
  simp only [beacon, h, Nat.lt_irrefl, if_false]
  rfl

/-! ### The inputs (R275, R279) -/

/-- How many pulses in a row this edge makes, 3 at most. -/
def State.pulseNo (s : State) : Nat :=
  let near := match s.time.ppsLast with
    | some t => decide (999999000 ≤ s.clock - t) && decide (s.clock - t ≤ 1000001000)
    | none => false
  if near then min 3 (s.time.ppsCount + 1) else 1

theorem State.pulseNo_first {s : State} (h : s.time.ppsLast = none) : s.pulseNo = 1 := by simp [pulseNo, h]

theorem State.pulseNo_third {s : State} {l : Nat} (h : s.time.ppsLast = some l) (hlo : 999999000 ≤ s.clock - l)
    (hhi : s.clock - l ≤ 1000001000) (htwo : s.time.ppsCount = 2) : s.pulseNo = 3 := by
  simp [pulseNo, h, hlo, hhi, htwo]

/-- The state after the `n`th pulse in a row, before the pulse sets or slews device time. -/
def State.pulsed (s : State) (n : Nat) : State :=
  (({ s with time := { s.time with ppsCount := n, ppsLast := some s.clock } } : State).timeBit 2 (decide (n = 3))).elect

theorem State.pulsed_frame (s : State) (n : Nat) :
    s.workStands (s.pulsed n) ∧ (s.pulsed n).time.ppsCount = n ∧ (s.pulsed n).time.ppsLast = some s.clock ∧
      (s.pulsed n).time.ppsPending = s.time.ppsPending ∧ bit ((s.pulsed n).nat 0x2100 3) 2 = decide (n = 3) := by
  let u : State := { s with time := { s.time with ppsCount := n, ppsLast := some s.clock } }
  have h := (u.timeBit 2 (decide (n = 3))).elect_sourced
  obtain ⟨hcount, hlast, hpending⟩ := h.pulses
  have hu : s.workStands (u.timeBit 2 (decide (n = 3))) := ⟨rfl, rfl, rfl, rfl, rfl, rfl, rfl⟩
  exact ⟨hu.trans h.workStands, hcount, hlast, hpending, (h.inputs 2 (by decide)).trans ((u.bit_timeBit ..).trans (if_pos rfl))⟩

/-- A pulse with no PPSSET that waits slews device time and enters its offset. -/
theorem State.applyPulse_slews {s : State} (h : s.time.ppsPending = false) :
    ∃ e v, s.applyPulse = ({ s with time := { s.time with slew := v } } : State).setOb 0x2100 5 e := by
  unfold applyPulse
  rw [h]
  exact ⟨_, _, rfl⟩

/-- A pulse makes the input valid or not; a valid one of a source in use sets or slews device time. -/
theorem exec_ppsEdge (hon : s.on = true) : exec .ppsEdge s =
    .next (if s.pulseNo = 3 ∧ ((s.pulsed s.pulseNo).nat 0x2100 1 = 2 ∨ (s.pulsed s.pulseNo).nat 0x2100 2 = 2) then
      (s.pulsed s.pulseNo).applyPulse else s.pulsed s.pulseNo) := by
  show execPpsEdge s = _
  rw [execPpsEdge, State.whenOn_on hon]
  rfl

theorem exec_ppsEdge_first (hon : s.on = true) (h : s.time.ppsLast = none) :
    ∃ t, exec .ppsEdge s = .next t ∧ s.workStands t ∧ t.time.ppsCount = 1 ∧ t.time.ppsLast = some s.clock ∧
      bit (t.nat 0x2100 3) 2 = false := by
  have hx : exec .ppsEdge s = .next (s.pulsed 1) := by
    rw [exec_ppsEdge hon, State.pulseNo_first h, if_neg fun h => absurd h.1 (by decide)]
  obtain ⟨hwork, hcount, hlast, -, hbit⟩ := s.pulsed_frame 1
  exact ⟨_, hx, hwork, hcount, hlast, hbit⟩

theorem exec_ppsEdge_third {l : Nat} (hon : s.on = true) (h : s.time.ppsLast = some l) (hlo : 999999000 ≤ s.clock - l)
    (hhi : s.clock - l ≤ 1000001000) (htwo : s.time.ppsCount = 2) (hno : s.time.ppsPending = false) :
    ∃ t, exec .ppsEdge s = .next t ∧ s.workStands t ∧ t.time.ppsCount = 3 ∧ bit (t.nat 0x2100 3) 2 = true := by
  let u := s.pulsed 3
  have hx : exec .ppsEdge s = .next (if 3 = 3 ∧ (u.nat 0x2100 1 = 2 ∨ u.nat 0x2100 2 = 2) then u.applyPulse else u) := by
    rw [exec_ppsEdge hon, State.pulseNo_third h hlo hhi htwo]
  obtain ⟨hwork, hcount, -, hpending, hbit⟩ := s.pulsed_frame 3
  obtain ⟨e, v, hslew⟩ := State.applyPulse_slews (s := u) (hpending.trans hno)
  refine ⟨_, hx, iteInduction (motive := fun t : State => s.workStands t ∧ t.time.ppsCount = 3 ∧ bit (t.nat 0x2100 3) 2 = true)
    (fun _ => ?_) fun _ => ⟨hwork, hcount, hbit⟩⟩
  rw [hslew]
  refine ⟨hwork.trans ⟨rfl, rfl, rfl, rfl, rfl, rfl, rfl⟩, hcount, ?_⟩
  rw [State.nat_setOb_ne _ _ (by decide)]
  exact hbit

theorem exec_ref10mValid (hon : s.on = true) : ∃ t, exec .ref10mValid s = .next t ∧ s.workStands t ∧ bit (t.nat 0x2100 3) 1 = true ∧
    bit (t.nat 0x2100 3) 0 = bit (s.nat 0x2100 3) 0 := by
  let u := s.timeBit 1 true
  have h : u.sourced u.elect.discipline := u.elect_sourced.trans (State.discipline_sourced _)
  have hu : s.workStands u := ⟨rfl, rfl, rfl, rfl, rfl, rfl, rfl⟩
  have hx : exec .ref10mValid s = .next u.elect.discipline := State.whenOn_on hon (fun s => ((s.timeBit 1 true).elect).discipline)
  refine ⟨_, hx, hu.trans h.workStands, (h.inputs 1 (by decide)).trans ?_, (h.inputs 0 (by decide)).trans ?_⟩
  · rw [s.bit_timeBit, if_pos rfl]
  · rw [s.bit_timeBit, if_neg (by decide)]

/-! ### Sources lost (R280, R281) -/

theorem exec_timeSourceInvalid_held (hon : s.on = true) (h : s.nat 0x2100 2 = 2 ∨ s.nat 0x2100 2 = 3) :
    ∃ t, exec .timeSourceInvalid s = .next t ∧ s.workStands t ∧ t.nat 0x2100 2 = 4 := by
  rcases h with h | h
  · let u := (s.timeBit 1 false).timeBit 2 false
    let v := u.setSource 4
    have hu : s.workStands u := ⟨rfl, rfl, rfl, rfl, rfl, rfl, rfl⟩
    have hx : exec .timeSourceInvalid s = .next { v with time := { v.time with ppsCount := 0, ppsLast := none } } := by
      show execTimeSourceInvalid s = _
      rw [execTimeSourceInvalid, State.whenOn_on hon, h]
      rfl
    exact ⟨_, hx, hu.trans (u.setSource_sourced 4).workStands, u.setSource_active 4⟩
  · let u := s.timeBit 3 false
    let v := u.setSource 4
    have hu : s.workStands u := ⟨rfl, rfl, rfl, rfl, rfl, rfl, rfl⟩
    have hx : exec .timeSourceInvalid s = .next { v with time := { v.time with lockCount := 0, announce := none } } := by
      show execTimeSourceInvalid s = _
      rw [execTimeSourceInvalid, State.whenOn_on hon, h]
      rfl
    exact ⟨_, hx, hu.trans (u.setSource_sourced 4).workStands, u.setSource_active 4⟩

theorem exec_timeSourceInvalid_kept (hon : s.on = true) (h2 : s.nat 0x2100 2 ≠ 2) (h3 : s.nat 0x2100 2 ≠ 3) :
    exec .timeSourceInvalid s = .next s := by
  show execTimeSourceInvalid s = _
  rw [execTimeSourceInvalid, State.whenOn_on hon]
  refine congrArg Host.Outcome.next ?_
  split
  · next h => exact absurd h h2
  · next h => exact absurd h h3
  · rfl

/-! ### Masters and slaves (R276, R277) -/

/-- An exchange slews by 2 ns at most. -/
theorem State.exchange_frame (s : State) (o : Int) : s.workStands (s.exchange o) ∧
    (s.exchange o).time.slew = max (-131072) (min 131072 o) ∧ (s.exchange o).time.lastOffset = o :=
  ⟨⟨rfl, rfl, rfl, rfl, rfl, rfl, rfl⟩, clampI_eq (by decide) o, rfl⟩

theorem exec_timeExchange {p t1 t2 t3 t4 : Nat} (hon : s.on = true) (hp : p < s.portCount) (hact : s.nat 0x2100 2 = 3)
    (hparent : s.timeParent = some p) :
    let o : Int := (((t2 : Int) - t1) - ((t4 : Int) - t3)) * 65536 / 2
    ∃ t, exec (.timeExchange p t1 t2 t3 t4) s = .next t ∧ s.workStands t ∧ t.time.slew = max (-131072) (min 131072 o) ∧
      t.time.lastOffset = o := by
  intro o
  let u := s.sendControl 0x12 (s.portPeer p)
    (timeBytes 0 s.ownQuality (s.nat 0x2100 0x0A) (s.nat 0x2100 0x0C) (s.nat 0x2100 0x0B) (t1 * 65536) 0 0)
  have hu : s.workStands u := (State.sourced.of_messaged (s.sendControl_messaged ..)).workStands
  have hx : exec (.timeExchange p t1 t2 t3 t4) s = .next (u.exchange o) :=
    (s.unit_on _ _ (decide_eq_true hp) hon _).trans (congrArg Host.Outcome.next (if_pos ⟨hact, hparent⟩))
  obtain ⟨hwork, hslew, hlast⟩ := u.exchange_frame o
  exact ⟨_, hx, hu.trans hwork, hslew, hlast⟩

theorem exec_timeExchange_kept {p t1 t2 t3 t4 : Nat} (hon : s.on = true) (hp : p < s.portCount)
    (h : s.nat 0x2100 2 ≠ 3 ∨ s.timeParent ≠ some p) : exec (.timeExchange p t1 t2 t3 t4) s = .next s :=
  (s.unit_on _ _ (decide_eq_true hp) hon _).trans
    (congrArg Host.Outcome.next (if_neg fun ⟨hact, hparent⟩ => h.elim (· hact) (· hparent)))

theorem exec_timeMasterLoss_kept (hon : s.on = true) (h : s.time.announce = none) : exec .timeMasterLoss s = .next s := by
  show execTimeMasterLoss s = _
  rw [execTimeMasterLoss, State.whenOn_on hon, if_pos (by rw [h]; rfl)]

/-- The state of a slave that has lost its master, held over, before it may take the part itself. -/
def State.masterLost (s : State) : State :=
  let u := ({ s with time := { s.time with announce := none, lockCount := 0 } } : State).setConflict false
  if u.nat 0x2100 2 = 3 then (u.timeBit 3 false).setSource 4 else u

theorem State.setConflict_announce (s : State) (v : Bool) : (s.setConflict v).time.announce = s.time.announce := by
  unfold State.setConflict
  split
  · rfl
  · rw [(State.logEvent_logged ..).time]
    rfl

theorem State.masterLost_frame (s : State) :
    let t := s.masterLost
    s.workStands t ∧ t.time.announce = none ∧ t.nat 0x2100 2 = (if s.nat 0x2100 2 = 3 then 4 else s.nat 0x2100 2) ∧
      t.nat 0x2100 1 = s.nat 0x2100 1 ∧ t.nat 0x2100 9 = s.nat 0x2100 9 ∧ t.localSource = s.localSource := by
  let w : State := { s with time := { s.time with announce := none, lockCount := 0 } }
  let u := w.setConflict false
  have hw : s.workStands w := ⟨rfl, rfl, rfl, rfl, rfl, rfl, rfl⟩
  have hu : w.sourced u := w.setConflict_sourced false
  have hact : u.nat 0x2100 2 = s.nat 0x2100 2 := w.setConflict_nat false (by decide) (by decide)
  have hnone : u.time.announce = none := w.setConflict_announce false
  obtain ⟨hv, hvNone, hvAct⟩ : w.sourced s.masterLost ∧ s.masterLost.time.announce = none ∧
      s.masterLost.nat 0x2100 2 = (if s.nat 0x2100 2 = 3 then 4 else s.nat 0x2100 2) := by
    by_cases h : s.nat 0x2100 2 = 3
    · let x := u.timeBit 3 false
      have hx : s.masterLost = x.setSource 4 := if_pos (hact.trans h)
      rw [hx, if_pos h]
      exact ⟨(hu.trans (.of_timeBit u false (by decide))).trans (x.setSource_sourced 4),
        (congrArg TimeSt.announce (x.setSource_time 4)).trans hnone, x.setSource_active 4⟩
    · have hx : s.masterLost = u := if_neg (hact.trans_ne h)
      rw [hx, if_neg h]
      exact ⟨hu, hnone, hact⟩
  exact ⟨hw.trans hv.workStands, hvNone, hvAct, hv.source, hv.role, hv.localSource⟩

theorem exec_timeMasterLoss (hon : s.on = true) (h : s.time.announce ≠ none) :
    ∃ t, exec .timeMasterLoss s = .next t ∧ s.workStands t ∧ t.time.announce = none ∧
      (s.nat 0x2100 9 = 2 → t.nat 0x2100 2 = (if s.nat 0x2100 2 = 3 then 4 else s.nat 0x2100 2)) ∧
      (s.nat 0x2100 9 ≠ 2 → t.nat 0x2100 0x0B = ownHash ∧ t.nat 0x2100 0x0C = 0 ∧
        (s.nat 0x2100 1 = 0 → t.nat 0x2100 2 = s.localSource)) := by
  let u := s.masterLost
  obtain ⟨hwork, hnone, hact, hsource, hrole, hlocal⟩ := s.masterLost_frame
  have hx : exec .timeMasterLoss s = .next (if u.nat 0x2100 9 = 2 then u else u.becomeMaster) := by
    show execTimeMasterLoss s = _
    rw [execTimeMasterLoss, State.whenOn_on hon, if_neg (by simpa using h)]
    rfl
  refine ⟨_, hx, ?_⟩
  by_cases hslave : s.nat 0x2100 9 = 2
  · rw [if_pos (hrole.trans hslave)]
    exact ⟨hwork, hnone, fun _ => hact, fun hne => absurd hslave hne⟩
  · rw [if_neg (hrole.trans_ne hslave)]
    obtain ⟨hann, hmaster, hhops, hauto⟩ := u.becomeMaster_master
    exact ⟨hwork.trans u.becomeMaster_sourced.workStands, hann, fun he => absurd he hslave,
      fun _ => ⟨hmaster, hhops, fun h0 => (hauto (hsource.trans h0)).trans hlocal⟩⟩

end

/-- Settles O44: each event by what it makes of its source, its region or its master. -/
theorem timeFollowsItsSources : Obligations.TimeFollowsItsSources := by
  intro s hfe still
  have hon : s.on = true := by simp [State.on, hfe]
  refine ⟨fun hsafe hoff => exec_referenceLoss hon hsafe hoff,
    fun r hr i hi hold hbest => exec_referenceInputSwitch_taken hon hr hi hold hbest,
    fun r hr i hi h => exec_referenceInputSwitch_kept hon hr hi h, fun r hr e => ?beacon, fun h => exec_ppsEdge_first hon h,
    fun l h hlo hhi htwo hno => exec_ppsEdge_third hon h hlo hhi htwo hno, exec_ref10mValid hon,
    fun h => exec_timeSourceInvalid_held hon h, fun h2 h3 => exec_timeSourceInvalid_kept hon h2 h3,
    fun p hp t1 t2 t3 t4 => ⟨fun hact hparent => exec_timeExchange hon hp hact hparent, fun h => exec_timeExchange_kept hon hp h⟩,
    fun h => exec_timeMasterLoss_kept hon h, fun h => exec_timeMasterLoss hon h⟩
  case beacon =>
    obtain ⟨t, hx, hwork, hreg⟩ := exec_timeBeacon (s := s) e hon hr
    refine ⟨t, hx, hwork, ?_⟩
    rw [hreg]
    exact ⟨rfl, rfl, rfl, fun h => Reg.beacon_fast e h, fun h => Reg.beacon_slow e h⟩

end Sys2Proof.Machine

/-!
PROOFS. Signed records and entries with a command of their own (R275, R327, R363, R409, R436, R449, R458, R459, R476): a write that meets
no rule but its entry's own comes to the entry, and what the entry does with it is told of in the log and in the answer.
-/
namespace Sys2Proof.Machine

/-! ### A write that comes to its entry (R428) -/

/-- An origin that is answered finds the module on. -/
theorem State.mayTry.on {s : State} {o : Origin} {idx sub : Nat} (h : s.mayTry o idx sub) : s.on = true := by
  have hans : s.answersAt o idx sub = true := h.1
  simp only [State.answersAt, State.answers, Bool.and_eq_true] at hans
  exact hans.1.1.2

theorem State.mayTry.keyOff {s : State} {w : Write} (h : s.mayTry w.o w.idx w.sub) : s.keyOff w = false := by
  obtain ⟨-, -, -, -, hkeys⟩ := h
  rcases hkeys with ho | ho | ⟨ho, hk⟩ | ⟨ho, hk⟩
  · simp [State.keyOff, ho]
  · simp [State.keyOff, ho]
  · simp [State.keyOff, ho, hk]
  · simp [State.keyOff, ho, hk]

section
variable {s : State} {w : Write} {e : ObjSpec}

/-- A write that its origin may make is judged by the state, and then by the entry. -/
theorem State.write_tried (hfind : Objects.find w.idx w.sub = some e) (hacc : e.acc ≠ .ro) (hcmd : w.idx ≠ 0x2201) (hoff : w.off = 0)
    (h : s.mayTry w.o w.idx w.sub) (hmay : s.mayWrite w.o w.idx w.sub = true) :
    s.write w = if s.writeState w.idx w.sub = true then s.writeEntry w e else s.refuseWrite w abState := by
  have hkey := h.keyOff
  obtain ⟨hans, hlog, hrec, habs, -⟩ := h
  rw [State.write, if_neg (by simp [hans]), if_neg (by omega), hfind]
  dsimp only
  rw [State.writeAt, if_neg (by simp [hkey]), if_neg (by simp [State.recoveryRefuses, hrec]), if_neg (by simp [habs]), if_neg hacc,
    if_neg (by simp [hmay]), if_neg hcmd]
  cases hstate : s.writeState w.idx w.sub with
  | false => rfl
  | true => simp [hoff]

/-- A write that meets no rule but its entry's own is carried out by the entry, and answered. -/
theorem State.writes_done {o : Origin} {idx sub : Nat} (data : Bytes) (hfind : Objects.find idx sub = some e) (hacc : e.acc ≠ .ro)
    (hcmd : idx ≠ 0x2201) (h : s.mayDo o idx sub) : s.writes { o := o, idx := idx, sub := sub, data := data } =
      .next (State.answerWrite (s.writeEntry { o := o, idx := idx, sub := sub, data := data } e)
        { o := o, idx := idx, sub := sub, data := data }) := by
  obtain ⟨htry, hmay, hstate⟩ := h
  rw [State.writes, State.whenOn_on htry.on, State.writeFrom, State.write_tried hfind hacc hcmd rfl htry hmay, if_pos hstate]

variable {i : Instr} {p : Answer × State}

/-- The state that an accepted write leaves is told of, and answered. -/
theorem State.accepts_of {u : State} (hx : exec i s = .next (State.answerWrite p w)) (hp : u.told p.2) :
    ∃ t, exec i s = .next t ∧ u.told t :=
  ⟨_, hx, hp.trans (State.answerWrite_told p.1 p.2 w)⟩

/-- A write that ends in a refusal is refused. -/
theorem State.refuses_of {abort : Nat} (hx : exec i s = .next (State.answerWrite p w)) (hp : p = s.refuseWrite w abort) (ha : abort ≠ 0) :
    s.refuses i w.o w.idx w.sub abort :=
  ⟨_, hp ▸ hx, s.refuseWrite_answered w ha⟩

end

/-! ### What is told of leaves alone -/

theorem State.sameRun.trans {s t u : State} : s.sameRun t → t.sameRun u → s.sameRun u := by
  rintro ⟨m, c, r, p⟩ ⟨m', c', r', p'⟩
  exact ⟨m'.trans m, c'.trans c, r'.trans r, p'.trans p⟩

section
variable {s t : State} (h : s.told t)
include h

theorem State.told.sameRun : s.sameRun t := by obtain ⟨_, _, _, _, _, _, rfl⟩ := h; exact ⟨rfl, rfl, rfl, rfl⟩
theorem State.told.sec : t.sec = s.sec := by obtain ⟨_, _, _, _, _, _, rfl⟩ := h; rfl
theorem State.told.free : t.free = s.free := by obtain ⟨_, _, _, _, _, _, rfl⟩ := h; rfl
theorem State.told.map : t.map = s.map := by obtain ⟨_, _, _, _, _, _, rfl⟩ := h; rfl
theorem State.told.time : t.time = s.time := by obtain ⟨_, _, _, _, _, _, rfl⟩ := h; rfl
theorem State.told.slot (n : Nat) : t.slot n = s.slot n := by obtain ⟨_, _, _, _, _, _, rfl⟩ := h; rfl
theorem State.told.suspectList : t.flash.suspectList = s.flash.suspectList := by obtain ⟨_, _, _, _, _, _, rfl⟩ := h; rfl
theorem State.told.portState (p : Nat) : t.portState p = s.portState p := by obtain ⟨_, _, _, _, _, _, rfl⟩ := h; rfl
theorem State.told.groupReachable (p : Nat) : t.groupReachable p = s.groupReachable p := by
  obtain ⟨_, _, _, _, _, _, rfl⟩ := h; rfl
theorem State.told.tokenOf (o : Origin) : t.tokenOf o = s.tokenOf o := by unfold State.tokenOf; rw [h.sec]

end

theorem State.logWrite_told (s : State) (w : Write) (result : Nat) (old app : Nat × Nat) (flags : Nat) :
    s.told (s.logWrite w result old app flags) := s.log_told ..

/-! ### Service tokens (R436, R459) -/

/-- The origins that hold tokens. -/
def tokenOrigin (o : Origin) : Prop := o = .can ∨ o = .cxl ∨ o = .usb

section
variable {s : State} {o : Origin}

theorem State.tokenOf_setToken_same (ho : tokenOrigin o) (v : Option Token) : (s.setToken o v).tokenOf o = v := by
  rcases ho with rfl | rfl | rfl <;> rfl

theorem State.tokenOf_setToken_ne (v : Option Token) {p : Origin} (h : p ≠ o) : (s.setToken o v).tokenOf p = s.tokenOf p := by
  cases o <;> cases p <;> simp_all [setToken, tokenOf]

theorem State.setToken_free (v : Option Token) : (s.setToken o v).free = s.free := by cases o <;> rfl

theorem State.setToken_sameRun (v : Option Token) : s.sameRun (s.setToken o v) := by cases o <;> exact ⟨rfl, rfl, rfl, rfl⟩

/-- A token that closes is gone, and the debug port with it is logged (R436, R460). -/
theorem State.dropToken_told : (s.setToken o none).told (s.dropToken o) := by
  unfold dropToken
  exact iteInduction (fun _ => State.log_told ..) (fun _ => .refl _)

theorem State.logDebug_told (was : Bool) : s.told (s.logDebug was) := by
  unfold logDebug
  exact iteInduction (fun _ => .refl s) (fun _ => State.log_told ..)

/-- Of the tokens, the one that is stored changes. -/
theorem State.tokenStored_frame {t : State} {v : Option Token} (ho : tokenOrigin o) (h : (s.setToken o v).told t) :
    s.sameRun t ∧ (∀ p, p ≠ o → t.tokenOf p = s.tokenOf p) ∧ t.tokenOf o = v :=
  ⟨(State.setToken_sameRun v).trans h.sameRun, fun p hp => (h.tokenOf p).trans (State.tokenOf_setToken_ne v hp),
    (h.tokenOf o).trans (State.tokenOf_setToken_same ho v)⟩

theorem find_token : Objects.find 0x2A20 1 = some ⟨0x2A20, 1, 1, "TOKEN", .domain, .wo, 0, .own⟩ := by decide +kernel

theorem find_close : Objects.find 0x2A20 4 = some ⟨0x2A20, 1, 4, "CLOSE", .u32, .wo, 0, .own⟩ := by decide +kernel

theorem exec_serviceToken (r : Bytes) (h : s.mayDo o 0x2A20 1) : exec (.serviceToken o r) s =
    .next (State.answerWrite (s.presentToken { o := o, idx := 0x2A20, sub := 1, data := r })
      { o := o, idx := 0x2A20, sub := 1, data := r }) :=
  State.writes_done r find_token (by decide) (by decide) h

/-- The lifetime is held within 60 s and 24 h. -/
theorem tokenLife_eq (r : Bytes) : tokenLife r = max 60 (min 86400 (uAt r 88 4)) := by
  unfold tokenLife clampN
  omega

/-- A token record that is accepted: the origin's token, a new challenge, and what is told of it. -/
theorem State.presentToken_accepted {w : Write} (h1 : uAt w.data 6 1 = 1) (hok : s.recordOk w.data = true) :
    (s.setToken w.o (some { scope := uAt w.data 92 2, until_ := s.clock + tokenLife w.data * 1000000000 })).newChallenge.told
      (s.presentToken w).2 := by
  rw [State.presentToken, if_neg (by simp [h1, hok])]
  refine .trans ?_ (State.logDebug_told _)
  exact iteInduction (fun _ => State.logWrite_told ..) (fun _ => (State.logWrite_told ..).trans (State.log_told ..))

theorem exec_serviceToken_accepted {r : Bytes} (ho : tokenOrigin o) (h : s.mayDo o 0x2A20 1) (h1 : uAt r 6 1 = 1)
    (hok : s.recordOk r = true) : ∃ t, exec (.serviceToken o r) s = .next t ∧ s.sameRun t ∧ (∀ p, p ≠ o → t.tokenOf p = s.tokenOf p) ∧
      t.tokenOf o = some { scope := uAt r 92 2, until_ := s.clock + max 60 (min 86400 (uAt r 88 4)) * 1000000000 } ∧
      t.sec.challengeNo = s.free ∧ t.free = s.free + 1 := by
  obtain ⟨t, hx, ht⟩ := State.accepts_of (exec_serviceToken r h) (State.presentToken_accepted h1 hok)
  dsimp only at ht
  rw [tokenLife_eq] at ht
  generalize Token.mk _ _ = tok at ht ⊢
  have hnew (p : Origin) : (s.setToken o (some tok)).newChallenge.tokenOf p = (s.setToken o (some tok)).tokenOf p := by
    cases p <;> rfl
  have hsame : (s.setToken o (some tok)).sameRun (s.setToken o (some tok)).newChallenge := ⟨rfl, rfl, rfl, rfl⟩
  have hfree : (s.setToken o (some tok)).free = s.free := State.setToken_free _
  refine ⟨t, hx, ((State.setToken_sameRun _).trans hsame).trans ht.sameRun, fun p hne => ?_, ?_, ?_, ?_⟩
  · rw [ht.tokenOf, hnew, State.tokenOf_setToken_ne _ hne]
  · rw [ht.tokenOf, hnew, State.tokenOf_setToken_same ho]
  · rw [ht.sec, ← hfree]; rfl
  · rw [ht.free, ← hfree]; rfl

theorem exec_serviceToken_refused {r : Bytes} (h : s.mayDo o 0x2A20 1) (hno : uAt r 6 1 ≠ 1 ∨ s.recordOk r = false) :
    s.refuses (.serviceToken o r) o 0x2A20 1 abToken :=
  State.refuses_of (exec_serviceToken r h) (if_pos (by simpa using hno)) (by decide)

theorem exec_close (ho : tokenOrigin o) (h : s.mayDo o 0x2A20 4) : ∃ t, exec (.close o) s = .next t ∧ s.sameRun t ∧
    (∀ p, p ≠ o → t.tokenOf p = s.tokenOf p) ∧ t.tokenOf o = none := by
  let w : Write := { o := o, idx := 0x2A20, sub := 4, data := zeros 4 }
  let u := s.logWrite w 0 (0, 0) w.logged
  have hu : s.told u := State.logWrite_told ..
  have he : s.closeToken w = ({ data := w.data }, u.dropToken o) := if_neg (by simp [w])
  have hx : exec (.close o) s = .next (State.answerWrite (s.closeToken w) w) :=
    State.writes_done (zeros 4) find_close (by decide) (by decide) h
  rw [he] at hx
  obtain ⟨t, hx, ht⟩ := State.accepts_of hx (u := u.setToken o none) State.dropToken_told
  obtain ⟨hsame, hothers, hnone⟩ := State.tokenStored_frame ho ht
  exact ⟨t, hx, hu.sameRun.trans hsame, fun p hp => (hothers p hp).trans (hu.tokenOf p), hnone⟩

theorem exec_tokenLapse (ho : tokenOrigin o) (hon : s.on = true) : ∃ t, exec (.tokenLapse o) s = .next t ∧ s.sameRun t ∧
    (∀ p, p ≠ o → t.tokenOf p = s.tokenOf p) ∧ t.tokenOf o = none :=
  ⟨_, State.whenOn_on hon (fun s => s.lapseToken o), State.tokenStored_frame ho State.dropToken_told⟩

end

end Sys2Proof.Machine

/-!
PROOFS. Key records, the removal of a defect, the suspect list and PPSSET (R275, R327, R363, R449).
-/
namespace Sys2Proof.Machine

section
variable {s : State} {o : Origin}

/-! ### Key records (R449, R459) -/

theorem find_keyrec : Objects.find 0x2830 2 = some ⟨0x2830, 1, 2, "KEYREC", .domain, .wo, 0, .own⟩ := by decide +kernel

theorem exec_keyRecord {i : Instr} {r : Bytes} (hi : i = .keySlotProgram o r ∨ i = .keySlotRevoke o r) (h : s.mayDo o 0x2830 2) :
    exec i s = .next (State.answerWrite (s.keyRecord { o := o, idx := 0x2830, sub := 2, data := r })
      { o := o, idx := 0x2830, sub := 2, data := r }) := by
  have hw := State.writes_done r find_keyrec (by decide) (by decide) h
  rcases hi with rfl | rfl <;> exact hw

/-- A slot takes another value. -/
def State.setSlot (s : State) (n : Nat) (k : KeySlot) : State := { s with flash := { s.flash with slots := s.flash.slots.set n k } }

theorem State.slot_setSlot {n m : Nat} (k : KeySlot) (hn : n < s.flash.slots.length) :
    (s.setSlot m k).slot n = if n = m then k else s.slot n := by
  simp only [State.slot, State.setSlot, List.getD_eq_getElem?_getD, List.getElem?_set]
  split
  · next h => subst h; simp [hn]
  · next h => simp [Ne.symm h]

/-- Is a record one that programs or revokes a slot, and accepted? -/
def State.keyRecordOk (s : State) (r : Bytes) : Prop := (uAt r 6 1 = 2 ∨ uAt r 6 1 = 3) ∧ s.recordOk r = true

theorem State.keyRecordOk_iff (r : Bytes) :
    s.keyRecordOk r ↔ ¬((uAt r 6 1 ≠ 2 ∧ uAt r 6 1 ≠ 3) ∨ (!s.recordOk r) = true) := by
  simp only [State.keyRecordOk, Bool.not_eq_true']
  cases s.recordOk r <;> simp; omega

variable {w : Write}

theorem State.keyRecord_accepted (hok : s.keyRecordOk w.data) (hchange : s.slotChangeOk w.data = true) :
    ((s.setSlot (uAt w.data 94 1) (slotAfter (s.slot (uAt w.data 94 1)) w.data)).newChallenge).told (s.keyRecord w).2 := by
  rw [State.keyRecord, if_neg ((State.keyRecordOk_iff _).mp hok), if_neg (by simp [hchange])]
  exact State.logWrite_told ..

theorem exec_keyRecord_accepted {i : Instr} {r : Bytes} (hi : i = .keySlotProgram o r ∨ i = .keySlotRevoke o r) (h : s.mayDo o 0x2830 2)
    (hfour : s.flash.slots.length = 4) (hok : s.keyRecordOk r) (hchange : s.slotChangeOk r = true) : ∃ t, exec i s = .next t ∧
      s.sameRun t ∧ (∀ n < 4, t.slot n = if n = uAt r 94 1 then slotAfter (s.slot n) r else s.slot n) ∧ t.sec.challengeNo = s.free := by
  obtain ⟨t, hx, ht⟩ := State.accepts_of (exec_keyRecord hi h) (State.keyRecord_accepted hok hchange)
  have hsame (u : State) (n : Nat) (k : KeySlot) : u.sameRun (u.setSlot n k).newChallenge := ⟨rfl, rfl, rfl, rfl⟩
  have hnew (u : State) (n : Nat) : u.newChallenge.slot n = u.slot n := rfl
  refine ⟨t, hx, (hsame ..).trans ht.sameRun, fun n hn => ?_, ?_⟩
  · rw [ht.slot, hnew, State.slot_setSlot _ (hfour ▸ hn)]
    split
    · next heq => rw [heq]
    · rfl
  · rw [ht.sec]; rfl

theorem exec_keyRecord_unverified {i : Instr} {r : Bytes} (hi : i = .keySlotProgram o r ∨ i = .keySlotRevoke o r) (h : s.mayDo o 0x2830 2)
    (hno : ¬s.keyRecordOk r) : s.refuses i o 0x2830 2 abToken :=
  State.refuses_of (exec_keyRecord hi h) (if_pos (not_not.mp (mt (State.keyRecordOk_iff r).mpr hno))) (by decide)

theorem exec_keyRecord_unfit {i : Instr} {r : Bytes} (hi : i = .keySlotProgram o r ∨ i = .keySlotRevoke o r) (h : s.mayDo o 0x2830 2)
    (hok : s.keyRecordOk r) (hchange : s.slotChangeOk r = false) : s.refuses i o 0x2830 2 abValue :=
  State.refuses_of (exec_keyRecord hi h) ((if_neg ((State.keyRecordOk_iff r).mp hok)).trans (if_pos (by simp [hchange]))) (by decide)

/-! ### The removal of a defect (R327) -/

theorem find_remove : Objects.find 0x2302 1 = some ⟨0x2302, 1, 1, "REMOVE", .u16, .wo, 0, .own⟩ := by decide +kernel

theorem exec_remove (n : Nat) (h : s.mayDo o 0x2302 1) : exec (.remove o n) s =
    .next (State.answerWrite (s.removeDefect { o := o, idx := 0x2302, sub := 1, data := le 2 n })
      { o := o, idx := 0x2302, sub := 1, data := le 2 n }) :=
  State.writes_done (le 2 n) find_remove (by decide) (by decide) h

/-- The defect list without entry `n`. -/
def State.dropDefect (s : State) (n : Nat) : State :=
  { s with flash := { s.flash with defects := s.flash.defects.eraseIdx n } }

theorem State.told.dropDefect {t : State} (h : s.told t) (n : Nat) : (s.dropDefect n).told (t.dropDefect n) := by
  obtain ⟨l, ls, sd, p, os, b, rfl⟩ := h
  exact ⟨l, ls, sd, p, os, b, rfl⟩

theorem State.told.defects {t : State} (h : s.told t) : t.flash.defects = s.flash.defects := by
  obtain ⟨_, _, _, _, _, _, rfl⟩ := h; rfl

/-- What REMOVE does for an origin with scope bit 0, by the entry that it names. -/
theorem State.removeDefect_judged {n : Nat} (hn : n < 65536) (hdata : w.data = le 2 n) (hscope : bit (s.scopeOf w.o) 0 = true) :
    (n < s.flash.defects.length → (s.dropDefect n).told (s.removeDefect w).2) ∧
    (s.flash.defects.length ≤ n → s.removeDefect w = s.refuseWrite w abValue) := by
  have hof : ofLe w.data = n := by rw [hdata, ofLe_le]; omega
  have hlen : ¬ w.data.length ≠ 2 := by simp [hdata]
  rw [State.removeDefect, if_neg (by simp [hscope]), if_neg hlen, hof]
  constructor
  · intro hlt
    rw [List.getElem?_eq_getElem hlt]
    exact ((State.logWrite_told ..).dropDefect n).trans (State.log_told ..)
  · intro hle
    rw [List.getElem?_eq_none hle]

theorem exec_remove_taken {n : Nat} (hn : n < 65536) (h : s.mayDo o 0x2302 1) (hscope : bit (s.scopeOf o) 0 = true)
    (hlt : n < s.flash.defects.length) : ∃ t, exec (.remove o n) s = .next t ∧ s.sameRun t ∧
      t.flash.defects = s.flash.defects.eraseIdx n ∧ t.map = s.map := by
  obtain ⟨t, hx, ht⟩ := State.accepts_of (exec_remove n h) ((State.removeDefect_judged hn rfl hscope).1 hlt)
  exact ⟨t, hx, ht.sameRun, ht.defects, ht.map⟩

theorem exec_remove_none {n : Nat} (hn : n < 65536) (h : s.mayDo o 0x2302 1) (hscope : bit (s.scopeOf o) 0 = true)
    (hle : s.flash.defects.length ≤ n) : s.refuses (.remove o n) o 0x2302 1 abValue :=
  State.refuses_of (exec_remove n h) ((State.removeDefect_judged hn rfl hscope).2 hle) (by decide)

theorem exec_remove_unscoped {n : Nat} (h : s.mayDo o 0x2302 1) (hscope : bit (s.scopeOf o) 0 = false) :
    s.refuses (.remove o n) o 0x2302 1 abToken :=
  State.refuses_of (exec_remove n h) (if_pos (by simp [hscope])) (by decide)

/-! ### The suspect list (R363) -/

theorem find_list : Objects.find 0x2405 1 = some ⟨0x2405, 1, 1, "LIST", .domain, .rw, 0, .own⟩ := by decide +kernel

theorem exec_suspectListWrite (data : Bytes) (h : s.mayDo o 0x2405 1) : exec (.suspectListWrite o data) s =
    .next (State.answerWrite (s.writeList { o := o, idx := 0x2405, sub := 1, data := data })
      { o := o, idx := 0x2405, sub := 1, data := data }) :=
  State.writes_done data find_list (by decide) (by decide) h

/-- The list replaced: its next pass begins at the front. -/
def State.setSuspects (s : State) (l : Bytes) : State :=
  { s with flash := { s.flash with suspectList := l }, map := { s.map with nextSel := [] } }

theorem State.writeList_accepted (hoff : w.off = 0) (hlen : w.data.length ≤ maxTransfer) (hwhole : w.data.length % 16 = 0)
    (hall : (selectorsOf w.data).all selectorOk = true) :
    (s.setSuspects (((selectorsOf w.data).take 256).map selectorFit).flatten).told (s.writeList w).2 := by
  rw [State.writeList, if_neg (by omega), if_neg (by simp [hwhole, hall])]
  exact iteInduction (fun _ => State.logWrite_told ..) (fun _ => (State.logWrite_told ..).trans (State.log_told ..))

theorem exec_suspectListWrite_accepted {data : Bytes} (h : s.mayDo o 0x2405 1) (hlen : data.length ≤ maxTransfer)
    (hwhole : data.length % 16 = 0) (hall : ∀ b ∈ cut 16 (data.length / 16) data, selectorOk b = true) :
    ∃ t, exec (.suspectListWrite o data) s = .next t ∧ s.sameRun t ∧
      t.flash.suspectList = (((cut 16 (data.length / 16) data).take 256).map selectorFit).flatten := by
  obtain ⟨t, hx, ht⟩ := State.accepts_of (exec_suspectListWrite data h)
    (State.writeList_accepted rfl hlen hwhole (List.all_eq_true.mpr hall))
  have hset (u : State) (l : Bytes) : u.sameRun (u.setSuspects l) ∧ (u.setSuspects l).flash.suspectList = l := 
    ⟨⟨rfl, rfl, rfl, rfl⟩, rfl⟩
  exact ⟨t, hx, (hset ..).1.trans ht.sameRun, ht.suspectList.trans (hset ..).2⟩

theorem exec_suspectListWrite_refused {data : Bytes} (h : s.mayDo o 0x2405 1) (hlen : data.length ≤ maxTransfer)
    (hno : data.length % 16 ≠ 0 ∨ ∃ b ∈ cut 16 (data.length / 16) data, selectorOk b = false) :
    s.refuses (.suspectListWrite o data) o 0x2405 1 abValue := by
  have hbad : data.length % 16 ≠ 0 ∨ (!(selectorsOf data).all selectorOk) = true :=
    hno.imp_right fun ⟨b, hb, hf⟩ => by
      rw [Bool.not_eq_true', List.all_eq_false]
      exact ⟨b, hb, by simp [hf]⟩
  refine State.refuses_of (exec_suspectListWrite data h) ?_ (by decide)
  rw [State.writeList, if_neg (by dsimp only; omega), if_pos hbad]

/-! ### A number that its entry takes at once (R437) -/

/-- The value that is sent is the value that is meant. -/
theorem OType.decode_le {t : OType} {n v : Nat} (ht : t.signed = false) (hv : v < 256 ^ n) : t.decode (le n v) = v := by
  simp only [OType.decode, ht, Bool.false_eq_true, if_false, ofLe_le, Nat.mod_eq_of_lt hv]

section
variable {e : ObjSpec} {v a : Int} {flags : Nat}

theorem State.writeNumber_fits (hlen : e.typ.size = some w.data.length) (hoff : w.off = 0) (hdec : e.typ.decode w.data = v)
    (hfit : s.fitValue e w.idx w.sub v = .ok (a, flags)) : s.writeNumber w e = s.storeWrite w e v a flags := by
  rw [State.writeNumber, if_neg (by simp [hlen, hoff]), hdec]
  dsimp only
  rw [hfit]

theorem State.storeWrite_at_once (hl : latchedEntry w.idx w.sub = false) (hb : boundaryEntry w.idx w.sub = false)
    (hq : s.quiesceOk w.idx w.sub a = true) : ∃ u, s.told u ∧ (s.storeWrite w e v a flags).2 = u.applyWrite w.o w.idx w.sub a := by
  rw [State.storeWrite, if_neg (by simp [hl]), if_neg (by simp [hb]), if_neg (by simp [hq])]
  exact ⟨_, State.logWrite_told .., rfl⟩

end

/-! ### PPSSET (R275) -/

/-- PPSSET. -/
def ppssetSpec : ObjSpec := ⟨0x2100, 1, 7, "PPSSET", .u64, .rw, 0, .own⟩

theorem find_ppsset : Objects.find 0x2100 7 = some ppssetSpec := by decide +kernel

theorem exec_ppssetWrite (v : Nat) (h : s.mayDo o 0x2100 7) : exec (.ppssetWrite o v) s =
    .next (State.answerWrite (s.writeNumber { o := o, idx := 0x2100, sub := 7, data := le 8 v } ppssetSpec)
      { o := o, idx := 0x2100, sub := 7, data := le 8 v }) :=
  State.writes_done (le 8 v) find_ppsset (by decide) (by decide) h

/-- PPSSET holds a time that waits for its edge. -/
theorem State.applyWrite_ppsset (s : State) (o : Origin) (v : Nat) : s.sameRun (s.applyWrite o 0x2100 7 v) ∧
    (s.applyWrite o 0x2100 7 v).nat 0x2100 7 = v ∧ (s.applyWrite o 0x2100 7 v).time.ppsPending = true :=
  ⟨⟨rfl, rfl, rfl, rfl⟩, s.nat_setOb_same 0x2100 7 v, rfl⟩

theorem exec_ppssetWrite_waits {v : Nat} (hv : v < 2 ^ 64) (h : s.mayDo o 0x2100 7) : ∃ t, exec (.ppssetWrite o v) s = .next t ∧
    s.sameRun t ∧ t.nat 0x2100 7 = v ∧ t.time.ppsPending = true := by
  let w : Write := { o := o, idx := 0x2100, sub := 7, data := le 8 v }
  have hdec : OType.decode .u64 w.data = v := OType.decode_le rfl (by simpa using hv)
  have hx := exec_ppssetWrite v h
  rw [State.writeNumber_fits (w := w) (a := (v : Int)) (flags := 0) (by simp [ppssetSpec, OType.size, w]) rfl hdec rfl] at hx
  obtain ⟨u, hu, happly⟩ := s.storeWrite_at_once (w := w) (e := ppssetSpec) (v := v) (a := (v : Int)) (flags := 0) rfl rfl rfl
  obtain ⟨hrun, hnat, hpend⟩ := u.applyWrite_ppsset o v
  obtain ⟨t, hx, ht⟩ := State.accepts_of hx (u := u.applyWrite o 0x2100 7 v) (happly ▸ State.told.refl _)
  exact ⟨t, hx, (hu.sameRun.trans hrun).trans ht.sameRun, (ht.nat _ _).trans hnat, ht.time ▸ hpend⟩

theorem exec_ppssetWrite_refused {v : Nat} (h : s.mayTry o 0x2100 7) (hmay : s.mayWrite o 0x2100 7 = true) (hcast : s.dev ≠ .castOn)
    (hready : s.dev ≠ .ready) : s.refuses (.ppssetWrite o v) o 0x2100 7 abState := by
  let w : Write := { o := o, idx := 0x2100, sub := 7, data := le 8 v }
  have hstate : s.writeState 0x2100 7 = false := by
    cases hdev : s.dev <;> simp_all [State.writeState, anyState, DevState.among]
  have hw : s.write w = s.refuseWrite w abState :=
    (State.write_tried (w := w) find_ppsset (by decide) (show (0x2100 : Nat) ≠ 0x2201 by decide) rfl h hmay).trans
      (if_neg (by simp [w, hstate]))
  exact State.refuses_of (w := w) (State.whenOn_on h.on (fun s => s.writeFrom w)) hw (by decide)

end

end Sys2Proof.Machine

/-!
PROOFS. A quiesce of a port (R409, R476), and the obligation on signed records and settings.
-/
namespace Sys2Proof.Machine

/-! ### A port's entries and STATE -/

theorem State.portCount_le (s : State) : s.portCount ≤ 18 := by unfold State.portCount; split <;> decide

theorem State.messaged.sameRun {s t : State} (h : s.messaged t) : s.sameRun t := by obtain ⟨_, _, rfl⟩ := h; exact ⟨rfl, rfl, rfl, rfl⟩
theorem State.messaged.nat {s t : State} (h : s.messaged t) (i j : Nat) : t.nat i j = s.nat i j := by obtain ⟨_, _, rfl⟩ := h; rfl
theorem State.messaged.portState {s t : State} (h : s.messaged t) (p : Nat) : t.portState p = s.portState p := by
  obtain ⟨_, _, rfl⟩ := h; rfl

theorem State.linkChange_messaged (s : State) : s.messaged s.linkChange := by
  let u : State := { s with naela := { s.naela with linksNext := some (s.naela.linksNext.getD s.naela.links) } }
  have hu : s.messaged u := ⟨_, _, rfl⟩
  exact hu.trans (.foldl (fun v p => v.sendControl_messaged 0x15 (v.portPeer p) u.routeBytes) _ u)

theorem State.portState_portTo {s : State} {p : Nat} (v : Nat) (hp : p < s.portCount) : (s.portTo p v).portState p = v := by
  have hcount : (s.portTo p v).portCount = s.portCount := rfl
  rw [State.portState, if_pos (hcount ▸ hp)]
  exact State.nat_setOb_same ..

theorem State.nat_portTo_quiesce (s : State) (p v : Nat) : (s.portTo p v).nat (0x2620 + p) 6 = s.nat (0x2620 + p) 6 :=
  s.nat_setOb_ne _ (okey_ne_of_sub _ _ (by decide) (by decide) (by decide))

section
variable {s : State} {p : Nat}

/-! ### What a quiesce does to its port (R409) -/

/-- The port's QUIESCE is `q` and its STATE `v`, and its neighbours are told. -/
theorem State.portSettled (q v : Nat) (hp : p < s.portCount) :
    let t := ((s.setOb (0x2620 + p) 6 q).portTo p v).linkChange
    s.sameRun t ∧ t.portState p = v ∧ t.nat (0x2620 + p) 6 = q := by
  have hm := ((s.setOb (0x2620 + p) 6 q).portTo p v).linkChange_messaged
  have hrun : s.sameRun ((s.setOb (0x2620 + p) 6 q).portTo p v) := ⟨rfl, rfl, rfl, rfl⟩
  refine ⟨hrun.trans hm.sameRun, (hm.portState p).trans (State.portState_portTo v hp), ?_⟩
  rw [hm.nat, State.nat_portTo_quiesce, State.nat_setOb_same]

theorem State.quiescePort_drains (hp : p < s.portCount) (hst : s.portState p = 4) (hreach : s.groupReachable p = true) :
    s.sameRun (s.quiescePort p 1 false) ∧ (s.quiescePort p 1 false).portState p = 5 ∧
      (s.quiescePort p 1 false).nat (0x2620 + p) 6 = 1 := by
  have h : s.quiescePort p 1 false = ((s.setOb (0x2620 + p) 6 1).portTo p 5).linkChange := by
    rw [State.quiescePort, if_pos rfl, if_pos hst, if_pos (Or.inr hreach)]
  rw [h]
  exact State.portSettled 1 5 hp

theorem State.quiescePort_idle (hp : p < s.portCount)
    (hst : s.portState p = 2 ∨ s.portState p = 3 ∨ s.portState p = 7 ∨ s.portState p = 8) :
    s.sameRun (s.quiescePort p 1 false) ∧ (s.quiescePort p 1 false).portState p = 6 := by
  rw [State.quiescePort, if_pos rfl, if_neg (by omega), if_pos hst]
  exact ⟨⟨rfl, rfl, rfl, rfl⟩, State.portState_portTo 6 hp⟩

theorem State.quiescePort_cancels (hp : p < s.portCount) (hst : s.portState p = 5) :
    s.sameRun (s.quiescePort p 0 false) ∧ (s.quiescePort p 0 false).portState p = 4 ∧
      (s.quiescePort p 0 false).nat (0x2620 + p) 6 = 0 := by
  have h : s.quiescePort p 0 false = ((s.setOb (0x2620 + p) 6 0).portTo p 4).linkChange := by
    rw [State.quiescePort, if_neg (by decide), if_pos (Or.inl hst)]
  rw [h]
  exact State.portSettled 0 4 hp

/-! ### A write of QUIESCE -/

/-- QUIESCE of a port. -/
def quiesceSpec : ObjSpec := ⟨0x2620, 18, 6, "QUIESCE", .u32, .rw, 0, .own⟩

/-- A write of QUIESCE. -/
def quiesceWrite (o : Origin) (p v : Nat) : Write := { o := o, idx := 0x2620 + p, sub := 6, data := le 4 v }

theorem find_quiesce : ∀ p < 18, Objects.find (0x2620 + p) 6 = some quiesceSpec := by decide +kernel

/-- QUIESCE takes its value at once. -/
theorem quiesce_at_once : ∀ p < 18, latchedEntry (0x2620 + p) 6 = false ∧ boundaryEntry (0x2620 + p) 6 = false := by decide +kernel

theorem inIdx_port (hp : p < 18) : inIdx 0x2620 0x2631 (0x2620 + p) = true := by simp [inIdx]; omega

theorem State.fitValue_quiesce (s : State) {v : Nat} (hp : p < 18) (hv : v ≤ 1) :
    s.fitValue quiesceSpec (0x2620 + p) 6 (v : Nat) = .ok ((v : Nat), 0) := by
  have hclamp : clampI 0 1 (v : Int) = v := by rw [clampI_eq (by decide)]; omega
  show s.ownFit (0x2620 + p) 6 (v : Nat) = _
  rw [State.ownFit, if_neg (by omega), if_neg (by omega), if_pos (inIdx_port hp), hclamp]

/-- An entry of a port takes a number. -/
theorem State.writeEntry_port (s : State) {w : Write} (e : ObjSpec) (hp : p < 18) (hidx : w.idx = 0x2620 + p) :
    s.writeEntry w e = s.writeNumber w e := by
  rw [State.writeEntry, if_neg (by omega), if_neg (by omega), if_neg (by omega), if_neg (by omega), if_neg (by omega),
    if_neg (by omega), if_neg (by omega), if_neg (by omega), if_neg (by omega)]

theorem State.writeEntry_quiesce (s : State) (o : Origin) {v : Nat} (hp : p < 18) (hv : v ≤ 1) :
    s.writeEntry (quiesceWrite o p v) quiesceSpec = s.storeWrite (quiesceWrite o p v) quiesceSpec (v : Nat) (v : Nat) 0 := by
  rw [s.writeEntry_port quiesceSpec hp rfl]
  exact State.writeNumber_fits (by simp [quiesceSpec, quiesceWrite, OType.size]) rfl
    (OType.decode_le rfl (by show v < 256 ^ 4; omega)) (s.fitValue_quiesce hp hv)

variable {o : Origin}

theorem exec_quiesce {v : Nat} (hp : p < s.portCount) (hv : v ≤ 1) (h : s.mayDo o (0x2620 + p) 6) : exec (.quiesce o p v) s =
    .next (State.answerWrite (s.storeWrite (quiesceWrite o p v) quiesceSpec (v : Nat) (v : Nat) 0) (quiesceWrite o p v)) := by
  have hp' : p < 18 := lt_of_lt_of_le hp s.portCount_le
  have hw : s.writes (quiesceWrite o p v) = .next (State.answerWrite (s.writeEntry (quiesceWrite o p v) quiesceSpec)
      (quiesceWrite o p v)) := State.writes_done (le 4 v) (find_quiesce p hp') (by decide) (by omega) h
  rw [s.writeEntry_quiesce o hp' hv] at hw
  have hunit : exec (.quiesce o p v) s = s.writes (quiesceWrite o p v) := if_pos (decide_eq_true hp')
  exact hunit.trans hw

theorem State.applyWrite_quiesce (s : State) (o : Origin) (v : Nat) (hp : p < 18) :
    s.applyWrite o (0x2620 + p) 6 (v : Nat) = s.quiescePort p v false := by
  rw [State.applyWrite, if_neg (by omega), if_neg (by omega), if_pos ⟨inIdx_port hp, rfl⟩, Nat.add_sub_cancel_left]
  rfl

theorem State.quiesceOk_port (s : State) (hp : p < 18) : s.quiesceOk (0x2620 + p) 6 1 = (s.portState p != 4 || s.groupReachable p) ∧
    s.quiesceOk (0x2620 + p) 6 0 = !(s.dev == .bindOff && decide (2 ≤ s.nat 0x2200 2)) := by
  have h (v : Int) : s.quiesceOk (0x2620 + p) 6 v = if v = 1 then s.portState p != 4 || s.groupReachable p
      else !(s.dev == .bindOff && decide (2 ≤ s.nat 0x2200 2)) := by
    rw [State.quiesceOk, if_pos ⟨inIdx_port hp, rfl⟩, Nat.add_sub_cancel_left]
  exact ⟨(h 1).trans (if_pos rfl), (h 0).trans (if_neg (by decide))⟩

/-- A quiesce that the port takes: what `quiescePort` makes of a state that is told of. -/
theorem exec_quiesce_taken {v : Nat} (hp : p < s.portCount) (hv : v ≤ 1) (h : s.mayDo o (0x2620 + p) 6)
    (hq : s.quiesceOk (0x2620 + p) 6 (v : Nat) = true) :
    ∃ u t, exec (.quiesce o p v) s = .next t ∧ s.told u ∧ (u.quiescePort p v false).told t := by
  have hp' : p < 18 := lt_of_lt_of_le hp s.portCount_le
  obtain ⟨hl, hb⟩ := quiesce_at_once p hp'
  obtain ⟨u, hu, happly⟩ := s.storeWrite_at_once (w := quiesceWrite o p v) (e := quiesceSpec) (v := (v : Nat)) (flags := 0) hl hb hq
  have hport := happly.trans (u.applyWrite_quiesce o v hp')
  obtain ⟨t, hx, ht⟩ := State.accepts_of (exec_quiesce hp hv h) (u := u.quiescePort p v false) (hport ▸ State.told.refl _)
  exact ⟨u, t, hx, hu, ht⟩

theorem State.told.portCount {t : State} (h : s.told t) : t.portCount = s.portCount := by obtain ⟨_, _, _, _, _, _, rfl⟩ := h; rfl

theorem exec_quiesce_drains (hp : p < s.portCount) (h : s.mayDo o (0x2620 + p) 6) (hst : s.portState p = 4)
    (hreach : s.groupReachable p = true) :
    ∃ t, exec (.quiesce o p 1) s = .next t ∧ s.sameRun t ∧ t.portState p = 5 ∧ t.nat (0x2620 + p) 6 = 1 := by
  have hq : s.quiesceOk (0x2620 + p) 6 1 = true := (s.quiesceOk_port (lt_of_lt_of_le hp s.portCount_le)).1.trans (by simp [hreach])
  obtain ⟨u, t, hx, hu, ht⟩ := exec_quiesce_taken (v := 1) hp le_rfl h hq
  obtain ⟨hrun, hstate, hnat⟩ := State.quiescePort_drains (hu.portCount ▸ hp) ((hu.portState p).trans hst)
    ((hu.groupReachable p).trans hreach)
  exact ⟨t, hx, (hu.sameRun.trans hrun).trans ht.sameRun, (ht.portState p).trans hstate, (ht.nat ..).trans hnat⟩

theorem exec_quiesce_idle (hp : p < s.portCount) (h : s.mayDo o (0x2620 + p) 6)
    (hst : s.portState p = 2 ∨ s.portState p = 3 ∨ s.portState p = 7 ∨ s.portState p = 8) :
    ∃ t, exec (.quiesce o p 1) s = .next t ∧ s.sameRun t ∧ t.portState p = 6 := by
  have h4 : s.portState p ≠ 4 := by omega
  have hq : s.quiesceOk (0x2620 + p) 6 1 = true := (s.quiesceOk_port (lt_of_lt_of_le hp s.portCount_le)).1.trans (by simp [h4])
  obtain ⟨u, t, hx, hu, ht⟩ := exec_quiesce_taken (v := 1) hp le_rfl h hq
  obtain ⟨hrun, hstate⟩ := State.quiescePort_idle (hu.portCount ▸ hp) (hu.portState p ▸ hst)
  exact ⟨t, hx, (hu.sameRun.trans hrun).trans ht.sameRun, (ht.portState p).trans hstate⟩

theorem exec_quiesce_cancels (hp : p < s.portCount) (h : s.mayDo o (0x2620 + p) 6) (hst : s.portState p = 5) (hdev : s.dev ≠ .bindOff) :
    ∃ t, exec (.quiesce o p 0) s = .next t ∧ s.sameRun t ∧ t.portState p = 4 ∧ t.nat (0x2620 + p) 6 = 0 := by
  have hq : s.quiesceOk (0x2620 + p) 6 0 = true := (s.quiesceOk_port (lt_of_lt_of_le hp s.portCount_le)).2.trans (by simp [hdev])
  obtain ⟨u, t, hx, hu, ht⟩ := exec_quiesce_taken (v := 0) hp (by decide) h hq
  obtain ⟨hrun, hstate, hnat⟩ := State.quiescePort_cancels (hu.portCount ▸ hp) ((hu.portState p).trans hst)
  exact ⟨t, hx, (hu.sameRun.trans hrun).trans ht.sameRun, (ht.portState p).trans hstate, (ht.nat ..).trans hnat⟩

/-! ### A quiesce that would cut a group member off (R409, R476) -/

/-- A refused quiesce shows on line 1 and at the cage, and nowhere else. -/
theorem State.showInUse_shows (s : State) (p : Nat) : (s.showInUse p).obj = s.obj ∧ (s.showInUse p).naela = s.naela ∧
    (s.showInUse p).panel.portMsg = some (1, p) ∧ (s.showInUse p).panel.blink = some p := by
  refine ⟨rfl, rfl, ?_, rfl⟩
  show (s.panel.show 1 p).portMsg = some (1, p)
  unfold Panel.show
  split <;> rfl

theorem State.told.naela {t : State} (h : s.told t) : t.naela = s.naela := by obtain ⟨_, _, _, _, _, _, rfl⟩ := h; rfl
theorem State.told.panel {t : State} (h : s.told t) : t.panel = s.panel := by obtain ⟨_, _, _, _, _, _, rfl⟩ := h; rfl

theorem exec_quiesce_in_use (hp : p < s.portCount) (h : s.mayDo o (0x2620 + p) 6) (hst : s.portState p = 4)
    (hcut : s.groupReachable p = false) : ∃ t, exec (.quiesce o p 1) s = .next t ∧ t.answered o abState ∧
      t.obj = s.obj ∧ t.naela = s.naela ∧ t.panel.portMsg = some (1, p) ∧ t.panel.blink = some p := by
  have hp' : p < 18 := lt_of_lt_of_le hp s.portCount_le
  obtain ⟨hl, hb⟩ := quiesce_at_once p hp'
  have hq : s.quiesceOk (0x2620 + p) 6 1 = false := (s.quiesceOk_port hp').1.trans (by simp [hst, hcut])
  let w := quiesceWrite o p 1
  let v := (s.refuseWrite w abState).2
  have hv : s.told v := s.log_told ..
  have hport : w.idx - 0x2620 = p := Nat.add_sub_cancel_left ..
  have hstore : s.storeWrite w quiesceSpec (1 : Nat) (1 : Nat) 0 = ({ abort := abState }, v.showInUse p) := by
    rw [State.storeWrite, if_neg (by simp [w, quiesceWrite, hl]), if_neg (by simp [w, quiesceWrite, hb]),
      if_pos (by simpa [w, quiesceWrite] using hq), hport]
    rfl
  have hx : exec (.quiesce o p 1) s = _ := exec_quiesce hp le_rfl h
  rw [hstore] at hx
  have ht : (v.showInUse p).told (State.answerWrite ({ abort := abState }, v.showInUse p) w) := State.answerWrite_told ..
  obtain ⟨hobj, hnaela, hmsg, hblink⟩ := v.showInUse_shows p
  exact ⟨_, hx, State.answerWrite_aborts _ w (by decide), ht.obj.trans (hobj.trans hv.obj), ht.naela.trans (hnaela.trans hv.naela),
    ht.panel ▸ hmsg, ht.panel ▸ hblink⟩

end

/-- Settles O55: a write that meets no rule but its entry's own comes to its entry, and each entry keeps to its rule. -/
theorem signedRecordsAndSettings : Obligations.SignedRecordsAndSettings := by
  unfold Obligations.SignedRecordsAndSettings
  intro s o ho others
  refine ⟨fun r h => ⟨exec_serviceToken_accepted ho h, exec_serviceToken_refused h⟩, exec_close ho,
    fun hon => exec_tokenLapse ho (decide_eq_true hon), fun r i hi h hfour => ?_, fun n hn h => ?_, fun data h hlen => ?_,
    fun v hv => ?_, fun p hp h => ?_⟩
  · exact ⟨exec_keyRecord_accepted hi h hfour, exec_keyRecord_unverified hi h, exec_keyRecord_unfit hi h⟩
  · exact ⟨exec_remove_taken hn h, exec_remove_none hn h, exec_remove_unscoped h⟩
  · exact ⟨exec_suspectListWrite_accepted h hlen, exec_suspectListWrite_refused h hlen⟩
  · exact ⟨exec_ppssetWrite_waits hv, exec_ppssetWrite_refused⟩
  · exact ⟨exec_quiesce_drains hp h, exec_quiesce_in_use hp h, exec_quiesce_idle hp h, exec_quiesce_cancels hp h⟩

end Sys2Proof.Machine

/-!
PROOFS. A module without 42 V (R284): every command but the inputs that the front end itself watches acts through `State.whenOn`, and so
does nothing while the front end is off.
-/
namespace Sys2Proof.Machine

/-- A command other than the inputs that the front end watches whether it is on or not (R21, R23, R286, R287). -/
def pastFrontEnd (c : Instr) : Prop :=
  (∀ v, c ≠ .hsEnAssert v) ∧ c ≠ .frontEndOn ∧ c ≠ .hsEnDeassert ∧ c ≠ .seatSenseOpen ∧ ∀ v a b, c ≠ .inputMeasurement v a b

/-- What acts on a module that is on leaves one that is off as it was. -/
theorem State.next_of_off {s : State} (hoff : s.on = false) (t : State) :
    (.next (if s.on then t else s) : Result) = .next s := by
  simp [hoff]

/-- It acts on a module that is on. -/
theorem State.next_of_on {s : State} (hon : s.on = true) (t : State) : (.next (if s.on then t else s) : Result) = .next t := by
  simp [hon]

/-- A command to a unit that exists does nothing to a module that is off. -/
theorem exec_off_of_unit {c : Instr} {s : State} {w : String} {i : Nat} {ok : Bool} {f : State → State} (hoff : s.on = false)
    (hx : exec c s = s.unit w i ok f) (hok : ok = true) : exec c s = .next s :=
  hx.trans (s.unit_off w i hok hoff f)

/-- A well-formed command past the front end that names no Naela port names no unit, or one within the ranges of R6. -/
theorem exec_off_of_portNamed_none {c : Instr} {s : State} (hoff : s.on = false) (hw : c.wf = true) (hp : c.portNamed = none)
    (hc : pastFrontEnd c) : exec c s = .next s := by
  obtain ⟨hassert, hconducts, hdeassert, hseat, hmeasure⟩ := hc
  cases c with
  -- the inputs that the front end watches
  | hsEnAssert v => exact absurd rfl (hassert v)
  | frontEndOn => exact absurd rfl hconducts
  | hsEnDeassert => exact absurd rfl hdeassert
  | seatSenseOpen => exact absurd rfl hseat
  | inputMeasurement v a b => exact absurd rfl (hmeasure v a b)
  -- commands that name no unit
  | bladePairFault | busSag | busSagRecover | castOnStep | castOnStepHang | journalWatchdog | rowMark | runStart | rowClose
  | rowUndoDone | rowHang | controllerSwitch | cellDarning | regionDarning | darningComplete | verdictEarlyFail
  | verdictSubtree | verdictGroup | verdictUndone | verdictReplay | capShareUpdate | capUnattainable | preRamp | hbmTempRead
  | coolantReading | safeEntry | referenceLoss | ppsEdge | ref10mValid | timeSourceInvalid | timeMasterLoss
  | messageResendTimeout | commandFetch | hostMemRead | hostMemWrite | birsp | perstAssert | cxlLinkTrain | bar2Read
  | bar2Write | usdoTransfer | objectWrite | nmtStop | nmtReset | canHeartbeat | statusFrame | run | hold | bindReady
  | bindRemove | restart | serviceToken | tokenLapse | close | remove | suspectListWrite | ppssetWrite | logStreamRead
  | signatureStreamRead | changeLogFlush | verify | activate | rollback | commit | imageWrite | keySlotProgram
  | keySlotRevoke | sysflWrite | getVersion | getCapabilities | negotiateAlgorithms | getDigests | getCertificate | challenge
  | getMeasurements | tapInstruction | releasePress | attentionTouch | displayPageTimeout | displayMessageTimeout
  | consoleRead | consoleReadDomain | consoleWrite | consoleWriteDomain | consoleRemove | consoleLog | consoleHelp
  | outputDigestComplete | pageZeroingDone => exact State.next_of_off hoff _
  -- descriptors, which name their cell
  | matWload | matStream | matDrain | matGauge | matGcombine
  | vecAdd | vecSub | vecMul | vecFma | vecDiv | vecSqrt | vecMin | vecMax | vecCmp | vecSelect | vecAnd | vecOr | vecXor
  | vecConvert | vecSum | vecRmax | vecRmin | vecArgmax | vecArgmin | vecExp | vecLog | vecRecip | vecRsqrt | vecTanh
  | vecSigmoid | vecErf | vecPhilox | vecSort | vecTopk
  | movCopy | movPermute | movGather | movScatter | movScatterAdd | movReshard
  | synSend | synRecv | synRecvadd | synBarrier | synWaitmark | chkInsert | chkVerify | updJob | hntHeavy | smpSample
  | ctlNop | ctlEnd | ctlLi | ctlAdd | ctlSub | ctlMul | ctlAnd | ctlOr | ctlXor | ctlShl | ctlShr | ctlSra | ctlAddi
  | ctlMin | ctlMax | ctlCmp | ctlCmpi | ctlBr | ctlJmp | ctlLoop | ctlCall | ctlRet | ctlLd | ctlSt
  -- other commands of a cell
  | cellHeartbeat | cellLost | sequencerIssue | descriptorStart | descriptorComplete | looseResponse | mergeEntryExpire
  | mergeHoldExpire
  -- commands of a block or of a part of one
  | droopDetect | droopEnd | shuntClamp | slowLoopStep | guardBandExpire | lookaheadRaise | junctionSensorRead | blockPllLoss
  | replicaPathWarning | regulatorPhaseLoss | sensorFailed
  -- commands of a region
  | regionHeartbeatLost | regionRailSample | regionShort | efuseOpen | capLoopUpdate | bubbleLoopUpdate | slopeCeilingUpdate
  | floorTargetUpdate | rampGovernorStep | timeBeacon | referenceInputSwitch | suspectSwatch
  -- commands of a queue's registers
  | sqtailDoorbell | cqheadDoorbell | queueEnable | queueDisable | msixCoalesceTimeout | advanceAdmission | queueRegisterWrite
  -- commands of a channel, an engine, a stack, a memory line, a converter, a listed defect, and the write of QUIESCE
  | barrierRelease | updJobStart | updJobDone | hbmStackFail | hbmPatrolScrub | scratchpadScrub | converterPhaseFail
  | darningRestart | wasteYarnSwatch | quiesce => exact exec_off_of_unit hoff rfl hw
  -- commands whose well-formedness asks for more than the unit
  | loadPattern | patternUnload | runPattern | reshard | copy | openSession | advance | closeSession | hint | fence
  | readReceipt | readSignatures | looseWrite => exact exec_off_of_unit hoff rfl (Bool.and_elim_left hw)
  | looseRead | checkAlarm => exact exec_off_of_unit hoff rfl (Bool.and_elim_left (Bool.and_elim_left hw))
  -- commands that name a unit of one of two kinds, or none
  | hbmWrite w => cases w <;> exact exec_off_of_unit hoff rfl hw
  | flitReceive l => cases l <;> exact exec_off_of_unit hoff rfl hw
  | syncNetDisagree r =>
    cases r with
    | some => exact exec_off_of_unit hoff rfl hw
    | none => exact State.next_of_off hoff _
  -- commands of a Naela port
  | _ => cases hp

/-- Settles O4: a command past the front end acts only on a module that is on, whether it names a port or not. -/
theorem offModuleDoesNothing : Obligations.OffModuleDoesNothing := by
  intro c s hw hport hfe hassert hconducts hdeassert hseat hmeasure
  have hoff : s.on = false := by simp [State.on, hfe]
  cases hp : c.portNamed with
  | none => exact exec_off_of_portNamed_none hoff hw hp ⟨hassert, hconducts, hdeassert, hseat, hmeasure⟩
  | some p =>
    obtain ⟨_, _, _, _, hx, hok⟩ := exec_of_portNamed s hw hp
    exact exec_off_of_unit hoff hx (hok.trans (decide_eq_true (hport p hp)))

end Sys2Proof.Machine

/-!
PROOFS. Reset (R284, R335, R429), and the hints of cells (R122, R306, R308).
-/
namespace Sys2Proof.Machine

/-- Settles O59: each field stands as declared, and no memory lists a byte and no command waits. -/
theorem resetIsOff : Obligations.ResetIsOff :=
  ⟨rfl, rfl, rfl, rfl, rfl, rfl, rfl, rfl, rfl, rfl, rfl, ⟨Mem.wf_nil, Mem.wf_nil⟩, fun _ h => nomatch h⟩

theorem top_hntLate : Objects.top 0x2500 0x14 = 2 ^ 32 - 1 := by decide +kernel

/-- In PHASE mode a hint has no effect (R306). -/
theorem State.addHint_phase {s : State} (h : HintRec) (hmode : s.nat 0x2500 0x0F = 1) : s.addHint h = s := if_pos hmode

/-- A hint for a row whose plan is not fixed is entered (R308). -/
theorem State.addHint_open {s : State} {h : HintRec} (hmode : s.nat 0x2500 0x0F ≠ 1) (hrow : s.power.planFixed < h.row) :
    s.addHint h = { s with power := { s.power with hints := s.power.hints ++ [h] } } :=
  (if_neg hmode).trans (if_neg (Nat.not_le.mpr hrow))

/-- A hint for a row whose plan is fixed counts in HNTLATE (R308). -/
theorem State.addHint_late {s : State} {h : HintRec} (hmode : s.nat 0x2500 0x0F ≠ 1) (hrow : h.row ≤ s.power.planFixed) :
    s.addHint h = s.addOb 0x2500 0x14 1 :=
  (if_neg hmode).trans (if_pos hrow)

/-- Whatever becomes of a hint, it is of no row and no cell. -/
theorem State.addHint_row_cells (s : State) (h : HintRec) : (s.addHint h).row = s.row ∧ (s.addHint h).cells = s.cells := by
  unfold State.addHint
  split
  · exact ⟨rfl, rfl⟩
  · split <;> exact ⟨rfl, rfl⟩

/-- Settles O21: the clamps are counted in the row, and the hint goes where `addHint` has it. -/
theorem hntHeavyEntersAHint : Obligations.HntHeavyEntersAHint := by
  intro x y d s hl lead level clamps h
  let u := s.countRow (clamps := clamps)
  have hlead : clampN 1 32 (fld d 183 178) = lead := by
    show min 32 (max 1 _) = max 1 (min 32 _)
    omega
  have heff : hntHeavyEffect x y (s.cell x y).s d s = .ok (u.addHint h) := by
    simp only [hntHeavyEffect, hlead]
    rfl
  obtain ⟨hrow, hcells⟩ := u.addHint_row_cells h
  obtain ⟨hmem, -⟩ := u.addHint_frame h
  refine ⟨u.addHint h, exec_of_effect rfl hl heff, hrow, hmem, hcells, fun hmode => ?phase, fun hmode hopen => ?entered,
    fun hmode hlate => ?late⟩
  case phase =>
    rw [State.addHint_phase (s := u) h hmode]
    exact ⟨rfl, rfl⟩
  case entered =>
    rw [State.addHint_open (s := u) hmode hopen]
    exact ⟨rfl, rfl⟩
  case late =>
    rw [State.addHint_late (s := u) hmode hlate, State.addOb, State.nat_setOb_same, top_hntLate]
    exact ⟨rfl, rfl⟩

end Sys2Proof.Machine

/-!
PROOFS. The cap in force (R305), and what limits it: the input (R18, R286, R287), the stacks' temperature (R316) and the coolant (R317).
-/
namespace Sys2Proof.Machine

/-! ### CAPAPPLIED (R305) -/

/-- A running minimum is at most where it started, and at most each value it met. -/
theorem foldl_min_le {α : Type} (f : α → Nat) (l : List α) (m : Nat) :
    l.foldl (fun m e => min m (f e)) m ≤ m ∧ ∀ e ∈ l, l.foldl (fun m e => min m (f e)) m ≤ f e := by
  induction l generalizing m with
  | nil => simp
  | cons a l ih =>
    obtain ⟨hstart, hall⟩ := ih (min m (f a))
    rw [List.foldl_cons]
    refine ⟨hstart.trans (min_le_left _ _), fun e he => ?_⟩
    rcases List.mem_cons.mp he with rfl | he
    · exact hstart.trans (min_le_right _ _)
    · exact hall e he

/-- No limit that stands is below CAPAPPLIED. -/
theorem State.capNow_le {s : State} {w b : Nat} (h : (w, b) ∈ s.capLimits) : s.capNow ≤ w :=
  (foldl_min_le Prod.fst s.capLimits _).2 _ h

/-- The cap is brought up to date in CAPAPPLIED, and a change of it is logged. -/
theorem State.applyCap_recorded (s : State) : (s.setOb 0x2500 2 (s.capNow : Nat)).recorded s.applyCap := by
  unfold applyCap
  exact iteInduction (fun _ => .refl _) (fun _ => State.log_recorded ..)

theorem State.applyCap_capApplied (s : State) : s.applyCap.nat 0x2500 2 = s.capNow :=
  (s.applyCap_recorded.nat _ _).trans (s.nat_setOb_same ..)

/-- An entry reads as in any state with the same dictionary. -/
theorem State.ob_of_obj_eq {s t : State} (h : t.obj = s.obj) (i j : Nat) : t.ob i j = s.ob i j := by
  simp [ob, h]

theorem State.applyCap_ob (s : State) {i j : Nat} (h : okey i j ≠ okey 0x2500 2) : s.applyCap.ob i j = s.ob i j :=
  (State.ob_of_obj_eq s.applyCap_recorded.obj i j).trans (s.ob_setOb_ne _ h)

theorem State.applyCap_nat (s : State) {i j : Nat} (h : okey i j ≠ okey 0x2500 2) : s.applyCap.nat i j = s.nat i j :=
  congrArg Int.toNat (s.applyCap_ob h)

theorem State.applyCap_logged (s : State) : s.entriesLogged s.applyCap := by
  unfold applyCap
  exact iteInduction (fun _ => s.setOb_logged ..) (fun _ => (s.setOb_logged ..).trans (State.log_logged ..))

/-! ### The input (R18, R286, R287) -/

/-- What the input's events leave alone: memory, the cells, the row, the run, the device state and time. -/
def State.inputStands (s t : State) : Prop :=
  t.mem = s.mem ∧ t.hostMem = s.hostMem ∧ t.cells = s.cells ∧ t.row = s.row ∧ t.run = s.run ∧ t.dev = s.dev ∧ t.time = s.time

theorem State.entriesLogged.inputStands {s t : State} (h : s.entriesLogged t) : s.inputStands t := by
  obtain ⟨_, _, _, _, _, rfl⟩ := h
  exact ⟨rfl, rfl, rfl, rfl, rfl, rfl, rfl⟩

theorem State.entriesLogged.power {s t : State} (h : s.entriesLogged t) : t.power = s.power := by
  obtain ⟨_, _, _, _, _, rfl⟩ := h
  rfl

theorem State.entriesLogged.fe {s t : State} (h : s.entriesLogged t) : t.fe = s.fe := by
  obtain ⟨_, _, _, _, _, rfl⟩ := h
  rfl

theorem State.vinWarning_recorded (s : State) (vin : Int) : s.recorded (s.vinWarning vin) := by
  unfold vinWarning
  exact iteInduction (fun _ => s.logEvent_recorded ..) (fun _ => .refl s)

theorem State.vinWarning_logged (s : State) (vin : Int) : s.entriesLogged (s.vinWarning vin) := by
  unfold vinWarning
  exact iteInduction (fun _ => s.logEvent_logged ..) (fun _ => .refl s)

/-- The state with a measurement of the input entered, before a warning is logged and the cap applied. -/
def State.measured (s : State) (vin : Int) (a b : Nat) : State :=
  let u := s.modFe (fun f => f.measure vin (a + b))
  let pin := vin.toNat * (a + b) / 10000
  let avg := (pin :: u.power.pavg).take 100
  let v := { u with power := { u.power with
    pavg := avg
    limCurrent := some (vin.toNat * 440 / 1000)
    overCurrent := decide (4400 < a + b) } }
  ((((v.setOb 0x2020 1 vin).setOb 0x2020 2 a).setOb 0x2020 3 b).setOb 0x2020 4 pin).setOb 0x2020 5
    ((avg.foldl (· + ·) 0 / avg.length : Nat))

/-- A measurement that trips nothing is entered, its warning is logged when its time is reached, and the cap follows. -/
theorem State.measureOn_stays {s : State} {vin : Int} {a b : Nat} (h : (s.fe.measure vin (a + b)).trips (a + b) = false) :
    ∃ u, (u = (s.measured vin a b).vinWarning vin ∨ u = s.measured vin a b) ∧ s.measureOn vin a b = u.applyCap := by
  have hno : ¬ (s.modFe (fun f => f.measure vin (a + b))).fe.trips (a + b) = true := by simpa [State.modFe] using h
  exact ⟨_, ite_eq_or_eq _ _ _, if_neg hno⟩

theorem State.measured_ob (s : State) (vin : Int) (a b : Nat) :
    let u := s.measured vin a b
    u.ob 0x2020 1 = vin ∧ u.ob 0x2020 2 = a ∧ u.ob 0x2020 3 = b ∧ u.ob 0x2020 4 = (vin.toNat * (a + b) / 10000 : Nat) := by
  refine ⟨?_, ?_, ?_, ?_⟩ <;> simp (disch := decide) only [measured, State.ob_setOb_ne, State.ob_setOb_same]

section
variable {s : State}

theorem exec_inputMeasurement_stays {vin : Int} {a b : Nat} (hfe : s.fe.fe = .on)
    (h : (s.fe.measure vin (a + b)).trips (a + b) = false) : ∃ t, exec (.inputMeasurement vin a b) s = .next t ∧ s.inputStands t ∧
      t.fe = s.fe.measure vin (a + b) ∧ t.ob 0x2020 1 = vin ∧ t.ob 0x2020 2 = a ∧ t.ob 0x2020 3 = b ∧
      t.ob 0x2020 4 = (vin.toNat * (a + b) / 10000 : Nat) := by
  obtain ⟨u, hu, hmeasure⟩ := State.measureOn_stays h
  have hx : exec (.inputMeasurement vin a b) s = .next u.applyCap := by
    rw [← hmeasure]
    simp [exec, execInputMeasurement, hfe]
  obtain ⟨hlog, hobj⟩ : (s.measured vin a b).entriesLogged u ∧ u.obj = (s.measured vin a b).obj := by
    rcases hu with rfl | rfl
    · exact ⟨State.vinWarning_logged .., (State.vinWarning_recorded ..).obj⟩
    · exact ⟨.refl _, rfl⟩
  have hread (j : Nat) (hj : okey 0x2020 j ≠ okey 0x2500 2) : u.applyCap.ob 0x2020 j = (s.measured vin a b).ob 0x2020 j :=
    (u.applyCap_ob hj).trans (State.ob_of_obj_eq hobj ..)
  have hall := hlog.trans u.applyCap_logged
  obtain ⟨h1, h2, h3, h4⟩ := s.measured_ob vin a b
  exact ⟨_, hx, hall.inputStands, hall.fe, (hread 1 (by decide)).trans h1, (hread 2 (by decide)).trans h2,
    (hread 3 (by decide)).trans h3, (hread 4 (by decide)).trans h4⟩

theorem exec_bladePairFault (hon : s.on = true) (pairB : Bool) {other : Nat} (h : 200 < other) :
    ∃ t, exec (.bladePairFault pairB other) s = .next t ∧ s.inputStands t ∧ t.power.bladeFault = some pairB ∧ t.nat 0x2500 2 ≤ 9000 := by
  let u : State := { s with power := { s.power with bladeFault := some pairB } }
  have hx : exec (.bladePairFault pairB other) s = .next u.applyCap :=
    (State.next_of_on hon _).trans (congrArg Host.Outcome.next (if_pos h))
  have hlimit : (9000, 1) ∈ u.capLimits := by simp [State.capLimits, u]
  have hu := u.applyCap_logged
  refine ⟨_, hx, hu.inputStands, congrArg Power.bladeFault hu.power, ?_⟩
  rw [u.applyCap_capApplied]
  exact State.capNow_le hlimit

theorem top_busSags : Objects.top 0x2020 6 = 2 ^ 32 - 1 := by decide +kernel

theorem exec_busSag (hon : s.on = true) : exec .busSag s =
    .next (if s.power.sag then s else ({ s with power := { s.power with sag := true } } : State).addOb 0x2020 6 1) :=
  State.next_of_on hon _

theorem exec_busSag_falls (hon : s.on = true) (hsag : s.power.sag = false) (hroom : s.nat 0x2020 6 < 2 ^ 32 - 1) :
    ∃ t, exec .busSag s = .next t ∧ s.inputStands t ∧ t.power.sag = true ∧ t.nat 0x2020 6 = s.nat 0x2020 6 + 1 := by
  let u : State := { s with power := { s.power with sag := true } }
  have hx : exec .busSag s = .next (u.addOb 0x2020 6 1) := by
    rw [exec_busSag hon, hsag]
    rfl
  refine ⟨_, hx, (u.addOb_logged ..).inputStands, rfl, u.nat_addOb_lt ?_⟩
  rw [top_busSags]
  exact hroom

theorem exec_busSag_stands (hon : s.on = true) (hsag : s.power.sag = true) : exec .busSag s = .next s :=
  (exec_busSag hon).trans (congrArg Host.Outcome.next (if_pos hsag))

end

/-- Settles O29: a measurement is entered and the cap follows it; a failed pair is a limit of the cap; a sag is counted as it begins. -/
theorem inputEntriesFollowTheInput : Obligations.InputEntriesFollowTheInput := by
  intro s hfe
  have hon : s.on = true := by simp [State.on, hfe]
  exact ⟨fun vin a b h => exec_inputMeasurement_stays hfe h, fun pairB other h => exec_bladePairFault hon pairB h,
    exec_busSag_falls hon, exec_busSag_stands hon,
    State.next_of_on hon _⟩

end Sys2Proof.Machine

/-!
PROOFS. Protection (R303, R304, R308 to R311, R316, R317): the readings that limit the cap or latch SAFE, the cap that is not attained,
and the pre-ramp.
-/
namespace Sys2Proof.Machine

section
variable {s : State}

/-! ### The hottest stack (R316) -/

theorem exec_hbmTempRead (hon : s.on = true) (h : Nat) : exec (.hbmTempRead h) s =
    .next (let u := s.setOb 0x2502 5 (h : Nat)
      if 1050 ≤ h then u.latchSafe none
      else ({ u with power := { u.power with limHbm := if 950 ≤ h then some (50 * (h - 940)) else none } } : State).applyCap) :=
  State.next_of_on hon _

/-- From 95.0 °C on the reading is held, and its excess above 94.0 °C taken off CAP. -/
theorem exec_hbmTempRead_warm (hon : s.on = true) {h : Nat} (hwarm : 950 ≤ h) (hcool : h < 1050) :
    ∃ t, exec (.hbmTempRead h) s = .next t ∧ t.nat 0x2502 5 = h ∧ t.nat 0x2500 2 ≤ s.nat 0x2500 1 - 50 * (h - 940) ∧
      t.dev = s.dev ∧ t.mem = s.mem ∧ t.row = s.row := by
  let v := s.setOb 0x2502 5 (h : Nat)
  let u : State := { v with power := { v.power with limHbm := some (50 * (h - 940)) } }
  have hx : exec (.hbmTempRead h) s = .next u.applyCap := by
    rw [exec_hbmTempRead hon, if_neg (Nat.not_le.mpr hcool), if_pos hwarm]
  have hcap : u.nat 0x2500 1 = s.nat 0x2500 1 := s.nat_setOb_ne _ (by decide)
  have hlimit : (s.nat 0x2500 1 - 50 * (h - 940), 5) ∈ u.capLimits := by
    rw [← hcap]
    simp [State.capLimits, u]
  have hu := u.applyCap_recorded
  refine ⟨_, hx, (u.applyCap_nat (by decide)).trans (s.nat_setOb_same ..), ?_, hu.dev, hu.mem, hu.row⟩
  rw [u.applyCap_capApplied]
  exact State.capNow_le hlimit

theorem exec_hbmTempRead_hot (hon : s.on = true) (hsafe : s.dev ≠ .safe) (hoff : s.dev ≠ .off) {h : Nat} (hhot : 1050 ≤ h) :
    ∃ t, exec (.hbmTempRead h) s = .next t ∧ t.latchedSafe := by
  refine ⟨(s.setOb 0x2502 5 (h : Nat)).latchSafe none, ?_, State.latchSafe_latchedSafe none hsafe hoff⟩
  rw [exec_hbmTempRead hon, if_pos hhot]

/-! ### The coolant (R317) -/

/-- The state with a reading of the coolant in its entries. -/
def State.coolantEntered (s : State) (flow : Nat) (inlet outlet : Int) : State :=
  ((s.setOb 0x2530 1 (flow : Nat)).setOb 0x2530 2 inlet).setOb 0x2530 3 outlet

theorem State.coolantEntered_ob (s : State) (f : Nat) (i o : Int) :
    let u := s.coolantEntered f i o
    u.ob 0x2530 1 = f ∧ u.ob 0x2530 2 = i ∧ u.ob 0x2530 3 = o := by
  refine ⟨?_, ?_, ?_⟩ <;> simp (disch := decide) only [coolantEntered, State.ob_setOb_ne, State.ob_setOb_same]

/-- The state with a reading of the coolant entered and the limits that follow from it, before the cap is applied. -/
def State.coolantRead (s : State) (flow : Nat) (inlet outlet : Int) (sensorOk : Bool) : State :=
  let u := s.coolantEntered flow inlet outlet
  let v := if !sensorOk && u.power.limSensor.isNone then u.logEvent .module 0x2530 1 flow flow else u
  let w := if inlet < 170 then v.logEvent .module 0x2530 2 (logVal inlet) (logVal inlet) else v
  { w with power := { w.power with
    limSensor := if sensorOk then none else some 12000
    limFlow := if sensorOk ∧ flow < 150 then some (110 * flow) else none
    limInlet := if 400 ≤ inlet ∧ inlet ≤ 450 then some (100 * (inlet - 400)).toNat else none } }

theorem exec_coolantReading (hon : s.on = true) (f : Nat) (i o : Int) (ok : Bool) : exec (.coolantReading f i o ok) s =
    .next (let t := (s.coolantRead f i o ok).applyCap
      if ok ∧ f < 60 then { t.latchSafe none with power := { (t.latchSafe none).power with hbmOff := true } }
      else if 450 < i then t.latchSafe none
      else t) :=
  State.next_of_on hon _

/-- The reading is entered, and what else it makes of the module is limits of the cap and warnings in the log. -/
theorem State.coolantRead_frame (s : State) (f : Nat) (i o : Int) (ok : Bool) :
    let t := s.coolantRead f i o ok
    t.obj = (s.coolantEntered f i o).obj ∧ t.dev = s.dev ∧ t.mem = s.mem ∧ t.row = s.row := by
  let u := s.coolantEntered f i o
  have hlog (c : Prop) [Decidable c] (v : State) (j a b : Nat) : v.recorded (if c then v.logEvent .module 0x2530 j a b else v) :=
    iteInduction (fun _ => v.logEvent_recorded ..) (fun _ => .refl v)
  have hw := (hlog (!ok && u.power.limSensor.isNone) u 1 f f).trans (hlog (i < 170) _ 2 (logVal i) (logVal i))
  exact ⟨hw.obj, hw.dev, hw.mem, hw.row⟩

/-- A flow below 15.0 L/min is a limit of the cap. -/
theorem State.coolantRead_limFlow (s : State) {f : Nat} (i o : Int) (h : f < 150) :
    (110 * f, 3) ∈ (s.coolantRead f i o true).capLimits := by
  simp [coolantRead, capLimits, h]

theorem exec_coolantReading_limits (hon : s.on = true) {f : Nat} {i : Int} (o : Int) (hf : 60 ≤ f) (hlow : f < 150) (hi : i ≤ 450) :
    ∃ t, exec (.coolantReading f i o true) s = .next t ∧ t.nat 0x2530 1 = f ∧ t.ob 0x2530 2 = i ∧ t.ob 0x2530 3 = o ∧
      t.nat 0x2500 2 ≤ 110 * f ∧ t.dev = s.dev ∧ t.mem = s.mem ∧ t.row = s.row := by
  let u := s.coolantRead f i o true
  have hx : exec (.coolantReading f i o true) s = .next u.applyCap := by
    rw [exec_coolantReading hon, if_neg fun h => Nat.not_lt.mpr hf h.2, if_neg (Int.not_lt.mpr hi)]
  obtain ⟨hobj, hdev, hmem, hrow⟩ := s.coolantRead_frame f i o true
  obtain ⟨hflow, hinlet, houtlet⟩ := s.coolantEntered_ob f i o
  have hread (j : Nat) (hj : okey 0x2530 j ≠ okey 0x2500 2) : u.applyCap.ob 0x2530 j = (s.coolantEntered f i o).ob 0x2530 j :=
    (u.applyCap_ob hj).trans (State.ob_of_obj_eq hobj ..)
  have hu := u.applyCap_recorded
  refine ⟨_, hx, ?_, (hread 2 (by decide)).trans hinlet, (hread 3 (by decide)).trans houtlet, ?_, hu.dev.trans hdev, hu.mem.trans hmem,
    hu.row.trans hrow⟩
  · exact congrArg Int.toNat ((hread 1 (by decide)).trans hflow)
  · rw [u.applyCap_capApplied]
    exact State.capNow_le (s.coolantRead_limFlow i o hlow)

/-- Below 6.0 L/min a fault is latched, and the HBM rails go off. -/
theorem exec_coolantReading_starves (hon : s.on = true) (hsafe : s.dev ≠ .safe) (hoff : s.dev ≠ .off) {f : Nat} (i o : Int)
    (hf : f < 60) : ∃ t, exec (.coolantReading f i o true) s = .next t ∧ t.latchedSafe ∧ t.power.hbmOff = true := by
  let u := (s.coolantRead f i o true).applyCap
  let v := u.latchSafe none
  have hx : exec (.coolantReading f i o true) s = .next { v with power := { v.power with hbmOff := true } } := by
    rw [exec_coolantReading hon, if_pos ⟨rfl, hf⟩]
  have hdev : u.dev = s.dev := (State.applyCap_recorded _).dev.trans (s.coolantRead_frame f i o true).2.1
  have hv : v.latchedSafe := State.latchSafe_latchedSafe none (hdev ▸ hsafe) (hdev ▸ hoff)
  exact ⟨_, hx, hv, rfl⟩

/-! ### A latched fault (R317, R431) -/

theorem exec_safeEntry (hon : s.on = true) (c : Nat) : exec (.safeEntry c) s = .next (s.latchSafe (some c)) := State.next_of_on hon _

theorem exec_safeEntry_latches (hon : s.on = true) (hsafe : s.dev ≠ .safe) (hoff : s.dev ≠ .off) {c : Nat} (hc : c < 65536) :
    ∃ t, exec (.safeEntry c) s = .next t ∧ t.latchedSafe ∧ t.nat 0x2200 3 = c :=
  ⟨_, exec_safeEntry hon c, State.latchSafe_latchedSafe _ hsafe hoff, (State.latchSafe_safeCause c hsafe hoff).trans (Nat.mod_eq_of_lt hc)⟩

theorem exec_safeEntry_stays (hon : s.on = true) (hsafe : s.dev = .safe) (c : Nat) : exec (.safeEntry c) s = .next s :=
  (exec_safeEntry hon c).trans (congrArg Host.Outcome.next (if_pos (.inl hsafe)))

/-! ### A cap that is not attained (R304) -/

theorem exec_capUnattainable_counts (hon : s.on = true) (h : s.unattainable = true) : ∃ t, exec .capUnattainable s = .next t ∧
    t.nat 0x2500 0x13 = (s.addOb 0x2500 0x13 1).nat 0x2500 0x13 ∧ t.mem = s.mem ∧ t.row = s.row ∧ t.dev = s.dev := by
  have hlog := (s.addOb 0x2500 0x13 1).logEvent_recorded .module 0x2500 0x13 (s.nat 0x2500 0x13) (s.nat 0x2500 0x13 + 1)
  exact ⟨_, (State.next_of_on hon _).trans (congrArg Host.Outcome.next (if_pos h)), hlog.nat .., hlog.mem, hlog.row, hlog.dev⟩

theorem exec_capUnattainable_attained (hon : s.on = true) (h : s.unattainable = false) : exec .capUnattainable s = .next s :=
  (State.next_of_on hon _).trans (congrArg Host.Outcome.next (if_neg (by simp [h])))

/-! ### The pre-ramp (R308 to R311) -/

/-- The feed group of a module alone has its own plans, and misses none. -/
theorem State.groupPlans_alone (h : s.feedPeers = []) (row : Nat) :
    s.groupPlans row = ([(s.ownPlan row, s.ownPlan (row + 1), s.nat 0x2500 7)], true) := by
  simp [groupPlans, h]

theorem exec_preRamp_none (hon : s.on = true) (hmode : s.nat 0x2500 0x0F ≠ 2) : exec .preRamp s = .next s :=
  (State.next_of_on hon _).trans (congrArg Host.Outcome.next (if_pos hmode))

/-- With a higher plan for the next row, and no other member of the feed group, the target rises to it. -/
theorem exec_preRamp_rises (hon : s.on = true) (hmode : s.nat 0x2500 0x0F = 2) (hpeers : s.feedPeers = [])
    (hplan : s.ownPlan s.row.num < s.ownPlan (s.row.num + 1)) : ∃ t ns, exec .preRamp s = .next t ∧
      t = { s with power := { s.power with
        preRamp := some { at_ := s.now, tr := ns, from_ := s.ownPlan s.row.num, to_ := s.ownPlan (s.row.num + 1) }
        downSlope := none } } := by
  let cur := s.ownPlan s.row.num
  let nxt := s.ownPlan (s.row.num + 1)
  let ramp : PreRamp := { at_ := s.now, tr := rampNs [(cur, nxt, s.nat 0x2500 7)] (s.nat 0x2500 0x0E), from_ := cur, to_ := nxt }
  have hx : exec .preRamp s = .next { s with power := { s.power with preRamp := some ramp, downSlope := none } } := by
    refine (State.next_of_on hon _).trans (congrArg Host.Outcome.next ((if_neg (by simp [hmode])).trans ?_))
    have hup : 0 + cur < 0 + nxt := by omega
    have hnot : ¬ (0 + nxt < 0 + cur ∧ s.nat 0x2500 0x0E ≠ 0) := by omega
    simp only [State.groupPlans_alone hpeers, if_true, List.foldl_cons, List.foldl_nil]
    rw [if_pos hup, if_neg hnot]
  exact ⟨_, _, hx, rfl⟩

end

/-- Settles O43: each reading is entered and limits the cap or latches SAFE; the pre-ramp is the module's own plan for the next row. -/
theorem protectionLimitsTheCap : Obligations.ProtectionLimitsTheCap := by
  intro s hfe
  have hon : s.on = true := by simp [State.on, hfe]
  refine ⟨fun h hwarm hcool => exec_hbmTempRead_warm hon hwarm hcool, fun f i o hf hlow _ hi => exec_coolantReading_limits hon o hf hlow hi,
    exec_capUnattainable_counts hon, exec_capUnattainable_attained hon, exec_preRamp_none hon, exec_preRamp_rises hon,
    fun hsafe hoff => ⟨fun h hhot => exec_hbmTempRead_hot hon hsafe hoff hhot,
      fun f i o hf => exec_coolantReading_starves hon hsafe hoff i o hf, fun c hc => exec_safeEntry_latches hon hsafe hoff hc⟩,
    fun hsafe c => exec_safeEntry_stays hon hsafe c⟩

end Sys2Proof.Machine

/-!
PROOFS. Regions (R288 to R292, R296, R300 to R304, R312): what each loop makes of its own region, the shares of the cap, and what trips a
region's converter group.
-/
namespace Sys2Proof.Machine

theorem State.onRegion_on {s : State} {r : Nat} (hon : s.on = true) (hr : r < 42) (f : State → State) : s.onRegion r f = .next (f s) :=
  s.unit_on _ _ (decide_eq_true hr) hon f

/-! ### Cap and bubbles (R302, R303) -/

/-- Above a share there is, the limit falls by 64ths of the excess, and by one at least (R302). -/
theorem Reg.capStep_above (k : Reg) {w sh : Nat} (h : sh < w) (hsh : 0 < sh) :
    k.capStep w sh = { k with capN := max 4 (k.capN - max 1 (cdiv (64 * (w - sh)) sh)), capUs := 0 } := by
  rw [capStep, if_pos h, if_neg hsh.ne']

/-- Above a share there is, bubbles are added by the gain (R303). -/
theorem Reg.bubbleStep_above (k : Reg) {w sh : Nat} (gain : Nat) (h : sh < w) (hsh : 0 < sh) :
    k.bubbleStep w sh gain = { k with bub := min 60 (k.bub + gain * 8 * (w - sh) / sh) } := by
  rw [bubbleStep, if_pos h, if_neg hsh.ne']

section
variable {s : State} {r : Nat}

theorem exec_capLoopUpdate_above (hon : s.on = true) (hr : r < 42) {w : Nat} (h : s.nat (0x3000 + r) 0x25 < w)
    (hsh : 0 < s.nat (0x3000 + r) 0x25) (hb : s.bubbling = false) :
    let sh := s.nat (0x3000 + r) 0x25
    exec (.capLoopUpdate r w) s = .next (s.setReg r { s.reg r with
      pin := w, capN := max 4 ((s.reg r).capN - max 1 (cdiv (64 * (w - sh)) sh)), capUs := 0 }) := by
  refine (State.onRegion_on hon hr _).trans (congrArg (fun k => Host.Outcome.next (s.setReg r k)) ?_)
  exact (if_neg (by simp [hb])).trans (Reg.capStep_above _ h hsh)

theorem exec_bubbleLoopUpdate_above (hon : s.on = true) (hr : r < 42) {w : Nat} (h : s.nat (0x3000 + r) 0x25 < w)
    (hsh : 0 < s.nat (0x3000 + r) 0x25) (hb : s.bubbling = true) :
    let sh := s.nat (0x3000 + r) 0x25
    exec (.bubbleLoopUpdate r w) s = .next (s.setReg r { s.reg r with
      pin := w, bub := min 60 ((s.reg r).bub + s.nat 0x2500 5 * 8 * (w - sh) / sh) }) := by
  refine (State.onRegion_on hon hr _).trans (congrArg (fun k => Host.Outcome.next (s.setReg r k)) ?_)
  exact (if_pos hb).trans (Reg.bubbleStep_above _ _ h hsh)

/-! ### Slope and ramp (R296, R300) -/

theorem exec_slopeCeilingUpdate (hon : s.on = true) (hr : r < 42) (rise used : Nat) : exec (.slopeCeilingUpdate r rise used) s =
    .next (s.setReg r { s.reg r with
      slope := if s.nat 0x2500 9 * 10 < rise then max 4 (min 64 used) else min 64 ((s.reg r).slope + 8) }) := by
  have hclamp : clampN 4 64 used = max 4 (min 64 used) := by
    show min 64 (max 4 used) = _
    omega
  rw [← hclamp]
  exact State.onRegion_on hon hr _

theorem exec_rampGovernorStep (hon : s.on = true) (hr : r < 42) (hot : Bool) : exec (.rampGovernorStep r hot) s =
    .next (let u := s.setReg r { s.reg r with ramp := (s.reg r).ramp + 1, rampHalf := false }
      if 64 ≤ (s.reg r).ramp then s
      else if s.neighbourHot r ∧ !(s.reg r).rampHalf then s.setReg r { s.reg r with rampHalf := true }
      else if (s.reg r).ramp + 1 = 64 ∧ u.nat (0x3000 + r) 0x24 = 2 then u.setOb (0x3000 + r) 0x24 0 else u) :=
  State.onRegion_on hon hr _

/-- A step below 64/64 that no hot neighbour holds raises the ceiling. -/
theorem exec_rampGovernorStep_moves (hon : s.on = true) (hr : r < 42) (hot : Bool) (hramp : (s.reg r).ramp < 64)
    (hfree : s.neighbourHot r = false ∨ (s.reg r).rampHalf = true) : exec (.rampGovernorStep r hot) s =
    .next (let u := s.setReg r { s.reg r with ramp := (s.reg r).ramp + 1, rampHalf := false }
      if (s.reg r).ramp + 1 = 64 ∧ s.nat (0x3000 + r) 0x24 = 2 then u.setOb (0x3000 + r) 0x24 0 else u) := by
  have hheld : ¬ (s.neighbourHot r = true ∧ (!(s.reg r).rampHalf) = true) := by
    rcases hfree with h | h <;> simp [h]
  rw [exec_rampGovernorStep hon hr, if_neg (Nat.not_le.mpr hramp), if_neg hheld]
  rfl

theorem exec_rampGovernorStep_rises (hon : s.on = true) (hr : r < 42) (hot : Bool) (hramp : (s.reg r).ramp < 63)
    (hfree : s.neighbourHot r = false ∨ (s.reg r).rampHalf = true) : exec (.rampGovernorStep r hot) s =
    .next (s.setReg r { s.reg r with ramp := (s.reg r).ramp + 1, rampHalf := false }) := by
  rw [exec_rampGovernorStep_moves hon hr hot (by omega) hfree, if_neg (by omega)]

theorem exec_rampGovernorStep_held (hon : s.on = true) (hr : r < 42) (hot : Bool) (hramp : (s.reg r).ramp < 63)
    (hhalf : (s.reg r).rampHalf = false) (hhot : s.neighbourHot r = true) :
    exec (.rampGovernorStep r hot) s = .next (s.setReg r { s.reg r with rampHalf := true }) := by
  rw [exec_rampGovernorStep hon hr, if_neg (by omega), if_pos (by simp [hhalf, hhot])]

/-- At 64/64 a region whose converters ramp is in service. -/
theorem exec_rampGovernorStep_ends (hon : s.on = true) (hr : r < 42) (hot : Bool) (hramp : (s.reg r).ramp = 63)
    (hfree : s.neighbourHot r = false ∨ (s.reg r).rampHalf = true) : ∃ t, exec (.rampGovernorStep r hot) s = .next t ∧
      t.reg r = { s.reg r with ramp := 64, rampHalf := false } ∧ t = { s with regs := t.regs, obj := t.obj } ∧
      (s.nat (0x3000 + r) 0x24 = 2 → t.nat (0x3000 + r) 0x24 = 0) := by
  have hx := exec_rampGovernorStep_moves hon hr hot (by omega) hfree
  rw [hramp] at hx
  refine ⟨_, hx, ?_⟩
  by_cases h2 : s.nat (0x3000 + r) 0x24 = 2
  · rw [if_pos ⟨rfl, h2⟩]
    exact ⟨s.reg_setReg_same .., rfl, fun _ => State.nat_setOb_same _ _ _ 0⟩
  · rw [if_neg fun h => h2 h.2]
    exact ⟨s.reg_setReg_same .., rfl, fun h => absurd h h2⟩

theorem exec_rampGovernorStep_full (hon : s.on = true) (hr : r < 42) (hot : Bool) (hramp : 64 ≤ (s.reg r).ramp) :
    exec (.rampGovernorStep r hot) s = .next s := by
  rw [exec_rampGovernorStep hon hr, if_pos hramp]

/-! ### The target of waste yarn (R312) -/

theorem State.floorTarget_le_share (s : State) (r : Nat) : s.floorTarget r ≤ s.shareDeciA r := min_le_left _ _

theorem State.floorTarget_share (h : s.shareDeciA r ≤ s.nat 0x2500 8 * (s.reg r).meanDeciA / 100) : s.floorTarget r = s.shareDeciA r :=
  min_eq_left (h.trans (le_max_left _ _))

/-- With no row closed and no ramp running, the target falls from the last current by SLOPE. -/
theorem State.floorTarget_falls (hrecent : (s.reg r).recent = []) (hpre : s.power.preRamp = none) (hslope : s.power.downSlope = none) :
    s.floorTarget r = min (s.shareDeciA r) ((s.reg r).lastDeciA - s.nat 0x2500 9 * 10) := by
  simp [floorTarget, Reg.meanDeciA, preRampDeciA, slopeDeciA, hrecent, hpre, hslope]

theorem exec_floorTargetUpdate (hon : s.on = true) (hr : r < 42) (m share pre : Nat) :
    ∃ t, exec (.floorTargetUpdate r m share pre) s = .next t ∧ t = { s with obj := t.obj } ∧ t.nat (0x3000 + r) 0x29 = s.floorTarget r :=
  ⟨_, State.onRegion_on hon hr _, rfl, s.nat_setOb_same ..⟩

/-! ### The shares (R301) -/

/-- The entry of each region of a list is set, and nothing but the dictionary changes. -/
theorem State.foldl_setShare (l : List Nat) (v : Nat) (s : State) :
    let t := l.foldl (fun s r => s.setOb (0x3000 + r) 0x25 (v : Nat)) s
    t = { s with obj := t.obj } ∧ ∀ r, r ∈ l ∨ s.nat (0x3000 + r) 0x25 = v → t.nat (0x3000 + r) 0x25 = v := by
  induction l generalizing s with
  | nil => exact ⟨rfl, fun r h => h.resolve_left (List.not_mem_nil)⟩
  | cons a l ih =>
    obtain ⟨ht, hall⟩ := ih (s.setOb (0x3000 + a) 0x25 (v : Nat))
    refine ⟨ht, fun r h => hall r ?_⟩
    by_cases hra : r = a
    · exact .inr (hra ▸ s.nat_setOb_same ..)
    · have hne : okey (0x3000 + r) 0x25 ≠ okey (0x3000 + a) 0x25 := fun e =>
        hra (Nat.add_left_cancel (okey_inj (by decide) (by decide) e).1)
      rcases h with h | h
      · exact .inl ((List.mem_cons.mp h).resolve_left hra)
      · exact .inr ((s.nat_setOb_ne _ hne).trans h)

theorem exec_capShareUpdate (hon : s.on = true) (hus : s.power.shareUs ≠ 0) (hscale : s.power.shareScale = none)
    (hcarries : s.carriesRegion r = true) (hr : r < 42) (pin pavg regions : Nat) :
    ∃ t, exec (.capShareUpdate pin pavg regions) s = .next t ∧ t.mem = s.mem ∧ t.row = s.row ∧ t.regs = s.regs ∧
      t.nat (0x3000 + r) 0x25 = (s.nat 0x2500 2 - (pin - regions)) / max 1 s.carrying.length := by
  let u : State := { s with power := { s.power with shareUs := (s.power.shareUs + 1) % 100 } }
  have hshare : u.shareOf pin regions = (s.nat 0x2500 2 - (pin - regions)) / max 1 s.carrying.length := by
    unfold State.shareOf
    rw [show u.power.shareScale = none from hscale]
    rfl
  have hx : exec (.capShareUpdate pin pavg regions) s =
      .next (u.carrying.foldl (fun v r => v.setOb (0x3000 + r) 0x25 (u.shareOf pin regions : Nat)) u) := by
    refine (State.next_of_on hon _).trans (congrArg Host.Outcome.next ?_)
    dsimp only
    rw [if_neg hus]
  obtain ⟨ht, hall⟩ := u.foldl_setShare u.carrying (u.shareOf pin regions)
  have hmem : r ∈ u.carrying := List.mem_filter.mpr ⟨List.mem_range.mpr hr, hcarries⟩
  refine ⟨_, hx, ?_, ?_, ?_, (hall r (.inl hmem)).trans hshare⟩
  all_goals rw [ht]

end

end Sys2Proof.Machine

/-!
PROOFS. What trips a region's converter group (R288 to R291), and the converters of HBM and the ring (R292).
-/
namespace Sys2Proof.Machine

/-! ### A converter group latches off (R290, R291) -/

/-- A region that a running row of a run works on, with its converter group not latched off yet. -/
structure State.regionWorks (s : State) (r : Nat) : Prop where
  dev : s.dev = .running
  phase : s.row.phase = .running
  waste : s.row.waste = false
  now_ : s.map.now = none
  known : s.map.known (.region r) = false
  carries : s.map.carries (.region r) = true
  cstate : s.nat (0x3000 + r) 0x24 < 3

/-- `t` agrees with `s` on the row, the run, the map, memory and the device state. -/
def State.sameWorkAndMap (s t : State) : Prop := t.row = s.row ∧ t.run = s.run ∧ t.map = s.map ∧ t.mem = s.mem ∧ t.dev = s.dev

/-- An attempt that fails from a state alike in its work has failed from this one. -/
theorem State.attemptFailed.of_same {s u t : State} {a : Alarm} (hsame : s.sameWorkAndMap u) (h : u.attemptFailed t a) :
    s.attemptFailed t a := by
  obtain ⟨hrow, hrun, -, hmem, hdev⟩ := hsame
  unfold attemptFailed at h ⊢
  rwa [hrow, hrun, hmem, hdev] at h

section
variable {s : State} {r : Nat}

/-- The group's CSTATE is set, and the rest is recorded (R291). -/
theorem State.latchOff_latches (c : Nat) (h : s.nat (0x3000 + r) 0x24 < 3) :
    (s.latchOff r c).nat (0x3000 + r) 0x24 = c ∧ s.sameWorkAndMap (s.latchOff r c) := by
  let u := s.logEvent .module (0x3000 + r) 0x24 (s.nat (0x3000 + r) 0x24) c
  let v := u.setOb (0x3000 + r) 0x24 (c : Nat)
  have hu : s.recorded u := s.logEvent_recorded ..
  have hv : v.recorded (s.latchOff r c) := by
    rw [latchOff]
    dsimp only
    rw [if_neg (Nat.not_le.mpr h)]
    exact State.signature_recorded _ rfl
  exact ⟨(hv.nat _ _).trans (u.nat_setOb_same ..), hv.row.trans hu.row, hv.run.trans hu.run, hv.map.trans hu.map,
    hv.mem.trans hu.mem, hv.dev.trans hu.dev⟩

/-- A trip latches the group off, fails the attempt, and has the region darned. -/
theorem State.trip_loses (c : Nat) (h : s.regionWorks r) :
    s.attemptFailed (s.trip r c) { cause := 0x41, suspects := [.region r] } ∧ (s.trip r c).nat (0x3000 + r) 0x24 = c ∧
      (s.trip r c).map = { s.map with queue := s.map.queue ++ [(.region r, 0x41)] } := by
  obtain ⟨hstate, hsame⟩ := State.latchOff_latches c h.cstate
  obtain ⟨hrow, hrun, hmap, hmem, hdev⟩ := hsame
  let u := s.latchOff r c
  let v := u.setReg r { u.reg r with pin := 0, lastDeciA := 0 }
  have hv : v.dev = .running ∧ v.row.phase = .running ∧ v.row.waste = false ∧ v.map.now = none ∧ v.map.known (.region r) = false ∧
      v.map.carries (.region r) = true := by
    have hvrow : v.row = s.row := hrow
    have hvmap : v.map = s.map := hmap
    rw [hvrow, hvmap]
    exact ⟨hdev.trans h.dev, h.phase, h.waste, h.now_, h.known, h.carries⟩
  obtain ⟨hvdev, hphase, hwaste, hnow, hknown, hcarries⟩ := hv
  obtain ⟨hfailed, hqueued⟩ := State.loseUnit_running { cause := 0x41, suspects := [.region r] } hvdev hphase hwaste hnow hknown hcarries
  have hentry : okey (0x3000 + r) 0x24 ≠ okey 0x2404 5 := okey_ne_of_sub _ _ (by decide) (by decide) (by decide)
  refine ⟨.of_same (u := v) ⟨hrow, hrun, hmap, hmem, hdev⟩ hfailed, ?_, hqueued.trans (by rw [show v.map = s.map from hmap])⟩
  exact (State.loseUnit_nat { cause := 0x41, suspects := [.region r] } hvdev hphase hwaste hnow hcarries hentry).trans hstate

/-! ### Rail samples (R288 to R290) -/

/-- The state with a rail sample in the region's entries. -/
def State.railEntered (s : State) (r deciA mv : Nat) : State :=
  let u := (s.setOb (0x3000 + r) 0x20 (deciA : Nat)).setOb (0x3000 + r) 0x21 (mv : Nat)
  if s.nat (0x3000 + r) 0x22 * 10 < deciA then u.addOb (0x3000 + r) 0x27 1 else u

/-- The region's record after a rail sample, with the warning and trip currents in force. -/
def Reg.sampled (k : Reg) (deciA warnA tripA : Nat) : Reg :=
  let w := k.warned deciA warnA
  { w with
    overTrip := if tripA * 10 < deciA then w.overTrip + 1 else 0
    lastDeciA := deciA, sumDeciA := w.sumDeciA + deciA, samples := w.samples + 1 }

theorem Reg.sampled_overTrip (k : Reg) (a w t : Nat) : (k.sampled a w t).overTrip = if t * 10 < a then k.overTrip + 1 else 0 := by
  have hwarned : (k.warned a w).overTrip = k.overTrip := by
    unfold warned
    repeat' split
    all_goals rfl
  rw [← hwarned]
  rfl

/-- The sample's entries read back; OCTRIP and CSTATE stand. -/
theorem State.railEntered_nat (s : State) (r a mv : Nat) :
    let t := s.railEntered r a mv
    t = { s with obj := t.obj } ∧ t.nat (0x3000 + r) 0x20 = a ∧ t.nat (0x3000 + r) 0x21 = mv ∧
      t.nat (0x3000 + r) 0x23 = s.nat (0x3000 + r) 0x23 ∧ t.nat (0x3000 + r) 0x24 = s.nat (0x3000 + r) 0x24 := by
  let u := (s.setOb (0x3000 + r) 0x20 (a : Nat)).setOb (0x3000 + r) 0x21 (mv : Nat)
  have hne (i j : Nat) (hi : i < 256) (hj : j < 256) (h : i ≠ j) : okey (0x3000 + r) i ≠ okey (0x3000 + r) j :=
    okey_ne_of_sub _ _ hi hj h
  have hu (j : Nat) (hj : j < 256) (h0 : j ≠ 0x20) (h1 : j ≠ 0x21) : u.nat (0x3000 + r) j = s.nat (0x3000 + r) j :=
    (State.nat_setOb_ne _ _ (hne j 0x21 hj (by decide) h1)).trans (s.nat_setOb_ne _ (hne j 0x20 hj (by decide) h0))
  have hcurrent : u.nat (0x3000 + r) 0x20 = a :=
    (State.nat_setOb_ne _ _ (hne 0x20 0x21 (by decide) (by decide) (by decide))).trans (s.nat_setOb_same ..)
  have hvoltage : u.nat (0x3000 + r) 0x21 = mv := State.nat_setOb_same ..
  have hcount (j : Nat) (hj : j < 256) (h7 : j ≠ 0x27) : (s.railEntered r a mv).nat (0x3000 + r) j = u.nat (0x3000 + r) j :=
    iteInduction (motive := fun t : State => t.nat (0x3000 + r) j = u.nat (0x3000 + r) j)
      (fun _ => u.nat_addOb_ne 1 (hne j 0x27 hj (by decide) h7)) (fun _ => rfl)
  refine ⟨?_, (hcount _ (by decide) (by decide)).trans hcurrent, (hcount _ (by decide) (by decide)).trans hvoltage,
    (hcount _ (by decide) (by decide)).trans (hu _ (by decide) (by decide) (by decide)),
    (hcount _ (by decide) (by decide)).trans (hu _ (by decide) (by decide) (by decide))⟩
  exact iteInduction (motive := fun t : State => t = { s with obj := t.obj }) (fun _ => rfl) (fun _ => rfl)

/-- The state with a rail sample entered and taken into the region's record. -/
def State.railSampled (s : State) (r a mv : Nat) : State :=
  let u := s.railEntered r a mv
  u.setReg r ((u.reg r).sampled a (s.nat (0x3000 + r) 0x22) (u.nat (0x3000 + r) 0x23))

theorem exec_regionRailSample (hon : s.on = true) (hr : r < 42) (a mv : Nat) : exec (.regionRailSample r a mv) s =
    .next (let u := s.railEntered r a mv
      let t := s.railSampled r a mv
      if 4 ≤ ((u.reg r).sampled a (s.nat (0x3000 + r) 0x22) (u.nat (0x3000 + r) 0x23)).overTrip then
        (t.setReg r { t.reg r with overTrip := 0 }).trip r 3
      else t) :=
  State.onRegion_on hon hr _

/-- The count of averages above OCTRIP decides. -/
theorem exec_regionRailSample_count (hon : s.on = true) (hr : r < 42) (a mv : Nat) : exec (.regionRailSample r a mv) s =
    .next (let t := s.railSampled r a mv
      if 4 ≤ (if s.nat (0x3000 + r) 0x23 * 10 < a then (s.reg r).overTrip + 1 else 0) then
        (t.setReg r { t.reg r with overTrip := 0 }).trip r 3
      else t) := by
  obtain ⟨ht, -, -, htrip, -⟩ := s.railEntered_nat r a mv
  have hreg : (s.railEntered r a mv).reg r = s.reg r := by rw [ht]; rfl
  rw [exec_regionRailSample hon hr]
  dsimp only
  rw [Reg.sampled_overTrip, htrip, hreg]

/-- The sample is entered, and taken into the region's record and no other. -/
theorem State.railSampled_frame (s : State) (r a mv : Nat) :
    let t := s.railSampled r a mv
    t.nat (0x3000 + r) 0x20 = a ∧ t.nat (0x3000 + r) 0x21 = mv ∧ t = { s with obj := t.obj, regs := t.regs } ∧
      (t.reg r).lastDeciA = a ∧
      (t.reg r).overTrip = (if s.nat (0x3000 + r) 0x23 * 10 < a then (s.reg r).overTrip + 1 else 0) ∧
      t.nat (0x3000 + r) 0x24 = s.nat (0x3000 + r) 0x24 := by
  obtain ⟨ht, hcurrent, hvoltage, htrip, hstate⟩ := s.railEntered_nat r a mv
  have hreg : (s.railEntered r a mv).reg r = s.reg r := by rw [ht]; rfl
  refine ⟨hcurrent, hvoltage, ?_, ?_, ?_, hstate⟩
  · exact congrArg (fun v : State => { v with regs := (s.railSampled r a mv).regs }) ht
  · rw [railSampled, State.reg_setReg_same]
    rfl
  · rw [railSampled, State.reg_setReg_same, Reg.sampled_overTrip, htrip, hreg]

theorem exec_regionRailSample_stays (hon : s.on = true) (hr : r < 42) {a : Nat} (mv : Nat)
    (h : a ≤ s.nat (0x3000 + r) 0x23 * 10 ∨ (s.reg r).overTrip < 3) : exec (.regionRailSample r a mv) s = .next (s.railSampled r a mv) := by
  have hfew : ¬ 4 ≤ (if s.nat (0x3000 + r) 0x23 * 10 < a then (s.reg r).overTrip + 1 else 0) := by
    split <;> omega
  rw [exec_regionRailSample_count hon hr]
  exact congrArg Host.Outcome.next (if_neg hfew)

/-- The fourth average above OCTRIP in a row trips the region. -/
theorem exec_regionRailSample_trips (hon : s.on = true) (hr : r < 42) (hw : s.regionWorks r) {a : Nat} (mv : Nat)
    (ha : s.nat (0x3000 + r) 0x23 * 10 < a) (hpast : 3 ≤ (s.reg r).overTrip) : ∃ t, exec (.regionRailSample r a mv) s = .next t ∧
      s.attemptFailed t { cause := 0x41, suspects := [.region r] } ∧ t.nat (0x3000 + r) 0x24 = 3 ∧
      t.map = { s.map with queue := s.map.queue ++ [(.region r, 0x41)] } := by
  let u := s.railSampled r a mv
  let v := u.setReg r { u.reg r with overTrip := 0 }
  obtain ⟨-, -, hu, -, -, hstate⟩ := s.railSampled_frame r a mv
  have hsame : s.sameWorkAndMap v := by
    show s.sameWorkAndMap (u.setReg r _)
    rw [show u = { s with obj := u.obj, regs := u.regs } from hu]
    exact ⟨rfl, rfl, rfl, rfl, rfl⟩
  have ⟨hrow, _, hmap, _, hdev⟩ := hsame
  have hv : v.regionWorks r := ⟨hdev.trans hw.dev, hrow ▸ hw.phase, hrow ▸ hw.waste, hmap ▸ hw.now_, hmap ▸ hw.known, hmap ▸ hw.carries,
    lt_of_eq_of_lt hstate hw.cstate⟩
  obtain ⟨hfailed, hlatched, hqueued⟩ := State.trip_loses 3 hv
  have hx : exec (.regionRailSample r a mv) s = .next (v.trip r 3) := by
    rw [exec_regionRailSample_count hon hr, if_pos ha, if_pos (by omega)]
  exact ⟨_, hx, .of_same hsame hfailed, hlatched, hmap ▸ hqueued⟩

/-! ### Converters (R292) -/

theorem exec_converterPhaseFail (hon : s.on = true) {c : Nat} (hc : c < 5) (p : Nat) : exec (.converterPhaseFail c p) s =
    .next (let u : State := { s with power := { s.power with convFailed := s.power.convFailed ++ [(c, p)] } }
      let v := u.logEvent .module 0x2500 3 0 (c * 256 + p)
      if s.power.convFailed.contains (c, p) then s
      else if s.power.convFailed.any (fun e => e.1 == c) then v.latchSafe none else v) :=
  s.unit_on _ _ (decide_eq_true hc) hon _

/-- The first failed phase of a converter is noted and logged. -/
theorem exec_converterPhaseFail_first (hon : s.on = true) {c : Nat} (hc : c < 5) (p : Nat) (hnone : ∀ e ∈ s.power.convFailed, e.1 ≠ c) :
    ∃ t, exec (.converterPhaseFail c p) s = .next t ∧ t.power.convFailed = s.power.convFailed ++ [(c, p)] ∧ t.dev = s.dev ∧
      t.mem = s.mem ∧ t.row = s.row := by
  let u : State := { s with power := { s.power with convFailed := s.power.convFailed ++ [(c, p)] } }
  let v := u.logEvent .module 0x2500 3 0 (c * 256 + p)
  have hnew : ¬ s.power.convFailed.contains (c, p) = true := fun h => hnone _ (List.contains_iff_mem.mp h) rfl
  have hfirst : ¬ s.power.convFailed.any (fun e => e.1 == c) = true := by simpa using fun q h => hnone (c, q) h rfl
  have hx : exec (.converterPhaseFail c p) s = .next v := by rw [exec_converterPhaseFail hon hc, if_neg hnew, if_neg hfirst]
  have hv : u.entriesLogged v := u.logEvent_logged ..
  obtain ⟨hmem, -, -, hrow, -, hdev, -⟩ := hv.inputStands
  exact ⟨v, hx, congrArg Power.convFailed hv.power, hdev, hmem, hrow⟩

/-- The second is a latched fault. -/
theorem exec_converterPhaseFail_second (hon : s.on = true) {c : Nat} (hc : c < 5) {p p' : Nat} (hother : (c, p') ∈ s.power.convFailed)
    (hnew : (c, p) ∉ s.power.convFailed) (hsafe : s.dev ≠ .safe) (hoff : s.dev ≠ .off) :
    ∃ t, exec (.converterPhaseFail c p) s = .next t ∧ t.latchedSafe := by
  let u : State := { s with power := { s.power with convFailed := s.power.convFailed ++ [(c, p)] } }
  let v := u.logEvent .module 0x2500 3 0 (c * 256 + p)
  have hsecond : s.power.convFailed.any (fun e => e.1 == c) = true := List.any_eq_true.mpr ⟨_, hother, beq_self_eq_true c⟩
  have hx : exec (.converterPhaseFail c p) s = .next (v.latchSafe none) := by
    rw [exec_converterPhaseFail hon hc, if_neg (fun h => hnew (List.contains_iff_mem.mp h)), if_pos hsecond]
  have hdev : v.dev = s.dev := (u.logEvent_recorded ..).dev
  exact ⟨_, hx, State.latchSafe_latchedSafe none (hdev ▸ hsafe) (hdev ▸ hoff)⟩

end

/-- Settles O42: each loop is one step of the region's own record, and each trip goes through `trip`. -/
theorem regionLoopsAndTrips : Obligations.RegionLoopsAndTrips := by
  constructor
  · intro s r hfe hr
    have hon : s.on = true := by simp [State.on, hfe]
    refine ⟨fun w h hsh hb => exec_capLoopUpdate_above hon hr h hsh hb, fun w h hsh hb => exec_bubbleLoopUpdate_above hon hr h hsh hb,
      exec_slopeCeilingUpdate hon hr, exec_rampGovernorStep_rises hon hr, exec_rampGovernorStep_held hon hr,
      exec_rampGovernorStep_ends hon hr, exec_rampGovernorStep_full hon hr, fun m share pre => ?_,
      fun pin pavg regions hus hscale hcarries => exec_capShareUpdate hon hus hscale hcarries hr pin pavg regions⟩
    obtain ⟨t, hx, ht, htarget⟩ := exec_floorTargetUpdate hon hr m share pre
    exact ⟨t, hx, ht, htarget ▸ s.floorTarget_le_share r, fun h => htarget.trans (State.floorTarget_share h),
      fun hrecent hpre hslope => htarget.trans (State.floorTarget_falls hrecent hpre hslope)⟩
  · intro s r hfe hr
    have hon : s.on = true := by simp [State.on, hfe]
    refine ⟨fun a mv h => ?_, fun hdev hphase hwaste hnow hknown hcarries hstate => ?_,
      fun c hc p hnone => exec_converterPhaseFail_first hon hc p hnone,
      fun c hc p p' hother hnew hsafe hoff => exec_converterPhaseFail_second hon hc hother hnew hsafe hoff⟩
    · obtain ⟨hcurrent, hvoltage, ht, hlast, hcount, -⟩ := s.railSampled_frame r a mv
      exact ⟨_, exec_regionRailSample_stays hon hr mv h, hcurrent, hvoltage, ht, hlast, hcount⟩
    · have hw : s.regionWorks r := ⟨hdev, hphase, hwaste, hnow, hknown, hcarries, hstate⟩
      exact ⟨⟨_, State.onRegion_on hon hr _, State.trip_loses 4 hw⟩, ⟨_, State.onRegion_on hon hr _, State.trip_loses 6 hw⟩,
        fun a mv ha hpast => exec_regionRailSample_trips hon hr hw mv ha hpast⟩

end Sys2Proof.Machine

/-!
PROOFS. Cast-on (R321 to R335): what time and recording leave of a start, how a step begins, how one ends in time, and what becomes of a
start whose step hangs.
-/
namespace Sys2Proof.Machine

/-! ### Tables and memory -/

/-- A table that lists a value for each of some keys finds it there. -/
theorem Tab.get?_map_key {α : Type} (f : Nat → α) {l : List Nat} {k : Nat} (hk : k ∈ l) :
    Tab.get? (l.map (fun i => (i, f i))) k = some (f k) := by
  induction l with
  | nil => cases hk
  | cons i l ih =>
    by_cases hi : i = k
    · simp [Tab.get?, hi]
    · have hl : k ∈ l := (List.mem_cons.mp hk).resolve_left (Ne.symm hi)
      simp [Tab.get?, hi, ih hl]

/-- HBM reads zero after step 5, and the scratchpads as before (R323). -/
theorem read_zeroHbm (m : Mem) (a : Nat) : (zeroHbm m).read a = if a < hbmEnd then 0 else m.read a := by
  have hget : Tab.get? (zeroHbm m) a = if decide (hbmEnd ≤ a) = true then Tab.get? m a else none :=
    Tab.get?_filter m (fun k => decide (hbmEnd ≤ k)) a
  by_cases ha : a < hbmEnd
  · simp [Mem.read, Tab.getD, hget, Nat.not_le.mpr ha]
  · simp [Mem.read, Tab.getD, hget, ha, Nat.not_lt.mp ha]

/-- An entry that a filter of the dictionary keeps reads as before. -/
theorem State.nat_of_obj_filter {s t : State} {p : Nat → Bool} (h : t.obj = s.obj.filter (fun e => p e.1)) {i j : Nat}
    (hp : p (okey i j) = true) : t.nat i j = s.nat i j := by
  have hget : Tab.get? t.obj (okey i j) = Tab.get? s.obj (okey i j) := by rw [h, Tab.get?_filter, if_pos hp]
  simp [nat, ob, hget]

/-! ### What time and recording leave of a start -/

/-- `t` is at the same step of the same start as `s`: its device state, memory, cells, STEP, FAILEDRUN, whether step 3 has ended, and a
latched release press are those of `s`. -/
structure State.sameStep (s t : State) : Prop where
  dev : t.dev = s.dev
  mem : t.mem = s.mem
  cells : t.cells = s.cells
  step3done : t.start.step3done = s.start.step3done
  release : t.fe.releaseLatched = s.fe.releaseLatched
  step : t.castStep = s.castStep
  failedRun : t.nat 0x2D00 4 = s.nat 0x2D00 4

namespace State.sameStep

variable {s t u : State}

theorem refl (s : State) : s.sameStep s := ⟨rfl, rfl, rfl, rfl, rfl, rfl, rfl⟩

theorem trans (h : s.sameStep t) (h' : t.sameStep u) : s.sameStep u :=
  ⟨h'.dev.trans h.dev, h'.mem.trans h.mem, h'.cells.trans h.cells, h'.step3done.trans h.step3done, h'.release.trans h.release,
    h'.step.trans h.step, h'.failedRun.trans h.failedRun⟩

theorem ite {c : Prop} [Decidable c] (ht : s.sameStep t) (hu : s.sameStep u) : s.sameStep (if c then t else u) :=
  iteInduction (fun _ => ht) (fun _ => hu)

theorem of_recorded (h : s.recorded t) (h3 : t.start.step3done = s.start.step3done) : s.sameStep t :=
  ⟨h.dev, h.mem, h.cells, h3, congrArg FrontEnd.releaseLatched h.fe, h.nat .., h.nat ..⟩

/-- An entry other than STEP and FAILEDRUN. -/
theorem of_setOb (s : State) {i j : Nat} (v : Int) (h2 : okey 0x2D00 2 ≠ okey i j) (h4 : okey 0x2D00 4 ≠ okey i j) :
    s.sameStep (s.setOb i j v) :=
  ⟨rfl, rfl, rfl, rfl, rfl, s.nat_setOb_ne v h2, s.nat_setOb_ne v h4⟩

/-- A change that the dictionary has no part in. -/
theorem of_obj_eq (hobj : t.obj = s.obj) (hdev : t.dev = s.dev) (hmem : t.mem = s.mem) (hcells : t.cells = s.cells)
    (h3 : t.start.step3done = s.start.step3done) (hrelease : t.fe.releaseLatched = s.fe.releaseLatched) : s.sameStep t :=
  ⟨hdev, hmem, hcells, h3, hrelease, nat_of_obj_eq hobj .., nat_of_obj_eq hobj ..⟩

theorem of_modFlash (s : State) (f : Flash → Flash) : s.sameStep (s.modFlash f) := of_obj_eq rfl rfl rfl rfl rfl rfl

theorem of_modFe (s : State) {f : FrontEnd → FrontEnd} (hf : (f s.fe).releaseLatched = s.fe.releaseLatched) : s.sameStep (s.modFe f) :=
  of_obj_eq rfl rfl rfl rfl rfl hf

end State.sameStep

theorem State.log_sameStep (s : State) (o : Origin) (result idx sub old req app flags : Nat) :
    s.sameStep (s.log o result idx sub old req app flags) := by
  refine .of_recorded (s.log_recorded ..) ?_
  obtain ⟨_, _, _, _, _, _, h⟩ := s.log_told o result idx sub old req app flags
  rw [h]

theorem State.logEvent_sameStep (s : State) (o : Origin) (idx sub old app : Nat) : s.sameStep (s.logEvent o idx sub old app) :=
  s.log_sameStep ..

theorem State.msix_sameStep (s : State) (v : Nat) : s.sameStep (s.msix v) :=
  .of_recorded (s.msix_recorded v) (congrArg CastOn.step3done (s.msix_start v))

theorem State.signature_sameStep (s : State) (i : SigInfo) : s.sameStep (s.signature i) := by
  unfold signature
  extract_lets seq all _ _ a b
  have ha : s.sameStep a := .of_obj_eq rfl rfl rfl rfl rfl rfl
  have hb : a.sameStep b := .ite (.of_setOb a _ (by decide) (by decide)) (.refl a)
  exact (ha.trans hb).trans (b.msix_sameStep 64)

theorem State.retireForStart_sameStep (s : State) (o : Origin) (d : Defect) : s.sameStep (s.retireForStart o d) :=
  .trans (t := { s with
      start := { s.start with retired := s.start.retired ++ [d] }, flash := { s.flash with owed := s.flash.owed ++ [d] } })
    (.of_obj_eq rfl rfl rfl rfl rfl rfl) (State.log_sameStep ..)

theorem State.appendDefect_sameStep (s : State) (o : Origin) (d : Defect) : s.sameStep (s.appendDefect o d) := by
  unfold appendDefect
  extract_lets e n fin a
  have hput (l : List Defect) : s.sameStep (({ s with flash := { s.flash with defects := l } } : State).logEvent o 0x2301 2 n (n + 1)) :=
    .trans (.of_modFlash s fun f => { f with defects := l }) (State.logEvent_sameStep ..)
  exact .ite (s.retireForStart_sameStep ..) (.ite (hput _) ((hput _).trans (State.retireForStart_sameStep ..)))

/-- What a step has found is recorded, and the start goes on (R327). -/
theorem State.appendFound_sameStep (s : State) (n : Nat) (d : Defect) : s.sameStep (s.appendFound n d) := by
  have hput (u : State) (d : Defect) (a : Nat) : u.sameStep ((u.appendDefect .castOn d).signDefect d 0 a 1) :=
    (u.appendDefect_sameStep ..).trans (State.signature_sameStep ..)
  unfold appendFound
  extract_lets lost a c
  have ha : s.sameStep a := hput s ..
  exact .ite (ha.trans (hput a ..)) ha

theorem State.journal_sameStep (s : State) (r : JRec) : s.sameStep (s.journal r) := by
  unfold journal
  exact .ite (.of_modFe s rfl) (.of_modFlash s _)

theorem State.journal_regs (s : State) (r : JRec) : (s.journal r).regs = s.regs := by
  unfold journal
  split
  · exact s.modFe_regs _
  · exact s.modFlash_regs _

/-- Blocks that stretch count in their own entries alone, which stand from 0x4000 on (R267). -/
theorem State.stretch_nat (s : State) (ns : Nat) {i j : Nat} (hi : i < 0x4000) (hj : j < 256) : (s.stretch ns).nat i j = s.nat i j := by
  refine foldl_rel (R := fun u v : State => v.nat i j = u.nat i j) (fun _ => rfl) (fun h h' => h'.trans h) (fun u e => ?_) _ s
  have hne (b : Nat) {k : Nat} (hk : k < 256) : okey i j ≠ okey (0x4000 + b) k := by
    simp only [okey]
    omega
  unfold stretchBlock
  split
  · rfl
  · extract_lets k v w
    have hw : w.nat i j = u.nat i j :=
      ((v.addOb _ 0x11 _).nat_addOb_ne _ (hne e.1 (by decide))).trans (v.nat_addOb_ne _ (hne e.1 (by decide)))
    split
    · rfl
    · split
      · exact (w.nat_setOb_ne _ (hne e.1 (by decide))).trans hw
      · exact hw

/-- Of the entries below the blocks', passing time counts in MARCHAGE alone (R326). -/
theorem State.pass_nat (s : State) (ns : Nat) {i j : Nat} (hi : i < 0x4000) (hj : j < 256) (h : okey i j ≠ okey 0x2D00 5) :
    (s.pass ns).nat i j = s.nat i j := by
  unfold pass
  split
  · refine (State.stretch_nat _ ns hi hj).trans ?_
    split
    · rfl
    · exact State.nat_addOb_ne _ _ h
  · rfl

/-- A step lasts, and the start stays at it. -/
theorem State.passStep_sameStep (s : State) (us : Nat) : s.sameStep (s.passStep us) := by
  have hstep := s.pass_nat (s.start.tStep + us * 1000 - s.clock) (i := 0x2D00) (j := 2) (by decide) (by decide) (by decide)
  have hfailed := s.pass_nat (s.start.tStep + us * 1000 - s.clock) (i := 0x2D00) (j := 4) (by decide) (by decide) (by decide)
  obtain ⟨_, _, _, _, hp, -⟩ := s.pass_timePassed (s.start.tStep + us * 1000 - s.clock)
  unfold passStep
  exact ⟨by rw [hp], by rw [hp], by rw [hp], by rw [hp], by rw [hp], hstep, hfailed⟩

/-! ### A step begins -/

theorem State.groupsStart_gated (s : State) {g : Nat} (hg : g < 42) : (s.groupsStart.reg g).gated = true := by
  have h : s.groupsStart.reg g = { s.reg g with gated := true } :=
    congrArg (·.getD {}) (Tab.get?_map_key (fun r => ({ s.reg r with gated := true } : Reg)) (List.mem_range.mpr hg))
  rw [h]

/-- A step begins with STEP at its number, step 2 with every region clock-gated; step 3 and step 10 in mode 2 end in SAFE (R322, R332). -/
theorem State.beginStep_begins (s : State) (n : Nat) :
    ∃ u, (s.setOb 0x2D00 2 n).sameStep u ∧ (n = 2 → ∀ g < 42, (u.reg g).gated = true) ∧
      (s.beginStep n = u ∨
        n = 3 ∧ s.beginStep n = ({ u with dev := .safe, start := { u.start with recovery := true } } : State).setOb 0x2200 3 0x200 ∨
        n = 10 ∧ s.beginStep n = u.latchSafe none) := by
  unfold beginStep
  extract_lets _ a prev mode b c full _ _ d e f
  have hb : (s.setOb 0x2D00 2 n).sameStep b := by
    simp only [b, a]
    split
    · exact .of_obj_eq rfl rfl rfl rfl rfl rfl
    · exact .refl _
  have hc : b.sameStep c := .ite (.refl b) (.of_setOb b _ (by decide) (by decide))
  have hd : c.sameStep d := .of_obj_eq rfl rfl rfl rfl rfl rfl
  have he : d.sameStep e := .ite (.of_obj_eq rfl rfl rfl rfl rfl rfl) (.refl d)
  have hf : e.sameStep f := e.journal_sameStep _
  refine ⟨f, (((hb.trans hc).trans hd).trans he).trans hf, fun h2 g hg => ?_, ?_⟩
  · have hreg : f.reg g = e.reg g := congrArg (fun rg : Tab Reg => Tab.getD rg g {}) (e.journal_regs _)
    rw [hreg, show e = d.groupsStart from if_pos h2]
    exact d.groupsStart_gated hg
  · split
    · next h => exact .inr (.inl ⟨h.1, rfl⟩)
    · split
      · next h => exact .inr (.inr ⟨h.1, rfl⟩)
      · exact .inl rfl

/-- STEP is the step that has begun. -/
theorem State.beginStep_castStep (s : State) (n : Nat) : (s.beginStep n).castStep = n := by
  obtain ⟨u, hu, -, h⟩ := s.beginStep_begins n
  have hstep : u.castStep = n := hu.step.trans (s.nat_setOb_same ..)
  rcases h with h | ⟨-, h⟩ | ⟨-, h⟩
  · rw [h, hstep]
  · rw [h]
    exact (State.nat_setOb_ne _ _ (by decide)).trans hstep
  · rw [h]
    exact (u.latchSafe_nat none (by decide) (by decide) (by decide)).trans hstep

/-- A step without a mode 2 of its own begins as the start goes on. -/
theorem State.beginStep_sameStep (s : State) {n : Nat} (h3 : n ≠ 3) (h10 : n ≠ 10) : (s.setOb 0x2D00 2 n).sameStep (s.beginStep n) := by
  obtain ⟨u, hu, -, h⟩ := s.beginStep_begins n
  obtain h | ⟨h, -⟩ | ⟨h, -⟩ := h
  · rwa [h]
  · exact absurd h h3
  · exact absurd h h10

theorem State.beginStep_two_gated (s : State) {g : Nat} (hg : g < 42) : ((s.beginStep 2).reg g).gated = true := by
  obtain ⟨u, -, hgated, h⟩ := s.beginStep_begins 2
  obtain h | ⟨h, -⟩ | ⟨h, -⟩ := h
  · rw [h]
    exact hgated rfl g hg
  · cases h
  · cases h

/-! ### A step ends in time -/

theorem State.dropTokens_sameStep (s : State) : s.sameStep s.dropTokens := by
  have hset (u : State) (o : Origin) : u.sameStep (u.setToken o none) := by
    cases o <;> exact .of_obj_eq rfl rfl rfl rfl rfl rfl
  have hdrop (u : State) (o : Origin) : u.sameStep (u.dropToken o) := by
    unfold dropToken
    extract_lets was v
    exact .ite ((hset u o).trans (v.logEvent_sameStep ..)) (hset u o)
  exact ((hdrop s .can).trans (hdrop _ .cxl)).trans (hdrop _ .usb)

/-- What step 3 logs is of what came before it; a release press stays latched (R23, R414, R445, R473). -/
theorem State.step3Logs_sameStep (s : State) (newest : Nat) (lost : Bool) : s.sameStep (s.step3Logs newest lost) := by
  unfold step3Logs
  extract_lets a b c d e f
  have ha : s.sameStep a := .ite (s.log_sameStep ..) (.refl s)
  have hb : a.sameStep b := a.logEvent_sameStep ..
  have hc : b.sameStep c := .ite ((b.logEvent_sameStep ..).trans (.of_modFe _ rfl)) (.refl b)
  have hd : c.sameStep d := .ite (c.log_sameStep ..) (.refl c)
  have he : d.sameStep e := foldl_rel (R := State.sameStep) .refl .trans (fun u _ => u.log_sameStep ..) _ d
  have hf : e.sameStep f := .ite (.refl e) (e.log_sameStep ..)
  exact (((((ha.trans hb).trans hc).trans hd).trans he).trans hf).trans (.of_modFe f rfl)

theorem State.step3_releaseLatched (s : State) (straps : Nat) : (s.step3 straps).fe.releaseLatched = s.fe.releaseLatched := by
  unfold step3
  extract_lets lost newest close _ _ _ _ _ a b _
  have ha : a.fe.releaseLatched = s.fe.releaseLatched := rfl
  have hb : b.fe.releaseLatched = a.fe.releaseLatched := ((a.step3Logs_sameStep newest lost).trans (State.dropTokens_sameStep _)).release
  exact hb.trans ha

theorem State.stepEffect_two (s : State) (r : StepReport) : s.stepEffect 2 r = s := rfl

theorem State.stepEffect_three (s : State) (r : StepReport) : s.stepEffect 3 r = s.step3 r.straps := rfl

theorem State.stepEffect_five (s : State) (r : StepReport) : s.stepEffect 5 r = { s with mem := zeroHbm s.mem, hbm := {} } := rfl

theorem State.stepEffect_twelve (s : State) (r : StepReport) :
    s.stepEffect 12 r =
      let u := s.endFast.timeBit 4 false
      if r.setTime ≠ 0 ∧ !bit (u.nat 0x2D00 8) 11 then { u with time := { u.time with dev := r.setTime * 65536 } } else u := rfl

theorem State.stepEffect_twelve_mem (s : State) (r : StepReport) : (s.stepEffect 12 r).mem = s.mem := by
  rw [s.stepEffect_twelve]
  extract_lets u
  split
  · rfl
  · rfl

/-- The step that follows begins, unless a release press waits for the end of step 3. -/
theorem State.nextStep_starts {s : State} {n : Nat} (hn : n ≠ 12) (hrelease : n = 3 → s.fe.releaseLatched = false) :
    s.nextStep n = s.beginStep (s.stepAfter n) := by
  have hstays : ¬ (n = 3 ∧ (s.beginStep (s.stepAfter n)).fe.releaseLatched = true) := by
    rintro ⟨rfl, h⟩
    have hkept := (s.beginStep_sameStep (n := 4) (by decide) (by decide)).release
    exact Bool.false_ne_true ((hrelease rfl).symm.trans (hkept.symm.trans h))
  exact (if_neg hn).trans (if_neg hstays)

theorem State.nextStep_twelve (s : State) : s.nextStep 12 = s.enterReady := if_pos rfl

/-- Step 12 leads to READY (R331, R334). -/
theorem State.enterReady_next (s : State) :
    let t := s.enterReady
    t.dev = .ready ∧ t.castStep = 13 ∧ t.nat 0x2D00 4 = 0 ∧ t.row.phase = .waiting ∧ t.row.failed = false ∧ t.mem = s.mem := by
  unfold enterReady
  extract_lets a b rec13 c t m _ _ d u
  obtain ⟨hmoved, hdev, -⟩ := d.enter_moved .ready
  have hc : c.obj = b.obj ∧ c.mem = b.mem := ⟨b.modFlash_obj _, b.modFlash_mem _⟩
  have hd : d.obj = c.obj ∧ d.mem = c.mem := ⟨rfl, rfl⟩
  have hobj : d.obj = b.obj := hd.1.trans hc.1
  have hstep : d.castStep = 13 := (nat_of_obj_eq hobj ..).trans
    ((a.nat_setOb_ne _ (by decide)).trans ((State.nat_setOb_ne _ _ (by decide)).trans (s.nat_setOb_same ..)))
  have hfailed : d.nat 0x2D00 4 = 0 := (nat_of_obj_eq hobj ..).trans (a.nat_setOb_same ..)
  exact ⟨hdev, (hmoved.nat (by decide) (by decide)).trans hstep, (hmoved.nat (by decide) (by decide)).trans hfailed,
    congrArg RowSt.phase hmoved.row, congrArg RowSt.failed hmoved.row, hmoved.mem.trans (hd.2.trans hc.2)⟩

/-- A step that has not failed: once its time has passed and its finds are recorded, it leaves what Table: Cast-on steps says, and hands
over. -/
theorem State.endStep_ended (s : State) {r : StepReport} (hr : r.failed = false) :
    ∃ v, s.sameStep v ∧ s.endStep r = (v.stepEffect s.castStep r).nextStep s.castStep := by
  unfold endStep
  extract_lets n a found b c result v
  have hb : a.sameStep b := .ite (.of_modFlash a _) (.refl a)
  have hc : b.sameStep c := foldl_rel (R := State.sameStep) .refl .trans (fun u d => u.appendFound_sameStep ..) _ b
  exact ⟨v, (((s.passStep_sameStep _).trans hb).trans hc).trans (c.journal_sameStep _), if_neg (by simp [hr])⟩

/-- A step that ends in time hands over to the next; a start that began again from step 2 does not repeat step 3 (R321, R333). -/
theorem State.endStep_castStep {s : State} {r : StepReport} (hr : r.failed = false) (hn : s.castStep < 12)
    (hrelease : s.castStep = 3 → s.fe.releaseLatched = false) : (s.endStep r).castStep = s.stepAfter s.castStep := by
  obtain ⟨v, hv, h⟩ := s.endStep_ended hr
  have hlatched : s.castStep = 3 → (v.stepEffect s.castStep r).fe.releaseLatched = false := fun h3 => by
    rw [h3, v.stepEffect_three]
    exact (v.step3_releaseLatched r.straps).trans (hv.release.trans (hrelease h3))
  rw [h, State.nextStep_starts (Nat.ne_of_lt hn) hlatched, State.beginStep_castStep]
  by_cases h2 : s.castStep = 2
  · have hdone : (v.stepEffect s.castStep r).start.step3done = s.start.step3done := by
      rw [h2, v.stepEffect_two, hv.step3done]
    rw [stepAfter, stepAfter, hdone]
  · simp [stepAfter, h2]

/-- Step 5 leaves HBM reading zero, and the scratchpads as they were (R323). -/
theorem State.endStep_five_mem {s : State} {r : StepReport} (hr : r.failed = false) (h5 : s.castStep = 5) :
    (s.endStep r).mem = zeroHbm s.mem := by
  obtain ⟨v, hv, h⟩ := s.endStep_ended hr
  let w : State := { v with mem := zeroHbm v.mem, hbm := {} }
  have hnext : s.endStep r = w.beginStep 6 := by
    rw [h, h5, v.stepEffect_five]
    exact State.nextStep_starts (by decide) fun h3 => absurd h3 (by decide)
  rw [hnext, (w.beginStep_sameStep (n := 6) (by decide) (by decide)).mem]
  exact congrArg zeroHbm hv.mem

/-- Step 12 ends in READY, and leaves memory as it was (R331, R334). -/
theorem State.endStep_twelve {s : State} {r : StepReport} (hr : r.failed = false) (h12 : s.castStep = 12) :
    let t := s.endStep r
    t.dev = .ready ∧ t.castStep = 13 ∧ t.nat 0x2D00 4 = 0 ∧ t.row.phase = .waiting ∧ t.row.failed = false ∧ t.mem = s.mem := by
  obtain ⟨v, hv, h⟩ := s.endStep_ended hr
  have hready : s.endStep r = (v.stepEffect 12 r).enterReady := by rw [h, h12, State.nextStep_twelve]
  obtain ⟨hdev, hstep, hfailed, hphase, hrow, hmem⟩ := (v.stepEffect 12 r).enterReady_next
  rw [hready]
  exact ⟨hdev, hstep, hfailed, hphase, hrow, hmem.trans ((v.stepEffect_twelve_mem r).trans hv.mem)⟩

/-! ### A step hangs (R333) -/

theorem top_failedRun : Objects.top 0x2D00 4 = 2 ^ 32 - 1 := by decide +kernel

/-- A step that hangs, but for a step 3 that waits for the watchdog, fails its start. -/
theorem State.hangStep_fails {s : State} (b : Option Defect) (h : s.start.step3done = true ∨ s.castStep ≠ 3) :
    ∃ v, s.sameStep v ∧ s.hangStep b = v.failStart := by
  unfold hangStep
  extract_lets u
  have hu : s.sameStep u := s.passStep_sameStep _
  have hfails : ¬ (u.castStep = 3 ∧ (!u.start.step3done) = true) := by
    rw [hu.step, hu.step3done]
    rintro ⟨h3, hdone⟩
    rcases h with h | h
    · simp [h] at hdone
    · exact h h3
  exact ⟨u.journal (u.endRecord 4 b 0), hu.trans (u.journal_sameStep _), if_neg hfails⟩

/-- A start begins again at step 2, with the regions clock-gated, no cells, and memory as it was. -/
theorem State.restartFrom2_next (s : State) :
    let t := s.restartFrom2
    t.castStep = 2 ∧ t.dev = s.dev ∧ t.nat 0x2D00 4 = s.nat 0x2D00 4 ∧ (∀ g < 42, (t.reg g).gated = true) ∧ t.cells = [] ∧
      t.mem = s.mem := by
  let u : State := { s.groupsOff with
    obj := s.obj.filter (fun e => !sinceCastOn e.1)
    regs := [], blks := [], map := {}, cells := [], phys := [], hbm := {}, links := [], engines := [] }
  let v := (u.addOb 0x2D00 3 1).setOb 0x2D00 8 0
  have hu : u.nat 0x2D00 4 = s.nat 0x2D00 4 := nat_of_obj_filter (p := fun k => !sinceCastOn k) rfl (by decide)
  have huv : u.sameStep v := (State.sameStep.of_setOb u _ (by decide) (by decide)).trans (.of_setOb _ _ (by decide) (by decide))
  have ht := v.beginStep_sameStep (n := 2) (by decide) (by decide)
  have hfailed : (v.setOb 0x2D00 2 2).nat 0x2D00 4 = s.nat 0x2D00 4 := (v.nat_setOb_ne _ (by decide)).trans (huv.failedRun.trans hu)
  exact ⟨v.beginStep_castStep 2, ht.dev, ht.failedRun.trans hfailed, fun g hg => v.beginStep_two_gated hg, ht.cells, ht.mem⟩

/-- Once the chip controller runs, a failed start is counted, and begins again or, the third time, ends in SAFE. -/
theorem State.failStart_eq {s : State} (h3 : s.start.step3done = true) (hroom : s.nat 0x2D00 4 ≤ 2) :
    (s.addOb 0x2D00 4 1).nat 0x2D00 4 = s.nat 0x2D00 4 + 1 ∧
      s.failStart = if s.nat 0x2D00 4 = 2 then (s.addOb 0x2D00 4 1).groupsOff.latchSafe none else (s.addOb 0x2D00 4 1).restartFrom2 := by
  have hcount : (s.addOb 0x2D00 4 1).nat 0x2D00 4 = s.nat 0x2D00 4 + 1 := s.nat_addOb_lt (by rw [top_failedRun]; omega)
  refine ⟨hcount, ?_⟩
  rw [failStart, if_pos h3]
  dsimp only
  rw [hcount]
  exact if_congr (by omega) rfl rfl

/-- A step that hangs begins the start again at step 2, with one failed start more, while there are fewer than two. -/
theorem State.hangStep_again {s : State} (b : Option Defect) (h3 : s.start.step3done = true) (hroom : s.nat 0x2D00 4 < 2) :
    let t := s.hangStep b
    t.castStep = 2 ∧ t.dev = s.dev ∧ t.nat 0x2D00 4 = s.nat 0x2D00 4 + 1 ∧ (∀ g < 42, (t.reg g).gated = true) ∧ t.cells = [] ∧
      t.mem = s.mem := by
  obtain ⟨v, hv, hhang⟩ := s.hangStep_fails b (.inl h3)
  have hv2 : v.nat 0x2D00 4 < 2 := hv.failedRun.trans_lt hroom
  obtain ⟨hcount, hfail⟩ := State.failStart_eq (hv.step3done.trans h3) hv2.le
  obtain ⟨hstep, hdev, hfailed, hgated, hcells, hmem⟩ := (v.addOb 0x2D00 4 1).restartFrom2_next
  rw [hhang, hfail, if_neg hv2.ne]
  exact ⟨hstep, hdev.trans hv.dev, hfailed.trans (hcount.trans (congrArg (· + 1) hv.failedRun)), hgated, hcells, hmem.trans hv.mem⟩

/-- The third start that fails ends in SAFE. -/
theorem State.hangStep_safe {s : State} (b : Option Defect) (hdev : s.dev = .castOn) (h3 : s.start.step3done = true)
    (htwo : s.nat 0x2D00 4 = 2) : (s.hangStep b).dev = .safe := by
  obtain ⟨v, hv, hhang⟩ := s.hangStep_fails b (.inl h3)
  have hv2 : v.nat 0x2D00 4 = 2 := hv.failedRun.trans htwo
  obtain ⟨-, hfail⟩ := State.failStart_eq (hv.step3done.trans h3) hv2.le
  have hcast : (v.addOb 0x2D00 4 1).groupsOff.dev = .castOn := hv.dev.trans hdev
  rw [hhang, hfail, if_pos hv2]
  exact (State.latchSafe_latchedSafe none (by simp [hcast]) (by simp [hcast])).1

/-- Before the chip controller runs, the front end turns off for 2 s, and memory is lost. -/
theorem State.hangStep_off {s : State} (b : Option Defect) (h3 : s.start.step3done = false) (hstep : s.castStep ≠ 3) :
    (s.hangStep b).fe.fe = .off ∧ (s.hangStep b).fe.offUs = 2000000 ∧ (s.hangStep b).mem = [] := by
  obtain ⟨v, hv, hhang⟩ := s.hangStep_fails b (.inr hstep)
  obtain ⟨hfe, -, -, hmem, -⟩ := v.offFor2s_lostPower
  rw [hhang, State.failStart, if_neg (by simp [hv.step3done, h3])]
  exact ⟨hfe, rfl, hmem⟩

/-! ### The commands of cast-on -/

section
variable {s : State} (hon : s.fe.fe = .on) (hdev : s.dev = .castOn) (h1 : 1 ≤ s.castStep) (h12 : s.castStep ≤ 12)
include hon hdev h1 h12

theorem exec_castOnStep_inTime {r : StepReport} (hdur : r.durUs ≤ s.stepLimitUs) : exec (.castOnStep r) s = .next (s.endStep r) :=
  (State.whenOn_on (by simp [State.on, hon]) _).trans
    (congrArg _ ((if_pos ⟨hdev, h1, h12⟩).trans (if_neg (Nat.not_lt.mpr hdur))))

theorem exec_castOnStepHang (b : Option Defect) : exec (.castOnStepHang b) s = .next (s.hangStep b) :=
  (State.whenOn_on (by simp [State.on, hon]) _).trans (congrArg _ (if_pos ⟨hdev, h1, h12⟩))

end

/-- Settles O30: a step in time goes through `endStep`, and one that hangs through `failStart`. -/
theorem castOnStepsInOrder : Obligations.CastOnStepsInOrder := by
  intro s r hon hdev h1 h12
  refine ⟨fun hr hdur => ⟨?next, ?hbm, ?ready⟩, fun b h3 => ⟨?again, ?safe⟩, ?off⟩
  case next => exact fun hn hrelease => ⟨_, exec_castOnStep_inTime hon hdev h1 h12 hdur, State.endStep_castStep hr hn hrelease⟩
  case hbm =>
    refine fun h5 => ⟨_, exec_castOnStep_inTime hon hdev h1 h12 hdur, fun a ha => ?_, fun a ha => ?_⟩
    · rw [State.endStep_five_mem hr h5, read_zeroHbm, if_pos ha]
    · rw [State.endStep_five_mem hr h5, read_zeroHbm, if_neg (Nat.not_lt.mpr ha)]
  case ready => exact fun h => ⟨_, exec_castOnStep_inTime hon hdev h1 h12 hdur, State.endStep_twelve hr h⟩
  case again =>
    intro hroom
    obtain ⟨hstep, hcast, hrest⟩ := State.hangStep_again b h3 hroom
    exact ⟨_, exec_castOnStepHang hon hdev h1 h12 b, hstep, hcast.trans hdev, hrest⟩
  case safe => exact fun htwo => ⟨_, exec_castOnStepHang hon hdev h1 h12 b, State.hangStep_safe b hdev h3 htwo⟩
  case off => exact fun b h3 hstep => ⟨_, exec_castOnStepHang hon hdev h1 h12 b, State.hangStep_off b h3 hstep⟩

end Sys2Proof.Machine

/-!
PROOFS. A step (00_scope; log entry 3): the queue's front command runs on the state with the queue's rest.
-/
namespace Sys2Proof.Machine

/-- Settles O1: a step looks at the queue and nothing else. -/
theorem stepRunsFrontCommand : Obligations.StepRunsFrontCommand := by
  intro c rest s
  rfl

end Sys2Proof.Machine

/-!
PROOFS. Reads of the dictionary (R417, R418, R428): who is answered, what comes of an entry that is found, and the answer's way; the
CAN services (R415, R416) and the streams (R362, R445, R446).
-/
namespace Sys2Proof.Machine

/-! ### Fields of a byte string -/

/-- A field behind the first string lies in the second. -/
theorem uAt_append_right {a b : Bytes} {o : Nat} (n : Nat) (h : a.length ≤ o) : uAt (a ++ b) o n = uAt b (o - a.length) n := by
  obtain ⟨k, rfl⟩ := Nat.exists_eq_add_of_le h
  rw [uAt_append, Nat.add_sub_cancel_left]

/-! ### Reads (R417, R428) -/

/-- An entry that is found stands at its index. -/
theorem Objects.atIndex_isEmpty {idx sub : Nat} {e : ObjSpec} (h : Objects.find idx sub = some e) :
    (Objects.atIndex idx).isEmpty = false := by
  cases hl : Objects.atIndex idx with
  | nil => simp [Objects.find, hl] at h
  | cons e l => rfl

theorem State.on_of_answersAt {s : State} {o : Origin} {idx sub : Nat} (h : s.answersAt o idx sub = true) : s.on = true := by
  simp only [State.answersAt, State.answers, Bool.and_eq_true] at h
  exact h.1.1.2

/-- A read of an entry that is found: the two streams have a rule of their own. -/
theorem State.read_found {s : State} {o : Origin} {idx sub : Nat} {e : ObjSpec} (off len : Nat) (hans : s.answersAt o idx sub = true)
    (hfind : Objects.find idx sub = some e) (hacc : e.acc ≠ .wo) : s.read o idx sub off len =
      if idx = 0x2900 ∧ sub = 1 then s.readLog o (min len maxTransfer)
      else if idx = 0x2404 ∧ sub = 1 then s.readSigs (min len maxTransfer)
      else if off ≠ 0 ∧ e.typ ≠ .domain then ({ abort := abLength }, s)
      else ({ data := ((s.entryBytes o e idx sub).drop off).take (min len maxTransfer)
              more := e.typ == .domain && decide (min len maxTransfer < ((s.entryBytes o e idx sub).drop off).length) },
            s.afterRead idx sub) := by
  rw [State.read, if_neg (by simp [hans]), if_neg (by simp [Objects.atIndex_isEmpty hfind]), hfind]
  exact if_neg hacc

/-- The answer to a read goes out and changes nothing else. -/
theorem State.answerRead_sends (a : Answer) (s : State) (o : Origin) (idx sub off len : Nat) :
    ∃ out b, State.answerRead (a, s) o idx sub off len = { s with out := out, bar2 := b } := by
  unfold State.answerRead
  split
  · exact ⟨s.out, s.bar2, rfl⟩
  · split
    · exact ⟨_, s.bar2, rfl⟩
    · exact ⟨s.out, _, rfl⟩
    · exact ⟨_, s.bar2, rfl⟩
    · exact ⟨s.out, s.bar2, rfl⟩

/-- BAR2 shows the bytes read from the start of its buffer (R417). -/
theorem State.answerRead_bar2 {a : Answer} (s : State) (idx sub off len : Nat) (hheard : a.heard = true) (hok : a.abort = 0) :
    let b := (State.answerRead (a, s) .cxl idx sub off len).bar2
    b.abort = 0 ∧ b.done = true ∧ b.busy = false ∧ b.buf.take b.doneLen = a.data := by
  simp [answerRead, hheard, Bar2.finish, hok, Bar2.place]

/-! ### CAN services (R415, R416) -/

theorem stateCode_lt (d : DevState) : stateCode d < 256 := by cases d <;> decide

/-- A status frame is 16 bytes long, with STATE and the row's number at their places. -/
theorem State.statusBytes_fields (s : State) : s.statusBytes.length = 16 ∧ uAt s.statusBytes 0 1 = stateCode s.dev ∧
    uAt s.statusBytes 4 6 = s.row.num % 2 ^ 48 := by
  refine ⟨by simp [statusBytes], ?_, ?_⟩
  · simp only [statusBytes, List.append_assoc, uAt_le]
    exact Nat.mod_eq_of_lt (stateCode_lt s.dev)
  · simp [statusBytes, uAt_append_right, uAt_le]

/-- A status frame goes out, and is due no more. -/
theorem State.sendStatus_sends (s : State) : ∃ b, b.length = 16 ∧ uAt b 0 1 = stateCode s.dev ∧ uAt b 4 6 = s.row.num % 2 ^ 48 ∧
    s.sendStatus.out = .can (0x680 + s.start.nodeId) b :: s.out ∧ s.sendStatus.start.statusDue = false ∧ s.sameRun s.sendStatus ∧
    s.sendStatus.dev = s.dev := by
  obtain ⟨hlen, hdev, hrow⟩ := s.statusBytes_fields
  exact ⟨_, hlen, hdev, hrow, rfl, rfl, ⟨rfl, rfl, rfl, rfl⟩, rfl⟩

/-- A record that is logged is one record more, and no entry's (R440). -/
theorem State.log_oneRecord (s : State) (o : Origin) (result idx sub old req app flags : Nat) :
    s.oneRecord (s.log o result idx sub old req app flags) o result idx sub := by
  obtain ⟨r, ho, hr, hi, hj, p, out, h⟩ := s.log_pushes o result idx sub old req app flags
  exact ⟨r, ho, hr, hi, hj, by rw [h], by rw [h]⟩

section
variable {s : State} (hon : s.on = true)
include hon

/-- The heartbeat of a node that is up, with the status frame while STATUSFRAME is 1. -/
theorem exec_canHeartbeat : exec .canHeartbeat s = .next (
    if s.canUp && s.nat 0x1017 0 != 0 then
      if s.nat 0x2200 4 = 1 then (s.emit (.can (0x700 + s.start.nodeId) [0x05])).sendStatus
      else s.emit (.can (0x700 + s.start.nodeId) [0x05])
    else s) := State.whenOn_on hon _

theorem exec_statusFrame :
    exec .statusFrame s = .next (if s.canUp && s.start.statusDue && s.nat 0x2200 4 == 1 then s.sendStatus else s) :=
  State.whenOn_on hon _

end

/-! ### Streams (R362, R446) -/

theorem find_log : Objects.find 0x2900 1 = some ⟨0x2900, 1, 1, "LOG", .domain, .ro, 0, .any⟩ := by decide +kernel

theorem find_stream : Objects.find 0x2404 1 = some ⟨0x2404, 1, 1, "STREAM", .domain, .ro, 0, .any⟩ := by decide +kernel

/-- What `wholeSigs` takes is a front part of the signatures, within the bytes asked for. -/
theorem wholeSigs_prefix (es : List Signature) (n : Nat) :
    wholeSigs es n <+: es ∧ ((wholeSigs es n).flatMap Signature.bytes).length ≤ n := by
  induction es generalizing n with
  | nil => simp [wholeSigs]
  | cons e es ih =>
    rw [wholeSigs]
    split
    · simp
    · next hfit =>
      obtain ⟨hpre, hlen⟩ := ih (n - e.bytes.length)
      refine ⟨List.cons_prefix_cons.mpr ⟨rfl, hpre⟩, ?_⟩
      rw [List.flatMap_cons, List.length_append]
      omega

section
variable {s : State} {o : Origin} {n : Nat}

theorem exec_logStreamRead (h : s.answersAt o 0x2900 1 = true) : exec (.logStreamRead o n) s =
    .next (State.answerRead (s.readLog o (min n maxTransfer)) o 0x2900 1 0 n) := by
  refine (State.whenOn_on (State.on_of_answersAt h) (fun s => s.readFrom o 0x2900 1 0 n)).trans ?_
  rw [State.readFrom, State.read_found 0 n h find_log (by decide), if_pos ⟨rfl, rfl⟩]

theorem exec_signatureStreamRead (h : s.answersAt o 0x2404 1 = true) : exec (.signatureStreamRead o n) s =
    .next (State.answerRead (s.readSigs (min n maxTransfer)) o 0x2404 1 0 n) := by
  refine (State.whenOn_on (State.on_of_answersAt h) (fun s => s.readFrom o 0x2404 1 0 n)).trans ?_
  rw [State.readFrom, State.read_found 0 n h find_stream (by decide), if_neg (by decide), if_pos ⟨rfl, rfl⟩]

/-- Whole records from CURSOR go to the origin, and CURSOR advances past them. -/
theorem exec_logStreamRead_advances (h : s.answersAt o 0x2900 1 = true) :
    let l := s.flash.log
    let rs := (l.recs.drop ((l.cursor o + 2 ^ 32 - l.oldest) % 2 ^ 32)).take (min n maxTransfer / 64)
    ∃ t, exec (.logStreamRead o n) s = .next t ∧
      t = { s with flash := { s.flash with log := l.setCursor o ((l.cursor o + rs.length) % 2 ^ 32) }, out := t.out, bar2 := t.bar2 } ∧
      (o = .can → t.out = .usdo 0 (rs.flatMap LogRec.bytes) :: s.out) ∧
      (o = .cxl → t.bar2.abort = 0 ∧ t.bar2.buf.take t.bar2.doneLen = rs.flatMap LogRec.bytes) := by
  refine ⟨_, exec_logStreamRead h, ?_, ?_, ?_⟩
  · obtain ⟨out, b, hsent⟩ := State.answerRead_sends (s.readLog o (min n maxTransfer)).1 (s.readLog o (min n maxTransfer)).2 o 0x2900 1 0 n
    rw [Prod.mk.eta] at hsent
    rw [hsent]
    rfl
  · rintro rfl
    rfl
  · rintro rfl
    obtain ⟨habort, -, -, hbuf⟩ := State.answerRead_bar2 (a := (s.readLog .cxl (min n maxTransfer)).1)
      (s.readLog .cxl (min n maxTransfer)).2 0x2900 1 0 n rfl rfl
    exact ⟨habort, hbuf⟩

/-- Whole signatures from CURSOR go to the origin, and CURSOR advances past them. -/
theorem exec_signatureStreamRead_advances (h : s.answersAt o 0x2404 1 = true) :
    let oldest := s.flash.sigSeq + 1 - s.flash.sigs.length
    let c := max oldest s.flash.sigCursor
    ∃ t es, exec (.signatureStreamRead o n) s = .next t ∧ es <+: s.flash.sigs.drop (c - oldest) ∧
      (es.flatMap Signature.bytes).length ≤ n ∧
      t = { s with flash := { s.flash with sigCursor := c + es.length }, out := t.out, bar2 := t.bar2 } ∧
      (o = .can → t.out = .usdo 0 (es.flatMap Signature.bytes) :: s.out) := by
  intro oldest c
  obtain ⟨hpre, hlen⟩ := wholeSigs_prefix (s.flash.sigs.drop (c - oldest)) (min n maxTransfer)
  refine ⟨_, wholeSigs (s.flash.sigs.drop (c - oldest)) (min n maxTransfer), exec_signatureStreamRead h, hpre,
    hlen.trans (Nat.min_le_left ..), ?_, ?_⟩
  · obtain ⟨out, b, hsent⟩ := State.answerRead_sends (s.readSigs (min n maxTransfer)).1 (s.readSigs (min n maxTransfer)).2 o 0x2404 1 0 n
    rw [Prod.mk.eta] at hsent
    rw [hsent]
    rfl
  · rintro rfl
    rfl

end

/-- Settles O53: every service acts through `canUp`, and the streams are reads that advance their CURSOR. -/
theorem canServicesAndStreams : Obligations.CanServicesAndStreams := by
  intro s hfe node statusSent
  have hon : s.on = true := by simp [State.on, hfe]
  have hbeat := exec_canHeartbeat hon
  have hframe := exec_statusFrame hon
  refine ⟨fun b hup => ⟨?stop, ?reset⟩, fun b hdown => ⟨?_, ?_, ?_, ?_⟩, fun _ hzero => ?noBeat, fun hup hbeats => ⟨?beat, ?beatStatus⟩,
    fun hup hdue hflag => ?frame, fun hdue => ?noFrame, fun o n h => exec_logStreamRead_advances h,
    fun o n h _ => exec_signatureStreamRead_advances h, State.whenOn_on hon State.flushLog⟩
  case stop => exact ⟨_, (State.whenOn_on hon _).trans (congrArg _ (if_pos hup)), s.log_oneRecord ..⟩
  case reset => exact ⟨_, (State.whenOn_on hon _).trans (congrArg _ (if_pos hup)), s.log_oneRecord ..⟩
  case refine_1 => exact (State.whenOn_on hon _).trans (congrArg _ (if_neg (by simp [hdown])))
  case refine_2 => exact (State.whenOn_on hon _).trans (congrArg _ (if_neg (by simp [hdown])))
  case refine_3 => exact hbeat.trans (congrArg _ (if_neg (by simp [hdown])))
  case refine_4 => exact hframe.trans (congrArg _ (if_neg (by simp [hdown])))
  case noBeat => exact hbeat.trans (congrArg _ (if_neg (by simp [hzero])))
  case beat => exact fun hflag => hbeat.trans (congrArg _ ((if_pos (by simp [hup, hbeats])).trans (if_neg hflag)))
  case beatStatus =>
    exact fun hflag => ⟨_, hbeat.trans (congrArg _ ((if_pos (by simp [hup, hbeats])).trans (if_pos hflag))), (s.emit _).sendStatus_sends⟩
  case frame => exact ⟨_, hframe.trans (congrArg _ (if_pos (by simp [hup, hdue, hflag]))), s.sendStatus_sends⟩
  case noFrame => exact hframe.trans (congrArg _ (if_neg (by simp [hdue])))

end Sys2Proof.Machine

/-!
PROOFS. The SPDM responder and the test access port (R454 to R457, R460): which requests come to their answer, and what an answer
carries.
-/
namespace Sys2Proof.Machine

/-! ### Requests (R456) -/

theorem State.on_of_serves {s : State} (h : s.serves = true) : s.on = true := by
  simp only [State.serves, Bool.and_eq_true] at h
  exact h.1.1

section
variable {s : State} (hserves : s.serves = true) (f : State → State)
include hserves

/-- Another version than 1.3 is refused, whatever came before. -/
theorem State.spdm_mismatch {v : Nat} (hv : v ≠ 0x13) (ready : Bool) : s.spdm v ready f = .next (s.emit (.spdm (spdmError 0x41))) := by
  rw [State.spdm, State.whenOn_on (State.on_of_serves hserves), if_neg (by simp [hserves])]
  exact congrArg _ (if_pos hv)

/-- A request before those that must precede it is unexpected. -/
theorem State.spdm_unexpected : s.spdm 0x13 false f = .next (s.emit (.spdm (spdmError 4))) := by
  rw [State.spdm, State.whenOn_on (State.on_of_serves hserves), if_neg (by simp [hserves]), if_neg (by decide)]
  rfl

/-- A request in its turn is answered. -/
theorem State.spdm_ready : s.spdm 0x13 true f = .next (f s) := by
  rw [State.spdm, State.whenOn_on (State.on_of_serves hserves), if_neg (by simp [hserves]), if_neg (by decide)]
  rfl

end

/-! ### Version, capabilities, algorithms (R456) -/

section
variable {s : State} (hserves : s.serves = true)
include hserves

/-- What a module that answers makes of GET_VERSION. -/
theorem exec_getVersion (v : Nat) : exec (.getVersion v) s = .next (
    if v ≠ 0x10 then s.emit (.spdm (spdmError 0x41))
    else ({ s with sec := { s.sec with spdmVersion := true, spdmCaps := false, spdmAlg := 0 } }).emit
      (.spdm (spdmHeader 0x10 0x04 0 0 ++ [0, 1] ++ le 2 0x1300))) := by
  show execGetVersion v s = _
  rw [execGetVersion, State.whenOn_on (State.on_of_serves hserves), if_neg (by simp [hserves])]
  rfl

theorem exec_getVersion_answers : ∃ t b, exec (.getVersion 0x10) s = .next t ∧ t.out = .spdm b :: s.out ∧ uAt b 1 1 = 4 ∧
    uAt b 6 2 = 0x1300 ∧ t.sec = { s.sec with spdmVersion := true, spdmCaps := false, spdmAlg := 0 } :=
  ⟨_, spdmHeader 0x10 0x04 0 0 ++ [0, 1] ++ le 2 0x1300, exec_getVersion hserves 0x10, rfl, by decide, by decide, rfl⟩

theorem exec_getCapabilities_answers (h : s.sec.spdmVersion = true) : ∃ t b, exec (.getCapabilities 0x13) s = .next t ∧
    t.out = .spdm b :: s.out ∧ uAt b 8 4 = 0x36 ∧ t.sec = { s.sec with spdmCaps := true } := by
  let front := spdmHeader spdm13 0x61 0 0 ++ [0] ++ spdmLimits ++ [0, 0]
  have hlen : front.length = 8 := by simp [front, spdmHeader, spdmLimits]
  have hflags : uAt (front ++ le 4 spdmCapFlags ++ spdmSizes) 8 4 = 0x36 := by
    rw [List.append_assoc, uAt_append_right _ hlen.le, hlen]
    exact uAt_le ..
  refine ⟨({ s with sec := { s.sec with spdmCaps := true } }).emit (.spdm (front ++ le 4 spdmCapFlags ++ spdmSizes)), _, ?_, rfl, hflags,
    rfl⟩
  show execGetCapabilities 0x13 s = _
  rw [execGetCapabilities, h, State.spdm_ready hserves]
  rfl

/-- RSAPSS is chosen before RSASSA, and SHA-512 alone. -/
theorem exec_negotiateAlgorithms_answers (a h : Nat) (hcaps : s.sec.spdmCaps = true) :
    (bit h 2 = true → bit a 6 = true ∨ bit a 5 = true → ∃ t b, exec (.negotiateAlgorithms 0x13 a h) s = .next t ∧
      t.out = .spdm b :: s.out ∧ t.sec = { s.sec with spdmAlg := if bit a 6 then 2 else 1 } ∧
      uAt b 12 4 = (if bit a 6 then 0x40 else 0x20) ∧ uAt b 16 4 = 4) ∧
    (bit h 2 = false ∨ (bit a 6 = false ∧ bit a 5 = false) →
      exec (.negotiateAlgorithms 0x13 a h) s = .next (s.emit (.spdm (spdmError 1)))) := by
  have hx : exec (.negotiateAlgorithms 0x13 a h) s = .next (
      if asymChoice a = 0 ∨ !bit h 2 then s.emit (.spdm (spdmError 1))
      else ({ s with sec := { s.sec with spdmAlg := asymChoice a } }).emit (.spdm (
        spdmHeader spdm13 0x63 0 0 ++ le 2 36 ++ [1, 0] ++ le 4 8 ++ le 4 (if asymChoice a = 2 then 0x40 else 0x20) ++ le 4 4
          ++ zeros 16))) := by
    show execNegotiateAlgorithms 0x13 a h s = _
    rw [execNegotiateAlgorithms, hcaps, State.spdm_ready hserves]
    rfl
  constructor
  · intro hhash hasym
    have hchoice : asymChoice a = if bit a 6 then 2 else 1 := by
      unfold asymChoice
      cases h6 : bit a 6 with
      | true => rfl
      | false => simpa [h6] using hasym
    rw [if_neg (by rw [hchoice, hhash]; split <;> simp), hchoice] at hx
    refine ⟨_, _, hx, rfl, rfl, ?_⟩
    cases bit a 6 <;> decide
  · intro hno
    refine hx.trans (congrArg _ (if_pos ?_))
    rcases hno with hhash | ⟨h6, h5⟩
    · exact .inr (by simp [hhash])
    · exact .inl (by simp [asymChoice, h6, h5])

end

/-! ### Certificates and signed responses (R454, R455, R457) -/

theorem length_spdmHeader (v c p q : Nat) : (spdmHeader v c p q).length = 4 := by simp [spdmHeader]

/-- A MEASUREMENTS response draws its nonce and signature, and carries the number that was asked for or that of its blocks. -/
theorem State.measureWith_sends (s : State) (p1 : Nat) (blocks : List Bytes) (signed : Bool) (n : Bytes) : ∃ body,
    (s.measureWith p1 blocks signed n) = { s with free := s.free + 1, out := (s.measureWith p1 blocks signed n).out } ∧
      (s.measureWith p1 blocks signed n).out =
        .spdm (body ++ if signed then fit 512 (Config.spdmSignature s.free body) else []) :: s.out ∧
      uAt body 4 1 = blocks.length % 256 := by
  have hcount (rest : Bytes) : uAt (spdmHeader spdm13 0x60 p1 0 ++ (le 1 blocks.length ++ rest)) 4 1 = blocks.length % 256 := by
    have h := uAt_append (spdmHeader spdm13 0x60 p1 0) (le 1 blocks.length ++ rest) 0 1
    rw [length_spdmHeader] at h
    exact h.trans (uAt_le ..)
  refine ⟨spdmHeader spdm13 0x60 p1 0 ++ le 1 blocks.length ++ le 3 blocks.flatten.length ++ blocks.flatten ++ s.spdmNonce
    ++ spdmTail n, ?_, ?_, ?_⟩
  · cases signed <;> rfl
  · cases signed with
    | true => rfl
    | false => rw [if_neg (by simp), List.append_nil]; rfl
  · simp only [List.append_assoc]
    exact hcount _

section
variable {s : State} (hserves : s.serves = true) (halg : s.sec.spdmAlg ≠ 0)
include hserves halg

/-- With algorithms negotiated, a request is in its turn. -/
theorem State.spdm_negotiated (f : State → State) : s.spdm 0x13 (s.sec.spdmAlg != 0) f = .next (f s) := by
  rw [bne_iff_ne.mpr halg, State.spdm_ready hserves]

theorem exec_getDigests_answers :
    ∃ b, exec (.getDigests 0x13) s = .next (s.emit (.spdm b)) ∧ slice b 4 64 = sha512 spdmChain := by
  refine ⟨_, show execGetDigests 0x13 s = _ from State.spdm_negotiated hserves halg _, ?_⟩
  have h := slice_append (spdmHeader spdm13 0x01 1 1) (sha512 spdmChain) 0 64
  rw [length_spdmHeader] at h
  exact h.trans (List.take_of_length_le (length_sha512 _).le)

theorem exec_getCertificate_answers {off : Nat} (len : Nat) (hoff : off < spdmChain.length) :
    ∃ b, exec (.getCertificate 0x13 0 off len) s = .next (s.emit (.spdm b)) ∧ b.drop 8 = (spdmChain.drop off).take len := by
  let part := (spdmChain.drop off).take len
  let front := spdmHeader spdm13 0x02 0 0 ++ le 2 part.length ++ le 2 (spdmChain.length - off - part.length)
  have hlen : front.length = 8 := by simp [front, length_spdmHeader]
  have hx : execGetCertificate 0x13 0 off len s = _ := State.spdm_negotiated hserves halg _
  exact ⟨front ++ part, hx.trans (congrArg _ (if_neg (by omega))), List.drop_left' hlen⟩

theorem exec_challenge_answers (n : Bytes) : ∃ t body, exec (.challenge 0x13 0 n) s = .next t ∧
    t = { s with free := s.free + 1, out := t.out } ∧
    t.out = .spdm (body ++ fit 512 (Config.spdmSignature s.free body)) :: s.out ∧ slice body 4 64 = sha512 spdmChain ∧
    slice body 68 32 = fit 32 (Config.random s.free) := by
  have hx : execChallenge 0x13 0 n s = _ := State.spdm_negotiated hserves halg _
  refine ⟨_, spdmHeader spdm13 0x03 0 1 ++ sha512 spdmChain ++ s.spdmNonce ++ spdmTail n,
    hx.trans (congrArg _ (if_neg (by decide))), rfl, rfl, ?_, ?_⟩
  · have h := slice_append (spdmHeader spdm13 0x03 0 1) (sha512 spdmChain ++ (s.spdmNonce ++ spdmTail n)) 0 64
    rw [length_spdmHeader] at h
    simp only [List.append_assoc]
    refine h.trans ((slice_append_left _ _ 0 64 (length_sha512 _).ge).trans ?_)
    exact List.take_of_length_le (length_sha512 _).le
  · have h := slice_append (spdmHeader spdm13 0x03 0 1 ++ sha512 spdmChain) (s.spdmNonce ++ spdmTail n) 0 32
    rw [List.length_append, length_spdmHeader, length_sha512] at h
    rw [List.append_assoc]
    have hnonce : s.spdmNonce.length = 32 := length_fit ..
    refine h.trans ((slice_append_left _ _ 0 32 hnonce.ge).trans ?_)
    exact List.take_of_length_le hnonce.le

theorem exec_getMeasurements_answers {op : Nat} (n : Bytes) (signed : Bool)
    (hop : op = 0 ∨ op = 0xFF ∨ (∃ e ∈ s.measurements, e.1 = op)) :
    ∃ t body, exec (.getMeasurements 0x13 0 op signed n) s = .next t ∧ t = { s with free := s.free + 1, out := t.out } ∧
      t.out = .spdm (body ++ if signed then fit 512 (Config.spdmSignature s.free body) else []) :: s.out ∧
      uAt body 4 1 = (if op = 0 then 0 else if op = 0xFF then s.measurements.length % 256 else 1) := by
  obtain ⟨p1, blocks, hx, hlen⟩ : ∃ p1 blocks,
      exec (.getMeasurements 0x13 0 op signed n) s = .next (s.measureWith p1 blocks signed n) ∧
        blocks.length % 256 = (if op = 0 then 0 else if op = 0xFF then s.measurements.length % 256 else 1) := by
    have hx : execGetMeasurements 0x13 0 op signed n s = _ := State.spdm_negotiated hserves halg _
    show ∃ p1 blocks, execGetMeasurements 0x13 0 op signed n s = _ ∧ _
    rw [hx, if_neg (by decide)]
    by_cases h0 : op = 0
    · rw [if_pos h0, if_pos h0]
      exact ⟨_, _, rfl, rfl⟩
    rw [if_neg h0, if_neg h0]
    by_cases hff : op = 0xFF
    · rw [if_pos hff, if_pos hff]
      exact ⟨_, _, rfl, by rw [List.length_map]⟩
    rw [if_neg hff, if_neg hff]
    obtain ⟨e, he, heq⟩ := (hop.resolve_left h0).resolve_left hff
    have hfound : (s.measurements.find? (fun e => e.1 == op)).isSome := List.find?_isSome.mpr ⟨e, he, by simp [heq]⟩
    obtain ⟨f, hf⟩ := Option.isSome_iff_exists.mp hfound
    rw [hf]
    exact ⟨_, _, rfl, rfl⟩
  obtain ⟨body, ht, hout, hcount⟩ := s.measureWith_sends p1 blocks signed n
  exact ⟨_, body, hx, ht, hout, hcount.trans hlen⟩

/-- Slot 0 is the only one. -/
theorem exec_spdm_slot {slot : Nat} (off len op : Nat) (n : Bytes) (signed : Bool) (hslot : slot ≠ 0) :
    let invalid (i : Instr) : Prop := exec i s = .next (s.emit (.spdm (spdmError 1)))
    invalid (.getCertificate 0x13 slot off len) ∧ invalid (.challenge 0x13 slot n) ∧
      invalid (.getMeasurements 0x13 slot op signed n) :=
  ⟨(show execGetCertificate 0x13 slot off len s = _ from State.spdm_negotiated hserves halg _).trans
      (congrArg _ (if_pos (Or.inl hslot))),
    (show execChallenge 0x13 slot n s = _ from State.spdm_negotiated hserves halg _).trans (congrArg _ (if_pos hslot)),
    (show execGetMeasurements 0x13 slot op signed n s = _ from State.spdm_negotiated hserves halg _).trans (congrArg _ (if_pos hslot))⟩

end

/-! ### The test access port (R460) -/

section
variable {s : State} (hon : s.on = true)
include hon

/-- What a module that is on makes of an instruction of the test access port. -/
theorem exec_tapInstruction (c : Nat) : exec (.tapInstruction c) s = .next (
    if c = 0 then s
    else if c = 1 then s.emit (.tap (Config.tapData 0))
    else if !s.debugOpen then s
    else if c = 2 then ({ s with free := s.free + 1 }).emit (.tap (Config.tapData (s.free + 1)))
    else s.latchSafe (some 0x0201)) :=
  show execTapInstruction c s = _ from State.whenOn_on hon _

theorem exec_tapInstruction_locked {c : Nat} (hc : 2 ≤ c) (h : s.debugOpen = false) : exec (.tapInstruction c) s = .next s := by
  rw [exec_tapInstruction hon, if_neg (by omega), if_neg (by omega), if_pos (by simp [h])]

theorem exec_tapInstruction_outside {c : Nat} (hc : 2 < c) (h : s.debugOpen = true) (hsafe : s.dev ≠ .safe) (hoff : s.dev ≠ .off) :
    ∃ t, exec (.tapInstruction c) s = .next t ∧ t.dev = .safe ∧ t.nat 0x2200 3 = 0x0201 ∧ t.power.groupsOff = true := by
  have hx := exec_tapInstruction hon c
  rw [if_neg (by omega), if_neg (by omega), if_neg (by simp [h]), if_neg (by omega)] at hx
  obtain ⟨hdev, -, -, -, -, -, hpower⟩ := State.latchSafe_latchedSafe (some 0x0201) hsafe hoff
  exact ⟨_, hx, hdev, State.latchSafe_safeCause 0x0201 hsafe hoff, hpower⟩

end

/-- Settles O57: a request is judged by its version and its turn before anything else, and a response is the one its request asks for. -/
theorem spdmAndTestPort : Obligations.SpdmAndTestPort := by
  intro s hserves replies ready
  have hon := State.on_of_serves hserves
  have unready (h : ¬ready) : (s.sec.spdmAlg != 0) = false := by simpa [ready] using h
  refine ⟨fun v hv => (exec_getVersion hserves v).trans (congrArg _ (if_pos hv)), exec_getVersion_answers hserves,
    fun v slot off len op n signed a h hv => ?mismatch, fun slot off len op n signed h => ?order, fun h => ?caps,
    exec_getCapabilities_answers hserves, exec_negotiateAlgorithms_answers hserves,
    exec_getDigests_answers hserves, fun off len h => exec_getCertificate_answers hserves h len,
    fun n h => exec_challenge_answers hserves h n, fun op n signed h => exec_getMeasurements_answers hserves h n signed,
    fun slot off len op n signed h => exec_spdm_slot hserves h off len op n signed,
    exec_tapInstruction hon 0, exec_tapInstruction hon 1, fun c hc => exec_tapInstruction_locked hon hc, fun h => ?scan,
    fun c hc => exec_tapInstruction_outside hon hc⟩
  case mismatch =>
    refine ⟨?_, ?_, ?_, ?_, ?_, ?_⟩
    · exact show execGetCapabilities v s = _ from State.spdm_mismatch hserves _ hv _
    · exact show execNegotiateAlgorithms v a h s = _ from State.spdm_mismatch hserves _ hv _
    · exact show execGetDigests v s = _ from State.spdm_mismatch hserves _ hv _
    · exact show execGetCertificate v slot off len s = _ from State.spdm_mismatch hserves _ hv _
    · exact show execChallenge v slot n s = _ from State.spdm_mismatch hserves _ hv _
    · exact show execGetMeasurements v slot op signed n s = _ from State.spdm_mismatch hserves _ hv _
  case order =>
    have early (f : State → State) : s.spdm 0x13 (s.sec.spdmAlg != 0) f = .next (s.emit (.spdm (spdmError 4))) := by
      rw [unready h, State.spdm_unexpected hserves]
    refine ⟨?_, ?_, ?_, ?_⟩
    · exact show execGetDigests 0x13 s = _ from early _
    · exact show execGetCertificate 0x13 slot off len s = _ from early _
    · exact show execChallenge 0x13 slot n s = _ from early _
    · exact show execGetMeasurements 0x13 slot op signed n s = _ from early _
  case caps =>
    show execGetCapabilities 0x13 s = _
    rw [execGetCapabilities, h, State.spdm_unexpected hserves]
  case scan => exact ⟨_, _, (exec_tapInstruction hon 2).trans (congrArg _ (by simp [h]; rfl)), rfl⟩

end Sys2Proof.Machine

/-!
PROOFS. Firmware (R450, R452, R453, R461 to R469): a write of IMAGE, FWCMD or SYSFL that meets no rule but its entry's own is staged,
carried out, held for the row boundary, or refused.
-/
namespace Sys2Proof.Machine

/-! ### A write that its entry carries out -/

/-- A write that meets no rule but its entry's own is carried out by the entry, and answered; of a DOMAIN at any offset. -/
theorem State.writes_entry {s : State} {w : Write} {e : ObjSpec} (hfind : Objects.find w.idx w.sub = some e) (hacc : e.acc ≠ .ro)
    (hcmd : w.idx ≠ 0x2201) (hoff : e.typ = .domain ∨ w.off = 0) (h : s.mayDo w.o w.idx w.sub) :
    s.writes w = .next (State.answerWrite (s.writeEntry w e) w) := by
  obtain ⟨htry, hmay, hstate⟩ := h
  have hkey := htry.keyOff
  obtain ⟨hans, hlog, hrec, habs, -⟩ := id htry
  have hw : s.write w = s.writeAt w e := by
    rw [State.write, if_neg (by simp [hans]), if_neg (by omega), hfind]
  have hat : s.writeAt w e = s.writeEntry w e := by
    rw [State.writeAt, if_neg (by simp [hkey]), if_neg (by simp [State.recoveryRefuses, hrec]), if_neg (by simp [habs]), if_neg hacc,
      if_neg (by simp [hmay]), if_neg hcmd, if_neg (by simp [hstate]), if_neg]
    rcases hoff with ht | ho <;> simp [*]
  rw [State.writes, State.whenOn_on htry.on, State.writeFrom, hw, hat]

theorem find_image : Objects.find 0x2820 1 = some ⟨0x2820, 1, 1, "IMAGE", .domain, .wo, 0, .own⟩ := by decide +kernel

theorem find_fwcmd : Objects.find 0x2801 1 = some ⟨0x2801, 1, 1, "FWCMD", .u8, .wo, 0, .own⟩ := by decide +kernel

theorem find_sysfl : Objects.find 0x2810 1 = some ⟨0x2810, 1, 1, "SYSFL", .u32, .rw, 1, .own⟩ := by decide +kernel

/-! ### The image that runs (R462) -/

/-- Row, cells, memory and patterns stand, and so do the image that runs and the bank that boots. -/
def State.sameFirmware (s t : State) : Prop := s.sameRun t ∧ t.sec.running = s.sec.running ∧ t.flash.active = s.flash.active

theorem State.sameFirmware.trans {s t u : State} : s.sameFirmware t → t.sameFirmware u → s.sameFirmware u :=
  fun ⟨hrun, hfw, hact⟩ ⟨hrun', hfw', hact'⟩ => ⟨hrun.trans hrun', hfw'.trans hfw, hact'.trans hact⟩

section
variable {s t : State} (h : s.told t)
include h

theorem State.told.active : t.flash.active = s.flash.active := by obtain ⟨_, _, _, _, _, _, rfl⟩ := h; rfl
theorem State.told.floor : t.flash.floor = s.flash.floor := by obtain ⟨_, _, _, _, _, _, rfl⟩ := h; rfl
theorem State.told.stagedBank : t.stagedBank = s.stagedBank := by obtain ⟨_, _, _, _, _, _, rfl⟩ := h; rfl
theorem State.told.latched : t.latched = s.latched := by obtain ⟨_, _, _, _, _, _, rfl⟩ := h; rfl
theorem State.told.sameFirmware : s.sameFirmware t := ⟨h.sameRun, by rw [h.sec], h.active⟩

end

theorem State.stagedBank_setStaged (s : State) (b : FwBank) : (s.setStaged b).stagedBank = b := by
  unfold setStaged stagedBank
  by_cases h : s.flash.active = 0
  · simp [h]
  · simp [h]

theorem State.setStaged_sameFirmware (s : State) (b : FwBank) : s.sameFirmware (s.setStaged b) := by
  refine ⟨⟨rfl, rfl, rfl, rfl⟩, rfl, ?_⟩
  unfold setStaged
  split <;> rfl

theorem State.fwStateTo_sameFirmware (s : State) (v : Nat) : s.sameFirmware (s.fwStateTo v) := ⟨⟨rfl, rfl, rfl, rfl⟩, rfl, rfl⟩

theorem State.mayTry.recovery {s : State} {o : Origin} {idx sub : Nat} (h : s.mayTry o idx sub) : s.start.recovery = false := by
  obtain ⟨-, -, hrec, -⟩ := h
  exact hrec

section
variable {s : State} {o : Origin}

/-! ### IMAGE (R461) -/

/-- A write of IMAGE. -/
def imageWrite (o : Origin) (off : Nat) (data : Bytes) : Write := { o := o, idx := 0x2820, sub := 1, off := off, data := data }

/-- The staging bank with bytes written, erased first by a write at its start; no image of it is verified. -/
def State.staged (s : State) (off : Nat) (data : Bytes) : FwBank :=
  { content := (if off = 0 then [] else s.stagedBank.content : Mem).writeBytes off data, info := none }

theorem exec_imageWrite (off : Nat) (data : Bytes) (h : s.mayDo o 0x2820 1) : exec (.imageWrite o off data) s =
    .next (State.answerWrite (s.writeImage (imageWrite o off data)) (imageWrite o off data)) :=
  State.writes_entry (w := imageWrite o off data) find_image (by decide) (show (0x2820 : Nat) ≠ 0x2201 by decide) (.inl rfl) h

theorem State.writeImage_stages {off : Nat} {data : Bytes} (hsafe : s.dev ≠ .safe) (hact : s.activating = false)
    (hfit : off + data.length ≤ 67108864) :
    ((s.setStaged (s.staged off data)).fwStateTo 1).told (s.writeImage (imageWrite o off data)).2 := by
  have hlen : ¬ bankBytes < (imageWrite o off data).off + (imageWrite o off data).data.length := Nat.not_lt.mpr hfit
  rw [State.writeImage, if_neg (by simp [hsafe, hact]), if_neg hlen]
  exact State.logWrite_told ..

theorem exec_imageWrite_stages {off : Nat} {data : Bytes} (h : s.mayDo o 0x2820 1) (hsafe : s.dev ≠ .safe) (hact : s.activating = false)
    (hfit : off + data.length ≤ 67108864) :
    ∃ t, exec (.imageWrite o off data) s = .next t ∧ s.sameFirmware t ∧ t.sec.fwState = 1 ∧ t.stagedBank.info = none ∧
      t.stagedBank.content.readBytes off data.length = data ∧
      (∀ a, a < off ∨ off + data.length ≤ a →
        t.stagedBank.content.read a = if off = 0 then 0 else s.stagedBank.content.read a) := by
  obtain ⟨t, hx, ht⟩ := State.accepts_of (exec_imageWrite off data h) (State.writeImage_stages hsafe hact hfit)
  have hbank : t.stagedBank = s.staged off data :=
    ht.stagedBank.trans ((rfl : _ = (s.setStaged _).stagedBank).trans (s.stagedBank_setStaged _))
  refine ⟨t, hx, ((s.setStaged_sameFirmware _).trans (State.fwStateTo_sameFirmware _ 1)).trans ht.sameFirmware, by rw [ht.sec]; rfl,
    by rw [hbank]; rfl, ?_, fun a ha => ?_⟩
  · rw [hbank]
    exact Mem.readBytes_writeBytes_same ..
  · rw [hbank]
    refine (Mem.read_writeBytes_outside _ off a data ha).trans ?_
    split
    · rfl
    · rfl

theorem exec_imageWrite_activating {off : Nat} {data : Bytes} (h : s.mayDo o 0x2820 1) (hact : s.activating = true) :
    s.refuses (.imageWrite o off data) o 0x2820 1 abState :=
  State.refuses_of (exec_imageWrite off data h) (if_pos (.inr hact)) (by decide)

theorem exec_imageWrite_long {off : Nat} {data : Bytes} (h : s.mayDo o 0x2820 1) (hsafe : s.dev ≠ .safe) (hact : s.activating = false)
    (hlong : 67108864 < off + data.length) : s.refuses (.imageWrite o off data) o 0x2820 1 abLength :=
  State.refuses_of (exec_imageWrite off data h) ((if_neg (by simp [hsafe, hact])).trans (if_pos hlong)) (by decide)

/-! ### FWCMD (R452, R462, R466, R467) -/

/-- A write of FWCMD comes to the command of its code. -/
theorem State.writes_fwCommand {code : Nat} (hcode : 1 ≤ code ∧ code ≤ 4) (h : s.mayDo o 0x2801 1) : s.writes (fwWrite o code) =
    .next (State.answerWrite (
      if code = 1 then s.takeVerify (fwWrite o code)
      else if code = 2 then s.takeActivate (fwWrite o code)
      else if code = 3 then s.takeRollback (fwWrite o code)
      else if s.asCan o then s.takeCommit (fwWrite o code) else s.refuseWrite (fwWrite o code) abOrigin) (fwWrite o code)) := by
  have hof : ofLe (fwWrite o code).data = code := by
    rw [fwWrite, ofLe_le, Nat.mod_eq_of_lt (by omega)]
  have hentry : s.writeEntry (fwWrite o code) ⟨0x2801, 1, 1, "FWCMD", .u8, .wo, 0, .own⟩ = s.fwCommand (fwWrite o code) := rfl
  rw [State.writes_entry (w := fwWrite o code) find_fwcmd (by decide) (by simp [fwWrite]) (.inr rfl) h, hentry, State.fwCommand, hof,
    if_neg (by simp [fwWrite])]
  congr 2
  by_cases h4 : code = 4
  · subst h4; rfl
  · have : code = 1 ∨ code = 2 ∨ code = 3 := by omega
    rcases this with rfl | rfl | rfl <;> rfl

theorem exec_verify (h : s.mayDo o 0x2801 1) :
    exec (.verify o) s = .next (State.answerWrite (s.takeVerify (fwWrite o 1)) (fwWrite o 1)) :=
  State.writes_fwCommand (by decide) h

theorem exec_activate (h : s.mayDo o 0x2801 1) :
    exec (.activate o) s = .next (State.answerWrite (s.takeActivate (fwWrite o 2)) (fwWrite o 2)) :=
  State.writes_fwCommand (by decide) h

theorem exec_rollback (h : s.mayDo o 0x2801 1) :
    exec (.rollback o) s = .next (State.answerWrite (s.takeRollback (fwWrite o 3)) (fwWrite o 3)) :=
  State.writes_fwCommand (by decide) h

theorem exec_commit (h : s.mayDo o 0x2801 1) : exec (.commit o) s = .next (State.answerWrite
    (if s.asCan o then s.takeCommit (fwWrite o 4) else s.refuseWrite (fwWrite o 4) abOrigin) (fwWrite o 4)) :=
  State.writes_fwCommand (by decide) h

/-- VERIFY leaves the bank's bytes, and says in FWSTATE what it found. -/
theorem exec_verify_judges (h : s.mayDo o 0x2801 1) (hact : s.activating = false) :
    ∃ t, exec (.verify o) s = .next t ∧ s.sameFirmware t ∧ t.stagedBank.content = s.stagedBank.content ∧
      t.stagedBank.info = s.verifyBank s.stagedBank ∧
      t.sec.fwState = if (s.verifyBank s.stagedBank).isSome then 2 else 3 := by
  let r := s.verifyBank s.stagedBank
  let u := s.setStaged { s.stagedBank with info := r }
  have htold : (u.fwStateTo (if r.isSome then 2 else 3)).told (s.takeVerify (fwWrite o 1)).2 := by
    have hno : ¬ s.activating = true := by simp [hact]
    rw [State.takeVerify, if_neg hno]
    exact State.logWrite_told ..
  obtain ⟨t, hx, ht⟩ := State.accepts_of (exec_verify h) htold
  have hbank : t.stagedBank = { s.stagedBank with info := r } :=
    ht.stagedBank.trans ((rfl : _ = u.stagedBank).trans (s.stagedBank_setStaged _))
  exact ⟨t, hx, ((s.setStaged_sameFirmware _).trans (u.fwStateTo_sameFirmware _)).trans ht.sameFirmware, by rw [hbank], by rw [hbank],
    by rw [ht.sec]; rfl⟩

theorem exec_verify_activating (h : s.mayDo o 0x2801 1) (hact : s.activating = true) : s.refuses (.verify o) o 0x2801 1 abState :=
  State.refuses_of (exec_verify h) (if_pos hact) (by decide)

/-- The module with an activation begun: FWSTATE 4, PHASE 1. -/
def State.activationBegun (s : State) : State := ({ s with sec := { s.sec with fwState := 4, retried := false } }).fwPhase 1

theorem State.activationBegun_sameFirmware (s : State) : s.sameFirmware s.activationBegun := ⟨⟨rfl, rfl, rfl, rfl⟩, rfl, rfl⟩

/-- A command that begins an activation changes neither the image that runs nor the bank that boots. -/
theorem State.activates {i : Instr} {w : Write} {p : Answer × State} {u : State} (hx : exec i s = .next (State.answerWrite p w))
    (hu : s.sameFirmware u) (hp : u.activationBegun.told p.2) :
    ∃ t, exec i s = .next t ∧ s.sameFirmware t ∧ t.sec.fwState = 4 ∧ t.sec.phase = 1 := by
  obtain ⟨t, hx, ht⟩ := State.accepts_of hx hp
  exact ⟨t, hx, (hu.trans u.activationBegun_sameFirmware).trans ht.sameFirmware, by rw [ht.sec]; rfl, by rw [ht.sec]; rfl⟩

theorem exec_activate_begins {m : FwInfo} (h : s.mayDo o 0x2801 1) (hstate : s.sec.fwState = 2) (hinfo : s.stagedBank.info = some m)
    (hok : s.activateOk m = true) :
    ∃ t, exec (.activate o) s = .next t ∧ s.sameFirmware t ∧ t.sec.fwState = 4 ∧ t.sec.phase = 1 := by
  have hrec := h.1.recovery
  refine State.activates (exec_activate h) (u := s) ⟨⟨rfl, rfl, rfl, rfl⟩, rfl, rfl⟩ ?_
  rw [State.takeActivate, if_neg (by simp [hstate]), if_neg (by simp [hrec]), hinfo]
  simp only [hok, if_true]
  exact State.logWrite_told ..

theorem exec_activate_unverified (h : s.mayDo o 0x2801 1) (hstate : s.sec.fwState ≠ 2) : s.refuses (.activate o) o 0x2801 1 abState :=
  State.refuses_of (exec_activate h) (if_pos hstate) (by decide)

theorem exec_activate_unfit {m : FwInfo} (h : s.mayDo o 0x2801 1) (hinfo : s.stagedBank.info = some m)
    (hok : s.activateOk m = false) : s.refuses (.activate o) o 0x2801 1 abState := by
  have hrec := h.1.recovery
  by_cases hstate : s.sec.fwState = 2
  · refine State.refuses_of (exec_activate h) ?_ (by decide)
    rw [State.takeActivate, if_neg (by simp [hstate]), if_neg (by simp [hrec]), hinfo]
    exact if_neg (by simp [hok])
  · exact exec_activate_unverified h hstate

theorem exec_rollback_begins {m : FwInfo} (h : s.mayDo o 0x2801 1) (hverify : s.verifyBank s.stagedBank = some m)
    (hok : s.activateOk m = true) :
    ∃ t, exec (.rollback o) s = .next t ∧ s.sameFirmware t ∧ t.sec.fwState = 4 ∧ t.sec.phase = 1 := by
  have hrec := h.1.recovery
  refine State.activates (exec_rollback h) (s.setStaged_sameFirmware { s.stagedBank with info := some m }) ?_
  rw [State.takeRollback, if_neg (by simp [hrec]), hverify]
  simp only [hok, if_true]
  exact State.logWrite_told ..

theorem exec_rollback_unverified (h : s.mayDo o 0x2801 1) (hverify : s.verifyBank s.stagedBank = none) :
    s.refuses (.rollback o) o 0x2801 1 abState := by
  have hrec := h.1.recovery
  refine State.refuses_of (exec_rollback h) ?_ (by decide)
  rw [State.takeRollback, if_neg (by simp [hrec]), hverify]

/-- The floor rises to the running SVN, 128 at most, and never falls (R450). -/
theorem State.raiseFloor_next (s : State) :
    s.sameFirmware s.raiseFloor ∧ s.raiseFloor.flash.floor = max s.flash.floor (min 128 s.sec.running.svn) := by
  by_cases hle : min 128 s.sec.running.svn ≤ s.flash.floor
  · rw [raiseFloor, if_pos hle]
    exact ⟨⟨⟨rfl, rfl, rfl, rfl⟩, rfl, rfl⟩, (max_eq_left hle).symm⟩
  · let u : State := { s with flash := { s.flash with floor := min 128 s.sec.running.svn } }
    let v := u.logEvent .module 0x2800 4 s.flash.floor (min 128 s.sec.running.svn)
    have hv : u.told v := State.log_told ..
    have hu : s.sameFirmware u := ⟨⟨rfl, rfl, rfl, rfl⟩, rfl, rfl⟩
    have hlast : s.raiseFloor = v ∨ s.raiseFloor = v.fwStateTo 3 := by
      rw [raiseFloor, if_neg hle]
      dsimp only
      split
      · split
        · exact .inr rfl
        · exact .inl rfl
      · exact .inl rfl
    have hfloor : v.flash.floor = max s.flash.floor (min 128 s.sec.running.svn) :=
      hv.floor.trans (max_eq_right (Nat.le_of_not_le hle)).symm
    rcases hlast with h | h
    · exact h ▸ ⟨hu.trans hv.sameFirmware, hfloor⟩
    · exact h ▸ ⟨(hu.trans hv.sameFirmware).trans (v.fwStateTo_sameFirmware 3), hfloor⟩

theorem exec_commit_burns (h : s.mayDo o 0x2801 1) (hcan : s.asCan o = true) (hdev : s.dev = .ready ∨ s.dev = .running ∨ s.dev = .hold)
    (hact : s.activating = false) :
    ∃ t, exec (.commit o) s = .next t ∧ s.sameFirmware t ∧ t.flash.floor = max s.flash.floor (min 128 s.sec.running.svn) := by
  let u := s.logFwCmd (fwWrite o 4)
  have hu : s.told u := State.logWrite_told ..
  have hcommit : s.takeCommit (fwWrite o 4) = ({ data := (fwWrite o 4).data }, u.raiseFloor) :=
    if_pos (by rcases hdev with hd | hd | hd <;> simp [hd, hact])
  have hx := exec_commit h
  rw [if_pos hcan, hcommit] at hx
  obtain ⟨t, hx, ht⟩ := State.accepts_of hx (State.told.refl _)
  obtain ⟨hsame, hfloor⟩ := u.raiseFloor_next
  rw [hu.floor, hu.sec] at hfloor
  exact ⟨t, hx, (hu.sameFirmware.trans hsame).trans ht.sameFirmware, ht.floor.trans hfloor⟩

theorem exec_commit_origin (h : s.mayDo o 0x2801 1) (hcan : s.asCan o = false) : s.refuses (.commit o) o 0x2801 1 abOrigin :=
  State.refuses_of (exec_commit h) (if_neg (by simp [hcan])) (by decide)

/-! ### SYSFL (R469) -/

/-- A write of SYSFL. -/
def sysflWrite (o : Origin) (v : Nat) : Write := { o := o, idx := 0x2810, sub := 1, data := le 4 v }

theorem exec_sysflWrite (v : Nat) (h : s.mayDo o 0x2810 1) :
    exec (.sysflWrite o v) s = .next (State.answerWrite (s.writeSysfl (sysflWrite o v)) (sysflWrite o v)) :=
  State.writes_entry (w := sysflWrite o v) find_sysfl (by decide) (show (0x2810 : Nat) ≠ 0x2201 by decide) (.inr rfl) h

/-- A held write waits with its value. -/
theorem State.hold_waits (s : State) (idx sub : Nat) (v : Int) (quiet : Bool) :
    ∃ l ∈ (s.hold idx sub v quiet).latched, l.key = okey idx sub ∧ l.val = v :=
  ⟨_, List.mem_append_right _ (List.mem_singleton_self _), rfl, rfl⟩

/-- SYSFL is judged by its value within 1 to FLMAX: held, or refused below the level of a loaded pattern. -/
theorem exec_sysflWrite_judged {v : Nat} (hv : v < 2 ^ 32) (h : s.mayDo o 0x2810 1) :
    let a := max 1 (min (max 1 s.sec.running.flmax) v)
    (s.pats.all (fun e => decide (e.2.flevel ≤ a)) = true → ∃ t, exec (.sysflWrite o v) s = .next t ∧ s.sameFirmware t ∧ t.obj = s.obj ∧
      ∃ l ∈ t.latched, l.key = okey 0x2810 1 ∧ l.val = (a : Nat)) ∧
    (s.pats.all (fun e => decide (e.2.flevel ≤ a)) = false → s.refuses (.sysflWrite o v) o 0x2810 1 abState) := by
  intro a
  have hof : ofLe (sysflWrite o v).data = v := by
    rw [sysflWrite, ofLe_le, Nat.mod_eq_of_lt (by omega)]
  have hclamp : clampN 1 (max 1 s.sec.running.flmax) v = a := by
    simp only [clampN, a]
    omega
  have hany : s.pats.any (fun e => decide (a < e.2.flevel)) = !s.pats.all (fun e => decide (e.2.flevel ≤ a)) := by
    simp only [← Nat.not_lt, decide_not, List.all_eq_not_any_not, Bool.not_not]
  have hx := exec_sysflWrite v h
  rw [State.writeSysfl, hof, hclamp, if_neg (by simp [sysflWrite]), hany] at hx
  constructor
  · intro hall
    rw [if_neg (by simp [hall])] at hx
    obtain ⟨t, hx, ht⟩ := State.accepts_of hx (u := s.hold 0x2810 1 (a : Nat) false) (State.logWrite_told ..)
    have hheld : s.sameFirmware (s.hold 0x2810 1 (a : Nat) false) := ⟨⟨rfl, rfl, rfl, rfl⟩, rfl, rfl⟩
    refine ⟨t, hx, hheld.trans ht.sameFirmware, ht.obj, ?_⟩
    rw [ht.latched]
    exact s.hold_waits ..
  · intro hall
    exact State.refuses_of hx (if_pos (by simp [hall])) (by decide)

end

/-- Settles O56: each command comes to its entry, and of the entries only COMMIT and the activation's boundaries reach the image that
runs. -/
theorem firmwareCommands : Obligations.FirmwareCommands := by
  intro s o _ same
  refine ⟨fun off data h => ⟨exec_imageWrite_stages h, exec_imageWrite_activating h, exec_imageWrite_long h⟩,
    fun h => ⟨exec_verify_judges h, exec_verify_activating h, fun m => exec_activate_begins h, exec_activate_unverified h,
      fun m => exec_activate_unfit h, fun m => exec_rollback_begins h, exec_rollback_unverified h, exec_commit_burns h,
      exec_commit_origin h⟩,
    fun v hv h => exec_sysflWrite_judged hv h⟩

end Sys2Proof.Machine

/-!
PROOFS. Dictionary accesses (R417, R418, R428, R432, R433, R435, R437, R443, R445): a write meets the rules one after another, the first
it breaks refuses it, and one that breaks none is stored; a read answers the entry's bytes.
-/
namespace Sys2Proof.Machine

/-! ### A write meets the rules (R428, R435) -/

section
variable {s : State} {w : Write} {e : ObjSpec}

theorem State.write_unheard (h : s.answersAt w.o w.idx w.sub = false) : s.write w = (.unheard, s) := by
  rw [State.write, if_pos (by simp [h])]

/-- A write from an origin that is not answered does nothing. -/
theorem State.writeFrom_unheard (h : s.answersAt w.o w.idx w.sub = false) : s.writeFrom w = s := by
  rw [State.writeFrom, State.write_unheard h]
  rfl

/-- A write of an entry that does not exist is refused for its index, or for its subindex alone. -/
theorem State.write_missing (h : s.mayTry w.o w.idx w.sub) (hfind : Objects.find w.idx w.sub = none) :
    s.write w = s.refuseWrite w (if (Objects.atIndex w.idx).isEmpty then abIndex else abSub) := by
  obtain ⟨hans, hlog, -⟩ := h
  rw [State.write, if_neg (by simp [hans]), if_neg (by omega), hfind]

/-- A write of an entry that exists, in a module past the recovery console and with its control enabled. -/
theorem State.write_found (h : s.mayTry w.o w.idx w.sub) (hfind : Objects.find w.idx w.sub = some e) : s.write w =
    if e.acc = .ro then s.refuseWrite w abReadOnly
    else if !s.mayWrite w.o w.idx w.sub then s.refuseWrite w abOrigin
    else if w.idx = 0x2201 then s.command w
    else if !s.writeState w.idx w.sub then s.refuseWrite w abState
    else if e.typ != .domain && w.off != 0 then s.refuseWrite w abLength
    else s.writeEntry w e := by
  have hkey := h.keyOff
  obtain ⟨hans, hlog, hrec, habs, -⟩ := h
  rw [State.write, if_neg (by simp [hans]), if_neg (by omega), hfind]
  dsimp only
  rw [State.writeAt, if_neg (by simp [hkey]), if_neg (by simp [State.recoveryRefuses, hrec]), if_neg (by simp [habs])]

end

/-- The write that an `objectWrite` makes. -/
abbrev objWrite (o : Origin) (idx sub : Nat) (data : Bytes) : Write := { o := o, idx := idx, sub := sub, data := data }

section
variable {s : State} {o : Origin} {idx sub : Nat} {data : Bytes} {e : ObjSpec}

theorem exec_objectWrite_unheard (h : s.answersAt o idx sub = false) : exec (.objectWrite o idx sub data) s = .next s := by
  show s.writes (objWrite o idx sub data) = .next s
  rw [State.writes, State.whenOn, State.writeFrom_unheard (w := objWrite o idx sub data) h, ite_self]

/-- A write that is heard goes the way of `write`. -/
theorem exec_objectWrite (h : s.answersAt o idx sub = true) : exec (.objectWrite o idx sub data) s =
    .next (State.answerWrite (s.write (objWrite o idx sub data)) (objWrite o idx sub data)) :=
  State.whenOn_on (State.on_of_answersAt h) (fun s => s.writeFrom (objWrite o idx sub data))

/-- A write that ends in a refusal is refused. -/
theorem State.refuses_objectWrite {abort : Nat} (h : s.mayTry o idx sub)
    (hw : s.write (objWrite o idx sub data) = s.refuseWrite (objWrite o idx sub data) abort) (ha : abort ≠ 0) :
    s.refuses (.objectWrite o idx sub data) o idx sub abort :=
  State.refuses_of (w := objWrite o idx sub data) (exec_objectWrite h.1) hw ha

/-- With the log near full a write is refused and counted, not logged (R445). -/
theorem exec_objectWrite_logFull (h : s.answersAt o idx sub = true) (hfull : 3840 ≤ s.flash.log.buffered) :
    ∃ t, exec (.objectWrite o idx sub data) s = .next t ∧ t.answered o abToken ∧ t.flash = s.flash ∧
      t.obj = (s.addOb 0x2900 7 1).obj ∧ s.sameRun t := by
  let w := objWrite o idx sub data
  have hw : s.write w = ({ abort := abToken }, s.addOb 0x2900 7 1) := by
    rw [State.write, if_neg (by simp [w, h]), if_pos hfull]
  have hx := exec_objectWrite (data := data) h
  rw [show s.write (objWrite o idx sub data) = _ from hw] at hx
  obtain ⟨out, b, hsent⟩ := State.answerWrite_sends { abort := abToken } (s.addOb 0x2900 7 1) w
  refine ⟨_, hx, State.answerWrite_aborts _ w (by decide), ?_⟩
  rw [show State.answerWrite ({ abort := abToken }, s.addOb 0x2900 7 1) (objWrite o idx sub data) = _ from hsent]
  exact ⟨rfl, rfl, rfl, rfl, rfl, rfl⟩

/-! ### Refused by the first rule that is broken -/

theorem exec_objectWrite_noIndex (h : s.mayTry o idx sub) (hnone : Objects.atIndex idx = []) :
    s.refuses (.objectWrite o idx sub data) o idx sub abIndex := by
  refine State.refuses_objectWrite h ((State.write_missing h ?_).trans ?_) (by decide)
  · simp [Objects.find, hnone]
  · simp [objWrite, hnone]

theorem exec_objectWrite_noSub (h : s.mayTry o idx sub) (hsome : Objects.atIndex idx ≠ []) (hfind : Objects.find idx sub = none) :
    s.refuses (.objectWrite o idx sub data) o idx sub abSub :=
  State.refuses_objectWrite h ((State.write_missing h hfind).trans (by simp [objWrite, hsome])) (by decide)

theorem exec_objectWrite_readOnly (h : s.mayTry o idx sub) (hfind : Objects.find idx sub = some e) (hacc : e.acc = .ro) :
    s.refuses (.objectWrite o idx sub data) o idx sub abReadOnly :=
  State.refuses_objectWrite h ((State.write_found h hfind).trans (if_pos hacc)) (by decide)

theorem exec_objectWrite_origin (h : s.mayTry o idx sub) (hfind : Objects.find idx sub = some e) (hacc : e.acc ≠ .ro)
    (hmay : s.mayWrite o idx sub = false) : s.refuses (.objectWrite o idx sub data) o idx sub abOrigin :=
  State.refuses_objectWrite h ((State.write_found h hfind).trans ((if_neg hacc).trans (if_pos (by simp [hmay])))) (by decide)

theorem exec_objectWrite_state (h : s.mayTry o idx sub) (hfind : Objects.find idx sub = some e) (hacc : e.acc ≠ .ro)
    (hmay : s.mayWrite o idx sub = true) (hcmd : idx ≠ 0x2201) (hstate : s.writeState idx sub = false) :
    s.refuses (.objectWrite o idx sub data) o idx sub abState := by
  refine State.refuses_objectWrite h ((State.write_found h hfind).trans ?_) (by decide)
  rw [if_neg hacc, if_neg (by simp [hmay]), if_neg hcmd, if_pos (by simp [hstate])]

/-! ### Numbers (R437) -/

/-- Of the entries with a rule of their own, none that can be read back and has a fixed size is a list, an image, a key record or a
command, and ROUTES has no fixed size. -/
theorem Objects.sized_is_number : (∀ idx ∈ [0x2405, 0x2801, 0x2820, 0x2830], ∀ e ∈ Objects.atIndex idx, e.acc = .rw → e.typ.size = none) ∧
    ∀ e ∈ Objects.find 0x2600 5, e.typ.size = none := by decide +kernel

theorem Objects.find_mem (hfind : Objects.find idx sub = some e) : e ∈ Objects.atIndex idx := List.mem_of_find?_eq_some hfind

/-- A write to a sized entry that can be read back is that of a number. -/
theorem State.writeEntry_number {n : Nat} (hfind : Objects.find idx sub = some e) (hacc : e.acc = .rw) (hsize : e.typ.size = some n)
    (htok : idx ≠ 0x2A20) (hrem : idx ≠ 0x2302) (hfl : idx ≠ 0x2810) :
    s.writeEntry (objWrite o idx sub data) e = s.writeNumber (objWrite o idx sub data) e := by
  obtain ⟨hnumber, hroutes⟩ := Objects.sized_is_number
  have hno : ∀ k ∈ [0x2405, 0x2801, 0x2820, 0x2830], idx ≠ k := by
    rintro k hk rfl
    have := hnumber idx hk e (Objects.find_mem hfind) hacc
    rw [hsize] at this
    exact nomatch this
  have hnoRoutes : ¬(idx = 0x2600 ∧ sub = 5) := by
    rintro ⟨rfl, rfl⟩
    rw [hroutes e hfind] at hsize
    exact nomatch hsize
  simp only [List.forall_mem_cons, List.not_mem_nil, false_imp_iff, implies_true, and_true] at hno
  obtain ⟨h2405, h2801, h2820, h2830⟩ := hno
  rw [State.writeEntry]
  simp only [objWrite, htok, hrem, hfl, h2405, h2801, h2820, h2830, hnoRoutes, false_and, if_false]

/-- What a value that does not fit is refused with (R437). -/
theorem State.fitValue_error {v : Int} {code : Nat} (h : s.fitValue e idx sub v = .error code) : code = abValue := by
  have hmultiple (n : Nat) (h : multipleOf n v = .error code) : code = abValue := by
    unfold multipleOf at h
    split at h
    · exact nomatch h
    · exact (Except.error.inj h).symm
  have hwindow (w : Nat) (h : s.windowFit w sub v = .error code) : code = abValue := by
    unfold windowFit at h
    dsimp only at h
    generalize (if sub = 1 then _ else _ : Bool) = ok at h
    cases ok with
    | true => exact nomatch h
    | false => exact (Except.error.inj h).symm
  unfold fitValue at h
  split at h
  case h_3 =>
    split at h
    · exact nomatch h
    · exact (Except.error.inj h).symm
  case h_6 =>
    unfold ownFit at h
    split_ifs at h
    · exact hwindow _ h
    · exact hmultiple _ h
    · exact hmultiple _ h
  all_goals exact nomatch h

section
variable {n : Nat} (h : s.mayDo o idx sub) (hfind : Objects.find idx sub = some e) (hacc : e.acc = .rw) (hcmd : idx ≠ 0x2201)
  (htok : idx ≠ 0x2A20) (hrem : idx ≠ 0x2302) (hfl : idx ≠ 0x2810) (hsize : e.typ.size = some n)
include h hfind hacc hcmd htok hrem hfl hsize

/-- A write that breaks no rule of its origin and of the state is judged as a number. -/
theorem State.write_number : s.write (objWrite o idx sub data) = s.writeNumber (objWrite o idx sub data) e := by
  obtain ⟨htry, hmay, hstate⟩ := h
  rw [State.write_tried (w := objWrite o idx sub data) hfind (by simp [hacc]) hcmd rfl htry hmay, if_pos hstate]
  exact State.writeEntry_number hfind hacc hsize htok hrem hfl

theorem exec_objectWrite_length (hlen : data.length ≠ n) : s.refuses (.objectWrite o idx sub data) o idx sub abLength := by
  refine State.refuses_objectWrite h.1 ((State.write_number h hfind hacc hcmd htok hrem hfl hsize).trans (if_pos (.inl ?_))) (by decide)
  rw [hsize]
  exact fun heq => hlen (Option.some.inj heq).symm

theorem exec_objectWrite_value (hlen : data.length = n) {code : Nat} (hfit : s.fitValue e idx sub (e.typ.decode data) = .error code) :
    s.refuses (.objectWrite o idx sub data) o idx sub code := by
  have hcode := State.fitValue_error hfit
  refine State.refuses_objectWrite h.1 ((State.write_number h hfind hacc hcmd htok hrem hfl hsize).trans ?_) (by rw [hcode]; decide)
  have hno : ¬(e.typ.size ≠ some data.length ∨ (objWrite o idx sub data).off ≠ 0) := by simp [hsize, hlen]
  rw [State.writeNumber, if_neg hno]
  simp only [objWrite, hfit]

/-- A value that fits is stored. -/
theorem exec_objectWrite_fits (hlen : data.length = n) {a : Int} (hfit : s.fitValue e idx sub (e.typ.decode data) = .ok (a, 0)) :
    exec (.objectWrite o idx sub data) s = .next (State.answerWrite
      (s.storeWrite (objWrite o idx sub data) e (e.typ.decode data) a 0) (objWrite o idx sub data)) := by
  rw [exec_objectWrite h.1.1, State.write_number h hfind hacc hcmd htok hrem hfl hsize]
  have hsized : e.typ.size = some (objWrite o idx sub data).data.length := by rw [hsize, ← hlen]
  rw [State.writeNumber_fits (w := objWrite o idx sub data) hsized rfl rfl hfit]

/-- A latched entry waits with its value for the row boundary (R433). -/
theorem exec_objectWrite_latched (hlen : data.length = n) {a : Int} (hfit : s.fitValue e idx sub (e.typ.decode data) = .ok (a, 0))
    (hl : latchedEntry idx sub = true) : ∃ t, exec (.objectWrite o idx sub data) s = .next t ∧ t.obj = s.obj ∧ s.sameRun t ∧
      ∃ l ∈ t.latched, l.key = okey idx sub ∧ l.val = a := by
  have hx := exec_objectWrite_fits h hfind hacc hcmd htok hrem hfl hsize hlen hfit
  have hstore : (s.hold idx sub a false).told (s.storeWrite (objWrite o idx sub data) e (e.typ.decode data) a 0).2 := by
    rw [State.storeWrite, if_pos hl]
    exact State.logWrite_told ..
  obtain ⟨t, hx, ht⟩ := State.accepts_of hx hstore
  have hheld : s.sameRun (s.hold idx sub a false) := ⟨rfl, rfl, rfl, rfl⟩
  refine ⟨t, hx, ht.obj, hheld.trans ht.sameRun, ?_⟩
  rw [ht.latched]
  exact s.hold_waits ..

/-! ### Stored at once (R432, R443) -/

/-- A value that is neither latched nor held for the boundary is logged and applied at once. -/
theorem exec_objectWrite_at_once (hlen : data.length = n) {a : Int} (hfit : s.fitValue e idx sub (e.typ.decode data) = .ok (a, 0))
    (hl : latchedEntry idx sub = false) (hb : boundaryEntry idx sub = false) (hplain : ∀ u : State,
      u.quiesceOk idx sub a = true ∧ u.applyWrite o idx sub a = u.setOb idx sub a) :
    let c := decide (a ≠ e.typ.decode data)
    ∃ u, s.oneRecord u o (if c then 1 else 0) idx sub ∧
      exec (.objectWrite o idx sub data) s =
        .next (State.answerWrite ({ clamped := c, data := e.typ.encode a }, u.setOb idx sub a) (objWrite o idx sub data)) := by
  intro c
  have hc : (decide (a ≠ e.typ.decode data) && 0 &&& 2 == 0) = c := by simp [c]
  have hx := exec_objectWrite_fits h hfind hacc hcmd htok hrem hfl hsize hlen hfit
  rw [State.storeWrite, if_neg (by simp [hl]), if_neg (by simp [hb]), if_neg (by simp [(hplain s).1])] at hx
  dsimp only at hx
  rw [hc, (hplain _).2] at hx
  exact ⟨_, s.log_oneRecord .., hx⟩

end

/-- The entries of HEARTBEAT, STATUSFRAME and the panel are plain: their subindexes fit a byte, and they store their value. -/
theorem Objects.plain_sub : ∀ idx ∈ [0x1017, 0x2200, 0x2A00], ∀ e ∈ Objects.atIndex idx, e.sub < 256 := by decide +kernel

theorem State.applyWrite_plain (hidx : idx ∈ [0x1017, 0x2200, 0x2A00]) (u : State) (o : Origin) (a : Int) :
    u.quiesceOk idx sub a = true ∧ u.applyWrite o idx sub a = u.setOb idx sub a := by
  have hport : inIdx 0x2620 0x2631 idx = false ∧ inIdx 0x2B20 0x2B2F idx = false ∧ idx ≠ 0x2900 ∧ idx ≠ 0x2404 ∧ idx ≠ 0x2100 ∧
      idx ≠ 0x2B00 ∧ idx ≠ 0x2D00 ∧ idx ≠ 0x2600 := by
    simp only [List.mem_cons, List.not_mem_nil, or_false] at hidx
    rcases hidx with rfl | rfl | rfl <;> decide
  obtain ⟨hp, hset, h1, h2, h3, h4, h5, h6⟩ := hport
  simp [quiesceOk, applyWrite, dependents, hp, hset, h1, h2, h3, h4, h5, h6]

/-- An answer that carries no abort code, as its origin receives it. -/
theorem State.answerWrite_done (a : Answer) (s : State) (w : Write) (hheard : a.heard = true) (hok : a.abort = 0) :
    let t := State.answerWrite (a, s) w
    (w.o = .can → ∃ os, t.out = .usdo 0 [] :: os) ∧ (w.o = .cxl → t.bar2.abort = 0 ∧ t.bar2.clamped = a.clamped) := by
  obtain ⟨o, idx, sub, off, data⟩ := w
  refine ⟨?_, ?_⟩
  · rintro rfl
    exact ⟨s.out, by simp [answerWrite, hheard, hok, emit]⟩
  · rintro rfl
    simp [answerWrite, hheard, Bar2.finish, hok]

/-- HEARTBEAT, STATUSFRAME and the panel's entries take their value at once; no other entry changes, and one record tells of it. -/
theorem exec_objectWrite_plain {n : Nat} (h : s.mayDo o idx sub) (hfind : Objects.find idx sub = some e) (hacc : e.acc = .rw)
    (hsize : e.typ.size = some n) (hlen : data.length = n) {a : Int}
    (hfit : s.fitValue e idx sub (e.typ.decode data) = .ok (a, 0)) (hl : latchedEntry idx sub = false)
    (hb : boundaryEntry idx sub = false) (hidx : idx ∈ [0x1017, 0x2200, 0x2A00]) :
    ∃ t, exec (.objectWrite o idx sub data) s = .next t ∧ t.ob idx sub = a ∧ s.sameRun t ∧
      (∀ k l, l < 256 → (k, l) ≠ (idx, sub) → t.ob k l = s.ob k l) ∧ (o = .can → ∃ os, t.out = .usdo 0 [] :: os) ∧
      (o = .cxl → t.bar2.abort = 0 ∧ (t.bar2.clamped = true ↔ a ≠ e.typ.decode data)) ∧
      ∃ r : LogRec, t.flash.log = s.flash.log.push r ∧ r.result = if a ≠ e.typ.decode data then 1 else 0 := by
  have hother : idx ≠ 0x2201 ∧ idx ≠ 0x2A20 ∧ idx ≠ 0x2302 ∧ idx ≠ 0x2810 := by
    simp only [List.mem_cons, List.not_mem_nil, or_false] at hidx
    omega
  obtain ⟨hcmd, htok, hrem, hfl⟩ := hother
  have hsub : sub < 256 := by
    have heq : e.sub = sub := by simpa using List.find?_some hfind
    exact heq ▸ Objects.plain_sub idx hidx e (Objects.find_mem hfind)
  obtain ⟨u, ⟨r, -, hr, -, -, hlog, hu⟩, hx⟩ := exec_objectWrite_at_once h hfind hacc hcmd htok hrem hfl hsize hlen hfit hl hb
    (fun u => State.applyWrite_plain hidx u o a)
  let ans : Answer := { clamped := decide (a ≠ e.typ.decode data), data := e.typ.encode a }
  obtain ⟨out, b, hsent⟩ := State.answerWrite_sends ans (u.setOb idx sub a) (objWrite o idx sub data)
  obtain ⟨hcan, hcxl⟩ := State.answerWrite_done ans (u.setOb idx sub a) (objWrite o idx sub data) rfl rfl
  generalize State.answerWrite (ans, u.setOb idx sub a) (objWrite o idx sub data) = t at hx hsent hcan hcxl
  have hrun : s.sameRun u := by rw [hu]; exact ⟨rfl, rfl, rfl, rfl⟩
  have hob (k l : Nat) : u.ob k l = s.ob k l := by rw [hu]; rfl
  have hsentOb (k l : Nat) : t.ob k l = (u.setOb idx sub a).ob k l := by rw [hsent]; rfl
  refine ⟨t, hx, (hsentOb ..).trans (u.ob_setOb_same ..), ?_, fun k l hk hne => ?_, hcan, fun ho => ?_, r, ?_, ?_⟩
  · rw [hsent]
    exact hrun
  · refine (hsentOb ..).trans ((u.ob_setOb_ne a fun heq => hne ?_).trans (hob ..))
    obtain ⟨rfl, rfl⟩ := okey_inj hk hsub heq
    rfl
  · obtain ⟨habort, hclamped⟩ := hcxl ho
    exact ⟨habort, by rw [hclamped]; exact decide_eq_true_iff⟩
  · rw [hsent]
    exact hlog
  · simpa using hr

/-! ### Reads -/

theorem State.read_noIndex {off len : Nat} (hans : s.answersAt o idx sub = true) (hnone : Objects.atIndex idx = []) :
    s.read o idx sub off len = ({ abort := abIndex }, s) := by
  rw [State.read, if_neg (by simp [hans]), if_pos (by simp [hnone])]

theorem State.read_noSub {off len : Nat} (hans : s.answersAt o idx sub = true) (hsome : Objects.atIndex idx ≠ [])
    (hfind : Objects.find idx sub = none) : s.read o idx sub off len = ({ abort := abSub }, s) := by
  rw [State.read, if_neg (by simp [hans]), if_neg (by simp [hsome]), hfind]

theorem State.read_unheard {off len : Nat} (hans : s.answersAt o idx sub = false) : s.read o idx sub off len = (.unheard, s) := by
  rw [State.read, if_pos (by simp [hans])]

/-- A read of a number or a string answers the entry's bytes and changes nothing, but for the alarm bit of STATUS. -/
theorem State.read_number {len : Nat} (hans : s.answersAt o idx sub = true) (hfind : Objects.find idx sub = some e) (hacc : e.acc ≠ .wo)
    (htyp : e.typ ≠ .domain) (hstatus : (idx, sub) ≠ (0x2100, 3)) :
    s.read o idx sub 0 len = ({ data := (s.entryBytes o e idx sub).take (min len maxTransfer) }, s) := by
  have hstream (k : Nat) (hk : ∀ f ∈ Objects.find k 1, f.typ = .domain) : ¬(idx = k ∧ sub = 1) := by
    rintro ⟨rfl, rfl⟩
    exact htyp (hk e hfind)
  have hafter : s.afterRead idx sub = s := if_neg (by simpa using hstatus)
  rw [State.read_found 0 len hans hfind hacc, if_neg (hstream _ (by simp [find_log])), if_neg (hstream _ (by simp [find_stream])),
    if_neg (by simp), hafter]
  simp [htyp]

theorem exec_usdoTransfer_reads (h : s.answersAt .can idx sub = true) : exec (.usdoTransfer false idx sub data) s =
    .next (State.answerRead (s.read .can idx sub 0 maxTransfer) .can idx sub 0 maxTransfer) :=
  State.whenOn_on (State.on_of_answersAt h) (fun s => s.readFrom .can idx sub 0 maxTransfer)

/-- An entry that can be read is read over CAN and over BAR2, and nothing but the answer changes. -/
theorem exec_read_number (len : Nat) (hcan : s.answersAt .can idx sub = true) (hcxl : s.answersAt .cxl idx sub = true)
    (hfind : Objects.find idx sub = some e) (hacc : e.acc ≠ .wo) (htyp : e.typ ≠ .domain) (hstatus : (idx, sub) ≠ (0x2100, 3)) :
    exec (.usdoTransfer false idx sub data) s = .next (s.emit (.usdo 0 ((s.entryBytes .can e idx sub).take maxTransfer))) ∧
    ∃ t, exec (.bar2Read idx sub 0 len) s = .next t ∧ t = { s with bar2 := t.bar2 } ∧ t.bar2.done = true ∧
      t.bar2.busy = false ∧ t.bar2.abort = 0 ∧
      t.bar2.buf.take t.bar2.doneLen = (s.entryBytes .cxl e idx sub).take (min len maxTransfer) := by
  constructor
  · rw [exec_usdoTransfer_reads hcan, State.read_number hcan hfind hacc htyp hstatus, Nat.min_self]
    rfl
  · have hx : exec (.bar2Read idx sub 0 len) s = .next (s.readFrom .cxl idx sub 0 len) :=
      State.whenOn_on (State.on_of_answersAt hcxl) (fun s => s.readFrom .cxl idx sub 0 len)
    rw [State.readFrom, State.read_number hcxl hfind hacc htyp hstatus] at hx
    obtain ⟨habort, hdone, hbusy, hbuf⟩ := State.answerRead_bar2
      (a := { data := (s.entryBytes .cxl e idx sub).take (min len maxTransfer) }) s idx sub 0 len rfl rfl
    exact ⟨_, hx, rfl, hdone, hbusy, habort, hbuf⟩

/-! ### BAR2 (R417, R418) -/

theorem exec_bar2_unheard (h : s.answersAt .cxl idx sub = false) (off len : Nat) :
    exec (.bar2Read idx sub off len) s = .next s ∧ exec (.bar2Write idx sub off len data) s = .next s := by
  have hread : s.readFrom .cxl idx sub off len = s := by
    rw [State.readFrom, State.read_unheard h]
    rfl
  have hsubmit : s.bar2Submit idx sub off len data = s := if_pos (by simp [h])
  constructor
  · show s.whenOn (fun s => s.readFrom .cxl idx sub off len) = _
    rw [State.whenOn, hread, ite_self]
  · show s.whenOn (fun s => s.bar2Submit idx sub off len data) = _
    rw [State.whenOn, hsubmit, ite_self]

/-- The first bytes of a buffer with data placed at its start. -/
theorem fit_append_left (a b : Bytes) : fit a.length (a ++ b) = a := by
  rw [fit, List.append_assoc, List.take_left]

/-- A write over BAR2 is that of the buffer's first bytes. -/
theorem exec_bar2Write_heard {len : Nat} (h : s.answersAt .cxl idx sub = true) (hlen : len ≤ maxTransfer) (hdata : data.length = len) :
    exec (.bar2Write idx sub 0 len data) s =
      exec (.objectWrite .cxl idx sub data) { s with bar2 := { s.bar2 with buf := data ++ s.bar2.buf.drop len } } := by
  let u : State := { s with bar2 := { s.bar2 with buf := data ++ s.bar2.buf.drop len } }
  have hon : s.on = true := State.on_of_answersAt h
  have hplace : s.bar2.place (data.take maxTransfer) = data ++ s.bar2.buf.drop len := by
    rw [List.take_of_length_le (hdata ▸ hlen), Bar2.place, hdata]
  have hsubmit : s.bar2Submit idx sub 0 len data = u.writeFrom (objWrite .cxl idx sub data) := by
    rw [State.bar2Submit, if_neg (by simp [h])]
    dsimp only
    rw [if_neg (by omega), hplace, ← hdata, fit_append_left]
    simp only [u, hdata, objWrite]
  have hw : exec (.objectWrite .cxl idx sub data) u = .next (u.writeFrom (objWrite .cxl idx sub data)) :=
    State.whenOn_on (s := u) hon (fun s => s.writeFrom (objWrite .cxl idx sub data))
  exact (State.whenOn_on hon (fun s => s.bar2Submit idx sub 0 len data)).trans ((congrArg _ hsubmit).trans hw.symm)

end

/-- Settles O52: the rules are met in the order of `State.write`, and what breaks none is stored. -/
theorem dictionaryAccesses : Obligations.DictionaryAccesses := by
  intro s o idx sub data i
  refine ⟨exec_objectWrite_unheard, fun h off len => exec_bar2_unheard h off len, exec_objectWrite_logFull, exec_objectWrite_noIndex,
    exec_objectWrite_noSub, fun e h hfind => ⟨exec_objectWrite_readOnly h hfind, exec_objectWrite_origin h hfind,
      exec_objectWrite_state h hfind, fun hdo hacc hcmd htok hrem hfl n hsize => ?number⟩,
    fun len hcan hcxl => ⟨fun hnone => ?noIndex, fun hsome hfind => ?noSub, fun e => exec_read_number len hcan hcxl⟩, rfl,
    fun len => exec_bar2Write_heard⟩
  case number =>
    refine ⟨exec_objectWrite_length hdo hfind hacc hcmd htok hrem hfl hsize,
      fun hlen code => exec_objectWrite_value hdo hfind hacc hcmd htok hrem hfl hsize hlen, fun hlen a hfit => ⟨?_, ?_⟩⟩
    · exact exec_objectWrite_latched hdo hfind hacc hcmd htok hrem hfl hsize hlen hfit
    · exact exec_objectWrite_plain hdo hfind hacc hsize hlen hfit
  case noIndex => rw [exec_usdoTransfer_reads hcan, State.read_noIndex hcan hnone]; rfl
  case noSub => rw [exec_usdoTransfer_reads hcan, State.read_noSub hcan hsome hfind]; rfl

end Sys2Proof.Machine

/-!
PROOFS. The front panel (R435, R473, R476 to R479, R482): a touch is kept, ignored or served, and what is served goes the way of a write;
and the console (R419, R480), whose lines are reads and writes of the dictionary.
-/
namespace Sys2Proof.Machine

/-! ### A touch (R473, R482) -/

section
variable {s : State} {key idx sub v : Nat} {f : State → State}

/-- Before the end of step 3 a touch is kept while the list has room (R473). -/
theorem State.touch_early (hstep : s.start.step3done ≠ true) (hroom : s.fe.early.length < 32) :
    let t := s.touch key idx sub v f
    t.fe.early = s.fe.early ++ [(s.sinceOn, idx, sub)] ∧ t.dev = s.dev ∧ t.obj = s.obj := by
  have ht : s.touch key idx sub v f = s.earlyTouch idx sub := if_pos (by simp [hstep])
  intro t
  have he : t = s.modFe (fun f => { f with early := f.early ++ [(s.sinceOn, idx, sub)] }) :=
    ht.trans (congrArg (fun f => { s with fe := f }) (if_pos hroom))
  rw [he]
  exact ⟨rfl, rfl, rfl⟩

/-- A disabled key's touch leaves the log's record and its message (R482). -/
theorem State.touch_disabled (hstep : s.start.step3done = true) (hkey : bit (s.nat 0x2A00 1) key = false) :
    let t := s.touch key idx sub v f
    t.panel.keyMsg = 2 ∧ t.dev = s.dev ∧ t.obj = s.obj ∧ t.panel.page = s.panel.page ∧
      ∃ r : LogRec, t.flash.log = s.flash.log.push r ∧ r.origin = 4 ∧ r.result = 9 ∧ r.idx = idx ∧ r.sub = sub := by
  have ht : s.touch key idx sub v f = s.keyDisabled idx sub v := (if_neg (by simp [hstep])).trans (if_pos (by simp [hkey]))
  obtain ⟨r, ho, hr, hi, hj, p, out, hlog⟩ := s.log_pushes .panel 9 idx sub v v v 0
  have hflash : (s.log .panel 9 idx sub v v v).flash.log = s.flash.log.push r := by rw [hlog]
  have htold : s.told (s.log .panel 9 idx sub v v v) := s.log_told ..
  have hpage : (s.log .panel 9 idx sub v v v).panel.page = s.panel.page := by rw [htold.panel]
  rw [ht]
  exact ⟨rfl, htold.dev, htold.obj, hpage, r, hflash, ho, hr, hi, hj⟩

theorem State.touch_served (hstep : s.start.step3done = true) (hkey : bit (s.nat 0x2A00 1) key = true) :
    s.touch key idx sub v f = f s := (if_neg (by simp [hstep])).trans (if_neg (by simp [hkey]))

end

/-- What the panel's write tells is told in no answer (R414). -/
theorem State.answerWrite_panel (r : Answer × State) {w : Write} (h : w.o = .panel) : State.answerWrite r w = r.2 := by
  rw [State.answerWrite, h]
  exact ite_self _

/-! ### The release button (R477) -/

/-- The module with the release button held. -/
def State.pressed (s : State) : State := { s with panel := { s.panel with held := true } }

section
variable {s : State} {ms : Nat}

theorem exec_releasePress (hon : s.on = true) : exec (.releasePress ms) s = .next
    (if 3000 ≤ ms ∧ !s.start.step3done then s.pressed.modFe (fun f => { f with releaseLatched := true })
     else s.pressed.touch 1 0x2201 1 0 (fun s => if 3000 ≤ ms then s.removeByPress else s.touchEvent 0x2201 1 0)) := by
  show execReleasePress ms s = _
  rw [execReleasePress, State.whenOn_on hon]
  rfl

/-- A press that is not latched is a touch of its key. -/
theorem exec_releasePress_touch (hon : s.on = true) (h : ms < 3000 ∨ s.start.step3done = true) : exec (.releasePress ms) s =
    .next (s.pressed.touch 1 0x2201 1 0 (fun s => if 3000 ≤ ms then s.removeByPress else s.touchEvent 0x2201 1 0)) := by
  rw [exec_releasePress hon, if_neg]
  rintro ⟨hlong, hstep⟩
  rcases h with h | h
  · omega
  · simp [h] at hstep

theorem State.stateMoved.panel {t : State} (h : s.stateMoved t) : t.panel = s.panel := by
  obtain ⟨_, _, _, ⟨_, _, _, _, _, _, rfl⟩, -⟩ := h
  rfl

theorem State.stateMoved.sameRun {t : State} (h : s.stateMoved t) : s.sameRun t := ⟨h.mem, h.cells, h.row, h.pats⟩

/-- The panel meets no rule but its entry's own where its key is enabled. -/
theorem State.mayTry_panel {idx sub : Nat} (hans : s.answersAt .panel idx sub = true) (hlog : s.flash.log.buffered < 3840)
    (hrec : s.start.recovery = false) (habsent : s.absentEntry idx = false) (hkey : bit (s.nat 0x2A00 1) (panelKey idx) = true) :
    s.mayTry .panel idx sub := ⟨hans, hlog, hrec, habsent, .inr (.inr (.inr ⟨rfl, hkey⟩))⟩

variable (h : s.mayTry .panel 0x2201 1)
include h

/-- A press that the state refuses shows it, and changes nothing else (R477). -/
theorem State.removeByPress_refused (hok : s.commandOk 4 = false) :
    s.removeByPress.dev = s.dev ∧ s.removeByPress.panel.keyMsg = 1 ∧ s.removeByPress.obj = s.obj := by
  have hw : s.write (commandWrite .panel cmdBindRemove) = s.refuseWrite (commandWrite .panel 4) abState :=
    (State.write_command 4 h).trans (State.command_state (by decide) (by decide) (by simp [State.mayCommand, cmdBindRemove]) hok)
  have htold : s.told (s.refuseWrite (commandWrite .panel 4) abState).2 := State.log_told ..
  have hr : s.removeByPress = (s.refuseWrite (commandWrite .panel 4) abState).2.keyMessage 1 := by
    rw [State.removeByPress, hw]
    exact if_neg (by simp [State.refuseWrite, abState])
  rw [hr]
  exact ⟨htold.dev, rfl, htold.obj⟩

/-- A press that the state accepts begins the bind-off toward removal (R338, R339, R477). -/
theorem State.removeByPress_taken (hdev : s.dev = .ready ∨ s.dev = .running ∨ s.dev = .hold) :
    let t := s.removeByPress
    t.dev = .bindOff ∧ t.nat 0x2200 2 = (if s.grouped then 3 else 2) ∧ t.panel = s.panel ∧ s.sameRun t := by
  have hrec : s.start.recovery = false := h.2.2.1
  have hok : s.commandOk 4 = true := by rcases hdev with hd | hd | hd <;> simp [State.commandOk, hrec, hd, cmdBindRemove]
  let n := s.commandNoted .panel 4
  have hn := State.stateMoved.of_told (s.commandNoted_told (o := .panel) (code := 4))
  let sub := if s.grouped then 3 else 2
  have hgrouped : n.grouped = s.grouped := by rw [State.grouped, State.grouped, State.commandNoted_nat (by decide)]
  have htake : n.takeCommand 4 = n.beginBindOff sub := by
    have hd : n.dev = s.dev := State.commandNoted_dev
    show n.takeBindRemove = _
    rcases hdev with hs | hs | hs <;> simp only [State.takeBindRemove, hd, hs, hgrouped, sub]
  have hr : s.removeByPress = n.beginBindOff sub := by
    have hw : s.write (commandWrite .panel cmdBindRemove) =
        ({ data := (commandWrite .panel 4).data }, n.takeCommand 4) := by
      refine (State.write_command 4 h).trans ?_
      simp only [State.command, ofLe_command (show 4 ≤ 5 by decide)]
      rw [if_neg (by simp [commandWrite, State.mayCommand, cmdBindRemove]), if_neg (by simp [commandWrite]), if_neg (by omega),
        if_neg (by simp [hok])]
      rfl
    rw [State.removeByPress, hw, htake]
    exact if_pos rfl
  let b : State := { n with start := { n.start with runPend := false, holdPend := false, bindOffMember := n.grouped } }
  have hmoved : b.stateMoved (n.beginBindOff sub) := (b.enter_moved .bindOff).1.trans ((b.enter .bindOff).setSubstate_moved sub).1
  obtain ⟨-, hbound, hsub, -⟩ := n.beginBindOff_moves sub
  have hkept : s.sameRun n := ⟨hn.mem, hn.cells, hn.row, hn.pats⟩
  rw [hr]
  exact ⟨hbound, hsub, hmoved.panel.trans hn.panel, hkept.trans hmoved.sameRun⟩

end

/-! ### The cage pads (R476) -/

section
variable {s : State} {p : Nat}

theorem exec_cagePadTouch {ms : Nat} (hon : s.on = true) (hp : p < s.portCount) : exec (.cagePadTouch p ms) s =
    .next (s.touch 2 (0x2620 + p) 6 (s.nat (0x2620 + p) 6) (fun s => s.padTouched p ms)) :=
  (if_pos (decide_eq_true hp)).trans (State.whenOn_on hon _)

/-- What a pad does is a QUIESCE of the panel. -/
theorem exec_quiesce_pad {v : Nat} (hon : s.on = true) (hp : p < s.portCount) :
    exec (.quiesce .panel p v) s = .next (s.padWrites p v) := by
  have hunit : exec (.quiesce .panel p v) s = s.whenOn (fun s => s.writeFrom (quiesceWrite .panel p v)) :=
    if_pos (decide_eq_true (lt_of_lt_of_le hp s.portCount_le))
  rw [hunit, State.whenOn_on hon, State.writeFrom, State.answerWrite_panel _ rfl]
  rfl

/-- A pad of a port that the variant has writes its QUIESCE in every state from READY on. -/
theorem State.mayDo_pad (hp : p < s.portCount) (hans : s.answersAt .panel (0x2620 + p) 6 = true) (hlog : s.flash.log.buffered < 3840)
    (hrec : s.start.recovery = false) (hkey : bit (s.nat 0x2A00 1) 2 = true)
    (hdev : s.dev = .ready ∨ s.dev = .running ∨ s.dev = .hold) : s.mayDo .panel (0x2620 + p) 6 := by
  have hp' : p < 18 := lt_of_lt_of_le hp s.portCount_le
  have hpanel : panelKey (0x2620 + p) = 2 := if_neg (by omega)
  have habsent : s.absentEntry (0x2620 + p) = false := by
    have hx : (0x2620 + p == 0x2C02) = false := by simp; omega
    rw [State.absentEntry, hx, Nat.add_sub_cancel_left]
    simp [hp]
  refine ⟨State.mayTry_panel hans hlog hrec habsent (hpanel ▸ hkey), ?_, ?_⟩
  · rw [State.mayWrite, if_neg (by simp [State.asCan])]
    simp [inIdx_port hp']
  · have hany : ∀ p < 18, anyState (0x2620 + p) 6 = false ∧ inIdx 0x2640 0x267F (0x2620 + p) = false ∧
        inIdx 0x2B20 0x2B2F (0x2620 + p) = false := by decide +kernel
    obtain ⟨h1, h2, h3⟩ := hany p hp'
    rw [State.writeState, if_neg (by simp [h1]), if_neg (by omega), if_neg (by omega), if_neg (by omega), if_neg (by omega),
      if_neg (by omega), if_neg (by simp [h2]), if_neg (by omega), if_neg (by omega), if_neg (by simp [h3])]
    rcases hdev with h | h | h <;> rw [h] <;> rfl

/-- A pad held at a port in use is refused where it would cut a group member off, and the port stays (R409, R476). -/
theorem State.padWrites_in_use (hon : s.on = true) (hp : p < s.portCount) (h : s.mayDo .panel (0x2620 + p) 6) (hst : s.portState p = 4)
    (hcut : s.groupReachable p = false) : (s.padWrites p 1).portState p = 4 ∧ (s.padWrites p 1).panel.portMsg = some (1, p) := by
  have hp' : p < 18 := lt_of_lt_of_le hp s.portCount_le
  obtain ⟨hl, hb⟩ := quiesce_at_once p hp'
  have hq : s.quiesceOk (0x2620 + p) 6 1 = false := (s.quiesceOk_port hp').1.trans (by simp [hst, hcut])
  let w := quiesceWrite .panel p 1
  let v := (s.refuseWrite w abState).2
  have hv : s.told v := s.log_told ..
  have hport : w.idx - 0x2620 = p := Nat.add_sub_cancel_left ..
  have hstore : s.storeWrite w quiesceSpec (1 : Nat) (1 : Nat) 0 = ({ abort := abState }, v.showInUse p) := by
    rw [State.storeWrite, if_neg (by simp [w, quiesceWrite, hl]), if_neg (by simp [w, quiesceWrite, hb]),
      if_pos (by simpa [w, quiesceWrite] using hq), hport]
    rfl
  have hx : exec (.quiesce .panel p 1) s = _ := exec_quiesce hp le_rfl h
  rw [hstore, State.answerWrite_panel _ rfl, exec_quiesce_pad hon hp] at hx
  rw [Host.Outcome.next.inj hx]
  exact ⟨(hv.portState p).trans hst, (v.showInUse_shows p).2.2.1⟩

end

/-! ### What the panel does -/

section
variable {s : State} (hon : s.on = true)
include hon

/-- Before the end of step 3 a press held 3 s is latched, and every other touch is kept (R473, R477). -/
theorem exec_releasePress_early {ms : Nat} (hstep : s.start.step3done ≠ true) :
    (3000 ≤ ms → ∃ t, exec (.releasePress ms) s = .next t ∧ t.fe.releaseLatched = true ∧ t.dev = s.dev) ∧
      (ms < 3000 → s.fe.early.length < 32 → ∃ t, exec (.releasePress ms) s = .next t ∧
        t.fe.early = s.fe.early ++ [(s.sinceOn, 0x2201, 1)] ∧ t.dev = s.dev ∧ t.obj = s.obj) := by
  refine ⟨fun hms => ⟨_, (exec_releasePress hon).trans (congrArg _ (if_pos ⟨hms, by simp [hstep]⟩)), rfl, rfl⟩, fun hms hroom => ?_⟩
  exact ⟨_, exec_releasePress_touch hon (.inl hms), State.touch_early (s := s.pressed) hstep hroom⟩

/-- The button of a serving panel (R435, R477). -/
theorem exec_releasePress_served {ms : Nat} (hstep : s.start.step3done = true) (hkey : bit (s.nat 0x2A00 1) 1 = true)
    (hans : s.answersAt .panel 0x2201 1 = true) (hlog : s.flash.log.buffered < 3840) (hrec : s.start.recovery = false) :
    (3000 ≤ ms → s.dev = .ready ∨ s.dev = .running ∨ s.dev = .hold → ∃ t, exec (.releasePress ms) s = .next t ∧ t.dev = .bindOff ∧
      t.nat 0x2200 2 = (if s.grouped then 3 else 2) ∧ t.panel.held = true ∧ s.sameRun t) ∧
    (3000 ≤ ms → s.commandOk 4 = false → ∃ t, exec (.releasePress ms) s = .next t ∧ t.dev = s.dev ∧ t.panel.keyMsg = 1 ∧
      t.obj = s.obj) ∧
    (ms < 3000 → ∃ t, exec (.releasePress ms) s = .next t ∧ t.dev = s.dev ∧ t.obj = s.obj ∧ t.panel.held = true) := by
  have htry : s.pressed.mayTry .panel 0x2201 1 := State.mayTry_panel (s := s.pressed) hans hlog hrec rfl hkey
  have hx := (exec_releasePress_touch (ms := ms) hon (.inr hstep)).trans
    (congrArg _ (State.touch_served (s := s.pressed) hstep hkey))
  refine ⟨fun hms hdev => ?_, fun hms hok => ?_, fun hms => ?_⟩
  · rw [if_pos hms] at hx
    obtain ⟨hbound, hsub, hpanel, hrun⟩ := State.removeByPress_taken htry hdev
    exact ⟨_, hx, hbound, hsub, congrArg Panel.held hpanel, hrun⟩
  · rw [if_pos hms] at hx
    exact ⟨_, hx, State.removeByPress_refused htry hok⟩
  · rw [if_neg (by omega)] at hx
    have htold : s.pressed.told (s.pressed.touchEvent 0x2201 1 0) := State.log_told ..
    exact ⟨_, hx, htold.dev, htold.obj, congrArg Panel.held htold.panel⟩

/-- The pad of a port that is in use or drains (R409, R476). -/
theorem exec_cagePadTouch_served {p ms : Nat} (hstep : s.start.step3done = true) (hp : p < s.portCount)
    (hkey : bit (s.nat 0x2A00 1) 2 = true) (h : s.mayDo .panel (0x2620 + p) 6) (hdev : s.dev ≠ .bindOff) :
    (1000 ≤ ms → s.portState p = 4 → s.groupReachable p = true →
      ∃ t, exec (.cagePadTouch p ms) s = .next t ∧ t.portState p = 5 ∧ s.sameRun t) ∧
    (1000 ≤ ms → s.portState p = 4 → s.groupReachable p = false →
      ∃ t, exec (.cagePadTouch p ms) s = .next t ∧ t.portState p = 4 ∧ t.panel.portMsg = some (1, p)) ∧
    (ms < 1000 → s.portState p = 4 → ∃ t, exec (.cagePadTouch p ms) s = .next t ∧ t.obj = s.obj ∧ t.panel = s.panel) ∧
    (s.portState p = 5 → ∃ t, exec (.cagePadTouch p ms) s = .next t ∧ t.portState p = 4 ∧ s.sameRun t) := by
  have hx : exec (.cagePadTouch p ms) s = .next (s.padTouched p ms) :=
    (exec_cagePadTouch hon hp).trans (congrArg _ (State.touch_served hstep hkey))
  have hlong (hms : 1000 ≤ ms) (hst : s.portState p = 4) : s.padTouched p ms = s.padWrites p 1 := by
    rw [State.padTouched, if_neg (by omega), if_pos ⟨hms, by omega⟩]
  have hpad (v : Nat) := exec_quiesce_pad (v := v) hon hp
  refine ⟨fun hms hst hreach => ?_, fun hms hst hcut => ?_, fun hms hst => ?_, fun hst => ?_⟩
  · obtain ⟨t, ht, hrun, hstate, -⟩ := exec_quiesce_drains hp h hst hreach
    exact ⟨t, hx.trans ((congrArg _ (hlong hms hst)).trans ((hpad 1).symm.trans ht)), hstate, hrun⟩
  · exact ⟨_, hx.trans (congrArg _ (hlong hms hst)), State.padWrites_in_use hon hp h hst hcut⟩
  · have hshort : s.padTouched p ms = s.touchEvent (0x2620 + p) 6 (s.nat (0x2620 + p) 6) := by
      rw [State.padTouched, if_neg (by omega), if_neg (by omega)]
    have htold : s.told (s.touchEvent (0x2620 + p) 6 (s.nat (0x2620 + p) 6)) := State.log_told ..
    exact ⟨_, hx.trans (congrArg _ hshort), htold.obj, htold.panel⟩
  · obtain ⟨t, ht, hrun, hstate, -⟩ := exec_quiesce_cancels hp h hst hdev
    have hends : s.padTouched p ms = s.padWrites p 0 := if_pos (.inl hst)
    exact ⟨t, hx.trans ((congrArg _ hends).trans ((hpad 0).symm.trans ht)), hstate, hrun⟩

/-- The attention key turns the page and clears what waits for it (R478). -/
theorem exec_attentionTouch_served (hstep : s.start.step3done = true) (hkey : bit (s.nat 0x2A00 1) 0 = true) :
    ∃ t, exec .attentionTouch s = .next t ∧ t.panel.page = (s.panel.page + 1) % 6 ∧ t.obj = s.obj ∧
      ∀ m, s.panel.portMsg = some m → t.panel.portMsg = if m.1 = 3 then none else some m := by
  have hx : exec .attentionTouch s = .next s.nextPage :=
    (State.whenOn_on hon (fun s => s.touch 0 0x2A00 4 s.panel.page State.nextPage)).trans
      (congrArg _ (State.touch_served hstep hkey))
  let waits := match s.panel.portMsg with
    | some m => m.1 == 3
    | none => false
  let u : State := { s with panel := { s.panel with
    page := (s.panel.page + 1) % 6, portMsg := if waits then none else s.panel.portMsg, pulled := none } }
  have htold : u.told s.nextPage := State.log_told ..
  refine ⟨_, hx, congrArg Panel.page htold.panel, htold.obj, fun m hm => ?_⟩
  rw [htold.panel]
  simp [u, waits, hm]

theorem exec_displayPageTimeout : exec .displayPageTimeout s = .next { s with panel := { s.panel with page := 0 } } := by
  show execDisplayPageTimeout s = _
  rw [execDisplayPageTimeout, State.whenOn_on hon]

/-- A timed message of a port goes with its blinking, any other message is left and the key's one goes (R476 to R479). -/
theorem exec_displayMessageTimeout {k p : Nat} (hm : s.panel.portMsg = some (k, p)) :
    (k ≠ 3 → k = 1 ∨ k = 2 →
      exec .displayMessageTimeout s = .next { s with panel := { s.panel with portMsg := none, blink := none } }) ∧
    (k = 3 → exec .displayMessageTimeout s = .next { s with panel := { s.panel with keyMsg := 0 } }) := by
  have hx : exec .displayMessageTimeout s = .next (if k == 1 || k == 2 then
      { s with panel := { s.panel with portMsg := none, blink := none } } else s.keyMessage 0) := by
    refine (State.whenOn_on hon State.expireMessage).trans ?_
    rw [State.expireMessage, hm]
  exact ⟨fun _ hk => hx.trans (congrArg _ (if_pos (by simpa using hk))), fun hk => hx.trans (congrArg _ (if_neg (by simp [hk])))⟩

end

/-! ### The console (R419, R480) -/

section
variable {s : State}

/-- A console that does not answer does nothing. -/
theorem State.console_silent (h : s.answers .usb = false) (f : State → State) : s.console f = .next s := by
  simp [State.console, State.whenOn, h]

/-- No line is answered by a console that does not answer. -/
theorem exec_console_silent (h : s.answers .usb = false) (idx sub off len v : Nat) (data : Bytes) :
    exec (.consoleRead idx sub) s = .next s ∧ exec (.consoleReadDomain idx sub off len) s = .next s ∧
      exec (.consoleWrite idx sub v) s = .next s ∧ exec (.consoleWriteDomain idx sub off data) s = .next s ∧
      exec .consoleLog s = .next s ∧ exec .consoleHelp s = .next s := by
  have hsilent : execConsoleRead idx sub s = .next s ∧ execConsoleReadDomain idx sub off len s = .next s ∧
      execConsoleWrite idx sub v s = .next s ∧ execConsoleWriteDomain idx sub off data s = .next s ∧
      execConsoleLog s = .next s ∧ execConsoleHelp s = .next s := by
    simp only [execConsoleRead, execConsoleReadDomain, execConsoleWrite, execConsoleWriteDomain, execConsoleLog, execConsoleHelp,
      State.console_silent h, and_self]
  exact hsilent

theorem State.console_answers (hon : s.on = true) (h : s.answers .usb = true) (f : State → State) : s.console f = .next (f s) := by
  rw [State.console, State.whenOn_on hon]
  exact congrArg _ (if_pos h)

/-- `remove` is BIND_REMOVE of the console, which no one hears while the console does not answer. -/
theorem exec_consoleRemove : exec .consoleRemove s = exec (.bindRemove .usb) s := by
  show s.whenOn (fun s => if s.answers .usb then s.writeFrom (commandWrite .usb cmdBindRemove) else s) =
    s.whenOn (fun s => s.writeFrom (commandWrite .usb cmdBindRemove))
  cases hans : s.answers .usb with
  | true => simp [State.whenOn, hans]
  | false =>
    have hsilent : s.writeFrom (commandWrite .usb cmdBindRemove) = s :=
      State.writeFrom_unheard (by simp [State.answersAt, commandWrite, hans])
    simp [State.whenOn, hans, hsilent]

variable (hon : s.on = true) (hans : s.answers .usb = true)
include hon hans

variable {idx sub : Nat} {e : ObjSpec}

/-- `r` of a number or a string answers its value, and of a DOMAIN the code of a wrong length. -/
theorem exec_consoleRead (hall : s.answersAt .usb idx sub = true) (hfind : Objects.find idx sub = some e) (hacc : e.acc ≠ .wo)
    (hstatus : (idx, sub) ≠ (0x2100, 3)) :
    (∀ n, e.typ.size = some n → exec (.consoleRead idx sub) s = .next (s.emit (.usb (ascii "OK " ++
      consoleValue e.typ ((s.entryBytes .usb e idx sub).take maxTransfer))))) ∧
    (e.typ = .domain → exec (.consoleRead idx sub) s = .next (s.emit (.usb (ascii "ERR 0x0607_0010")))) := by
  have hx : exec (.consoleRead idx sub) s = .next (if (Objects.find idx sub).any (fun e => e.typ == .domain)
      then s.say (consoleErr abLength) else s.readFrom .usb idx sub 0 maxTransfer) := by
    show execConsoleRead idx sub s = _
    rw [execConsoleRead, State.console_answers hon hans]
  rw [hfind] at hx
  refine ⟨fun n hn => hx.trans (congrArg _ ?_), fun htyp => hx.trans (congrArg _ ?_)⟩
  · have htyp : e.typ ≠ .domain := fun htyp => by rw [htyp] at hn; exact nomatch hn
    rw [if_neg (by simp [htyp]), State.readFrom, State.read_number hall hfind hacc htyp hstatus]
    simp [State.answerRead, consoleRead1, typeAt, hfind]
  · have hline : consoleErr abLength = ascii "ERR 0x0607_0010" := by decide +kernel
    rw [if_pos (by simp [htyp]), hline, State.say]

/-- `rd` answers the bytes of a DOMAIN, and MORE where it has more. -/
theorem exec_consoleReadDomain (hall : s.answersAt .usb idx sub = true) (hfind : Objects.find idx sub = some e) (hacc : e.acc ≠ .wo)
    (hstatus : (idx, sub) ≠ (0x2100, 3)) (off len : Nat) (htyp : e.typ = .domain) (hlog : (idx, sub) ≠ (0x2900, 1))
    (hsigs : (idx, sub) ≠ (0x2404, 1)) :
    let b := (s.entryBytes .usb e idx sub).drop off
    exec (.consoleReadDomain idx sub off len) s = .next (s.emit (.usb (ascii "OK " ++ hexBytes (b.take (min len 2048)) ++
      if min len 2048 < b.length then ascii " MORE" else []))) := by
  intro b
  have hx : exec (.consoleReadDomain idx sub off len) s = .next (if (Objects.find idx sub).any (fun e => e.typ != .domain)
      then s.say (consoleErr abLength) else s.readFrom .usb idx sub off (min len 2048)) := by
    show execConsoleReadDomain idx sub off len s = _
    rw [execConsoleReadDomain, State.console_answers hon hans]
  have hmin : min (min len 2048) maxTransfer = min len 2048 := Nat.min_eq_left (by simp [maxTransfer])
  have hafter : s.afterRead idx sub = s := if_neg (by simpa using hstatus)
  rw [hfind, if_neg (by simp [htyp]), State.readFrom, State.read_found off _ hall hfind hacc, if_neg (by simpa using hlog),
    if_neg (by simpa using hsigs), if_neg (by simp [htyp]), hmin, hafter] at hx
  rw [hx]
  simp [State.answerRead, consoleRead1, typeAt, hfind, htyp, consoleValue, b]

/-- `w` writes the value's bytes, as many as the entry holds. -/
theorem exec_consoleWrite {v n : Nat} (hfind : Objects.find idx sub = some e) (hsize : e.typ.size = some n) (hv : v < 2 ^ (8 * n)) :
    exec (.consoleWrite idx sub v) s = exec (.objectWrite .usb idx sub (le n v)) s := by
  have hbytes : consoleBytes idx sub v = le n v := by simp [consoleBytes, hfind, hsize, hv]
  have htyp : e.typ ≠ .domain := fun htyp => by rw [htyp] at hsize; exact nomatch hsize
  have hw : exec (.objectWrite .usb idx sub (le n v)) s = .next (s.writeFrom (objWrite .usb idx sub (le n v))) :=
    State.whenOn_on hon (fun s => s.writeFrom (objWrite .usb idx sub (le n v)))
  show execConsoleWrite idx sub v s = _
  rw [hw, execConsoleWrite, State.console_answers hon hans, hbytes]
  exact congrArg _ (if_neg (by simp [typeAt, hfind, htyp]))

theorem exec_consoleWriteDomain_syntax {off : Nat} {data : Bytes} (hlen : 4096 < data.length) :
    exec (.consoleWriteDomain idx sub off data) s = .next (s.emit (.usb (ascii "ERR SYNTAX"))) := by
  show execConsoleWriteDomain idx sub off data s = _
  rw [execConsoleWriteDomain, State.console_answers hon hans]
  exact congrArg _ (if_pos hlen)

/-- `wd` writes the bytes of a DOMAIN. -/
theorem exec_consoleWriteDomain {data : Bytes} (hfind : Objects.find idx sub = some e) (htyp : e.typ = .domain)
    (hlen : data.length ≤ 4096) : exec (.consoleWriteDomain idx sub 0 data) s = exec (.objectWrite .usb idx sub data) s := by
  have hw : exec (.objectWrite .usb idx sub data) s = .next (s.writeFrom (objWrite .usb idx sub data)) :=
    State.whenOn_on hon (fun s => s.writeFrom (objWrite .usb idx sub data))
  show execConsoleWriteDomain idx sub 0 data s = _
  rw [hw, execConsoleWriteDomain, State.console_answers hon hans]
  refine congrArg _ ((if_neg (by omega)).trans (if_neg ?_))
  simp [hfind, htyp]

/-- `log` reads the records from the console's CURSOR, 32 at most, and CURSOR advances past them. -/
theorem exec_consoleLog (hall : s.answersAt .usb 0x2900 1 = true) : ∃ t, exec .consoleLog s = .next t ∧
    ∃ n ≤ 32, n ≤ s.flash.log.recs.length ∧
      t.flash.log = { s.flash.log with cursorUsb := (s.flash.log.cursor .usb + n) % 2 ^ 32 } ∧ t.obj = s.obj := by
  have hx : exec .consoleLog s = .next (s.readFrom .usb 0x2900 1 0 2048) :=
    State.console_answers hon hans (fun s => s.readFrom .usb 0x2900 1 0 2048)
  have hmin : min 2048 maxTransfer = 2048 := by decide
  rw [State.readFrom, State.read_found 0 2048 hall find_log (by decide), if_pos ⟨rfl, rfl⟩, hmin] at hx
  let a := s.readLog .usb 2048
  obtain ⟨out, b, hsent⟩ := State.answerRead_sends a.1 a.2 .usb 0x2900 1 0 2048
  have ht : a.2 = { s with flash := { s.flash with log := { s.flash.log with
    cursorUsb := (s.flash.log.cursor .usb + (s.flash.log.from_ (s.flash.log.cursor .usb) 2048).length) % 2 ^ 32 } } } := rfl
  have hlen : (s.flash.log.from_ (s.flash.log.cursor .usb) 2048).length ≤ 32 ∧
      (s.flash.log.from_ (s.flash.log.cursor .usb) 2048).length ≤ s.flash.log.recs.length := by
    rw [ChangeLog.from_, List.length_take, List.length_drop]
    omega
  refine ⟨_, hx.trans (congrArg _ hsent), _, hlen.1, hlen.2, ?_⟩
  rw [ht]
  exact ⟨rfl, rfl⟩

omit hon hans in
/-- Lines that are said go out one after another. -/
theorem State.foldl_say (lines : List String) (s : State) : lines.foldl (fun s t => s.say (ascii t)) s =
    { s with out := (lines.map (fun l => Output.usb (ascii l))).reverse ++ s.out } := by
  induction lines generalizing s with
  | nil => rfl
  | cons l lines ih =>
    rw [List.foldl_cons, ih, List.map_cons, List.reverse_cons, List.append_assoc]
    rfl

/-- `help` answers the commands, then OK. -/
theorem exec_consoleHelp : ∃ t ls, exec .consoleHelp s = .next t ∧ t = { s with out := ls ++ s.out } ∧ ls.length = 8 ∧
    ls.head? = some (.usb (ascii "OK")) := by
  let lines := ["r IDX:SUB", "rd IDX:SUB OFF LEN", "w IDX:SUB VALUE", "wd IDX:SUB OFF HEX", "remove", "log", "help", "OK"]
  have hx : exec .consoleHelp s = .next (lines.foldl (fun s t => s.say (ascii t)) s) := by
    show execConsoleHelp s = _
    rw [execConsoleHelp, State.console_answers hon hans]
  rw [State.foldl_say] at hx
  exact ⟨_, _, hx, rfl, by simp [lines], by simp [lines]⟩

end

/-- Settles O58: the panel's controls go through `touch`, and what they write and the console's lines go the way of the dictionary. -/
theorem panelAndConsole : Obligations.PanelAndConsole := by
  intro s hfe keys done open_ kept ignored
  have hon : s.on = true := by simp [State.on, hfe]
  have hrelease {ms : Nat} : ¬done → _ := exec_releasePress_early (ms := ms) hon
  refine ⟨fun ms hstep => ⟨(hrelease hstep).1, (hrelease hstep).2, fun p hp hroom => ?padEarly⟩, fun hstep hroom => ?keyEarly,
    fun ms hstep hkey => ?releaseOff, fun p ms hstep hp hkey => ?padOff, fun hstep hkey => ?keyOff,
    fun ms hstep hkey ⟨hans, hlog, hrec⟩ => exec_releasePress_served hon hstep hkey hans hlog hrec,
    fun p ms hstep hp hkey ⟨hans, hlog, hrec⟩ hdev => ?pad, exec_attentionTouch_served hon, exec_displayPageTimeout hon,
    fun k p => exec_displayMessageTimeout hon, fun hsilent idx sub off len v data => ?silent, exec_consoleRemove,
    fun hans hrec => ?console⟩
  case padEarly => exact ⟨_, exec_cagePadTouch hon hp, State.touch_early hstep hroom⟩
  case keyEarly =>
    exact ⟨_, State.whenOn_on hon (fun s => s.touch 0 0x2A00 4 s.panel.page State.nextPage), State.touch_early hstep hroom⟩
  case releaseOff => exact ⟨_, exec_releasePress_touch hon (.inr hstep), State.touch_disabled (s := s.pressed) hstep hkey⟩
  case padOff => exact ⟨_, exec_cagePadTouch hon hp, State.touch_disabled hstep hkey⟩
  case keyOff =>
    exact ⟨_, State.whenOn_on hon (fun s => s.touch 0 0x2A00 4 s.panel.page State.nextPage), State.touch_disabled hstep hkey⟩
  case pad =>
    have hbound : s.dev ≠ .bindOff := by rcases hdev with h | h | h <;> simp [h]
    exact exec_cagePadTouch_served hon hstep hp hkey (State.mayDo_pad hp hans hlog hrec hkey hdev) hbound
  case silent => exact exec_console_silent hsilent idx sub off len v data
  case console =>
    have hall (idx sub : Nat) : s.answersAt .usb idx sub = true := by simp [State.answersAt, hans, hrec]
    refine ⟨fun idx sub e hfind hacc hstatus => ?read, fun idx sub v e n => exec_consoleWrite hon hans,
      fun idx sub off data => exec_consoleWriteDomain_syntax hon hans, fun idx sub data e => exec_consoleWriteDomain hon hans,
      exec_consoleLog hon hans (hall ..), exec_consoleHelp hon hans⟩
    obtain ⟨hnumber, hdomain⟩ := exec_consoleRead hon hans (hall idx sub) hfind hacc hstatus
    exact ⟨hnumber, hdomain, exec_consoleReadDomain hon hans (hall idx sub) hfind hacc hstatus⟩

end Sys2Proof.Machine

/-!
PROOFS. The host's queues (R370 to R376, R389): BAR0 is there while the dictionary is served; what a disable takes from a queue; bytes
that the module writes at an address field and reads back; a held completion that leaves.
-/
namespace Sys2Proof.Machine

/-! ### What a queue's command leaves alone -/

/-- Both memories, the row, the cells and the device state are as before. -/
def State.staysPut (s t : State) : Prop :=
  t.mem = s.mem ∧ t.hostMem = s.hostMem ∧ t.row = s.row ∧ t.cells = s.cells ∧ t.dev = s.dev

section
variable {s t u : State}

theorem State.staysPut.trans (h : s.staysPut t) (h' : t.staysPut u) : s.staysPut u := by
  obtain ⟨hmem, hhost, hrow, hcells, hdev⟩ := h
  obtain ⟨hmem', hhost', hrow', hcells', hdev'⟩ := h'
  exact ⟨hmem'.trans hmem, hhost'.trans hhost, hrow'.trans hrow, hcells'.trans hcells, hdev'.trans hdev⟩

theorem State.staysPut.of_told (h : s.told t) : s.staysPut t := by
  obtain ⟨_, _, _, _, _, _, rfl⟩ := h
  exact ⟨rfl, rfl, rfl, rfl, rfl⟩

theorem State.staysPut.of_stopWork (h : s.stopWork t) : s.staysPut t := by
  obtain ⟨_, _, _, _, _, _, _, rfl, -⟩ := h
  exact ⟨rfl, rfl, rfl, rfl, rfl⟩

theorem State.staysPut.setQueue (s : State) (q : Nat) (v : QueuePair) : s.staysPut (s.setQueue q v) := ⟨rfl, rfl, rfl, rfl, rfl⟩

theorem State.told.queues (h : s.told t) : t.queues = s.queues := by obtain ⟨_, _, _, _, _, _, rfl⟩ := h; rfl

theorem State.told.queue (h : s.told t) (q : Nat) : t.queue q = s.queue q := by rw [State.queue, State.queue, h.queues]

/-- A BAR0 write that is ignored or clamped leaves a record. -/
theorem State.logBar0_told (s : State) (result off req app : Nat) : s.told (s.logBar0 result off req app) := State.log_told ..

/-- A command over the CXL link to a queue that there is, in a module that serves the dictionary. -/
theorem State.onQueue_serves {q : Nat} (hserves : s.serves = true) (hq : q < 64) (f : State → State) : s.onQueue q f = .next (f s) := by
  have hunit : s.onQueue q f = s.whenOn (fun s => if s.serves then f s else s) := if_pos (decide_eq_true hq)
  rw [hunit, State.whenOn_on (State.on_of_serves hserves), if_pos hserves]

end

/-! ### A queue that stops (R374) -/

/-- Queue `q` is enabled as before, and nothing has been fetched. -/
def State.fetchesNothing (q : Nat) (s t : State) : Prop := (t.queue q).en = (s.queue q).en ∧ t.host.fetched ⊆ s.host.fetched

namespace State.fetchesNothing

variable {q : Nat} {s t u : State}

theorem refl (s : State) : fetchesNothing q s s := ⟨rfl, fun _ h => h⟩

theorem trans (h : fetchesNothing q s t) (h' : fetchesNothing q t u) : fetchesNothing q s u :=
  ⟨h'.1.trans h.1, fun _ hf => h.2 (h'.2 hf)⟩

theorem of_queues (hq : t.queues = s.queues) (hf : t.host.fetched ⊆ s.host.fetched) : fetchesNothing q s t :=
  ⟨by rw [State.queue, State.queue, hq], hf⟩

theorem endCommand (s : State) (f : Fetched) (c : Completion) (writes : List (Nat × Bytes)) (digests : List Bytes) (digAddr : Nat)
    (needDigest : Bool) : fetchesNothing q s (s.endCommand f c writes digests digAddr needDigest) :=
  of_queues rfl (List.filter_subset_self _)

theorem settleFences (s : State) : fetchesNothing q s s.settleFences :=
  foldl_rel refl trans (fun u _ => iteInduction (fun _ => endCommand u ..) (fun _ => refl u)) _ s

theorem settleQueue (s : State) (r : Nat) : fetchesNothing q s (s.settleQueue r) := by
  unfold State.settleQueue
  refine iteInduction (fun _ => ⟨?_, fun _ h => h⟩) (fun _ => refl s)
  by_cases hr : q = r
  · rw [hr, State.queue_setQueue_same]
  · rw [State.queue_setQueue_ne _ _ hr]

theorem endRun (s : State) (status detail : Nat) (digests : List Bytes) (needDigest : Bool) :
    fetchesNothing q s (s.endRun status detail digests needDigest) := by
  unfold State.endRun
  cases s.run with
  | none => exact refl s
  | some r =>
    have hfree : fetchesNothing q s ({ s with run := none } : State).freeSessions := of_queues rfl (fun _ h => h)
    exact iteInduction (fun _ => hfree.trans (endCommand ..)) (fun _ => hfree.trans (endCommand ..))

theorem of_told (h : s.told t) : fetchesNothing q s t := by
  obtain ⟨_, _, _, _, _, _, rfl⟩ := h
  exact of_queues rfl (fun _ h => h)

theorem endAborted (s : State) (r : RunSt) : fetchesNothing q s (s.endAborted r) := by
  let t := s.endRun stAborted 0
  let u : State :=
    { t with host := { t.host with ending := t.host.ending.map (fun e => if e.no = r.no then { e with silent := true } else e) } }
  have hend : fetchesNothing q s t := endRun ..
  have hsilent : fetchesNothing q t u := of_queues rfl (fun _ h => h)
  have hlog : fetchesNothing q u (u.logAbort r.fetched) := of_told (u.log_told ..)
  exact iteInduction (fun _ => (hend.trans hsilent).trans hlog) (fun _ => hend)

theorem stopRun (s : State) (sel : RunSt → Bool) (silent : Bool) : fetchesNothing q s (s.stopRun sel silent) := by
  unfold State.stopRun
  cases s.run with
  | none => exact refl s
  | some r =>
    dsimp only
    split
    · exact refl s
    split
    · exact of_queues rfl (fun _ h => h)
    · exact endAborted ..

end State.fetchesNothing

/-- A command that is aborted is fetched no more. -/
theorem State.abortFetched_leaves (s : State) (sel : Fetched → Bool) {g : Fetched} (hg : g ∈ (s.abortFetched sel).host.fetched) :
    g ∈ s.host.fetched ∧ sel g = false := by
  rw [State.abortFetched, State.foldl_endCommand_fetched] at hg
  obtain ⟨hs, hno⟩ := List.mem_filter.mp hg
  refine ⟨hs, ?_⟩
  by_contra hsel
  have hself := List.all_eq_true.mp hno g (List.mem_filter.mpr ⟨hs, by simpa using hsel⟩)
  simp at hself

/-- A disabled queue has no unstarted command left. -/
theorem State.disableQueue_stops (s : State) (q : Nat) : s.staysPut (s.disableQueue q) ∧ ((s.disableQueue q).queue q).en = false ∧
    ∀ f ∈ (s.disableQueue q).host.fetched, f ∈ s.host.fetched ∧ ¬(f.queue = q ∧ f.unstarted = true) := by
  let a := s.setQueue q { s.queue q with en := false }
  let sel : Fetched → Bool := fun f => f.queue == q && f.unstarted
  let b := a.abortFetched sel
  let c := b.stopRun (fun r => r.queue == q) false
  have hab : a.stopWork (s.disableQueue q) :=
    ((((State.abortFetched_stopWork a sel).trans (State.stopRun_stopWork ..)).trans (State.settleFences_stopWork _)).trans
      (State.settleQueue_stopWork _ q))
  have hab' : State.fetchesNothing q a b :=
    foldl_rel State.fetchesNothing.refl State.fetchesNothing.trans (fun u f => .endCommand u ..) _ a
  have hrest : State.fetchesNothing q b (s.disableQueue q) :=
    ((State.fetchesNothing.stopRun ..).trans (.settleFences c)).trans (.settleQueue _ q)
  refine ⟨(State.staysPut.setQueue s q _).trans (.of_stopWork hab), ?_, fun f hf => ?_⟩
  · rw [hrest.1, hab'.1, State.queue_setQueue_same]
  · obtain ⟨hin, hsel⟩ := a.abortFetched_leaves sel (hrest.2 hf)
    exact ⟨hin, by simpa [sel] using hsel⟩

/-! ### Bytes written at an address field and read back (R370) -/

/-- With no versioned line in its ALT copy and no undo record, the committed bytes are those of memory. -/
def State.plainHbm (s : State) : Prop := s.hbm.inAlt = [] ∧ s.hbm.log = []

section
variable {s : State}

theorem State.plainHbm.committedAt (h : s.plainHbm) (a : Nat) : s.committedAt a = a := by
  rw [State.committedAt, h.1]
  rfl

theorem State.plainHbm.committedRead (h : s.plainHbm) (a n : Nat) : s.committedRead a n = s.mem.readBytes a n := by
  simp only [State.committedRead, h.committedAt, h.2, List.find?_nil, Mem.readBytes]

theorem State.plainHbm.writeCommitted (h : s.plainHbm) (a : Nat) (d : Bytes) :
    (s.writeCommitted a d).mem = s.mem.writeBytes a d ∧ (s.writeCommitted a d).plainHbm := by
  simp only [State.writeCommitted, h.committedAt, State.plainHbm, HbmSt.cleared]
  refine ⟨trivial, ?_⟩
  split <;> simp [h.1, h.2]

/-- A byte after a write. -/
theorem Mem.read_writeBytes (m : Mem) (a k : Nat) (bs : Bytes) :
    (m.writeBytes a bs).read k = if a ≤ k ∧ k < a + bs.length then bs.getD (k - a) 0 else m.read k := by
  split
  · next h =>
    obtain ⟨i, rfl⟩ := Nat.exists_eq_add_of_le h.1
    rw [Nat.add_sub_cancel_left, Mem.read_writeBytes_inside m a i bs (by omega)]
  · next h => exact Mem.read_writeBytes_outside m a k bs (by omega)

/-- A write in two parts. -/
theorem Mem.read_writeBytes_split (m : Mem) (a n k : Nat) (d : Bytes) :
    ((m.writeBytes a (d.take n)).writeBytes (a + n) (d.drop n)).read k = (m.writeBytes a d).read k := by
  simp only [Mem.read_writeBytes, List.length_take, List.length_drop, List.getD_eq_getElem?_getD, List.getElem?_drop,
    List.getElem?_take]
  by_cases hin : a ≤ k ∧ k < a + d.length
  · rw [if_pos hin]
    by_cases hn : k < a + n
    · rw [if_neg (by omega), if_pos (by omega), if_pos (by omega)]
    · rw [if_pos (by omega)]
      congr 2
      omega
  · rw [if_neg (by omega), if_neg (by omega), if_neg hin]

/-- Bytes written piece by piece stand where they were written, and no other byte changes. -/
theorem State.plainHbm.foldl_pieces (h : s.plainHbm) {fuel a : Nat} {d : Bytes} (hfuel : a % 64 + d.length ≤ 64 * fuel) :
    let t := (pieces fuel a d).foldl (fun s p => s.writeCommitted p.1 p.2) s
    t.plainHbm ∧ ∀ k, t.mem.read k = (s.mem.writeBytes a d).read k := by
  have hnil (m : Mem) (a k : Nat) : (m.writeBytes a []).read k = m.read k :=
    Mem.read_writeBytes_outside m a k [] (by simp; omega)
  induction fuel generalizing s a d with
  | zero =>
    have hd : d = [] := List.length_eq_zero_iff.mp (by omega)
    subst hd
    exact ⟨h, fun k => (hnil ..).symm⟩
  | succ fuel ih =>
    rw [pieces]
    cases hd : d.isEmpty with
    | true =>
      rw [List.isEmpty_iff.mp hd]
      exact ⟨h, fun k => (hnil ..).symm⟩
    | false =>
      let n := 64 - a % 64
      obtain ⟨hmem, hplain⟩ := h.writeCommitted a (d.take n)
      obtain ⟨hplain', hread⟩ := ih (s := s.writeCommitted a (d.take n)) hplain (a := a + n) (d := d.drop n)
        (by rw [List.length_drop]; omega)
      refine ⟨hplain', fun k => (hread k).trans ?_⟩
      rw [hmem]
      exact Mem.read_writeBytes_split ..

/-- What is written at an address field is read back there. -/
theorem State.readField_writeField (s : State) (a : Nat) (bs : Bytes) (h : isHost a = true ∨ s.plainHbm) :
    (s.writeField a bs).readField a bs.length = bs := by
  rw [State.writeField, State.readField]
  by_cases hhost : isHost a = true
  · rw [if_pos hhost, if_pos hhost]
    exact Mem.readBytes_writeBytes_same ..
  · rw [if_neg hhost, if_neg hhost]
    obtain ⟨hplain, hread⟩ := (h.resolve_left hhost).foldl_pieces (fuel := bs.length / 64 + 2) (a := addrOf a) (d := bs)
      (by omega)
    have hmem : (((pieces (bs.length / 64 + 2) (addrOf a) bs).foldl (fun s p => s.writeCommitted p.1 p.2) s).mem).readBytes
        (addrOf a) bs.length = (s.mem.writeBytes (addrOf a) bs).readBytes (addrOf a) bs.length :=
      List.map_congr_left fun i _ => hread (addrOf a + i)
    rw [hplain.committedRead, hmem, Mem.readBytes_writeBytes_same]

end

/-! ### A held completion leaves (R369, R373, R376) -/

/-- A completion with SQHEAD and the phase of its queue's pass (R373). -/
def Ended.record (e : Ended) (qp : QueuePair) : Bytes :=
  patch (patch e.bytes 2 (le 2 e.sqhead)) 5 (le 1 (if qp.phase then 1 else 0))

theorem length_patch {bs v : Bytes} {off : Nat} (h : off + v.length ≤ bs.length) : (patch bs off v).length = bs.length := by
  simp only [patch, List.length_append, List.length_take, List.length_drop]
  omega

theorem Ended.length_record {e : Ended} (qp : QueuePair) (h : e.bytes.length = 64) : (e.record qp).length = 64 := by
  have hinner : (patch e.bytes 2 (le 2 e.sqhead)).length = 64 := (length_patch (by simp [h])).trans h
  exact (length_patch (by simp [hinner])).trans hinner

/-- The queue behind a completion that has been written. -/
def QueuePair.next (qp : QueuePair) : QueuePair :=
  { qp with
    cqtail := (qp.cqtail + 1) % (qp.cqent + 1)
    phase := if (qp.cqtail + 1) % (qp.cqent + 1) = 0 then !qp.phase else qp.phase }

section
variable {s : State} {e : Ended}

/-- A completion without results, digests and interrupt writes its record alone. -/
theorem State.writeCompletion_plain (hw : e.writes = []) (hd : e.digAddr = 0) (hirq : e.irq = false) :
    let qp := s.queue e.queue
    s.writeCompletion e = (s.writeField (qp.cqAddr qp.cqtail) (e.record qp)).setQueue e.queue qp.next := by
  simp only [State.writeCompletion, hw, hd, hirq, if_true, List.append_nil, List.filter_nil, List.any_nil, List.foldl_nil,
    Bool.false_eq_true, if_false]
  rfl

/-- A completion that nothing holds back is written. -/
theorem State.offer_written (hsilent : e.silent = false) (hheld : s.host.held = []) (hneed : e.needDigest = false)
    (hsnoop : s.hbm.waitSnoop = []) (hroom : (s.queue e.queue).room = true)
    (hok : s.fieldOk ((s.queue e.queue).cqAddr (s.queue e.queue).cqtail) 64 = true) (hst : uAt e.bytes 4 1 ≠ 1) :
    s.offer e = ((s.setFull e.queue false).writeCompletion e).settleQueue e.queue := by
  simp only [State.offer, hsilent, hheld, hneed, hsnoop, hroom, hok, hst, List.any_nil, Bool.or_self, Bool.false_eq_true, if_false,
    Bool.not_true]

/-- Settling a queue clears ACTIVE at most. -/
theorem State.settleQueue_keeps (s : State) (q a n : Nat) : ((s.settleQueue q).queue q).cqtail = (s.queue q).cqtail ∧
    (s.settleQueue q).host = s.host ∧ (s.settleQueue q).readField a n = s.readField a n := by
  unfold State.settleQueue
  refine iteInduction (motive := fun t : State => (t.queue q).cqtail = (s.queue q).cqtail ∧ t.host = s.host ∧
    t.readField a n = s.readField a n) (fun _ => ⟨?_, rfl, rfl⟩) (fun _ => ⟨rfl, rfl, rfl⟩)
  rw [State.queue_setQueue_same]

theorem State.writeField_host (s : State) (a : Nat) (bs : Bytes) : (s.writeField a bs).host = s.host := by
  unfold State.writeField
  split
  · rfl
  · generalize pieces (bs.length / 64 + 2) (addrOf a) bs = l
    induction l generalizing s with
    | nil => rfl
    | cons p l ih => exact ih _

/-- The one completion that is held leaves. -/
theorem State.deliver_one (hheld : s.host.held = [e]) (hf : s.host.fetched = []) (hsilent : e.silent = false)
    (hneed : e.needDigest = false) (hsnoop : s.hbm.waitSnoop = []) (hw : e.writes = []) (hd : e.digAddr = 0) (hirq : e.irq = false)
    (hlen : e.bytes.length = 64) (hst : uAt e.bytes 4 1 ≠ 1) (hroom : (s.queue e.queue).room = true)
    (hok : s.fieldOk ((s.queue e.queue).cqAddr (s.queue e.queue).cqtail) 64 = true)
    (hplain : isHost ((s.queue e.queue).cqAddr (s.queue e.queue).cqtail) = true ∨ s.plainHbm) :
    let qp := s.queue e.queue
    s.deliver.host.held = [] ∧ (s.deliver.queue e.queue).cqtail = (qp.cqtail + 1) % (qp.cqent + 1) ∧
      s.deliver.readField (qp.cqAddr qp.cqtail) 64 = e.record qp := by
  intro qp
  let u : State := { s with host := { s.host with held := [] } }
  let w := u.setFull e.queue false
  have hqw : w.queue e.queue = { qp with cqfull := false } := u.queue_setQueue_same ..
  let a := qp.cqAddr qp.cqtail
  let t := (w.writeField a (e.record qp)).setQueue e.queue ({ qp with cqfull := false } : QueuePair).next
  have hwritten : u.offer e = t.settleQueue e.queue := by
    rw [State.offer_written (s := u) hsilent rfl hneed hsnoop hroom hok hst, State.writeCompletion_plain hw hd hirq, hqw]
    rfl
  have hthost : t.host = u.host := w.writeField_host ..
  obtain ⟨htail, hhost, hread⟩ := t.settleQueue_keeps e.queue a 64
  have hdeliver : s.deliver = t.settleQueue e.queue := by
    have hfold : s.deliver = (u.offer e).settleFences := by rw [State.deliver, hheld]; rfl
    have hnone : (t.settleQueue e.queue).host.fetched = [] := by rw [hhost, hthost]; exact hf
    rw [hfold, hwritten, State.settleFences_idle hnone]
  rw [hdeliver]
  refine ⟨by rw [hhost, hthost], ?_, ?_⟩
  · rw [htail, State.queue_setQueue_same]
    rfl
  · rw [hread]
    have hback := w.readField_writeField a (e.record qp) hplain
    rwa [Ended.length_record qp hlen] at hback

end

/-! ### BAR0 (R371 to R373) -/

section
variable {s : State} {q : Nat} (hserves : s.serves = true) (hq : q < 64)
include hserves hq

theorem exec_sqtailDoorbell_taken {v : Nat} (hv : v ≤ (s.queue q).sqent) :
    exec (.sqtailDoorbell q v) s = .next (s.setQueue q { s.queue q with sqtail := v }) := by
  show execSqtailDoorbell q v s = _
  rw [execSqtailDoorbell, State.onQueue_serves hserves hq, State.doorbell, if_neg (by omega)]

theorem exec_sqtailDoorbell_beyond {v : Nat} (hv : (s.queue q).sqent < v) :
    ∃ t, exec (.sqtailDoorbell q v) s = .next t ∧ s.staysPut t ∧ t.queue q = { s.queue q with dberr := true } := by
  have hx : exec (.sqtailDoorbell q v) s =
      .next ((s.setQueue q { s.queue q with dberr := true }).logBar0 8 (0x1000 + 8 * q) v 0) := by
    show execSqtailDoorbell q v s = _
    rw [execSqtailDoorbell, State.onQueue_serves hserves hq, State.doorbell, if_pos hv]
  have htold := (s.setQueue q { s.queue q with dberr := true }).logBar0_told 8 (0x1000 + 8 * q) v 0
  exact ⟨_, hx, (State.staysPut.setQueue ..).trans (.of_told htold), (htold.queue q).trans (State.queue_setQueue_same ..)⟩

theorem exec_cqheadDoorbell {v : Nat} (hv : v ≤ (s.queue q).cqent) :
    exec (.cqheadDoorbell q v) s = .next (s.setQueue q { s.queue q with cqhead := v }).deliver := by
  show execCqheadDoorbell q v s = _
  rw [execCqheadDoorbell, State.onQueue_serves hserves hq, State.doorbell, if_neg (by omega)]

/-- Room in the completion queue lets the completion that is held out. -/
theorem exec_cqheadDoorbell_releases {v : Nat} {e : Ended} (hv : v ≤ (s.queue q).cqent) (hheld : s.host.held = [e])
    (hf : s.host.fetched = []) (heq : e.queue = q) (hsilent : e.silent = false) (hneed : e.needDigest = false)
    (hsnoop : s.hbm.waitSnoop = []) (hw : e.writes = []) (hd : e.digAddr = 0) (hirq : e.irq = false) (hlen : e.bytes.length = 64)
    (hst : uAt e.bytes 4 1 ≠ 1) (hroom : ({ s.queue q with cqhead := v } : QueuePair).room = true)
    (hok : s.fieldOk ((s.queue q).cqAddr (s.queue q).cqtail) 64 = true)
    (hplain : isHost ((s.queue q).cqAddr (s.queue q).cqtail) = true ∨ s.plainHbm) :
    ∃ t, exec (.cqheadDoorbell q v) s = .next t ∧ t.host.held = [] ∧
      (t.queue q).cqtail = ((s.queue q).cqtail + 1) % ((s.queue q).cqent + 1) ∧
      t.readField ((s.queue q).cqAddr (s.queue q).cqtail) 64 = e.record (s.queue q) := by
  subst heq
  let u := s.setQueue e.queue { s.queue e.queue with cqhead := v }
  have hqu : u.queue e.queue = { s.queue e.queue with cqhead := v } := s.queue_setQueue_same ..
  have hdel := State.deliver_one (s := u) hheld hf hsilent hneed hsnoop hw hd hirq hlen hst (by rw [hqu]; exact hroom)
    (by rw [hqu]; exact hok) (by rw [hqu]; exact hplain)
  rw [hqu] at hdel
  exact ⟨_, exec_cqheadDoorbell hserves hq hv, hdel⟩

/-! ### EN (R372, R374) -/

omit hserves hq in
/-- Bit 31 of a control word that sets or clears it. -/
theorem bit_31 (w : Nat) : bit (w % 2 ^ 31 + 2 ^ 31) 31 = true ∧ bit (w % 2 ^ 31) 31 = false := by
  have hlow : bit (w % 2 ^ 31) 31 = false := by rw [bit_eq_testBit, Nat.testBit_mod_two_pow]; rfl
  exact ⟨(bit_add_two_pow hlow 31).trans (by simp), hlow⟩

/-- The queue with the interrupt fields of a control word. -/
def QueuePair.withCtl (qp : QueuePair) (v : Nat) : QueuePair :=
  { qp with ien := bit v 30, coalCnt := bits v 23 16, coalTime := bits v 15 0 }

omit hserves hq in
/-- A control word that sets EN of a queue that is disabled. -/
theorem State.writeCtl_sets {v : Nat} (hen : (s.queue q).en = false) (hv : bit v 31 = true) :
    let u := s.setQueue q ((s.queue q).withCtl v)
    s.writeCtl q v = if s.nat 0x2B00 1 ≤ q then u.logBar0 5 (0x2014 + 64 * q) (v % 2 ^ 32) 0 else u.enableQueue q := by
  rw [State.writeCtl, if_pos (by simp [hen, hv])]
  rfl

omit hserves hq in
/-- A control word that clears EN of a queue that is enabled. -/
theorem State.writeCtl_clears {v : Nat} (hen : (s.queue q).en = true) (hv : bit v 31 = false) :
    s.writeCtl q v = (s.setQueue q ((s.queue q).withCtl v)).disableQueue q := by
  rw [State.writeCtl, if_neg (by simp [hen]), if_pos (by simp [hen, hv])]
  rfl

/-- EN is set and cleared by a write of the control word as it reads. -/
theorem exec_queueEnable : ∃ v, bit v 31 = true ∧ exec (.queueEnable q) s = .next (s.writeCtl q v) :=
  ⟨_, (bit_31 _).1, State.onQueue_serves hserves hq (fun s => s.writeCtl q ((s.queue q).ctl % 2 ^ 31 + 2 ^ 31))⟩

theorem exec_queueDisable : ∃ v, bit v 31 = false ∧ exec (.queueDisable q) s = .next (s.writeCtl q v) :=
  ⟨_, (bit_31 _).2, State.onQueue_serves hserves hq (fun s => s.writeCtl q ((s.queue q).ctl % 2 ^ 31))⟩

/-- EN below QUEUES starts both queues at entry 0, in the first pass. -/
theorem exec_queueEnable_starts (hen : (s.queue q).en = false) (hactive : (s.queue q).active = false) (hin : q < s.nat 0x2B00 1) :
    ∃ t, exec (.queueEnable q) s = .next t ∧ s.staysPut t ∧ (t.queue q).en = true ∧ (t.queue q).active = true ∧
      (t.queue q).sqhead = 0 ∧ (t.queue q).sqtail = 0 ∧ (t.queue q).cqhead = 0 ∧ (t.queue q).cqtail = 0 ∧ (t.queue q).phase = true := by
  obtain ⟨v, hv, hx⟩ := exec_queueEnable hserves hq
  let u := s.setQueue q ((s.queue q).withCtl v)
  have hqu : u.queue q = (s.queue q).withCtl v := s.queue_setQueue_same ..
  rw [State.writeCtl_sets hen hv, if_neg (by omega), State.enableQueue, hqu, if_neg (by simp [QueuePair.withCtl, hactive])] at hx
  refine ⟨_, hx, (State.staysPut.setQueue ..).trans (.setQueue ..), ?_⟩
  rw [State.queue_setQueue_same]
  exact ⟨rfl, rfl, rfl, rfl, rfl, rfl, rfl⟩

/-- EN at or above QUEUES is ignored. -/
theorem exec_queueEnable_beyond (hen : (s.queue q).en = false) (hout : s.nat 0x2B00 1 ≤ q) :
    ∃ t, exec (.queueEnable q) s = .next t ∧ s.staysPut t ∧ (t.queue q).en = false := by
  obtain ⟨v, hv, hx⟩ := exec_queueEnable hserves hq
  let u := s.setQueue q ((s.queue q).withCtl v)
  have htold := u.logBar0_told 5 (0x2014 + 64 * q) (v % 2 ^ 32) 0
  rw [State.writeCtl_sets hen hv, if_pos hout] at hx
  refine ⟨_, hx, (State.staysPut.setQueue ..).trans (.of_told htold), ?_⟩
  rw [htold.queue, State.queue_setQueue_same]
  exact hen

/-- A queue that is disabled has no unstarted command left. -/
theorem exec_queueDisable_stops (hen : (s.queue q).en = true) :
    ∃ t, exec (.queueDisable q) s = .next t ∧ s.staysPut t ∧ (t.queue q).en = false ∧
      ∀ f ∈ t.host.fetched, f ∈ s.host.fetched ∧ ¬(f.queue = q ∧ f.unstarted = true) := by
  obtain ⟨v, hv, hx⟩ := exec_queueDisable hserves hq
  rw [State.writeCtl_clears hen hv] at hx
  obtain ⟨hstay, hoff, hfetched⟩ := (s.setQueue q ((s.queue q).withCtl v)).disableQueue_stops q
  exact ⟨_, hx, (State.staysPut.setQueue s q _).trans hstay, hoff, hfetched⟩

/-! ### Registers (R371, R372) -/

theorem exec_queueRegisterWrite {off v : Nat} : exec (.queueRegisterWrite q off v) s = .next (s.writeQueueReg q off v) := by
  show execQueueRegisterWrite q off v s = _
  rw [execQueueRegisterWrite, State.onQueue_serves hserves hq]

omit hserves hq in
theorem clampN_eq {lo hi v : Nat} (h : lo ≤ hi) : clampN lo hi v = max lo (min hi v) := by
  rw [clampN]
  omega

/-- The bases and sizes of a queue that is disabled are written. -/
theorem exec_queueRegisterWrite_disabled (v : Nat) (hen : (s.queue q).en = false) :
    let base := bits v 63 63 * 2 ^ 63 + bits v 51 12 * 4096
    exec (.queueRegisterWrite q 0 v) s = .next (s.setQueue q { s.queue q with sqbase := base }) ∧
    exec (.queueRegisterWrite q 8 v) s = .next (s.setQueue q { s.queue q with cqbase := base }) ∧
    ∃ t, exec (.queueRegisterWrite q 0x10 v) s = .next t ∧ s.staysPut t ∧ (t.queue q).sqent = max 15 (min 4095 (bits v 11 0)) ∧
      (t.queue q).cqent = max 15 (min 4095 (bits v 27 16)) := by
  intro base
  have hx (off : Nat) := exec_queueRegisterWrite (off := off) (v := v) hserves hq
  have hbase {off : Nat} (hoff : off = 0 ∨ off = 8) : s.writeQueueReg q off v = s.setQueue q ((s.queue q).writeBase off v) := by
    rw [State.writeQueueReg, if_neg (by omega), if_pos (by omega), if_neg (by simp [hen])]
  refine ⟨(hx 0).trans (congrArg _ (hbase (.inl rfl))), (hx 8).trans (congrArg _ (hbase (.inr rfl))), ?_⟩
  let u := s.setQueue q { s.queue q with sqent := clampN 15 4095 (bits v 11 0), cqent := clampN 15 4095 (bits v 27 16) }
  have hsize : u.told (s.writeQueueReg q 0x10 v) := by
    rw [State.writeQueueReg, if_neg (by omega), if_neg (by omega), if_pos rfl, if_neg (by simp [hen]), State.writeSize]
    exact iteInduction (fun _ => .refl u) (fun _ => u.logBar0_told ..)
  refine ⟨_, hx 0x10, (State.staysPut.setQueue ..).trans (.of_told hsize), ?_⟩
  rw [hsize.queue, State.queue_setQueue_same, ← clampN_eq (by decide), ← clampN_eq (by decide)]
  exact ⟨rfl, rfl⟩

/-- The bases and sizes of a queue that is enabled stay. -/
theorem exec_queueRegisterWrite_enabled {off : Nat} (v : Nat) (hen : (s.queue q).en = true) (hoff : off ∈ [0, 4, 8, 12, 0x10]) :
    ∃ t, exec (.queueRegisterWrite q off v) s = .next t ∧ s.staysPut t ∧ t.queues = s.queues := by
  simp only [List.mem_cons, List.not_mem_nil, or_false] at hoff
  have hlog : s.writeQueueReg q off v = s.logBar0 5 (0x2000 + 64 * q + off) v 0 := by
    rw [State.writeQueueReg, if_neg (by omega)]
    by_cases hsize : off = 0x10
    · rw [if_neg (by omega), if_pos hsize, if_pos hen]
    · rw [if_pos (by omega), if_pos hen]
  have htold := s.logBar0_told 5 (0x2000 + 64 * q + off) v 0
  exact ⟨_, (exec_queueRegisterWrite hserves hq).trans (congrArg _ hlog), .of_told htold, htold.queues⟩

/-! ### Fetch and interrupts (R375, R389) -/

omit hq in
theorem exec_commandFetch_idle (hidle : s.fetches = false) : exec .commandFetch s = .next s := by
  show execCommandFetch s = _
  rw [execCommandFetch, State.whenOn_on (State.on_of_serves hserves), if_pos (by simp [hidle])]

omit hq in
/-- A fetch takes the next command of the queue whose turn it is. -/
theorem exec_commandFetch_takes (hfetch : s.fetches = true)
    (hturn : ((List.range 64).map (fun i => (s.host.rrFetch + 1 + i) % 64)).find? s.fetchable = some q)
    (htakes : s.refusesCommands = false) (hok : s.fieldOk ((s.queue q).sqbase + 128 * (s.queue q).sqhead) 128 = true)
    (hop : cmdOpcode (s.readField ((s.queue q).sqbase + 128 * (s.queue q).sqhead) 128) ∈ opcodes) :
    let head := ((s.queue q).sqhead + 1) % ((s.queue q).sqent + 1)
    ∃ t, exec .commandFetch s = .next t ∧ s.staysPut t ∧ (t.queue q).sqhead = head ∧ t.host.rrFetch = q ∧
      t.host.fetched = s.host.fetched ++ [{
        queue := q, cmd := s.readField ((s.queue q).sqbase + 128 * (s.queue q).sqhead) 128, sqhead := head
        no := s.host.fetchNo + 1 }] := by
  intro head
  let u : State := { s with host := { s.host with rrFetch := q } }
  let v := u.setQueue q { s.queue q with sqhead := head }
  let c := s.readField ((s.queue q).sqbase + 128 * (s.queue q).sqhead) 128
  have hqv : (v.queue q).sqhead = head := by rw [u.queue_setQueue_same]
  have hx : exec .commandFetch s = .next (v.enterFetched q c).2 := by
    show execCommandFetch s = _
    rw [execCommandFetch, State.whenOn_on (State.on_of_serves hserves), if_neg (by simp [hfetch]), hturn]
    have hfrom : s.fetchFrom q = if v.refusesCommands then (v.enterFetched q c).2.refuseRemoving (v.enterFetched q c).1
        else if opcodes.contains (cmdOpcode c) then (v.enterFetched q c).2
        else (v.enterFetched q c).2.refuse (v.enterFetched q c).1 stMalformed := by
      have hok' : u.fieldOk ((s.queue q).sqbase + 128 * (s.queue q).sqhead) 128 = true := hok
      exact if_neg (by simp [u, hok'])
    have hgoes : ¬v.refusesCommands = true := by
      show ¬s.refusesCommands = true
      simp [htakes]
    refine congrArg _ (hfrom.trans ?_)
    rw [if_neg hgoes, if_pos (by simpa using hop)]
  rw [State.enterFetched, hqv] at hx
  exact ⟨_, hx, ⟨rfl, rfl, rfl, rfl, rfl⟩, hqv, rfl, rfl⟩

/-- COALTIME behind the first completion that waits sends the queue's vector, and with none that waits nothing. -/
theorem exec_msixCoalesceTimeout :
    ((s.queue q).coal ≠ 0 → (s.queue q).coalTime ≠ 0 → (s.queue q).ien = true → s.host.masked.contains q = false →
      ∃ t, exec (.msixCoalesceTimeout q) s = .next t ∧ t.out = .msix q :: s.out ∧ (t.queue q).coal = 0 ∧ s.staysPut t) ∧
    ((s.queue q).coal = 0 ∨ (s.queue q).coalTime = 0 → exec (.msixCoalesceTimeout q) s = .next s) := by
  have hx : exec (.msixCoalesceTimeout q) s = .next (if (s.queue q).coal = 0 ∨ (s.queue q).coalTime = 0 then s
      else if (s.queue q).ien then (s.setQueue q { s.queue q with coal := 0 }).msix q
      else s.setQueue q { s.queue q with coal := 0 }) := by
    show execMsixCoalesceTimeout q s = _
    rw [execMsixCoalesceTimeout, State.onQueue_serves hserves hq]
  refine ⟨fun hcoal htime hien hmask => ?_, fun hnone => hx.trans (congrArg _ (if_pos hnone))⟩
  let u := s.setQueue q { s.queue q with coal := 0 }
  have hsent : u.msix q = u.emit (.msix q) := if_neg (by simpa [u] using hmask)
  rw [if_neg (by simp [hcoal, htime]), if_pos hien, hsent] at hx
  refine ⟨_, hx, rfl, ?_, rfl, rfl, rfl, rfl, rfl⟩
  show (u.queue q).coal = 0
  rw [State.queue_setQueue_same]

end

/-- Settles O48: each command of a queue is one write of BAR0, and what it does to the queue and to the commands stands in its lemma. -/
theorem hostQueuesRun : Obligations.HostQueuesRun := by
  intro s q hserves hq qp still
  obtain ⟨hfires, hnone⟩ := exec_msixCoalesceTimeout hserves hq
  refine ⟨fun v => exec_sqtailDoorbell_taken hserves hq, fun v => exec_sqtailDoorbell_beyond hserves hq, fun v hv hheld hf => ?idle,
    fun v e hv hheld hf heq hsilent hneed hsnoop hw hd hirq hlen hst hroom hok hplain =>
      exec_cqheadDoorbell_releases hserves hq hv hheld hf heq hsilent hneed hsnoop hw hd hirq hlen hst hroom hok hplain,
    exec_queueEnable_starts hserves hq, exec_queueEnable_beyond hserves hq, exec_queueDisable_stops hserves hq,
    exec_commandFetch_takes hserves, exec_commandFetch_idle hserves, hfires, hnone,
    fun v => exec_queueRegisterWrite_disabled hserves hq v, fun v off => exec_queueRegisterWrite_enabled hserves hq v⟩
  rw [exec_cqheadDoorbell hserves hq hv, State.deliver_idle (s := s.setQueue q _) hheld hf]

end Sys2Proof.Machine

/-!
PROOFS. Frames on a port (R392 to R395): what sending changes, what a frame that arrives makes of its port, and the resend of the kept
frames.
-/
namespace Sys2Proof.Machine

/-! ### Sending (R393, R396) -/

/-- `t` is `s` but for what sending frames touches: sequence numbers, credit, the kept frames and those that wait for credit. -/
def PortSt.sentOn (s t : PortSt) : Prop := ∃ n c r w, t = { s with sent := n, credit := c, replay := r, txWait := w }

theorem PortSt.sentOn.refl (s : PortSt) : s.sentOn s := ⟨_, _, _, _, rfl⟩

theorem PortSt.sentOn.trans {s t u : PortSt} : s.sentOn t → t.sentOn u → s.sentOn u := by
  rintro ⟨_, _, _, _, rfl⟩ ⟨n, c, r, w, rfl⟩
  exact ⟨n, c, r, w, rfl⟩

/-- `t` is `s` but for messages sent or waiting for a route. -/
def State.posted (s t : State) : Prop :=
  (∃ ps u ni out, t = { s with naela := { s.naela with ports := ps, unrouted := u, nextId := ni }, out := out }) ∧
    ∀ q, (s.port q).sentOn (t.port q)

namespace State.posted

variable {s t u : State}

theorem refl (s : State) : s.posted s := ⟨⟨_, _, _, _, rfl⟩, fun _ => .refl _⟩

theorem trans : s.posted t → t.posted u → s.posted u := by
  rintro ⟨⟨_, _, _, _, rfl⟩, hp⟩ ⟨⟨ps, un, ni, out, rfl⟩, hp'⟩
  exact ⟨⟨ps, un, ni, out, rfl⟩, fun q => (hp q).trans (hp' q)⟩

theorem foldl {β : Type} {f : State → β → State} (hf : ∀ (u : State) e, u.posted (f u e)) (l : List β) (s : State) :
    s.posted (l.foldl f s) := foldl_rel refl trans hf l s

/-- A port of which frames alone change. -/
theorem setPort {p : Nat} {v : PortSt} (h : (s.port p).sentOn v) : s.posted (s.setPort p v) := by
  refine ⟨⟨_, s.naela.unrouted, s.naela.nextId, s.out, rfl⟩, fun q => ?_⟩
  by_cases hq : q = p
  · rw [hq, State.port_setPort_same]
    exact h
  · rw [State.port_setPort_ne _ _ hq]
    exact .refl _

theorem emit (s : State) (o : Output) : s.posted (s.emit o) :=
  ⟨⟨s.naela.ports, s.naela.unrouted, s.naela.nextId, _, rfl⟩, fun _ => .refl _⟩

theorem messaged (h : s.posted t) : s.messaged t := by
  obtain ⟨⟨_, _, _, _, rfl⟩, -⟩ := h
  exact ⟨_, _, rfl⟩

theorem mem (h : s.posted t) : t.mem = s.mem := by obtain ⟨⟨_, _, _, _, rfl⟩, -⟩ := h; rfl
theorem row (h : s.posted t) : t.row = s.row := by obtain ⟨⟨_, _, _, _, rfl⟩, -⟩ := h; rfl

theorem expect (h : s.posted t) (q : Nat) : (t.port q).expect = (s.port q).expect := by
  obtain ⟨_, _, _, _, hq⟩ := h.2 q
  rw [hq]

theorem retry (h : s.posted t) (q : Nat) : (t.port q).retry = (s.port q).retry := by
  obtain ⟨_, _, _, _, hq⟩ := h.2 q
  rw [hq]

end State.posted

theorem State.sendFrame_posted (s : State) (p vc : Nat) (b : Bytes) : s.posted (s.sendFrame p vc b) := by
  unfold State.sendFrame
  dsimp only
  split
  · exact .setPort ⟨_, _, _, _, rfl⟩
  · exact (State.posted.setPort ⟨_, _, _, _, rfl⟩).trans (.emit ..)

theorem State.pumpPort_posted (s : State) (p : Nat) : s.posted (s.pumpPort p) :=
  (State.posted.setPort ⟨_, _, _, _, rfl⟩).trans (.foldl (fun u _ => u.sendFrame_posted ..) _ _)

theorem State.sendBytes_posted (s : State) (p vc : Nat) (b : Bytes) : s.posted (s.sendBytes p vc b) :=
  .foldl (fun u _ => u.sendFrame_posted ..) _ s

theorem State.dispatchVc_posted (s : State) (m : Bytes) (vc : Nat) : s.posted (s.dispatchVc m vc) := by
  unfold State.dispatchVc
  split
  · exact s.sendBytes_posted ..
  · split
    · exact .refl s
    · exact ⟨⟨s.naela.ports, _, s.naela.nextId, s.out, rfl⟩, fun _ => .refl _⟩

theorem State.newMessage_posted (s : State) (mtype dst window addr : Nat) (body : Bytes) :
    s.posted (s.newMessage mtype dst window addr body).2 := ⟨⟨s.naela.ports, s.naela.unrouted, _, s.out, rfl⟩, fun _ => .refl _⟩

theorem State.sendControl_posted (s : State) (mtype dst : Nat) (body : Bytes) : s.posted (s.sendControl mtype dst body) :=
  (s.newMessage_posted ..).trans (State.dispatchVc_posted ..)

/-! ### A frame arrives (R393 to R395) -/

section
variable {s : State} {p : Nat} (hon : s.on = true) (hp : p < s.portCount)

/-- A request for a resend changes the port's own record of it, and no more. -/
theorem State.askRetry_asks (s : State) (p : Nat) : let t := s.askRetry p
    (t.port p).retry = some (s.port p).expect ∧ (t.port p).expect = (s.port p).expect ∧ t.mem = s.mem ∧ t.naela.rxDone = s.naela.rxDone := by
  unfold State.askRetry
  dsimp only
  split
  · next h => exact ⟨h, rfl, rfl, rfl⟩
  · refine ⟨?_, ?_, rfl, rfl⟩
    · show ((s.setPort p _).port p).retry = _
      rw [State.port_setPort_same]
    · show ((s.setPort p _).port p).expect = _
      rw [State.port_setPort_same]

/-- What gathering a frame leaves alone: the frame expected, a resend that is asked for, memory and the row. -/
def State.framesKept (p : Nat) (s t : State) : Prop :=
  (t.port p).expect = (s.port p).expect ∧ (t.port p).retry = (s.port p).retry ∧ t.mem = s.mem ∧ t.row = s.row

theorem State.framesKept.refl (s : State) : State.framesKept p s s := ⟨rfl, rfl, rfl, rfl⟩

theorem State.framesKept.trans {s t u : State} (h : State.framesKept p s t) (h' : State.framesKept p t u) : State.framesKept p s u := by
  obtain ⟨he, hr, hm, hrow⟩ := h
  obtain ⟨he', hr', hm', hrow'⟩ := h'
  exact ⟨he'.trans he, hr'.trans hr, hm'.trans hm, hrow'.trans hrow⟩

theorem State.posted.framesKept {s t : State} (h : s.posted t) : State.framesKept p s t := ⟨h.expect p, h.retry p, h.mem, h.row⟩

theorem State.gathered_framesKept (s : State) (q vc : Nat) (m : Bytes) : State.framesKept p s (s.gathered q vc m) := by
  unfold State.gathered
  split
  · exact (s.dispatchVc_posted ..).framesKept
  · exact ⟨rfl, rfl, rfl, rfl⟩

theorem State.framesKept.setPort {s : State} {v : PortSt} (he : v.expect = (s.port p).expect) (hr : v.retry = (s.port p).retry) :
    State.framesKept p s (s.setPort p v) :=
  ⟨(congrArg PortSt.expect (State.port_setPort_same ..)).trans he, (congrArg PortSt.retry (State.port_setPort_same ..)).trans hr, rfl, rfl⟩

theorem State.gatherFrame_framesKept (s : State) (f : Bytes) : State.framesKept p s (s.gatherFrame p f) := by
  let vc := uAt f 1 1
  let pt := s.port p
  let r := cutMessages 16 (Tab.getD pt.partialMsg vc [] ++ (slice f 16 480).take (uAt f 2 2))
  let u := (s.setPort p { pt with partialMsg := Tab.set pt.partialMsg vc r.2 }).emit
    (.naela p (frameBytes 0 0 pt.sent (pt.expect + 2 ^ 32 - 1) 1 vc []))
  have hu : State.framesKept p s u :=
    State.framesKept.trans (.setPort (v := { pt with partialMsg := Tab.set pt.partialMsg vc r.2 }) rfl rfl) (State.posted.emit ..).framesKept
  have hall : State.framesKept p u (r.1.foldl (fun s m => s.gathered p vc m) u) :=
    foldl_rel State.framesKept.refl State.framesKept.trans (fun u m => u.gathered_framesKept p vc m) _ u
  exact hu.trans hall

/-- ACK and CREDIT change neither the frame expected nor a request that stands. -/
theorem PortSt.ackFrame_kept (pt : PortSt) (ack vc n : Nat) :
    ((pt.ackFrame ack).addCredit vc n).expect = pt.expect ∧ ((pt.ackFrame ack).addCredit vc n).retry = pt.retry := by
  unfold PortSt.ackFrame PortSt.addCredit
  split <;> exact ⟨rfl, rfl⟩

/-- What a frame's header brings: its ACK and CREDIT, and the frames that waited for credit go out. -/
def State.takeHeader (s : State) (p : Nat) (f : Bytes) : State :=
  (s.setPort p (((s.port p).ackFrame (if uAt f 0 1 = 2 then (uAt f 8 4 + 2 ^ 32 - 1) % 2 ^ 32 else uAt f 8 4)).addCredit
    (uAt f 14 1 % 4) (uAt f 12 2))).pumpPort p

theorem State.takeHeader_framesKept (s : State) (f : Bytes) : State.framesKept p s (s.takeHeader p f) := by
  obtain ⟨he, hr⟩ := (s.port p).ackFrame_kept (if uAt f 0 1 = 2 then (uAt f 8 4 + 2 ^ 32 - 1) % 2 ^ 32 else uAt f 8 4)
    (uAt f 14 1 % 4) (uAt f 12 2)
  exact (State.framesKept.setPort he hr).trans (State.pumpPort_posted ..).framesKept

/-- The port with the frame that was expected taken. -/
def PortSt.expectNext (pt : PortSt) : PortSt := { pt with expect := (pt.expect + 1) % 2 ^ 32, retry := none }

include hon hp in
/-- A frame that arrives, by what it is and whether its turn has come. -/
theorem exec_naelaFrame (f : Bytes) : exec (.naelaFrame p f) s = .next (
    if !s.linkUp p then s
    else if !frameOk f then s.askRetry p
    else if uAt f 0 1 = 0 then s.takeHeader p f
    else if uAt f 4 4 = (s.port p).expect then
      if uAt f 0 1 = 1 then ((s.setPort p (s.port p).expectNext).takeHeader p f).gatherFrame p f
      else ((s.setPort p (s.port p).expectNext).takeHeader p f).resendFrom p (uAt f 8 4)
    else if seqAfter (uAt f 4 4) (s.port p).expect then s.askRetry p
    else s) := by
  show execNaelaFrame p f s = _
  rw [execNaelaFrame, State.unit_on _ _ (decide_eq_true hp) hon]
  rfl

include hon hp in
/-- A message frame in its turn is taken, and the next one expected. -/
theorem exec_naelaFrame_taken {f : Bytes} (hup : s.linkUp p = true) (hok : frameOk f = true) (htype : uAt f 0 1 = 1)
    (hseq : uAt f 4 4 = (s.port p).expect) : ∃ t, exec (.naelaFrame p f) s = .next t ∧
      (t.port p).expect = ((s.port p).expect + 1) % 2 ^ 32 ∧ (t.port p).retry = none ∧ t.mem = s.mem ∧ t.row = s.row := by
  let u := s.setPort p (s.port p).expectNext
  obtain ⟨he, hr, hm, hrow⟩ := (u.takeHeader_framesKept (p := p) f).trans (State.gatherFrame_framesKept _ f)
  have hx := exec_naelaFrame hon hp f
  rw [if_neg (by simp [hup]), if_neg (by simp [hok]), if_neg (by omega), if_pos hseq, if_pos htype] at hx
  have hport : u.port p = (s.port p).expectNext := State.port_setPort_same ..
  refine ⟨_, hx, he.trans ?_, hr.trans ?_, hm, hrow⟩
  · rw [hport]; rfl
  · rw [hport]; rfl

/-! ### Kept frames go out again (R394) -/

/-- The port after kept frames have been resent at one time. -/
def PortSt.countResends (pt : PortSt) (fs : List (Nat × Bytes)) (now : Nat) : PortSt :=
  fs.foldl (fun pt e => pt.countResend e.1 now) pt

/-- Frames that had not been resent are resent once each. -/
theorem PortSt.countResends_once {fs : List (Nat × Bytes)} (now : Nat) {pt : PortSt} (hnodup : (fs.map (·.1)).Nodup)
    (hnew : ∀ e ∈ fs, ∀ r ∈ pt.resends, r.1 ≠ e.1) (hone : ∀ r ∈ pt.resends, r.2 ≤ 1) :
    (∀ r ∈ (pt.countResends fs now).resends, r.2 ≤ 1) ∧
      (pt.countResends fs now).resentAt.length ≤ pt.resentAt.length + fs.length := by
  induction fs generalizing pt with
  | nil => exact ⟨hone, le_rfl⟩
  | cons e fs ih =>
    obtain ⟨hhead, htail⟩ := List.nodup_cons.mp hnodup
    have hnone : pt.resends.find? (fun r => r.1 == e.1) = none :=
      List.find?_eq_none.mpr fun r hr => by simpa using hnew e List.mem_cons_self r hr
    have hresends : (pt.countResend e.1 now).resends = (e.1, 1) :: pt.resends.filter (fun r => r.1 != e.1) := by
      simp only [PortSt.countResend, hnone, Option.map_none, Option.getD_none, Nat.zero_add]
    have hlen : (pt.countResend e.1 now).resentAt.length ≤ pt.resentAt.length + 1 := by
      simp only [PortSt.countResend, List.length_cons]
      exact Nat.succ_le_succ (List.length_filter_le ..)
    obtain ⟨hall, hcount⟩ := ih (pt := pt.countResend e.1 now) htail
      (fun f hf r hr => by
        rw [hresends, List.mem_cons] at hr
        rcases hr with rfl | hr
        · exact fun heq => hhead (List.mem_map.mpr ⟨f, hf, heq.symm⟩)
        · exact hnew f (List.mem_cons_of_mem _ hf) r (List.mem_of_mem_filter hr))
      (fun r hr => by
        rw [hresends, List.mem_cons] at hr
        rcases hr with rfl | hr
        · exact le_rfl
        · exact hone r (List.mem_of_mem_filter hr))
    refine ⟨hall, hcount.trans ?_⟩
    rw [List.length_cons]
    omega

/-- The frames go out in their order, and their port counts them. -/
theorem State.foldl_resend (fs : List (Nat × Bytes)) (s : State) :
    let t := fs.foldl (fun s e => (s.setPort p ((s.port p).countResend e.1 s.clock)).emit (.naela p e.2)) s
    (∃ ps, t = { s with naela := { s.naela with ports := ps }, out := (fs.map (fun e => Output.naela p e.2)).reverse ++ s.out }) ∧
      t.port p = (s.port p).countResends fs s.clock := by
  induction fs generalizing s with
  | nil => exact ⟨⟨s.naela.ports, rfl⟩, rfl⟩
  | cons e fs ih =>
    let u := (s.setPort p ((s.port p).countResend e.1 s.clock)).emit (.naela p e.2)
    obtain ⟨⟨ps, ht⟩, hport⟩ := ih u
    have hu : u.port p = (s.port p).countResend e.1 s.clock := State.port_setPort_same ..
    refine ⟨⟨ps, ht.trans ?_⟩, hport.trans ?_⟩
    · rw [List.map_cons, List.reverse_cons, List.append_assoc]
      rfl
    · rw [hu]
      rfl

/-- Kept frames that have not been resent go out again in order, and the link stands (R394). -/
theorem State.resendFrom_once (s : State) (n : Nat) (hresends : (s.port p).resends = []) (hat : (s.port p).resentAt = [])
    (hnodup : ((s.port p).replay.map (·.1)).Nodup) (hlen : (s.port p).replay.length ≤ 256) :
    let fs := (s.port p).replay.filter (fun e => e.1 == n || seqAfter e.1 n)
    let t := s.resendFrom p n
    t.out = (fs.map (fun e => Output.naela p e.2)).reverse ++ s.out ∧ t.mem = s.mem ∧
      t.row = { s.row with retries := s.row.retries + fs.length } := by
  intro fs t
  let a := fs.foldl (fun s e => (s.setPort p ((s.port p).countResend e.1 s.clock)).emit (.naela p e.2)) s
  let b := a.addOb (0x2620 + p) 0x0A fs.length
  let c : State := if fs.isEmpty then b else { b with row := { b.row with retries := b.row.retries + fs.length } }
  obtain ⟨⟨ps, ha⟩, hport⟩ := State.foldl_resend (p := p) fs s
  have hfew : fs.length ≤ 256 := (List.length_filter_le ..).trans hlen
  obtain ⟨hone, hcount⟩ := PortSt.countResends_once s.clock (fs := fs) (pt := s.port p)
    (hnodup.sublist (List.filter_sublist.map _)) (by simp [hresends]) (by simp [hresends])
  have hcport : c.port p = (s.port p).countResends fs s.clock := by
    have hb : c.port p = a.port p := by
      show (if fs.isEmpty then b else _ : State).port p = _
      split <;> rfl
    exact hb.trans hport
  have ht : t = c := by
    refine if_neg ?_
    show ¬((c.port p).resends.any (fun e => decide (8 ≤ e.2)) = true ∨ 256 < (c.port p).resentAt.length)
    rw [hcport]
    rintro (hmany | hmany)
    · obtain ⟨r, hr, h8⟩ := List.any_eq_true.mp hmany
      have := hone r hr
      have := of_decide_eq_true h8
      omega
    · rw [hat, List.length_nil] at hcount
      omega
  have hc : c.out = a.out ∧ c.mem = a.mem ∧ c.row = { a.row with retries := a.row.retries + fs.length } := by
    show (if fs.isEmpty then b else _ : State).out = _ ∧ (if fs.isEmpty then b else _ : State).mem = _ ∧
      (if fs.isEmpty then b else _ : State).row = _
    cases hfs : fs with
    | nil => exact ⟨rfl, rfl, rfl⟩
    | cons e l => exact ⟨rfl, rfl, rfl⟩
  rw [ht, hc.1, hc.2.1, hc.2.2, show a = _ from ha]
  exact ⟨rfl, rfl, rfl⟩

end

/-- Settles O46: a frame goes by `exec_naelaFrame`, and a resend by `resendFrom_once`. -/
theorem framesAreTakenInOrder : Obligations.FramesAreTakenInOrder := by
  intro s p hfe hp pt
  have hon : s.on = true := by simp [State.on, hfe]
  have hx := exec_naelaFrame hon hp
  refine ⟨fun f _ hdown => ?down, fun f hup hbad => ?damaged, fun f hup hok htype hseq => exec_naelaFrame_taken hon hp hup hok htype hseq,
    fun f hup hok htype hseq hahead => ?ahead, fun f hup hok htype hseq hpast => ?past,
    fun n hup hresends hat hnodup hlen => ⟨?request, fun hacked hkept => ?timeout⟩, fun hnone => ?none⟩
  case down => exact (hx f).trans (congrArg _ (if_pos (by simp [hdown])))
  case damaged =>
    exact ⟨_, (hx f).trans (congrArg _ ((if_neg (by simp [hup])).trans (if_pos (by simp [hbad])))), s.askRetry_asks p⟩
  case ahead =>
    refine ⟨_, (hx f).trans (congrArg _ ?_), s.askRetry_asks p⟩
    rw [if_neg (by simp [hup]), if_neg (by simp [hok]), if_neg htype, if_neg hseq, if_pos hahead]
  case past =>
    refine (hx f).trans (congrArg _ ?_)
    rw [if_neg (by simp [hup]), if_neg (by simp [hok]), if_neg htype, if_neg hseq, if_neg (ne_true_of_eq_false hpast)]
  case request =>
    have hr : exec (.retryRequest p n) s = .next (s.resendFrom p n) := by
      show execRetryRequest p n s = _
      rw [execRetryRequest, State.unit_on _ _ (decide_eq_true hp) hon, if_pos hup]
    exact ⟨_, hr, s.resendFrom_once n hresends hat hnodup hlen⟩
  case timeout =>
    have hr : exec (.frameRetryTimeout p) s = .next (s.resendFrom p n) := by
      show execFrameRetryTimeout p s = _
      rw [execFrameRetryTimeout, State.unit_on _ _ (decide_eq_true hp) hon, if_pos ⟨hup, by simpa using hkept⟩, hacked]
    exact ⟨_, hr, s.resendFrom_once n hresends hat hnodup hlen⟩
  case none =>
    show execFrameRetryTimeout p s = _
    rw [execFrameRetryTimeout, State.unit_on _ _ (decide_eq_true hp) hon, if_neg]
    rintro ⟨-, hkept⟩
    rw [show (s.port p).replay = [] from hnone] at hkept
    exact nomatch hkept

end Sys2Proof.Machine

/-!
PROOFS. The states of a port (R391, R392, R408 to R410): what stands beside them, a port that fails without having carried traffic, and
training, test, lanes and signal, each by the STATE that the port is in.
-/
namespace Sys2Proof.Machine

/-! ### What stands beside the ports -/

/-- Memory, the row, the run and the cells are as before. -/
def State.rowKept (s t : State) : Prop := t.mem = s.mem ∧ t.row = s.row ∧ t.run = s.run ∧ t.cells = s.cells

theorem State.rowKept.trans {s t u : State} (h : s.rowKept t) (h' : t.rowKept u) : s.rowKept u := by
  obtain ⟨hm, hr, hn, hc⟩ := h
  obtain ⟨hm', hr', hn', hc'⟩ := h'
  exact ⟨hm'.trans hm, hr'.trans hr, hn'.trans hn, hc'.trans hc⟩

/-- What tells of a port: neither the row's work, the dictionary, the variant nor a port changes. -/
structure State.aside (s t : State) : Prop where
  kept : s.rowKept t
  obj : t.obj = s.obj
  variantG : t.flash.variantG = s.flash.variantG
  ports : t.naela.ports = s.naela.ports

namespace State.aside

variable {s t u : State}

theorem refl (s : State) : s.aside s := ⟨⟨rfl, rfl, rfl, rfl⟩, rfl, rfl, rfl⟩

theorem trans (h : s.aside t) (h' : t.aside u) : s.aside u :=
  ⟨h.kept.trans h'.kept, h'.obj.trans h.obj, h'.variantG.trans h.variantG, h'.ports.trans h.ports⟩

theorem of_told (h : s.told t) : s.aside t := by
  obtain ⟨_, _, _, _, _, _, rfl⟩ := h
  exact ⟨⟨rfl, rfl, rfl, rfl⟩, rfl, rfl, rfl⟩

theorem portCount (h : s.aside t) : t.portCount = s.portCount := by rw [State.portCount, State.portCount, h.variantG]

theorem nat (h : s.aside t) (i j : Nat) : t.nat i j = s.nat i j := State.nat_of_obj_eq h.obj i j

theorem port (h : s.aside t) (p : Nat) : t.port p = s.port p := by rw [State.port, State.port, h.ports]

theorem portState (h : s.aside t) (p : Nat) : t.portState p = s.portState p := by
  rw [State.portState, State.portState, h.portCount, h.nat]

end State.aside

theorem State.logEvent_aside (s : State) (o : Origin) (idx sub old app : Nat) : s.aside (s.logEvent o idx sub old app) :=
  .of_told (s.log_told o 10 idx sub old app app 0)

theorem State.portEvent_aside (s : State) (p old new : Nat) : s.aside (s.portEvent p old new) := s.logEvent_aside ..

theorem State.showPort_aside (s : State) (kind p : Nat) : s.aside (s.showPort kind p) := ⟨⟨rfl, rfl, rfl, rfl⟩, rfl, rfl, rfl⟩

/-! ### A lane on the defect list (R327, R359, R392) -/

theorem State.retireForStart_aside (s : State) (o : Origin) (d : Defect) : s.aside (s.retireForStart o d) := by
  let u : State :=
    { s with start := { s.start with retired := s.start.retired ++ [d] }, flash := { s.flash with owed := s.flash.owed ++ [d] } }
  have hu : s.aside u := ⟨⟨rfl, rfl, rfl, rfl⟩, rfl, rfl, rfl⟩
  exact hu.trans (.of_told (u.log_told ..))

theorem State.appendDefect_aside (s : State) (o : Origin) (d : Defect) : s.aside (s.appendDefect o d) := by
  have hput (l : List Defect) (n : Nat) :
      s.aside (({ s with flash := { s.flash with defects := l } } : State).logEvent o 0x2301 2 n (n + 1)) := by
    let u : State := { s with flash := { s.flash with defects := l } }
    have hu : s.aside u := ⟨⟨rfl, rfl, rfl, rfl⟩, rfl, rfl, rfl⟩
    exact hu.trans (u.logEvent_aside o 0x2301 2 n (n + 1))
  unfold State.appendDefect
  dsimp only
  split
  · exact s.retireForStart_aside ..
  split
  · exact hput ..
  · exact (hput ..).trans (State.retireForStart_aside ..)

theorem State.signature_variantG (s : State) (i : SigInfo) : (s.signature i).flash.variantG = s.flash.variantG := by
  obtain ⟨_, _, h⟩ := s.signature_flash i
  rw [h]

theorem State.signDefect_aside (s : State) (d : Defect) (cause action origin : Nat) : s.aside (s.signDefect d cause action origin) := by
  have hv : (s.signDefect d cause action origin).flash.variantG = s.flash.variantG := s.signature_variantG _
  have hrec := s.signDefect_recorded d cause action origin
  generalize s.signDefect d cause action origin = t at hv hrec
  obtain ⟨_, _, _, _, rfl⟩ := hrec
  exact ⟨⟨rfl, rfl, rfl, rfl⟩, rfl, hv, rfl⟩

theorem State.listLane_aside (s : State) (p lane : Nat) : s.aside (s.listLane p lane) :=
  (s.appendDefect_aside ..).trans (State.signDefect_aside ..)

/-! ### Entries of a port -/

section
variable {s : State} {p : Nat}

/-- Of a port's entries STATE alone is its state. -/
theorem State.portState_setOb {j : Nat} (v : Int) (hj : j < 256) (h : j ≠ 1) :
    (s.setOb (0x2620 + p) j v).portState p = s.portState p := by
  show (if p < s.portCount then (s.setOb (0x2620 + p) j v).nat (0x2620 + p) 1 else 0) = _
  rw [State.nat_setOb_ne _ _ (okey_ne_of_sub _ _ (by decide) hj h.symm)]
  rfl

/-- A port in which no traffic can be in flight goes to another STATE and forgets its link. -/
theorem State.portDown_idle (v : Nat) (h4 : s.portState p ≠ 4) (h5 : s.portState p ≠ 5) :
    s.portDown p v = ((s.portTo p v).setPort p (s.port p).down).setOb (0x2620 + p) 2 0 := by
  rw [State.portDown, if_neg (not_or.mpr ⟨h4, h5⟩)]

theorem State.portDown_idle_state (v : Nat) (hp : p < s.portCount) (h4 : s.portState p ≠ 4) (h5 : s.portState p ≠ 5) :
    s.rowKept (s.portDown p v) ∧ (s.portDown p v).portState p = v := by
  rw [State.portDown_idle v h4 h5]
  refine ⟨⟨rfl, rfl, rfl, rfl⟩, (State.portState_setOb 0 (by decide) (by decide)).trans ?_⟩
  exact State.portState_portTo v hp

/-- A port that fails before it is admitted (R392). -/
theorem State.failPort_idle (hp : p < s.portCount) (h4 : s.portState p ≠ 4) (h5 : s.portState p ≠ 5) :
    s.rowKept (s.failPort p) ∧ (s.failPort p).portState p = 7 := by
  have haside := s.portEvent_aside p (s.portState p) 7
  obtain ⟨hkept, hstate⟩ := State.portDown_idle_state (s := s.portEvent p (s.portState p) 7) (p := p) 7 (lt_of_lt_of_eq hp haside.portCount.symm)
    ((haside.portState p).trans_ne h4) ((haside.portState p).trans_ne h5)
  exact ⟨haside.kept.trans hkept, hstate⟩

/-! ### Presence (R391, R408, R409, R476) -/

variable (hon : s.on = true) (hp : p < s.portCount)
include hon hp

/-- A cable that comes, by what the port's STATE and ENABLE are. -/
theorem exec_portPresence (ok : Bool) : exec (.portPresence p ok) s = .next (
    if s.portState p ≠ 1 then s
    else if s.leftUntrained p then s.setPort p { s.port p with present := true }
    else if s.nat (0x2620 + p) 7 = 0 then ((s.setPort p { s.port p with present := true }).showPort 2 p).portEvent p 1 1
    else ((s.setPort p { present := true }).portTo p (if ok then 2 else 8)).portEvent p 1 (if ok then 2 else 8)) := by
  show execPortPresence p ok s = _
  rw [execPortPresence, State.unit_on _ _ (decide_eq_true hp) hon]

/-- An enabled port begins to train, or finds an unsuitable cable. -/
theorem exec_portPresence_trains (ok : Bool) (hst : s.portState p = 1) (hleft : s.leftUntrained p = false)
    (hen : s.nat (0x2620 + p) 7 ≠ 0) : ∃ t, exec (.portPresence p ok) s = .next t ∧ s.rowKept t ∧
      t.portState p = (if ok then 2 else 8) ∧ t.port p = { present := true } := by
  have hx := exec_portPresence hon hp ok
  rw [if_neg (by omega), if_neg (by simp [hleft]), if_neg hen] at hx
  let u := (s.setPort p { present := true }).portTo p (if ok then 2 else 8)
  have haside := u.portEvent_aside p 1 (if ok then 2 else 8)
  have hkept : s.rowKept u := ⟨rfl, rfl, rfl, rfl⟩
  refine ⟨_, hx, hkept.trans haside.kept, ?_, ?_⟩
  · rw [haside.portState]
    exact State.portState_portTo _ hp
  · rw [haside.port]
    exact State.port_setPort_same ..

omit hon hp in
/-- A message about a disabled port shows. -/
theorem Panel.show_disabled (n : Panel) (p : Nat) : (n.show 2 p).portMsg = some (2, p) := by
  unfold Panel.show
  split <;> rfl

/-- A disabled port shows a message, and stays. -/
theorem exec_portPresence_disabled (ok : Bool) (hst : s.portState p = 1) (hleft : s.leftUntrained p = false)
    (hen : s.nat (0x2620 + p) 7 = 0) : ∃ t, exec (.portPresence p ok) s = .next t ∧ s.rowKept t ∧
      t.portState p = 1 ∧ t.panel.portMsg = some (2, p) := by
  have hx := exec_portPresence hon hp ok
  rw [if_neg (by omega), if_neg (by simp [hleft]), if_pos hen] at hx
  let u := (s.setPort p { s.port p with present := true }).showPort 2 p
  have htold : u.told (u.portEvent p 1 1) := u.log_told ..
  have hkept : s.rowKept u := ⟨rfl, rfl, rfl, rfl⟩
  refine ⟨_, hx, hkept.trans (State.aside.of_told htold).kept, ((State.aside.of_told htold).portState p).trans hst, ?_⟩
  rw [htold.panel]
  exact s.panel.show_disabled p

omit hon hp in
/-- A port whose cable is gone, with nothing known of its peer. -/
theorem State.forgets_peer (s : State) (p : Nat) :
    let t := ((((s.setPort p {}).setOb (0x2620 + p) 3 0).setOb (0x2620 + p) 4 0).setOb (0x2620 + p) 5 0).setOb (0x2620 + p) 6 0
    s.rowKept t ∧ t.portState p = s.portState p ∧ t.port p = {} ∧ t.nat (0x2620 + p) 6 = 0 := by
  refine ⟨⟨rfl, rfl, rfl, rfl⟩, ?_, s.port_setPort_same p {}, State.nat_setOb_same _ _ _ 0⟩
  rw [State.portState_setOb _ (by decide) (by decide), State.portState_setOb _ (by decide) (by decide),
    State.portState_setOb _ (by decide) (by decide), State.portState_setOb _ (by decide) (by decide)]
  rfl

/-- A cable that carries no traffic is removed. -/
theorem exec_presenceDeassert_idle (h4 : s.portState p ≠ 4) (h5 : s.portState p ≠ 5) :
    ∃ t, exec (.presenceDeassert p) s = .next t ∧ s.rowKept t ∧ t.portState p = 1 ∧ t.port p = {} ∧ t.nat (0x2620 + p) 6 = 0 := by
  let a := if s.portState p = 4 ∨ s.portState p = 5 ∨ s.portState p = 7 ∨ s.portState p = 8 then s.showPort 3 p else s
  let b := if s.portState p = 1 then a else (a.portDown p 1).portEvent p (s.portState p) 1
  have ha : s.aside a := iteInduction (fun _ => s.showPort_aside 3 p) (fun _ => .refl s)
  have hb : s.rowKept b ∧ b.portState p = 1 := by
    refine iteInduction (motive := fun b : State => s.rowKept b ∧ b.portState p = 1)
      (fun h1 => ⟨ha.kept, (ha.portState p).trans h1⟩) (fun _ => ?_)
    obtain ⟨hkept, hstate⟩ := State.portDown_idle_state (s := a) (p := p) 1 (lt_of_lt_of_eq hp ha.portCount.symm)
      ((ha.portState p).trans_ne h4) ((ha.portState p).trans_ne h5)
    have hevent := (a.portDown p 1).portEvent_aside p (s.portState p) 1
    exact ⟨(ha.kept.trans hkept).trans hevent.kept, (hevent.portState p).trans hstate⟩
  have hx : exec (.presenceDeassert p) s =
      .next (((((b.setPort p {}).setOb (0x2620 + p) 3 0).setOb (0x2620 + p) 4 0).setOb (0x2620 + p) 5 0).setOb (0x2620 + p) 6 0) := by
    show execPresenceDeassert p s = _
    rw [execPresenceDeassert, State.unit_on _ _ (decide_eq_true hp) hon]
  obtain ⟨hkept, hstate, hport, hq⟩ := b.forgets_peer p
  exact ⟨_, hx, hb.1.trans hkept, hstate.trans hb.2, hport, hq⟩

/-! ### Training and the link test (R392, R408) -/

omit hon hp in
/-- A port that trains with twelve lanes holds its three groups; a lane that is not on the defect list is appended (R392). -/
theorem State.trainedTwelve_groups (s : State) (p : Nat) : ∃ u v, s.aside u ∧ s.trainedTwelve p = u.setPort p v := by
  unfold State.trainedTwelve
  dsimp only
  split
  · exact ⟨s, _, .refl s, rfl⟩
  · have hdraw : s.aside s.draw.2 := ⟨⟨rfl, rfl, rfl, rfl⟩, rfl, rfl, rfl⟩
    exact ⟨_, _, hdraw.trans (s.draw.2.listLane_aside p (s.draw.1 % 16)), rfl⟩

/-- The end of training, by what came of it. -/
theorem exec_portTrained (ok : Bool) (lanes : Nat) (hst : s.portState p = 2) : exec (.portTrained p ok lanes) s = .next (
    if ok ∧ (lanes = 16 ∨ lanes = 12) then
      ((if lanes = 16 then s.setPort p { s.port p with groups := 15 } else s.trainedTwelve p).setOb (0x2620 + p) 2 (lanes : Nat)).portTo p 3
    else s.failPort p) := by
  show execPortTrained p ok lanes s = _
  rw [execPortTrained, State.unit_on _ _ (decide_eq_true hp) hon, if_neg (by omega)]

/-- A port with sixteen lanes, or twelve, goes to the link test. -/
theorem exec_portTrained_tests {lanes : Nat} (hst : s.portState p = 2) (hlanes : lanes = 16 ∨ lanes = 12) :
    ∃ t, exec (.portTrained p true lanes) s = .next t ∧ s.rowKept t ∧ t.portState p = 3 ∧ t.nat (0x2620 + p) 2 = lanes := by
  have hx := exec_portTrained hon hp true lanes hst
  rw [if_pos ⟨rfl, hlanes⟩] at hx
  have hgroups : ∃ u v, s.aside u ∧
      (if lanes = 16 then s.setPort p { s.port p with groups := 15 } else s.trainedTwelve p) = u.setPort p v :=
    iteInduction (motive := fun t : State => ∃ u v, s.aside u ∧ t = u.setPort p v) (fun _ => ⟨s, _, .refl s, rfl⟩)
      (fun _ => s.trainedTwelve_groups p)
  obtain ⟨u, v, hu, hset⟩ := hgroups
  rw [hset] at hx
  refine ⟨_, hx, hu.kept.trans ⟨rfl, rfl, rfl, rfl⟩, ?_, ?_⟩
  · exact State.portState_portTo 3 (s := (u.setPort p v).setOb (0x2620 + p) 2 (lanes : Nat)) (lt_of_lt_of_eq hp hu.portCount.symm)
  · exact (State.nat_setOb_ne _ _ (okey_ne_of_sub _ _ (by decide) (by decide) (by decide))).trans (State.nat_setOb_same ..)

/-- Training that fails leads to STATE 7. -/
theorem exec_portTrained_fails (lanes : Nat) (hst : s.portState p = 2) :
    ∃ t, exec (.portTrained p false lanes) s = .next t ∧ s.rowKept t ∧ t.portState p = 7 := by
  have hx := exec_portTrained hon hp false lanes hst
  rw [if_neg (by simp)] at hx
  exact ⟨_, hx, State.failPort_idle hp (by omega) (by omega)⟩

omit hon hp in
/-- With no NEGOTIATE of the peer there is nothing to judge. -/
theorem State.judgePort_none (h : (s.port p).negotiated = none) : s.judgePort p = s := by
  unfold State.judgePort
  dsimp only
  rw [h]

/-- A link test that has passed sends this module's NEGOTIATE, and waits for the peer's. -/
theorem exec_linkTestDone_passed (hst : s.portState p = 3) (hnone : (s.port p).negotiated = none) :
    ∃ t, exec (.linkTestDone p true) s = .next t ∧ s.rowKept t ∧ t.portState p = 3 ∧ (t.port p).tested = true := by
  let u := s.setPort p { s.port p with tested := true }
  let r := u.newMessage 0x14 0xFFFF 0 0 (u.negotiateBytes p)
  let t := r.2.sendBytes p 0 r.1.bytes
  have hpost : u.posted t := (u.newMessage_posted ..).trans (State.sendBytes_posted ..)
  obtain ⟨_, _, _, _, hport⟩ := hpost.2 p
  rw [s.port_setPort_same] at hport
  have hx : exec (.linkTestDone p true) s = .next (t.judgePort p) := by
    show execLinkTestDone p true s = _
    rw [execLinkTestDone, State.unit_on _ _ (decide_eq_true hp) hon, if_neg (by omega), if_pos rfl]
  rw [State.judgePort_none (by rw [hport]; exact hnone)] at hx
  have hrun : t.run = s.run := by obtain ⟨_, _, h⟩ := hpost.messaged; rw [h]; rfl
  refine ⟨t, hx, ⟨hpost.mem, hpost.row, hrun, hpost.messaged.cells⟩, ?_, ?_⟩
  · rw [hpost.messaged.portState]
    exact hst
  · rw [hport]

/-- A link test that fails leads to STATE 7. -/
theorem exec_linkTestDone_failed (hst : s.portState p = 3) :
    ∃ t, exec (.linkTestDone p false) s = .next t ∧ s.rowKept t ∧ t.portState p = 7 := by
  have hx : exec (.linkTestDone p false) s = .next (s.failPort p) := by
    show execLinkTestDone p false s = _
    rw [execLinkTestDone, State.unit_on _ _ (decide_eq_true hp) hon, if_neg (by omega), if_neg (by simp)]
  exact ⟨_, hx, State.failPort_idle hp (by omega) (by omega)⟩

/-! ### Lanes, signal and drain (R392, R409, R410) -/

/-- The group of a lane that fails is due to be dropped. -/
theorem exec_laneFailure {lane : Nat} (hlane : lane < 16) : ∃ t, exec (.laneFailure p lane) s = .next t ∧ s.rowKept t ∧
    lane ∈ (t.port p).dropDue ∧ t.portState p = s.portState p := by
  have hx : exec (.laneFailure p lane) s = .next (s.failLane p lane) := by
    show execLaneFailure p lane s = _
    rw [execLaneFailure, State.unit_on _ _ (by simp [hp, hlane]) hon]
  by_cases hdue : (s.port p).dropDue.contains lane = true
  · have hstays : s.failLane p lane = s := if_pos hdue
    exact ⟨s, hx.trans (congrArg _ hstays), ⟨rfl, rfl, rfl, rfl⟩, by simpa using hdue, rfl⟩
  · have hlisted : s.failLane p lane =
        (s.listLane p lane).setPort p { s.port p with dropDue := (s.port p).dropDue ++ [lane] } := if_neg hdue
    have haside := s.listLane_aside p lane
    refine ⟨_, hx.trans (congrArg _ hlisted), haside.kept.trans ⟨rfl, rfl, rfl, rfl⟩, ?_, haside.portState p⟩
    rw [State.port_setPort_same]
    simp

/-- Lane groups that report loss of signal, at a port in training, in test or with traffic. -/
theorem exec_lossOfSignal {g : Nat} (hg : g < 16) (hst : s.portState p = 2 ∨ s.portState p = 3 ∨ s.portState p = 4 ∨ s.portState p = 5) :
    let up := (s.port p).groups &&& (15 - g)
    ∃ u, s.aside u ∧ exec (.lossOfSignal p g) s = .next (
      if popcount 4 up < 3 then u.failPort p
      else (u.setPort p { s.port p with groups := up }).setOb (0x2620 + p) 2 (if up = 15 then 16 else 12)) := by
  refine ⟨if g = 15 ∧ (s.portState p = 4 ∨ s.portState p = 5 ∨ s.portState p = 7 ∨ s.portState p = 8) then s.showPort 3 p else s,
    iteInduction (fun _ => s.showPort_aside 3 p) (fun _ => .refl s), ?_⟩
  show execLossOfSignal p g s = _
  rw [execLossOfSignal, State.unit_on _ _ (by simp [hp, hg]) hon, if_pos hst]

/-- A port with three lane groups left stays in its STATE. -/
theorem exec_lossOfSignal_stays {g : Nat} (hg : g < 16)
    (hst : s.portState p = 2 ∨ s.portState p = 3 ∨ s.portState p = 4 ∨ s.portState p = 5)
    (hleft : 3 ≤ popcount 4 ((s.port p).groups &&& (15 - g))) : ∃ t, exec (.lossOfSignal p g) s = .next t ∧ s.rowKept t ∧
      t.portState p = s.portState p ∧ (t.port p).groups = (s.port p).groups &&& (15 - g) := by
  obtain ⟨u, hu, hx⟩ := exec_lossOfSignal hon hp hg hst
  rw [if_neg (by omega)] at hx
  refine ⟨_, hx, hu.kept.trans ⟨rfl, rfl, rfl, rfl⟩, ?_, ?_⟩
  · exact (State.portState_setOb _ (by decide) (by decide)).trans (hu.portState p)
  · exact congrArg PortSt.groups (u.port_setPort_same p _)

/-- A port in training or test with fewer groups fails. -/
theorem exec_lossOfSignal_fails {g : Nat} (hg : g < 16) (hst : s.portState p = 2 ∨ s.portState p = 3)
    (hlost : popcount 4 ((s.port p).groups &&& (15 - g)) < 3) :
    ∃ t, exec (.lossOfSignal p g) s = .next t ∧ s.rowKept t ∧ t.portState p = 7 := by
  obtain ⟨u, hu, hx⟩ := exec_lossOfSignal hon hp hg (by omega)
  rw [if_pos hlost] at hx
  have hstate := hu.portState p
  obtain ⟨hkept, hfailed⟩ := State.failPort_idle (s := u) (p := p) (lt_of_lt_of_eq hp hu.portCount.symm) (by omega) (by omega)
  exact ⟨_, hx, hu.kept.trans hkept, hfailed⟩

/-- A drain ends once no message that crossed the port waits for its acknowledgement. -/
theorem exec_quiesceDrained : exec (.quiesceDrained p) s = .next (
    if s.portState p = 5 ∧ !s.naela.sentMsgs.any (fun m => m.port == p) then s.portTo p 6 else s) := by
  show execQuiesceDrained p s = _
  rw [execQuiesceDrained, State.unit_on _ _ (decide_eq_true hp) hon]

end

/-- Settles O45: what a command of a port does is decided by the port's STATE, and nothing but the port, its entries and what tells of
it changes. -/
theorem portsChangeState : Obligations.PortsChangeState := by
  intro s p hfe hp st still
  have hon : s.on = true := by simp [State.on, hfe]
  refine ⟨fun ok => exec_portPresence_trains hon hp ok, fun ok => exec_portPresence_disabled hon hp ok,
    fun ok hst hleft => ?left, fun ok hst => ?present,
    fun hst => ⟨fun lanes => exec_portTrained_tests hon hp hst, fun lanes => exec_portTrained_fails hon hp lanes hst⟩,
    fun hst => ⟨exec_linkTestDone_passed hon hp hst, exec_linkTestDone_failed hon hp hst⟩, fun lane => exec_laneFailure hon hp,
    fun g hg => exec_lossOfSignal_stays hon hp hg, fun g hg => exec_lossOfSignal_fails hon hp hg,
    exec_presenceDeassert_idle hon hp, fun hst hnone => ?drained, fun hwaits => ?waits⟩
  case left => exact (exec_portPresence hon hp ok).trans (congrArg _ ((if_neg (not_not.mpr hst)).trans (if_pos hleft)))
  case present => exact (exec_portPresence hon hp ok).trans (congrArg _ (if_pos hst))
  case drained => exact (exec_quiesceDrained hon hp).trans (congrArg _ (if_pos ⟨hst, by simpa using hnone⟩))
  case waits =>
    refine (exec_quiesceDrained hon hp).trans (congrArg _ (if_neg ?_))
    rintro ⟨hst, hnone⟩
    rcases hwaits with hno | ⟨m, hm, hport⟩
    · exact hno hst
    · have hall : ∀ m ∈ s.naela.sentMsgs, ¬m.port = p := by simpa using hnone
      exact hall m hm hport

end Sys2Proof.Machine

/-!
PROOFS. Messages for this module (R397, R399, R402 to R407): which of them are dropped, and what each kind does once it is taken; the
messages that failed units send leave what the peers have sent alone.
-/
namespace Sys2Proof.Machine

/-! ### A message is taken (R396, R397) -/

/-- The module with other ports and messages. -/
def State.withNaela (n : NaelaSt) (s : State) : State := { s with naela := n }

section
variable {s : State} {p : Nat} {m : Bytes}

/-- With nothing gathered a message leaves no list. -/
theorem State.takeGathered_none (hrx : s.naela.rxDone = []) : s.takeGathered p m = s := by
  rw [State.takeGathered, hrx]
  rfl

/-- The module with other numbers noted of what has come from its sources. -/
def State.withIds (g : Tab Nat) (a : Tab (List Nat)) (s : State) : State :=
  { s with naela := { s.naela with gotId := g, seenAhead := a } }

theorem State.noteId_eq (s : State) (src id : Nat) : ∃ g a, s.noteId src id = s.withIds g a := ⟨_, _, rfl⟩

/-- A control message for this module whose CRC-64 disagrees is dropped. -/
theorem State.control_dropped (hrx : s.naela.rxDone = []) (hdst : msgDst m = s.moduleId) (hbad : msgCrcOk m = false)
    (f : State → State) : s.control p m f = s := by
  rw [State.control, if_neg (by simp [hdst]), if_pos (by simp [hbad]), State.takeGathered_none hrx]

/-- A control message for this module whose CRC-64 agrees takes effect, and with no message early none lands after it. -/
theorem State.control_taken (hrx : s.naela.rxDone = []) (hearly : s.naela.early = []) (hdst : msgDst m = s.moduleId)
    (hok : msgCrcOk m = true) (f : State → State) :
    ∃ g a, s.control p m f = f (s.withIds g a) := by
  obtain ⟨g, a, hnote⟩ := s.noteId_eq (msgSrc m) (msgId m)
  refine ⟨g, a, ?_⟩
  have htake : s.takeControl p m = s.noteId (msgSrc m) (msgId m) := by
    rw [State.takeControl, State.takeGathered_none hrx, if_pos hdst]
  rw [State.control, if_neg (by simp [hdst]), if_neg (by simp [hok]), htake, hnote, hearly]
  rfl

/-- No attempt comes before itself. -/
theorem beforeAttempt_self (a : Nat × Nat) : beforeAttempt a a = false := by simp [beforeAttempt]

/-- A window message or partial sum that comes in its order lands at once, and no message waits for it. -/
theorem State.arriveKept_lands (hrx : s.naela.rxDone = []) (hearly : s.naela.early = []) (hdst : msgDst m = s.moduleId)
    (hok : msgCrcOk m = true) (hnew : s.tookId (msgSrc m) (msgId m) = false) (hnext : s.nextInOrder (msgSrc m) (msgId m) = true) :
    ∃ n, n.ident = s.naela.ident ∧ s.arriveKept p m = (s.withNaela n).landMessage p m := by
  let u : State := { s with naela := { s.naela with
    early := [(p, m)], crcBad := Tab.erase s.naela.crcBad (msgSrc m * 2 ^ 32 + msgId m) } }
  let v : State := { u with naela := { u.naela with early := [] } }
  have hinorder : u.nextInOrder (msgSrc m) (msgId m) = true := hnext
  have holder : u.olderEarly m = false := by simp [State.olderEarly, u, beforeAttempt_self]
  have hdrain : u.drainEarly (msgSrc m) false 1 = (v.noteId (msgSrc m) (msgId m)).landMessage p m := by
    simp only [State.drainEarly, u, v, List.filter_cons, beq_self_eq_true, if_true, List.filter_nil, List.foldl_cons, List.foldl_nil,
      Bool.false_or, List.erase_cons_head]
    exact if_pos hinorder
  have harrive : s.arriveKept p m = u.drainEarly (msgSrc m) false 1 := by
    rw [State.arriveKept, State.takeGathered_none hrx, if_neg (by simp [hdst]), if_neg (by simp [hok]), if_neg (by simp [hnew]),
      hearly, if_neg (by simp)]
    show u.drainEarly (msgSrc m) (u.olderEarly m) 1 = _
    rw [holder]
  exact ⟨(v.noteId (msgSrc m) (msgId m)).naela, rfl, harrive.trans hdrain⟩

end

/-! ### Landing (R402, R403) -/

/-- A line that takes a piece knows nothing of the ports. -/
theorem State.landLine_naela (s : State) (n : NaelaSt) (r : Region) (a : Nat) (d : Bytes) :
    (s.withNaela n).landLine r a d = (s.landLine r a d).map (State.withNaela n) := by
  let logged (t : State) : Prop := t.hbm.log.any (fun e => e.1 == a / 64 * 64) = true
  let full (t : State) : Prop := t.logCapacity (sliceOf (a / 64 * 64)) ≤ t.logCount (sliceOf (a / 64 * 64))
  by_cases h1 : r.attr = 1
  · by_cases hlog : logged s
    · have hland (t : State) (ht : logged t) : t.landLine r a d = _ := (if_pos h1).trans (if_pos ht)
      rw [hland s hlog, hland (s.withNaela n) hlog]
      rfl
    by_cases hfull : full s
    · have hland (t : State) (ht : ¬logged t) (hf : full t) : t.landLine r a d = _ := (if_pos h1).trans ((if_neg ht).trans (if_pos hf))
      rw [hland s hlog hfull, hland (s.withNaela n) hlog hfull]
      rfl
    · have hland (t : State) (ht : ¬logged t) (hf : ¬full t) : t.landLine r a d = _ := (if_pos h1).trans ((if_neg ht).trans (if_neg hf))
      rw [hland s hlog hfull, hland (s.withNaela n) hlog hfull]
      rfl
  by_cases h2 : r.attr = 2
  · have hland (t : State) : t.landLine r a d = _ := (if_neg h1).trans (if_pos h2)
    rw [hland, hland]
    by_cases hw : s.hbm.written.contains (a / 64 * 64) = true
    · rw [if_pos hw, if_pos (show (s.withNaela n).hbm.written.contains (a / 64 * 64) = true from hw)]
      rfl
    · rw [if_neg hw, if_neg (show ¬(s.withNaela n).hbm.written.contains (a / 64 * 64) = true from hw)]
      rfl
  · have hland (t : State) : t.landLine r a d = _ := (if_neg h1).trans (if_neg h2)
    rw [hland, hland]
    rfl

/-- A write of the row knows nothing of the ports. -/
theorem State.writeHbmLine_naela (s : State) (n : NaelaSt) (r : Region) (a : Nat) (d : Bytes) :
    (s.withNaela n).writeHbmLine r a d = (s.writeHbmLine r a d).map (State.withNaela n) := by
  let poisoned (t : State) : Prop := (t.hbm.poisoned.contains (t.rowAt (a / 64 * 64)) && !(d.length == 64)) = true
  by_cases hpoison : poisoned s
  · have hline (t : State) (ht : poisoned t) : t.writeHbmLine r a d = _ := if_pos ht
    rw [hline s hpoison, hline (s.withNaela n) hpoison]
    rfl
  · let u : State := { s with hbm := s.touchedLine r (a / 64 * 64) (d.length == 64) }
    have h : s.writeHbmLine r a d = u.landLine r a d := if_neg hpoison
    have hn : (s.withNaela n).writeHbmLine r a d = (u.withNaela n).landLine r a d := if_neg hpoison
    rw [h, hn, State.landLine_naela]

theorem State.landPieces_naela (rs : List Region) (n : NaelaSt) (ps : List (Nat × Bytes)) (s : State) :
    State.landPieces rs (s.withNaela n) ps = (State.landPieces rs s ps).map (State.withNaela n) := by
  induction ps generalizing s with
  | nil => rfl
  | cons e ps ih =>
    obtain ⟨a, d⟩ := e
    rw [State.landPieces, State.landPieces]
    cases regionAt rs a with
    | none => rfl
    | some r =>
      dsimp only
      rw [s.writeHbmLine_naela n]
      cases s.writeHbmLine r a d with
      | error e => rfl
      | ok u => exact ih u

theorem State.landBody_naela (s : State) (n : NaelaSt) (a : Nat) (body : Bytes) :
    (s.withNaela n).landBody a body = (s.landBody a body).map (State.withNaela n) := by
  let rs := match s.runPattern with
    | some p => p.regions
    | none => []
  let ps := pieces (body.length / 64 + 2) a body
  by_cases hout : !s.hbmOk a body.length ∨ !ps.all (fun p => (regionAt rs p.1).isSome)
  · have h : s.landBody a body = .error (.fault .address) := if_pos hout
    have hn : (s.withNaela n).landBody a body = .error (.fault .address) := if_pos hout
    rw [h, hn]
    rfl
  · have h : s.landBody a body = State.landPieces rs s ps := if_neg hout
    have hn : (s.withNaela n).landBody a body = State.landPieces rs (s.withNaela n) ps := if_neg hout
    rw [h, hn, State.landPieces_naela]

/-! ### Landing leaves the row's own record -/

theorem State.landLine_row (s : State) (r : Region) (a : Nat) (d : Bytes) : okOnly (fun u => u.row = s.row) (s.landLine r a d) := by
  have hkept (c : Prop) [Decidable c] (v : State) (hv : v.row = s.row) : (if c then s else v).row = s.row := by
    split
    · rfl
    · exact hv
  exact .ite (.ite (.ok rfl) (.ite .error (.ok rfl))) (.ite (.ok (hkept _ _ rfl)) (.ok rfl))

theorem State.writeHbmLine_row (s : State) (r : Region) (a : Nat) (d : Bytes) :
    okOnly (fun u => u.row = s.row) (s.writeHbmLine r a d) :=
  .ite .error (State.landLine_row { s with hbm := s.touchedLine r (a / 64 * 64) (d.length == 64) } r a d)

theorem State.landPieces_row (rs : List Region) (ps : List (Nat × Bytes)) (s : State) :
    okOnly (fun u => u.row = s.row) (State.landPieces rs s ps) := by
  induction ps generalizing s with
  | nil => exact .ok rfl
  | cons e ps ih =>
    obtain ⟨a, d⟩ := e
    rw [State.landPieces]
    cases regionAt rs a with
    | none => exact .error
    | some r =>
      have hline := s.writeHbmLine_row r a d
      dsimp only
      cases hw : s.writeHbmLine r a d with
      | error e => exact .error
      | ok v => exact fun u hu => (ih v u hu).trans (hline v hw)

theorem State.landBody_row (s : State) (a : Nat) (body : Bytes) : okOnly (fun u => u.row = s.row) (s.landBody a body) :=
  .ite .error (State.landPieces_row _ _ s)

/-! ### Data and partial sums (R402, R403) -/

section
variable {s : State} {p : Nat} {m : Bytes}

theorem State.withNaela_inGroup {n : NaelaSt} (hident : n.ident = s.naela.ident) (k : Nat) :
    (s.withNaela n).inGroup k = s.inGroup k := by
  have hid : (s.withNaela n).moduleId = s.moduleId := by
    show (n.ident.getD s.identity).1 = (s.naela.ident.getD s.identity).1
    rw [hident]
  rw [State.inGroup, State.inGroup, hid]
  rfl

/-- A row in which a message can land runs. -/
theorem State.rowStands_running {row attempt : Nat} (h : s.rowStands row attempt = 0) : s.row.phase = .running := by
  unfold State.rowStands at h
  dsimp only at h
  split at h
  · exact nomatch h
  split at h
  · exact nomatch h
  split at h
  · next hhere => exact hhere.2
  · exact nomatch h

variable (hgroup : s.inGroup (msgSrc m) = true) (hrow : s.rowStands (msgRow m) (msgAttempt m) = 0)
include hgroup hrow

/-- A member's message of the open attempt is a write of the row, and is acknowledged. -/
theorem State.landMessage_lands {u : State} (hagree : msgType m = 2 → unitsAgree (msgBody m) = true)
    (hland : s.landBody (msgAddr m) (msgBody m) = .ok u) : s.landMessage p m = u.ackMessage m := by
  rw [State.landMessage]
  rw [if_neg (by simp [hgroup]), hrow]
  dsimp only
  rw [if_neg (by rintro ⟨htype, hno⟩; simp [hagree htype] at hno), hland]
  rfl

/-- A member's partial sum that does not agree with its record fails the check PSUM. -/
theorem State.landMessage_disagrees (htype : msgType m = 2) (hno : unitsAgree (msgBody m) = false) :
    s.landMessage p m = s.raise { cause := 0x15, suspects := [.module (msgSrc m), .port p] } := by
  rw [State.landMessage]
  rw [if_neg (by simp [hgroup]), hrow]
  exact if_pos ⟨htype, by simp [hno]⟩

variable (hrx : s.naela.rxDone = []) (hearly : s.naela.early = []) (hdst : msgDst m = s.moduleId) (hok : msgCrcOk m = true)
  (hnew : s.tookId (msgSrc m) (msgId m) = false) (hnext : s.nextInOrder (msgSrc m) (msgId m) = true)
include hrx hearly hdst hok hnew hnext

/-- A member's message in its turn lands as a write of the row. -/
theorem State.arriveKept_writes {u : State} (hagree : msgType m = 2 → unitsAgree (msgBody m) = true)
    (hland : s.landBody (msgAddr m) (msgBody m) = .ok u) :
    let t := s.arriveKept p m
    t.mem = u.mem ∧ t.hbm = u.hbm ∧ t.row = s.row := by
  obtain ⟨n, hident, harrive⟩ := State.arriveKept_lands (p := p) hrx hearly hdst hok hnew hnext
  have hland' : (s.withNaela n).landBody (msgAddr m) (msgBody m) = .ok (u.withNaela n) := by
    rw [s.landBody_naela, hland]
    rfl
  have hlands := State.landMessage_lands (s := s.withNaela n) (p := p) ((State.withNaela_inGroup hident _).trans hgroup) hrow hagree hland'
  have hurow : u.row = s.row := s.landBody_row _ _ u hland
  have hack := State.sendControl_messaged (u.withNaela n) 3 (msgSrc m) (le 4 (msgId m) ++ le 4 0)
  intro t
  have ht : t = (u.withNaela n).sendControl 3 (msgSrc m) (le 4 (msgId m) ++ le 4 0) := harrive.trans hlands
  rw [ht]
  obtain ⟨_, _, hsent⟩ := hack
  rw [hsent]
  exact ⟨rfl, rfl, hurow⟩

/-- A member's partial sum that does not agree with its record fails the attempt. -/
theorem State.arriveKept_fails (htype : msgType m = 2) (hno : unitsAgree (msgBody m) = false) (hw : s.row.waste = false) :
    s.attemptFailed (s.arriveKept p m) { cause := 0x15, suspects := [.module (msgSrc m), .port p] } := by
  obtain ⟨n, hident, harrive⟩ := State.arriveKept_lands (p := p) hrx hearly hdst hok hnew hnext
  have hraise := State.landMessage_disagrees (s := s.withNaela n) (p := p) ((State.withNaela_inGroup hident _).trans hgroup) hrow htype hno
  have hfail := (s.withNaela n).raise_running { cause := 0x15, suspects := [.module (msgSrc m), .port p] } false
    (State.rowStands_running hrow) hw
  rw [harrive, hraise, hfail]
  exact ((s.withNaela n).failRow_rowTouched _).1

end

/-! ### What failing, reporting and releasing leave of the peers' messages -/

/-- The peers' barrier arrivals stand, and where nothing waited for an acknowledgement nothing does. -/
def State.heardKept (s t : State) : Prop :=
  t.naela.barUp = s.naela.barUp ∧ (s.naela.sentMsgs = [] → t.naela.sentMsgs = [])

namespace State.heardKept

variable {s t u : State}

theorem of_naela (h : t.naela = s.naela) : s.heardKept t := by
  rw [State.heardKept, h]
  exact ⟨rfl, id⟩

theorem refl (s : State) : s.heardKept s := of_naela rfl

theorem trans : s.heardKept t → t.heardKept u → s.heardKept u := fun h k => ⟨k.1.trans h.1, fun hs => k.2 (h.2 hs)⟩

theorem foldl {β : Type} {f : State → β → State} (hf : ∀ (u : State) e, u.heardKept (f u e)) (l : List β) (s : State) :
    s.heardKept (l.foldl f s) := foldl_rel refl trans hf l s

theorem of_posted (h : s.posted t) : s.heardKept t := by
  obtain ⟨⟨_, _, _, _, rfl⟩, -⟩ := h
  exact ⟨rfl, id⟩

theorem of_recorded (h : s.recorded t) : s.heardKept t := by
  obtain ⟨_, _, _, _, rfl⟩ := h
  exact refl s

end State.heardKept

theorem State.verdictUp_posted (s : State) (kind : Nat) (v : VerdictMsg) : s.posted (s.verdictUp kind v) := by
  unfold State.verdictUp
  split
  · exact s.sendControl_posted ..
  · exact .refl s

theorem State.verdictDown_posted (s : State) (kind : Nat) (v : VerdictMsg) : s.posted (s.verdictDown kind v) :=
  .foldl (fun u _ => u.sendControl_posted ..) _ s

theorem State.earlyFail_posted (s : State) (cause origin : Nat) : s.posted (s.earlyFail cause origin) := by
  unfold State.earlyFail
  split
  · exact (s.verdictUp_posted ..).trans (State.verdictDown_posted ..)
  · exact .refl s

theorem State.signature_heardKept (s : State) (i : SigInfo) : s.heardKept (s.signature i) := by
  obtain ⟨u, hu, he⟩ := s.signature_eq i
  have hcount (c : Bool) : u.heardKept (if c then u.addOb 0x2404 5 1 else u) := by
    split
    · exact .of_naela rfl
    · exact .refl u
  rw [he]
  exact ((State.heardKept.of_recorded hu).trans (hcount _)).trans (.of_recorded (State.msix_recorded ..))

theorem State.abortCells_heardKept (s : State) : s.heardKept s.abortCells :=
  ⟨rfl, fun h => by
    show s.naela.sentMsgs.filter _ = []
    rw [h]
    rfl⟩

theorem State.failRow_heardKept (s : State) (a : Alarm) : s.heardKept (s.failRow a) := by
  let u : State := { s with row := { s.row with phase := .aborted, failed := true, alarm := some a, suspects := allSuspects a } }
  let v := u.abortCells.attemptSignature a (if u.abortCells.row.attempt < 2 then 1 else 14)
  have hv : s.heardKept v :=
    ((State.heardKept.of_naela (t := u) rfl).trans u.abortCells_heardKept).trans (u.abortCells.signature_heardKept _)
  show s.heardKept (if a.cause = 0x44 then v else v.earlyFail a.cause v.moduleId)
  split
  · exact hv
  · exact hv.trans (.of_posted (v.earlyFail_posted ..))

theorem State.raise_heardKept (s : State) (a : Alarm) (lost : Bool) : s.heardKept (s.raise a lost) := by
  have hhold : s.heardKept (s.holdFail a) := by
    unfold State.holdFail
    split
    · exact .of_naela rfl
    · exact .refl s
  unfold State.raise
  split
  · split
    · exact .refl s
    · exact s.failRow_heardKept a
  · exact .of_naela rfl
  · exact .refl s
  · split
    · exact hhold
    · exact .refl s

theorem State.raiseFault_heardKept (s : State) (x y : Nat) (f : StructFault) : s.heardKept (s.raiseFault x y f) := by
  let u : State := { s with row := { s.row with phase := .aborted, failed := true, fault := some f, faultAt := (x, y) } }
  unfold State.raiseFault
  split
  · exact ((State.heardKept.of_naela (t := u) rfl).trans u.abortCells_heardKept).trans (.of_posted (State.earlyFail_posted ..))
  · exact .refl s

theorem State.reportVerdict_heardKept (s : State) : s.heardKept s.reportVerdict := by
  let u : State := { s with row := { s.row with ownDue := some s.now } }
  have hu : s.heardKept u := .of_naela rfl
  have hroot : u.heardKept ((u.knowGroup true).verdictDown 3 (u.verdictMsg 0 u.moduleId (u.nat 0x2220 2))) :=
    (State.heardKept.of_naela (t := u.knowGroup true) rfl).trans (.of_posted (State.verdictDown_posted ..))
  unfold State.reportVerdict
  split
  · exact iteInduction (fun _ => hu.trans hroot) (fun _ => hu.trans (.of_posted (u.verdictUp_posted ..)))
  · exact .refl s

theorem State.tryEnd_heardKept (s : State) (x y : Nat) : s.heardKept (s.tryEnd x y) := by
  have hend (c : CellSt) : s.heardKept (s.setCell x y c).reportVerdict :=
    (State.heardKept.of_naela (t := s.setCell x y c) rfl).trans (State.reportVerdict_heardKept _)
  unfold State.tryEnd
  dsimp only
  split
  · split
    · exact s.raise_heardKept ..
    · split
      · exact s.raiseFault_heardKept ..
      · exact hend _
  · exact .refl s

theorem State.releaseLocal_heardKept (s : State) (chan gen : Nat) : s.heardKept (s.releaseLocal chan gen) :=
  .foldl (fun u k => (State.heardKept.of_naela (t := u.setCell (k % 48) (k / 48) ((u.cell (k % 48) (k / 48)).release chan gen)) rfl).trans
    (State.tryEnd_heardKept ..)) _ s

theorem State.releaseSystem_heardKept (s : State) (chan gen : Nat) : s.heardKept (s.releaseSystem chan gen) := by
  have hsent : s.posted (s.groupChildren.foldl (fun s c => s.sendControl 0x11 c (s.barrierBytes chan gen 1)) s) :=
    .foldl (fun u _ => u.sendControl_posted ..) _ s
  unfold State.releaseSystem
  generalize s.groupChildren.foldl (fun s c => s.sendControl 0x11 c (s.barrierBytes chan gen 1)) s = u at hsent ⊢
  have hmark : u.heardKept { u with naela := { u.naela with barRel := Tab.set u.naela.barRel chan gen } } := ⟨rfl, id⟩
  exact ((State.heardKept.of_posted hsent).trans hmark).trans (State.releaseLocal_heardKept ..)

theorem State.arriveSystem_heardKept (s : State) (chan gen : Nat) : s.heardKept (s.arriveSystem chan gen) := by
  let u : State := { s with naela := { s.naela with barSent := s.naela.barSent ++ [(chan, gen)] } }
  have hu : s.heardKept u := ⟨rfl, id⟩
  have harrived : u.heardKept (match u.groupParent u.moduleId with
      | some p => u.sendControl 0x11 p (u.barrierBytes chan gen 0)
      | none => u.releaseSystem chan gen) := by
    split
    · exact .of_posted (u.sendControl_posted ..)
    · exact u.releaseSystem_heardKept ..
  exact iteInduction (fun _ => hu.trans harrived) (fun _ => .refl s)

/-! ### The commands of the messages -/

/-- The wait of the message that an ACK names ends (R397). -/
def State.endWait (m : Bytes) (s : State) : State :=
  { s with naela := { s.naela with
    sentMsgs := s.naela.sentMsgs.filter (fun e => !(e.dst == msgSrc m && e.id == uAt (msgBody m) 0 4)) } }

/-- A peer's NEGOTIATE is held by the port that tests its link (R408). -/
def State.holdNegotiate (p : Nat) (m : Bytes) (s : State) : State :=
  if s.portState p = 3 then (s.setPort p { s.port p with negotiated := some (msgBody m) }).judgePort p else s

section
variable {s : State} {p : Nat} {m : Bytes} (hon : s.on = true) (hp : p < s.portCount)
include hon hp

theorem exec_data : exec (.data p m) s = .next (s.arriveKept p m) := by
  show execData p m s = _
  rw [execData, State.unit_on _ _ (decide_eq_true hp) hon]

theorem exec_collective : exec (.collective p m) s = .next (s.arriveKept p m) := by
  show execCollective p m s = _
  rw [execCollective, State.unit_on _ _ (decide_eq_true hp) hon]

theorem exec_ack : exec (.ack p m) s = .next (s.control p m (fun u => (u.endWait m).pokeBarriers.reportVerdict)) := by
  show execAck p m s = _
  rw [execAck, State.unit_on _ _ (decide_eq_true hp) hon]
  rfl

theorem exec_barrier : exec (.barrier p m) s = .next (s.control p m (fun u => u.takeBarrier p m)) := by
  show execBarrier p m s = _
  rw [execBarrier, State.unit_on _ _ (decide_eq_true hp) hon]

theorem exec_time : exec (.time p m) s = .next (s.control p m (fun u => u.takeTime p m)) := by
  show execTime p m s = _
  rw [execTime, State.unit_on _ _ (decide_eq_true hp) hon]

theorem exec_power : exec (.power p m) s = .next (s.control p m (fun u => u.takePower m)) := by
  show execPower p m s = _
  rw [execPower, State.unit_on _ _ (decide_eq_true hp) hon]

theorem exec_negotiate : exec (.negotiate p m) s = .next (s.control p m (State.holdNegotiate p m)) := by
  show execNegotiate p m s = _
  rw [execNegotiate, State.unit_on _ _ (decide_eq_true hp) hon]
  rfl

theorem exec_route : exec (.route p m) s = .next (s.control p m (fun u => u.takeRoute p (msgBody m))) := by
  show execRoute p m s = _
  rw [execRoute, State.unit_on _ _ (decide_eq_true hp) hon]

end

/-! ### What a message that is taken does (R397, R399, R404 to R408) -/

section
variable (s : State) (p : Nat) (m : Bytes)

/-- A module alone has no system barrier to arrive at. -/
theorem State.pokeBarriers_alone (h : s.grouped = false) : s.pokeBarriers = s :=
  List.foldl_fixed' (fun ch => if_neg (by simp [State.systemChannel, h])) _

/-- In a module alone an acknowledgement ends its message's wait, and nothing had waited for it. -/
theorem State.endWait_alone (h : s.grouped = false) : (s.endWait m).pokeBarriers.reportVerdict = s.endWait m := by
  have hend : (s.endWait m).grouped = false := h
  rw [State.pokeBarriers_alone _ hend, State.reportVerdict_alone hend]

/-- An arrival at a barrier of the open row is noted. -/
theorem State.takeBarrier_arrives (hgroup : uAt (msgBody m) 0 4 = s.nat 0x2220 1) (hchan : uAt (msgBody m) 11 1 < 32)
    (hrow : s.rowStands (uAt (msgBody m) 4 6) (uAt (msgBody m) 10 1) = 0) (hkind : uAt (msgBody m) 14 1 = 0) :
    (uAt (msgBody m) 11 1, uAt (msgBody m) 12 2, msgSrc m) ∈ (s.takeBarrier p m).naela.barUp := by
  let e := (uAt (msgBody m) 11 1, uAt (msgBody m) 12 2, msgSrc m)
  let u : State := { s with naela := { s.naela with barUp := s.naela.barUp ++ [e] } }
  have hact : s.takeBarrier p m = s.actBarrier m := by
    rw [State.takeBarrier]
    dsimp only
    rw [if_neg (by simp [hgroup, hchan]), hrow]
    rfl
  have harrive : s.actBarrier m = if u.systemChannel e.1 then u.arriveSystem e.1 e.2.1 else u := by
    rw [State.actBarrier]
    dsimp only
    rw [hkind]
    rfl
  have hkept : u.heardKept (if u.systemChannel e.1 then u.arriveSystem e.1 e.2.1 else u) := by
    split
    · exact u.arriveSystem_heardKept ..
    · exact .refl u
  rw [hact, harrive, hkept.1]
  exact List.mem_append_right _ (List.mem_singleton_self e)

theorem State.feedPeers_lt {s : State} {k : Nat} (h : k ∈ s.feedPeers) : k < 1024 := by
  rw [State.feedPeers] at h
  split at h
  · exact nomatch h
  · exact List.mem_range.1 (List.mem_filter.1 h).1

/-- A feed member's plan is kept, whatever becomes of older ones, and passing it on changes the ports alone. -/
theorem State.takePower_keeps (hfeed : uAt (msgBody m) 0 4 = s.nat 0x2500 0x0C) (horigin : uAt (msgBody m) 12 2 ∈ s.feedPeers) :
    let t := s.takePower m
    t.mem = s.mem ∧ t.row = s.row ∧ ∃ plan,
      Tab.get? t.power.peerPlans (uAt (msgBody m) 4 6 * 1024 + uAt (msgBody m) 12 2) = some plan ∧
      ∀ i < 32, plan.getD i 0 = uAt (msgBody m) (16 + 2 * i) 2 := by
  let row := uAt (msgBody m) 4 6
  let origin := uAt (msgBody m) 12 2
  let plan := (List.range 32).map (fun i => uAt (msgBody m) (16 + 2 * i) 2) ++ [uAt (msgBody m) 10 1]
  let recent (k : Nat) : Bool := !(k % 1024 == origin && decide (k / 1024 + 64 ≤ row))
  let u : State := { s with power := { s.power with
    peerPlans := (Tab.set s.power.peerPlans (row * 1024 + origin) plan).filter (fun e => recent e.1) } }
  have htake : s.takePower m = if u.levelTwo && u.feedNeighbours.contains (msgSrc m) then
      (u.feedNeighbours.filter (· != msgSrc m)).foldl (fun s n => s.sendControl 0x13 n (msgBody m)) u else u :=
    if_neg (by simp [hfeed, horigin])
  have hsent : u.messaged (s.takePower m) := by
    rw [htake]
    split
    · exact .foldl (fun u _ => u.sendControl_messaged ..) _ u
    · exact .refl u
  have hrecent : recent (row * 1024 + origin) = true := by
    have hlt : origin < 1024 := State.feedPeers_lt horigin
    have hdiv : (row * 1024 + origin) / 1024 = row := by omega
    simp only [recent, hdiv]
    simp
  have hplan : Tab.get? u.power.peerPlans (row * 1024 + origin) = some plan := by
    show Tab.get? (List.filter _ _) _ = _
    rw [Tab.get?_filter _ recent, hrecent, Tab.get?_set_same]
    rfl
  obtain ⟨n, o, hpassed⟩ := hsent
  intro t
  have ht : t = { u with naela := n, out := o } := hpassed
  rw [ht]
  refine ⟨rfl, rfl, plan, hplan, fun i hi => ?_⟩
  simp [plan, hi, List.getD_eq_getElem?_getD, List.getElem?_append_left]

/-- A NEGOTIATE that comes before the link test has passed is held. -/
theorem State.holdNegotiate_untested (hstate : s.portState p = 3) (htest : (s.port p).tested = false) :
    s.holdNegotiate p m = s.setPort p { s.port p with negotiated := some (msgBody m) } := by
  have hjudge (b : Bytes) : (s.setPort p { s.port p with negotiated := some b }).judgePort p =
      s.setPort p { s.port p with negotiated := some b } := by
    rw [State.judgePort, State.port_setPort_same]
    exact if_pos (.inl (by simp [htest]))
  rw [State.holdNegotiate, if_pos hstate, hjudge]

theorem State.floodRoute_posted (b : Bytes) (q : Nat) : s.posted (s.floodRoute b q) :=
  .foldl (fun u _ => u.sendControl_posted ..) _ s

/-- Newer links of another module are kept. -/
theorem State.takeRoute_newer {b : Bytes} (hb : b ≠ []) (hother : uAt b 0 2 ≠ s.moduleId)
    (hnewer : ∀ k, Tab.get? s.naela.linkAt (uAt b 0 2) = some k → k < uAt b 8 8) :
    let t := s.takeRoute p b
    Tab.get? t.naela.linkAt (uAt b 0 2) = some (uAt b 8 8) ∧ t.mem = s.mem ∧ t.row = s.row := by
  let db := s.naela.linksNext.getD s.naela.links
  let u : State := { s with naela := { s.naela with
    linkAt := Tab.set s.naela.linkAt (uAt b 0 2) (uAt b 8 8), linksNext := some (Tab.set db (uAt b 0 2) (routeLinks b (uAt b 0 2))) } }
  have htake : s.takeRoute p b = u.floodRoute b p := by
    rw [State.takeRoute, if_neg (by simp [hb])]
    dsimp only
    rw [if_neg]
    rintro (hknown | hown)
    · cases hk : Tab.get? s.naela.linkAt (uAt b 0 2) with
      | none => simp [hk] at hknown
      | some k =>
        rw [hk] at hknown
        exact absurd (hnewer k hk) (Nat.not_lt.2 (of_decide_eq_true hknown))
    · exact hother hown
  have hflood := u.floodRoute_posted b p
  obtain ⟨⟨_, _, _, _, hsent⟩, -⟩ := hflood
  intro t
  have ht : t = _ := htake.trans hsent
  rw [ht]
  exact ⟨Tab.get?_set_same .., rfl, rfl⟩

/-- The announced master that is followed is known, with the hops to it; work stands. -/
theorem State.followMaster_follows (q pr h k : Nat) :
    let t := s.followMaster p q pr h k
    t.mem = s.mem ∧ t.row = s.row ∧ t.time.announce = some (p, q, pr, h, k) ∧ t.nat 0x2100 0x0B = k ∧ t.nat 0x2100 0x0C = h := by
  let u : State := { s with time := { s.time with announce := some (p, q, pr, h, k) } }
  let v := (u.setOb 0x2100 0x0B (k : Nat)).setOb 0x2100 0x0C (h : Nat)
  obtain ⟨hmem, -, hrow, -⟩ := v.chooseSource_sourced.workStands
  have htime : v.chooseSource.time = u.time := v.setSource_time _
  have hnat (j : Nat) (hj : j < 256) (h2 : j ≠ 2) (h3 : j ≠ 3) (h6 : j ≠ 6) : v.chooseSource.nat 0x2100 j = v.nat 0x2100 j :=
    v.setSource_nat _ hj h2 h3 h6
  have hmaster : v.nat 0x2100 0x0B = k :=
    (State.nat_setOb_ne _ _ (okey_ne_of_sub _ _ (by decide) (by decide) (by decide))).trans (u.nat_setOb_same ..)
  have hhops : v.nat 0x2100 0x0C = h := State.nat_setOb_same ..
  obtain ⟨n, o, htold⟩ := v.chooseSource.announceTime_messaged
  intro t
  have ht : t = { v.chooseSource with naela := n, out := o } := htold
  rw [ht]
  exact ⟨hmem, hrow, congrArg TimeSt.announce htime, (hnat 0x0B (by decide) (by decide) (by decide) (by decide)).trans hmaster,
    (hnat 0x0C (by decide) (by decide) (by decide) (by decide)).trans hhops⟩

/-- A module that knows no other master, and is not MASTER, follows a better one that is announced. -/
theorem State.takeTime_follows (hkind : uAt (msgBody m) 0 1 = 2) (hother : uAt (msgBody m) 4 4 ≠ ownHash) (hauto : s.nat 0x2100 9 = 0)
    (hnone : s.time.announce = none)
    (hbetter : betterMaster (claimOf (uAt (msgBody m) 1 1) (uAt (msgBody m) 2 1) (uAt (msgBody m) 4 4)) s.ownClaim = true) :
    s.takeTime p m = s.followMaster p (uAt (msgBody m) 1 1) (uAt (msgBody m) 2 1) (uAt (msgBody m) 3 1 + 1) (uAt (msgBody m) 4 4) := by
  rw [State.takeTime, hkind]
  show s.hearAnnounce .. = _
  rw [State.hearAnnounce, if_neg hother, if_neg (by simp [hauto])]
  dsimp only
  rw [hnone]
  exact if_pos (by simp [hbetter])

end

/-! ### Resends (R397) -/

section
variable {s : State} {e : SentMsg} (hsent : s.naela.sentMsgs = [e])
include hsent

/-- The only message that waits is the one that the timeout finds. -/
theorem exec_messageResendTimeout (hon : s.on = true) : exec (.messageResendTimeout e.dst e.id) s = .next (s.retryMessage e) := by
  show execMessageResendTimeout e.dst e.id s = _
  rw [execMessageResendTimeout, State.whenOn_on hon, hsent]
  simp

/-- Sent again, the message waits with one sending more, and the resend is counted. -/
theorem State.resendMessage_waits :
    let t := s.resendMessage e
    (∃ f, t.naela.sentMsgs = [f] ∧ f.sends = e.sends + 1 ∧ f.id = e.id ∧ f.dst = e.dst ∧ f.bytes = e.bytes) ∧
      t.mem = s.mem ∧ t.row = s.row ∧ t.nat 0x2600 9 = (s.addOb 0x2600 9 1).nat 0x2600 9 := by
  let port := match s.route e.dst e.id with
    | some (p, _) => p
    | none => 0xFF
  let again (f : SentMsg) : SentMsg := if f.dst = e.dst ∧ f.id = e.id then { f with sends := f.sends + 1, port := port } else f
  let v := s.addOb 0x2600 9 1
  let u : State := { v with naela := { v.naela with sentMsgs := v.naela.sentMsgs.map again } }
  have hu : u.naela.sentMsgs = [{ e with sends := e.sends + 1, port := port }] := by
    show s.naela.sentMsgs.map again = _
    rw [hsent]
    exact congrArg (fun f => [f]) (if_pos ⟨rfl, rfl⟩)
  have hposted : u.posted (s.resendMessage e) := u.dispatchVc_posted ..
  obtain ⟨⟨_, _, _, _, hgone⟩, -⟩ := hposted
  intro t
  have ht : t = _ := hgone
  rw [ht]
  exact ⟨⟨_, hu, rfl, rfl, rfl, rfl⟩, rfl, rfl, rfl⟩

/-- A message of the group that is given up fails the running row, and waits no more. -/
theorem State.deliveryFail_fails (hgroup : e.inGroup = true) (hrun : s.row.phase = .running) (hw : s.row.waste = false) :
    (s.deliveryFail e).naela.sentMsgs = [] ∧ s.attemptFailed (s.deliveryFail e) { cause := 0x31, suspects := [.port e.port] } := by
  let v : State := { s with naela := { s.naela with
    sentMsgs := s.naela.sentMsgs.filter (fun f => !(f.dst == e.dst && f.id == e.id)) } }
  let u := v.addOb 0x2600 0x0A 1
  have hnone : u.naela.sentMsgs = [] := by
    show s.naela.sentMsgs.filter _ = []
    rw [hsent]
    simp
  have hfail : s.deliveryFail e = u.failRow { cause := 0x31, suspects := [.port e.port] } :=
    (if_pos hgroup).trans (u.raise_running _ false hrun hw)
  rw [hfail]
  exact ⟨(u.failRow_heardKept _).2 hnone, (u.failRow_rowTouched _).1⟩

end

/-- Settles O47: a message that is taken is noted in its source's order, and then the lemma of its kind says what it does. -/
theorem messagesTakeEffect : Obligations.MessagesTakeEffect := by
  unfold Obligations.MessagesTakeEffect
  intro s p m hfe hp hrx
  have hon : s.on = true := by simp [State.on, hfe]
  refine ⟨fun hdst hbad => ?_, fun hdst hok hearly => ⟨fun _ hnew hnext hgroup hrow => ⟨fun u htype hland => ?_,
    fun u _ hagree hland => ?_, fun htype hno hw => ?_⟩, fun halone => ?_, fun hgroup hchan hrow hkind => ?_, fun hfeed horigin => ?_,
    fun hstate htest => ?_, fun hb hother hnewer => ?_, fun hkind hother hauto hnone hbetter => ?_⟩, fun e hsent => ⟨fun hsends => ?_,
    fun hsends hgroup hrun hw => ?_⟩⟩
  · have hdrop (f : State → State) : (.next (s.control p m f) : Result) = .next s :=
      congrArg Host.Outcome.next (State.control_dropped hrx hdst hbad f)
    exact ⟨(exec_ack hon hp).trans (hdrop _), (exec_barrier hon hp).trans (hdrop _), (exec_time hon hp).trans (hdrop _),
      (exec_power hon hp).trans (hdrop _), (exec_negotiate hon hp).trans (hdrop _), (exec_route hon hp).trans (hdrop _)⟩
  · exact ⟨_, exec_data hon hp, State.arriveKept_writes hgroup hrow hrx hearly hdst hok hnew hnext
      (fun h => absurd (htype.symm.trans h) (by decide)) hland⟩
  · exact ⟨_, exec_collective hon hp, State.arriveKept_writes hgroup hrow hrx hearly hdst hok hnew hnext (fun _ => hagree) hland⟩
  · exact ⟨_, exec_collective hon hp, State.arriveKept_fails hgroup hrow hrx hearly hdst hok hnew hnext htype hno hw⟩
  · obtain ⟨g, a, htaken⟩ := State.control_taken hrx hearly hdst hok (fun u => (u.endWait m).pokeBarriers.reportVerdict)
    refine ⟨_, exec_ack hon hp, ?_⟩
    rw [htaken, State.endWait_alone (s.withIds g a) m halone]
    exact ⟨rfl, rfl, rfl⟩
  · obtain ⟨g, a, htaken⟩ := State.control_taken hrx hearly hdst hok (fun u => u.takeBarrier p m)
    refine ⟨_, exec_barrier hon hp, ?_⟩
    rw [htaken]
    exact State.takeBarrier_arrives (s.withIds g a) p m hgroup hchan hrow hkind
  · obtain ⟨g, a, htaken⟩ := State.control_taken hrx hearly hdst hok (fun u => u.takePower m)
    have hkeeps := State.takePower_keeps (s.withIds g a) m hfeed horigin
    obtain ⟨hmem, hrow, plan, hplan, hbytes⟩ := hkeeps
    refine ⟨_, plan, exec_power hon hp, ?_⟩
    rw [htaken]
    exact ⟨hmem, hrow, hplan, hbytes⟩
  · obtain ⟨g, a, htaken⟩ := State.control_taken hrx hearly hdst hok (State.holdNegotiate p m)
    refine ⟨_, exec_negotiate hon hp, ?_⟩
    rw [htaken, State.holdNegotiate_untested (s.withIds g a) p m hstate htest]
    exact ⟨congrArg PortSt.negotiated (State.port_setPort_same ..), hstate, rfl⟩
  · obtain ⟨g, a, htaken⟩ := State.control_taken hrx hearly hdst hok (fun u => u.takeRoute p (msgBody m))
    refine ⟨_, exec_route hon hp, ?_⟩
    rw [htaken]
    exact State.takeRoute_newer (s.withIds g a) p hb hother hnewer
  · obtain ⟨g, a, htaken⟩ := State.control_taken hrx hearly hdst hok (fun u => u.takeTime p m)
    refine ⟨_, exec_time hon hp, ?_⟩
    rw [htaken, State.takeTime_follows (s.withIds g a) p m hkind hother hauto hnone hbetter]
    exact State.followMaster_follows ..
  · obtain ⟨⟨f, hwaits, hf⟩, hrest⟩ := State.resendMessage_waits hsent
    obtain ⟨hcount, hid, hdst, hbytes⟩ := hf
    refine ⟨_, f, (exec_messageResendTimeout hsent hon).trans (congrArg Host.Outcome.next (if_neg (Nat.not_le.2 hsends))), hwaits, hcount, hid,
      hdst, hbytes, hrest⟩
  · exact ⟨_, (exec_messageResendTimeout hsent hon).trans (congrArg Host.Outcome.next (if_pos hsends)),
      State.deliveryFail_fails hsent hgroup hrun hw⟩

end Sys2Proof.Machine
